-- ==== Sys2Proof/Word.lean ====
section
/-!
DEFINITION. The word types of the device and the two scaled numbers of R7.
-/
namespace Sys2Proof

/-- A byte (R6). -/
abbrev Byte := BitVec 8

/-- A bank of like things: an association list in rising order of its keys, an unlisted key at the bank's own default. -/
abbrev Bank (α : Type) := List (Nat × α)

/-- An FX32 number of R7: value m · 2^-s. -/
structure FX where
  m : Int := 0
  s : Nat := 0
deriving DecidableEq, Repr, Inhabited

/-- The value of a dictionary entry: an integer type of R7, an FX32, or bytes (STR, BLOB). -/
inductive DVal where
  | int (v : Int)
  | fx (m : Int) (s : Nat)
  | bytes (b : List Byte)
deriving DecidableEq, Repr, Inhabited

end Sys2Proof
end

