-- ==== Sys2Proof/Syntax.lean ====
section
/-!
DEFINITION. The commands of the DZB-4256: one constructor for each row of spec/opcode_table.json. Every command
carries the instant t at which it happens, a count of T64 units (7.8125 ps, R9) since power-on.
-/
namespace Sys2Proof

/-- Who reads EIC_CLAIM or writes EIC_COMPLETE (R495, R496): a core target MC0 to MC3, SC, LCE, or a PCIe function. -/
inductive Claimant where
  | core (c : Fin 6)
  | pf (f : Fin 2)
deriving DecidableEq, Repr

/-- A register of a function's configuration space (R501, R517, R528, R536; its bit places are PRESUMED, log entry 18): Vendor and
Device ID, Command, Revision ID and Class Code, BAR0, subsystem IDs, MSI-X Message Control, the AER status, mask and severity
registers, and Lane Error Status of the Secondary PCIe capability. -/
inductive CfgReg where
  | id | command | classRev | bar0Lo | bar0Hi | subsystem | capPtr | pcieCap | devCap | devCtl | linkCap | linkStatus | pmCap | pmCtl
  | msixControl | msixTable | msixPba | aerCap | aerCtl
  | uncStatus | uncMask | uncSeverity | corStatus | corMask | laneError
deriving DecidableEq, Repr

/-- A register that host software reaches: a word of BAR0 (R518), or one of configuration space (R517). -/
inductive RegOfs where
  | bar (ofs : BitVec 18)
  | cfg (r : CfgReg)
deriving DecidableEq, Repr

/-- A register of a function. -/
structure RegAddr where
  f : Fin 2
  ofs : RegOfs
deriving DecidableEq, Repr

/-- The start of a packet on a camera port: whether a start-of-transmission error was seen, and whether the header
decodes (R378). -/
structure PktHdr where
  sot : Bool
  ok : Bool
deriving DecidableEq, Repr

/-- The instant of a command at which the device may transmit on both CAN networks, and which of them acknowledge what it
transmits (R456). -/
structure TxAt where
  t : Nat
  ackA : Bool
  ackB : Bool
deriving DecidableEq, Repr

/-- How a descriptor fetch completes (R529). -/
inductive Cpl where
  | good | poisoned | unsupported | aborted
deriving DecidableEq, Repr

/-- What a PCIe lane reports (R531): its errors over the last second, and whether it has failed to regain lock in Recovery. -/
structure LaneReport where
  lane : Fin 4
  errs : Nat
  lost : Bool
deriving DecidableEq, Repr

/-- How a packet of a Scan Link lane arrived (R573): its SEQ, and whether its CRC and symbols are good. -/
structure SlkRx where
  seq : BitVec 8
  good : Bool
deriving DecidableEq, Repr

/-- One echo as it reaches the field evaluator, before suppression and selection (R212, R433): range in 0.25 mm, class,
and SIGMA in 0.5 mm. -/
structure FieldEcho where
  range : Nat
  cls : Nat
  sigma : Nat
deriving DecidableEq, Repr

/-- A result at the field evaluator (R212, R433, R434): channel, azimuth in AZ units, whether the shot is of an active cycle,
whether the record is VALID, whether it is the close of the frame's last active shot, the echoes; the predicted azimuth of the
shot, the azimuths of the channel-shots that it holds and that fired with APD_STATUS bit 1 clear, and their frame. -/
structure FieldShot where
  chan : Fin 256
  az : Int
  active : Bool
  valid : Bool
  last : Bool
  echoes : List FieldEcho
  theta : Int
  shots : List Int
  frame : BitVec 32
deriving DecidableEq, Repr

/-- One bank's part of a FIRE frame (R115): emitter, gate edge and width in 0.25 ns units, the edge counted from the last
phase marker, and the target, limit and minimum codes. -/
structure FireBank where
  bank : Fin 4
  em : Fin 32
  offset : Nat
  width : Nat
  target : BitVec 12
  lim : BitVec 12
  min : BitVec 12
deriving DecidableEq, Repr

/-- The contents of a FIELD_STAT frame (R109, R115, R288): reservoir voltages in 10 mV, VHV_IN current in mA, coil current in
Q15 of 3.0 A (taken to 12 bits), back-EMF velocity in degree/s, die sensors in 0.001 C, dissipation in mW, APD bias in 10 mV
and current in microampere, shot voltage codes, whether the watchdog has tripped, and the bridge voltage. -/
structure FieldStat where
  vres : List Nat
  iin : Nat
  coilI : Int
  velocity : Int
  dieT : List Int
  power : Nat
  apdV : Nat
  apdI : Nat
  vshot : List Nat
  wdg : Bool
  vBridge : Int
deriving DecidableEq, Repr

/-- A command or event of the block. -/
inductive Instr where
  /-- PHASE_BOUNDARY: R49 Every period P the timebase reaches a phase boundary, sends the K28.1 phase marker, and Ringmaster commits the plan of the next phase. -/
  | phaseBoundary (t : Nat) (replica : List (Fin 260 × Nat))
  /-- EYE_SLOT_BOUNDARY: R75 A new eye-safety slot begins on the slot grid and the oldest slot leaves the window sum. -/
  | eyeSlotBoundary (t : Nat) (long : Bool)
  /-- FIRE: R88 Calliope receives a FIRE frame and discards it if it breaks the one-gate rules. -/
  | fire (t : Nat) (frame : List FireBank)
  /-- GATE_PULSE: R93 At the gate offset Calliope samples VSHOT and fires the gate, or skips the shot on the limit or minimum code. -/
  | gatePulse (t : Nat) (b : Fin 4) (v : BitVec 12)
  /-- TOP_UP: R93 50 ns after a gate pulse the top-up of the shot capacitor begins. -/
  | topUp (t : Nat) (b : Fin 4)
  /-- GATE_FAULT: R89 A gate held too long or raised without command stops the bank, holds gates low and sends the device to SAFE. -/
  | gateFault (t : Nat) (em : Fin 32)
  /-- START_STAMP: R99 A monitor mid-threshold crossing gives the bank's start stamp and opens its window. -/
  | startStamp (t : Nat) (b : Fin 4) (c : Fin 32)
  /-- MONITOR_MISS: R100 No start stamp within MON_TIMEOUT keeps the window shut and delivers records with cause 0. -/
  | monitorMiss (t : Nat) (b : Fin 4)
  /-- EMITTER_FAILED: R101 After MON_MISS_LIMIT consecutive misses the emitter is declared failed. -/
  | emitterFailed (t : Nat) (em : Fin 32)
  /-- UNPLANNED_EMISSION: R102 A monitor high crossing outside any shot's interval stops the charger, inhibits firing and enters SAFE. -/
  | unplannedEmission (t : Nat) (b : Fin 4)
  /-- THRESHOLD_CROSSING: R137 A crossing of any threshold is stamped and routed as in-window, guard or discarded. -/
  | thresholdCrossing (t : Nat) (inp : Fin 260) (thr : Fin 3) (rise : Bool) (c : Fin 32)
  /-- WINDOW_CLOSE: R143 W after the start stamp the window of the bank closes and the guard interval begins. -/
  | windowClose (t : Nat) (b : Fin 4)
  /-- RX_CHANNEL_FAILED: R132 After 64 shots with the low comparator high at window open the channel is declared failed. -/
  | rxChannelFailed (t : Nat) (chan : Fin 256)
  /-- RX_CHANNEL_RESTORED: R132 After 64 shots with the low comparator low the RX_FAILED bit clears. -/
  | rxChannelRestored (t : Nat) (chan : Fin 256)
  /-- ECHO_RESULT: R165 An echo engine completes a channel-shot in echo mode and delivers pulses with range, amplitude and class. -/
  | echoResult (t : Nat) (chan : Fin 256)
  /-- COARSE_PEAKS: R176 At the close of a group's last shot the engine finalises the histogram candidate peaks. -/
  | coarsePeaks (t : Nat) (chan : Fin 256)
  /-- TRAIN_GATE_END: R201 A 1 ms train gate ends and its fit is accepted or rejected. -/
  | trainGateEnd (t : Nat) (b : Fin 4) (k : Fin 8)
  /-- ZOOM_PASS: R177 In an idle phase the engine refines each chosen peak from the retained stamps. -/
  | zoomPass (t : Nat) (chan : Fin 256)
  /-- KNOWN_ANSWER_TEST: R181 An engine completes a known-answer test and compares its signature. -/
  | knownAnswerTest (t : Nat) (eng : Fin 18) (pass : Bool)
  /-- COMPLETION_DEADLINE_MISS: R181 An engine has not signalled completion 150 ns after window close. -/
  | completionDeadlineMiss (t : Nat) (eng : Fin 18)
  /-- ENGINE_SRAM_ECC_ERROR: R181 An engine's SRAM reports an uncorrectable ECC error. -/
  | engineSramEccError (t : Nat) (eng : Fin 18) (fixed : Bool)
  /-- SPARE_READY: R183 The spare has loaded configuration and tables and begins replay from the shadow buffer. -/
  | spareReady (t : Nat) (spare : Fin 2)
  /-- REPLAYED_RESULT: R185 A replayed channel-shot result reaches the point formatter and field evaluator. -/
  | replayedResult (t : Nat) (chan : Fin 256)
  /-- HIST_SNAP: R179 Host software requests a histogram snapshot of HIST_SNAP_CH. -/
  | histSnap (t : Nat) (ep : Fin 10) (tag : BitVec 8) (v : Bool)
  /-- FIELD_EVALUATION: R433 The field evaluator tests an echo result against the active fields and decides output switch-off. -/
  | fieldEvaluation (t : Nat) (r : Fin 256)
  /-- SELECTION_INVALID: R440 An invalid selection that lasts FS_SEL_TIME puts type-8 functions in DEMAND. -/
  | selectionInvalid (t : Nat)
  /-- FIELD_EVALUATOR_KAT: R445 The field evaluator's known-answer test completes in a flyback cycle. -/
  | fieldEvaluatorKat (t : Nat) (pass : Bool)
  /-- POINT_RECORD_FORMED: R251 The point formatter forms and colours the records of a result. -/
  | pointRecordFormed (t : Nat)
  /-- WRITE_BURST: R270 A write burst of stream data is written to host memory. -/
  | writeBurst (t : Nat) (ecc : Bool)
  /-- FRAME_HEADER: R261 The frame header is written after the frame's last record and ring update. -/
  | frameHeader (t : Nat)
  /-- PT_HOLD_EXPIRY: R272 A record held longer than PT_HOLD on a full ring is discarded with the rest of its frame. -/
  | ptHoldExpiry (t : Nat)
  /-- REPLAY_HOLD_RELEASE: R264 Next-frame records held for a pending replay are released when the replay finishes. -/
  | replayHoldRelease (t : Nat)
  /-- LCE_SAMPLE_TICK: R287 Every 4 µs the LCE latches its inputs, sends K28.3 and computes its laws. -/
  | lceSampleTick (t : Nat) (late : Bool)
  /-- LCE_OUTPUT_RELEASE: R289 2.000 µs after the tick all LCE outputs take effect together. -/
  | lceOutputRelease (t : Nat) (compute : Nat)
  /-- LCE_OVERRUN: R290 Compute not complete at 1,900 ns: no outputs are sent and an overrun is counted. -/
  | lceOverrun (t : Nat)
  /-- MIR_PRI_RETRY: R309 Host software asks the LCE to test the primary for return. -/
  | mirPriRetry (t : Nat) (ep : Fin 10) (tag : BitVec 8) (v : Bool)
  /-- MIR_RESTART: R311 Host software restarts the mirror loop from mode 2 or latched mode 4. -/
  | mirRestart (t : Nat) (ep : Fin 10) (tag : BitVec 8) (v : Bool)
  /-- BRIDGE_TRIP: R111 Coil over-current or VBRG undervoltage switches the bridge off; the LCE inhibits firing. -/
  | bridgeTrip (t : Nat) (oc : Bool) (uv : Bool)
  /-- BRIDGE_REENABLE: R312 10 ms after a trip the LCE re-enables the bridge once. -/
  | bridgeReenable (t : Nat)
  /-- BACK_EMF_ESTIMATE: R112 Every 1 µs Calliope estimates mirror velocity from coil back-EMF. -/
  | backEmfEstimate (t : Nat) (vBridge : Int) (cur : Int)
  /-- MIRROR_WATCHDOG_TRIP: R112 The back-EMF watchdog trips, holds gates low and stops top-ups. -/
  | mirrorWatchdogTrip (t : Nat)
  /-- LCE_REARM: R113 Calliope receives LCE_REARM, re-enabling the bridge and re-arming the watchdog. -/
  | lceRearm (t : Nat)
  /-- MIR_BRIDGE_EN: R690 A write of MIR_BRIDGE_EN enables or switches off the mirror bridge. -/
  | mirBridgeEn (t : Nat) (ep : Fin 10) (tag : BitVec 8) (v : Bool)
  /-- COIL_RESISTANCE_ESTIMATE: R304 Every 1 ms the LCE estimates coil resistance and temperature. -/
  | coilResistanceEstimate (t : Nat)
  /-- APD_OUT_OF_REGULATION: R107 Bias out of ±1 % for 1 ms sets APD_STATUS bit 1 and forces CONF 0. -/
  | apdOutOfRegulation (t : Nat)
  /-- INJ_START: R316 Host software starts a test-signal injection. -/
  | injStart (t : Nat) (ep : Fin 10) (tag : BitVec 8) (v : Bool)
  /-- INJ_STOP: R318 Host software stops the injection. -/
  | injStop (t : Nat) (ep : Fin 10) (tag : BitVec 8) (v : Bool)
  /-- INJECTION_COMPLETE: R316 The injection ends after INJ_LEN periods. -/
  | injectionComplete (t : Nat)
  /-- ENC_EDGE: R155 An encoder edge accepted after ENC_FILTER is stamped and the mark count updated. -/
  | encEdge (t : Nat) (n : Fin 4) (rise : Bool)
  /-- FM_GATE_END: R148 A frequency-measurement gate ends and its fit is accepted or rejected. -/
  | fmGateEnd (t : Nat) (n : Fin 8)
  /-- PPS_IN_EDGE: R149 An active PPS_IN edge is stamped, accepted or counted as a glitch. -/
  | ppsInEdge (t : Nat) (rise : Bool)
  /-- PPS_ARM: R151 Host software arms one T64 load. -/
  | ppsArm (t : Nat) (ep : Fin 10) (tag : BitVec 8) (v : Bool)
  /-- PPS_LOST: R149 No accepted PPS edge within 1.2 s declares PPS lost. -/
  | ppsLost (t : Nat)
  /-- PPS_GATE_END: R149 The PPS gate ends and TB_FREQ_ERR is published if the fit is accepted. -/
  | ppsGateEnd (t : Nat)
  /-- FREQ_FALLBACK: R150 After 600 s without an accepted gate the device falls back to TB_FREQ_CORR. -/
  | freqFallback (t : Nat)
  /-- PPS_OUT_PULSE: R154 At each whole second of T64 a pulse is driven on PPS_OUT. -/
  | ppsOutPulse (t : Nat)
  /-- T64_WRAP: R12 T64 wraps from all ones to zero. -/
  | t64Wrap (t : Nat)
  /-- TB_LOCK: R134 The timebase PLL reaches lock. -/
  | tbLock (t : Nat) (die : List (Fin 8 × Int))
  /-- TB_LOSS_OF_LOCK: R134 Loss of PLL lock or reference inhibits firing and enters SAFE. -/
  | tbLossOfLock (t : Nat) (ref : Bool)
  /-- TIMEBASE_LOCK_HELD: R447 Lock held for 1 s removes the timebase SAFE cause. -/
  | timebaseLockHeld (t : Nat)
  /-- LINK_FAILED: R30 A barrier link is declared failed on lock loss, two CRC errors or 200 ns silence. -/
  | linkFailed (t : Nat) (bl : Fin 12)
  /-- SPARE_LINK_SWITCHOVER: R30 The failed link's traffic moves to the spare link of its direction. -/
  | spareLinkSwitchover (t : Nat) (bl : Fin 12)
  /-- BARRIER_CONTROL_FRAME: R116 A control frame is received, checked and acknowledged or NAKed. -/
  | barrierControlFrame (t : Nat) (bl : Fin 12) (seq : BitVec 8) (good : Bool)
  /-- BARRIER_ACK: R116 An ACK releases acknowledged frames from the replay buffer. -/
  | barrierAck (t : Nat) (bl : Fin 12) (seq : BitVec 8)
  /-- BARRIER_NAK: R116 A NAK starts retransmission from the first unacknowledged frame. -/
  | barrierNak (t : Nat) (bl : Fin 12) (seq : BitVec 8)
  /-- BARRIER_ACK_TIMEOUT: R116 No ACK within 2 µs starts retransmission. -/
  | barrierAckTimeout (t : Nat) (bl : Fin 12)
  /-- FAST_OFF: R118 A fast-off symbol switches off every output in its armed mask. -/
  | fastOff (t : Nat) (k : Fin 5)
  /-- FO_ARM: R118 An FO_ARM frame sets the output masks of the fast-off symbols. -/
  | foArm (t : Nat) (masks : List (BitVec 4))
  /-- OUT_STATE: R119 Calliope receives OUT_STATE, restarts watchdogs and switches outputs on after two requests. -/
  | outState (t : Nat) (req : BitVec 4) (tokens : List Byte)
  /-- OUT_STATE_SEND: R120 Every 50 µs the safety core sends OUT_STATE with new tokens. -/
  | outStateSend (t : Nat)
  /-- OUTPUT_WATCHDOG_EXPIRY: R120 An output watchdog that runs 1 ms switches its output off. -/
  | outputWatchdogExpiry (t : Nat) (n : Fin 4)
  /-- LCE_OUT: R110 Calliope receives LCE_OUT with duty, velocity, charge limits, bias and heater. -/
  | lceOut (t : Nat) (duty : Int) (vel : Int) (vch : List Nat) (bias : Nat) (htr : Nat)
  /-- FIELD_IO: R115 Calliope receives FIELD_IO with sequencer, excitation and loop current. -/
  | fieldIo (t : Nat) (payload : List Byte)
  /-- CFG_REQ: R115 Calliope receives a configuration request on BL4. -/
  | cfgReq (t : Nat) (payload : List Byte)
  /-- CFG_RSP: R115 The core receives a configuration response on BL9. -/
  | cfgRsp (t : Nat) (payload : List Byte)
  /-- SAFE_IN: R413 The safety core receives input states and evaluates the functions. -/
  | safeIn (t : Nat) (si : BitVec 16) (edm : BitVec 4) (so : BitVec 4)
  /-- FIELD_STAT: R115 The core receives Calliope's field status frame. -/
  | fieldStat (t : Nat) (st : FieldStat)
  /-- ADC_SAMPLE_WORD: R330 A raw sample word arrives on BL6 or BL7 and enters the filter engine. -/
  | adcSampleWord (t : Nat) (w : BitVec 32)
  /-- CHARGING_WINDOW_REOPEN: R97 After 100 ms within margin the charging window reopens. -/
  | chargingWindowReopen (t : Nat) (b : Fin 4)
  /-- ADC_SEQUENCE_START: R324 Every eighth sample tick all four sequences start and pending commits take effect. -/
  | adcSequenceStart (t : Nat)
  /-- ADC_CONVERSION: R324 A converter converts the source of its current slot. -/
  | adcConversion (t : Nat) (n : Fin 4) (code : Int)
  /-- ADC_SEQ_COMMIT: R327 Host software validates and commits a converter's staged sequence. -/
  | adcSeqCommit (t : Nat) (ep : Fin 10) (tag : BitVec 8) (n : Fin 4) (v : Bool)
  /-- REFERENCE_BUFFER_CHECK: R335 Every 100 µs the reference buffer is checked and ready set or cleared. -/
  | referenceBufferCheck (t : Nat) (uV : Nat)
  /-- EXCITATION_FAULT: R340 An excitation enters or leaves a fault state. -/
  | excitationFault (t : Nat) (n : Fin 8) (limited : Bool) (lead : Bool) (compliance : Bool)
  /-- EXC_SETTLE_END: R339 EXC_SETTLE after an excitation change ends the invalid marking. -/
  | excSettleEnd (t : Nat) (n : Fin 8)
  /-- FLT_SYNC: R366 Host software requests a synchronising reset. -/
  | fltSync (t : Nat) (ep : Fin 10) (tag : BitVec 8) (v : Bool)
  /-- SYNC_EDGE: R366 An edge on ball SYNC requests a synchronising reset. -/
  | syncEdge (t : Nat) (rise : Bool)
  /-- LOOP_READBACK_FAULT: R353 Loop readback deviation or open loop for 10 ms changes LOOP_STATUS. -/
  | loopReadbackFault (t : Nat) (n : Fin 2) (uA : Nat)
  /-- FRAME_START_PACKET: R380 A CSI frame start packet opens a camera frame and applies context parameters. -/
  | frameStartPacket (t : Nat) (port : Fin 4) (vc : Fin 16) (hdr : PktHdr)
  /-- LINE_PACKET: R390 A long packet is received as a line of the open frame. -/
  | linePacket (t : Nat) (port : Fin 4) (vc : Fin 16) (dt : Fin 64) (hdr : PktHdr) (crcOk : Bool) (pix : List Nat)
  /-- FRAME_END_PACKET: R389 A CSI frame end packet closes the camera frame. -/
  | frameEndPacket (t : Nat) (port : Fin 4) (vc : Fin 16) (hdr : PktHdr)
  /-- CAMERA_FRAME_TIMEOUT: R389 No frame end within 1.5 × CAM_FRAME_TIME closes the frame with TIMEOUT. -/
  | cameraFrameTimeout (t : Nat) (ctx : Fin 8)
  /-- PIPELINE_FRAME_DONE: R391 A pipeline finishes a frame, writes its image and takes the next waiting context. -/
  | pipelineFrameDone (t : Nat) (pipe : Fin 4)
  /-- SI_SAMPLE: R404 Every 10 µs Calliope samples and filters the safety inputs. -/
  | siSample (t : Nat) (raw : BitVec 20) (tpRead : BitVec 8) (soRead : BitVec 4)
  /-- TEST_PULSE: R406 A test-pulse source switches low for TP_WIDTH. -/
  | testPulse (t : Nat) (n : Fin 8)
  /-- DISCREPANCY_TIMEOUT: R416 The other channel not following within SF_DISC sends the function to FAULT. -/
  | discrepancyTimeout (t : Nat) (k : Fin 12)
  /-- DARK_TEST: R423 An on output is switched off through one switch for SO_DT_WIDTH. -/
  | darkTest (t : Nat) (n : Fin 4)
  /-- DARK_TEST_END: R423 The dark test ends and its readback is judged. -/
  | darkTestEnd (t : Nat) (n : Fin 4) (fell : Bool) (returned : Bool)
  /-- OUTPUT_READBACK_FAULT: R424 Readback disagreeing with the output for 1 ms is an output fault. -/
  | outputReadbackFault (t : Nat) (n : Fin 4)
  /-- CURRENT_LIMIT: R424 An output reaching its current limit switches off. -/
  | currentLimit (t : Nat) (n : Fin 4)
  /-- EDM_TIMEOUT: R424 EDM not changing within EDM_TIME is an output fault. -/
  | edmTimeout (t : Nat) (n : Fin 4)
  /-- SAFECFG_READ: R427 Every 100 ms the SAFECFG pins are read and compared with the BOOT reading. -/
  | safecfgRead (t : Nat) (pins : BitVec 8)
  /-- SAFETY_PDU: R454 A safety PDU copy is received, checked and paired. -/
  | safetyPdu (tx : TxAt) (net : Fin 2) (ident : BitVec 11) (data : List Byte)
  /-- PDU_PAIRING_TIMEOUT: R456 A good copy without a partner in 10 ms marks the other network missing. -/
  | pduPairingTimeout (t : Nat) (j : Fin 4)
  /-- RECEIVE_TIMEOUT: R457 A slot without an accepted pair for SPDU_RX_TIMEOUT times out. -/
  | receiveTimeout (t : Nat) (j : Fin 4)
  /-- SAFETY_PDU_SEND: R452 The device sends the field-state PDU on both networks. -/
  | safetyPduSend (t : Nat) (ackA : Bool) (ackB : Bool)
  /-- VERSION_PDU_SEND: R458 Every 100 ms the device sends the type-15 version PDU until negotiation completes. -/
  | versionPduSend (tx : TxAt)
  /-- SC_SELF_TEST: R445 The safety core runs its periodic self-tests. -/
  | scSelfTest (t : Nat) (pass : Bool)
  /-- REC_TRIG: R470 Host software triggers the recorder streams. -/
  | recTrig (t : Nat) (ep : Fin 10) (tag : BitVec 8) (v : Bool)
  /-- AUTO_TRIGGER: R470 No trigger within REC_AUTO of arming triggers the stream. -/
  | autoTrigger (t : Nat) (str : Fin 16)
  /-- POST_END: R473 POST ends; the capture is sealed and the stream re-arms or holds. -/
  | postEnd (t : Nat) (str : Fin 16)
  /-- ITEM_WRITE: R468 The write engine writes a stream item or drops it on a full queue. -/
  | itemWrite (t : Nat) (str : Fin 16)
  /-- KEYFRAME: R477 A changes-only stream writes a keyframe every REC_KEYFRAME. -/
  | keyframe (t : Nat) (str : Fin 16)
  /-- DIGITAL_GROUP_SAMPLE: R477 Every 10 µs the digital groups are sampled for change records. -/
  | digitalGroupSample (t : Nat)
  /-- REC_READ: R483 Host software starts readout of a capture. -/
  | recRead (t : Nat) (ep : Fin 10) (tag : BitVec 8) (v : BitVec 16)
  /-- READOUT_BLOCK: R483 The next block of a capture is sent when the ring has room. -/
  | readoutBlock (t : Nat)
  /-- REC_RELEASE: R483 Host software frees a segment and discards its capture. -/
  | recRelease (t : Nat) (ep : Fin 10) (tag : BitVec 8) (v : BitVec 8)
  /-- REC_REARM: R476 Host software takes a stream out of STOPPED. -/
  | recRearm (t : Nat) (ep : Fin 10) (tag : BitVec 8) (v : BitVec 16)
  /-- REC_MISSED_CLR: R474 Host software clears a stream's missed-trigger state. -/
  | recMissedClr (t : Nat) (ep : Fin 10) (tag : BitVec 8) (v : BitVec 16)
  /-- DRAM_CHANNEL_REMOVED: R464 A failing LPDDR5X channel is removed and streams are sealed and reallocated. -/
  | dramChannelRemoved (t : Nat) (ch : Fin 4)
  /-- EIC_EVENT: R492 An interrupt source edge or assertion pends and is counted. -/
  | eicEvent (t : Nat) (src : Fin 512)
  /-- LEVEL_WITHDRAWN: R492 A level source de-asserts before claim and is withdrawn. -/
  | levelWithdrawn (t : Nat) (src : Fin 512)
  /-- COALESCING_TIMER: R494 A group's TIME expires and the group fires. -/
  | coalescingTimer (t : Nat) (g : Fin 32)
  /-- EIC_CLAIM: R495 A read of EIC_CLAIM claims the lowest claimable source. -/
  | eicClaim (t : Nat) (who : Claimant)
  /-- EIC_COMPLETE: R496 A write of EIC_COMPLETE ends service of a source. -/
  | eicComplete (t : Nat) (who : Claimant) (src : Fin 512)
  /-- EIC_PEND_SET: R493 A write pends host sources as edge events. -/
  | eicPendSet (t : Nat) (j : Fin 16) (w : BitVec 32)
  /-- EIC_PEND_CLR: R493 A write clears pending bits. -/
  | eicPendClr (t : Nat) (j : Fin 16) (w : BitVec 32)
  /-- EIC_MASK_SET: R493 A write masks host sources. -/
  | eicMaskSet (t : Nat) (j : Fin 16) (w : BitVec 32)
  /-- EIC_MASK_CLR: R493 A write unmasks host sources, counting those pending. -/
  | eicMaskClr (t : Nat) (j : Fin 16) (w : BitVec 32)
  /-- ARBITRATION: R500 Every 0.25 µs pending events follow the routing in force. -/
  | arbitration (t : Nat)
  /-- WAKE_TIMEOUT: R502 An asleep target not woken in EIC_WAKE_TO is treated as for a non-wake source. -/
  | wakeTimeout (t : Nat) (src : Fin 512)
  /-- REDIRECT_TIMEOUT: R502 After EIC_REDIRECT_TO an event is redirected to the fallback core. -/
  | redirectTimeout (t : Nat) (src : Fin 512)
  /-- LOG_ENTRY_WRITE: R507 An entry from the staging queue is written to the log ring. -/
  | logEntryWrite (t : Nat)
  /-- EIC_FIRST_CLR: R509 A write clears EIC_FIRST and FIRST_VALID. -/
  | eicFirstClr (t : Nat) (via : Option (Fin 10 × BitVec 8))
  /-- PCI_VER_CMD: R520 Host software starts host-protocol version negotiation. -/
  | pciVerCmd (t : Nat) (v : BitVec 32)
  /-- RING_ENABLE: R528 Host software enables a DMA stream ring. -/
  | ringEnable (t : Nat) (n : Fin 32)
  /-- RING_DISABLE: R528 Host software disables a ring; the buffer in progress completes. -/
  | ringDisable (t : Nat) (n : Fin 32)
  /-- DESCRIPTOR_FETCH: R524 A descriptor fetch completes and its buffer is taken. -/
  | descriptorFetch (t : Nat) (n : Fin 32) (addr : BitVec 64) (len : BitVec 32) (w3 : BitVec 32) (ok : Cpl)
  /-- DESCRIPTOR_FETCH_TIMEOUT: R529 A fetch attempt without completion in 50 ms is retried or stops the ring. -/
  | descriptorFetchTimeout (t : Nat) (n : Fin 32)
  /-- LANE_FAILED: R531 A lane is declared failed and the link retrains narrower. -/
  | laneFailed (t : Nat) (lane : LaneReport) (reversal : Bool)
  /-- LINK_ACTIVE: R533 The link returns and staged items are delivered in order. -/
  | linkActive (t : Nat) (speed : Fin 5) (width : Fin 5)
  /-- RETRAIN_TIMEOUT: R534 The link not active within PCI_RETRAIN_MAX is down and staging is discarded. -/
  | retrainTimeout (t : Nat)
  /-- PCI_RETRAIN: R532 Host software retrains the link to the trained width. -/
  | pciRetrain (t : Nat) (v : BitVec 32)
  /-- FLR: R535 A function level reset resets PF0 or aborts the PF1 mailbox. -/
  | flr (t : Nat) (f : Fin 2)
  /-- D3HOT_ENTRY: R538 PF0 entering D3hot disables every ring. -/
  | d3hotEntry (t : Nat) (f : Fin 2)
  /-- PERST: R535 PERST# low performs a PCIE reset. -/
  | perst (t : Nat)
  /-- XIEST_OPEN: R552 An OPEN negotiates a version and opens a session. -/
  | xiestOpen (t : Nat) (ep : Fin 10) (tag : BitVec 8) (good : Bool) (lo : BitVec 16) (hi : BitVec 16)
  /-- XIEST_CLOSE: R551 A CLOSE ends the session. -/
  | xiestClose (t : Nat) (ep : Fin 10) (tag : BitVec 8) (good : Bool)
  /-- XIEST_READ: R547 A READ returns the value in force. -/
  | xiestRead (t : Nat) (ep : Fin 10) (tag : BitVec 8) (good : Bool) (num : BitVec 16) (sub : BitVec 8)
  /-- XIEST_WRITE: R545 A WRITE is checked and acknowledged or refused. -/
  | xiestWrite (t : Nat) (ep : Fin 10) (tag : BitVec 8) (good : Bool) (num : BitVec 16) (sub : BitVec 8) (val : List Byte)
  /-- XIEST_DESCRIBE: R683 A DESCRIBE returns type, access, apply, persistence and default. -/
  | xiestDescribe (t : Nat) (ep : Fin 10) (tag : BitVec 8) (good : Bool) (num : BitVec 16) (sub : BitVec 8)
  /-- SESSION_TIMEOUT: R551 A session idle for XI_SESSION_TO closes. -/
  | sessionTimeout (t : Nat) (ep : Fin 10)
  /-- CAN_SEGMENT: R556 A CAN FD frame carrying a Xiest segment is received. -/
  | canSegment (t : Nat) (net : Fin 2) (ident : BitVec 11) (data : List Byte)
  /-- FLOW_CONTROL: R557 A flow-control frame continues or aborts a segmented message. -/
  | flowControl (t : Nat) (abort : Bool) (tag : BitVec 8)
  /-- SEGMENT_TIMEOUT: R557 No further segment in 50 ms discards the partial message. -/
  | segmentTimeout (t : Nat)
  /-- FLOW_CONTROL_TIMEOUT: R557 No flow control in 50 ms abandons the device's response. -/
  | flowControlTimeout (t : Nat)
  /-- BUS_OFF: R554 A CAN controller goes bus-off. -/
  | busOff (t : Nat) (net : Fin 2)
  /-- BUS_OFF_RECOVERY: R554 A controller recovers after 128 occurrences of 11 recessive bits. -/
  | busOffRecovery (t : Nat) (net : Fin 2)
  /-- MBX_REQ: R558 Host software submits a request chunk to the mailbox. -/
  | mbxReq (t : Nat) (v : BitVec 32)
  /-- MBX_RSP_ACK: R558 Host software acknowledges a response chunk. -/
  | mbxRspAck (t : Nat) (v : BitVec 32)
  /-- MBX_ABORT: R558 Host software aborts the mailbox message. -/
  | mbxAbort (t : Nat) (v : BitVec 32)
  /-- ENTER_CONFIG: R561 DEVICE_CMD ENTER_CONFIG moves RUN or SAFE to CONFIG. -/
  | enterConfig (t : Nat) (ep : Fin 10) (tag : BitVec 8)
  /-- ENTER_RUN: R561 DEVICE_CMD ENTER_RUN moves CONFIG to RUN, or to SAFE under R20. -/
  | enterRun (t : Nat) (ep : Fin 10) (tag : BitVec 8)
  /-- LEAVE_SAFE: R447 DEVICE_CMD LEAVE_SAFE returns to RUN when no cause remains. -/
  | leaveSafe (t : Nat) (ep : Fin 10) (tag : BitVec 8)
  /-- ENTER_DORMANT: R614 DEVICE_CMD ENTER_DORMANT is accepted and answered. -/
  | enterDormant (t : Nat) (ep : Fin 10) (tag : BitVec 8)
  /-- DORMANT_ENTRY: R614 10 ms after the response the device enters DORMANT and drops PWRREQ. -/
  | dormantEntry (t : Nat)
  /-- RESET_WARM: R562 DEVICE_CMD RESET_WARM requests a WARM reset after 10 ms. -/
  | resetWarm (t : Nat) (ep : Fin 10) (tag : BitVec 8)
  /-- RESET_FULL: R562 DEVICE_CMD RESET_FULL requests a FULL reset after 10 ms. -/
  | resetFull (t : Nat) (ep : Fin 10) (tag : BitVec 8)
  /-- STORE: R565 DEVICE_CMD STORE snapshots stored entries and starts the journal write. -/
  | store (t : Nat) (ep : Fin 10) (tag : BitVec 8)
  /-- STORE_COMPLETE: R565 The journal copy is programmed and its trailer written. -/
  | storeComplete (t : Nat)
  /-- RESTORE_DEFAULTS: R563 DEVICE_CMD RESTORE_DEFAULTS sets every stored entry to its default. -/
  | restoreDefaults (t : Nat) (ep : Fin 10) (tag : BitVec 8)
  /-- SEAL: R560 DEVICE_CMD SEAL checks and writes the working safety set to flash. -/
  | seal (t : Nat) (ep : Fin 10) (tag : BitVec 8)
  /-- DISCARD: R560 DEVICE_CMD DISCARD drops the unsealed working copy. -/
  | discard (t : Nat) (ep : Fin 10) (tag : BitVec 8)
  /-- AUTORUN: R660 With AUTORUN the device enters RUN by itself after the reference and measurements are ready or AUTORUN_WAIT passes. -/
  | autorun (t : Nat)
  /-- BOOT_COMPLETE: R656 BOOT completes its steps and the device enters CONFIG. -/
  | bootComplete (t : Nat) (pins : BitVec 8) (cap : Nat) (kat : BitVec 18)
  /-- FIELD_SIDE_NOT_READY: R657 Calliope supplies or barrier not ready within 1 s holds the device in BOOT. -/
  | fieldSideNotReady (t : Nat) (vfld : Bool) (exc : Bool) (links : Bool)
  /-- SLK_ACK: R573 A Scan Link ACK releases replay-buffer packets. -/
  | slkAck (t : Nat) (lane : Fin 8) (seq : BitVec 8)
  /-- SLK_NAK: R573 A Scan Link NAK starts retransmission. -/
  | slkNak (t : Nat) (lane : Fin 8) (seq : BitVec 8)
  /-- SLK_REPLAY_TIMEOUT: R573 No ACK within 20 µs starts retransmission. -/
  | slkReplayTimeout (t : Nat) (lane : Fin 8)
  /-- CAP: R577 A received CAP sets CHOSEN and the rate. -/
  | cap (t : Nat) (lane : Fin 8) (payload : List Byte)
  /-- CAP_SEND: R576 Every 100 µs in NEGOTIATING, or 1 s in REFUSED, the lane sends CAP. -/
  | capSend (t : Nat) (lane : Fin 8)
  /-- RATE_ALIGNMENT_TIMEOUT: R577 No alignment at a new rate in 10 ms retries at the next lower rate. -/
  | rateAlignmentTimeout (t : Nat) (lane : Fin 8)
  /-- COMMA_ALIGNED: R575 Three K28.5 at one alignment move the lane to ALIGNING. -/
  | commaAligned (t : Nat) (lane : Fin 8)
  /-- ALIGNMENT_LOST: R575 No comma in 4,096 symbols or 16 K30.7 put the lane DOWN. -/
  | alignmentLost (t : Nat) (lane : Fin 8) (errs : Nat)
  /-- SLEEP: R594 A received SLEEP packet puts the receiver to sleep. -/
  | sleep (t : Nat) (lane : Fin 8) (rx : SlkRx)
  /-- TIME: R581 A TIME packet gives a marker pair for offset and delay. -/
  | time (t : Nat) (lane : Fin 8) (rx : SlkRx) (payload : List Byte)
  /-- TIME_MARKER: R580 An arriving K28.1 marker is stamped. -/
  | timeMarker (t : Nat) (lane : Fin 8)
  /-- MARKER_SEND: R580 At each multiple of SLK_MARK_PERIOD the lane sends a marker and a TIME packet. -/
  | markerSend (t : Nat) (lane : Fin 8)
  /-- OFFSET_INVALID: R583 No pair for 10 ms makes SLK_OFFSET invalid. -/
  | offsetInvalid (t : Nat) (lane : Fin 8)
  /-- SCHED: R584 A partner's schedule packet is received for coordination. -/
  | sched (t : Nat) (lane : Fin 8) (rx : SlkRx) (payload : List Byte)
  /-- SYNC_TIMEOUT: R585 No matching SCHED within 1 s starts the first frame unaligned. -/
  | syncTimeout (t : Nat)
  /-- TRIG: R590 A received TRIG is a recorder trigger of source bit 4. -/
  | trig (t : Nat) (lane : Fin 8) (rx : SlkRx) (payload : List Byte)
  /-- IRQ: R591 A received IRQ pends source 384 + n. -/
  | irq (t : Nat) (lane : Fin 8) (rx : SlkRx) (payload : List Byte)
  /-- XIEST_SEGMENT: R592 A XIEST packet carries a segment of a Xiest message. -/
  | xiestSegment (t : Nat) (lane : Fin 8) (rx : SlkRx) (first : Bool) (last : Bool) (data : List Byte)
  /-- PT_REC: R588 Forwarded point records are written to the lane's ring. -/
  | ptRec (t : Nat) (lane : Fin 8) (rx : SlkRx) (data : List Byte)
  /-- PT_HDR: R588 A forwarded frame header is rewritten and written to the lane's ring. -/
  | ptHdr (t : Nat) (lane : Fin 8) (rx : SlkRx) (data : List Byte)
  /-- SLK_TX_SLEEP: R594 A write puts the transmitter to sleep or wakes it. -/
  | slkTxSleep (t : Nat) (ep : Fin 10) (tag : BitVec 8) (lane : Fin 8) (v : Bool)
  /-- TRANSMITTER_WAKE: R595 A queued packet wakes a sleeping transmitter. -/
  | transmitterWake (t : Nat) (lane : Fin 8)
  /-- RECEIVER_WAKE: R594 The activity detector wakes a sleeping receiver. -/
  | receiverWake (t : Nat) (lane : Fin 8)
  /-- THERMAL_MODEL_STEP: R602 Every 100 µs the thermal model steps and tests sensors. -/
  | thermalModelStep (t : Nat) (die : List (Fin 6 × Int)) (counts : List (Fin 132 × Nat))
  /-- SENSOR_RESTORED: R599 A broken sensor returns after 1 s without a fault. -/
  | sensorRestored (t : Nat) (k : Fin 10)
  /-- SHUTDOWN_CLEARED: R609 10 s at or below 110 °C removes the shutdown cause. -/
  | shutdownCleared (t : Nat)
  /-- THROTTLE_STEP: R606 Every 40 µs the throttle level moves one step towards its target. -/
  | throttleStep (t : Nat)
  /-- VCORE_ADJUST: R612 The VID code is raised or lowered from island queue fill. -/
  | vcoreAdjust (t : Nat) (full : Bool) (idle : Bool)
  /-- DORMANT_WAKE: R615 An enabled wake source raises PWRREQ and starts a FULL reset. -/
  | dormantWake (t : Nat) (src : Fin 4)
  /-- WAKE_SUPPLY_TIMEOUT: R615 Supplies not good within 100 ms return the device to DORMANT. -/
  | wakeSupplyTimeout (t : Nat)
  /-- UPD_OPEN: R630 UPD_CMD OPEN takes the update lock. -/
  | updOpen (t : Nat) (ep : Fin 10) (tag : BitVec 8)
  /-- UPD_DATA: R634 A chunk of the package is programmed into the staging area. -/
  | updData (t : Nat) (ep : Fin 10) (tag : BitVec 8) (ofs : BitVec 32) (data : List Byte)
  /-- UPD_VERIFY: R635 UPD_CMD VERIFY starts the package checks. -/
  | updVerify (t : Nat) (ep : Fin 10) (tag : BitVec 8)
  /-- VERIFY_COMPLETE: R635 Verification ends in VERIFIED or FAILED. -/
  | verifyComplete (t : Nat)
  /-- UPD_ACTIVATE: R636 UPD_CMD ACTIVATE writes the record that puts the package in force. -/
  | updActivate (t : Nat) (ep : Fin 10) (tag : BitVec 8)
  /-- UPD_ABORT: R631 UPD_CMD ABORT releases the lock and discards the staged package. -/
  | updAbort (t : Nat) (ep : Fin 10) (tag : BitVec 8)
  /-- UPD_CLOSE: R631 UPD_CMD CLOSE releases the update lock. -/
  | updClose (t : Nat) (ep : Fin 10) (tag : BitVec 8)
  /-- UPD_CONFIRM: R638 UPD_CMD CONFIRM gives host confirmation of a trial image. -/
  | updConfirm (t : Nat) (ep : Fin 10) (tag : BitVec 8)
  /-- UPD_AUTH_CHALLENGE: R628 A read returns a fresh 48-byte challenge. -/
  | updAuthChallenge (t : Nat) (ep : Fin 10) (tag : BitVec 8)
  /-- UPD_AUTH_RESPONSE: R628 A response is verified and the session made privileged or refused. -/
  | updAuthResponse (t : Nat) (ep : Fin 10) (tag : BitVec 8) (key : List Byte) (sig : List Byte)
  /-- AUTH_LOCKOUT_END: R629 60 s after three refusals the endpoint may respond again. -/
  | authLockoutEnd (t : Nat) (ep : Fin 10)
  /-- UPDATE_LOCK_EXPIRY: R631 30 s without an update write releases the lock. -/
  | updateLockExpiry (t : Nat)
  /-- SIG_REVOKE: R625 A write blows the revocation fuses of the named keys. -/
  | sigRevoke (t : Nat) (ep : Fin 10) (tag : BitVec 8) (v : BitVec 8)
  /-- IMAGE_CONFIRMED: R638 A trial image meeting its conditions confirms itself and raises the counter. -/
  | imageConfirmed (t : Nat)
  /-- TRIAL_EXPIRED: R639 60 s without confirmation forces a FULL reset. -/
  | trialExpired (t : Nat)
  /-- PORN: R652 PORn low for 10 µs or more requests a FULL reset. -/
  | porn (t : Nat)
  /-- SUPPLY_MONITOR: R647 A logic or field supply below threshold requests a FULL reset. -/
  | supplyMonitor (t : Nat) (supply : Fin 8)
  /-- FULL_RESET: R651 A FULL reset begins: gates low, outputs off, bridge off, balls released. -/
  | fullReset (t : Nat)
  /-- WARM_RESET: R651 A WARM reset begins; outputs are made safe and DRAM enters self-refresh. -/
  | warmReset (t : Nat)
  /-- CORE_WATCHDOG: R654 A management-core watchdog expiry requests a WARM or escalated FULL reset. -/
  | coreWatchdog (t : Nat) (core : Fin 4)
  /-- SAFETY_CORE_FATAL_ERROR: R46 A safety-core fatal error requests a FULL reset. -/
  | safetyCoreFatalError (t : Nat)
  /-- VMACH_LOW: R648 VMACH below 8.0 V switches outputs off and enters SAFE. -/
  | vmachLow (t : Nat) (v : Nat)
  /-- VMACH_RESTORED: R648 VMACH at or above 8.5 V for 100 ms removes the cause. -/
  | vmachRestored (t : Nat) (v : Nat)
  /-- VHV_IN_LOW: R648 VHV_IN below 10.0 V stops the chargers. -/
  | vhvInLow (t : Nat) (v : Nat)
  /-- VHV_IN_RESTORED: R648 VHV_IN at or above 10.5 V for 10 ms resumes charging. -/
  | vhvInRestored (t : Nat) (v : Nat)
  /-- PENDING_TIMEOUT: R658 A measurement still pending 2 s after ENTER_RUN becomes broken. -/
  | pendingTimeout (t : Nat)
  /-- EYE_TABLE_ECC_ERROR: R78 An uncorrectable error in table or account memory inhibits firing or latches a SAFE cause. -/
  | eyeTableEccError (t : Nat)
  /-- RESOURCE_GRANT: R39 A freed shared resource is granted to the highest-class pending request. -/
  | resourceGrant (t : Nat) (r : Fin 5) (reqs : List (Fin 6 × Fin 132))
  /-- TAP_BUILD_COMPLETE: R226 A tap-table build reaches H hits. -/
  | tapBuildComplete (t : Nat) (line : Fin 780)
  /-- AGREEMENT_TEST: R229 MC2 tests a pair of builds and writes the shadow table or discards. -/
  | agreementTest (t : Nat) (line : Fin 780)
  /-- REFERENCE_MISSING: R239 A build not complete after CAL_REF_MISS frames makes the channel stale. -/
  | referenceMissing (t : Nat) (chan : Fin 256)
  /-- CAL_SNAPSHOT: R246 The live offset and walk sets are copied into CAL_STORED_SET. -/
  | calSnapshot (t : Nat) (ep : Fin 10) (tag : BitVec 8) (v : Bool)
  /-- READ_CLEAR: R13 A read of an RC register returns and clears it. -/
  | readClear (t : Nat) (f : Fin 2) (ofs : RegOfs)
  /-- TB_T64_LO_READ: R159 A read of TB_T64_LO or TB_PPS_LO latches the upper half. -/
  | tbT64LoRead (t : Nat) (pps : Bool)
  /-- EE_FAULT_T_LO_READ: R192 A read of EE_FAULT_T_LO latches EE_FAULT_T_HI. -/
  | eeFaultTLoRead (t : Nat)
  /-- REGISTER_WRITE: R13 A write to a register without a row of its own. -/
  | registerWrite (t : Nat) (at_ : RegAddr) (v : BitVec 32)
  /-- INTERNAL_RESET_RELEASE: R655 The device releases its internal reset once PORn is high and every monitored logic-side supply has been good for 1.0 ms, reading BOOTSEL and starting the timebase. -/
  | internalResetRelease (t : Nat) (bootsel : Bool)
  /-- PERST_RELEASE: R653 PERST# rises, ending the PCIE reset so that the PCIe function leaves reset and the link trains to its trained width. -/
  | perstRelease (t : Nat)
  /-- BUS_MASTER_ENABLE_CLEARED: R529 Host software clears Bus Master Enable of PF0, stopping every enabled ring with cause 4. -/
  | busMasterEnableCleared (t : Nat)
  /-- D3HOT_EXIT: R538 Host software returns a function from D3hot to D0, so that HOST is awake again and its waiting events are delivered. -/
  | d3hotExit (t : Nat) (f : Fin 2)
  /-- XIEST_UNKNOWN_OP: R547 A Xiest request with an unknown OP is answered with status ACCESS. -/
  | xiestUnknownOp (t : Nat) (ep : Fin 10) (tag : BitVec 8) (good : Bool) (op : BitVec 8) (num : BitVec 16) (sub : BitVec 8) (val : List Byte)
deriving DecidableEq, Repr

end Sys2Proof
end

