-- ==== Sys2Proof/Decode.lean ====
section
/-!
DEFINITION. The table's words. No row of spec/opcode_table.json gives bits: the commands come from outside as
events, so no word spells one (log entry 6).
-/
namespace Sys2Proof

/-- The command a table word spells: none, since no row of the table gives bits. -/
def decodeTableWord (_nbits _w : Nat) : Option Instr := none

end Sys2Proof
end

