-- ==== Sys2Proof/Config.lean ====
section
/-!
DEFINITION. What one device fixes, and the values the spec leaves open. A constant without a body is a value that
no proof can see: a statement that mentions it holds for every value of it.
-/
namespace Sys2Proof

/-- Types of dictionary entries (R7). -/
inductive DTy where
  | bool | u8 | u16 | u32 | u64 | i8 | i16 | i32 | t64 | enum | fx32 | str | blob
deriving DecidableEq, Repr

/-- Access codes of dictionary entries (R14). -/
inductive DAcc where
  | ro | rw | wo | rwc | rws | rc
deriving DecidableEq, Repr

/-- Apply times of dictionary entries (R15); none for entries that are never written. -/
inductive DApp where
  | none | imm | phase | frame | ctx | rst
deriving DecidableEq, Repr

/-- One row of the parameter tables: number, sub-indices, name, type, access, apply time, range, further values that
are allowed beside the range, step of the range, and defaults (the list repeats over the sub-indices). -/
structure DRow where
  num : Nat
  subLo : Nat
  subHi : Nat
  name : String
  ty : DTy
  acc : DAcc
  app : DApp
  lo : Int
  hi : Int
  also : List Int
  step : Nat
  dflt : List DVal
deriving DecidableEq, Repr

/-- Free values drawn in sequence: the n-th value the spec leaves open in a run (log entry 7). -/
opaque Config.free : Nat → Nat

/-- Whether a block lay on the removed channel, by the draw, stream, segment and block: the interleaving is not published (R465, R486, log
entry 7). -/
opaque Config.lostBlock : Nat → Nat → Nat → Nat → Bool

/-- Renyajor's PCI vendor ID (R1 gives no number). -/
opaque Config.vendorId : BitVec 16
/-- Steppings of the core die (0) and of Calliope (1) after the first, per die (R2). -/
opaque Config.stepping : Nat → Fin 255
/-- Core die stepping, counted from 0x01 (R2). -/
def Config.steppingCore : BitVec 8 := BitVec.ofNat 8 ((Config.stepping 0).val + 1)
/-- Calliope die stepping, counted from 0x01 (R2). -/
def Config.steppingCalliope : BitVec 8 := BitVec.ofNat 8 ((Config.stepping 1).val + 1)
/-- The characters of SERIAL, per device: 0 to 25 for A to Z, 26 to 35 for 0 to 9 (R2). -/
opaque Config.serialChar : Nat → Fin 36
/-- The 16 characters of SERIAL (R2). -/
def Config.serial : List Byte := (List.range 16).map fun i =>
  let c := (Config.serialChar i).val
  BitVec.ofNat 8 (if c < 26 then 65 + c else 22 + c)
/-- Subsystem vendor ID and subsystem ID programmed into OTP, if any (R517). -/
opaque Config.subsystem : Option (BitVec 16 × BitVec 16)
/-- FW_VERSION of the running image, by image slot (R2). -/
opaque Config.fwVersion : Nat → BitVec 32

/-- Whether interrupt source n is of level type, where the spec does not tell; fixed per source (R492, R513 EIC_ROUTE LEVEL). -/
opaque Config.eicLevel : Nat → Bool
/-- Whether interrupt source n is wake-capable; fixed per source, not stated (R501, R513 EIC_ROUTE WAKE). -/
opaque Config.eicWake : Nat → Bool
/-- Group, taken modulo 8, to which firmware routes fixed source n (R491). -/
opaque Config.eicFixedGroup : Nat → Nat
/-- Target, taken modulo 6, that fixed group g serves (R491). -/
opaque Config.eicFixedTarget : Nat → Nat

/-- Offset of capability k of the list PCIe, PM, MSI-X in configuration space, which the spec does not give (R517, log entry 7). -/
opaque Config.capOfs : Nat → BitVec 8
/-- Offset of the extended capability after AER (R517, log entry 7). -/
opaque Config.extNext : BitVec 12

/-- Production tap widths of delay line l, 1/65536 of the coarse period, held in OTP per device (R244). -/
opaque Config.prodTap : Nat → Nat → Nat
/-- L_build of the production table of delay line l, 1/64 tap (R244). -/
opaque Config.prodLen : Nat → Nat
/-- sigma_tap of the production table of delay line l, 0.1 ps (R242, R244). -/
opaque Config.prodSigma : Nat → Nat
/-- What an engine takes for entry i of the offset and walk set of channel c while no set exists: the spec gives no
factory set (R244). -/
opaque Config.noWalk : Nat → Nat → Int

/-- The device seed held in OTP (R63). -/
opaque Config.ditherSeed : BitVec 31
/-- One step of the mirror model at 4 µs: position and velocity, Q15 with 16 fraction bits, from those before and the
coil current in Q15; the spec does not publish the discretisation (R305, log entry 7). -/
opaque Config.mirStep : Int → Int → Int → (Nat × Nat × FX) → Int × Int
/-- The model's correction by a residual in Q15 with the observer gain (R305, log entry 7). -/
opaque Config.mirCorrect : Int → Int → Int → FX → Int × Int
/-- Default of coefficient index i of law n, which the spec does not publish (R293, log entry 7). -/
opaque Config.coefDefault : Nat → Nat → FX
/-- Coefficient indices a law has beside those of law 3 (R293, R294, log entry 7). -/
opaque Config.coefCount : Nat → Nat
/-- The index that a role of law 4 (0 to 2 kp ki kt) or 6 (0 to 2 thermal, 3 to 5 charger) takes (R302, log
entry 7). -/
opaque Config.coefRole : Nat → Nat → Nat
/-- Output of law 5 or 8, whose structure is not published, from law, coefficients in use (index, mantissa, shift), error and integrator
(R291, R294, log entry 7). -/
opaque Config.lawOut : Nat → List (Nat × Int × Nat) → Int → Int → Int
/-- The integrator of law 5 or 8 after a period (R291, R294, R302, log entry 7). -/
opaque Config.lawState : Nat → List (Nat × Int × Nat) → Int → Int → Int

/-- Tap i of the half-band stages, i from 0 to 11 and mirrored, 2^-30; the spec gives no values (R362, log entry 7). -/
opaque Config.hbTap : Nat → Int
/-- Tap i of a FIR bank that holds no set, 2^-30; the spec gives none (R363, log entry 7). -/
opaque Config.firEmpty : Nat → Int
/-- The quotient of R342 where the reference or the current is 0, by its numerator (log entry 7). -/
opaque Config.ratioZero : Int → Int


/-- Edge-directed interpolation of one pixel: Bayer position 0 to 3 (R, G on an R row, G on a B row, B) and the 5 × 5
neighbourhood by rows, to R, G and B; not published (R383, log entry 7). -/
opaque Config.demosaic : Nat → List Nat → Nat × Nat × Nat
/-- Tap i, 0 to 3, of the polyphase filter from a length to another at a phase (in halves of the new length), 2^-14; not published (R383,
log entry 7). -/
opaque Config.polyTap : Nat → Nat → Nat → Nat → Int
/-- Gamma of a value where the table is selected and none is written (R383, log entry 7). -/
opaque Config.gammaEmpty : Nat → Nat

/-- Energy of one handshake of island n, fJ, held in OTP (R602, log entry 7). -/
opaque Config.islandEnergy : Nat → Nat
/-- The core-die model node, taken modulo 16, of island n (R601, log entry 7). -/
opaque Config.islandNode : Nat → Nat
/-- Leakage of a core-die node, mW, from its temperature in 0.001 °C and the VDD_CORE code, held in OTP (R602, log entry 7). -/
opaque Config.leakage : Nat → Int → Nat → Nat
/-- Temperature of model node k, 0 to 21, after a step of 100 µs from the 24 temperatures in 0.001 °C, the powers of
nodes 0 to 15 and of Calliope in mW, and THM_RTH_SINK; capacitances and conductances are in OTP (R601, log entry 7). -/
opaque Config.thermNode : Nat → List Int → List Nat → Nat → Nat → Int
/-- Seconds that the wake logic's oscillator counts in a span of T64 units: accurate to ±3 percent typical (R614, log
entry 7). -/
opaque Config.rtcSeconds : Nat → Nat

/-- SHA-384 of bytes, which R622 names as a standard (log entry 7). -/
opaque Config.sha384 : List Byte → List Byte
/-- ECDSA P-384 under Renyajor's key KEY_ID verifies the signature over the SHA-384 of bytes; the keys are in ROM (R622,
R625, log entry 7). -/
opaque Config.sigOk : Nat → List Byte → List Byte → Bool
/-- The AES-256-GCM tag of nonce, additional data and ciphertext under the device-unique key (R623, log entry 7). -/
opaque Config.gcmTag : List Byte → List Byte → List Byte → List Byte
/-- AES-256-GCM decryption under the device-unique key, by nonce (R623, log entry 7). -/
opaque Config.decrypt : List Byte → List Byte → List Byte
/-- AES-256-GCM encryption under the device-unique key, by nonce (R623, R624, log entry 7). -/
opaque Config.encrypt : List Byte → List Byte → List Byte
/-- The internal image checks of R635 on a decrypted image, which the spec does not describe (log entry 7). -/
opaque Config.imageOk : List Byte → Bool
/-- The SHA-384 of a public key equals the head maker's hash in OTP, and its signature verifies over the SHA-384 of
challenge, SERIAL and endpoint: key, signature, message (R628, log entry 7). -/
opaque Config.authOk : List Byte → List Byte → List Byte → Bool

end Sys2Proof
end

