-- ==== Sys2Proof/Machine/DictTable.lean ====
section
/-!
DEFINITION. The parameter dictionary: one row per entry of the spec's parameter tables, with type, access, apply
time, range, default. Pages hold the numbers 0x400k to 0x400k + 0x3FF.
-/
namespace Sys2Proof.Machine

/-- Entries of page 0x1000 (00 R2; 18 R569; 22 R664). -/
def dictPage4 : List DRow := [
  ⟨0x1001, 0x00, 0x00, "VENDOR_ID", .u16, .ro, .none, 0, 65535, [], 1, [.int 0]⟩,
  ⟨0x1002, 0x00, 0x00, "PART_ID", .u16, .ro, .none, 0, 65535, [], 1, [.int 16982]⟩,
  ⟨0x1003, 0x01, 0x01, "STEPPING_CORE", .u8, .ro, .none, 0, 255, [], 1, [.int 0]⟩,
  ⟨0x1003, 0x02, 0x02, "STEPPING_CALLIOPE", .u8, .ro, .none, 0, 255, [], 1, [.int 0]⟩,
  ⟨0x1004, 0x00, 0x00, "SERIAL", .str, .ro, .none, 0, 0, [], 1, [.bytes []]⟩,
  ⟨0x1005, 0x00, 0x00, "FW_VERSION", .u32, .ro, .none, 0, 4294967295, [], 1, [.int 0]⟩,
  ⟨0x1010, 0x00, 0x00, "DEVICE_STATE", .enum, .ro, .none, 0, 255, [], 1, [.int 2]⟩,
  ⟨0x1011, 0x00, 0x00, "DEGRADE", .u8, .ro, .none, 0, 255, [], 1, [.int 0]⟩,
  ⟨0x1012, 0x00, 0x00, "DEVICE_CMD", .enum, .wo, .imm, 1, 10, [], 1, [.int 0]⟩,
  ⟨0x1013, 0x00, 0x00, "CMD_TRANSPORTS", .u16, .rwc, .imm, 0, 65535, [], 1, [.int 1023]⟩,
  ⟨0x1014, 0x00, 0x00, "AUTORUN", .bool, .rwc, .rst, 0, 1, [], 1, [.int 0]⟩,
  ⟨0x1015, 0x00, 0x00, "CMD_STATUS", .enum, .ro, .none, 0, 255, [], 1, [.int 0]⟩,
  ⟨0x1016, 0x00, 0x00, "AUTORUN_WAIT", .u16, .rwc, .rst, 100, 30000, [], 1, [.int 2000]⟩,
  ⟨0x1017, 0x00, 0x00, "BOOT_TIME", .u32, .ro, .none, 0, 4294967295, [], 1, [.int 0]⟩,
  ⟨0x1018, 0x00, 0x00, "MEAS_PENDING", .u32, .ro, .none, 0, 4294967295, [], 1, [.int 0]⟩,
  ⟨0x1020, 0x01, 0x01, "VER_HOST", .u16, .ro, .none, 0, 65535, [], 1, [.int 0]⟩,
  ⟨0x1020, 0x02, 0x02, "VER_XIEST", .u16, .ro, .none, 0, 65535, [], 1, [.int 0]⟩,
  ⟨0x1020, 0x03, 0x03, "VER_SLINK", .u16, .ro, .none, 0, 65535, [], 1, [.int 0]⟩,
  ⟨0x1020, 0x04, 0x04, "VER_POINTS", .u16, .ro, .none, 0, 65535, [], 1, [.int 0]⟩,
  ⟨0x1020, 0x05, 0x05, "VER_SAFEPDU", .u16, .ro, .none, 0, 65535, [], 1, [.int 0]⟩,
  ⟨0x1030, 0x00, 0x00, "XI_VER_DEV", .u32, .ro, .none, 0, 4294967295, [], 1, [.int 16777472]⟩,
  ⟨0x1031, 0x00, 0x00, "XI_SESSION_TO", .u16, .rw, .imm, 1, 3600, [], 1, [.int 10]⟩,
  ⟨0x1032, 0x00, 0x00, "XI_SESSIONS", .u16, .ro, .none, 0, 65535, [], 1, [.int 0]⟩,
  ⟨0x1033, 0x00, 0x00, "XI_CRC_ERR", .u32, .ro, .none, 0, 4294967295, [], 1, [.int 0]⟩,
  ⟨0x1040, 0x00, 0x01, "CAN_NOM_RATE", .enum, .rwc, .rst, 0, 3, [], 1, [.int 2]⟩,
  ⟨0x1041, 0x00, 0x01, "CAN_DATA_RATE", .enum, .rwc, .rst, 0, 4, [], 1, [.int 2]⟩,
  ⟨0x1042, 0x00, 0x01, "CAN_SP_NOM", .u8, .rwc, .rst, 60, 90, [], 1, [.int 80]⟩,
  ⟨0x1042, 0x02, 0x03, "CAN_SP_DATA", .u8, .rwc, .rst, 60, 90, [], 1, [.int 75]⟩,
  ⟨0x1043, 0x00, 0x00, "XI_CAN_NET", .enum, .rwc, .rst, 0, 1, [], 1, [.int 0]⟩,
  ⟨0x1044, 0x00, 0x00, "XI_REQ_ID", .u16, .rwc, .rst, 0, 2047, [], 1, [.int 1440]⟩,
  ⟨0x1045, 0x00, 0x00, "XI_RSP_ID", .u16, .rwc, .rst, 0, 2047, [], 1, [.int 1456]⟩,
  ⟨0x1046, 0x00, 0x01, "CAN_STATUS", .u8, .ro, .none, 0, 255, [], 1, [.int 0]⟩,
  ⟨0x1047, 0x00, 0x01, "CAN_TEC_REC", .u16, .ro, .none, 0, 65535, [], 1, [.int 0]⟩,
  ⟨0x1048, 0x00, 0x01, "CAN_BUSOFF", .u32, .ro, .none, 0, 4294967295, [], 1, [.int 0]⟩,
  ⟨0x1049, 0x00, 0x00, "XI_CAN_ABORT", .u32, .ro, .none, 0, 4294967295, [], 1, [.int 0]⟩,
  ⟨0x1050, 0x00, 0x00, "STORE_STATUS", .enum, .ro, .none, 0, 255, [], 1, [.int 0]⟩,
  ⟨0x1051, 0x00, 0x00, "STORE_GEN", .u32, .ro, .none, 0, 4294967295, [], 1, [.int 0]⟩]

/-- Entries of page 0x2000 (02 R84). -/
def dictPage8 : List DRow := [
  ⟨0x2000, 0x00, 0x00, "FRAME_RATE", .u16, .rw, .frame, 5000, 30000, [], 1, [.int 10000]⟩,
  ⟨0x2001, 0x00, 0x00, "SWEEP_FRACTION", .u8, .rw, .frame, 70, 95, [], 1, [.int 85]⟩,
  ⟨0x2002, 0x00, 0x00, "FRAME_RATE_ACT", .u32, .ro, .none, 0, 4294967295, [], 1, [.int 0]⟩,
  ⟨0x2003, 0x01, 0x01, "CYCLES_FRAME", .u16, .ro, .none, 0, 65535, [], 1, [.int 0]⟩,
  ⟨0x2003, 0x02, 0x02, "CYCLES_ACTIVE", .u16, .ro, .none, 0, 65535, [], 1, [.int 0]⟩,
  ⟨0x2010, 0x00, 0x00, "WINDOW_W", .u16, .rw, .frame, 400, 2000, [], 100, [.int 2000]⟩,
  ⟨0x2011, 0x00, 0x00, "GUARD_G", .u16, .rw, .frame, 200, 1000, [], 1, [.int 200]⟩,
  ⟨0x2012, 0x00, 0x00, "DITHER_D", .u8, .rw, .frame, 0, 255, [], 1, [.int 255]⟩,
  ⟨0x2013, 0x00, 0x00, "DITHER_SEED", .u32, .rwc, .frame, 0, 4294967295, [], 1, [.int 0]⟩,
  ⟨0x2014, 0x00, 0x00, "PHASE_PERIOD", .u16, .ro, .none, 0, 65535, [], 1, [.int 0]⟩,
  ⟨0x2015, 0x00, 0x00, "GUARD_EFF", .u16, .ro, .none, 0, 65535, [], 1, [.int 0]⟩,
  ⟨0x2018, 0x00, 0x00, "PHASE_ORDER", .u32, .rwc, .frame, 0, 4294967295, [], 1, [.int 1985229328]⟩,
  ⟨0x2019, 0x00, 0x00, "EMITTER_ENABLE", .u32, .rw, .frame, 0, 4294967295, [], 1, [.int 4294967295]⟩,
  ⟨0x2020, 0x00, 0x00, "ENERGY_MODE", .enum, .rw, .frame, 0, 1, [], 1, [.int 0]⟩,
  ⟨0x2021, 0x00, 0x1F, "DEMAND", .u16, .rw, .frame, 1, 65535, [], 1, [.int 1000]⟩,
  ⟨0x2022, 0x00, 0x00, "ADAPT_STEP", .u8, .rw, .frame, 1, 50, [], 1, [.int 10]⟩,
  ⟨0x2023, 0x00, 0x00, "E_MIN", .u8, .rw, .frame, 5, 100, [], 1, [.int 25]⟩,
  ⟨0x2024, 0x00, 0x00, "SKIP_RECORDS", .bool, .rw, .frame, 0, 1, [], 1, [.int 1]⟩,
  ⟨0x2030, 0x00, 0x00, "EYE_TABLE_ID", .u32, .ro, .none, 0, 4294967295, [], 1, [.int 0]⟩,
  ⟨0x2031, 0x00, 0x00, "EYE_BIN_WIDTH", .u16, .ro, .none, 0, 65535, [], 1, [.int 0]⟩,
  ⟨0x2031, 0x01, 0x01, "EYE_NBIN", .u16, .ro, .none, 0, 65535, [], 1, [.int 0]⟩,
  ⟨0x2032, 0x00, 0x00, "EYE_TA", .u32, .ro, .none, 0, 4294967295, [], 1, [.int 0]⟩,
  ⟨0x2032, 0x01, 0x01, "EYE_TB", .u32, .ro, .none, 0, 4294967295, [], 1, [.int 0]⟩,
  ⟨0x2033, 0x00, 0x00, "EYE_U_PRI", .u16, .ro, .none, 0, 65535, [], 1, [.int 0]⟩,
  ⟨0x2033, 0x01, 0x01, "EYE_U_SEC", .u16, .ro, .none, 0, 65535, [], 1, [.int 0]⟩,
  ⟨0x2034, 0x00, 0x00, "EYE_V_TOL", .u8, .ro, .none, 0, 255, [], 1, [.int 0]⟩]

/-- Entries of page 0x2400 (01 R34; 03 R122). -/
def dictPage9 : List DRow := [
  ⟨0x2400, 0x00, 0x1F, "GATE_WIDTH", .u8, .rwc, .frame, 4, 40, [], 1, [.int 12]⟩,
  ⟨0x2401, 0x00, 0x03, "FIRE_ADVANCE", .u16, .rwc, .frame, 40, 800, [], 1, [.int 160]⟩,
  ⟨0x2402, 0x00, 0x00, "ADVANCE_TRIM", .bool, .rw, .frame, 0, 1, [], 1, [.int 1]⟩,
  ⟨0x2403, 0x00, 0x03, "ADVANCE_ACT", .u16, .ro, .none, 0, 65535, [], 1, [.int 0]⟩,
  ⟨0x2404, 0x00, 0x02, "MON_THR", .u16, .rwc, .frame, 0, 1023, [], 1, [.int 256, .int 512, .int 768]⟩,
  ⟨0x2405, 0x00, 0x00, "MON_TIMEOUT", .u8, .rw, .frame, 10, 200, [], 1, [.int 50]⟩,
  ⟨0x2406, 0x00, 0x00, "MON_MISS_LIMIT", .u16, .rw, .frame, 1, 65535, [], 1, [.int 64]⟩,
  ⟨0x2407, 0x00, 0x00, "MON_FAILED", .u32, .ro, .none, 0, 4294967295, [], 1, [.int 0]⟩,
  ⟨0x2410, 0x00, 0x00, "CHG_ENABLE", .bool, .rw, .imm, 0, 1, [], 1, [.int 1]⟩,
  ⟨0x2411, 0x00, 0x00, "CHG_ILIM", .u16, .rw, .imm, 500, 8000, [], 1, [.int 4000]⟩,
  ⟨0x2412, 0x00, 0x03, "CHG_RTD_CH", .u8, .rwc, .rst, 0, 31, [], 1, [.int 0]⟩,
  ⟨0x2413, 0x00, 0x00, "CHG_WINDOW", .u8, .ro, .none, 0, 255, [], 1, [.int 0]⟩,
  ⟨0x2414, 0x00, 0x03, "VRES_MEAS", .u16, .ro, .none, 0, 65535, [], 1, [.int 0]⟩,
  ⟨0x2415, 0x00, 0x03, "VSHOT_LAST", .u16, .ro, .none, 0, 65535, [], 1, [.int 0]⟩,
  ⟨0x2416, 0x00, 0x00, "CHG_IIN_MEAS", .u16, .ro, .none, 0, 65535, [], 1, [.int 0]⟩,
  ⟨0x2420, 0x00, 0x00, "APD_ENABLE", .bool, .rw, .imm, 0, 1, [], 1, [.int 0]⟩,
  ⟨0x2421, 0x00, 0x00, "APD_V_REF", .u16, .rwc, .frame, 2000, 20000, [], 1, [.int 2000]⟩,
  ⟨0x2422, 0x00, 0x00, "APD_T_REF", .i16, .rwc, .frame, (-32768), 32767, [], 1, [.int 250]⟩,
  ⟨0x2423, 0x00, 0x00, "APD_TC", .i16, .rwc, .frame, (-2000), 2000, [], 1, [.int 0]⟩,
  ⟨0x2424, 0x00, 0x00, "APD_VMAX", .u16, .rwc, .frame, 2000, 20000, [], 1, [.int 2000]⟩,
  ⟨0x2425, 0x00, 0x00, "APD_ILIM", .u16, .rw, .imm, 50, 2000, [], 1, [.int 1000]⟩,
  ⟨0x2426, 0x00, 0x00, "APD_SLEW", .u8, .rw, .imm, 1, 100, [], 1, [.int 10]⟩,
  ⟨0x2427, 0x00, 0x00, "APD_RTD_CH", .u8, .rwc, .rst, 0, 31, [], 1, [.int 1]⟩,
  ⟨0x2428, 0x00, 0x00, "APD_V_MEAS", .u16, .ro, .none, 0, 65535, [], 1, [.int 0]⟩,
  ⟨0x2429, 0x00, 0x00, "APD_I_MEAS", .u16, .ro, .none, 0, 65535, [], 1, [.int 0]⟩,
  ⟨0x242A, 0x00, 0x00, "APD_STATUS", .u8, .ro, .none, 0, 255, [], 1, [.int 0]⟩,
  ⟨0x2440, 0x00, 0x00, "BRG_ILIM", .u16, .rwc, .frame, 100, 2500, [], 1, [.int 1000]⟩,
  ⟨0x2441, 0x00, 0x00, "COIL_R", .u16, .rwc, .frame, 0, 65535, [], 1, [.int 4000]⟩,
  ⟨0x2442, 0x00, 0x00, "COIL_L", .u16, .rwc, .frame, 0, 65535, [], 1, [.int 500]⟩,
  ⟨0x2443, 0x00, 0x00, "BEMF_K", .fx32, .rwc, .frame, 0, 0, [], 1, [.fx 1000 0]⟩,
  ⟨0x2444, 0x00, 0x00, "WDG_BAND", .u16, .rwc, .frame, 50, 5000, [], 1, [.int 500]⟩,
  ⟨0x2445, 0x00, 0x00, "BRG_STATUS", .u8, .ro, .none, 0, 255, [], 1, [.int 0]⟩,
  ⟨0x2470, 0x00, 0x00, "BAR_LINK_FAULT", .u16, .ro, .none, 0, 65535, [], 1, [.int 0]⟩,
  ⟨0x2471, 0x00, 0x00, "BAR_SPARE_MAP", .u8, .ro, .none, 0, 255, [], 1, [.int 255]⟩,
  ⟨0x2472, 0x00, 0x00, "BAR_SWITCH_COUNT", .u16, .ro, .none, 0, 65535, [], 1, [.int 0]⟩,
  ⟨0x2473, 0x00, 0x00, "BAR_CRC_ERR", .u32, .ro, .none, 0, 4294967295, [], 1, [.int 0]⟩,
  ⟨0x2474, 0x00, 0x00, "BAR_RETX", .u32, .ro, .none, 0, 4294967295, [], 1, [.int 0]⟩]

/-- Entries of page 0x2800 (04 R126; 04 R132; 04 R136; 04 R146; 04 R148; 04 R154; 04 R157). -/
def dictPage10 : List DRow := [
  ⟨0x2800, 0x00, 0x03, "TIA_GAIN", .enum, .rwc, .rst, 0, 2, [], 1, [.int 2]⟩,
  ⟨0x2801, 0x00, 0x07, "RX_ENABLE", .u32, .rw, .frame, 0, 4294967295, [], 1, [.int 4294967295]⟩,
  ⟨0x2802, 0x00, 0x02, "THR_INIT", .u16, .rw, .phase, 0, 1023, [], 1, [.int 40, .int 120, .int 400]⟩,
  ⟨0x2803, 0x00, 0x00, "THR_MODE", .enum, .rw, .phase, 0, 1, [], 1, [.int 0]⟩,
  ⟨0x2804, 0x00, 0x00, "THR_SPACING", .u8, .rw, .phase, 1, 64, [], 1, [.int 4]⟩,
  ⟨0x2805, 0x00, 0x07, "RX_FAILED", .u32, .ro, .none, 0, 4294967295, [], 1, [.int 0]⟩,
  ⟨0x2808, 0x00, 0x00, "GUARD_KEEP", .u8, .rw, .phase, 0, 32, [], 1, [.int 32]⟩,
  ⟨0x2809, 0x00, 0xFF, "RX_OVF_COUNT", .u32, .rc, .none, 0, 4294967295, [], 1, [.int 0]⟩,
  ⟨0x2810, 0x00, 0x00, "TB_SOURCE", .enum, .rwc, .rst, 0, 1, [], 1, [.int 0]⟩,
  ⟨0x2811, 0x00, 0x00, "TB_FREQ_CORR", .i32, .rw, .frame, (-2147483648), 2147483647, [], 1, [.int 0]⟩,
  ⟨0x2812, 0x00, 0x00, "TB_FREQ_AUTO", .bool, .rw, .frame, 0, 1, [], 1, [.int 1]⟩,
  ⟨0x2813, 0x00, 0x00, "TB_FREQ_USED", .i32, .ro, .none, (-2147483648), 2147483647, [], 1, [.int 0]⟩,
  ⟨0x2820, 0x00, 0x00, "PPS_IN_ENABLE", .bool, .rw, .imm, 0, 1, [], 1, [.int 0]⟩,
  ⟨0x2821, 0x00, 0x00, "PPS_IN_EDGE", .enum, .rw, .imm, 0, 1, [], 1, [.int 0]⟩,
  ⟨0x2822, 0x00, 0x00, "PPS_IN_DELAY", .i32, .rw, .imm, (-2147483648), 2147483647, [], 1, [.int 0]⟩,
  ⟨0x2823, 0x00, 0x00, "PPS_GATE", .u8, .rw, .imm, 4, 64, [], 1, [.int 16]⟩,
  ⟨0x2824, 0x00, 0x00, "PPS_LOAD", .t64, .rw, .imm, 0, 18446744073709551615, [], 1, [.int 0]⟩,
  ⟨0x2825, 0x00, 0x00, "PPS_ARM", .bool, .wo, .imm, 0, 1, [], 1, [.int 0]⟩,
  ⟨0x2826, 0x00, 0x00, "PPS_LAST", .t64, .ro, .none, 0, 18446744073709551615, [], 1, [.int 0]⟩,
  ⟨0x2827, 0x00, 0x00, "PPS_LAST_STEP", .u64, .ro, .none, 0, 18446744073709551615, [], 1, [.int 0]⟩,
  ⟨0x2828, 0x00, 0x00, "TB_FREQ_ERR", .i32, .ro, .none, (-2147483648), 2147483647, [], 1, [.int 0]⟩,
  ⟨0x2829, 0x00, 0x00, "PPS_GLITCH", .u16, .ro, .none, 0, 65535, [], 1, [.int 0]⟩,
  ⟨0x282A, 0x00, 0x00, "PPS_OUT_ENABLE", .bool, .rw, .imm, 0, 1, [], 1, [.int 0]⟩,
  ⟨0x282B, 0x00, 0x00, "PPS_OUT_WIDTH", .u16, .rw, .imm, 1, 500, [], 1, [.int 100]⟩,
  ⟨0x2830, 0x00, 0x07, "FM_SRC", .enum, .rw, .imm, 0, 13, [], 1, [.int 0]⟩,
  ⟨0x2831, 0x00, 0x07, "FM_GATE", .u32, .rw, .imm, 1, 64000, [], 1, [.int 1000]⟩,
  ⟨0x2832, 0x00, 0x07, "FM_NOMINAL", .u64, .rw, .imm, 0, 18446744073709551615, [], 1, [.int 0]⟩,
  ⟨0x2833, 0x00, 0x07, "FM_MIN_N", .u16, .rw, .imm, 3, 65535, [], 1, [.int 12]⟩,
  ⟨0x2834, 0x00, 0x07, "FM_MAX_RMS", .u32, .rw, .imm, 0, 4294967295, [], 1, [.int 1500]⟩,
  ⟨0x2835, 0x00, 0x07, "FM_PERIOD", .u64, .ro, .none, 0, 18446744073709551615, [], 1, [.int 0]⟩,
  ⟨0x2836, 0x00, 0x07, "FM_RMS", .u32, .ro, .none, 0, 4294967295, [], 1, [.int 0]⟩,
  ⟨0x2837, 0x00, 0x07, "FM_N", .u16, .ro, .none, 0, 65535, [], 1, [.int 0]⟩,
  ⟨0x2838, 0x00, 0x07, "FM_OUTLIERS", .u16, .ro, .none, 0, 65535, [], 1, [.int 0]⟩,
  ⟨0x2839, 0x00, 0x07, "FM_VALID", .bool, .ro, .none, 0, 1, [], 1, [.int 0]⟩,
  ⟨0x2840, 0x00, 0x03, "ENC_ROLE", .enum, .rwc, .frame, 0, 3, [], 1, [.int 0]⟩,
  ⟨0x2841, 0x00, 0x00, "ENC_FILTER", .u8, .rw, .frame, 0, 100, [], 1, [.int 10]⟩,
  ⟨0x2842, 0x00, 0x00, "ENC_MARKS", .u8, .rwc, .frame, 1, 64, [], 1, [.int 64]⟩,
  ⟨0x2843, 0x00, 0x00, "ENC_INDEX_COUNT", .i16, .rwc, .frame, (-32768), 32767, [], 1, [.int 0]⟩,
  ⟨0x2844, 0x00, 0x00, "ENC_COUNT", .i16, .ro, .none, (-32768), 32767, [], 1, [.int 0]⟩,
  ⟨0x2845, 0x00, 0x00, "ENC_STATUS", .u8, .ro, .none, 0, 255, [], 1, [.int 0]⟩]

/-- Entries of page 0x2C00 (05 R191). -/
def dictPage11 : List DRow := [
  ⟨0x2C00, 0x00, 0x00, "EE_MODE", .enum, .rwc, .frame, 0, 1, [], 1, [.int 0]⟩,
  ⟨0x2C01, 0x00, 0x00, "HIST_K", .u8, .rw, .frame, 1, 16, [], 1, [.int 4]⟩,
  ⟨0x2C02, 0x00, 0x00, "HIST_BIN", .enum, .rw, .frame, 0, 3, [], 1, [.int 3]⟩,
  ⟨0x2C03, 0x00, 0x00, "HIST_START", .u16, .rw, .frame, 0, 1996, [], 1, [.int 0]⟩,
  ⟨0x2C04, 0x00, 0x00, "HIST_THR", .enum, .rw, .frame, 0, 2, [], 1, [.int 0]⟩,
  ⟨0x2C05, 0x00, 0x00, "HIST_NSIGMA", .u8, .rw, .frame, 10, 200, [], 1, [.int 50]⟩,
  ⟨0x2C06, 0x00, 0x00, "PK_SEP", .u8, .rw, .frame, 2, 64, [], 1, [.int 4]⟩,
  ⟨0x2C07, 0x00, 0x00, "ZOOM_ENABLE", .bool, .rw, .frame, 0, 1, [], 1, [.int 1]⟩,
  ⟨0x2C10, 0x00, 0x00, "RNG_INDEX", .u16, .rwc, .frame, 0, 65535, [], 1, [.int 2700]⟩,
  ⟨0x2C11, 0x00, 0x03, "RFL_K", .fx32, .rwc, .frame, 0, 0, [], 1, [.fx 1 0]⟩,
  ⟨0x2C18, 0x00, 0x00, "HIST_SNAP_CH", .u8, .rw, .imm, 0, 255, [], 1, [.int 0]⟩,
  ⟨0x2C19, 0x00, 0x00, "HIST_SNAP", .bool, .wo, .imm, 0, 1, [], 1, [.int 0]⟩,
  ⟨0x2C1A, 0x00, 0x00, "HIST_SNAP_RING", .u8, .rw, .imm, 0, 31, [], 1, [.int 3]⟩,
  ⟨0x2C20, 0x00, 0x00, "EE_FAILED", .u32, .ro, .none, 0, 4294967295, [], 1, [.int 0]⟩,
  ⟨0x2C21, 0x00, 0x00, "EE_SPARE_MAP", .u16, .ro, .none, 0, 65535, [], 1, [.int 7967]⟩,
  ⟨0x2C22, 0x00, 0x07, "EE_LOST_CH", .u32, .ro, .none, 0, 4294967295, [], 1, [.int 0]⟩,
  ⟨0x2C23, 0x00, 0x00, "EE_REPLAYED", .u32, .ro, .none, 0, 4294967295, [], 1, [.int 0]⟩,
  ⟨0x2C24, 0x00, 0x00, "EE_ECC_CORR", .u32, .ro, .none, 0, 4294967295, [], 1, [.int 0]⟩]

/-- Entries of page 0x3000 (06 R218). -/
def dictPage12 : List DRow := [
  ⟨0x3000, 0x00, 0x00, "AMB_TAU", .u32, .rw, .phase, 100, 100000, [], 1, [.int 1000]⟩,
  ⟨0x3001, 0x00, 0x00, "AMB_TAIL", .u16, .rw, .phase, 0, 1000, [], 1, [.int 200]⟩,
  ⟨0x3002, 0x00, 0x00, "CFAR_RATE", .u32, .rw, .phase, 1000, 1000000, [], 1, [.int 20000]⟩,
  ⟨0x3003, 0x00, 0x00, "CFAR_MID_RATIO", .u8, .rw, .phase, 17, 255, [], 1, [.int 48]⟩,
  ⟨0x3004, 0x00, 0x00, "CFAR_HIGH_RATIO", .u8, .rw, .phase, 33, 255, [], 1, [.int 160]⟩,
  ⟨0x3005, 0x00, 0x00, "CFAR_STEP", .u8, .rw, .phase, 1, 64, [], 1, [.int 8]⟩,
  ⟨0x3006, 0x00, 0x00, "CFAR_MIN_CODE", .u16, .rw, .phase, 1, 1023, [], 1, [.int 10]⟩,
  ⟨0x3008, 0x00, 0xFF, "AMB_RATE", .u32, .ro, .none, 0, 4294967295, [], 1, [.int 0]⟩,
  ⟨0x3009, 0x00, 0xFF, "AMB_SIGMA", .u16, .ro, .none, 0, 65535, [], 1, [.int 0]⟩,
  ⟨0x3010, 0x00, 0x00, "FT_ENABLE", .bool, .rw, .frame, 0, 1, [], 1, [.int 1]⟩,
  ⟨0x3011, 0x00, 0x00, "FT_PMIN", .u32, .rw, .frame, 1000, 1000000, [], 1, [.int 2000]⟩,
  ⟨0x3012, 0x00, 0x00, "FT_PMAX", .u32, .rw, .frame, 0, 1000000, [], 1, [.int 200000]⟩,
  ⟨0x3013, 0x00, 0x00, "FT_NEAR", .u8, .rw, .frame, 2, 50, [], 1, [.int 6]⟩,
  ⟨0x3014, 0x00, 0x1F, "FT_PERIOD", .u32, .ro, .none, 0, 4294967295, [], 1, [.int 0]⟩,
  ⟨0x3015, 0x00, 0x1F, "FT_STATE", .enum, .ro, .none, 0, 255, [], 1, [.int 0]⟩,
  ⟨0x3016, 0x00, 0x1F, "FT_N", .u16, .ro, .none, 0, 65535, [], 1, [.int 0]⟩,
  ⟨0x3017, 0x00, 0x1F, "FT_RMS", .u16, .ro, .none, 0, 65535, [], 1, [.int 0]⟩,
  ⟨0x3018, 0x00, 0x1F, "FT_CHMASK", .u64, .ro, .none, 0, 18446744073709551615, [], 1, [.int 0]⟩,
  ⟨0x3020, 0x00, 0x00, "COORD_MODE", .bool, .rwc, .frame, 0, 1, [], 1, [.int 0]⟩,
  ⟨0x3021, 0x00, 0x00, "COORD_SLOT", .u8, .rwc, .frame, 0, 1, [], 1, [.int 0]⟩,
  ⟨0x3022, 0x00, 0x00, "COORD_LANES", .u8, .rwc, .frame, 0, 255, [], 1, [.int 0]⟩,
  ⟨0x3023, 0x00, 0x03, "COORD_OVERLAP", .i16, .rwc, .frame, (-32768), 32767, [], 1, [.int 0]⟩,
  ⟨0x3024, 0x00, 0x00, "COORD_STATUS", .u8, .ro, .none, 0, 255, [], 1, [.int 0]⟩,
  ⟨0x3030, 0x00, 0x00, "SUP_RANGE", .u16, .rw, .frame, 50, 5000, [], 1, [.int 300]⟩,
  ⟨0x3031, 0x00, 0x00, "CLS_CLUSTER_RANGE", .u16, .rw, .frame, 50, 10000, [], 1, [.int 1000]⟩,
  ⟨0x3032, 0x00, 0x00, "CANOPY_Q", .u8, .rw, .frame, 16, 255, [], 1, [.int 24]⟩,
  ⟨0x3033, 0x00, 0x00, "PRECIP_Q", .u8, .rw, .frame, 16, 255, [], 1, [.int 18]⟩,
  ⟨0x3034, 0x00, 0x00, "CLS_SUPPRESS", .u8, .rw, .frame, 0, 255, [], 1, [.int 0]⟩,
  ⟨0x3035, 0x00, 0x00, "ECHO_SELECT", .enum, .rw, .frame, 0, 3, [], 1, [.int 1]⟩,
  ⟨0x3040, 0x00, 0x00, "WIN_CONTAM_PCT", .u8, .rw, .frame, 1, 100, [], 1, [.int 20]⟩,
  ⟨0x3041, 0x00, 0x00, "WIN_CONTAM_FRAMES", .u8, .rw, .frame, 1, 255, [], 1, [.int 10]⟩,
  ⟨0x3042, 0x00, 0x07, "WIN_CONTAM", .u32, .ro, .none, 0, 4294967295, [], 1, [.int 0]⟩]

/-- Entries of page 0x3400 (07 R247). -/
def dictPage13 : List DRow := [
  ⟨0x3400, 0x00, 0x00, "CAL_ENABLE", .bool, .rw, .imm, 0, 1, [], 1, [.int 1]⟩,
  ⟨0x3401, 0x00, 0x00, "CAL_HITS_MAX", .u8, .rw, .phase, 1, 32, [], 1, [.int 32]⟩,
  ⟨0x3402, 0x00, 0x00, "CAL_GUARD_RATE", .u32, .rw, .phase, 1000000, 140000000, [], 1, [.int 100000000]⟩,
  ⟨0x3403, 0x00, 0x00, "CAL_MON_GUARD", .u16, .rw, .phase, 1, 100, [], 1, [.int 2]⟩,
  ⟨0x3404, 0x00, 0x00, "CAL_SPAN_LIMIT", .u8, .rw, .phase, 5, 50, [], 1, [.int 20]⟩,
  ⟨0x3405, 0x00, 0x00, "CAL_SPAN_DRIFT", .u8, .rw, .phase, 1, 20, [], 1, [.int 5]⟩,
  ⟨0x3406, 0x00, 0x00, "CAL_STALE_SIGMA", .u16, .rw, .frame, 0, 1000, [], 1, [.int 40]⟩,
  ⟨0x3410, 0x00, 0x00, "CAL_SWEEP_VMIN", .u16, .rwc, .frame, 1000, 11599, [], 1, [.int 1450]⟩,
  ⟨0x3411, 0x00, 0x00, "CAL_SWEEP_VMAX", .u16, .rwc, .frame, 1001, 11600, [], 1, [.int 11600]⟩,
  ⟨0x3412, 0x00, 0x00, "CAL_REF_FRAMES", .u8, .rw, .frame, 4, 255, [], 1, [.int 16]⟩,
  ⟨0x3413, 0x00, 0x00, "CAL_REF_MISS", .u8, .rw, .frame, 8, 255, [], 1, [.int 64]⟩,
  ⟨0x3414, 0x00, 0x00, "CAL_OFS_TOL", .u8, .rw, .frame, 1, 64, [], 1, [.int 4]⟩,
  ⟨0x3415, 0x00, 0x00, "CAL_WALK_TOL", .u8, .rw, .frame, 1, 64, [], 1, [.int 8]⟩,
  ⟨0x3416, 0x00, 0xFF, "CAL_REF_DIST", .u16, .rwc, .frame, 500, 3000, [0], 1, [.int 0]⟩,
  ⟨0x3420, 0x00, 0x00, "CAL_SNAPSHOT", .bool, .wo, .imm, 0, 1, [], 1, [.int 0]⟩,
  ⟨0x3421, 0x00, 0x00, "CAL_STORED_SET", .blob, .rwc, .rst, 0, 0, [], 1, [.bytes []]⟩,
  ⟨0x3430, 0x00, 0x00, "CAL_EPOCH", .u16, .ro, .none, 0, 65535, [], 1, [.int 0]⟩,
  ⟨0x3431, 0x00, 0x07, "CAL_STALE", .u32, .ro, .none, 0, 4294967295, [], 1, [.int 0]⟩,
  ⟨0x3432, 0x00, 0x00, "CAL_STALE_MON", .u8, .ro, .none, 0, 255, [], 1, [.int 0]⟩,
  ⟨0x3433, 0x00, 0xFF, "CAL_STALE_CAUSE", .u8, .ro, .none, 0, 255, [], 1, [.int 0]⟩,
  ⟨0x3434, 0x00, 0xFF, "CAL_OFS_ECHO", .i16, .ro, .none, (-32768), 32767, [], 1, [.int 0]⟩,
  ⟨0x3435, 0x00, 0xFF, "CAL_OFS_HIST", .i16, .ro, .none, (-32768), 32767, [], 1, [.int 0]⟩,
  ⟨0x3436, 0x00, 0xFF, "CAL_SIGMA", .u16, .ro, .none, 0, 65535, [], 1, [.int 0]⟩,
  ⟨0x3437, 0x00, 0xFF, "CAL_COMMITS", .u32, .ro, .none, 0, 4294967295, [], 1, [.int 0]⟩]

/-- Entries of page 0x3800 (08 R280). -/
def dictPage14 : List DRow := [
  ⟨0x3800, 0x00, 0x00, "PT_ENABLE", .bool, .rw, .frame, 0, 1, [], 1, [.int 1]⟩,
  ⟨0x3801, 0x00, 0x00, "PT_RING", .u8, .rwc, .rst, 0, 31, [], 1, [.int 0]⟩,
  ⟨0x3802, 0x00, 0x00, "PT_HDR_RING", .u8, .rwc, .rst, 0, 31, [], 1, [.int 1]⟩,
  ⟨0x3803, 0x00, 0x00, "PT_NORETURN", .bool, .rw, .frame, 0, 1, [], 1, [.int 1]⟩,
  ⟨0x3804, 0x00, 0x00, "PT_COLOUR_CTX", .u8, .rw, .frame, 0, 7, [15], 1, [.int 15]⟩,
  ⟨0x3805, 0x00, 0x00, "PT_COLOUR_MAXAGE", .u16, .rw, .frame, 1, 1000, [], 1, [.int 100]⟩,
  ⟨0x3806, 0x00, 0x00, "PT_HOLD", .u16, .rw, .imm, 0, 2000, [], 1, [.int 100]⟩,
  ⟨0x3808, 0x00, 0x00, "PT_VER_HOST", .u32, .rwc, .imm, 0, 4294967295, [], 1, [.int 33489152]⟩,
  ⟨0x3809, 0x00, 0x00, "PT_VER_DEV", .u32, .ro, .none, 0, 4294967295, [], 1, [.int 16777472]⟩,
  ⟨0x380A, 0x00, 0x00, "PT_NEG_STATUS", .enum, .ro, .none, 0, 255, [], 1, [.int 0]⟩,
  ⟨0x3810, 0x00, 0x00, "PT_RECORDS", .u64, .ro, .none, 0, 18446744073709551615, [], 1, [.int 0]⟩,
  ⟨0x3811, 0x00, 0x00, "PT_DROPPED_TOTAL", .u32, .ro, .none, 0, 4294967295, [], 1, [.int 0]⟩]

/-- Entries of page 0x4000 (09 R319). -/
def dictPage16a : List DRow := [
  ⟨0x4000, 0x00, 0x00, "MIR_FS", .u16, .rwc, .rst, 0, 65535, [], 1, [.int 5000]⟩,
  ⟨0x4001, 0x00, 0x00, "MIR_AZ_GAIN", .fx32, .rwc, .frame, 0, 0, [], 1, [.fx 2 0]⟩,
  ⟨0x4002, 0x00, 0x00, "MIR_AZ_OFS", .i16, .rwc, .frame, (-32768), 32767, [], 1, [.int 0]⟩,
  ⟨0x4003, 0x00, 0x00, "AZ_START", .i16, .rw, .frame, (-32768), 32767, [], 1, [.int (-12000)]⟩,
  ⟨0x4004, 0x00, 0x00, "AZ_END", .i16, .rw, .frame, (-32768), 32767, [], 1, [.int 12000]⟩,
  ⟨0x4005, 0x00, 0x00, "MIR_PARK", .i16, .rwc, .frame, (-32768), 32767, [], 1, [.int 0]⟩,
  ⟨0x4008, 0x00, 0x00, "MIR_PRI_CH", .u8, .rwc, .rst, 0, 15, [], 1, [.int 0]⟩,
  ⟨0x4009, 0x00, 0x00, "MIR_PRI_GAIN", .fx32, .rwc, .frame, 0, 0, [], 1, [.fx 1 0]⟩,
  ⟨0x400A, 0x00, 0x00, "MIR_PRI_OFS", .i16, .rwc, .frame, (-32768), 32767, [], 1, [.int 0]⟩,
  ⟨0x400B, 0x00, 0x00, "MIR_ENC_PITCH", .i16, .rwc, .frame, (-32768), 32767, [], 1, [.int 128]⟩,
  ⟨0x400C, 0x00, 0x00, "MIR_ENC_ZERO", .i16, .rwc, .frame, (-32768), 32767, [], 1, [.int 0]⟩,
  ⟨0x400D, 0x00, 0x00, "MIR_WN", .u32, .rwc, .frame, 0, 4294967295, [], 1, [.int 1000]⟩,
  ⟨0x400D, 0x01, 0x01, "MIR_ZETA", .u16, .rwc, .frame, 0, 65535, [], 1, [.int 100]⟩,
  ⟨0x400D, 0x02, 0x02, "MIR_KI", .fx32, .rwc, .frame, 0, 0, [], 1, [.fx 0 0]⟩,
  ⟨0x400E, 0x00, 0x00, "MIR_OBS_L", .fx32, .rwc, .frame, 0, 0, [], 1, [.fx 107374182 31]⟩,
  ⟨0x400F, 0x00, 0x00, "MIR_RES_BOUND", .u16, .rwc, .frame, 21, 4096, [], 1, [.int 200]⟩,
  ⟨0x400F, 0x01, 0x01, "MIR_RES_BOUND_ENC", .u16, .rwc, .frame, 21, 8192, [], 1, [.int 400]⟩,
  ⟨0x4010, 0x01, 0x09, "LCE_COEF_A", .blob, .rwc, .imm, 0, 0, [], 1, [.bytes []]⟩,
  ⟨0x4011, 0x01, 0x09, "LCE_COEF_B", .blob, .rwc, .imm, 0, 0, [], 1, [.bytes []]⟩,
  ⟨0x4012, 0x01, 0x02, "LCE_COEF_SEL", .enum, .rw, .imm, 0, 1, [], 1, [.int 0]⟩,
  ⟨0x4012, 0x03, 0x03, "LCE_COEF_SEL", .enum, .rw, .frame, 0, 1, [], 1, [.int 0]⟩,
  ⟨0x4012, 0x04, 0x04, "LCE_COEF_SEL", .enum, .rw, .imm, 0, 1, [], 1, [.int 0]⟩,
  ⟨0x4012, 0x05, 0x05, "LCE_COEF_SEL", .enum, .rw, .frame, 0, 1, [], 1, [.int 0]⟩,
  ⟨0x4012, 0x06, 0x09, "LCE_COEF_SEL", .enum, .rw, .imm, 0, 1, [], 1, [.int 0]⟩,
  ⟨0x4013, 0x01, 0x09, "LCE_SET_ID", .u32, .ro, .none, 0, 4294967295, [], 1, [.int 0]⟩,
  ⟨0x4018, 0x00, 0x00, "LM_T_LIMIT", .i16, .rw, .imm, 0, 930, [], 1, [.int 850]⟩,
  ⟨0x4019, 0x00, 0x00, "CHG_HEADROOM", .u16, .rw, .imm, 200, 1000, [], 1, [.int 400]⟩,
  ⟨0x401A, 0x00, 0x00, "COIL_T_MAX", .i16, .rwc, .imm, 400, 1800, [], 1, [.int 1200]⟩,
  ⟨0x401B, 0x00, 0x00, "HTR_SETPOINT", .i16, .rw, .imm, (-200), 600, [], 1, [.int 100]⟩,
  ⟨0x401C, 0x00, 0x00, "HTR_RTD_CH", .u8, .rwc, .rst, 0, 31, [], 1, [.int 2]⟩,
  ⟨0x401D, 0x00, 0x00, "COIL_T_EST", .i16, .ro, .none, (-32768), 32767, [], 1, [.int 250]⟩,
  ⟨0x4020, 0x00, 0x00, "MIR_MODE", .enum, .ro, .none, 0, 255, [], 1, [.int 4]⟩,
  ⟨0x4021, 0x00, 0x00, "MIR_FB_STATUS", .u8, .ro, .none, 0, 255, [], 1, [.int 0]⟩,
  ⟨0x4022, 0x00, 0x00, "MIR_PRI_RETRY", .bool, .wo, .imm, 0, 1, [], 1, [.int 0]⟩,
  ⟨0x4023, 0x00, 0x00, "MIR_RESTART", .bool, .wo, .imm, 0, 1, [], 1, [.int 0]⟩,
  ⟨0x4024, 0x00, 0x00, "MIR_BRIDGE_EN", .bool, .rw, .imm, 0, 1, [], 1, [.int 0]⟩,
  ⟨0x4030, 0x00, 0x00, "INJ_LAW", .u8, .rw, .imm, 0, 255, [], 1, [.int 3]⟩,
  ⟨0x4031, 0x00, 0x00, "INJ_POINT", .enum, .rw, .imm, 0, 1, [], 1, [.int 0]⟩,
  ⟨0x4032, 0x00, 0x00, "INJ_TYPE", .enum, .rw, .imm, 0, 2, [], 1, [.int 0]⟩,
  ⟨0x4033, 0x00, 0x00, "INJ_AMP", .i16, .rw, .imm, (-32768), 32767, [], 1, [.int 328]⟩]

/-- Entries of page 0x4000 (09 R319). -/
def dictPage16b : List DRow := [
  ⟨0x4034, 0x00, 0x00, "INJ_MAX", .u8, .rwc, .imm, 1, 50, [], 1, [.int 10]⟩,
  ⟨0x4035, 0x00, 0x00, "INJ_F0", .u32, .rw, .imm, 0, 4294967295, [], 1, [.int 10000]⟩,
  ⟨0x4035, 0x01, 0x01, "INJ_F1", .u32, .rw, .imm, 0, 125000000, [], 1, [.int 5000000]⟩,
  ⟨0x4036, 0x00, 0x00, "INJ_CHIP", .u8, .rw, .imm, 1, 255, [], 1, [.int 1]⟩,
  ⟨0x4037, 0x00, 0x00, "INJ_LEN", .u16, .rw, .imm, 1, 65535, [], 1, [.int 16384]⟩,
  ⟨0x4038, 0x00, 0x00, "INJ_DEST", .enum, .rw, .imm, 0, 1, [], 1, [.int 0]⟩,
  ⟨0x4039, 0x00, 0x00, "INJ_SYNC", .bool, .rw, .imm, 0, 1, [], 1, [.int 0]⟩,
  ⟨0x403A, 0x00, 0x00, "INJ_START", .bool, .wo, .imm, 0, 1, [], 1, [.int 0]⟩,
  ⟨0x403B, 0x00, 0x00, "INJ_STOP", .bool, .wo, .imm, 0, 1, [], 1, [.int 0]⟩,
  ⟨0x403C, 0x00, 0x00, "INJ_STATUS", .u8, .ro, .none, 0, 255, [], 1, [.int 0]⟩,
  ⟨0x403D, 0x00, 0x00, "INJ_BUFFER", .blob, .ro, .none, 0, 0, [], 1, [.bytes []]⟩]

/-- Page 0x4000. -/
def dictPage16 : List DRow := dictPage16a ++ dictPage16b

/-- Entries of page 0x4400 (10 R355). -/
def dictPage17a : List DRow := [
  ⟨0x4400, 0x00, 0x00, "ADC_REF_ENABLE", .bool, .rw, .imm, 0, 1, [], 1, [.int 0]⟩,
  ⟨0x4401, 0x00, 0x00, "ADC_REF_READY", .bool, .ro, .none, 0, 1, [], 1, [.int 0]⟩,
  ⟨0x4402, 0x00, 0x03, "ADC_SEQ_ENABLE", .bool, .rw, .imm, 0, 1, [], 1, [.int 0]⟩,
  ⟨0x4403, 0x00, 0x7F, "ADC_SLOT", .u8, .rwc, .imm, 0, 255, [], 1, [.int 0]⟩,
  ⟨0x4404, 0x00, 0x03, "ADC_SEQ_COMMIT", .bool, .wo, .imm, 0, 1, [], 1, [.int 0]⟩,
  ⟨0x4405, 0x00, 0x03, "ADC_SEQ_STATUS", .u8, .ro, .none, 0, 255, [], 1, [.int 0]⟩,
  ⟨0x4408, 0x00, 0x3F, "LCH_SRC", .u8, .rwc, .imm, 0, 15,
    [32, 33, 34, 35, 36, 37, 38, 40, 41, 42, 43, 44, 45, 46, 47, 48, 49, 50, 51, 52, 53, 54, 55, 63], 1, [.int 63]⟩,
  ⟨0x4409, 0x00, 0x3F, "LCH_GAIN", .enum, .rw, .imm, 0, 4, [], 1, [.int 0]⟩,
  ⟨0x440A, 0x00, 0x3F, "LCH_AUTO", .bool, .rw, .imm, 0, 1, [], 1, [.int 0]⟩,
  ⟨0x440B, 0x00, 0x3F, "LCH_GAIN_ACT", .enum, .ro, .none, 0, 255, [], 1, [.int 0]⟩,
  ⟨0x440C, 0x00, 0x3F, "LCH_EXC", .u8, .rwc, .imm, 0, 7, [255], 1, [.int 255]⟩,
  ⟨0x440D, 0x00, 0x3F, "LCH_SKEW", .u16, .ro, .none, 0, 65535, [], 1, [.int 0]⟩,
  ⟨0x440E, 0x00, 0x3F, "LCH_RATE", .u32, .ro, .none, 0, 4294967295, [], 1, [.int 0]⟩,
  ⟨0x4410, 0x00, 0x07, "EXC_MODE", .enum, .rw, .imm, 0, 2, [], 1, [.int 0]⟩,
  ⟨0x4411, 0x00, 0x07, "EXC_VOLT", .u16, .rw, .imm, 50, 500, [], 1, [.int 250]⟩,
  ⟨0x4412, 0x00, 0x07, "EXC_CURR", .u16, .rw, .imm, 50, 2000, [], 1, [.int 1000]⟩,
  ⟨0x4413, 0x00, 0x00, "EXC_SETTLE", .u16, .rw, .imm, 10, 10000, [], 1, [.int 200]⟩,
  ⟨0x4414, 0x00, 0x07, "EXC_STATUS", .u8, .ro, .none, 0, 255, [], 1, [.int 0]⟩,
  ⟨0x4418, 0x00, 0x00, "AIN_BURNOUT", .u16, .rw, .imm, 0, 65535, [], 1, [.int 0]⟩,
  ⟨0x4419, 0x00, 0x00, "AIN_BIAS", .u16, .rw, .imm, 0, 65535, [], 1, [.int 0]⟩,
  ⟨0x4420, 0x00, 0x1F, "MEAS_SIG", .u8, .rwc, .imm, 0, 63, [255], 1, [.int 255]⟩,
  ⟨0x4421, 0x00, 0x1F, "MEAS_REF", .u8, .rwc, .imm, 0, 63, [255], 1, [.int 255]⟩,
  ⟨0x4422, 0x00, 0x1F, "MEAS_CURVE", .enum, .rwc, .imm, 0, 10, [], 1, [.int 0]⟩,
  ⟨0x4423, 0x00, 0x1F, "MEAS_SCALE", .fx32, .rwc, .imm, 0, 0, [], 1, [.fx 1 0]⟩,
  ⟨0x4424, 0x00, 0x5F, "MEAS_SH", .fx32, .rwc, .imm, 0, 0, [], 1, [.fx 0 0]⟩,
  ⟨0x4425, 0x00, 0x1F, "MEAS_TABLE", .blob, .rwc, .imm, 0, 0, [], 1, [.bytes []]⟩,
  ⟨0x4426, 0x00, 0x00, "CJ_OFFSET", .i16, .rw, .imm, (-200), 200, [], 1, [.int 0]⟩,
  ⟨0x4427, 0x00, 0x1F, "MEAS_VALUE", .i32, .ro, .none, (-2147483648), 2147483647, [], 1, [.int 0]⟩,
  ⟨0x4428, 0x00, 0x1F, "MEAS_STATUS", .u8, .ro, .none, 0, 255, [], 1, [.int 0]⟩,
  ⟨0x4429, 0x00, 0x00, "MEAS_BROKEN", .u32, .ro, .none, 0, 4294967295, [], 1, [.int 0]⟩,
  ⟨0x4430, 0x00, 0x01, "LOOP_SRC", .u8, .rwc, .imm, 16, 67, [0], 1, [.int 0]⟩,
  ⟨0x4431, 0x00, 0x03, "LOOP_Q", .i32, .rwc, .imm, (-2147483648), 2147483647, [], 1, [.int 0, .int 1000]⟩,
  ⟨0x4432, 0x00, 0x01, "LOOP_FAULT_LEVEL", .enum, .rwc, .imm, 0, 1, [], 1, [.int 0]⟩,
  ⟨0x4433, 0x00, 0x01, "LOOP_HOLD", .u8, .rw, .imm, 1, 255, [], 1, [.int 3]⟩,
  ⟨0x4434, 0x00, 0x01, "LOOP_I_MEAS", .u16, .ro, .none, 0, 65535, [], 1, [.int 0]⟩,
  ⟨0x4435, 0x00, 0x01, "LOOP_STATUS", .u8, .ro, .none, 0, 255, [], 1, [.int 0]⟩,
  ⟨0x4440, 0x00, 0x03, "ZONE_FUNC", .enum, .rw, .frame, 0, 4, [], 1, [.int 0]⟩,
  ⟨0x4441, 0x00, 0x07, "ZONE_AZ", .i16, .rw, .frame, (-32768), 32767, [], 1, [.int 0]⟩,
  ⟨0x4442, 0x00, 0x07, "ZONE_CH", .u8, .rw, .frame, 0, 255, [], 1, [.int 0]⟩,
  ⟨0x4443, 0x00, 0x03, "ZONE_K", .fx32, .rw, .frame, 0, 0, [], 1, [.fx 1 0]⟩]

/-- Entries of page 0x4400 (10 R355). -/
def dictPage17b : List DRow := [
  ⟨0x4444, 0x00, 0x03, "ZONE_MIN_PTS", .u16, .rw, .frame, 1, 65535, [], 1, [.int 16]⟩,
  ⟨0x4445, 0x00, 0x03, "ZONE_VALUE", .i32, .ro, .none, (-2147483648), 2147483647, [], 1, [.int 0]⟩,
  ⟨0x4446, 0x00, 0x03, "ZONE_VALID", .bool, .ro, .none, 0, 1, [], 1, [.int 0]⟩]

/-- Page 0x4400. -/
def dictPage17 : List DRow := dictPage17a ++ dictPage17b

/-- Entries of page 0x4800 (11 R376). -/
def dictPage18 : List DRow := [
  ⟨0x4800, 0x00, 0x3F, "FLT_HB", .u8, .rw, .imm, 0, 6, [], 1, [.int 0]⟩,
  ⟨0x4801, 0x00, 0x3F, "FLT_FIR_EN", .bool, .rw, .imm, 0, 1, [], 1, [.int 0]⟩,
  ⟨0x4802, 0x00, 0x3F, "FLT_DCB_CORNER", .u16, .rw, .imm, 1, 1000, [0], 1, [.int 0]⟩,
  ⟨0x4803, 0x00, 0x3F, "FLT_DCB_FREEZE", .bool, .rw, .imm, 0, 1, [], 1, [.int 0]⟩,
  ⟨0x4804, 0x00, 0x03, "FLT_COEF_A", .blob, .rw, .imm, 0, 0, [], 1, [.bytes []]⟩,
  ⟨0x4805, 0x00, 0x03, "FLT_COEF_B", .blob, .rw, .imm, 0, 0, [], 1, [.bytes []]⟩,
  ⟨0x4806, 0x00, 0x3F, "FLT_BANK_SEL", .enum, .rw, .imm, 0, 1, [], 1, [.int 0]⟩,
  ⟨0x4807, 0x00, 0x3F, "FLT_BANK_ACT", .enum, .ro, .none, 0, 255, [], 1, [.int 0]⟩,
  ⟨0x4808, 0x00, 0x3F, "FLT_SWAP_MODE", .enum, .rw, .imm, 0, 1, [], 1, [.int 1]⟩,
  ⟨0x4809, 0x00, 0x3F, "FLT_XFADE_N", .u8, .rw, .imm, 0, 10, [], 1, [.int 6]⟩,
  ⟨0x480A, 0x00, 0x00, "FLT_SYNC", .bool, .wo, .imm, 0, 1, [], 1, [.int 0]⟩,
  ⟨0x480B, 0x00, 0x00, "FLT_SYNC_MODE", .enum, .rw, .imm, 0, 2, [], 1, [.int 0]⟩,
  ⟨0x480C, 0x00, 0x3F, "FLT_PERIOD", .u32, .ro, .none, 0, 4294967295, [], 1, [.int 0]⟩,
  ⟨0x480D, 0x00, 0x3F, "FLT_GDELAY", .u32, .ro, .none, 0, 4294967295, [], 1, [.int 0]⟩,
  ⟨0x480E, 0x00, 0x3F, "FLT_SETTLE", .u8, .ro, .none, 0, 255, [], 1, [.int 0]⟩,
  ⟨0x480F, 0x00, 0x3F, "FLT_STATUS", .u8, .ro, .none, 0, 255, [], 1, [.int 0]⟩,
  ⟨0x4810, 0x00, 0x03, "FLT_SAT", .u32, .ro, .none, 0, 4294967295, [], 1, [.int 0]⟩,
  ⟨0x4811, 0x00, 0x07, "FLT_SET_ID", .u32, .ro, .none, 0, 4294967295, [], 1, [.int 0]⟩]

/-- Entries of page 0x5000 (12 R401). -/
def dictPage20 : List DRow := [
  ⟨0x5000, 0x00, 0x03, "CAM_PORT_LANES", .u8, .rwc, .rst, 0, 2, [4], 1, [.int 0]⟩,
  ⟨0x5001, 0x00, 0x03, "CAM_PORT_POL", .u8, .rwc, .rst, 0, 255, [], 1, [.int 0]⟩,
  ⟨0x5008, 0x00, 0x07, "CAM_CTX_EN", .bool, .rw, .ctx, 0, 1, [], 1, [.int 0]⟩,
  ⟨0x5009, 0x00, 0x07, "CAM_CTX_VC", .u8, .rwc, .ctx, 0, 15, [], 1, [.int 0]⟩,
  ⟨0x500A, 0x00, 0x07, "CAM_CTX_DT", .enum, .rwc, .ctx, 0, 2, [], 1, [.int 0]⟩,
  ⟨0x500B, 0x00, 0x07, "CAM_CTX_SIZE", .u32, .rwc, .ctx, 0, 4294967295, [], 1, [.int 125830200]⟩,
  ⟨0x500C, 0x00, 0x07, "CAM_CTX_BAYER", .enum, .rw, .ctx, 0, 3, [], 1, [.int 0]⟩,
  ⟨0x500D, 0x00, 0x07, "CAM_FRAME_TIME", .u32, .rw, .ctx, 1000, 1000000, [], 1, [.int 33333]⟩,
  ⟨0x500E, 0x00, 0x07, "CAM_PRIO", .u8, .rw, .ctx, 0, 7, [], 1, [.int 0]⟩,
  ⟨0x500F, 0x00, 0x07, "CAM_T_OFS", .i32, .rw, .ctx, (-2147483648), 2147483647, [], 1, [.int 0]⟩,
  ⟨0x5010, 0x00, 0x1F, "CAM_BLACK", .u16, .rw, .ctx, 0, 65535, [], 1, [.int 0]⟩,
  ⟨0x5011, 0x00, 0x07, "CAM_DPC_THR", .u16, .rw, .ctx, 0, 65535, [], 1, [.int 0]⟩,
  ⟨0x5012, 0x00, 0x17, "CAM_WB", .u16, .rw, .ctx, 0, 16383, [], 1, [.int 1024]⟩,
  ⟨0x5013, 0x00, 0x47, "CAM_CCM", .i16, .rw, .ctx, (-32768), 32767, [], 1, [.int 1024, .int 0, .int 0, .int 0, .int 1024, .int 0, .int 0, .int 0, .int 1024]⟩,
  ⟨0x5014, 0x00, 0x07, "CAM_GAMMA", .enum, .rw, .ctx, 0, 2, [], 1, [.int 1]⟩,
  ⟨0x5015, 0x00, 0x07, "CAM_GAMMA_LUT", .blob, .rw, .ctx, 0, 0, [], 1, [.bytes []]⟩,
  ⟨0x5016, 0x00, 0x07, "CAM_OUT_FMT", .enum, .rw, .ctx, 0, 2, [], 1, [.int 0]⟩,
  ⟨0x5017, 0x00, 0x07, "CAM_OUT_SIZE", .u32, .rw, .ctx, 0, 4294967295, [], 1, [.int 125830200]⟩,
  ⟨0x5018, 0x00, 0x07, "CAM_RING", .u8, .rwc, .rst, 0, 31, [], 1, [.int 2]⟩,
  ⟨0x5019, 0x00, 0x07, "CAM_STAT_RING", .u8, .rwc, .rst, 0, 31, [255], 1, [.int 255]⟩,
  ⟨0x501A, 0x00, 0x07, "CAM_THROTTLE", .bool, .rw, .ctx, 0, 1, [], 1, [.int 1]⟩,
  ⟨0x5020, 0x00, 0x3F, "CAM_INTR", .fx32, .rw, .ctx, 0, 0, [], 1, [.fx 0 0]⟩,
  ⟨0x5021, 0x00, 0x5F, "CAM_EXTR", .fx32, .rw, .ctx, 0, 0, [], 1, [.fx 0 0]⟩,
  ⟨0x5022, 0x00, 0x07, "CAM_CMAP_DIV", .enum, .rwc, .ctx, 0, 2, [], 1, [.int 1]⟩,
  ⟨0x5023, 0x00, 0xFF, "CAM_BEAM_EL", .i16, .rwc, .frame, (-32768), 32767, [], 1, [.int 0]⟩,
  ⟨0x5030, 0x00, 0x00, "CAM_CONTAM_RATIO", .u8, .rw, .frame, 10, 90, [], 1, [.int 50]⟩,
  ⟨0x5031, 0x00, 0x00, "CAM_CONTAM_TAU", .u16, .rw, .frame, 64, 65535, [], 1, [.int 6000]⟩,
  ⟨0x5032, 0x00, 0x00, "CAM_CONTAM_FRAMES", .u8, .rw, .frame, 1, 255, [], 1, [.int 20]⟩,
  ⟨0x5033, 0x00, 0x00, "CAM_CONTAM_WIN", .u8, .rw, .frame, 1, 64, [], 1, [.int 8]⟩,
  ⟨0x5034, 0x00, 0x00, "CAM_CONTAM_MINLUMA", .u8, .rw, .frame, 0, 255, [], 1, [.int 32]⟩,
  ⟨0x5035, 0x00, 0x00, "CAM_CONTAM", .u8, .ro, .none, 0, 255, [], 1, [.int 0]⟩,
  ⟨0x5040, 0x00, 0x07, "CAM_FRAMES", .u32, .ro, .none, 0, 4294967295, [], 1, [.int 0]⟩,
  ⟨0x5041, 0x00, 0x07, "CAM_DROP", .u32, .ro, .none, 0, 4294967295, [], 1, [.int 0]⟩]

/-- Entries of page 0x6000 (13 R429; 14 R462). -/
def dictPage24a : List DRow := [
  ⟨0x6000, 0x00, 0x00, "SAFECFG_PINS", .u8, .ro, .none, 0, 255, [], 1, [.int 0]⟩,
  ⟨0x6001, 0x00, 0x00, "SAFE_SET_NO", .u8, .ro, .none, 0, 255, [], 1, [.int 0]⟩,
  ⟨0x6002, 0x00, 0x00, "SAFE_SET_CRC", .u32, .ro, .none, 0, 4294967295, [], 1, [.int 0]⟩,
  ⟨0x6003, 0x00, 0x00, "SAFE_SET_ID", .u32, .rws, .rst, 0, 4294967295, [], 1, [.int 0]⟩,
  ⟨0x6010, 0x00, 0x0F, "SI_FILTER", .u8, .rws, .rst, 1, 100, [], 1, [.int 5]⟩,
  ⟨0x6011, 0x00, 0x0F, "SI_TP_SRC", .u8, .rws, .rst, 0, 7, [255], 1, [.int 255]⟩,
  ⟨0x6012, 0x00, 0x03, "EDM_TP_SRC", .u8, .rws, .rst, 0, 7, [255], 1, [.int 255]⟩,
  ⟨0x6020, 0x00, 0x00, "TP_PERIOD", .u8, .rws, .rst, 20, 200, [], 1, [.int 40]⟩,
  ⟨0x6021, 0x00, 0x00, "TP_WIDTH", .u16, .rws, .rst, 50, 300, [], 1, [.int 200]⟩,
  ⟨0x6022, 0x00, 0x00, "TP_RECOVERY", .u16, .rws, .rst, 0, 500, [], 1, [.int 100]⟩,
  ⟨0x6023, 0x00, 0x00, "TP_ENABLE", .u8, .rws, .rst, 0, 255, [], 1, [.int 255]⟩,
  ⟨0x6030, 0x00, 0x0B, "SF_TYPE", .enum, .rws, .rst, 0, 8, [], 1, [.int 0]⟩,
  ⟨0x6031, 0x00, 0x0B, "SF_IN", .u32, .rws, .rst, 0, 4294967295, [], 1, [.int 4294967295]⟩,
  ⟨0x6032, 0x00, 0x0B, "SF_OUT", .u8, .rws, .rst, 0, 15, [], 1, [.int 0]⟩,
  ⟨0x6033, 0x00, 0x0B, "SF_DISC", .u16, .rws, .rst, 10, 3000, [], 1, [.int 100]⟩,
  ⟨0x6034, 0x00, 0x0B, "SF_RESTART", .enum, .rws, .rst, 0, 1, [], 1, [.int 1]⟩,
  ⟨0x6035, 0x00, 0x0B, "SF_RESET_SI", .u8, .rws, .rst, 0, 15, [255], 1, [.int 255]⟩,
  ⟨0x6036, 0x00, 0x0B, "SF_STARTUP", .bool, .rws, .rst, 0, 1, [], 1, [.int 0]⟩,
  ⟨0x6037, 0x00, 0x0B, "LC_TP_TOL", .u8, .rws, .rst, 1, 10, [], 1, [.int 10]⟩,
  ⟨0x6040, 0x00, 0x03, "SO_DT_WIDTH", .u16, .rws, .rst, 100, 400, [], 1, [.int 200]⟩,
  ⟨0x6041, 0x00, 0x03, "SO_DT_PERIOD", .u16, .rws, .rst, 1, 600, [], 1, [.int 10]⟩,
  ⟨0x6042, 0x00, 0x03, "EDM_MODE", .enum, .rws, .rst, 0, 1, [], 1, [.int 1]⟩,
  ⟨0x6043, 0x00, 0x03, "EDM_TIME", .u16, .rws, .rst, 10, 1000, [], 1, [.int 300]⟩,
  ⟨0x6050, 0x00, 0x0B, "SF_STATE", .enum, .ro, .none, 0, 255, [], 1, [.int 0]⟩,
  ⟨0x6051, 0x00, 0x00, "SI_STATE", .u16, .ro, .none, 0, 65535, [], 1, [.int 0]⟩,
  ⟨0x6052, 0x00, 0x0F, "SI_FAULT", .u8, .ro, .none, 0, 255, [], 1, [.int 0]⟩,
  ⟨0x6053, 0x00, 0x00, "SO_STATE", .u8, .ro, .none, 0, 255, [], 1, [.int 0]⟩,
  ⟨0x6054, 0x00, 0x03, "SO_FAULT", .u8, .ro, .none, 0, 255, [], 1, [.int 0]⟩,
  ⟨0x6055, 0x00, 0x00, "TP_FAULT", .u8, .ro, .none, 0, 255, [], 1, [.int 0]⟩,
  ⟨0x6100, 0x00, 0x3F, "FLD_DEF", .blob, .rws, .rst, 0, 0, [], 1, [.bytes []]⟩,
  ⟨0x6101, 0x00, 0x00, "FLD_N_CONFIRM", .u8, .rws, .rst, 1, 8, [], 1, [.int 2]⟩,
  ⟨0x6102, 0x00, 0x00, "FLD_CLEAR_FRAMES", .u8, .rws, .rst, 1, 16, [], 1, [.int 2]⟩,
  ⟨0x6103, 0x00, 0x00, "FLD_TOL", .u16, .rws, .rst, 0, 1000, [], 1, [.int 100]⟩,
  ⟨0x6104, 0x00, 0x00, "FLD_IGNORE_CLASS", .u8, .rws, .rst, 0, 255, [], 1, [.int 0]⟩,
  ⟨0x6105, 0x00, 0x00, "REF_CHK_MIN", .u16, .rws, .rst, 1, 1024, [], 1, [.int 16]⟩,
  ⟨0x6106, 0x00, 0x00, "REF_CHK_TOL", .u16, .rws, .rst, 5, 500, [], 1, [.int 30]⟩,
  ⟨0x6110, 0x00, 0x00, "FS_SEL_MODE", .enum, .rws, .rst, 0, 2, [], 1, [.int 0]⟩,
  ⟨0x6111, 0x00, 0x00, "FS_FIXED", .u8, .rws, .rst, 0, 15, [], 1, [.int 0]⟩,
  ⟨0x6112, 0x00, 0x07, "FS_SEL_SI", .u8, .rws, .rst, 0, 15, [255], 1, [.int 255]⟩,
  ⟨0x6113, 0x00, 0x07, "FS_INMAP", .u8, .rws, .rst, 0, 15, [], 1, [.int 0]⟩]

/-- Entries of page 0x6000 (14 R462). -/
def dictPage24b : List DRow := [
  ⟨0x6114, 0x00, 0x00, "FS_SEL_TIME", .u8, .rws, .rst, 1, 200, [], 1, [.int 20]⟩,
  ⟨0x6115, 0x00, 0x0F, "FS_SPEED_LO", .i16, .rws, .rst, (-32768), 32767, [], 1, [.int (-32768)]⟩,
  ⟨0x6116, 0x00, 0x0F, "FS_SPEED_HI", .i16, .rws, .rst, (-32768), 32767, [], 1, [.int (-32768)]⟩,
  ⟨0x6120, 0x00, 0x00, "SPDU_KEY", .u32, .rws, .rst, 0, 4294967295, [], 1, [.int 0]⟩,
  ⟨0x6121, 0x00, 0x00, "SPDU_NODE", .u8, .rws, .rst, 0, 15, [], 1, [.int 0]⟩,
  ⟨0x6122, 0x00, 0x00, "SPDU_TX_ID", .u16, .rws, .rst, 0, 2047, [], 1, [.int 256]⟩,
  ⟨0x6123, 0x00, 0x00, "SPDU_CYCLE", .u8, .rws, .rst, 2, 100, [], 1, [.int 10]⟩,
  ⟨0x6124, 0x00, 0x03, "SPDU_RX_ID", .u16, .rws, .rst, 0, 2047, [65535], 1, [.int 65535]⟩,
  ⟨0x6125, 0x00, 0x03, "SPDU_RX_TYPE", .u8, .rws, .rst, 2, 3, [0], 1, [.int 0]⟩,
  ⟨0x6126, 0x00, 0x03, "SPDU_RX_NODE", .u8, .rws, .rst, 0, 15, [], 1, [.int 0]⟩,
  ⟨0x6127, 0x00, 0x03, "SPDU_RX_TIMEOUT", .u16, .rws, .rst, 10, 1000, [], 1, [.int 50]⟩,
  ⟨0x6128, 0x00, 0x00, "SPDU_TIME_CHECK", .bool, .rws, .rst, 0, 1, [], 1, [.int 0]⟩,
  ⟨0x6129, 0x00, 0x00, "SPDU_MAX_AGE", .u16, .rws, .rst, 1, 1000, [], 1, [.int 20]⟩,
  ⟨0x612A, 0x00, 0x00, "SPDU_VER_DEV", .u32, .ro, .none, 0, 4294967295, [], 1, [.int 16777472]⟩,
  ⟨0x6130, 0x00, 0x00, "FS_ACTIVE", .u8, .ro, .none, 0, 255, [], 1, [.int 0]⟩,
  ⟨0x6131, 0x00, 0x00, "FS_STATUS", .u8, .ro, .none, 0, 255, [], 1, [.int 0]⟩,
  ⟨0x6132, 0x00, 0x00, "FLD_STATE", .u8, .ro, .none, 0, 255, [], 1, [.int 15]⟩,
  ⟨0x6133, 0x00, 0x07, "REF_CHK_FAIL", .u32, .ro, .none, 0, 4294967295, [], 1, [.int 0]⟩,
  ⟨0x6134, 0x00, 0x00, "NET_STATUS", .u8, .ro, .none, 0, 255, [], 1, [.int 0]⟩,
  ⟨0x6135, 0x00, 0x00, "SPDU_LOST", .u32, .ro, .none, 0, 4294967295, [], 1, [.int 0]⟩,
  ⟨0x6136, 0x00, 0x00, "SPDU_ERR", .u32, .ro, .none, 0, 4294967295, [], 1, [.int 0]⟩]

/-- Page 0x6000. -/
def dictPage24 : List DRow := dictPage24a ++ dictPage24b

/-- Entries of page 0x6800 (15 R487). -/
def dictPage26 : List DRow := [
  ⟨0x6800, 0x00, 0x00, "REC_ENABLE", .bool, .rw, .imm, 0, 1, [], 1, [.int 1]⟩,
  ⟨0x6801, 0x00, 0x00, "REC_DDR_RATE", .enum, .rwc, .rst, 0, 2, [], 1, [.int 2]⟩,
  ⟨0x6802, 0x00, 0x00, "REC_CAP", .u32, .ro, .none, 0, 4294967295, [], 1, [.int 0]⟩,
  ⟨0x6803, 0x00, 0x00, "REC_BOOT_EPOCH", .u16, .ro, .none, 0, 65535, [], 1, [.int 0]⟩,
  ⟨0x6804, 0x00, 0x00, "REC_CH_OOS", .u8, .ro, .none, 0, 255, [], 1, [.int 0]⟩,
  ⟨0x6810, 0x00, 0x0F, "REC_SOURCE", .enum, .rwc, .rst, 0, 11, [], 1, [.int 0]⟩,
  ⟨0x6811, 0x00, 0x0F, "REC_SEL", .u64, .rw, .frame, 0, 18446744073709551615, [], 1, [.int 0]⟩,
  ⟨0x6812, 0x00, 0x0F, "REC_SIZE", .u32, .rwc, .rst, 0, 4294967295, [], 1, [.int 0]⟩,
  ⟨0x6813, 0x00, 0x0F, "REC_SEGMENTS", .u8, .rwc, .rst, 1, 8, [], 1, [.int 1]⟩,
  ⟨0x6814, 0x00, 0x0F, "REC_POST", .u32, .rw, .imm, 0, 4294967295, [], 1, [.int 0]⟩,
  ⟨0x6815, 0x00, 0x0F, "REC_POST_TMAX", .u32, .rw, .imm, 1, 600000, [], 1, [.int 10000]⟩,
  ⟨0x6816, 0x00, 0x0F, "REC_TRIG_SRC", .u8, .rw, .imm, 0, 255, [], 1, [.int 1]⟩,
  ⟨0x6817, 0x00, 0x0F, "REC_OVERWRITE", .bool, .rw, .imm, 0, 1, [], 1, [.int 0]⟩,
  ⟨0x6818, 0x00, 0x1F, "REC_DEADBAND", .i32, .rw, .imm, (-2147483648), 2147483647, [], 1, [.int 0]⟩,
  ⟨0x6819, 0x00, 0x00, "REC_KEYFRAME", .u16, .rw, .imm, 10, 10000, [], 1, [.int 100]⟩,
  ⟨0x681A, 0x00, 0x00, "REC_AUTO", .u32, .rw, .imm, 100, 3600000, [], 1, [.int 60000]⟩,
  ⟨0x681B, 0x00, 0x00, "REC_TRIG_CLASS", .u8, .rw, .imm, 0, 4, [], 1, [.int 3]⟩,
  ⟨0x681C, 0x00, 0x00, "REC_SL_IN", .u8, .rw, .imm, 0, 255, [], 1, [.int 0]⟩,
  ⟨0x681D, 0x00, 0x00, "REC_SL_OUT", .u8, .rw, .imm, 0, 255, [], 1, [.int 0]⟩,
  ⟨0x681E, 0x00, 0x00, "REC_SL_OUT_SRC", .u8, .rw, .imm, 0, 255, [], 1, [.int 2]⟩,
  ⟨0x681F, 0x00, 0x00, "REC_TRIG", .bool, .wo, .imm, 0, 1, [], 1, [.int 0]⟩,
  ⟨0x6820, 0x00, 0x00, "REC_REARM", .u16, .wo, .imm, 0, 65535, [], 1, [.int 0]⟩,
  ⟨0x6821, 0x00, 0x00, "REC_RELEASE", .u8, .wo, .imm, 0, 255, [], 1, [.int 0]⟩,
  ⟨0x6822, 0x00, 0x00, "REC_READ", .u16, .wo, .imm, 0, 65535, [], 1, [.int 0]⟩,
  ⟨0x6823, 0x00, 0x00, "REC_READ_STATUS", .enum, .ro, .none, 0, 255, [], 1, [.int 0]⟩,
  ⟨0x6824, 0x00, 0x00, "REC_MISSED_CLR", .u16, .wo, .imm, 0, 65535, [], 1, [.int 0]⟩,
  ⟨0x6828, 0x00, 0x0F, "REC_STATE", .enum, .ro, .none, 0, 255, [], 1, [.int 0]⟩,
  ⟨0x6829, 0x00, 0x0F, "REC_LOST", .u32, .ro, .none, 0, 4294967295, [], 1, [.int 0]⟩,
  ⟨0x682A, 0x00, 0x0F, "REC_MISSED", .u32, .ro, .none, 0, 4294967295, [], 1, [.int 0]⟩,
  ⟨0x682B, 0x00, 0x0F, "REC_MISSED_T", .t64, .ro, .none, 0, 18446744073709551615, [], 1, [.int 0]⟩,
  ⟨0x682C, 0x00, 0x0F, "REC_RETRIG", .u32, .ro, .none, 0, 4294967295, [], 1, [.int 0]⟩,
  ⟨0x6840, 0x00, 0x27, "MASK_MON_LIM", .i32, .rw, .imm, (-2147483648), 2147483647, [], 1, [.int 0]⟩,
  ⟨0x6841, 0x00, 0x00, "MASK_MIR_ERR", .u16, .rw, .imm, 0, 65535, [], 1, [.int 0]⟩,
  ⟨0x6842, 0x00, 0x00, "MASK_REF_TOL", .u16, .rw, .imm, 0, 65535, [], 1, [.int 0]⟩,
  ⟨0x6843, 0x00, 0x05, "MASK_N", .u8, .rw, .imm, 1, 255, [], 1, [.int 1]⟩,
  ⟨0x6844, 0x00, 0x05, "MASK_ACTION", .enum, .rw, .imm, 0, 2, [], 1, [.int 0]⟩,
  ⟨0x6845, 0x00, 0x05, "MASK_COUNT", .u32, .ro, .none, 0, 4294967295, [], 1, [.int 0]⟩]

/-- Entries of page 0x7000 (20 R618). -/
def dictPage28 : List DRow := [
  ⟨0x7000, 0x00, 0x17, "THM_NODE_T", .i16, .ro, .none, (-32768), 32767, [], 1, [.int 0]⟩,
  ⟨0x7001, 0x00, 0x09, "THM_SENSOR_T", .i16, .ro, .none, (-32768), 32767, [], 1, [.int 0]⟩,
  ⟨0x7002, 0x00, 0x00, "THM_SENSOR_BROKEN", .u16, .ro, .none, 0, 65535, [], 1, [.int 0]⟩,
  ⟨0x7003, 0x00, 0x00, "THM_T_DIE_MAX", .i16, .ro, .none, (-32768), 32767, [], 1, [.int 0]⟩,
  ⟨0x7003, 0x01, 0x01, "THM_T_DIE_MIN", .i16, .ro, .none, (-32768), 32767, [], 1, [.int 0]⟩,
  ⟨0x7004, 0x00, 0x00, "THM_T_THR", .i16, .ro, .none, (-32768), 32767, [], 1, [.int 0]⟩,
  ⟨0x7005, 0x00, 0x00, "THM_L", .u16, .ro, .none, 0, 65535, [], 1, [.int 256]⟩,
  ⟨0x7006, 0x00, 0x00, "THM_LM_CH", .u8, .rwc, .rst, 0, 31, [], 1, [.int 0]⟩,
  ⟨0x7007, 0x00, 0x00, "THM_RTH_SINK", .u16, .rwc, .rst, 5, 1000, [], 1, [.int 50]⟩,
  ⟨0x7008, 0x00, 0x00, "THM_PLAUS", .u8, .rw, .imm, 5, 50, [], 1, [.int 15]⟩,
  ⟨0x7009, 0x00, 0x00, "THM_CORR_MAX", .u8, .rw, .imm, 1, 10, [], 1, [.int 5]⟩,
  ⟨0x700A, 0x00, 0x00, "THM_POWER", .u32, .ro, .none, 0, 4294967295, [], 1, [.int 0]⟩,
  ⟨0x700A, 0x01, 0x01, "THM_POWER_CORE", .u32, .ro, .none, 0, 4294967295, [], 1, [.int 0]⟩,
  ⟨0x700A, 0x02, 0x02, "THM_POWER_FLD", .u32, .ro, .none, 0, 4294967295, [], 1, [.int 0]⟩,
  ⟨0x700B, 0x00, 0x83, "THM_ISLAND_P", .u16, .ro, .none, 0, 65535, [], 1, [.int 0]⟩,
  ⟨0x700C, 0x00, 0x00, "THM_THROTTLED_MS", .u32, .ro, .none, 0, 4294967295, [], 1, [.int 0]⟩,
  ⟨0x700D, 0x00, 0x00, "THM_SHUTDOWNS", .u16, .ro, .none, 0, 65535, [], 1, [.int 0]⟩,
  ⟨0x7010, 0x00, 0x00, "VCORE_MODE", .enum, .rwc, .rst, 0, 1, [], 1, [.int 0]⟩,
  ⟨0x7011, 0x00, 0x00, "VCORE_FIXED", .u8, .rwc, .rst, 0, 15, [], 1, [.int 10]⟩,
  ⟨0x7012, 0x00, 0x00, "VCORE_ACT", .u8, .ro, .none, 0, 255, [], 1, [.int 10]⟩,
  ⟨0x7018, 0x00, 0x00, "DORM_WAKE_EN", .u8, .rwc, .imm, 0, 255, [], 1, [.int 7]⟩,
  ⟨0x7019, 0x00, 0x00, "DORM_WAKE_TIME", .u32, .rwc, .imm, 0, 4294967295, [], 1, [.int 0]⟩,
  ⟨0x701A, 0x00, 0x00, "DORM_WAKE_SRC", .u8, .ro, .none, 0, 255, [], 1, [.int 0]⟩,
  ⟨0x701B, 0x00, 0x00, "DORM_DURATION", .u32, .ro, .none, 0, 4294967295, [], 1, [.int 0]⟩]

/-- Entries of page 0x7400 (16 R514). -/
def dictPage29 : List DRow := [
  ⟨0x7400, 0x00, 0x00, "EIC_FALLBACK", .u8, .rw, .imm, 0, 3, [], 1, [.int 3]⟩,
  ⟨0x7401, 0x00, 0x00, "EIC_REDIRECT_TO", .u16, .rw, .imm, 10, 1000, [], 1, [.int 50]⟩,
  ⟨0x7402, 0x00, 0x00, "EIC_WAKE_TO", .u16, .rw, .imm, 1, 1000, [], 1, [.int 10]⟩,
  ⟨0x7403, 0x00, 0x00, "EIC_SLINK_LANES", .u8, .rw, .imm, 0, 255, [], 1, [.int 0]⟩,
  ⟨0x7404, 0x00, 0x07, "EIC_VANISHED_CNT", .u32, .ro, .none, 0, 4294967295, [], 1, [.int 0]⟩,
  ⟨0x7405, 0x00, 0x07, "EIC_REDIRECT_CNT", .u32, .ro, .none, 0, 4294967295, [], 1, [.int 0]⟩,
  ⟨0x7410, 0x00, 0xFF, "EIC_LOG_ENTRY", .blob, .ro, .none, 0, 0, [], 1, [.bytes []]⟩,
  ⟨0x7411, 0x00, 0x00, "EIC_LOG_HEAD", .u32, .ro, .none, 0, 4294967295, [], 1, [.int 0]⟩,
  ⟨0x7412, 0x00, 0x04, "EIC_LOST", .u32, .ro, .none, 0, 4294967295, [], 1, [.int 0]⟩,
  ⟨0x7413, 0x00, 0x00, "EIC_FIRST", .blob, .ro, .none, 0, 0, [], 1, [.bytes []]⟩,
  ⟨0x7414, 0x00, 0x00, "EIC_FIRST_CLR", .bool, .wo, .imm, 0, 1, [], 1, [.int 0]⟩,
  ⟨0x7415, 0x00, 0x00, "EIC_FIRST_CLASS", .u8, .rw, .imm, 0, 4, [], 1, [.int 3]⟩,
  ⟨0x7416, 0x00, 0x00, "EIC_PREV_FIRST", .blob, .ro, .none, 0, 0, [], 1, [.bytes []]⟩,
  ⟨0x7417, 0x00, 0x00, "EIC_RESET_CAUSE", .u16, .ro, .none, 0, 65535, [], 1, [.int 0]⟩]

/-- Entries of page 0x7800 (17 R540). -/
def dictPage30 : List DRow := [
  ⟨0x7800, 0x00, 0x00, "PCI_MAX_SPEED", .enum, .rwc, .rst, 0, 3, [], 1, [.int 3]⟩,
  ⟨0x7801, 0x00, 0x00, "PCI_MAX_WIDTH", .enum, .rwc, .rst, 0, 2, [], 1, [.int 2]⟩,
  ⟨0x7802, 0x00, 0x00, "PCI_STAGE_SIZE", .u16, .rwc, .rst, 0, 2048, [], 1, [.int 1024]⟩,
  ⟨0x7803, 0x00, 0x00, "PCI_RETRAIN_MAX", .u16, .rw, .imm, 100, 2000, [], 1, [.int 2000]⟩,
  ⟨0x7804, 0x00, 0x00, "PCI_LANE_ERR_LIMIT", .u16, .rw, .imm, 1, 1000, [], 1, [.int 16]⟩,
  ⟨0x7805, 0x00, 0x00, "PCI_VER_DEV", .u32, .ro, .none, 0, 4294967295, [], 1, [.int 16777472]⟩,
  ⟨0x7806, 0x00, 0x00, "PCI_STAGE_LOST", .u32, .ro, .none, 0, 4294967295, [], 1, [.int 0]⟩]

/-- Entries of page 0x7C00 (19 R597). -/
def dictPage31 : List DRow := [
  ⟨0x7C00, 0x00, 0x07, "SLK_ENABLE", .bool, .rwc, .imm, 0, 1, [], 1, [.int 0]⟩,
  ⟨0x7C01, 0x00, 0x00, "SLK_MAX_RATE", .enum, .rwc, .rst, 0, 2, [], 1, [.int 2]⟩,
  ⟨0x7C02, 0x00, 0x07, "SLK_RATE", .enum, .ro, .none, 0, 255, [], 1, [.int 0]⟩,
  ⟨0x7C03, 0x00, 0x07, "SLK_STATE", .enum, .ro, .none, 0, 255, [], 1, [.int 0]⟩,
  ⟨0x7C04, 0x00, 0x00, "SLK_VER_DEV", .u32, .ro, .none, 0, 4294967295, [], 1, [.int 16777472]⟩,
  ⟨0x7C05, 0x00, 0x07, "SLK_VER_NEG", .u16, .ro, .none, 0, 65535, [], 1, [.int 0]⟩,
  ⟨0x7C06, 0x00, 0x07, "SLK_PARTNER", .str, .ro, .none, 0, 0, [], 1, [.bytes []]⟩,
  ⟨0x7C08, 0x00, 0x00, "SLK_MARK_PERIOD", .u16, .rw, .imm, 100, 10000, [], 1, [.int 1000]⟩,
  ⟨0x7C09, 0x00, 0x07, "SLK_OFFSET", .u64, .ro, .none, 0, 18446744073709551615, [], 1, [.int 0]⟩,
  ⟨0x7C0A, 0x00, 0x07, "SLK_DELAY", .u32, .ro, .none, 0, 4294967295, [], 1, [.int 0]⟩,
  ⟨0x7C0B, 0x00, 0x00, "SLK_OFS_VALID", .u8, .ro, .none, 0, 255, [], 1, [.int 0]⟩,
  ⟨0x7C0C, 0x00, 0x00, "SLK_SYNC_LANE", .u8, .rwc, .frame, 0, 7, [255], 1, [.int 255]⟩,
  ⟨0x7C10, 0x00, 0x00, "SLK_FWD_MODE", .enum, .rwc, .rst, 0, 2, [], 1, [.int 0]⟩,
  ⟨0x7C11, 0x00, 0x00, "SLK_FWD_LANE", .u8, .rwc, .rst, 0, 7, [255], 1, [.int 255]⟩,
  ⟨0x7C12, 0x00, 0x07, "SLK_FWD_PT_RING", .u8, .rwc, .rst, 0, 31, [255], 1, [.int 255]⟩,
  ⟨0x7C13, 0x00, 0x07, "SLK_FWD_HDR_RING", .u8, .rwc, .rst, 0, 31, [255], 1, [.int 255]⟩,
  ⟨0x7C14, 0x00, 0x00, "SLK_FWD_STATUS", .enum, .ro, .none, 0, 255, [], 1, [.int 0]⟩,
  ⟨0x7C15, 0x00, 0x00, "SLK_FWD_DROP", .u32, .ro, .none, 0, 4294967295, [], 1, [.int 0]⟩,
  ⟨0x7C16, 0x00, 0x07, "SLK_TRIG_DROP", .u32, .ro, .none, 0, 4294967295, [], 1, [.int 0]⟩,
  ⟨0x7C18, 0x00, 0x07, "SLK_TX_SLEEP", .bool, .rw, .imm, 0, 1, [], 1, [.int 0]⟩,
  ⟨0x7C19, 0x00, 0x07, "SLK_RX_SLEEP", .bool, .rw, .imm, 0, 1, [], 1, [.int 0]⟩,
  ⟨0x7C1A, 0x00, 0x07, "SLK_TX_AUTOWAKE", .bool, .rw, .imm, 0, 1, [], 1, [.int 1]⟩,
  ⟨0x7C1C, 0x00, 0x07, "SLK_LOOP", .enum, .rw, .imm, 0, 3, [], 1, [.int 0]⟩,
  ⟨0x7C1D, 0x00, 0x07, "SLK_PRBS", .bool, .rw, .imm, 0, 1, [], 1, [.int 0]⟩,
  ⟨0x7C1E, 0x00, 0x07, "SLK_PRBS_ERR", .u32, .ro, .none, 0, 4294967295, [], 1, [.int 0]⟩,
  ⟨0x7C20, 0x00, 0x07, "SLK_CODE_ERR", .u32, .ro, .none, 0, 4294967295, [], 1, [.int 0]⟩,
  ⟨0x7C21, 0x00, 0x07, "SLK_RETX", .u32, .ro, .none, 0, 4294967295, [], 1, [.int 0]⟩]

/-- Entries of page 0x8000 (21 R645). -/
def dictPage32 : List DRow := [
  ⟨0x8000, 0x00, 0x00, "UPD_CMD", .enum, .wo, .imm, 1, 6, [], 1, [.int 0]⟩,
  ⟨0x8001, 0x00, 0x00, "UPD_STATE", .enum, .ro, .none, 0, 255, [], 1, [.int 0]⟩,
  ⟨0x8002, 0x00, 0x00, "UPD_DATA", .blob, .wo, .imm, 0, 0, [], 1, [.bytes []]⟩,
  ⟨0x8003, 0x00, 0x00, "UPD_RECEIVED", .u32, .ro, .none, 0, 4294967295, [], 1, [.int 0]⟩,
  ⟨0x8004, 0x00, 0x00, "UPD_RESULT", .u8, .ro, .none, 0, 255, [], 1, [.int 0]⟩,
  ⟨0x8005, 0x00, 0x00, "UPD_LOCK", .u8, .ro, .none, 0, 255, [], 1, [.int 255]⟩,
  ⟨0x8006, 0x00, 0x00, "UPD_AUTH_CHALLENGE", .blob, .ro, .none, 0, 0, [], 1, [.bytes []]⟩,
  ⟨0x8007, 0x00, 0x00, "UPD_AUTH_RESPONSE", .blob, .wo, .imm, 0, 0, [], 1, [.bytes []]⟩,
  ⟨0x8008, 0x00, 0x01, "SLOT_STATE", .u8, .ro, .none, 0, 255, [], 1, [.int 0]⟩,
  ⟨0x8009, 0x00, 0x01, "SLOT_FW_VERSION", .u32, .ro, .none, 0, 4294967295, [], 1, [.int 0]⟩,
  ⟨0x800A, 0x00, 0x01, "SLOT_SEC_VERSION", .u32, .ro, .none, 0, 4294967295, [], 1, [.int 0]⟩,
  ⟨0x800B, 0x00, 0x00, "SEL_RECORD", .u32, .ro, .none, 0, 4294967295, [], 1, [.int 0]⟩,
  ⟨0x800C, 0x00, 0x02, "SEC_COUNTER", .u32, .ro, .none, 0, 4294967295, [], 1, [.int 0]⟩,
  ⟨0x800C, 0x03, 0x05, "SEC_WORDS_LEFT", .u8, .ro, .none, 0, 255, [], 1, [.int 64]⟩,
  ⟨0x800D, 0x00, 0x00, "SIG_REVOKE", .u8, .wo, .imm, 0, 255, [], 1, [.int 0]⟩,
  ⟨0x800D, 0x01, 0x01, "SIG_REVOKED", .u8, .ro, .none, 0, 255, [], 1, [.int 0]⟩,
  ⟨0x800E, 0x00, 0x00, "UPD_CONFIRM_HOST", .bool, .rwc, .imm, 0, 1, [], 1, [.int 0]⟩,
  ⟨0x800F, 0x00, 0x00, "RECOVERY_CAUSE", .enum, .ro, .none, 0, 255, [], 1, [.int 0]⟩]

/-- The rows of the page that holds a parameter number. -/
def dictPageOf (num : Nat) : List DRow :=
  match num / 1024 with
  | 4 => dictPage4
  | 8 => dictPage8
  | 9 => dictPage9
  | 10 => dictPage10
  | 11 => dictPage11
  | 12 => dictPage12
  | 13 => dictPage13
  | 14 => dictPage14
  | 16 => dictPage16
  | 17 => dictPage17
  | 18 => dictPage18
  | 20 => dictPage20
  | 24 => dictPage24
  | 26 => dictPage26
  | 28 => dictPage28
  | 29 => dictPage29
  | 30 => dictPage30
  | 31 => dictPage31
  | 32 => dictPage32
  | _ => []

/-- The row of entry num.sub, if the dictionary has it. -/
def dictFind (num sub : Nat) : Option DRow :=
  (dictPageOf num).find? fun r => r.num == num && decide (r.subLo ≤ sub) && decide (sub ≤ r.subHi)

/-- All pages in rising order of number. -/
def dictAll : List DRow :=
  dictPage4 ++ dictPage8 ++ dictPage9 ++ dictPage10 ++ dictPage11 ++ dictPage12 ++ dictPage13 ++ dictPage14 ++ dictPage16 ++ dictPage17 ++ dictPage18 ++ dictPage20 ++ dictPage24 ++ dictPage26 ++ dictPage28 ++ dictPage29 ++ dictPage30 ++ dictPage31 ++ dictPage32

end Sys2Proof.Machine
end

