-- ==== Sys2Proof/Machine/State.lean ====
section
/-!
DEFINITION. The state of the DZB-4256: every register, queue, counter, mode and pin the spec gives the
device, plus the queue of waiting commands. Plain data. A field whose comment cites a rule has its reset value
from the spec unless it says otherwise; instants are timebase counts in T64 units (7.8125 ps).
-/
namespace Sys2Proof.Machine

/-- The interrupt sources of R490 that host software routes: 96 to 262, 288 to 415 and 448 to 511. -/
abbrev hostMask : BitVec 512 :=
  BitVec.ofNat 512 ((2 ^ 263 - 2 ^ 96) + (2 ^ 416 - 2 ^ 288) + (2 ^ 512 - 2 ^ 448))

/-- Addressed RAM (the two PF1 mailbox buffers of R558): listed cells in one canonical form, see Memory.wf. -/
abbrev Memory := List Host.Cell

/-- What one unlisted byte of a mailbox buffer reads as. DESIGN CHOICE, log entry 4. -/
abbrev Memory.blank : BitVec 8 := 0

/-- Something the device puts on a link, a ball, a bus or into host memory during a command. -/
inductive Out where
  /-- A control frame on physical barrier link bl (R115): positions 1 to 7 + LEN, between SOF and EOF. -/
  | barrier (bl : Nat) (frame : List Byte)
  /-- A marker or fast-off symbol on a barrier link or on every link (R117, R118): 1, 2, 3 for K28.1, K28.2, K28.3, 16 + n for FOn. -/
  | symbol (bl k : Nat)
  /-- A gate output (R88): emitter, and whether it is high. -/
  | gate (em : Nat) (high : Bool)
  /-- A write to host memory (R270, R526). -/
  | hostWrite (addr : BitVec 64) (data : List Byte)
  /-- A posted write marked poisoned because its staged data had an uncorrectable error (R537). -/
  | poisoned (addr : BitVec 64) (data : List Byte)
  /-- An MSI-X message (R501): function and vector. -/
  | msix (func vector : Nat)
  /-- The interrupt line of core target t (R494). -/
  | coreIrq (target group : Nat)
  /-- A frame on CANA (0) or CANB (1): identifier and data (R450, R556). -/
  | can (net ident : Nat) (data : List Byte)
  /-- A packet on a Scan Link lane (R572): positions 1 to 9 + LEN, between SOP and EOP. -/
  | slk (lane : Nat) (packet : List Byte)
  /-- A K28.1 marker on a Scan Link lane (R580). -/
  | slkMarker (lane : Nat)
  /-- A Xiest response on endpoint ep (R548). -/
  | xiest (ep : Nat) (data : List Byte)
  /-- A ball or pin, by its name in the spec, driven to a value (R154, R614, R661). -/
  | ball (name : String) (value : Nat)
  /-- A feature the spec gives the device whose only effect is a notice of what it did (class of grant, shot cancelled). -/
  | note (what : String) (value : Nat)
deriving DecidableEq, Repr

/-- R19 the device states (spec/00_scope.md). -/
inductive DevState where
  | off
  | dormant
  | boot
  | config
  | run
  | safe
  | recovery
deriving DecidableEq, Repr, Inhabited

/-- R652 the reset levels (spec/00_scope.md). -/
inductive ResetLevel where
  | full
  | warm
  | pcie
deriving DecidableEq, Repr, Inhabited

/-- R655 no reset in progress; internal reset held; released and waiting for the timebase lock (spec/00_scope.md). -/
inductive ResetPhase where
  | none
  | held
  | released
deriving DecidableEq, Repr, Inhabited

/-- R80 the reasons for which firing is inhibited (spec/00_scope.md). -/
inductive Inhibit where
  | tbLoss
  | secondLink
  | eyeEcc
  | bothFeedback
  | fireRule
  | gateFault
  | unplanned
  | lceFault
  | bridge
  | watchdog
  | shutdown
  | restart
  | bridgeOff
  | lceMode
deriving DecidableEq, Repr, Inhabited

/-- R447 the causes of SAFE (spec/00_scope.md). -/
inductive SafeCause where
  | cfgBoot
  | cfgChange
  | outFault
  | gateFault
  | fireRule
  | unplanned
  | secondLink
  | eyeEcc
  | feKat
  | tbLoss
  | lceFault
  | bothFeedback
  | pduMismatch
  | netMissing
  | rxTimeout
  | remoteStop
  | noPduVersion
  | pduNotNegotiated
  | vmachLow
  | shutdown
deriving DecidableEq, Repr, Inhabited

/-- R70 which limit set the energy of a shot (spec/00_scope.md). -/
inductive Winner where
  | demand
  | eye
  | thermal
  | charger
deriving DecidableEq, Repr, Inhabited

/-- PHASE parameters of a channel set's phase (R15); spec/02_shot_planning.md. -/
structure PhP where
  /-- R145: GUARD_KEEP. -/
  keep : Nat := 32
  /-- R194: AMB_TAU, µs. -/
  tau : Nat := 1000
  /-- R193: AMB_TAIL, ns. -/
  tail : Nat := 200
  /-- R224: CAL_HITS_MAX. -/
  hits : Nat := 32
  /-- R222: CAL_GUARD_RATE, crossings/s. -/
  rate : Nat := 100000000
  /-- R225: CAL_MON_GUARD. -/
  mon : Nat := 2
deriving DecidableEq, Repr, Inhabited

/-- What the last edge of a threshold did, so that the edge less than 0.5 ns after it removes both (R131); spec/02_shot_planning.md. -/
structure LastE where
  /-- R131: its time, 1/4096 T64 unit. -/
  fx : Int := 0
  /-- R140: its TIME. -/
  time : Nat := 0
  /-- R140: it rises. -/
  rise : Bool := false
  /-- R145: it fell in the guard interval. -/
  guard : Bool := false
  /-- R145: it is kept as a stamp. -/
  kept : Bool := false
  /-- R145: it is counted in the guard interval. -/
  counted : Bool := false
  /-- R193: it is counted by the ambient estimator. -/
  amb : Bool := false
  /-- R203: it is blanked. -/
  blank : Bool := false
  /-- R143: it was dropped beyond the 96th stamp. -/
  drop : Bool := false
  /-- R220: delay line and fine code of the hit it made. -/
  hit : Option (Nat × Nat) := none
  /-- R131: it is the start stamp of the bank's shot. -/
  start : Bool := false
deriving DecidableEq, Repr, Inhabited

/-- One planned emitter shot (R49, R66, R92); spec/02_shot_planning.md. -/
structure Shot where
  /-- R55: emitter 0-31. -/
  em : Nat := 0
  /-- R55: bank 0-3. -/
  bank : Nat := 0
  /-- R55: phase p. -/
  phase : Nat := 0
  /-- R55: phase position i. -/
  pos : Nat := 0
  /-- R82: cycle n of its frame. -/
  cycle : Nat := 0
  /-- R85: frame number. -/
  frame : BitVec 32 := 0
  /-- R53: shot of a flyback cycle. -/
  flyback : Bool := false
  /-- R59: timebase count of the phase boundary of its phase. -/
  boundary : Nat := 0
  /-- R62: dither code, ns. -/
  dither : Nat := 0
  /-- R59: timebase count of the nominal optical edge. -/
  edge : Nat := 0
  /-- R74: predicted azimuth, AZ units. -/
  theta : Int := 0
  /-- R301: selected shot-voltage code. -/
  vSel : Nat := 0
  /-- R92: limit code. -/
  vLim : Nat := 0
  /-- R92: minimum code. -/
  vMin : Nat := 0
  /-- R70: attribution of E. -/
  winner : Winner := .demand
  /-- R73: charged energy, pJ. -/
  eChg : Nat := 0
  /-- R71: thermal limit or throttle below full rate. -/
  throttled : Bool := false
  /-- R257: planned on secondary feedback. -/
  fbDegr : Bool := false
  /-- R80: 0 to be fired, 1-8 skip cause. -/
  skip : Nat := 0
  /-- R138: calibration epoch in force at its phase. -/
  epoch : Nat := 0
  /-- R85: its energy was selected at commit. -/
  sel : Bool := false
  /-- R82: thinned. -/
  thin : Bool := false
  /-- R66: demand, pJ. -/
  eDem : Nat := 0
  /-- R235: sweep level of a flyback shot. -/
  level : Nat := 0
  /-- R49: its gate pulse has been given. -/
  gated : Bool := false
  /-- R58: W of its frame, ns. -/
  w : Nat := 0
  /-- R58: P of its frame, ns. -/
  p : Nat := 0
  /-- R15: PHASE parameters in force at its phase. -/
  pp : PhP := {}
  /-- R93: shot-voltage code sampled before its gate pulse. -/
  vCode : Nat := 0
  /-- R434: APD_STATUS bit 1 when it fired. -/
  apdBad : Bool := false
  /-- R129: timebase count of its commit. -/
  planAt : Nat := 0
  /-- R252: start of its frame, timebase count. -/
  f0 : Nat := 0
  /-- R172: active cycles of its frame. -/
  nAct : Nat := 0
deriving DecidableEq, Repr, Inhabited

/-- The eye-safety table (R72); spec/02_shot_planning.md. -/
structure EyeTable where
  /-- R72: TABLE_ID. -/
  tableId : BitVec 32 := 0
  /-- R72: BIN_WIDTH, 0.001 degree. -/
  binWidth : Nat := 0
  /-- R72: N_BIN. -/
  nBin : Nat := 0
  /-- R72: AZ_BIN0. -/
  azBin0 : Int := 0
  /-- R72: T_A, microseconds. -/
  tA : Nat := 0
  /-- R72: T_B, ms. -/
  tB : Nat := 0
  /-- R72: Q_PULSE[e], nJ. -/
  qPulse : Bank Nat := []
  /-- R72: Q_A[e][bin] at 1024e+bin, nJ. -/
  qA : Bank Nat := []
  /-- R72: Q_B[e][bin], nJ. -/
  qB : Bank Nat := []
  /-- R72: K_E[e], nJ/V^2. -/
  kE : Bank FX := []
  /-- R72: V_TOL, 0.1 percent. -/
  vTol : Nat := 0
  /-- R72: U_PRI, 0.001 degree. -/
  uPri : Nat := 0
  /-- R72: U_SEC, 0.001 degree. -/
  uSec : Nat := 0
deriving DecidableEq, Repr, Inhabited

/-- Charges of one emitter in one bin (R75); spec/02_shot_planning.md. -/
structure EyeAcct where
  /-- R75: (slot of window A, pJ charged). -/
  a : List (Nat × Nat) := []
  /-- R75: (slot of window B, pJ charged). -/
  b : List (Nat × Nat) := []
deriving DecidableEq, Repr, Inhabited

/-- Timing and trajectory of a frame, fixed at the cut-off of R54 (R50, R51, R58, R296); spec/02_shot_planning.md. -/
structure FrameP where
  /-- R58: P, ns. -/
  p : Nat := 0
  /-- R58: W, ns. -/
  w : Nat := 0
  /-- R58: effective guard, ns. -/
  g : Nat := 0
  /-- R58: D, ns. -/
  d : Nat := 0
  /-- R50: N_cyc. -/
  nCyc : Nat := 0
  /-- R51: N_act. -/
  nAct : Nat := 0
  /-- R296: AZ_START. -/
  az0 : Int := 0
  /-- R296: AZ_END. -/
  az1 : Int := 0
deriving DecidableEq, Repr, Inhabited

/-- Ringmaster; spec/02_shot_planning.md. -/
structure RmS where
  /-- R52: phases and frames run. -/
  framing : Bool := false
  /-- R52: a frame is open. -/
  inFrame : Bool := false
  /-- R85: RM_FRAME: frame number of the open or last frame. -/
  frameNo : BitVec 32 := 0
  /-- R85: frames started since reset. -/
  framesStarted : Nat := 0
  /-- R85: N_CYC of the current frame. -/
  nCyc : Nat := 0
  /-- R51: N_ACT of the current frame. -/
  nAct : Nat := 0
  /-- R85: RM_CYCLE CYCLE: cycle index in the frame. -/
  cycle : Nat := 0
  /-- R85: PHASE_POS. -/
  pos : Nat := 0
  /-- R85: P of the current frame, ns. -/
  pNs : Nat := 0
  /-- R58: W of the current frame, ns. -/
  wNs : Nat := 0
  /-- R85: GUARD_EFF, ns. -/
  gEff : Nat := 0
  /-- R58: D of the current frame, ns. -/
  dNs : Nat := 0
  /-- R49: timebase count of the last phase boundary. -/
  boundary : Nat := 0
  /-- R52: timebase count of the frame start. -/
  frameStart : Nat := 0
  /-- R266: T64_START of the open frame. -/
  frameT64 : BitVec 64 := 0
  /-- R585: earliest instant of the first frame start after entry to RUN [no reset value in the spec: DESIGN CHOICE, log entry 2]. -/
  startAt : Nat := 0
  /-- R62: dither register [no reset value in the spec: DESIGN CHOICE, log entry 2]. -/
  lfsr : BitVec 31 := 1
  /-- R62: dither code of the phase in progress, ns [no reset value in the spec: DESIGN CHOICE, log entry 2]. -/
  dither : Nat := 0
  /-- R62: dither code of the phase committed ahead, ns [no reset value in the spec: DESIGN CHOICE, log entry 2]. -/
  ditherNext : Nat := 0
  /-- R49: shots committed for the next phase. -/
  planned : List Shot := []
  /-- R49: shots of the phase in progress. -/
  current : List Shot := []
  /-- R80: reasons for which firing is inhibited. -/
  inhibits : List Inhibit := []
  /-- R85: RM_SKIPn at n = 1-8. -/
  skips : Bank (BitVec 32) := []
  /-- R85: RM_WIN_x of the last completed frame: 0 demand 1 eye 2 thermal 3 charger. -/
  win : Bank (BitVec 32) := []
  /-- R85: the same counts of the open frame. -/
  winCur : Bank (BitVec 32) := []
  /-- R83: emitter shots skipped in the open frame. -/
  skipCount : Nat := 0
  /-- R83: skip causes of the open frame. -/
  skipMask : BitVec 8 := 0
  /-- R68: factor a(e,bin) at 1024e+bin, percent (unlisted: 100). -/
  adapt : Bank Nat := []
  /-- R68: (e,bin) with a SAT point in the open frame. -/
  adaptSat : List Nat := []
  /-- R78: eye-safety table in force. -/
  table : Option EyeTable := none
  /-- R75: accounts at 1024e+bin. -/
  acct : Bank EyeAcct := []
  /-- R77: timebase count at which the slot grid starts [no reset value in the spec: DESIGN CHOICE, log entry 2]. -/
  gridAt : Nat := 0
  /-- R75: current slot of window A since the grid start. -/
  slotA : Nat := 0
  /-- R75: current slot of window B since the grid start. -/
  slotB : Nat := 0
  /-- R85: MARGIN_A of the last completed frame. -/
  marginA : BitVec 16 := 0
  /-- R85: MARGIN_B. -/
  marginB : BitVec 16 := 0
  /-- R85: smallest window-A headroom in the open frame. -/
  marginCurA : Nat := 65535
  /-- R85: smallest window-B headroom in the open frame. -/
  marginCurB : Nat := 65535
  /-- R78: uncorrectable error in table or account memory. -/
  eyeEcc : Bool := false
  /-- R82: throttle level taken at the last cycle boundary. -/
  level : Nat := 256
  /-- R22: DEGRADE flags in force. -/
  degrade : BitVec 8 := 0
  /-- R266: mirror mode at frame start. -/
  mirrorStart : Nat := 4
  /-- R266: highest mirror mode in the open frame. -/
  mirrorWorst : Nat := 4
  /-- R266: lowest L-1 in the open frame. -/
  throttleMin : Nat := 255
  /-- R266: SAFE_SEEN. -/
  safeSeen : Bool := false
  /-- R266: T64_LOADED. -/
  t64Loaded : Bool := false
  /-- R266: COORD_ACTIVE of the open frame. -/
  coordActive : Bool := false
  /-- R54: parameters of the next frame, fixed at its cut-off. -/
  nextFrame : Option FrameP := none
  /-- R233: calibration epoch at the start of the open frame. -/
  epochStart : BitVec 16 := 0
  /-- R24: DEGRADE flags at the start of the open frame and set since. -/
  degStart : BitVec 8 := 0
  /-- R82: throttle level of the committed phase. -/
  levelNext : Nat := 256
  /-- R85: an account was charged in the open frame. -/
  marginCharged : Bool := false
  /-- R561: shots stop at the next phase boundary. -/
  stopNext : Bool := false
deriving DecidableEq, Repr, Inhabited

/-- A FIRE command accepted for a bank (R88, R115); spec/03_emitters_and_field_die.md. -/
structure FireS where
  /-- R115: emitter 0-31. -/
  em : Nat := 0
  /-- R88: timebase count of the commanded gate edge. -/
  edge : Nat := 0
  /-- R88: commanded width, T64 units. -/
  width : Nat := 0
  /-- R91: target code. -/
  target : Nat := 0
  /-- R92: limit code. -/
  lim : Nat := 0
  /-- R92: minimum code. -/
  min : Nat := 0
deriving DecidableEq, Repr, Inhabited

/-- An edge that waits for the boundary of its shot's phase (R138, R227); spec/03_emitters_and_field_die.md. -/
structure EarlyE where
  /-- R138: its instant, timebase count. -/
  at_ : Nat := 0
  /-- R99: it is the start stamp. -/
  start : Bool := false
  /-- R137: input RXIN 0-255, MON 256-259. -/
  inp : Nat := 0
  /-- R137: threshold. -/
  thr : Nat := 0
  /-- R137: it rises. -/
  rise : Bool := false
  /-- R137: fine code. -/
  c : Nat := 0
deriving DecidableEq, Repr, Inhabited

/-- One bank of emitters (R90-R103); spec/03_emitters_and_field_die.md. -/
structure BankS where
  /-- R88: end of the gate pulse in progress or last driven. -/
  gateUntil : Nat := 0
  /-- R88: a gate pulse has been commanded since the last phase marker. -/
  markerUsed : Bool := false
  /-- R93: start of the last top-up. -/
  topUpAt : Nat := 0
  /-- R93: sampled shot voltage, code of 120/4096 V [no reset value in the spec: DESIGN CHOICE, log entry 2]. -/
  vShot : Nat := 0
  /-- R122: VSHOT_LAST, 10 mV. -/
  vShotLast : Nat := 0
  /-- R122: VRES_MEAS, 10 mV [no reset value in the spec: DESIGN CHOICE, log entry 2]. -/
  vRes : Nat := 0
  /-- R89: charger stopped by a gate fault or an unplanned emission until a FULL reset. -/
  chargerHold : Bool := false
  /-- R89: top-up stopped by a gate fault until a FULL reset. -/
  topHold : Bool := false
  /-- R115: charger state last reported on BL8. -/
  chgOn : Bool := false
  /-- R96: charging window closed. -/
  windowClosed : Bool := false
  /-- R97: since when every condition holds with margin. -/
  windowOkAt : Option Nat := none
  /-- R103: ADVANCE_ACT, 0.25 ns. -/
  advance : Nat := 160
  /-- R103: sum of start errors of the frame, T64 units. -/
  errSum : Int := 0
  /-- R103: number of start errors of the frame. -/
  errN : Nat := 0
  /-- R102: 0x4205 logged since the last FULL reset. -/
  unplannedLogged : Bool := false
  /-- R99: the shot whose window or monitor interval is open. -/
  shot : Option Shot := none
  /-- R170: energy of that shot from its sampled voltage, pJ [no reset value in the spec: DESIGN CHOICE, log entry 2]. -/
  eShot : Nat := 0
  /-- R99: start stamp of that shot, T64 units of the timebase count. -/
  tStart : Option Nat := none
  /-- R141: T_START of the current block. -/
  startT64 : BitVec 64 := 0
  /-- R59: the listening window is open. -/
  winOpen : Bool := false
  /-- R61: the guard interval runs. -/
  guardOpen : Bool := false
  /-- R61: window close. -/
  guardFrom : Nat := 0
  /-- R100: the monitor missed on the current shot. -/
  monMissed : Bool := false
  /-- R141: OVF of the current block. -/
  ovf : Bool := false
  /-- R479: monitor edges of the shot (threshold, rise, time from the start stamp). -/
  monEdges : List (Nat × Bool × Int) := []
  /-- R88: accepted FIRE commands whose gate edge is still to come, in order. -/
  fires : List FireS := []
  /-- R139: start stamp of that shot in 1/4096 T64 unit. -/
  tStartF : Int := 0
  /-- R93: the shot fired whose start stamp is awaited. -/
  fired : Option Shot := none
  /-- R170: energy of that shot from its sampled voltage, pJ. -/
  eFired : Nat := 0
  /-- R479: monitor edges since its gate pulse (threshold, rise, time in 1/4096 T64 unit). -/
  firedEdges : List (Nat × Bool × Int) := []
  /-- R225: delay line of the monitor that the last calibration interval fed [no reset value in the spec: DESIGN CHOICE, log entry 2]. -/
  monRotor : Nat := 2
  /-- R225: the monitor is calibrated on the current phase [no reset value in the spec: DESIGN CHOICE, log entry 2]. -/
  monCal : Bool := false
  /-- R224: hits accepted in the current calibration interval. -/
  monHits : Nat := 0
  /-- R252: TOFS of the shot. -/
  tofs : Nat := 0
  /-- R252: AZ of the shot. -/
  az : Int := 0
  /-- R131: last edge of each monitor threshold. -/
  lastM : Bank LastE := []
  /-- R225: code of the monitor's low DAC at the last edge or phase boundary. -/
  monDac : Nat := 256
  /-- R90: voltage the charger holds the reservoir at, 10 mV. -/
  vTarget : Nat := 400
  /-- R94: share of the VHV_IN current limit, mA. -/
  iShare : Nat := 0
  /-- R97: the charging window reopens at the next phase commit. -/
  reopen : Bool := false
  /-- R138: edges of a shot fired before the boundary of its phase, from its start stamp on, which wait for that boundary. -/
  early : List EarlyE := []
deriving DecidableEq, Repr, Inhabited

/-- One barrier link BL0-BL11 (R30, R116); spec/03_emitters_and_field_die.md. -/
structure LinkS where
  /-- R34: BAR_LINK_FAULT bit. -/
  failed : Bool := false
  /-- R115: SEQ of the next frame sent [no reset value in the spec: DESIGN CHOICE, log entry 2]. -/
  txSeq : BitVec 8 := 0
  /-- R116: SEQ expected next [no reset value in the spec: DESIGN CHOICE, log entry 2]. -/
  rxSeq : BitVec 8 := 0
  /-- R30: consecutive control frames with a CRC error. -/
  crcRun : Nat := 0
  /-- R116: last 16 unacknowledged frames (SEQ, TYPE, payload). -/
  replay : List (BitVec 8 × BitVec 8 × List (BitVec 8)) := []
  /-- R116: since when an ACK is awaited. -/
  waitFrom : Option Nat := none
  /-- R30: switchover of its traffic in progress since. -/
  switchUntil : Option Nat := none
  /-- R116: when each frame of the replay buffer was last sent. -/
  sent : List Nat := []
deriving DecidableEq, Repr, Inhabited

/-- One safety output in Calliope (R118-R120, R421-R424); spec/03_emitters_and_field_die.md. -/
structure OutS where
  /-- R119: switches A and B on. -/
  on : Bool := false
  /-- R119: consecutive valid OUT_STATE frames that request it. -/
  reqRun : Nat := 0
  /-- R120: last watchdog token [no reset value in the spec: DESIGN CHOICE, log entry 2]. -/
  token : BitVec 8 := 0
  /-- R120: last restart of the watchdog [no reset value in the spec: DESIGN CHOICE, log entry 2]. -/
  wdgFrom : Nat := 0
  /-- R120: held off until the watchdog restarts. -/
  wdgOff : Bool := false
  /-- R424: SO_FAULT. -/
  fault : Nat := 0
  /-- R426: functions that passed through DEMAND after the fault. -/
  faultPassed : List Nat := []
  /-- R424: readback high. -/
  readback : Bool := false
  /-- R424: since when readback disagrees. -/
  badFrom : Option Nat := none
  /-- R423: dark test in progress. -/
  dark : Bool := false
  /-- R423: the next dark test turns off switch B. -/
  darkB : Bool := false
  /-- R423: start of the dark test. -/
  darkFrom : Nat := 0
  /-- R423: start of the last dark test [no reset value in the spec: DESIGN CHOICE, log entry 2]. -/
  lastDark : Nat := 0
  /-- R425: result of the running dark test discarded. -/
  darkVoid : Bool := false
  /-- R423: instant the output last went on [no reset value in the spec: DESIGN CHOICE, log entry 2]. -/
  onAt : Nat := 0
  /-- R426: instant the output last went off [no reset value in the spec: DESIGN CHOICE, log entry 2]. -/
  offAt : Nat := 0
  /-- R430: REQUEST: requested on by the safety core. -/
  request : Bool := false
  /-- R424: EDM change awaited since. -/
  edmPending : Option Nat := none
deriving DecidableEq, Repr, Inhabited

/-- Calliope; spec/03_emitters_and_field_die.md. -/
structure FldS where
  /-- R86: banks 0-3. -/
  bankS : Bank BankS := []
  /-- R28: barrier links BL0-BL11. -/
  links : Bank LinkS := []
  /-- R420: SO0-SO3. -/
  outs : Bank OutS := []
  /-- R118: output mask armed for FO0-FO3. -/
  foMask : Bank Nat := []
  /-- R120: token the safety core sends next for SOn. -/
  outWanted : Bank (BitVec 8) := []
  /-- R89: every gate output held low until a FULL reset. -/
  gateHold : Bool := false
  /-- R113: mirror watchdog latched. -/
  wdgTripped : Bool := false
  /-- R101: consecutive misses of EMe. -/
  monMiss : Bank Nat := []
  /-- R122: MON_FAILED. -/
  monFailed : BitVec 32 := 0
  /-- R122: CHG_WINDOW bit 4. -/
  chgDieClosed : Bool := false
  /-- R648: chargers stopped by VHV_IN. -/
  chargersStopped : Bool := false
  /-- R609: chargers stopped by thermal shutdown. -/
  shutdownStop : Bool := false
  /-- R122: CHG_IIN_MEAS, mA [no reset value in the spec: DESIGN CHOICE, log entry 2]. -/
  iin : Nat := 0
  /-- R34: link replaced by BL10, 15 none. -/
  spareMap10 : Nat := 15
  /-- R34: link replaced by BL11, 15 none. -/
  spareMap11 : Nat := 15
  /-- R34: BAR_SWITCH_COUNT. -/
  switchCount : BitVec 16 := 0
  /-- R122: BAR_CRC_ERR. -/
  crcErr : BitVec 32 := 0
  /-- R122: BAR_RETX. -/
  retx : BitVec 32 := 0
  /-- R105: bias in force, microvolt. -/
  apdV : Int := 0
  /-- R105: bias target, microvolt. -/
  apdTarget : Int := 0
  /-- R106: last valid detector temperature, 0.001 C. -/
  apdTdet : Option Int := none
  /-- R122: APD_STATUS bit 2. -/
  apdHeld : Bool := false
  /-- R122: APD_STATUS bit 1. -/
  apdBad : Bool := false
  /-- R107: since when outside 1 percent. -/
  apdBadFrom : Option Nat := none
  /-- R122: APD_STATUS bit 0. -/
  apdReg : Bool := false
  /-- R122: APD_I_MEAS, microampere [no reset value in the spec: DESIGN CHOICE, log entry 2]. -/
  apdI : Nat := 0
  /-- R122: APD_V_MEAS, 10 mV [no reset value in the spec: DESIGN CHOICE, log entry 2]. -/
  apdVmeas : Nat := 0
  /-- R105: last update of the bias law. -/
  apdUpdAt : Nat := 0
  /-- R122: BRG_STATUS bit 0. -/
  bridgeOn : Bool := false
  /-- R122: BRG_STATUS bit 1. -/
  bridgeOc : Bool := false
  /-- R122: BRG_STATUS bit 2. -/
  bridgeUv : Bool := false
  /-- R109: coil current, Q15 of 3.0 A [no reset value in the spec: DESIGN CHOICE, log entry 2]. -/
  coilI : Int := 0
  /-- R112: previous coil current sample [no reset value in the spec: DESIGN CHOICE, log entry 2]. -/
  coilIprev : Int := 0
  /-- R112: mean bridge voltage, mV [no reset value in the spec: DESIGN CHOICE, log entry 2]. -/
  vBridge : Int := 0
  /-- R112: velocity estimate, degree/s [no reset value in the spec: DESIGN CHOICE, log entry 2]. -/
  vEst : Int := 0
  /-- R112: last predicted velocity received, degree/s. -/
  vPred : Int := 0
  /-- R112: consecutive estimates outside WDG_BAND. -/
  bemfRun : Nat := 0
  /-- R112: consecutive output releases without a valid LCE_OUT frame. -/
  lceMissed : Nat := 0
  /-- R112: an LCE_OUT frame arrived since the last release. -/
  lceSeen : Bool := false
  /-- R110: bridge duty in force. -/
  duty : Int := 0
  /-- R110: duty of the last LCE_OUT frame. -/
  dutyNext : Int := 0
  /-- R291: heater duty in force. -/
  htrDuty : Nat := 0
  /-- R115: charge limits of the last LCE_OUT frame, banks 0 to 3. -/
  vchNext : List Nat := []
  /-- R115: bias code of the last LCE_OUT frame. -/
  biasNext : Nat := 0
  /-- R115: heater duty of the last LCE_OUT frame. -/
  htrNext : Nat := 0
  /-- R289: charge limits in force at Calliope. -/
  vch : List Nat := []
  /-- R289: bias code in force at Calliope. -/
  bias : Nat := 0
  /-- R115: payload of the last configuration request. -/
  cfgLast : List (BitVec 8) := []
  /-- R115: payload of the last configuration response. -/
  rspLast : List (BitVec 8) := []
  /-- R115: last FIELD_IO payload. -/
  fieldIo : List (BitVec 8) := []
  /-- R598: readings of Calliope die sensors 0, 1, 0.001 C [no reset value in the spec: DESIGN CHOICE, log entry 2]. -/
  dieT : Bank Int := []
  /-- R602: dissipation Calliope reports, mW [no reset value in the spec: DESIGN CHOICE, log entry 2]. -/
  fldPower : Nat := 0
  /-- R312: the one automatic re-enable is pending. -/
  brgRePend : Bool := false
  /-- R312: instant of the last bridge trip [no reset value in the spec: DESIGN CHOICE, log entry 2]. -/
  brgTripAt : Nat := 0
  /-- R312: instant of the last automatic re-enable. -/
  brgReAt : Option Nat := none
  /-- R90: last selected shot-voltage code of each emitter. -/
  vPlan : Bank Nat := []
  /-- R115: shot voltages last reported on BL8, 12-bit codes. -/
  vShotRep : Bank Nat := []
  /-- R115: watchdog state last reported on BL8. -/
  wdgRep : Bool := false
  /-- R107: the APD current stands at APD_ILIM. -/
  apdLimited : Bool := false
  /-- R289: predicted velocity that takes effect at the next output release. -/
  vPredNext : Int := 0
  /-- R115: coil current last reported on BL8, Q15 of 3.0 A. -/
  repI : Int := 0
  /-- R304: bridge voltage last reported on BL8, mV. -/
  repV : Int := 0
  /-- R112: instant of the last back-EMF estimate. -/
  bemfAt : Nat := 0
deriving DecidableEq, Repr, Inhabited

/-- One raw stamp (R140); spec/04_return_timing.md. -/
structure Stamp where
  /-- R140: GUARD. -/
  guard : Bool := false
  /-- R140: FBLANK. -/
  fblank : Bool := false
  /-- R140: CHAN. -/
  chan : Nat := 0
  /-- R140: RISE. -/
  rise : Bool := false
  /-- R140: THR. -/
  thr : Nat := 0
  /-- R140: TIME, 7.8125 ps units from window start. -/
  time : Nat := 0
deriving DecidableEq, Repr, Inhabited

/-- The offset and walk set of one engine mode of a channel (R236-R239); spec/04_return_timing.md. -/
structure CalM where
  /-- R237: framesStarted when the build began. -/
  from_ : Nat := 0
  /-- R236: reference echoes filed: level, shot energy, stamps, crossings. -/
  filed : List (List Int) := []
  /-- R238: previous build. -/
  prev : Option (List Int) := none
  /-- R238: consecutive disagreeing pairs. -/
  disagree : Nat := 0
  /-- R239: stale with cause reference missing. -/
  miss : Bool := false
  /-- R238: three consecutive disagreeing pairs since the last commit. -/
  stale : Bool := false
deriving DecidableEq, Repr, Inhabited

/-- One receive channel (R123-R146, R193-R198); spec/04_return_timing.md. -/
structure ChanS where
  /-- R128: low, mid and high codes in force. -/
  thr : List Nat := [40, 120, 400]
  /-- R129: codes computed for the next shot. -/
  thrNext : List Nat := [40, 120, 400]
  /-- R130: guard code in force on the low threshold. -/
  guardCode : Option Nat := none
  /-- R221: Tuning Slide requests a guard code on the next fired shot. -/
  wantGuard : Bool := false
  /-- R223: delay line that the last guard-coded interval fed [no reset value in the spec: DESIGN CHOICE, log entry 2]. -/
  rotor : Nat := 2
  /-- R132: level of the low comparator [no reset value in the spec: DESIGN CHOICE, log entry 2]. -/
  lowHigh : Bool := false
  /-- R132: consecutive shots with the low comparator high at window open. -/
  blindRun : Nat := 0
  /-- R132: consecutive shots with it low. -/
  clearRun : Nat := 0
  /-- R132: RX_FAILED bit. -/
  failed : Bool := false
  /-- R146: RX_OVF_COUNT. -/
  ovf : BitVec 32 := 0
  /-- R189: EE_LOST_CH bit. -/
  lost : Bool := false
  /-- R143: in-window stamps of the current shot. -/
  stamps : List Stamp := []
  /-- R145: guard stamps kept. -/
  guards : List Stamp := []
  /-- R145: guard crossings per threshold. -/
  guardCnt : List Nat := [0, 0, 0]
  /-- R193: guard-span crossings without FBLANK after 40 ns, per threshold. -/
  ambCnt : List Nat := [0, 0, 0]
  /-- R224: hits accepted in the current guard-coded interval. -/
  hits : Nat := 0
  /-- R194: decaying count N per threshold, 2^-32. -/
  ambN : List Nat := [0, 0, 0]
  /-- R194: decaying time T, ns 2^-32. -/
  ambT : List Nat := [0, 0, 0]
  /-- R194: decaying code sum C, mV ns 2^-32. -/
  ambC : List Nat := [0, 0, 0]
  /-- R214: fired active shots of the frame. -/
  fired : Nat := 0
  /-- R214: of these, shots with a class-6 echo. -/
  class6 : Nat := 0
  /-- R214: consecutive frames at or above the share. -/
  contamRun : Nat := 0
  /-- R214: consecutive frames below half the share. -/
  cleanRun : Nat := 0
  /-- R214: WIN_CONTAM bit. -/
  contam : Bool := false
  /-- R209: ranges of the pulses of the previous fired shot in the frame, 0.25 mm. -/
  prevPulses : List Nat := []
  /-- R444: class-7 echoes within REF_CHK_TOL in the frame. -/
  refCnt : Nat := 0
  /-- R444: REF_CHK_FAIL bit. -/
  refFail : Bool := false
  /-- R227: replica length of the channel, 1/64 tap [no reset value in the spec: DESIGN CHOICE, log entry 2]. -/
  span : Nat := 0
  /-- R247: CAL_STALE_CAUSE. -/
  staleCause : BitVec 8 := 0
  /-- R247: CAL_COMMITS. -/
  commits : BitVec 32 := 0
  /-- R236: the build of the echo-mode set. -/
  calE : CalM := {}
  /-- R236: the build of the histogram-mode set. -/
  calH : CalM := {}
  /-- R244: committed echo-mode set: offset (1/16 unit), 65 rise, 65 fall points (1/16), sigma_ofs 0.1 ps. -/
  setEcho : Option (List Int) := none
  /-- R244: committed histogram-mode set: offset, 32 walk points (1/16), sigma_ofs. -/
  setHist : Option (List Int) := none
  /-- R175: bin counters of the current group. -/
  histCnt : Bank Nat := []
  /-- R177: retained (shot, time) stamps of the group. -/
  histStamps : List (Nat × Nat) := []
  /-- R172: fired shots n_f of the group. -/
  histShots : Nat := 0
  /-- R177: chosen coarse peaks that wait for the zoom pass: centre in 1/4096 T64 unit, class. -/
  histPeaks : List (Int × Nat) := []
  /-- R178: (AZ, TOFS, energy pJ) of each fired shot of the group. -/
  histInfo : List (Int × Nat × Nat) := []
  /-- R178: a shot of the group was converted with stale calibration. -/
  histStale : Bool := false
  /-- R193: supported pulses of the current shot (first and last TIME). -/
  supp : List (Nat × Nat) := []
  /-- R172: frame and number of the group being built. -/
  histGrp : Option (Nat × Nat) := none
  /-- R209: ranges of the pulses of the current shot, 0.25 mm. -/
  pulses : List Nat := []
  /-- R209: frame number plus 1 of the shot of prevPulses, 0 none. -/
  pulseFrame : Nat := 0
  /-- R181: instant plus 1 of the shot whose result was delivered last. -/
  doneAt : Nat := 0
  /-- R138: replica length in force at the start of the channel's phase, 1/64 tap [no reset value in the spec: DESIGN CHOICE, log entry 2]. -/
  spanUse : Nat := 0
  /-- R131: last edge of each threshold. -/
  lastE : Bank LastE := []
  /-- R129: threshold codes of the channel's shot in progress. -/
  thrUsed : List Nat := [40, 120, 400]
  /-- R232: set retired by the last swap, whether of histogram mode, the instant of the swap, boundaries for which it stays readable. -/
  retSet : Option (Option (List Int) × Bool × Nat × Nat) := none
  /-- R177: start of the group that its chosen peaks belong to. -/
  histDue : Option Nat := none
  /-- R143: in-window stamps of the shot beyond the 96th, discarded unless an earlier one is removed. -/
  spill : List Stamp := []
  /-- R145: guard stamps of the shot beyond GUARD_KEEP, discarded unless an earlier one is removed. -/
  spillG : List Stamp := []
  /-- R179: the snapshot of the completed group is sent after its zoom pass. -/
  histSnap : Bool := false
deriving DecidableEq, Repr, Inhabited

/-- One frequency-measurement unit FM0-FM7 (R147); spec/04_return_timing.md. -/
structure FmS where
  /-- R147: stamps of the gate in progress. -/
  events : List (BitVec 64) := []
  /-- R147: start of the gate [no reset value in the spec: DESIGN CHOICE, log entry 2]. -/
  gateFrom : Nat := 0
  /-- R148: FM_PERIOD, fs. -/
  period : BitVec 64 := 0
  /-- R148: FM_RMS. -/
  rms : BitVec 32 := 0
  /-- R148: FM_N. -/
  n : BitVec 16 := 0
  /-- R148: FM_OUTLIERS. -/
  outliers : BitVec 16 := 0
  /-- R148: FM_VALID. -/
  valid : Bool := false
  /-- R147: period estimate from the last accepted gate, fs. -/
  est : Option Nat := none
  /-- R147: events excluded as closer than 100 ns in this gate. -/
  close : Nat := 0
  /-- R147: previous accepted event of its source. -/
  lastEv : Option (BitVec 64) := none
deriving DecidableEq, Repr, Inhabited

/-- Timebase, PPS, encoder; spec/04_return_timing.md. -/
structure TbS where
  /-- R159: TB_STATUS LOCK. -/
  lock : Bool := false
  /-- R447: instant of the last lock [no reset value in the spec: DESIGN CHOICE, log entry 2]. -/
  lockAt : Nat := 0
  /-- R159: TB_STATUS SRC. -/
  src : Nat := 0
  /-- R159: REF_OK. -/
  refOk : Bool := false
  /-- R159: FREQ_OK. -/
  freqOk : Bool := false
  /-- R159: PPS_OK. -/
  ppsOk : Bool := false
  /-- R159: ARMED. -/
  armed : Bool := false
  /-- R151: acknowledgement of the arm. -/
  armedAt : Nat := 0
  /-- R159: LOADED. -/
  loaded : Bool := false
  /-- R154: PPS_LAST. -/
  ppsLast : BitVec 64 := 0
  /-- R149: timebase count of the last accepted edge. -/
  ppsLastAt : Option Nat := none
  /-- R154: PPS_LAST_STEP. -/
  ppsStep : BitVec 64 := 0
  /-- R149: stamps of the PPS gate. -/
  ppsGate : List (BitVec 64) := []
  /-- R154: PPS_GLITCH. -/
  glitch : BitVec 16 := 0
  /-- R154: TB_FREQ_ERR, 0.01 ppb. -/
  freqErr : Int := 0
  /-- R150: last accepted PPS gate. -/
  freqAt : Nat := 0
  /-- R154: last rising edge on PPS_OUT. -/
  ppsOutAt : Option Nat := none
  /-- R581: T64 loads since the last FULL or WARM reset. -/
  loads : BitVec 16 := 0
  /-- R159: TB_T64_HI. -/
  latchT64 : BitVec 32 := 0
  /-- R159: TB_PPS_HI. -/
  latchPps : BitVec 32 := 0
  /-- R147: FM0-FM7. -/
  fm : Bank FmS := []
  /-- R157: ENC_COUNT. -/
  encCount : Int := 0
  /-- R157: ENC_STATUS. -/
  encStatus : BitVec 8 := 0
  /-- R155: accepted level of ENCn [no reset value in the spec: DESIGN CHOICE, log entry 2]. -/
  encLevel : Bank Bool := []
  /-- R157: an index edge came in the frame. -/
  encIndexSeen : Bool := false
  /-- R157: mark-A edges in the active sweep of the frame. -/
  encMarks : Nat := 0
  /-- R156: edges for the LCE: timebase count, input, polarity, count. -/
  encQueue : List (Nat × Nat × Bool × Int) := []
  /-- R149: start of the PPS gate in progress. -/
  ppsGateFrom : Option Nat := none
  /-- R155: last transition of each encoder input that has not yet stayed for ENC_FILTER: instant, level. -/
  encPend : Bank (Nat × Bool) := []
deriving DecidableEq, Repr, Inhabited

/-- One echo engine EE0-EE17 (R181-R190); spec/05_echo_engines.md. -/
structure EngS where
  /-- R191: EE_FAILED bit. -/
  retired : Bool := false
  /-- R191: engine whose channels a spare serves. -/
  serves : Option Nat := none
  /-- R183: declaration from which a spare loads and replays. -/
  replayFrom : Option Nat := none
  /-- R183: the spare has loaded. -/
  ready : Bool := false
  /-- R183: the spare takes live stamps. -/
  live : Bool := false
  /-- R181: next known-answer vector: echo mode [no reset value in the spec: DESIGN CHOICE, log entry 2]. -/
  katEcho : Bool := true
  /-- R182: instant of the last passed known-answer test. -/
  suspectFrom : Nat := 0
  /-- R183: (channel, shot instant) of the channel-shots replayed so far. -/
  replayLeft : List (Nat × Nat) := []
  /-- R183: instant of the declaration that assigned this spare. -/
  declAt : Nat := 0
  /-- R162: boundary of the idle phase of its last test, plus 1. -/
  katPhase : Nat := 0
deriving DecidableEq, Repr, Inhabited

/-- One accumulation unit of the shadow buffer (R184); spec/05_echo_engines.md. -/
structure ShUnit where
  /-- R184: emitter. -/
  em : Nat := 0
  /-- R186: the shot it was captured in. -/
  shot : Option Shot := none
  /-- R139: start stamp. -/
  tStart : Nat := 0
  /-- R184: in-window stamps of the eight channels. -/
  stamps : List Stamp := []
  /-- R186: frame number. -/
  frame : BitVec 32 := 0
  /-- R186: TOFS. -/
  tofs : Nat := 0
  /-- R186: AZ. -/
  az : Int := 0
  /-- R170: shot energy, pJ. -/
  ePj : Nat := 0
  /-- R213: previous pulses of the eight channels. -/
  prev : List (List Nat) := []
  /-- R241: stale calibration of the eight channels. -/
  stale : List Bool := []
  /-- R165: threshold codes of the eight channels. -/
  thr : List (List Nat) := []
  /-- R213: tracked trains of its bank at its window close: period in fs, reference arrival, mask. -/
  trains : List (Nat × BitVec 64 × BitVec 64) := []
  /-- R213: values in force of the parameters 0x2800 to 0x3FFF at its window close. -/
  pars : Bank DVal := []
  /-- R213: noise counts N, T and C of its emitter's eight channels at its window close. -/
  amb : List (List Nat × List Nat × List Nat) := []
  /-- R182: per channel of the emitter the instant at which its result was given. -/
  res : Bank Nat := []
deriving DecidableEq, Repr, Inhabited

/-- Echo engines; spec/05_echo_engines.md. -/
structure EeS where
  /-- R160: engines 0-17. -/
  eng : Bank EngS := []
  /-- R192: EE_STATUS MODE: histogram mode in force. -/
  hist : Bool := false
  /-- R192: EE_DEADLINE_MISS. -/
  deadline : BitVec 32 := 0
  /-- R192: EE_KAT_FAIL. -/
  katFail : BitVec 32 := 0
  /-- R192: EE_REPLAY_SHOTS. -/
  replayShots : BitVec 32 := 0
  /-- R191: EE_REPLAYED. -/
  replayed : BitVec 32 := 0
  /-- R192: EE_REPLAY_MAXLAT. -/
  maxLat : BitVec 32 := 0
  /-- R192: EE_FAULT_T. -/
  faultT : BitVec 64 := 0
  /-- R192: EE_FAULT_T_HI as latched. -/
  faultHi : BitVec 32 := 0
  /-- R192: EE_FAULT_INFO SHOTS. -/
  faultShots : Nat := 0
  /-- R192: EE_FAULT_INFO POS. -/
  faultPos : Nat := 0
  /-- R192: EE_FAULT_INFO CAUSE. -/
  faultCause : Nat := 0
  /-- R192: EE_FAULT_INFO ENGINE. -/
  faultEng : Nat := 0
  /-- R191: EE_ECC_CORR. -/
  eccCorr : BitVec 32 := 0
  /-- R188: SPARE_USED. -/
  spareUsed : Bool := false
  /-- R184: last two units of each emitter. -/
  shadow : Bank (List ShUnit) := []
  /-- R179: channel of the snapshot requested. -/
  snapArmed : Option Nat := none
  /-- R188: (engine, cause, channel set) declared and not yet logged with its replay count. -/
  declPend : List (Nat × Nat × Nat) := []
  /-- R192: channel set of the last declaration. -/
  faultSet : Nat := 0
deriving DecidableEq, Repr, Inhabited

/-- One train slot (R200); spec/06_rejection.md. -/
structure Train where
  /-- R218: FT_STATE 0 free 1 tentative 2 tracked. -/
  st : Nat := 0
  /-- R200: period estimate, fs. -/
  tp : Nat := 0
  /-- R201: fit origin, T64. -/
  ofs : BitVec 64 := 0
  /-- R201: gate start, T64. -/
  gateFrom : BitVec 64 := 0
  /-- R201: candidates captured in the gate, with channels. -/
  capt : List (BitVec 64 × List Nat) := []
  /-- R218: FT_N. -/
  n : Nat := 0
  /-- R218: FT_RMS, ps. -/
  rms : Nat := 0
  /-- R218: FT_CHMASK. -/
  mask : BitVec 64 := 0
  /-- R201: the last gate was rejected. -/
  rejected : Bool := false
deriving DecidableEq, Repr, Inhabited

/-- One candidate (R199); spec/06_rejection.md. -/
structure Cand where
  /-- R199: T64 of the candidate. -/
  t : BitVec 64 := 0
  /-- R199: its channels. -/
  chans : List Nat := []
  /-- R199: start stamp of its shot. -/
  shot : Nat := 0
deriving DecidableEq, Repr, Inhabited

/-- A partner's schedule packet (R584); spec/06_rejection.md. -/
structure Sched where
  /-- R584: P, ns. -/
  p : Nat := 0
  /-- R584: N_CYC. -/
  nCyc : Nat := 0
  /-- R584: N_ACT. -/
  nAct : Nat := 0
  /-- R584: COORD_SLOT. -/
  slot : Nat := 0
  /-- R584: T64_START in the sender's scale. -/
  start : BitVec 64 := 0
  /-- R584: FRAME_NO. -/
  frameNo : BitVec 32 := 0
deriving DecidableEq, Repr, Inhabited

/-- Rejection; spec/06_rejection.md. -/
structure RjS where
  /-- R200: last 32 candidates of the bank that no train captured. -/
  cands : Bank (List Cand) := []
  /-- R200: slot s of bank b at 8b+s. -/
  trains : Bank Train := []
  /-- R203: predicted arrivals per bank: (timebase count, mask of its train). -/
  blankNow : Bank (List (Nat × BitVec 64)) := []
  /-- R219: RJ_BLANKED. -/
  blanked : BitVec 32 := 0
  /-- R219: RJ_SEED_LOST. -/
  seedLost : BitVec 32 := 0
  /-- R219: RJ_TRAIN_DROP. -/
  trainDrop : BitVec 32 := 0
  /-- R219: echoes of class n in the open frame. -/
  classCur : Bank Nat := []
  /-- R219: RJ_CLASSn. -/
  classLast : Bank Nat := []
  /-- R219: echoes suppressed in the open frame. -/
  suppCur : Nat := 0
  /-- R219: RJ_SUPPRESSED. -/
  suppLast : Nat := 0
  /-- R218: COORD_STATUS. -/
  coordStatus : BitVec 8 := 0
  /-- R203: predicted arrivals of the committed phase per bank. -/
  blankNext : Bank (List (Nat × BitVec 64)) := []
  /-- R199: shots of each bank with pulses without support that are still to be merged: (shot, (time, channel)). -/
  pend : Bank (List (Nat × List (BitVec 64 × Nat))) := []
deriving DecidableEq, Repr, Inhabited

/-- One tap table (R226); spec/07_background_calibration.md. -/
structure TapTab where
  /-- R226: 32 widths, 1/65536 of the coarse period. -/
  w : List Nat := []
  /-- R227: L_build, 1/64 tap. -/
  len : Nat := 0
  /-- R242: sigma_tap, 0.1 ps. -/
  sig : Nat := 0
deriving DecidableEq, Repr, Inhabited

/-- One delay line, 3c+k for RXIN c and 768+3b+k for MON b (R226-R232); spec/07_background_calibration.md. -/
structure LineS where
  /-- R226: counters h_j of the build. -/
  h : Bank Nat := []
  /-- R226: H. -/
  hits : Nat := 0
  /-- R227: sum of replica lengths over the build. -/
  lenSum : Nat := 0
  /-- R227: number of phases summed. -/
  lenN : Nat := 0
  /-- R228: replica length at the start of the build. -/
  lenFrom : Nat := 0
  /-- R229: counters and L_build of a completed build waiting for its test. -/
  done : Option (List Nat × Nat) := none
  /-- R229: counters and L_build of the first build of the pair. -/
  first : Option (List Nat × Nat) := none
  /-- R231: consecutive disagreeing pairs. -/
  disagree : Nat := 0
  /-- R231: calibration-stale. -/
  stale : Bool := false
  /-- R244: active table (none: the production table of OTP). -/
  table : Option TapTab := none
  /-- R232: table to be swapped in. -/
  shadow : Option TapTab := none
  /-- R232: retired table and boundaries left. -/
  retired : Option (TapTab × Nat) := none
deriving DecidableEq, Repr, Inhabited

/-- Tuning Slide; spec/07_background_calibration.md. -/
structure TsS where
  /-- R226: delay lines. -/
  lines : Bank LineS := []
  /-- R233: CAL_EPOCH. -/
  epoch : BitVec 16 := 0
  /-- R233: a commit takes effect at the boundary in progress. -/
  commitNow : Bool := false
  /-- R248: CAL_COMMIT_COUNT. -/
  commitCnt : BitVec 32 := 0
  /-- R248: CAL_DISAGREE. -/
  disagreeCnt : BitVec 32 := 0
  /-- R248: CAL_DISCARD. -/
  discardCnt : BitVec 32 := 0
  /-- R247: CAL_STALE_MON. -/
  staleMon : BitVec 8 := 0
  /-- R227: replica length of MON b, 1/64 tap [no reset value in the spec: DESIGN CHOICE, log entry 2]. -/
  spanMon : Bank Nat := []
  /-- R232: offset and walk sets waiting to swap in (channel, set). -/
  setShadow : List (Nat × List Int) := []
  /-- R138: replica lengths of the monitor inputs in force at the start of their bank's phase, 1/64 tap. -/
  spanMonUse : Bank Nat := []
  /-- R15: CAL_SPAN_DRIFT and CAL_SPAN_LIMIT still in force for a channel set whose phase has not opened since they changed. -/
  spanOld : Bank (Nat × Nat) := []
deriving DecidableEq, Repr, Inhabited

/-- One point record (R251); spec/08_point_output.md. -/
structure Rec where
  /-- R251: VALID. -/
  valid : Bool := false
  /-- R251: ECHO. -/
  echo : Nat := 0
  /-- R251: CHAN. -/
  chan : Nat := 0
  /-- R251: RANGE. -/
  range : Nat := 0
  /-- R251: SAT. -/
  sat : Bool := false
  /-- R251: ECLASS. -/
  eclass : Nat := 0
  /-- R251: INTENS. -/
  intens : Nat := 0
  /-- R251: AZ. -/
  az : Int := 0
  /-- R251: THROTTLED. -/
  throttled : Bool := false
  /-- R251: FBDEGR. -/
  fbdegr : Bool := false
  /-- R251: REPLAYED. -/
  replayed : Bool := false
  /-- R251: CALSTALE. -/
  calstale : Bool := false
  /-- R251: KBIN. -/
  kbin : Nat := 0
  /-- R251: TOFS. -/
  tofs : Nat := 0
  /-- R251: CAMCTX. -/
  camctx : Nat := 15
  /-- R251: SIGMA. -/
  sigma : Nat := 0
  /-- R251: CONF. -/
  conf : Nat := 0
  /-- R251: RGB565. -/
  rgb : Nat := 0
deriving DecidableEq, Repr, Inhabited

/-- A result delivered to the point formatter and waiting to be formed (R251); spec/08_point_output.md. -/
structure ResE where
  /-- R251: the records, colour still to be given. -/
  recs : List Rec := []
  /-- R259: start stamp, T64. -/
  tStart : BitVec 64 := 0
  /-- R186: frame number of the shot. -/
  frame : BitVec 32 := 0
  /-- R186: replayed result. -/
  replayed : Bool := false
  /-- R270: bank. -/
  bank : Nat := 0
  /-- R262: place of the result in its frame: phase boundary, bank, channel. -/
  order : Nat := 0
  /-- R281: window close plus 1 of the shot of an echo-mode result, 0 for another. -/
  closeAt : Nat := 0
  /-- R270: phase boundary of the shot, 0 for a result of a group. -/
  phase : Nat := 0
  /-- R272: timebase count at which it reached the point formatter. -/
  at_ : Nat := 0
  /-- R272: its records are discarded, held longer than PT_HOLD behind an earlier frame. -/
  gone : Bool := false
  /-- R182: start stamp of its shot, timebase count. -/
  unitAt : Nat := 0
deriving DecidableEq, Repr, Inhabited

/-- Point formatter; spec/08_point_output.md. -/
structure PtS where
  /-- R281: STREAMING. -/
  streaming : Bool := false
  /-- R267: PT_INDEX. -/
  index : BitVec 32 := 0
  /-- R266: FIRST_INDEX of the open frame. -/
  firstIndex : BitVec 32 := 0
  /-- R266: POINT_COUNT of the open frame. -/
  pointCount : BitVec 32 := 0
  /-- R266: DROPPED of the open frame. -/
  droppedCur : BitVec 32 := 0
  /-- R272: TRUNCATED of the open frame. -/
  truncated : Bool := false
  /-- R281: PT_LAST_FRAME. -/
  lastFrame : BitVec 32 := 0
  /-- R281: PT_DROPPED. -/
  dropped : BitVec 32 := 0
  /-- R281: PT_HELD_MAX. -/
  heldMax : BitVec 32 := 0
  /-- R281: PT_MAXLAT. -/
  maxLat : BitVec 32 := 0
  /-- R280: PT_RECORDS. -/
  records : BitVec 64 := 0
  /-- R280: PT_DROPPED_TOTAL. -/
  dropTotal : BitVec 32 := 0
  /-- R280: PT_NEG_STATUS. -/
  negStatus : Nat := 0
  /-- R277: VER_POINTS. -/
  ver : BitVec 16 := 0
  /-- R251: results waiting to be formed. -/
  results : List ResE := []
  /-- R182: zoomed results held until the known-answer test of their engine passes. -/
  zoomed : List (Nat × ResE) := []
  /-- R272: records held, with the instant they were formed. -/
  held : List (Rec × Nat) := []
  /-- R273: headers formed and not yet written. -/
  hdrHeld : List (List (BitVec 32)) := []
  /-- R264: REPLAY_HOLD. -/
  replayHold : Bool := false
  /-- R351: per zone, its channel-shots of the frames whose results are due: order, channel, azimuth, ranges, frame. -/
  zoneHits : Bank (List (List Int)) := []
  /-- R261: headers of frames that ended and are still to be written, and whether points are enabled for them, oldest first. -/
  hdrDue : List (List (BitVec 32) × Bool) := []
  /-- R270: records formed and not yet written: with the window close plus 1 of an echo-mode record (0: another), four times its phase plus its bank, and where it waited behind an earlier frame since when (0: it did not). -/
  burst : List (Rec × Nat × Nat × Nat) := []
  /-- R262: histogram mode: records without a measurement that wait for the result of their group: emitter, group, records. -/
  missHeld : List (Nat × Nat × ResE) := []
  /-- R272: timebase count at which the last frame header went out. -/
  headerAt : Nat := 0
  /-- R352: the ZONE parameters of the complete frame that ended last. -/
  zonePars : Bank DVal := []
deriving DecidableEq, Repr, Inhabited

/-- One control law (R291); spec/09_scan_control.md. -/
structure LawS where
  /-- R302: integrator, Q30 [no reset value in the spec: DESIGN CHOICE, log entry 2]. -/
  i : Int := 0
  /-- R292: coefficients of set A: index, mantissa, shift. -/
  setA : List (Nat × Int × Nat) := []
  /-- R292: coefficients of set B. -/
  setB : List (Nat × Int × Nat) := []
  /-- R319: SET_ID of set A, 0 defaults. -/
  idA : BitVec 32 := 0
  /-- R319: SET_ID of set B. -/
  idB : BitVec 32 := 0
  /-- R294: bank in use. -/
  bank : Nat := 0
  /-- R294: previous error, Q15 [no reset value in the spec: DESIGN CHOICE, log entry 2]. -/
  x1 : Int := 0
  /-- R294: filtered derivative, Q15 [no reset value in the spec: DESIGN CHOICE, log entry 2]. -/
  d : Int := 0
  /-- R294: state of notch biquad 1, Q30 [no reset value in the spec: DESIGN CHOICE, log entry 2]. -/
  n1 : Int × Int := (0, 0)
  /-- R294: state of notch biquad 2, Q30 [no reset value in the spec: DESIGN CHOICE, log entry 2]. -/
  n2 : Int × Int := (0, 0)
  /-- R315: injected value of this period. -/
  inj : Int := 0
  /-- R294: previous set-point velocity, Q15 per period [no reset value in the spec: DESIGN CHOICE, log entry 2]. -/
  v1 : Int := 0
  /-- R316: input of the law in the last period, Q15 [no reset value in the spec: DESIGN CHOICE, log entry 2]. -/
  lastErr : Int := 0
  /-- R316: output of the law in the last period, Q15 [no reset value in the spec: DESIGN CHOICE, log entry 2]. -/
  lastOut : Int := 0
  /-- R294: its coefficient set was swapped for this period. -/
  swapped : Bool := false
deriving DecidableEq, Repr, Inhabited

/-- One captured LCE period (R316); spec/09_scan_control.md. -/
structure Trace where
  /-- R467: T64 of the tick. -/
  t : BitVec 64 := 0
  /-- R316: injected value. -/
  inj : Int := 0
  /-- R316: law input. -/
  inp : Int := 0
  /-- R316: law output. -/
  outp : Int := 0
deriving DecidableEq, Repr, Inhabited

/-- What the LCE gives the core die at an output release (R289); spec/09_scan_control.md. -/
structure RelS where
  /-- R289: mirror mode. -/
  mode : Nat := 4
  /-- R289: feedback in use: 0 primary, 1 secondary, 2 model. -/
  inUse : Nat := 0
  /-- R289: E_eye is halved. -/
  halved : Bool := false
  /-- R289: instant of the release, timebase count. -/
  at_ : Nat := 0
  /-- R300: position estimate at the release, Q15 with 16 fraction bits. -/
  th : Int := 0
  /-- R314: model velocity at the release, Q15 per period with 16 fraction bits. -/
  v : Int := 0
  /-- R74: what the estimate differs from the set-point at the release, Q15 with 16 fraction bits. -/
  devTh : Int := 0
  /-- R74: what the model velocity differs from that of the set-point at the release, Q15 per period with 16 fraction bits. -/
  devV : Int := 0
deriving DecidableEq, Repr, Inhabited

/-- Loop control engine and mirror; spec/09_scan_control.md. -/
structure LceS where
  /-- R287: instant of the last sample tick. -/
  tickAt : Nat := 0
  /-- R287: sample ticks since the end of reset. -/
  tickNo : Nat := 0
  /-- R319: MIR_MODE. -/
  mode : Nat := 4
  /-- R300: feedback in use: 0 primary, 1 secondary, 2 model. -/
  inUse : Nat := 0
  /-- R319: MIR_FB_STATUS bit 0. -/
  priOos : Bool := false
  /-- R319: MIR_FB_STATUS bit 1. -/
  secOos : Bool := false
  /-- R319: MIR_FB_STATUS bit 2. -/
  halved : Bool := false
  /-- R319: MIR_FB_STATUS bit 3. -/
  retry : Bool := false
  /-- R309: the test frame of the retry has begun. -/
  retryFrame : Bool := false
  /-- R309: the primary failed a test in the test frame. -/
  retryBad : Bool := false
  /-- R311: loop closed, confirming frame awaited. -/
  restartWait : Bool := false
  /-- R311: the confirming frame has begun. -/
  restartFrame : Bool := false
  /-- R311: a test of R305 failed on the source in use in the open frame. -/
  frameBad : Bool := false
  /-- R290: an overrun occurred in the open frame. -/
  frameOverrun : Bool := false
  /-- R306: the secondary passed every test in the open frame. -/
  secFrameOk : Bool := true
  /-- R307: a complete frame on the secondary has begun since the hand-over. -/
  halvedFrame : Bool := false
  /-- R313: a complete frame has begun since the watchdog trip. -/
  wdgFrame : Bool := false
  /-- R310: mode 2, or mode 4 after a second trip, latched until MIR_RESTART. -/
  latched : Bool := false
  /-- R320: SETPOINT, Q15. -/
  thRef : Int := 0
  /-- R320: ESTIMATE, Q15. -/
  thEst : Int := 0
  /-- R305: model position, Q15 with 16 fraction bits [no reset value in the spec: DESIGN CHOICE, log entry 2]. -/
  thModel : Int := 0
  /-- R314: model velocity, Q15 per period with 16 fraction bits [no reset value in the spec: DESIGN CHOICE, log entry 2]. -/
  vModel : Int := 0
  /-- R320: RES_PRI. -/
  resPri : Int := 0
  /-- R320: RES_SEC. -/
  resSec : Int := 0
  /-- R305: consecutive samples beyond MIR_RES_BOUND. -/
  priBadRun : Nat := 0
  /-- R307: T64 of the first of them. -/
  priBadT64 : BitVec 64 := 0
  /-- R305: consecutive missing or invalid words. -/
  priMissRun : Nat := 0
  /-- R307: T64 of the first of them. -/
  priMissT64 : BitVec 64 := 0
  /-- R305: consecutive identical raw values. -/
  priSameRun : Nat := 0
  /-- R307: T64 of the first of them. -/
  priSameT64 : BitVec 64 := 0
  /-- R305: last raw value. -/
  priX : Option Int := none
  /-- R305: consecutive edges beyond MIR_RES_BOUND_ENC. -/
  secBadRun : Nat := 0
  /-- R299: position of the last mark-A edge from the mark count. -/
  secTh : Int := 0
  /-- R296: AZ_START of the trajectory in force. -/
  zs0 : Int := 0
  /-- R296: AZ_END of the trajectory in force. -/
  zs1 : Int := 0
  /-- R689: start of a move to AZ_START and the position it starts from. -/
  moveFrom : Option (Nat × Int) := none
  /-- R320: I_CMD. -/
  iCmd : Int := 0
  /-- R320: LIMIT. -/
  iLimit : Nat := 0
  /-- R303: output of the coil-temperature limiter, Q15 [no reset value in the spec: DESIGN CHOICE, log entry 2]. -/
  iCt : Int := 32767
  /-- R319: COIL_T_EST, 0.1 C. -/
  coilT : Int := 250
  /-- R304: sum of bridge voltages of the 1 ms. -/
  coilVsum : Int := 0
  /-- R304: sum of coil currents of the 1 ms. -/
  coilIsum : Int := 0
  /-- R304: samples summed. -/
  coilN : Nat := 0
  /-- R301: V_th[b] released. -/
  vTh : Bank Nat := []
  /-- R301: V_ch[b] released. -/
  vCh : Bank Nat := []
  /-- R289: V_th[b] computed and not yet released. -/
  vThN : Bank Nat := []
  /-- R289: V_ch[b] computed and not yet released. -/
  vChN : Bank Nat := []
  /-- R302: th[b].i, Q30 [no reset value in the spec: DESIGN CHOICE, log entry 2]. -/
  thI : Bank Int := []
  /-- R302: ch[b].i, Q30 [no reset value in the spec: DESIGN CHOICE, log entry 2]. -/
  chI : Bank Int := []
  /-- R302: v_sel[b], last selected code. -/
  vSel : Bank Nat := []
  /-- R320: LCE_WIN_CH. -/
  winCh : Bank Nat := []
  /-- R320: LCE_OVERRUN. -/
  overrun : BitVec 32 := 0
  /-- R290: consecutive overruns. -/
  overrunRun : Nat := 0
  /-- R320: LCE_SAT. -/
  sat : BitVec 32 := 0
  /-- R320: COMPUTE_MAX. -/
  computeMax : BitVec 16 := 0
  /-- R291: laws 1-9. -/
  laws : Bank LawS := []
  /-- R289: duty computed and waiting for the release. -/
  outDuty : Int := 0
  /-- R105: bias code of the period. -/
  apdCode : Nat := 0
  /-- R291: heater duty computed. -/
  outHtr : Nat := 0
  /-- R349: loop currents computed, microampere. -/
  outLoop : Bank Nat := []
  /-- R289: outputs computed for this period. -/
  outReady : Bool := false
  /-- R316: injection running. -/
  injRun : Bool := false
  /-- R316: injection waits for its start. -/
  injWait : Bool := false
  /-- R315: law injected. -/
  injLaw : Nat := 0
  /-- R316: periods injected so far. -/
  injK : Nat := 0
  /-- R319: INJ_STATUS. -/
  injStatus : Nat := 0
  /-- R319: INJ_BUFFER. -/
  injBuf : List Trace := []
  /-- R315: PRBS register [no reset value in the spec: DESIGN CHOICE, log entry 2]. -/
  prbs : Nat := 1
  /-- R312: instant mode 4 was entered by a trip. -/
  mode4At : Nat := 0
  /-- R290: LCE fault present. -/
  lceFault : Bool := false
  /-- R305: the primary fails a test of R305 at this instant. -/
  priFail : Bool := false
  /-- R305: the secondary fails a test of R305 at this instant. -/
  secFail : Bool := false
  /-- R305: travel the model has predicted since the last mark-A edge or the end of reset, Q15 with 16 fraction bits. -/
  secTravel : Int := 0
  /-- R314: predicted velocity computed for the release, degree/s. -/
  outVel : Int := 0
  /-- R305: movement predicted between the last 32 identical raw values, newest first. -/
  priSteps : List Int := []
  /-- R305: movement predicted since the last primary sample. -/
  priAcc : Int := 0
  /-- R288: coil current latched at the tick, Q15 of 3.0 A. -/
  inI : Int := 0
  /-- R288: bridge voltage latched at the tick, mV. -/
  inV : Int := 0
  /-- R289: what the last output release gave the core die. -/
  rel : RelS := {}
  /-- R289: what the next output release gives the core die. -/
  relN : RelS := {}
  /-- R289: inhibits of this period that take effect at its release. -/
  inhOut : List Inhibit := []
  /-- R290: compute of this period is late and its overrun is still to be counted. -/
  lateTick : Bool := false
  /-- R315: phase of the sine sweep, 2^-32 turn. -/
  injPhase : Nat := 0
deriving DecidableEq, Repr, Inhabited

/-- One logical channel 16n+j (R322-R334, R356-R376); spec/10_front_end_and_adc.md. -/
structure LchS where
  /-- R355: source of the running sequence. -/
  src : Nat := 63
  /-- R355: LCH_GAIN_ACT. -/
  gain : Nat := 0
  /-- R333: consecutive small valid samples. -/
  upRun : Nat := 0
  /-- R332: samples still marked after a gain change. -/
  gainMark : Nat := 0
  /-- R327: next sample marked after a source change. -/
  srcMark : Bool := false
  /-- R330: Sequence of the next raw word. -/
  seqNo : Nat := 0
  /-- R332: last valid Q15 value. -/
  lastOk : Int := 0
  /-- R346: consecutive raw samples with reason 7. -/
  ovrRun : Nat := 0
  /-- R330: Q15 of the newest raw word received. -/
  rawQ : Int := 0
  /-- R325: used slots. -/
  m : Nat := 0
  /-- R355: LCH_SKEW, ns. -/
  skew : Nat := 0
  /-- R367: used slot positions. -/
  slots : List Nat := []
  /-- R376: half-band stages in force. -/
  structHb : Nat := 0
  /-- R376: FIR in force. -/
  structFir : Bool := false
  /-- R361: DC estimate e, Q15 with 24 fraction bits. -/
  dcE : Int := 0
  /-- R361: e is loaded with the next valid raw sample. -/
  dcLoad : Bool := false
  /-- R362: raw samples entered since the grid start, newest first (value with 16 fraction bits, mark). -/
  line : List (Int × Nat) := []
  /-- R360: raw samples since the grid start. -/
  rawN : Nat := 0
  /-- R364: raw sample number of S. -/
  settleFrom : Nat := 0
  /-- R364: reason while settling. -/
  settling : Option Nat := none
  /-- R368: instant before which S moves on. -/
  settleUntil : Option Nat := none
  /-- R369: last valid raw value since the settling start. -/
  lastValid : Int := 0
  /-- R371: Sequence of the last raw word received. -/
  rxSeq : Option Nat := none
  /-- R358: Sequence of the next output. -/
  outSeq : Nat := 0
  /-- R358: newest output, Q15. -/
  outQ : Int := 0
  /-- R358: VALID of the newest output. -/
  outOk : Bool := false
  /-- R358: reason of the newest output. -/
  outReason : Nat := 0
  /-- R359: output instant of the newest output. -/
  outAt : Nat := 0
  /-- R288: an output arrived since the last tick. -/
  outNew : Bool := false
  /-- R376: FLT_BANK_ACT. -/
  bank : Nat := 0
  /-- R372: outputs still marked after a hard swap. -/
  hardLeft : Nat := 0
  /-- R373: output k of the cross-fade in progress. -/
  fadeK : Nat := 0
  /-- R373: length of the cross-fade, 0 none. -/
  fadeN : Nat := 0
  /-- R372: bank request for the next output boundary. -/
  swapReq : Option Nat := none
  /-- R374: request held during a cross-fade. -/
  swapHeld : Option Nat := none
  /-- R367: change of structure waiting for the sequence start. -/
  structReq : Bool := false
  /-- R373: bank faded from. -/
  fadeFrom : Nat := 0
  /-- R360: sequence start from which the raw samples of the output grid count. -/
  startAt : Nat := 0
  /-- R357: the engine's FIR rates have room for the channel. -/
  firFits : Bool := true
deriving DecidableEq, Repr, Inhabited

/-- One excitation channel (R337-R341); spec/10_front_end_and_adc.md. -/
structure ExcS where
  /-- R355: EXC_STATUS bit 0. -/
  on : Bool := false
  /-- R340: EXC_STATUS bits 1-3. -/
  fault : Nat := 0
  /-- R339: instant of the first change of the EXC_SETTLE that runs. -/
  settleFrom : Nat := 0
  /-- R339: end of EXC_SETTLE after the last change. -/
  settleEnd : Nat := 0
  /-- R339: EXC_SETTLE running. -/
  settling : Bool := false
deriving DecidableEq, Repr, Inhabited

/-- One measurement channel M0-M31 (R342-R346, R658); spec/10_front_end_and_adc.md. -/
structure MeasS where
  /-- R355: MEAS_VALUE. -/
  value : Int := 0
  /-- R355: MEAS_STATUS bit 0. -/
  valid : Bool := false
  /-- R346: MEAS_STATUS bit 1. -/
  broken : Bool := false
  /-- R355: MEAS_STATUS bit 2. -/
  outRange : Bool := false
  /-- R346: MEAS_STATUS bit 3. -/
  refNot : Bool := false
  /-- R658: MEAS_PENDING bit. -/
  pending : Bool := true
  /-- R658: broken because still pending 2 s after ENTER_RUN. -/
  late : Bool := false
deriving DecidableEq, Repr, Inhabited

/-- One loop output (R349-R353); spec/10_front_end_and_adc.md. -/
structure LoopS where
  /-- R349: commanded current in force, microampere. -/
  uA : Nat := 0
  /-- R349: consecutive invalid updates. -/
  bad : Nat := 0
  /-- R349: last valid current, microampere [no reset value in the spec: DESIGN CHOICE, log entry 2]. -/
  lastOk : Nat := 0
  /-- R355: LOOP_I_MEAS. -/
  meas : Nat := 0
  /-- R355: LOOP_STATUS bit 0. -/
  faultLevel : Bool := false
  /-- R353: LOOP_STATUS bit 1. -/
  dev : Bool := false
  /-- R353: LOOP_STATUS bit 2. -/
  openL : Bool := false
  /-- R353: since when the readback deviates. -/
  devFrom : Option Nat := none
  /-- R353: since when the readback is below 0.5 mA. -/
  openFrom : Option Nat := none
deriving DecidableEq, Repr, Inhabited

/-- One zone (R351); spec/10_front_end_and_adc.md. -/
structure ZoneS where
  /-- R355: ZONE_VALUE. -/
  value : Int := 0
  /-- R355: ZONE_VALID. -/
  valid : Bool := false
  /-- R352: result waiting for the next sample tick. -/
  next : Option (Int × Bool) := none
  /-- R350: a new result was released at this tick. -/
  fresh : Bool := false
deriving DecidableEq, Repr, Inhabited

/-- Converters, excitation, measurement, loops; spec/10_front_end_and_adc.md. -/
structure AdcS where
  /-- R335: reference buffer enabled. -/
  refOn : Bool := false
  /-- R335: instant from which the 5 ms run. -/
  refFrom : Option Nat := none
  /-- R355: ADC_REF_READY. -/
  refReady : Bool := false
  /-- R336: outside 1 percent at the last check. -/
  refBadLog : Bool := false
  /-- R336: the 5 ms start at the next check within 0.5 percent. -/
  refWaitGood : Bool := false
  /-- R355: ADC_SEQ_STATUS bit 0. -/
  running : Bank Bool := []
  /-- R355: ADC_SEQ_STATUS bit 1. -/
  refused : Bank Bool := []
  /-- R355: ADC_SEQ_ENABLE taken at the last sequence start. -/
  enabled : Bank Bool := []
  /-- R324: 32 slots of the running sequence of ADCn. -/
  seq : Bank (List Nat) := []
  /-- R324: instant of the last sequence start. -/
  seqStart : Nat := 0
  /-- R324: sequence starts since the end of reset. -/
  seqNo : Nat := 0
  /-- R324: slot that ADCn converts next. -/
  slot : Bank Nat := []
  /-- R327: first sequence after a commit. -/
  firstSeq : Bank Bool := []
  /-- R329: logical channels 0-63. -/
  lch : Bank LchS := []
  /-- R337: EXC0-EXC7. -/
  exc : Bank ExcS := []
  /-- R342: M0-M31. -/
  meas : Bank MeasS := []
  /-- R658: ENTER_RUN from which the 2 s of pending run. -/
  runAt : Option Nat := none
  /-- R349: LOOP0, LOOP1. -/
  loops : Bank LoopS := []
  /-- R351: Z0-Z3. -/
  zones : Bank ZoneS := []
  /-- R366: synchronising reset requested at. -/
  syncReq : Option Nat := none
  /-- R376: FLT_SAT. -/
  fltSat : Bank (BitVec 32) := []
  /-- R363: FIR bank A of engine n at 2n, B at 2n+1. -/
  coef : Bank (List Int) := []
  /-- R376: FLT_SET_ID. -/
  coefId : Bank (BitVec 32) := []
  /-- R327: validated slots and sources of ADCn waiting for the sequence start. -/
  commit : Bank (List Nat × List Nat) := []
  /-- R335: instant of the last check of the reference buffer. -/
  refCheckAt : Option Nat := none
deriving DecidableEq, Repr, Inhabited

/-- An open camera frame (R389); spec/12_camera_pipelines.md. -/
structure CamF where
  /-- R387: FRAME_NO. -/
  no : BitVec 32 := 0
  /-- R382: frame time. -/
  tFrame : BitVec 64 := 0
  /-- R389: frame start. -/
  startAt : Nat := 0
  /-- R390: lines received, raw samples. -/
  lines : List (List Nat) := []
  /-- R387: LINES_RX. -/
  rx : Nat := 0
  /-- R387: LINES_REPL. -/
  repl : Nat := 0
  /-- R380: parameters in force at its frame start. -/
  pars : List (Nat × DVal) := []
  /-- R389: closed. -/
  closed : Bool := false
  /-- R387: SHORT. -/
  short : Bool := false
  /-- R387: LONG. -/
  long : Bool := false
  /-- R387: TIMEOUT. -/
  timeout : Bool := false
  /-- R387: T_CLOSE. -/
  tClose : BitVec 64 := 0
  /-- R391: lines in the elastic buffer. -/
  buffered : Nat := 0
  /-- R391: its lines go to the pipeline, not to the elastic buffer. -/
  live : Bool := false
deriving DecidableEq, Repr, Inhabited

/-- A colour map (R399); spec/12_camera_pipelines.md. -/
structure CMap where
  /-- R399: its frame time. -/
  tFrame : BitVec 64 := 0
  /-- R400: width of the frame. -/
  width : Nat := 0
  /-- R400: height of the frame. -/
  height : Nat := 0
  /-- R399: CAM_CMAP_DIV. -/
  div : Nat := 2
  /-- R399: RGB565 pixels by row. -/
  pix : List (List Nat) := []
  /-- R380: intrinsics and extrinsics attached. -/
  pars : List (Nat × DVal) := []
deriving DecidableEq, Repr, Inhabited

/-- One camera context (R379); spec/12_camera_pipelines.md. -/
structure CtxS where
  /-- R389: the frame being received. -/
  frame : Option CamF := none
  /-- R401: CAM_FRAMES. -/
  frames : BitVec 32 := 0
  /-- R401: CAM_DROP. -/
  drop : BitVec 32 := 0
  /-- R387: frames started. -/
  started : BitVec 32 := 0
  /-- R387: DROPPED since the previous image. -/
  dropSince : Nat := 0
  /-- R387: THINNED since the previous image. -/
  thinSince : Nat := 0
  /-- R394: frame number since the throttle's start. -/
  thinN : Nat := 0
  /-- R399: most recent complete colour map. -/
  map : Option CMap := none
  /-- R397: eligible frames counted into the baseline. -/
  baseN : Nat := 0
  /-- R397: baseline per window, 2^-16. -/
  base : Bank Nat := []
  /-- R398: consecutive eligible frames with enough low windows. -/
  lowRun : Nat := 0
  /-- R398: consecutive eligible frames with fewer. -/
  okRun : Nat := 0
  /-- R402: last closure. -/
  closedAt : Option Nat := none
  /-- R391: closed frames waiting for the pipeline, oldest first. -/
  wait : List CamF := []
deriving DecidableEq, Repr, Inhabited

/-- Cameras; spec/12_camera_pipelines.md. -/
structure CamS where
  /-- R379: contexts 0-7. -/
  ctx : Bank CtxS := []
  /-- R391: context+1 that pipeline p processes, 0 idle. -/
  busy : Bank Nat := []
  /-- R401: CAM_CONTAM. -/
  contam : BitVec 8 := 0
  /-- R402: CAM_DROP_CNT. -/
  dropCnt : BitVec 32 := 0
  /-- R402: CAM_SHORT_CNT. -/
  shortCnt : BitVec 32 := 0
  /-- R402: CAM_LONG_CNT. -/
  longCnt : BitVec 32 := 0
  /-- R402: CAM_LINEERR_CNT. -/
  lineErr : BitVec 32 := 0
  /-- R402: CAM_PHY_ERR. -/
  phyErr : BitVec 32 := 0
  /-- R402: last high-speed traffic on port p plus 1, 0 none. -/
  linkAt : Bank Nat := []
  /-- R391: closed frame that pipeline p processes. -/
  job : Bank CamF := []
deriving DecidableEq, Repr, Inhabited

/-- One 24 V input, SIn at n and EDMn at 16+n (R404-R410); spec/13_safety_functions_and_io.md. -/
structure InS where
  /-- R403: last sample [no reset value in the spec: DESIGN CHOICE, log entry 2]. -/
  raw : Bool := false
  /-- R429: filtered state. -/
  state : Bool := false
  /-- R404: consecutive samples at the other level. -/
  run : Nat := 0
  /-- R407: end of the mask. -/
  maskUntil : Nat := 0
  /-- R429: cause of SI_FAULT, 0 none. -/
  fault : Nat := 0
  /-- R429: foreign source. -/
  foreign : Nat := 0
  /-- R408: samples low within the foreign pulse in progress. -/
  lowIn : Nat := 0
  /-- R408: high before the foreign pulse. -/
  highBefore : Bool := false
  /-- R419: consecutive test periods without a fault. -/
  cleanRun : Nat := 0
  /-- R413: state last received by the safety core. -/
  sc : Bool := false
  /-- R419: consecutive test periods of the other source of a cross-short without a fault. -/
  cleanFor : Nat := 0
deriving DecidableEq, Repr, Inhabited

/-- One test-pulse source (R406); spec/13_safety_functions_and_io.md. -/
structure TpS where
  /-- R406: pulse in progress. -/
  pulse : Bool := false
  /-- R406: start of the pulse. -/
  pulseFrom : Nat := 0
  /-- R409: readback [no reset value in the spec: DESIGN CHOICE, log entry 2]. -/
  readHigh : Bool := false
  /-- R409: low outside a pulse since. -/
  lowFrom : Option Nat := none
  /-- R409: TP_FAULT bit. -/
  fault : Bool := false
  /-- R409: consecutive pulses passed. -/
  good : Nat := 0
deriving DecidableEq, Repr, Inhabited

/-- One function slot SF0-SF11 (R413); spec/13_safety_functions_and_io.md. -/
structure SfS where
  /-- R413: SF_STATE. -/
  st : Nat := 0
  /-- R415: all channels have been in demand together. -/
  startSeen : Bool := false
  /-- R416: since when the channels disagree. -/
  discFrom : Option Nat := none
  /-- R413: first channel reached release. -/
  relFrom : Option Nat := none
  /-- R417: both hands released together. -/
  bothRel : Bool := false
  /-- R417: first hand actuated. -/
  handFrom : Option Nat := none
  /-- R417: the second hand came too late. -/
  late : Bool := false
  /-- R414: reset input high since. -/
  rstHigh : Option Nat := none
  /-- R419: every channel in demand since. -/
  demFrom : Option Nat := none
  /-- R417: type 6: since when the contacts of hand 2 disagree. -/
  discFrom2 : Option Nat := none
deriving DecidableEq, Repr, Inhabited

/-- Safety core; spec/13_safety_functions_and_io.md. -/
structure SafS where
  /-- R403: SI0-15, EDM0-3. -/
  ins : Bank InS := []
  /-- R405: TP0-TP7. -/
  tp : Bank TpS := []
  /-- R411: SF0-SF11. -/
  sf : Bank SfS := []
  /-- R429: SAFECFG_PINS [no reset value in the spec: DESIGN CHOICE, log entry 2]. -/
  pinsBoot : BitVec 8 := 0
  /-- R430: PINS, latest reading. -/
  pins : BitVec 8 := 0
  /-- R430: PINS_OK. -/
  pinsOk : Bool := false
  /-- R430: SET_OK. -/
  setOk : Bool := false
  /-- R430: PIN_CHANGE. -/
  pinChange : Bool := false
  /-- R429: SAFE_SET_NO. -/
  setNo : Nat := 0
  /-- R429: SAFE_SET_CRC. -/
  setCrc : BitVec 32 := 0
  /-- R447: SAFE causes present. -/
  causes : List SafeCause := []
  /-- R20: SAFE causes latched. -/
  latched : List SafeCause := []
  /-- R430: SAF_TP_ERR. -/
  tpErr : BitVec 32 := 0
  /-- R430: SAF_DT_COUNT. -/
  dtCount : BitVec 32 := 0
  /-- R405: test-pulse sources on. -/
  srcOn : Bool := false
  /-- R406: instant the sources started. -/
  srcFrom : Nat := 0
  /-- R403: instant of the last sample of the inputs. -/
  siAt : Option Nat := none
  /-- R120: instant of the last periodic OUT_STATE. -/
  outAt : Option Nat := none
  /-- R427: instant of the last reading of SAFECFG. -/
  pinsAt : Option Nat := none
deriving DecidableEq, Repr, Inhabited

/-- One field of the active set (R435); spec/14_protective_fields_and_safe_networks.md. -/
structure FldF where
  /-- R435: count of each cell at the end of the previous frame. -/
  k : Bank Nat := []
  /-- R434: cells violated in the open frame. -/
  viol : List Nat := []
  /-- R434: (cell, channel) with a good channel-shot in the open frame. -/
  good : List (Nat × Nat) := []
  /-- R434: cells whose no-good test is decided. -/
  decided : List Nat := []
  /-- R435: violated. -/
  violated : Bool := true
  /-- R435: consecutive complete frames without a violated cell. -/
  clear : Nat := 0
  /-- R435: count of each cell at the end of the frame before the previous one. -/
  old : Bank Nat := []
deriving DecidableEq, Repr, Inhabited

/-- One receive slot (R453); spec/14_protective_fields_and_safe_networks.md. -/
structure RxSlot where
  /-- R454: T64 and SEQ of the last accepted PDU. -/
  last : Option (BitVec 64 × BitVec 8) := none
  /-- R454: good copies waiting for their partner: network (0 CANA, 1 CANB), arrival, bytes. -/
  wait : List (Nat × Nat × List (BitVec 8)) := []
  /-- R457: last accepted pair. -/
  accAt : Nat := 0
  /-- R457: timed out. -/
  timedOut : Bool := false
  /-- R456: consecutive accepted pairs. -/
  pairs : Nat := 0
  /-- R451: data of the last accepted pair. -/
  data : Option (BitVec 16) := none
  /-- R459: its node has answered with a type 15. -/
  ver : Bool := false
  /-- R459: range of that answer (lowest, highest). -/
  verRange : Nat × Nat := (0, 0)
deriving DecidableEq, Repr, Inhabited

/-- Field evaluator and safety PDU; spec/14_protective_fields_and_safe_networks.md. -/
structure FeS where
  /-- R431: fields 0-3 of the active set. -/
  fields : Bank FldF := []
  /-- R442: fields of the old set during a switch-over. -/
  oldFields : Bank FldF := []
  /-- R462: FS_ACTIVE. -/
  active : Nat := 0
  /-- R442: new selection for the next frame start. -/
  next : Option Nat := none
  /-- R442: old set of the switch-over. -/
  oldSet : Nat := 0
  /-- R442: frames left of the switch-over. -/
  switchLeft : Nat := 0
  /-- R462: FS_STATUS bit 1. -/
  selInvalid : Bool := false
  /-- R440: since when the selection is invalid. -/
  selBadFrom : Option Nat := none
  /-- R453: receive slots 0-3. -/
  slots : Bank RxSlot := []
  /-- R462: NET_STATUS bit 0. -/
  missA : Bool := false
  /-- R462: NET_STATUS bit 1. -/
  missB : Bool := false
  /-- R462: NET_STATUS bit 2. -/
  mismatch : Bool := false
  /-- R456: NET_SINGLE. -/
  netSingle : Bool := false
  /-- R456: consecutive transmissions acknowledged on both networks. -/
  txAcks : Nat := 0
  /-- R462: SPDU_LOST. -/
  lost : BitVec 32 := 0
  /-- R462: SPDU_ERR. -/
  err : BitVec 32 := 0
  /-- R449: SEQ of the next type-1 PDU [no reset value in the spec: DESIGN CHOICE, log entry 2]. -/
  txSeq : BitVec 8 := 0
  /-- R449: SEQ of the next type-15 PDU [no reset value in the spec: DESIGN CHOICE, log entry 2]. -/
  verSeq : BitVec 8 := 0
  /-- R452: DATA of the last type-1 PDU. -/
  txData : BitVec 16 := 0
  /-- R458: VER_SAFEPDU. -/
  ver : BitVec 16 := 0
  /-- R459: negotiation complete. -/
  verDone : Bool := false
  /-- R445: the last field-evaluator known-answer test passed. -/
  kat : Bool := true
  /-- R212: echo results that wait for the field evaluator, oldest first. -/
  queue : List FieldShot := []
  /-- R452: instant of the last type-1 PDU. -/
  txAt : Option Nat := none
  /-- R458: instant of the last type-15 PDU since the entry to CONFIG. -/
  verAt : Option Nat := none
  /-- R686: the frame that ended last, where it was complete. -/
  lastDone : Option (BitVec 32) := none
deriving DecidableEq, Repr, Inhabited

/-- One recorder item (R467); spec/15_event_recorder.md. -/
structure Item where
  /-- R471: T64 of the item. -/
  t : BitVec 64 := 0
  /-- R467: its bytes, a multiple of 16. -/
  data : List (BitVec 8) := []
  /-- R471: it holds a T64 of its own. -/
  ownT : Bool := true
deriving DecidableEq, Repr, Inhabited

/-- One segment of a stream (R465); spec/15_event_recorder.md. -/
structure Seg where
  /-- R469: retained bytes, oldest block first, the block in progress last. -/
  data : List (BitVec 8) := []
  /-- R471: T64 and byte offset since the arm of every retained item. -/
  starts : List (BitVec 64 × Nat) := []
  /-- R481: BLOCK_SEQ: blocks written since the arm. -/
  blocks : Nat := 0
  /-- R481: bytes written in the block in progress. -/
  used : Nat := 0
  /-- R481: index records of the retained blocks. -/
  index : List (List (BitVec 32)) := []
  /-- R481: ITEMS of the block in progress. -/
  blkItems : Nat := 0
  /-- R481: T64_FIRST of the block in progress. -/
  blkT64 : BitVec 64 := 0
  /-- R481: FIRST_OFS of the block in progress. -/
  blkOfs : Nat := 65535
  /-- R468: GAP for the block in progress. -/
  gap : Bool := false
  /-- R482: seal record of a capture. -/
  sealRec : Option (List (BitVec 32)) := none
  /-- R475: the capture has been read. -/
  read : Bool := false
  /-- R472: the segment has filled once. -/
  filled : Bool := false
  /-- R486: DAMAGED. -/
  damaged : Bool := false
  /-- R475: capture number of its seal. -/
  order : Nat := 0
deriving DecidableEq, Repr, Inhabited

/-- One recorder stream (R469); spec/15_event_recorder.md. -/
structure StrS where
  /-- R487: REC_STATE. -/
  st : Nat := 0
  /-- R469: current segment. -/
  seg : Nat := 0
  /-- R465: segments 0-7. -/
  segs : Bank Seg := []
  /-- R465: segment size, bytes. -/
  segBytes : Nat := 0
  /-- R487: REC_SOURCE in force. -/
  source : Nat := 0
  /-- R473: items waiting in the write engine's queue. -/
  queue : List Item := []
  /-- R482: trigger instant. -/
  trigT : BitVec 64 := 0
  /-- R482: CAUSE. -/
  trigCause : Nat := 0
  /-- R471: bytes written from the trigger position. -/
  postBytes : Nat := 0
  /-- R472: EARLY. -/
  early : Bool := false
  /-- R487: REC_LOST. -/
  lost : BitVec 32 := 0
  /-- R487: REC_MISSED. -/
  missed : BitVec 32 := 0
  /-- R487: REC_MISSED_T. -/
  missedT : BitVec 64 := 0
  /-- R487: REC_RETRIG. -/
  retrig : BitVec 32 := 0
  /-- R470: instant of the arm. -/
  armAt : Nat := 0
  /-- R477: last keyframe. -/
  keyAt : Nat := 0
  /-- R468: an item was dropped since the last one written. -/
  gapNext : Bool := false
  /-- R473: instant at which the re-arm in progress ends. -/
  rearmUntil : Nat := 0
deriving DecidableEq, Repr, Inhabited

/-- One mask on one bank or channel (R480); spec/15_event_recorder.md. -/
structure MaskS where
  /-- R480: consecutive samples out of mask. -/
  run : Nat := 0
  /-- R480: violated and not yet in mask again. -/
  held : Bool := false
deriving DecidableEq, Repr, Inhabited

/-- Carousel; spec/15_event_recorder.md. -/
structure RecS where
  /-- R467: streams 0-15. -/
  str : Bank StrS := []
  /-- R487: REC_BOOT_EPOCH. -/
  bootEpoch : BitVec 16 := 0
  /-- R487: REC_CH_OOS. -/
  chOos : BitVec 4 := 0
  /-- R487: REC_CAP [no reset value in the spec: DESIGN CHOICE, log entry 2]. -/
  capMiB : Nat := 0
  /-- R488: DDR_OK. -/
  ddrOk : Bool := false
  /-- R482: captures sealed since the last FULL reset. -/
  captureNo : BitVec 32 := 0
  /-- R487: REC_READ_STATUS. -/
  readSt : Nat := 0
  /-- R483: readout in progress: ring, stream, segment, next block. -/
  read : Option (Nat × Nat × Nat × Nat) := none
  /-- R488: REC_MISSED_CNT. -/
  missedCnt : BitVec 32 := 0
  /-- R480: mask k at 512k + bank or channel. -/
  masks : Bank MaskS := []
  /-- R487: MASK_COUNT. -/
  maskCount : Bank (BitVec 32) := []
  /-- R480: last logged violation of mask k plus 1. -/
  maskLogAt : Bank Nat := []
  /-- R477: last sampled value of digital group g. -/
  groups : Bank Nat := []
  /-- R477: last value of Mm stored by stream n, at 32n + m. -/
  measLast : Bank Int := []
  /-- R477: last MEAS_STATUS of Mm stored by stream n, at 32n + m. -/
  measStat : Bank Nat := []
  /-- R483: the readout has still to send its seal record. -/
  readFirst : Bool := false
  /-- R466: source, size and segments of each stream as allocated at the last BOOT. -/
  alloc : List (Nat × Nat × Nat) := []
  /-- R488: blocks of data written in the last 100 ms: instant, bytes. -/
  written : List (Nat × Nat) := []
  /-- R477: instant of the last sample of the digital groups. -/
  groupsAt : Option Nat := none
deriving DecidableEq, Repr, Inhabited

/-- One coalescing group (R494, R513); spec/16_interrupts_and_error_log.md. -/
structure GrpS where
  /-- R513: COUNT. -/
  count : Nat := 1
  /-- R513: TARGET. -/
  target : Nat := 6
  /-- R513: TIME. -/
  time : Nat := 1
  /-- R513: FUNC. -/
  func : Nat := 1
  /-- R513: VECTOR. -/
  vector : Nat := 0
  /-- R494: events counted since it last fired. -/
  n : Nat := 0
  /-- R494: first event counted. -/
  since : Option Nat := none
deriving DecidableEq, Repr, Inhabited

/-- Event interrupt controller; spec/16_interrupts_and_error_log.md. -/
structure EicS where
  /-- R513: pending bits. -/
  pend : BitVec 512 := 0
  /-- R513: mask bits (1 for host sources). -/
  mask : BitVec 512 := hostMask
  /-- R513: EIC_LEVEL: level sources asserted. -/
  level : BitVec 512 := 0
  /-- R513: EIC_ACTIVE: sources in service. -/
  active : BitVec 512 := 0
  /-- R497: active-and-pending. -/
  again : BitVec 512 := 0
  /-- R494: pending events counted in their group. -/
  counted : BitVec 512 := 0
  /-- R499: claims whose source de-asserted. -/
  vanish : BitVec 512 := 0
  /-- R495: target of the claim of a source (8 + function for HOST: 6 PF0, 14 PF1). -/
  owner : Bank Nat := []
  /-- R513: GROUP of host source n (unlisted: 8). -/
  route : Bank Nat := []
  /-- R513: groups 0-31. -/
  grp : Bank GrpS := []
  /-- R513: BAD_COMPLETE per function. -/
  badComplete : Bank Bool := []
  /-- R513: EIC_VANISHED per function. -/
  vanished : Bank (BitVec 32) := []
  /-- R513: EIC_REDIRECTED per function. -/
  redirected : Bank (BitVec 32) := []
  /-- R514: EIC_VANISHED_CNT. -/
  vanCnt : Bank (BitVec 32) := []
  /-- R514: EIC_REDIRECT_CNT. -/
  redCnt : Bank (BitVec 32) := []
  /-- R502: wake requested for source n at, plus 1. -/
  wakeReq : Bank Nat := []
  /-- R502: source n pending at an asleep target since, plus 1. -/
  asleepFrom : Bank Nat := []
  /-- R502: sources whose wake timed out. -/
  noWake : BitVec 512 := 0
  /-- R502: events redirected to the fallback core. -/
  moved : BitVec 512 := 0
deriving DecidableEq, Repr, Inhabited

/-- One error-log entry (R503); spec/16_interrupts_and_error_log.md. -/
structure LogE where
  /-- R503: T64. -/
  t : BitVec 64 := 0
  /-- R503: SOURCE. -/
  src : BitVec 16 := 0
  /-- R503: CODE. -/
  code : BitVec 16 := 0
  /-- R503: DATA. -/
  data : BitVec 32 := 0
deriving DecidableEq, Repr, Inhabited

/-- Error log; spec/16_interrupts_and_error_log.md. -/
structure LogS where
  /-- R506: staging queue, at most 16. -/
  staging : List LogE := []
  /-- R507: slots 0-254. -/
  slots : Bank LogE := []
  /-- R508: slot 255. -/
  summary : LogE := {}
  /-- R513: NEXT. -/
  next : BitVec 8 := 0
  /-- R513: GENERATION. -/
  gen : BitVec 24 := 0
  /-- R513: EIC_LOST0-4. -/
  lost : Bank (BitVec 32) := []
  /-- R509: EIC_FIRST with FIRST_VALID. -/
  first : Option LogE := none
  /-- R511: EIC_PREV_FIRST. -/
  prevFirst : LogE := {}
  /-- R514: EIC_RESET_CAUSE. -/
  resetCause : BitVec 16 := 0
  /-- R506: instant of the last entry written to the log. -/
  wroteAt : Option Nat := none
deriving DecidableEq, Repr, Inhabited

/-- One posted buffer taken (R523); spec/17_pcie_host_interface.md. -/
structure Buf where
  /-- R523: ADDR. -/
  addr : BitVec 64 := 0
  /-- R523: LEN. -/
  len : Nat := 0
  /-- R523: USED. -/
  used : Nat := 0
  /-- R523: FIRST_OFS. -/
  first : Option Nat := none
deriving DecidableEq, Repr, Inhabited

/-- An item waiting for a buffer of its ring (R524, R527); spec/17_pcie_host_interface.md. -/
structure WItem where
  /-- R524: bytes still to be written. -/
  data : List (BitVec 8) := []
  /-- R527: instant it arrived. -/
  at_ : Nat := 0
  /-- R524: its first bytes are already written. -/
  begun : Bool := false
  /-- R526: another item of its burst follows. -/
  more : Bool := false
  /-- R281: window close plus 1 of an echo-mode record held under neither R264 nor R272, 0 for another item. -/
  closeAt : Nat := 0
  /-- R272: it waits on a full ring. -/
  heldFull : Bool := false
  /-- R273: words of a frame header of the device, empty for another item. -/
  hdr : List (BitVec 32) := []
deriving DecidableEq, Repr, Inhabited

/-- Advanced Error Reporting of one function (R536); spec/17_pcie_host_interface.md. -/
structure AerS where
  /-- R536: Uncorrectable Error Status. -/
  unc : BitVec 32 := 0
  /-- R536: Uncorrectable Error Mask. -/
  uncMask : BitVec 32 := 0
  /-- R536: Uncorrectable Error Severity [no reset value in the spec: PRESUMED 0x00060010 (that of PCI Express), log entry 18]. -/
  uncSev : BitVec 32 := 0x00060010
  /-- R536: Correctable Error Status. -/
  cor : BitVec 32 := 0
  /-- R536: Correctable Error Mask [no reset value in the spec: PRESUMED 0x00002000 (that of PCI Express), log entry 18]. -/
  corMask : BitVec 32 := 0x00002000
  /-- R515: Device Control: payload and read request sizes, tags [no reset value in the spec: PRESUMED 0x2100 (that of PCI Express), log entry 18]. -/
  devCtl : BitVec 16 := 0x2100
  /-- R515: ECRC Generation Enable (bit 0) and Check Enable (bit 1). -/
  ecrc : BitVec 2 := 0
  /-- R517: PME_En (bit 0) and PME_Status (bit 1) of the PM capability [no reset value in the spec: PRESUMED 0 (that of PCI Express), log entry 18]. -/
  pme : BitVec 2 := 0
deriving DecidableEq, Repr, Inhabited

/-- One DMA stream ring (R530); spec/17_pcie_host_interface.md. -/
structure RingS where
  /-- R530: ENABLE. -/
  enable : Bool := false
  /-- R530: STOPPED. -/
  stopped : Bool := false
  /-- R530: CAUSE. -/
  cause : Nat := 0
  /-- R530: PCI_RING_BASE. -/
  base : BitVec 64 := 0
  /-- R530: ENTRIES. -/
  size : Nat := 0
  /-- R530: PCI_RING_TAIL. -/
  tail : BitVec 32 := 0
  /-- R530: PCI_RING_WB. -/
  wb : BitVec 64 := 0
  /-- R530: PCI_RING_DONE. -/
  done : BitVec 32 := 0
  /-- R530: PCI_RING_DROP. -/
  drop : BitVec 32 := 0
  /-- R525: BYTES. -/
  bytes : BitVec 64 := 0
  /-- R524: buffer in progress. -/
  buf : Option Buf := none
  /-- R529: attempts of the descriptor fetch in progress. -/
  fetch : Nat := 0
  /-- R527: items waiting for a buffer. -/
  waiting : List WItem := []
  /-- R529: start of the fetch attempt in progress. -/
  fetchAt : Nat := 0
  /-- R281: closeAt of the records written since the last ring update. -/
  unseen : List Nat := []
  /-- R526: records of a burst are written that no write-back covers yet. -/
  owes : Bool := false
deriving DecidableEq, Repr, Inhabited

/-- PCIe host interface; spec/17_pcie_host_interface.md. -/
structure PciS where
  /-- R541: DL_UP. -/
  dlUp : Bool := false
  /-- R541: RETRAINING. -/
  retraining : Bool := false
  /-- R533: declaration from which retraining lasts. -/
  retrainAt : Nat := 0
  /-- R541: WIDTH. -/
  width : Nat := 0
  /-- R541: TRAINED. -/
  trained : Nat := 0
  /-- R541: SPEED. -/
  speed : Nat := 0
  /-- R531: lanes reversed. -/
  reversed : Bool := false
  /-- R541: FAILED. -/
  failed : BitVec 4 := 0
  /-- R541: PCI_VER_HOST. -/
  verHost : BitVec 32 := 0
  /-- R541: PCI_VER_NEG. -/
  verNeg : BitVec 16 := 0
  /-- R541: NEG. -/
  neg : Nat := 0
  /-- R533: items (ring n) and MSI-X messages (ring 32 + function) held in order, with the instant. -/
  staged : List (Nat × WItem) := []
  /-- R541: PCI_STAGE_USED, bytes. -/
  stageBytes : Nat := 0
  /-- R540: PCI_STAGE_LOST. -/
  stageLost : BitVec 32 := 0
  /-- R541: PCI_STAGE_MAXHOLD. -/
  maxHold : BitVec 32 := 0
  /-- R541: PCI_LANE_ERR. -/
  laneErr : Bank Nat := []
  /-- R653: PERST# low: the PCIe function is held in reset. -/
  perst : Bool := false
  /-- R538: function f in D3hot. -/
  d3 : Bank Bool := []
  /-- R501: MSI-X of function f enabled and not function-masked. -/
  msixOn : Bank Bool := []
  /-- R528: Bus Master Enable of PF0. -/
  bme : Bool := false
  /-- R530: rings 0-31. -/
  rings : Bank RingS := []
  /-- R534: HOST asleep until the rings are enabled again after a link down. -/
  hostDown : Bool := false
  /-- R536: Advanced Error Reporting of functions 0 and 1. -/
  aer : Bank AerS := []
  /-- R536: Lane Error Status of the Secondary PCIe capability. -/
  laneSt : BitVec 4 := 0
  /-- R517: Bus Master Enable of PF1. -/
  bme1 : Bool := false
  /-- R517: BAR0 of functions 0 and 1 [no reset value in the spec: PRESUMED 0 (the family's), log entry 91]. -/
  bar0 : Bank (BitVec 64) := []
  /-- R501: Enable and Function Mask of MSI-X, bits 1 and 0, of functions 0 and 1. -/
  msixCtl : Bank Nat := []
  /-- R518: MSI-X table: word 256 f + 4 v + w of vector v of function f, w 0 to 2 [no reset value in the spec: PRESUMED 0 (the family's), log entry 91]. -/
  msixTab : Bank (BitVec 32) := []
  /-- R518: Mask Bit of vector v of function f is 0, at 64 f + v [no reset value in the spec: PRESUMED false (the family's), log entry 91]. -/
  msixOpen : Bank Bool := []
  /-- R518: Pending bit of vector v of function f, at 64 f + v. -/
  msixPba : Bank Bool := []
deriving DecidableEq, Repr, Inhabited

/-- One endpoint (R551); spec/18_xiest_dictionary_and_can.md. -/
structure SessS where
  /-- R551: session open. -/
  open_ : Bool := false
  /-- R552: version of the session. -/
  ver : BitVec 16 := 0
  /-- R628: privileged (safety) session. -/
  priv : Bool := false
  /-- R551: last request. -/
  lastAt : Nat := 0
  /-- R549: TAG and CRC of the last request. -/
  lastTag : Option (BitVec 8 × BitVec 32) := none
  /-- R549: its response. -/
  lastRsp : List (BitVec 8) := []
  /-- R628: challenge read and not yet answered. -/
  chal : Option (List (BitVec 8)) := none
  /-- R629: refused responses. -/
  refusals : Nat := 0
  /-- R629: refused until 60 s after. -/
  lockout : Option Nat := none
  /-- R556: message being received. -/
  rx : List (BitVec 8) := []
  /-- R556: counter expected next. -/
  rxNext : Option Nat := none
  /-- R557: last segment received. -/
  rxAt : Nat := 0
  /-- R557: response bytes still to be sent. -/
  tx : List (BitVec 8) := []
  /-- R556: next continuation counter. -/
  txCnt : Nat := 0
  /-- R557: since when flow control is awaited. -/
  txWait : Option Nat := none
deriving DecidableEq, Repr, Inhabited

/-- One CAN controller (R554); spec/18_xiest_dictionary_and_can.md. -/
structure CanS where
  /-- R569: CAN_STATUS bit 2. -/
  busOff : Bool := false
  /-- R569: CAN_STATUS bit 3. -/
  recovering : Bool := false
  /-- R569: transmit error counter. -/
  tec : Nat := 0
  /-- R569: receive error counter. -/
  rec_ : Nat := 0
  /-- R569: CAN_BUSOFF. -/
  busOffs : BitVec 32 := 0
  /-- R551: on its network. -/
  joined : Bool := false
  /-- R555: frames that wait for the bus, first to go first: whether a safety PDU, identifier, data. -/
  txq : List (Bool × Nat × List (BitVec 8)) := []
  /-- R555: end of the frame on the bus. -/
  txFree : Nat := 0
deriving DecidableEq, Repr, Inhabited

/-- The PF1 mailbox (R558); spec/18_xiest_dictionary_and_can.md. -/
structure MbxS where
  /-- R558: REQ_FREE. -/
  reqFree : Bool := true
  /-- R558: RSP_READY. -/
  rspReady : Bool := false
  /-- R558: RSP_FIRST. -/
  rspFirst : Bool := false
  /-- R558: RSP_LAST. -/
  rspLast : Bool := false
  /-- R558: ABORTED. -/
  aborted : Bool := false
  /-- R558: OVERRUN. -/
  overrun : Bool := false
  /-- R558: RSP_LEN. -/
  rspLen : Nat := 0
  /-- R558: request buffer [no reset value in the spec: DESIGN CHOICE, log entry 2]. -/
  req : Memory := []
  /-- R558: response buffer [no reset value in the spec: DESIGN CHOICE, log entry 2]. -/
  rsp : Memory := []
  /-- R558: message being received. -/
  msg : List (BitVec 8) := []
  /-- R558: response bytes not yet placed in the buffer. -/
  out : List (BitVec 8) := []
deriving DecidableEq, Repr, Inhabited

/-- One journal copy (R564); spec/18_xiest_dictionary_and_can.md. -/
structure Jrn where
  /-- R564: generation. -/
  gen : BitVec 32 := 0
  /-- R564: entries. -/
  ents : List (Nat × DVal) := []
  /-- R564: format version of the record of each group [no reset value in the spec: DESIGN CHOICE, log entry 2]. -/
  vers : Bank Nat := []
deriving DecidableEq, Repr, Inhabited

/-- Xiest, CAN, mailbox, Store; spec/18_xiest_dictionary_and_can.md. -/
structure XiS where
  /-- R551: endpoints 0-9. -/
  sess : Bank SessS := []
  /-- R552: VER_XIEST. -/
  ver : BitVec 16 := 0
  /-- R569: XI_CRC_ERR. -/
  crcErr : BitVec 32 := 0
  /-- R569: XI_CAN_ABORT. -/
  canAbort : BitVec 32 := 0
  /-- R554: CANA, CANB. -/
  can : Bank CanS := []
  /-- R558: mailbox. -/
  mbx : MbxS := {}
  /-- R569: CMD_STATUS. -/
  cmdStatus : Nat := 0
  /-- R569: STORE_STATUS. -/
  storeSt : Nat := 0
  /-- R569: STORE_GEN. -/
  storeGen : BitVec 32 := 0
  /-- R565: snapshot of the Store in progress. -/
  storing : Option (List (Nat × DVal)) := none
  /-- R564: journal copy A when valid [no reset value in the spec: DESIGN CHOICE, log entry 2]. -/
  jrnA : Option Jrn := none
  /-- R564: journal copy B when valid [no reset value in the spec: DESIGN CHOICE, log entry 2]. -/
  jrnB : Option Jrn := none
  /-- R565: copy B holds the loaded or last-written generation [no reset value in the spec: DESIGN CHOICE, log entry 2]. -/
  jrnInB : Bool := false
  /-- R559: working copy of the safety set. -/
  work : Option (List (Nat × DVal)) := none
  /-- R562: ENTER_DORMANT accepted at, from endpoint. -/
  dormantAt : Option (Nat × Nat) := none
  /-- R562: commanded reset accepted at, from endpoint. -/
  resetAt : Option (ResetLevel × Nat × Nat) := none
  /-- R567: a Store was in progress when the last reset began. -/
  storeLost : Bool := false
  /-- R294: responses that wait, for the next sample tick (0, R294) or the next sequence start (1, R327): which, endpoint, message. -/
  owed : List (Nat × Nat × List (BitVec 8)) := []
deriving DecidableEq, Repr, Inhabited

/-- One lane SL0-SL7 (R575); spec/19_scan_link.md. -/
structure SlkS where
  /-- R597: SLK_STATE. -/
  st : Nat := 0
  /-- R597: SLK_RATE. -/
  rate : Nat := 0
  /-- R597: SLK_VER_NEG. -/
  chosen : BitVec 16 := 0
  /-- R597: SLK_PARTNER. -/
  partner : List (BitVec 8) := []
  /-- R587: VER_POINTS in the partner's last CAP. -/
  partnerPts : BitVec 16 := 0
  /-- R577: range of the partner's last CAP. -/
  partnerRange : Nat × Nat := (0, 0)
  /-- R577: RATES of the partner's last CAP. -/
  partnerRates : Nat := 0
  /-- R577: sent and received a CAP with the same CHOSEN. -/
  capSame : Bool := false
  /-- R577: rate being aligned. -/
  tryRate : Option Nat := none
  /-- R577: start of the alignment at that rate. -/
  tryAt : Nat := 0
  /-- R572: SEQ of the next packet [no reset value in the spec: DESIGN CHOICE, log entry 2]. -/
  txSeq : BitVec 8 := 0
  /-- R573: SEQ expected next [no reset value in the spec: DESIGN CHOICE, log entry 2]. -/
  rxSeq : BitVec 8 := 0
  /-- R573: at most 32 unacknowledged packets (SEQ, TYPE plus 256 times FLAGS, payload). -/
  replay : List (BitVec 8 × Nat × List (BitVec 8)) := []
  /-- R574: packets queued (TYPE plus 256 times FLAGS, payload). -/
  queue : List (Nat × List (BitVec 8)) := []
  /-- R573: since when an ACK is awaited. -/
  waitFrom : Option Nat := none
  /-- R594: transmitter asleep. -/
  txSleep : Bool := false
  /-- R594: receiver asleep. -/
  rxSleep : Bool := false
  /-- R594: SLEEP sent at, ACK awaited. -/
  sleepAck : Option Nat := none
  /-- R581: number of the last marker sent. -/
  markSno : BitVec 16 := 0
  /-- R580: number and s of the last eight markers sent. -/
  markSent : List (BitVec 16 × BitVec 64) := []
  /-- R580: r of a marker received whose TIME packet has not come. -/
  markIn : Option (BitVec 64) := none
  /-- R580: r of the last marker received with its number. -/
  markR : BitVec 64 := 0
  /-- R581: its number. -/
  markRno : BitVec 16 := 0
  /-- R581: last 8 values of theta. -/
  thetas : List (BitVec 64) := []
  /-- R581: last 8 values of delta. -/
  deltas : List (BitVec 64) := []
  /-- R583: pairs since the lane came UP. -/
  pairs : Nat := 0
  /-- R583: last pair. -/
  pairAt : Nat := 0
  /-- R597: SLK_OFS_VALID bit. -/
  ofsValid : Bool := false
  /-- R153: load count of the last TIME packet. -/
  partnerLoads : Option (BitVec 16) := none
  /-- R584: last SCHED received. -/
  sched : Option Sched := none
  /-- R597: SLK_TRIG_DROP. -/
  trigDrop : BitVec 32 := 0
  /-- R597: SLK_CODE_ERR. -/
  codeErr : BitVec 32 := 0
  /-- R597: SLK_RETX. -/
  retx : BitVec 32 := 0
  /-- R597: SLK_PRBS_ERR. -/
  prbsErr : BitVec 32 := 0
  /-- R592: message being received. -/
  xmsg : List (BitVec 8) := []
  /-- R592: a message is being received. -/
  xopen : Bool := false
  /-- R588: stream index of its record ring. -/
  fwdIndex : BitVec 32 := 0
  /-- R588: FIRST_INDEX of the forwarded frame. -/
  fwdFirst : BitVec 32 := 0
  /-- R588: records written for the forwarded frame. -/
  fwdCount : BitVec 32 := 0
  /-- R588: records dropped of the forwarded frame. -/
  fwdDrop : BitVec 32 := 0
  /-- R591: sources claimed until the IRQ packet of that payload is acknowledged. -/
  irqOpen : List (Nat × List (BitVec 8)) := []
  /-- R588: forwarded items received and not yet written: header or record, bytes, instant. -/
  fwdQ : List (Bool × List (BitVec 8) × Nat) := []
  /-- R588: rewritten headers held while their ring is full. -/
  fwdHdrs : List (List (BitVec 8)) := []
  /-- R588: records of the forwarded frame have been discarded here. -/
  fwdTrunc : Bool := false
  /-- R576: instant of the last CAP sent since the lane came down. -/
  capAt : Option Nat := none
  /-- R587: VER_POINTS given in the last CAP sent. -/
  capVer : BitVec 16 := 0
deriving DecidableEq, Repr, Inhabited

/-- Scan Link; spec/19_scan_link.md. -/
structure SlkAll where
  /-- R575: lanes SL0-SL7. -/
  lanes : Bank SlkS := []
  /-- R597: SLK_FWD_STATUS. -/
  fwdStatus : Nat := 0
  /-- R597: SLK_FWD_DROP. -/
  fwdDropped : BitVec 32 := 0
  /-- R585: waiting for a SCHED since. -/
  syncFrom : Option Nat := none
  /-- R585: instant found for the first frame start. -/
  syncAt : Option Nat := none
  /-- R577: VER_SLINK. -/
  ver : BitVec 16 := 0
deriving DecidableEq, Repr, Inhabited

/-- One temperature sensor TS0-TS9 (R599); spec/20_thermal_and_power.md. -/
structure SensS where
  /-- R618: reading, 0.001 C [no reset value in the spec: DESIGN CHOICE, log entry 2]. -/
  t : Int := 25000
  /-- R599: instant of the last reading [no reset value in the spec: DESIGN CHOICE, log entry 2]. -/
  at_ : Nat := 0
  /-- R599: reading at the previous model step [no reset value in the spec: DESIGN CHOICE, log entry 2]. -/
  prev : Int := 25000
  /-- R618: THM_SENSOR_BROKEN bit. -/
  broken : Bool := false
  /-- R599: since when it differs from its node by more than THM_PLAUS. -/
  plausFrom : Option Nat := none
  /-- R599: since when no condition holds. -/
  okFrom : Option Nat := none
  /-- R603: correction applied so far, 0.001 C. -/
  corr : Int := 0
  /-- R601: the node has taken a value from it since the end of the reset. -/
  seen : Bool := false
deriving DecidableEq, Repr, Inhabited

/-- Thermal model and power; spec/20_thermal_and_power.md. -/
structure ThmS where
  /-- R601: node temperatures, 0.001 C (unlisted: 25000) [no reset value in the spec: DESIGN CHOICE, log entry 2]. -/
  node : Bank Int := []
  /-- R598: TS0-TS9. -/
  sens : Bank SensS := []
  /-- R618: THM_L. -/
  level : Nat := 256
  /-- R609: shutdown cause present. -/
  shutdown : Bool := false
  /-- R609: since when at or below 110 C. -/
  coolFrom : Option Nat := none
  /-- R618: THM_SHUTDOWNS. -/
  shutdowns : BitVec 16 := 0
  /-- R618: L below 256 since. -/
  throttleAt : Option Nat := none
  /-- R602: last model step. -/
  stepAt : Nat := 0
  /-- R602: handshake counts of island n since the last step [no reset value in the spec: DESIGN CHOICE, log entry 2]. -/
  counts : Bank Nat := []
  /-- R618: THM_ISLAND_P, mW [no reset value in the spec: DESIGN CHOICE, log entry 2]. -/
  power : Bank Nat := []
  /-- R618: THM_POWER_CORE, mW [no reset value in the spec: DESIGN CHOICE, log entry 2]. -/
  powCore : Nat := 0
  /-- R618: VCORE_ACT. -/
  vid : Nat := 10
  /-- R612: last code change. -/
  vidAt : Nat := 0
  /-- R614: ball PWRREQ [no reset value in the spec: DESIGN CHOICE, log entry 2]. -/
  pwrreq : Bool := true
  /-- R615: entry to DORMANT. -/
  dormantFrom : Nat := 0
  /-- R618: DORM_WAKE_SRC. -/
  wakeSrc : BitVec 8 := 0
  /-- R615: wake in progress: source bit, since. -/
  wakePend : Option (Nat × Nat) := none
  /-- R618: DORM_DURATION. -/
  duration : BitVec 32 := 0
  /-- R614: DORM_WAKE_EN copied into the wake logic. -/
  wakeEn : Nat := 7
  /-- R614: DORM_WAKE_TIME copied. -/
  wakeTime : Nat := 0
  /-- R648: VMACH, 10 mV [no reset value in the spec: DESIGN CHOICE, log entry 2]. -/
  vmach : Nat := 2400
  /-- R648: VMACH below threshold. -/
  vmachLow : Bool := false
  /-- R648: VHV_IN, 10 mV [no reset value in the spec: DESIGN CHOICE, log entry 2]. -/
  vhv : Nat := 2400
  /-- R648: VHV_IN below threshold. -/
  vhvLow : Bool := false
  /-- R608: since when two sensors in service both read 135 C or more within 5 C of each other, by 8 i + j. -/
  hotPairs : Bank Nat := []
  /-- R618: THM_THROTTLED_MS up to the last end of the throttle, T64 units. -/
  throttled : Nat := 0
  /-- R602: instant of the last step of the thermal model. -/
  modelAt : Option Nat := none
deriving DecidableEq, Repr, Inhabited

/-- One package stored in flash (R622); spec/21_firmware_update.md. -/
structure Pkg where
  /-- R622: 512-byte header. -/
  head : List (BitVec 8) := []
  /-- R622: payload as stored. -/
  body : List (BitVec 8) := []
  /-- R634: status word of the control sector. -/
  status : BitVec 32 := 0xFFFFFFFF
  /-- R621: copy record, for copies. -/
  rec_ : Option (BitVec 32) := none
  /-- R623: what the device decrypts from the payload [no reset value in the spec: DESIGN CHOICE, log entry 2]. -/
  plain : List (BitVec 8) := []
  /-- R624: tag, hash and CRC of a set sealed on the device pass [no reset value in the spec: DESIGN CHOICE, log entry 2]. -/
  auth : Bool := false
deriving DecidableEq, Repr, Inhabited

/-- Update; spec/21_firmware_update.md. -/
structure UpdS where
  /-- R645: UPD_STATE. -/
  st : Nat := 0
  /-- R645: UPD_LOCK. -/
  lock : Option Nat := none
  /-- R631: last update write. -/
  lockAt : Nat := 0
  /-- R645: UPD_RECEIVED. -/
  received : Nat := 0
  /-- R645: UPD_RESULT. -/
  result : Nat := 0
  /-- R634: bytes programmed in the staging area. -/
  buf : List (BitVec 8) := []
  /-- R633: staging area: type, slot or copy (type 3: 2N + copy). -/
  area : Option (Nat × Nat) := none
  /-- R620: boot selector copy 0 when its complement matches [no reset value in the spec: DESIGN CHOICE, log entry 2]. -/
  sel0 : Option (BitVec 32) := none
  /-- R620: boot selector copy 1 [no reset value in the spec: DESIGN CHOICE, log entry 2]. -/
  sel1 : Option (BitVec 32) := none
  /-- R619: image slots A and B [no reset value in the spec: DESIGN CHOICE, log entry 2]. -/
  slots : Bank Pkg := []
  /-- R621: eye-table copies 0, 1 [no reset value in the spec: DESIGN CHOICE, log entry 2]. -/
  eyeCopies : Bank Pkg := []
  /-- R621: safety-set copies at 2N + c [no reset value in the spec: DESIGN CHOICE, log entry 2]. -/
  setCopies : Bank Pkg := []
  /-- R626: words programmed of the counter of type 1-3, oldest first. -/
  counters : Bank (List Nat) := []
  /-- R645: SIG_REVOKED. -/
  revoked : BitVec 4 := 0
  /-- R638: image on trial since the end of the reset. -/
  trialFrom : Option Nat := none
  /-- R638: UPD_CMD CONFIRM written. -/
  hostConfirm : Bool := false
  /-- R638: a safety-core fatal error occurred in the trial. -/
  fatalSeen : Bool := false
  /-- R645: RECOVERY_CAUSE. -/
  recCause : Nat := 0
  /-- R627: raises to be repeated at the next reset. -/
  raisePend : List (Nat × Nat) := []
  /-- R637: image slot of the running image, 0 A, 1 B [no reset value in the spec: DESIGN CHOICE, log entry 2]. -/
  running : Nat := 0
  /-- R640: area that the background verification after a reset marked verified, not yet reopened. -/
  bgReady : Option (Nat × Nat) := none
deriving DecidableEq, Repr, Inhabited

/-- Reset and start-up; spec/22_start_up_and_reset.md. -/
structure RstS where
  /-- R655: power-on: the internal reset is held. -/
  phase : ResetPhase := .held
  /-- R652: level of the reset in progress. -/
  level : ResetLevel := .full
  /-- R652: its cause. -/
  cause : Nat := 0
  /-- R655: release of the internal reset. -/
  releasedAt : Nat := 0
  /-- R643: BOOTSEL high when PORn released. -/
  bootsel : Bool := true
  /-- R654: last watchdog reset. -/
  wdgAt : Option Nat := none
  /-- R664: BOOT_TIME, microseconds. -/
  bootTime : BitVec 32 := 0
  /-- R661: ball READY. -/
  ready : Bool := false
  /-- R661: ball RUN_OK. -/
  runOk : Bool := false
  /-- R615: the FULL reset in progress follows a wake. -/
  wake : Bool := false
  /-- R657: 0x3005 logged in this BOOT. -/
  notReady : Bool := false
  /-- R657: Calliope's supplies good [no reset value in the spec: DESIGN CHOICE, log entry 2]. -/
  supplyGood : Bool := true
  /-- R657: barrier links trained [no reset value in the spec: DESIGN CHOICE, log entry 2]. -/
  linksTrained : Bool := true
  /-- R660: entry to CONFIG. -/
  configAt : Nat := 0
  /-- R660: waiting for the automatic ENTER_RUN. -/
  autoWait : Bool := false
  /-- R653: reset requested and not yet begun, with its cause. -/
  request : Option (ResetLevel × Nat) := none
  /-- R654: core whose watchdog reset is performed as FULL. -/
  escal : Option Nat := none
deriving DecidableEq, Repr, Inhabited

/-- One arbiter of a shared resource (R39, R42); spec/01_architecture.md. -/
structure ArbS where
  /-- R39: pending requests (class, requester island), oldest first. -/
  waiting : List (Nat × Nat) := []
  /-- R39: island granted last in class P, plus 1. -/
  last : Bank Nat := []
  /-- R40: transfer in progress (class, island). -/
  busy : Option (Nat × Nat) := none
deriving DecidableEq, Repr, Inhabited

/-- The parameter dictionary (R15-R18); spec/00_scope.md. -/
structure DictS where
  /-- R16: values in force, unlisted entries at their default. -/
  inForce : Bank DVal := []
  /-- R17: written values fixed for the coming apply point. -/
  fixed : Bank DVal := []
  /-- R17: written values held for the following apply point. -/
  held : Bank DVal := []
  /-- R478: transport code of written values held, by key, and of those fixed, by key plus 2^24. -/
  via : Bank Nat := []
deriving DecidableEq, Repr, Inhabited

/-- The whole device; spec/00_scope.md. -/
structure State where
  /-- R9: timebase count in T64 units since power-on, never reset. -/
  tb : Nat := 0
  /-- R10: offset of T64 against the timebase count. -/
  t64Ofs : BitVec 64 := 0
  /-- R19: DEVICE_STATE. -/
  dev : DevState := .boot
  /-- R15: parameter dictionary. -/
  dict : DictS := {}
  /-- R49: Ringmaster. -/
  rm : RmS := {}
  /-- R26: Calliope. -/
  fld : FldS := {}
  /-- R123: receive channels 0-255. -/
  chan : Bank ChanS := []
  /-- R134: timebase, PPS, FM units, encoder inputs. -/
  tbs : TbS := {}
  /-- R160: echo engines. -/
  ee : EeS := {}
  /-- R199: rejection. -/
  rj : RjS := {}
  /-- R220: Tuning Slide. -/
  ts : TsS := {}
  /-- R251: point formatter. -/
  pt : PtS := {}
  /-- R286: loop control engine and mirror. -/
  lce : LceS := {}
  /-- R322: converters, filters, excitation, measurement, loop outputs, zones. -/
  adc : AdcS := {}
  /-- R377: cameras. -/
  cam : CamS := {}
  /-- R403: safety inputs, functions and outputs seen by the safety core. -/
  saf : SafS := {}
  /-- R431: field evaluator and safety PDUs. -/
  fe : FeS := {}
  /-- R463: Carousel. -/
  car : RecS := {}
  /-- R489: event interrupt controller. -/
  eic : EicS := {}
  /-- R503: error log. -/
  log : LogS := {}
  /-- R515: PCIe host interface. -/
  pci : PciS := {}
  /-- R542: Xiest, CAN, mailbox, Store. -/
  xi : XiS := {}
  /-- R570: Scan Link. -/
  slk : SlkAll := {}
  /-- R598: thermal model and power. -/
  thm : ThmS := {}
  /-- R619: firmware update and flash. -/
  upd : UpdS := {}
  /-- R651: reset and start-up. -/
  rst : RstS := {}
  /-- R39: arbiters of the shared resources 0-4. -/
  arb : Bank ArbS := []
  /-- R28: MODEL FIELD what the last command put on links, balls, buses and host memory. -/
  out : List Out := []
  /-- R13: MODEL FIELD data returned by the last register read. -/
  busRead : BitVec 32 := 0
  /-- R6: MODEL FIELD counter of free values drawn. -/
  free : Nat := 0
  /-- R6: MODEL FIELD commands waiting, first in first out. -/
  pending : List Instr := []
deriving DecidableEq, Repr, Inhabited

/-- The device right after a power-on FULL reset whose internal reset is still held (R651, R652, R655): every field at
its reset value, no command waiting. Log entry 5 says how it comes to run. -/
def State.reset : State := {}

/-- Faults. The block has none: the spec gives every command an effect in every state, and an error is reported
through the error log, a status register or a response. -/
inductive Fault where
  /-- Raised by nobody; it keeps the type inhabited. Safe. -/
  | none
deriving DecidableEq, Repr

/-- Refusals. -/
inductive Refusal where
  /-- Raised by a Dispatch arm whose command has no meaning yet. Safe: nothing can be proved about that command. -/
  | notModelled (mnemonic : String)
deriving DecidableEq, Repr

end Sys2Proof.Machine
end

