-- ==== Sys2Proof/Machine/Ops.lean ====
section
/-!
DEFINITION. Shared operations: banks, bytes, numbers, time, free values, the dictionary's values, what the
device puts on its links, mailbox memory.
-/
namespace Sys2Proof.Machine

/-! ## Banks -/

/-- Element k of a bank, d where it is not listed. -/
def bget {α : Type} (d : α) : Bank α → Nat → α
  | [], _ => d
  | (j, v) :: r, k => if j = k then v else if k < j then d else bget d r k

/-- The bank with element k set to v; keys stay in rising order. -/
def bset {α : Type} : Bank α → Nat → α → Bank α
  | [], k, v => [(k, v)]
  | (j, w) :: r, k, v =>
    if j = k then (k, v) :: r else if k < j then (k, v) :: (j, w) :: r else (j, w) :: bset r k v

/-- The bank with element k changed by f. -/
def bmod {α : Type} (d : α) (b : Bank α) (k : Nat) (f : α → α) : Bank α := bset b k (f (bget d b k))

/-- The bank without element k, which then reads as the default. -/
def bdel {α : Type} (b : Bank α) (k : Nat) : Bank α := b.filter fun p => p.1 != k

/-! ## Bytes and numbers -/

/-- The n low bytes of v, least significant first (R6). -/
def leBytes : Nat → Nat → List Byte
  | 0, _ => []
  | n + 1, v => BitVec.ofNat 8 v :: leBytes n (v / 256)

/-- The value of bytes, least significant first (R6). -/
def ofLe : List Byte → Nat
  | [] => 0
  | b :: r => b.toNat + 256 * ofLe r

/-- The n low bytes of the two's complement of v (R7). -/
def leInt (n : Nat) (v : Int) : List Byte := leBytes n (v % (256 ^ n : Nat)).toNat

/-- v read as a two's complement number of n bits (R7). -/
def signed (n v : Nat) : Int :=
  let w := v % 2 ^ n
  if 2 * w < 2 ^ n then (w : Int) else (w : Int) - (2 ^ n : Nat)

/-- Bits hi down to lo of v. -/
def bits (v hi lo : Nat) : Nat := v / 2 ^ lo % 2 ^ (hi + 1 - lo)

/-- Bit i of v. -/
def bit (v i : Nat) : Bool := v / 2 ^ i % 2 == 1

/-- v with bit i set to b. -/
def setBit (v i : Nat) (b : Bool) : Nat :=
  v - (if bit v i then 2 ^ i else 0) + (if b then 2 ^ i else 0)

/-- b as 0 or 1. -/
def b2n (b : Bool) : Nat := if b then 1 else 0

/-- v held to lo at least and hi at most. -/
def clampI (lo hi v : Int) : Int := if v < lo then lo else if hi < v then hi else v

/-- v held to the Q15 range (R7). -/
def clampQ15 (v : Int) : Int := clampI (-32768) 32767 v

/-- The quotient rounded to the nearest integer, halves upward (rounding of halves: DESIGN CHOICE, log entry 8). -/
def rdiv (a : Int) (b : Int) : Int := if b = 0 then 0 else (2 * a + b) / (2 * b)

/-- The integer square root, by bisection on bits. -/
def isqrtGo : Nat → Nat → Nat → Nat
  | 0, _, r => r
  | k + 1, n, r =>
    let c := r + 2 ^ k
    isqrtGo k n (if c * c ≤ n then c else r)

/-- The largest r whose square is at most n. -/
def isqrt (n : Nat) : Nat := isqrtGo (Nat.log2 n / 2 + 1) n 0

/-- An unsigned counter of w bits that saturates. -/
def satInc {w : Nat} (c : BitVec w) : BitVec w := if c.toNat + 1 < 2 ^ w then c + 1 else c

/-- A saturating sum on an unsigned counter of w bits. -/
def satAdd {w : Nat} (c : BitVec w) (n : Nat) : BitVec w :=
  if c.toNat + n < 2 ^ w then c + BitVec.ofNat w n else BitVec.allOnes w

/-- The first n natural numbers. -/
abbrev upto (n : Nat) : List Nat := List.range n

/-- Insertion into a rising list of keyed things, after those of equal key. -/
def insertBy {α : Type} (key : α → Int) (x : α) : List α → List α
  | [] => [x]
  | y :: r => if key x < key y then x :: y :: r else y :: insertBy key x r

/-- A list sorted by rising key, equal keys in their order. -/
def sortBy {α : Type} (key : α → Int) (l : List α) : List α := l.foldl (fun acc x => insertBy key x acc) []

/-- The median: the middle element, for an even count the mean of the two middle ones rounded down
(DESIGN CHOICE, log entry 8). -/
def median (l : List Int) : Int :=
  let s := sortBy id l
  let n := s.length
  if n = 0 then 0
  else if n % 2 = 1 then s.getD (n / 2) 0
  else (s.getD (n / 2 - 1) 0 + s.getD (n / 2) 0) / 2

/-- Sum of a list of integers. -/
def isum (l : List Int) : Int := l.foldl (· + ·) 0

/-- Sum of a list of naturals. -/
def nsum (l : List Nat) : Nat := l.foldl (· + ·) 0

/-- f at the integer a, scaled by the FX32 number k and rounded. -/
def fxMul (k : FX) (a : Int) : Int := rdiv (k.m * a) (2 ^ k.s : Nat)

/-! ## CRCs -/

/-- One bit step of a reflected CRC of 32 bits. -/
def crcBit (poly : BitVec 32) (c : BitVec 32) : BitVec 32 :=
  if c.getLsbD 0 then (c >>> 1) ^^^ poly else c >>> 1

/-- One byte into a reflected CRC of 32 bits. -/
def crcByte (poly : BitVec 32) (c : BitVec 32) (b : Byte) : BitVec 32 :=
  let x := c ^^^ (b.setWidth 32)
  crcBit poly (crcBit poly (crcBit poly (crcBit poly (crcBit poly (crcBit poly (crcBit poly (crcBit poly x)))))))

/-- CRC-32 (reflected 0xEDB88320, start and final inversion) over bytes (R450, without key). -/
def crc32 (l : List Byte) : BitVec 32 :=
  ~~~ l.foldl (crcByte 0xEDB88320) (BitVec.allOnes 32)

/-- CRC-32C (reflected 0x82F63B78, start and final inversion) over bytes (R115). -/
def crc32c (l : List Byte) : BitVec 32 :=
  ~~~ l.foldl (crcByte 0x82F63B78) (BitVec.allOnes 32)

/-! ## Time -/

/-- T64 units in a nanosecond, a microsecond, a millisecond and a second (R9). -/
abbrev nsU : Nat := 128
abbrev usU : Nat := 128000
abbrev msU : Nat := 128000000
abbrev secU : Nat := 128000000000

/-- T64 at a timebase count n (R9, R10). -/
def t64At (s : State) (n : Nat) : BitVec 64 := BitVec.ofNat 64 n + s.t64Ofs

/-- T64 now. -/
def t64Now (s : State) : BitVec 64 := t64At s s.tb

/-- The start of every command: time moves to its instant (never back), and the record of what the device puts out
is emptied. -/
def State.start (s : State) (t : Nat) : State := { s with tb := max s.tb t, out := [] }

/-- A periodic action is due: a period has passed since the last one, or there was none. -/
def periodDue (last : Option Nat) (period now : Nat) : Bool :=
  match last with
  | none => true
  | some a => decide (a + period ≤ now)

/-- Something put on a link, a ball or a bus. -/
def emit (o : Out) (s : State) : State := { s with out := s.out ++ [o] }

/-- A free value of w bits, and the state with the counter advanced (log entry 7). -/
def freeBits (w : Nat) (s : State) : BitVec w × State :=
  (BitVec.ofNat w (Config.free s.free), { s with free := s.free + 1 })

/-! ## The dictionary's values -/

/-- Key of an entry in the dictionary's banks. -/
def dkey (num sub : Nat) : Nat := num * 256 + sub

/-- The default of an entry of a row (R18). -/
def rowDefault (r : DRow) (sub : Nat) : DVal :=
  (r.dflt.getD ((sub - r.subLo) % max r.dflt.length 1) (.int 0))

/-- An entry's default, 0 where the dictionary has no such entry. -/
def dictDefault (num sub : Nat) : DVal :=
  match dictFind num sub with
  | some r => rowDefault r sub
  | none => .int 0

/-- The listed value of a key in a bank of dictionary values. -/
def dlook : Bank DVal → Nat → Option DVal
  | [], _ => none
  | (j, v) :: r, k => if j = k then some v else if k < j then none else dlook r k

/-- The value in force of an entry that software writes (R16). -/
def par (s : State) (num sub : Nat) : DVal :=
  match dlook s.dict.inForce (dkey num sub) with
  | some v => v
  | none => dictDefault num sub

/-- The integer of a value. -/
def dvInt : DVal → Int
  | .int v => v
  | .fx m sh => m / (2 ^ sh : Nat)
  | .bytes _ => 0

/-- The FX32 number of a value. -/
def dvFx : DVal → FX
  | .int v => { m := v, s := 0 }
  | .fx m sh => { m := m, s := sh }
  | .bytes _ => {}

/-- The bytes of a value. -/
def dvBytes : DVal → List Byte
  | .bytes b => b
  | _ => []

/-- Parameter num.sub in force, as an integer. -/
def parI (s : State) (num sub : Nat) : Int := dvInt (par s num sub)
/-- Parameter num.sub in force, as a natural number. -/
def parN (s : State) (num sub : Nat) : Nat := (parI s num sub).toNat
/-- Parameter num.sub in force, as a truth value. -/
def parB (s : State) (num sub : Nat) : Bool := parI s num sub != 0
/-- Parameter num.sub in force, as an FX32 number. -/
def parFx (s : State) (num sub : Nat) : FX := dvFx (par s num sub)
/-- Parameter num.sub in force, as bytes. -/
def parBytes (s : State) (num sub : Nat) : List Byte := dvBytes (par s num sub)

/-- The value in force of an entry set. -/
def setPar (num sub : Nat) (v : DVal) (s : State) : State :=
  { s with dict := { s.dict with inForce := bset s.dict.inForce (dkey num sub) v } }

/-- Size of a value of a type, bytes; 0 for STR and BLOB, whose length travels with the access (R7). -/
def tySize : DTy → Nat
  | .bool | .u8 | .i8 | .enum => 1
  | .u16 | .i16 => 2
  | .u32 | .i32 => 4
  | .u64 | .t64 => 8
  | .fx32 => 5
  | .str | .blob => 0

/-- The type's integers are two's complement (R7). -/
def tySigned : DTy → Bool
  | .i8 | .i16 | .i32 => true
  | _ => false

/-- The bytes of a value (R6, R7). -/
def encVal (ty : DTy) (v : DVal) : List Byte :=
  match ty with
  | .str | .blob => dvBytes v
  | .fx32 => leInt 4 (dvFx v).m ++ [BitVec.ofNat 8 (dvFx v).s]
  | t => leInt (tySize t) (dvInt v)

/-- The value of bytes of the type's size (R6, R7). -/
def decVal (ty : DTy) (l : List Byte) : DVal :=
  match ty with
  | .str | .blob => .bytes l
  | .fx32 => .fx (signed 32 (ofLe (l.take 4))) (l.getD 4 0).toNat
  | t => if tySigned t then .int (signed (8 * l.length) (ofLe l)) else .int (ofLe l)

/-- The bytes of the value of a key. -/
def keyBytes (k : Nat) (v : DVal) : List Byte :=
  match dictFind (k / 256) (k % 256) with
  | some r => encVal r.ty v
  | none => []

/-- FW_VERSION of the running image: that of its slot's header (R622), the device's own where the slot is empty (R2). -/
def fwVersion (s : State) : Nat :=
  let h := (bget ({} : Pkg) s.upd.slots s.upd.running).head
  if h.isEmpty then (Config.fwVersion s.upd.running).toNat else ofLe ((h.drop 12).take 4)

/-! ## Mailbox memory -/

/-- The canonical form: addresses strictly rise from lo, and no cell holds the blank value. -/
def Memory.wfFrom : Nat → Memory → Bool
  | _, [] => true
  | lo, (a, v) :: r => decide (lo ≤ a) && (v != Memory.blank) && Memory.wfFrom (a + 1) r

/-- The canonical form of a memory. -/
def Memory.wf (m : Memory) : Bool := Memory.wfFrom 0 m

/-- The byte at an address. -/
def Memory.read : Memory → Nat → Byte
  | [], _ => Memory.blank
  | (a, v) :: r, k => if a = k then v else if k < a then Memory.blank else Memory.read r k

/-- The memory with one byte written; a cell that would hold the blank value is not listed. -/
def Memory.write : Memory → Nat → Byte → Memory
  | [], k, v => if v = Memory.blank then [] else [(k, v)]
  | (a, w) :: r, k, v =>
    if a = k then (if v = Memory.blank then r else (k, v) :: r)
    else if k < a then (if v = Memory.blank then (a, w) :: r else (k, v) :: (a, w) :: r)
    else (a, w) :: Memory.write r k v

/-- Bytes written from an address upward. -/
def Memory.writeBytes (m : Memory) (a : Nat) : List Byte → Memory
  | [] => m
  | b :: r => Memory.writeBytes (Memory.write m a b) (a + 1) r

/-- n bytes read from an address upward. -/
def Memory.readBytes (m : Memory) (a n : Nat) : List Byte := (upto n).map fun i => Memory.read m (a + i)

/-- A die sensor reads v; the first reading since the end of the reset is no change of its reading (R599). -/
def sensTake (v : Int) (now : Nat) (x : SensS) : SensS :=
  { x with t := v, at_ := now, seen := true, prev := if x.seen then x.prev else v }

end Sys2Proof.Machine
end

