-- ==== Sys2Proof/Machine/Real.lean ====
section
/-!
DEFINITION. Roots, logarithms and powers of two in fixed point with 32 fraction bits: the working precision of the
formulas of R92, R165 to R170, R194, R195 and R235 (the spec gives none: DESIGN CHOICE, log entry 13).
-/
namespace Sys2Proof.Machine

/-- One in 32 fraction bits. -/
abbrev one32 : Nat := 4294967296

/-- √(num / den) rounded to the nearest integer. -/
def roundSqrt (num den : Nat) : Nat := (isqrt (4 * num / den) + 1) / 2
/-- √(num / den) rounded down. -/
def floorSqrt (num den : Nat) : Nat := isqrt (num / den)
/-- √(num / den) rounded up. -/
def ceilSqrt (num den : Nat) : Nat :=
  let r := isqrt (num / den)
  if num ≤ r * r * den then r else r + 1

/-- √x of a number with 32 fraction bits. -/
def sqrt32 (x : Nat) : Nat := isqrt (x * one32)

/-- k bits of the binary logarithm of m in [1, 2). -/
def log2Bits : Nat → Nat → Nat → Nat
  | 0, _, acc => acc
  | k + 1, m, acc =>
    let q := m * m / one32
    if 2 * one32 ≤ q then log2Bits k (q / 2) (2 * acc + 1) else log2Bits k q (2 * acc)

/-- log2(num / den) with 32 fraction bits; 0 where one of them is 0. -/
def log2Q (num den : Nat) : Int :=
  if num = 0 || den = 0 then 0
  else
    let e : Int := (Nat.log2 num : Int) - (Nat.log2 den : Int)
    let m := if 0 ≤ e then num * one32 / (den * 2 ^ e.toNat) else num * one32 * 2 ^ (-e).toNat / den
    if m < one32 then (e - 1) * one32 + log2Bits 32 (2 * m) 0 else e * one32 + log2Bits 32 m 0

/-- ln 2 with 32 fraction bits. -/
abbrev ln2 : Nat := 2977044472

/-- ln(num / den) with 32 fraction bits. -/
def lnQ (num den : Nat) : Int := log2Q num den * ln2 / one32

/-- The product of 2^(2^-k) over the bits of f from bit k - 1 down, c the constant of the top bit, both scaled by 2^60. -/
def exp2Bits : Nat → Nat → Nat → Nat → Nat
  | 0, _, _, r => r
  | k + 1, f, c, r =>
    exp2Bits k (f % 2 ^ k) (isqrt (c * 2 ^ 60)) (if 2 ^ k ≤ f then r * c / 2 ^ 60 else r)

/-- 2^x, x and the result with 32 fraction bits. -/
def exp2 (x : Int) : Nat :=
  let n := x / one32
  let r := exp2Bits 32 (x % one32).toNat (isqrt (2 * 2 ^ 120)) (2 ^ 60) / 2 ^ 28
  if 0 ≤ n then r * 2 ^ n.toNat else r / 2 ^ (-n).toNat

/-- e^(-num/den) with 32 fraction bits. -/
def expNeg (num den : Nat) : Nat := exp2 (-(((num * one32 / max den 1) * one32 / ln2 : Nat) : Int))

/-- The sine of x radians, 0 ≤ x ≤ π / 2, both with 32 fraction bits: seven terms of its series. -/
def sinSeries (x : Int) : Int :=
  let sq := x * x / one32
  let go := fun (p : Int × Int) (k : Int) =>
    let tm := -(p.2 * sq / one32) / (2 * k * (2 * k + 1))
    (p.1 + tm, tm)
  ([1, 2, 3, 4, 5, 6].foldl go (x, x)).1

/-- The sine of a phase in 2^-32 turn, with 32 fraction bits. -/
def sinTurn (ph : Nat) : Int :=
  let r := ph % 2 ^ 30
  let x := fun (n : Nat) => sinSeries ((n : Int) * 6746518852 / 2 ^ 30)
  match ph / 2 ^ 30 % 4 with
  | 0 => x r
  | 1 => x (2 ^ 30 - r)
  | 2 => -x r
  | _ => -x (2 ^ 30 - r)

end Sys2Proof.Machine
end

