-- ==== Sys2Proof/Machine/Flags.lean ====
section
/-!
DEFINITION. Flags and status words computed from the state: the DEGRADE flags with their clearing rule (R22 to R25),
and the status bytes that parameters, registers and recorder groups share.
-/
namespace Sys2Proof.Machine

/-- The conditions of R22, one bit each. -/
def degradeCond (s : State) : BitVec 8 :=
  let f := fun (b : Bool) (i : Nat) => if b then BitVec.ofNat 8 (2 ^ i) else 0
  f (decide (s.thm.level < 256)) 0 |||
  f (s.chan.any fun p => p.2.staleCause != 0) 1 |||
  f (s.lce.inUse == 1) 2 |||
  f s.ee.spareUsed 3 |||
  f ((s.pci.dlUp || s.pci.retraining) && decide (s.pci.width < s.pci.trained)) 4 |||
  f (s.car.chOos != 0) 5 |||
  f s.fe.netSingle 6 |||
  f ((s.thm.sens.any fun p => p.2.broken) || (s.adc.meas.any fun p => p.2.broken)) 7

/-- After every command a flag whose condition holds is set; it clears only at a frame start (R23). -/
def settle (s : State) : State := { s with rm := { s.rm with degrade := s.rm.degrade ||| degradeCond s } }

/-- The outcome of a command that completes. -/
def done (s : State) : Host.Outcome State Fault Refusal := .next (settle s)

/-- A number from bits: bit i set where f i holds. -/
def ofBits (n : Nat) (f : Nat → Bool) : Nat := nsum ((upto n).map fun i => if f i then 2 ^ i else 0)

/-- SI_STATE (R429). -/
def siState (s : State) : Nat := ofBits 16 fun n => (bget ({} : InS) s.saf.ins n).state

/-- SO_STATE: outputs on in [3:0], EDM inputs high in [7:4] (R429). -/
def soState (s : State) : Nat :=
  ofBits 4 (fun n => (bget ({} : OutS) s.fld.outs n).on) +
    16 * ofBits 4 fun n => (bget ({} : InS) s.saf.ins (16 + n)).state

/-- SF_STATE of slots 0 to n - 1, 4 bits each (R430, R477). -/
def sfStates (s : State) (n : Nat) : Nat :=
  nsum ((upto n).map fun k => (bget ({} : SfS) s.saf.sf k).st * 16 ^ k)

/-- SI_FAULT of input i (R429). -/
def siFault (s : State) (i : Nat) : Nat :=
  let x : InS := bget {} s.saf.ins i
  if x.fault = 0 then 0 else 128 + 16 * x.foreign + x.fault

/-- TP_FAULT (R429). -/
def tpFault (s : State) : Nat := ofBits 8 fun n => (bget ({} : TpS) s.saf.tp n).fault

/-- CHG_WINDOW (R122). -/
def chgWindow (s : State) : Nat :=
  ofBits 4 (fun b => (bget ({} : BankS) s.fld.bankS b).windowClosed) + 16 * b2n s.fld.chgDieClosed

/-- APD_STATUS (R122). -/
def apdStatus (s : State) : Nat := b2n s.fld.apdReg + 2 * b2n s.fld.apdBad + 4 * b2n s.fld.apdHeld

/-- BRG_STATUS (R122). -/
def brgStatus (s : State) : Nat :=
  b2n s.fld.bridgeOn + 2 * b2n s.fld.bridgeOc + 4 * b2n s.fld.bridgeUv + 8 * b2n s.fld.wdgTripped

/-- MIR_FB_STATUS (R319). -/
def fbStatus (s : State) : Nat :=
  b2n s.lce.priOos + 2 * b2n s.lce.secOos + 4 * b2n s.lce.halved + 8 * b2n s.lce.retry

/-- LOOP_STATUS of output n (R355). -/
def loopStatus (s : State) (n : Nat) : Nat :=
  let l : LoopS := bget {} s.adc.loops n
  b2n l.faultLevel + 2 * b2n l.dev + 4 * b2n l.openL

/-- The definition of field f of set S in the sealed set (R431). -/
def fldDef (s : State) (set f : Nat) : List Byte := parBytes s 0x6100 (4 * set + f)

/-- KIND of field f of a set (R431). -/
def fldKind (s : State) (set f : Nat) : Nat := ((fldDef s set f).getD 0 0).toNat

/-- FLD_STATE (R462). -/
def fldState (s : State) : Nat :=
  ofBits 4 (fun f => (bget ({} : FldF) s.fe.fields f).violated) + 16 * ofBits 4 fun f => fldKind s s.fe.active f == 2

/-- FS_STATUS (R462). -/
def fsStatus (s : State) : Nat := b2n (decide (0 < s.fe.switchLeft)) + 2 * b2n s.fe.selInvalid

/-- NET_STATUS (R462). -/
def netStatus (s : State) : Nat :=
  b2n s.fe.missA + 2 * b2n s.fe.missB + 4 * b2n s.fe.mismatch +
    16 * ofBits 4 fun j => (bget ({} : RxSlot) s.fe.slots j).timedOut

/-- MEAS_STATUS of Mm (R355). -/
def measStatus (s : State) (m : Nat) : Nat :=
  let x : MeasS := bget {} s.adc.meas m
  b2n x.valid + 2 * b2n x.broken + 4 * b2n x.outRange + 8 * b2n x.refNot

/-- REC_STATE of the unread captures: whether stream n holds one (R488). -/
def hasUnread (s : State) (n : Nat) : Bool :=
  (bget ({} : StrS) s.car.str n).segs.any fun p => p.2.sealRec.isSome && !p.2.read

end Sys2Proof.Machine
end

