-- ==== Sys2Proof/Machine/LinkOps.lean ====
section
/-!
DEFINITION. Sending on Scan Link and to the host: packet queues and replay buffers (R572 to R574), MSI-X messages
and their staging while the PCIe link retrains (R501, R533).
-/
namespace Sys2Proof.Machine

/-! ## Scan Link transmitters -/

/-- Lane n. -/
def laneOf (s : State) (n : Nat) : SlkS := bget {} s.slk.lanes n

/-- Lane n changed. -/
def modLane (n : Nat) (f : SlkS → SlkS) (s : State) : State :=
  { s with slk := { s.slk with lanes := bmod {} s.slk.lanes n f } }

/-- Packet types of R572. -/
abbrev tyAck : Nat := 0x01
abbrev tyNak : Nat := 0x02
abbrev tyCap : Nat := 0x03
abbrev tySleep : Nat := 0x04
abbrev tyTime : Nat := 0x08
abbrev tySched : Nat := 0x10
abbrev tyTrig : Nat := 0x18
abbrev tyIrq : Nat := 0x19
abbrev tyXiest : Nat := 0x20
abbrev tyPtRec : Nat := 0x28
abbrev tyPtHdr : Nat := 0x29

/-- The order in which the transmitter queues types (R574); SLEEP, which R574 does not place, goes last so that it
follows what was queued before it (DESIGN CHOICE, log entry 9). -/
def slkRank (ty : Nat) : Nat :=
  match ty % 256 with
  | 0x18 => 1
  | 0x19 => 2
  | 0x08 => 3
  | 0x10 => 4
  | 0x20 => 5
  | 0x29 => 6
  | 0x28 => 7
  | 0x04 => 8
  | _ => 0

/-- The bytes of a packet between SOP and EOP (R572). -/
def slkPacket (ty : Nat) (seq : BitVec 8) (payload : List Byte) : List Byte :=
  let body := [BitVec.ofNat 8 ty, seq, BitVec.ofNat 8 (ty / 256)] ++ leBytes 2 payload.length ++ payload
  body ++ leBytes 4 (crc32c body).toNat

/-- An ACK, NAK or CAP: SEQ 0, neither acknowledged nor replayed; sent at once, or at a sleeping transmitter queued, where the
latest of its type stands for those before it (R572 to R574, R595). -/
def slkControl (n ty : Nat) (payload : List Byte) (s : State) : State :=
  if (laneOf s n).txSleep then
    modLane n (fun l => { l with
      queue := insertBy (fun p => (slkRank p.1 : Int)) (ty, payload) (l.queue.filter fun p => p.1 != ty) }) s
  else emit (.slk n (slkPacket ty 0 payload)) s

/-- Sends queued packets of lane n in order while it is UP, awake and its replay buffer has room; once SLEEP is sent, none but an
ACK, NAK or CAP follows it (R573, R574, R594). -/
def slkDrain : Nat → Nat → State → State
  | 0, _, s => s
  | fuel + 1, n, s =>
    let l := laneOf s n
    match l.queue with
    | [] => s
    | (ty, pl) :: q =>
      let open_ := l.sleepAck.isNone || l.queue.any fun p => p.1 == tySleep
      if ty ≤ tyCap then
        if l.txSleep then s
        else slkDrain fuel n (emit (.slk n (slkPacket ty 0 pl)) (modLane n (fun l => { l with queue := q }) s))
      else if l.st = 4 && !l.txSleep && open_ && decide (l.replay.length < 32) then
        slkDrain fuel n (emit (.slk n (slkPacket ty l.txSeq pl)) (modLane n (fun l =>
          { l with queue := q, replay := l.replay ++ [(l.txSeq, ty, pl)], txSeq := l.txSeq + 1,
                   waitFrom := some (l.waitFrom.getD s.tb) }) s))
      else s

/-- A packet for lane n: queued by type, and sent when the lane can (R573, R574); a lane that is not UP takes none. -/
def slkQueue (n ty : Nat) (payload : List Byte) (s : State) : State :=
  if (laneOf s n).st = 4 then
    slkDrain 64 n (modLane n (fun l =>
      { l with queue := insertBy (fun p => (slkRank p.1 : Int)) (ty, payload) l.queue }) s)
  else s

/-! ## CAN FD (R554, R555) -/

/-- CAN controller k changed. -/
def modCan (k : Nat) (f : CanS → CanS) (s : State) : State := { s with xi := { s.xi with can := bmod {} s.xi.can k f } }

/-- Time of a frame of len data bytes on network k: 30 nominal bits and 8 len + 38 bits of the data phase, as R557's example counts
them (stuff bits and other nodes' frames are left out: DESIGN CHOICE, log entry 93). -/
def canTime (s : State) (k len : Nat) : Nat :=
  30 * (msU / [125, 250, 500, 1000].getD (parN s 0x1040 k) 500) + (8 * len + 38) * (usU / [1, 2, 4, 5, 8].getD (parN s 0x1041 k) 4)

/-- Frames of controller k whose turn on the bus has come are sent, at most fuel of them (R555). -/
def canPump : Nat → Nat → State → State
  | 0, _, s => s
  | fuel + 1, k, s =>
    let c := bget ({} : CanS) s.xi.can k
    match c.txq with
    | [] => s
    | (_, id, d) :: rest =>
      if s.tb < c.txFree then s
      else canPump fuel k (emit (.can k id d) (modCan k (fun c => { c with txq := rest, txFree := c.txFree + canTime s k d.length }) s))

/-- Every frame of controller k whose turn has come is sent. -/
def canRun (k : Nat) (s : State) : State := canPump ((bget ({} : CanS) s.xi.can k).txq.length) k s

/-- A frame for network k: a safety PDU goes ahead of every Xiest frame that waits (R555). A controller off its network takes none
(DESIGN CHOICE, log entry 93). -/
def canQueue (k : Nat) (safety : Bool) (id : Nat) (d : List Byte) (s : State) : State :=
  let c := bget ({} : CanS) s.xi.can k
  if !c.joined || c.busOff then s
  else
    let s := modCan k (fun c => { c with
      txFree := if c.txq.isEmpty then max c.txFree s.tb else c.txFree
      txq := c.txq.filter (·.1 || !safety) ++ [(safety, id, d)] ++ c.txq.filter fun f => !f.1 && safety }) (canRun k s)
    canRun k s

/-! ## Messages to the host -/

/-- The bytes a held MSI-X message occupies in staging (the spec does not say; DESIGN CHOICE, log entry 9). -/
abbrev msixBytes : Nat := 4

/-- Function f is awake for HOST events (R501, R534). -/
def hostAwake (s : State) (f : Nat) : Bool :=
  s.pci.retraining ||
    (bget false s.pci.msixOn f && !bget false s.pci.d3 f && s.pci.dlUp && !s.pci.perst && !s.pci.hostDown)

/-- An MSI-X message of function f: while its vector is masked its Pending bit is set (R518), else it is held in order behind what
is staged (R533), or sent. -/
def hostMsix (f v : Nat) (s : State) : State :=
  if !bget false s.pci.msixOpen (64 * f + v) then
    { s with pci := { s.pci with msixPba := bset s.pci.msixPba (64 * f + v) true } }
  else if s.pci.retraining || !s.pci.staged.isEmpty then
    { s with pci := { s.pci with staged := s.pci.staged ++ [(32 + f, { data := [BitVec.ofNat 8 v], at_ := s.tb })]
                                 stageBytes := s.pci.stageBytes + msixBytes } }
  else emit (.msix f v) s

/-- SLINK is awake: some lane of EIC_SLINK_LANES is trained with its transmitter awake (R501). -/
def slinkAwake (s : State) : Bool :=
  (upto 8).any fun n => bit (parN s 0x7403 0) n && (laneOf s n).st == 4 && !(laneOf s n).txSleep

end Sys2Proof.Machine
end

