-- ==== Sys2Proof/Machine/EicOps.lean ====
section
/-!
DEFINITION. The event interrupt controller's operations, the error log's staging and the recorder's triggers and
item queues: what any block calls when an event, an error or an item arises (R489 to R514, R467 to R474, R590).
-/
namespace Sys2Proof.Machine

/-! ## Groups, routing and delivery -/

/-- Bit n of a 512-bit array. -/
abbrev srcBit (n : Nat) : BitVec 512 := BitVec.ofNat 512 (2 ^ n)

/-- Host software routes source n (R490). -/
def isHostSrc (n : Nat) : Bool := hostMask.getLsbD n

/-- A fixed source (R490). -/
def isFixedSrc (n : Nat) : Bool := decide (n < 96) || (decide (416 ≤ n) && decide (n < 448))

/-- Source n is of level type: 448 to 450 are, the sources that the spec pends at an event are not (R497, R509, R510, R526, R529, R558, R579,
R591, R616; DEDUCED, log entry 102), another as the device has it (R492, log entry 7). -/
def eicIsLevel (n : Nat) : Bool :=
  if 448 ≤ n && n < 453 then n < 451
  else if (256 ≤ n && n < 263) || (288 ≤ n && n < 352) || (384 ≤ n && n < 400) || 480 ≤ n then false
  else Config.eicLevel n

/-- The group of source n (R489, R491). -/
def groupOf (s : State) (n : Nat) : Nat :=
  if isFixedSrc n then Config.eicFixedGroup n % 8 else bget 8 s.eic.route n

/-- Group g. -/
def grpOf (s : State) (g : Nat) : GrpS := bget {} s.eic.grp g

/-- The target of group g: 0 to 5 for the firmware's groups 0 to 7, else its TARGET field (R491). -/
def targetOf (s : State) (g : Nat) : Nat :=
  if g < 8 then Config.eicFixedTarget g % 6 else (grpOf s g).target

/-- Group g changed. -/
def modGrp (g : Nat) (f : GrpS → GrpS) (s : State) : State :=
  { s with eic := { s.eic with grp := bmod {} s.eic.grp g f } }

/-- The EIC's arrays changed. -/
def modEic (f : EicS → EicS) (s : State) : State := { s with eic := f s.eic }

/-- The sources routed to group g, as an array. -/
def groupMask (s : State) (g : Nat) : BitVec 512 :=
  (upto 512).foldl (fun m n => if groupOf s n = g then m ||| srcBit n else m) 0

/-- Pending, unmasked and not in service (R495). -/
def eicReady (s : State) : BitVec 512 := s.eic.pend &&& ~~~s.eic.mask &&& ~~~s.eic.active

/-- An SLINK group fires: one IRQ packet on every UP lane of EIC_SLINK_LANES; its events are claimed (R494, R591). -/
def slinkFire (g count : Nat) (s : State) : State :=
  let evs := (upto 512).filter fun n => (eicReady s).getLsbD n && groupOf s n == g && !s.eic.moved.getLsbD n
  let lanes := (upto 8).filter fun n => bit (parN s 0x7403 0) n && (laneOf s n).st == 4
  if lanes.isEmpty then s else
  let pl := [BitVec.ofNat 8 g, 0] ++ leBytes 2 count ++ leBytes 8 (t64Now s).toNat
  let m := evs.foldl (fun m n => m ||| srcBit n) 0
  let s := modEic (fun e => { e with
    active := e.active ||| m, pend := e.pend &&& ~~~m, counted := e.counted &&& ~~~m,
    owner := evs.foldl (fun b n => bset b n 7) e.owner }) s
  lanes.foldl (fun s n => slkQueue n tyIrq pl (modLane n (fun l =>
    { l with irqOpen := l.irqOpen ++ evs.map fun n => (n, pl) }) s)) s

/-- Group g fires: count and timer are reset and the event goes to its target (R494); an asleep target gets
nothing yet, its events wait for arbitration (R501, R502). -/
def groupFire (g : Nat) (s : State) : State :=
  let c := grpOf s g
  let s := modGrp g (fun c => { c with n := 0, since := none }) s
  let s := modEic (fun e => { e with counted := e.counted &&& ~~~groupMask s g }) s
  match targetOf s g with
  | 6 => if hostAwake s c.func then hostMsix c.func c.vector s else s
  | 7 => if slinkAwake s then slinkFire g c.n s else s
  | t => emit (.coreIrq t g) s

/-- Source n is counted in its group, which fires when its COUNT is reached (R493, R494). -/
def countEvent (n : Nat) (s : State) : State :=
  let g := groupOf s n
  let s := modGrp g (fun c => { c with n := c.n + 1, since := some (c.since.getD s.tb) }) s
  let s := modEic (fun e => { e with counted := e.counted ||| srcBit n }) s
  if (grpOf s g).count ≤ (grpOf s g).n then groupFire g s else s

/-- An event that leaves the count before its group fired; a count of 0 stops the timer (R494). -/
def uncount (n : Nat) (s : State) : State :=
  if s.eic.counted.getLsbD n then
    let s := modEic (fun e => { e with counted := e.counted &&& ~~~srcBit n }) s
    modGrp (groupOf s n) (fun c =>
      { c with n := c.n - 1, since := if c.n - 1 = 0 then none else c.since }) s
  else s

/-- Whether the target that source n is routed to is asleep (R501). -/
def targetAsleep (s : State) (n : Nat) : Bool :=
  match targetOf s (groupOf s n) with
  | 6 => !hostAwake s (grpOf s (groupOf s n)).func
  | 7 => !slinkAwake s
  | _ => !(s.dev == .boot || s.dev == .config || s.dev == .run || s.dev == .safe)

/-- A wake request: PME for HOST, transmit wake on the lanes of EIC_SLINK_LANES for SLINK (R501). -/
def wakeRequest (n : Nat) (s : State) : State :=
  match targetOf s (groupOf s n) with
  | 6 =>
    let f := (grpOf s (groupOf s n)).func
    emit (.note "PME" f) { s with pci := { s.pci with aer := bmod {} s.pci.aer f fun a => { a with pme := a.pme ||| 2 } } }
  | 7 => (upto 8).foldl (fun s l => if bit (parN s 0x7403 0) l then
      slkDrain 64 l (modLane l (fun x => { x with txSleep := false }) s) else s) s
  | _ => s

/-- Arbitration of one ready source: at an asleep target it waits, with a wake request if it may wake; at a target that
is awake again it is delivered (R500 to R502). -/
def arbitrate (s : State) (n : Nat) : State :=
  if (eicReady s).getLsbD n && !s.eic.moved.getLsbD n then
    if targetAsleep s n then
      let s := if bget 0 s.eic.asleepFrom n = 0 then
          modEic (fun e => { e with asleepFrom := bset e.asleepFrom n (s.tb + 1) }) s else s
      if Config.eicWake n && bget 0 s.eic.wakeReq n = 0 && !s.eic.noWake.getLsbD n then
        wakeRequest n (modEic (fun e => { e with wakeReq := bset e.wakeReq n (s.tb + 1) }) s)
      else s
    else if bget 0 s.eic.asleepFrom n = 0 then s
    else
      groupFire (groupOf s n) (modEic (fun e => { e with
        asleepFrom := bdel e.asleepFrom n, wakeReq := bdel e.wakeReq n, noWake := e.noWake &&& ~~~srcBit n }) s)
  else s

/-- Source n becomes pending; unmasked it is counted and arbitrated at once (R492, R493, R500). -/
def setPending (n : Nat) (s : State) : State :=
  let s := modEic (fun e => { e with pend := e.pend ||| srcBit n }) s
  if s.eic.mask.getLsbD n then s else arbitrate (countEvent n s) n

/-- An edge of source n: it merges with a pending one, or makes a source in service active-and-pending (R492, R497). -/
def eicEdge (n : Nat) (s : State) : State :=
  if s.eic.active.getLsbD n then modEic (fun e => { e with again := e.again ||| srcBit n }) s
  else if s.eic.pend.getLsbD n then s
  else if isHostSrc n || isFixedSrc n then setPending n s
  else s

/-- Level source n asserts (R492). -/
def eicAssert (n : Nat) (s : State) : State :=
  let s := modEic (fun e => { e with level := e.level ||| srcBit n }) s
  if s.eic.active.getLsbD n || s.eic.pend.getLsbD n then s
  else if isHostSrc n || isFixedSrc n then setPending n s
  else s

/-- The function or core bank index of a claim's owner: 0 PF0, 1 PF1. -/
abbrev ownerFunc (o : Nat) : Nat := o / 8

/-- The event of source n is withdrawn: it is pending, counted and waiting at an asleep target no longer, and a redirection
ends with it (R492, R493, R502). -/
def eicWithdraw (n : Nat) (s : State) : State :=
  modEic (fun e => { e with
    pend := e.pend &&& ~~~srcBit n, moved := e.moved &&& ~~~srcBit n
    asleepFrom := bdel e.asleepFrom n, wakeReq := bdel e.wakeReq n, noWake := e.noWake &&& ~~~srcBit n }) (uncount n s)

/-- Level source n de-asserts: withdrawn before claim, vanished once after it; one that is not asserted stays (R492, R499). -/
def eicDeassert (n : Nat) (s : State) : State :=
  if !s.eic.level.getLsbD n then s else
  let s := modEic (fun e => { e with level := e.level &&& ~~~srcBit n }) s
  if s.eic.active.getLsbD n then
    if s.eic.vanish.getLsbD n then s
    else
      let o := bget 0 s.eic.owner n
      modEic (fun e => { e with
        vanish := e.vanish ||| srcBit n
        vanCnt := bmod 0 e.vanCnt (o % 8) satInc
        vanished := if o % 8 = 6 then bmod 0 e.vanished (ownerFunc o) satInc else e.vanished }) s
  else if s.eic.pend.getLsbD n then
    eicWithdraw n s
  else s

/-- Service of source n ends: an event that came meanwhile, by EIC_PEND_SET also of a level source, or a level that is still asserted, is claimable at once
and its group fires at once (R496 to R498). -/
def eicFinish (n : Nat) (s : State) : State :=
  let more := s.eic.again.getLsbD n || (eicIsLevel n && s.eic.level.getLsbD n)
  let s := modEic (fun e => { e with
    active := e.active &&& ~~~srcBit n, again := e.again &&& ~~~srcBit n, vanish := e.vanish &&& ~~~srcBit n
    moved := e.moved &&& ~~~srcBit n
    pend := if more then e.pend ||| srcBit n else e.pend }) s
  if more && !s.eic.mask.getLsbD n then arbitrate (groupFire (groupOf s n) s) n else s

/-- Where a source's events wait ends: its routing changed (R500). -/
def waitEnd (n : Nat) (s : State) : State :=
  modEic (fun e => { e with
    asleepFrom := bdel e.asleepFrom n, wakeReq := bdel e.wakeReq n, noWake := e.noWake &&& ~~~srcBit n }) s

/-- The routing of source n changed: a pending event that its target has not claimed counts for the new target, also where its group had
fired for the old one (R494, R500; DESIGN CHOICE, log entry 102). -/
def reroute (s : State) (n : Nat) : State :=
  if (eicReady s).getLsbD n && !s.eic.moved.getLsbD n then
    let s := waitEnd n s
    arbitrate (if s.eic.counted.getLsbD n then s else countEvent n s) n
  else s

/-! ## Error log -/

/-- The class of a code (R503). -/
def classOf (code : Nat) : Nat := code / 4096

/-- The overflow summary after the loss of an entry of class c (R508). -/
def lossSummary (s : State) (lost : Bank (BitVec 32)) : LogE :=
  let n := fun c => (bget 0 lost c).toNat
  let hi := if 0 < n 4 then 4 else if 0 < n 3 then 3 else if 0 < n 2 then 2 else if 0 < n 1 then 1 else 0
  { t := t64Now s
    code := BitVec.ofNat 16 (hi * 4096 + 0xFF)
    src := BitVec.ofNat 16 (min 0xFFFF (n 0 + n 1 + n 2 + n 3 + n 4))
    data := BitVec.ofNat 32 (min 255 (n 4) + 256 * min 255 (n 3) + 65536 * min 255 (n 2)
      + 16777216 * min 255 (n 1 + n 0)) }

/-- An entry reaches the staging queue: first-error capture, then the queue, or a loss when it is full
(R506, R508, R509, R510). -/
def logEntry (e : LogE) (s : State) : State :=
  let c := classOf e.code.toNat
  let s := if s.log.first.isNone && decide (parN s 0x7415 0 ≤ c) then
      eicEdge 261 { s with log := { s.log with first := some e } }
    else s
  if s.log.staging.length < 16 then
    { s with log := { s.log with staging := s.log.staging ++ [e] } }
  else
    let lost := bmod 0 s.log.lost c satInc
    eicEdge 262 { s with log := { s.log with lost := lost, summary := lossSummary s lost } }

/-- An entry with the T64 of an instant of its own. -/
def logAt (t64 : BitVec 64) (code src data : Nat) (s : State) : State :=
  logEntry { t := t64, code := BitVec.ofNat 16 code, src := BitVec.ofNat 16 src, data := BitVec.ofNat 32 data } s

/-- An entry of this instant (R503); src 0x1FF where the code names no instance. -/
def logNow (code src data : Nat) (s : State) : State := logAt (t64Now s) code src data s

/-- SOURCE for a code that names no instance (R503). -/
abbrev noSrc : Nat := 0x1FF
/-- SOURCE bit of an entry that Calliope detected (R503). -/
abbrev dieF : Nat := 0x8000

/-! ## Recorder queues and triggers -/

/-- Stream n of the recorder. -/
def strOf (s : State) (n : Nat) : StrS := bget {} s.car.str n

/-- Stream n changed. -/
def modStr (n : Nat) (f : StrS → StrS) (s : State) : State :=
  { s with car := { s.car with str := bmod {} s.car.str n f } }

/-- Padding of an item to 16 bytes (R467). -/
def pad16 (l : List Byte) : List Byte := l ++ List.replicate ((16 - l.length % 16) % 16) 0

/-- Bytes waiting in the input queue of stream n (R468). -/
def recQueued (s : State) (n : Nat) : Nat := nsum ((strOf s n).queue.map fun i => i.data.length)

/-- A stream's input queue, bytes: the size R473 gives the write engine's (DESIGN CHOICE, log entry 12). -/
abbrev recQueueMax : Nat := 524288

/-- Whether stream n records items of source src with selector bit sel (R467); sources without a bit selector take any. -/
def recTakes (s : State) (n src sel : Nat) : Bool :=
  let st := strOf s n
  let m := parN s 0x6811 n
  parB s 0x6800 0 && st.source == src && (st.st == 1 || st.st == 2 || st.st == 3) &&
    (match src with
     | 0 => false
     | 2 => true
     | 9 => true
     | 10 => true
     | 3 => m % 8 == sel
     | 6 => m == sel
     | _ => bit m sel)

/-- An item arises for stream n: queued, or dropped whole when the stream's queue is full; a queue with room takes an item of any length
(R467, R468). -/
def recQueueItem (n : Nat) (i : Item) (s : State) : State :=
  if recQueued s n < recQueueMax then modStr n (fun st => { st with queue := st.queue ++ [i] }) s
  else modStr n (fun st => { st with lost := satInc st.lost, gapNext := true }) s

/-- An item of a source arises for every stream that records it; own says whether it holds a T64 of its own (R467, R471). -/
def recItemT (own : Bool) (src sel : Nat) (t64 : BitVec 64) (data : List Byte) (s : State) : State :=
  (upto 16).foldl (fun s n => if recTakes s n src sel then recQueueItem n { t := t64, data := pad16 data, ownT := own } s else s) s

/-- An item with its own T64 (R467). -/
def recItem (src sel : Nat) (t64 : BitVec 64) (data : List Byte) (s : State) : State := recItemT true src sel t64 data s

/-- A block, bytes (R465). -/
abbrev blockBytes : Nat := 65536

/-- Retained bytes of a segment from the trigger position on, that of the first item at or after the instant; 0 where none
is written yet (R471). -/
def bytesFrom (t64 : BitVec 64) (x : Seg) : Nat :=
  match x.starts.find? fun p => decide (t64.toNat ≤ p.1.toNat) with
  | some p => blockBytes * x.blocks + x.used - p.2
  | none => 0

/-- The state of stream n (R469): while it re-arms, REARM, though its next segment is chosen already. -/
def strState (s : State) (n : Nat) : Nat :=
  let st := strOf s n
  if st.st = 1 && decide (s.tb < st.rearmUntil) then 3 else st.st

/-- Stream n meets a trigger (R469, R471, R472, R474). -/
def strTrigger (n src : Nat) (t64 : BitVec 64) (s : State) : State :=
  let st := strOf s n
  let seg := bget {} st.segs st.seg
  match strState s n with
  | 1 =>
    modStr n (fun st => { st with
      st := 2, trigT := t64, trigCause := src, early := !seg.filled, postBytes := bytesFrom t64 seg }) s
  | 2 => modStr n (fun st => { st with retrig := satInc st.retrig }) s
  | 0 => s
  | _ =>
    let s := modStr n (fun st => { st with
      missedT := if st.missed = 0 then t64 else st.missedT, missed := satInc st.missed }) s
    { s with car := { s.car with missedCnt := satInc s.car.missedCnt } }

/-- One trigger event of a source of R470 at one instant, on every stream that takes it; a local one is also sent on
Scan Link (R470, R590). -/
def recTrigger (src : Nat) (t64 : BitVec 64) (s : State) : State :=
  let s := (upto 16).foldl (fun s n => if bit (parN s 0x6816 n) src then strTrigger n src t64 s else s) s
  if src != 4 && bit (parN s 0x681E 0) src then
    (upto 8).foldl (fun s n => if bit (parN s 0x681D 0) n then
      slkQueue n tyTrig (leBytes 8 t64.toNat ++ [BitVec.ofNat 8 src] ++ List.replicate 7 0) s else s) s
  else s

/-! ## Written values taking effect -/

/-- The dictionary record of a write that takes effect, via transport code tr (R467, R478). -/
def dictRecord (k : Nat) (v : DVal) (tr : Nat) (s : State) : State :=
  let b := keyBytes k v
  recItem 9 0 (t64Now s) (leBytes 8 (t64Now s).toNat ++ leBytes 4 (k / 256 * 65536 + k % 256 * 256 + tr * 16) ++
    leBytes 4 (b.length % 65536 * 65536) ++ (b ++ List.replicate 16 0).take 16) s

/-- Written values take effect, with their records; ofs tells held (0) from fixed (2^24) transports (R15, R478). -/
def putInForce (l : Bank DVal) (ofs : Nat) (s : State) : State :=
  l.foldl (fun s p => dictRecord p.1 p.2 (bget 0 s.dict.via (p.1 + ofs))
    { s with dict := { s.dict with inForce := bset s.dict.inForce p.1 p.2, via := bdel s.dict.via (p.1 + ofs) } }) s

/-- The written values that sel picks are put in force (R15). -/
def takeHeld (sel : Nat → Bool) (s : State) : State :=
  let now := s.dict.held.filter fun p => sel p.1
  putInForce now 0 { s with dict := { s.dict with held := s.dict.held.filter fun p => !sel p.1 } }

/-- The instant at which a write of an IMM entry is acknowledged where it is not at once: 0 the next sample tick (LCE_COEF_SEL of the laws
other than 3 and 5), 1 the next sequence start (FLT_HB, FLT_FIR_EN); its value takes effect with that acknowledgment (R15, R294, R367). -/
def ackWait (k : Nat) : Option Nat :=
  if k / 256 = 0x4012 && k % 256 != 3 && k % 256 != 5 then some 0
  else if k / 256 = 0x4800 || k / 256 = 0x4801 then some 1
  else none

end Sys2Proof.Machine
end

