-- ==== Sys2Proof/Machine/SafeOps.lean ====
section
/-!
DEFINITION. The barrier's senders, the safety outputs' logic, device states, SAFE causes and firing inhibits: what
any block calls when it sends to Calliope, stops firing or sends the device to SAFE (R19, R20, R80, R115, R420, R447).
-/
namespace Sys2Proof.Machine

/-- Calliope changed. -/
def modFld (f : FldS → FldS) (s : State) : State := { s with fld := f s.fld }
/-- The safety core changed. -/
def modSaf (f : SafS → SafS) (s : State) : State := { s with saf := f s.saf }
/-- Ringmaster changed. -/
def modRm (f : RmS → RmS) (s : State) : State := { s with rm := f s.rm }
/-- Barrier link bl. -/
def linkOf (s : State) (bl : Nat) : LinkS := bget {} s.fld.links bl
/-- Barrier link bl changed. -/
def modLink (bl : Nat) (f : LinkS → LinkS) (s : State) : State :=
  modFld (fun c => { c with links := bmod {} c.links bl f }) s
/-- Safety output n. -/
def outOf (s : State) (n : Nat) : OutS := bget {} s.fld.outs n
/-- Safety output n changed. -/
def modOut (n : Nat) (f : OutS → OutS) (s : State) : State :=
  modFld (fun c => { c with outs := bmod {} c.outs n f }) s
/-- Bank b of emitters. -/
def bankOf (s : State) (b : Nat) : BankS := bget {} s.fld.bankS b
/-- Bank b changed. -/
def modBank (b : Nat) (f : BankS → BankS) (s : State) : State :=
  modFld (fun c => { c with bankS := bmod {} c.bankS b f }) s
/-- Function slot k. -/
def sfOf (s : State) (k : Nat) : SfS := bget {} s.saf.sf k
/-- Function slot k changed. -/
def modSf (k : Nat) (f : SfS → SfS) (s : State) : State :=
  modSaf (fun c => { c with sf := bmod {} c.sf k f }) s
/-- Input i: SIn at n, EDMn at 16 + n. -/
def inOf (s : State) (i : Nat) : InS := bget {} s.saf.ins i
/-- Input i changed. -/
def modIn (i : Nat) (f : InS → InS) (s : State) : State :=
  modSaf (fun c => { c with ins := bmod {} c.ins i f }) s

/-! ## Barrier frames -/

/-- The physical link that carries the traffic of link bl (R30, R34). -/
def barCarrier (s : State) (bl : Nat) : Nat :=
  if (linkOf s bl).failed then
    if s.fld.spareMap10 = bl then 10 else if s.fld.spareMap11 = bl then 11 else bl
  else bl

/-- Link bl carries traffic now: it works or a spare has taken it over (R30, R31). -/
def barUp (s : State) (bl : Nat) : Bool :=
  (linkOf s bl).switchUntil.isNone && !(linkOf s (barCarrier s bl)).failed

/-- A control frame between SOF and EOF (R115). -/
def barFrame (ty : Nat) (seq : BitVec 8) (pl : List Byte) : List Byte :=
  let body := [BitVec.ofNat 8 ty, BitVec.ofNat 8 pl.length, seq] ++ pl
  body ++ leBytes 4 (crc32c body).toNat

/-- A control frame of link bl: kept in the replay buffer of 16, and sent unless the link is being switched (R31, R116). -/
def barSend (bl ty : Nat) (pl : List Byte) (s : State) : State :=
  let l := linkOf s bl
  let s := modLink bl (fun l => { l with
    replay := (l.replay ++ [(l.txSeq, BitVec.ofNat 8 ty, pl)]).drop (l.replay.length + 1 - 16)
    sent := (l.sent ++ [s.tb]).drop (l.replay.length + 1 - 16)
    txSeq := l.txSeq + 1
    waitFrom := some (l.waitFrom.getD s.tb) }) s
  if barUp s bl then emit (.barrier (barCarrier s bl) (barFrame ty l.txSeq pl)) s else s

/-- An ACK or NAK on link bl: it carries the acknowledged SEQ in a payload of one byte, its own SEQ is 0, as R115 places SEQ
nowhere (DESIGN CHOICE, log entry 10) (R115, R116). -/
def barControl (bl ty : Nat) (seq : BitVec 8) (s : State) : State :=
  if barUp s bl then emit (.barrier (barCarrier s bl) (barFrame ty 0 [seq])) s else s

/-- A special symbol on link bl (R114). -/
def barSymbol (bl k : Nat) (s : State) : State :=
  if barUp s bl then emit (.symbol (barCarrier s bl) k) s else s

/-- A value of one of Calliope's parameters that takes effect is written to it on BL4 (R28, R115, R122; the payload is a DESIGN
CHOICE, log entry 10). -/
def cfgSend (num sub : Nat) (s : State) : State :=
  if 0x2400 ≤ num && num < 0x2470 then
    barSend 4 0x20 (leBytes 2 num ++ leBytes 1 sub ++ keyBytes (dkey num sub) (par s num sub)) s
  else s

/-- Calliope reports its state on BL8: shot and reservoir voltages, charger state, back-EMF, die temperatures, watchdog and bridge
state, input current (R28, R93, R115; the order of the payload's bytes is a DESIGN CHOICE, log entry 10). -/
def statSend (s : State) : State :=
  let c := s.fld
  barSend 8 0x30 (((upto 4).map fun b => leBytes 2 (bankOf s b).vShot).flatten ++ ((upto 4).map fun b => leBytes 2 (bankOf s b).vRes).flatten ++
    [BitVec.ofNat 8 (ofBits 4 fun b => (bankOf s b).chgOn)] ++ leInt 2 c.vEst ++ leInt 4 (bget 0 c.dieT 0) ++ leInt 4 (bget 0 c.dieT 1) ++
    [BitVec.ofNat 8 (b2n c.wdgTripped + 2 * b2n c.bridgeOn + 4 * b2n c.bridgeOc + 8 * b2n c.bridgeUv + 16 * b2n c.gateHold)] ++
    leBytes 2 c.iin) s

/-- The link that acknowledges link bl (R116). -/
def barPair (bl : Nat) : Nat :=
  match bl with
  | 0 => 5
  | 1 => 8
  | 2 => 8
  | 3 => 8
  | 4 => 9
  | _ => 4

/-! ## Safety outputs -/

/-- The payload of OUT_STATE: on requests of SO0 to SO3, then a watchdog token for each (R115; the order of the
payload's bytes is not published: DESIGN CHOICE, log entry 10). -/
def outStatePayload (s : State) : List Byte :=
  [BitVec.ofNat 8 (nsum ((upto 4).map fun n => if (outOf s n).request then 2 ^ n else 0))] ++
    (upto 4).map fun n => bget 0 s.fld.outWanted n

/-- The safety core switches SOn off: the fast-off symbol, then OUT_STATE (R118, R422). -/
def fastOff (n : Nat) (s : State) : State := barSend 0 0x03 (outStatePayload s) (barSymbol 0 (16 + n) s)

/-- The safety core arms FOn for mask bit n, each of the four (R115, R118, R422; sent at the start of CONFIG: DESIGN CHOICE, log
entry 10). -/
def armFastOff (s : State) : State := barSend 0 0x04 [1, 2, 4, 8] s

/-- Function slot k is used. -/
def sfUsed (s : State) (k : Nat) : Bool := parN s 0x6030 k != 0

/-- Function slot k releases its outputs; during a switch-over of field sets a type-8 function must release under the
old set too (R413, R442). -/
def sfReleases (s : State) (k : Nat) : Bool :=
  (sfOf s k).st == 3 &&
    (parN s 0x6030 k != 8 || s.fe.switchLeft == 0 || !(bget {} s.fe.oldFields (parN s 0x6031 k % 256)).violated)

/-- Every condition of R420 for SOn. -/
def outWant (s : State) (n : Nat) : Bool :=
  let fs := (upto 12).filter fun k => sfUsed s k && bit (parN s 0x6032 k) n
  s.dev == .run && decide (1 ≤ s.saf.setNo) && decide (s.saf.setNo ≤ 15) && !fs.isEmpty &&
    fs.all (fun k => sfReleases s k) && (outOf s n).fault == 0

/-- A safety-output fault code and its log entry; codes 1 to 3 stay until a FULL reset (R424). -/
def outFaultSet (n code : Nat) (s : State) : State :=
  logNow 0x4B02 n code (modOut n (fun o => { o with fault := if 1 ≤ o.fault && o.fault ≤ 3 then o.fault else code, faultPassed := [] }) s)

/-- The output logic of SOn: a request that ends sends the fast-off symbol and voids a running dark test; a new
request is refused with fault 8 while the feedback contact is low (R420, R422, R424, R425, R470). -/
def evalOutput (s : State) (n : Nat) : State :=
  let o := outOf s n
  let want := outWant s n
  if o.request && !want then
    let demand := s.dev == .run && o.fault == 0
    let s := modOut n (fun o => { o with request := false, darkVoid := o.darkVoid || o.dark }) s
    let s := fastOff n s
    if demand then recTrigger 1 (t64Now s) s else s
  else if !o.request && want then
    if parN s 0x6042 n == 1 && !(inOf s (16 + n)).sc then outFaultSet n 8 s
    else modOut n (fun o => { o with request := true }) s
  else s

/-- The output logic of all four outputs. -/
def evalOutputs (s : State) : State := (upto 4).foldl evalOutput s

/-! ## Device states, SAFE and inhibits -/

/-- The code of a device state (R19; OFF has none and reads 0). -/
def devCode : DevState → Nat
  | .off => 0
  | .dormant => 1
  | .boot => 2
  | .config => 3
  | .run => 4
  | .safe => 5
  | .recovery => 6

/-- The current a loop output takes at its fault level, microampere (R349, R353). -/
def loopFaultUa (s : State) (n : Nat) : Nat := if parN s 0x4432 n = 0 then 3600 else 21000

/-- Loop outputs follow the device state: the fault level in CONFIG and SAFE, 0 mA outside RUN otherwise (R19). -/
def loopsFollow (s : State) : State :=
  match s.dev with
  | .run => s
  | d => { s with adc := { s.adc with loops := (upto 2).foldl (fun b n => bmod {} b n fun l =>
      let f := (d == .config || d == .safe)
      { l with uA := if f then loopFaultUa s n else 0, faultLevel := f }) s.adc.loops } }

/-- Ball READY is high in CONFIG, RUN and SAFE, ball RUN_OK in RUN (R661). -/
def balls (s : State) : State :=
  let rdy := (s.dev == .config || s.dev == .run || s.dev == .safe)
  let ok := (s.dev == .run)
  let s := if s.rst.ready != rdy then emit (.ball "READY" (b2n rdy)) s else s
  let s := if s.rst.runOk != ok then emit (.ball "RUN_OK" (b2n ok)) s else s
  { s with rst := { s.rst with ready := rdy, runOk := ok } }

/-- Entry to another device state, with log entry 0x0E06; an entry to SAFE is a recorder trigger of source bit 1
(R19, R470, R562). ep is the endpoint of the command or 0x1FF, cmd its code or 0. -/
def setState (new : DevState) (ep cmd : Nat) (s : State) : State :=
  if s.dev = new then s
  else
    let old := s.dev
    let s := logNow 0x0E06 ep (devCode old + 256 * devCode new + 65536 * cmd) { s with dev := new }
    let s := balls (evalOutputs (loopsFollow s))
    let s := { s with rm := { s.rm with safeSeen := s.rm.safeSeen || new == .safe } }
    if new = .safe then recTrigger 1 (t64Now s) s else s

/-- A cause for SAFE arises: in RUN the device enters SAFE; in BOOT and CONFIG the cause is latched (R20, R447). -/
def safeCause (c : SafeCause) (s : State) : State :=
  let s := modSaf (fun f => { f with
    causes := if f.causes.contains c then f.causes else f.causes ++ [c]
    latched := if (s.dev == .config || s.dev == .boot) && !f.latched.contains c then f.latched ++ [c]
      else f.latched }) s
  if s.dev = .run then setState .safe noSrc 0 s else s

/-- A cause for SAFE is removed as R447 says; leaving SAFE still needs LEAVE_SAFE. -/
def safeClear (c : SafeCause) (s : State) : State :=
  modSaf (fun f => { f with causes := f.causes.filter (· != c), latched := f.latched.filter (· != c) }) s

/-- Xiest's state changed. -/
def modXi (f : XiS → XiS) (s : State) : State := { s with xi := f s.xi }

/-- The point formatter changed. -/
def modPt (f : PtS → PtS) (s : State) : State := { s with pt := f s.pt }

/-- Firing is inhibited for a reason (R80). -/
def inhibit (w : Inhibit) (s : State) : State :=
  modRm (fun r => { r with inhibits := if r.inhibits.contains w then r.inhibits else r.inhibits ++ [w] }) s

/-- An inhibit ends (R687). -/
def uninhibit (w : Inhibit) (s : State) : State :=
  modRm (fun r => { r with inhibits := r.inhibits.filter (· != w) }) s

/-- A safety-output fault with its reaction (R424). -/
def outFault (n code : Nat) (s : State) : State :=
  let s := outFaultSet n code s
  let s := if code = 1 || code = 2 || code = 3 then safeCause .outFault s else s
  let s := if code = 3 then (upto 4).foldl (fun s k => if (outOf s k).request then
      fastOff k (modOut k (fun o => { o with request := false }) s) else s) s else s
  evalOutputs s

/-! ## Xiest sessions -/

/-- Endpoint ep of R551. -/
def sessOf (s : State) (ep : Nat) : SessS := bget {} s.xi.sess ep
/-- Endpoint ep changed. -/
def modSess (ep : Nat) (f : SessS → SessS) (s : State) : State :=
  { s with xi := { s.xi with sess := bmod {} s.xi.sess ep f } }

/-- The session of endpoint ep closes, a safety session with its unsealed working copy; refusals and lockout of R629 stay
with the endpoint (R551, R560, R629). -/
def closeSess (ep : Nat) (s : State) : State :=
  let s := if (sessOf s ep).priv then { s with xi := { s.xi with work := none } } else s
  modSess ep (fun x => { refusals := x.refusals, lockout := x.lockout }) s

/-! ## Failed links -/

/-- The spare of a link's direction: BL10 from the core die, BL11 from Calliope (R28). -/
def spareOf (bl : Nat) : Nat := if bl ≤ 4 || bl = 10 then 10 else 11

/-- A link of the same direction as bl has failed, the spare included (R33). -/
def dirFailed (s : State) (bl : Nat) : Bool :=
  (upto 12).any fun k => spareOf k == spareOf bl && (linkOf s k).failed

/-- A link is declared failed; its traffic moves to the spare of its direction, or with none left firing is inhibited and the
device enters SAFE; an unused spare leaves service (R30, R33, R688). -/
def linkFail (b : Nat) (s : State) : State :=
  if (linkOf s b).failed then s
  else
    let alone := !dirFailed s b
    let s1 := modLink b (fun l => { l with failed := true }) s
    if 10 ≤ b && alone then logNow 0x2209 b 0 s1
    else if alone then logNow 0x4201 b 0 (modLink b (fun l => { l with switchUntil := some s.tb }) s1)
    else logNow 0x3202 b 0 (safeCause .secondLink (inhibit .secondLink s1))

/-- The link whose traffic physical link bl carries: a spare in use carries that of the link it replaces (R30, R34). -/
def barTraffic (s : State) (bl : Nat) : Nat :=
  if bl = 10 && s.fld.spareMap10 < 10 then s.fld.spareMap10 else if bl = 11 && s.fld.spareMap11 < 10 then s.fld.spareMap11 else bl

/-- A CRC error in the traffic of link b; the second in a row declares the link that carries it failed, which may be the spare
(R30, R116). -/
def crcError (b : Nat) (s : State) : State :=
  let s := modFld (fun c => { c with crcErr := satInc c.crcErr }) (modLink b (fun l => { l with crcRun := l.crcRun + 1 }) s)
  if 2 ≤ (linkOf s b).crcRun then linkFail (barCarrier s b) s else s

end Sys2Proof.Machine
end

