-- ==== Sys2Proof/Machine/Respond.lean ====
section
/-!
DEFINITION. How a Xiest response leaves the device: CAN FD segments, mailbox chunks, Scan Link packets, and responses that wait for an
instant (R294, R327, R550, R555 to R558, R592).
-/
namespace Sys2Proof.Machine

/-! ## Responses on the transports -/

/-- The network of the Xiest session (R554). -/
def xiNet (s : State) : Nat := parN s 0x1043 0

/-- Data padded with zeros to the next CAN FD length (R556). -/
def canPad (l : List Byte) : List Byte :=
  let n := ([8, 12, 16, 20, 24, 32, 48, 64].find? fun k => decide (l.length ≤ k)).getD 64
  if l.length ≤ 8 then l else l ++ List.replicate (n - l.length) 0

/-- A frame of the Xiest session (R555, R556). -/
def canFrame (d : List Byte) (s : State) : State := canQueue (xiNet s) false (parN s 0x1045 0) (canPad d) s

/-- Continuation segments of a response, until one after which flow control is awaited (R556, R557). -/
def canTx : Nat → State → State
  | 0, s => s
  | fuel + 1, s =>
    let e := sessOf s 0
    if e.tx.isEmpty then modSess 0 (fun e => { e with txWait := none }) s
    else
      let c := e.txCnt % 64
      let s := canFrame (leBytes 1 c ++ e.tx.take 63) s
      let rest := e.tx.drop 63
      let wait := (c % 16 == 15) && !rest.isEmpty
      let s := modSess 0 (fun e => { e with
        tx := rest, txCnt := c + 1, txWait := if wait then some s.tb else none }) s
      if wait then s else canTx fuel s

/-- A response on CAN FD (R556). -/
def canRespond (m : List Byte) (s : State) : State :=
  if m.length ≤ 63 then canFrame (0xC0 :: m) s
  else
    let s := canFrame (0x40 :: m.take 63) s
    canTx (m.length / 63 + 1) (modSess 0 (fun e => { e with tx := m.drop 63, txCnt := 1, txWait := none }) s)

/-- The next chunk of a response in the mailbox's response buffer, and source 480 pends (R558). -/
def mbxPlace (first : Bool) (s : State) : State :=
  let d := s.xi.mbx.out.take 4096
  let rest := s.xi.mbx.out.drop 4096
  eicEdge 480 (modXi (fun x => { x with mbx := { x.mbx with
    rsp := Memory.writeBytes x.mbx.rsp 0 d, out := rest, rspReady := true, rspFirst := first
    rspLast := rest.isEmpty, rspLen := d.length } }) s)

/-- A response in the mailbox (R558). -/
def mbxRespond (m : List Byte) (s : State) : State :=
  mbxPlace true (modXi (fun x => { x with mbx := { x.mbx with out := m } }) s)

/-- A response on a Scan Link lane: segments of up to 4,096 bytes, flagged first and last (R572, R592). -/
def slkRespond (n : Nat) : Nat → Bool → List Byte → State → State
  | 0, _, _, s => s
  | fuel + 1, first, m, s =>
    let rest := m.drop 4096
    let s := slkQueue n (tyXiest + 256 * (b2n first + 2 * b2n rest.isEmpty)) (m.take 4096) s
    if rest.isEmpty then s else slkRespond n fuel false rest s

/-- A response leaves by its endpoint's transport (R550). -/
def respond (ep : Nat) (m : List Byte) (s : State) : State :=
  let s := emit (.xiest ep m) s
  if ep = 0 then canRespond m s
  else if ep = 1 then mbxRespond m s
  else slkRespond (ep - 2) (m.length / 4096 + 1) true m s

/-- A response that waits: 0 for the next sample tick, 1 for the next sequence start (R294, R327). -/
def owe (k ep : Nat) (m : List Byte) (s : State) : State := modXi (fun x => { x with owed := x.owed ++ [(k, ep, m)] }) s

/-- The instant has come for which responses of a kind wait (R294, R327). -/
def ackOwed (k : Nat) (s : State) : State :=
  let l := s.xi.owed.filter fun x => x.1 == k
  l.foldl (fun s x => respond x.2.1 x.2.2 s) (modXi (fun x => { x with owed := x.owed.filter fun y => y.1 != k }) s)

end Sys2Proof.Machine
end

