-- ==== Sys2Proof/Machine/ShotOps.lean ====
section
/-!
DEFINITION. Shots: energies and voltage codes, the eye-safety account, skips and their records, results on their way
to the point formatter (R66 to R83, R91, R92, R251 to R258).
-/
namespace Sys2Proof.Machine

/-- The channel c changed. -/
def modChan (c : Nat) (f : ChanS → ChanS) (s : State) : State := { s with chan := bmod {} s.chan c f }
/-- Receive channel c. -/
def chanOf (s : State) (c : Nat) : ChanS := bget {} s.chan c
/-- The LCE changed. -/
def modLce (f : LceS → LceS) (s : State) : State := { s with lce := f s.lce }
/-- The echo engines changed. -/
def modEe (f : EeS → EeS) (s : State) : State := { s with ee := f s.ee }
/-- Rejection changed. -/
def modRj (f : RjS → RjS) (s : State) : State := { s with rj := f s.rj }
/-- Tuning Slide changed. -/
def modTs (f : TsS → TsS) (s : State) : State := { s with ts := f s.ts }
/-- The converters and their users changed. -/
def modAdc (f : AdcS → AdcS) (s : State) : State := { s with adc := f s.adc }

/-- RXIN c is enabled (R127). -/
def rxEnabled (s : State) (c : Nat) : Bool := bit (parN s 0x2801 (c / 32)) (c % 32)
/-- EMe is enabled (R57). -/
def emEnabled (s : State) (e : Nat) : Bool := bit (parN s 0x2019 0) e

/-- A coil current in Q15 of 3.0 A as measured: 12 bits over ±3.0 A (R109). -/
def coil12 (i : Int) : Int := 16 * clampI (-2048) 2047 (rdiv i 16)

/-! ## Energies and codes (R73, R91, R92) -/

/-- K_E of emitter e, nJ/V². -/
def kEof (s : State) (e : Nat) : FX := (s.rm.table.map fun t => bget {} t.kE e).getD {}
/-- V_TOL, 0.1 percent. -/
def vTolOf (s : State) : Nat := (s.rm.table.map (·.vTol)).getD 0

/-- Numerator and denominator of the squared code (unit 120/4096 V) of an energy in pJ. -/
def codeSqNum (k : FX) (pj : Nat) : Nat := pj * 2 ^ k.s * 16777216
/-- See codeSqNum. -/
def codeSqDen (k : FX) : Nat := 14400000 * k.m.toNat

/-- The target code of an energy, rounded to the nearest (R92). -/
def targetCode (k : FX) (pj : Nat) : Nat := roundSqrt (codeSqNum k pj) (codeSqDen k)
/-- The limit code V × (1 + V_TOL) of an energy of e.1 / e.2 pJ, rounded down (R92). -/
def limitCode (k : FX) (tol : Nat) (e : Nat × Nat) : Nat :=
  min 4095 (floorSqrt (codeSqNum k e.1 * (1000 + tol) ^ 2) (codeSqDen k * e.2 * 1000000))
/-- The minimum code of an energy of e.1 / e.2 pJ, rounded up (R92). -/
def minimumCode (k : FX) (e : Nat × Nat) : Nat := ceilSqrt (codeSqNum k e.1) (codeSqDen k * e.2)
/-- The energy of a code as a fraction in pJ (R73). -/
def codeEnergy (k : FX) (code : Nat) : Nat × Nat := (14400000 * k.m.toNat * (code * code), 2 ^ k.s * 16777216)
/-- The energy of a code, pJ, rounded (R73). -/
def codePj (k : FX) (code : Nat) : Nat := (rdiv (14400000 * k.m * (code * code : Nat)) (2 ^ k.s * 16777216 : Nat)).toNat
/-- E_chg of an energy of e.1 / e.2 pJ, rounded up to whole picojoules, which R73 does not round (DESIGN CHOICE, log entry 8). -/
def chargedPj (tol : Nat) (e : Nat × Nat) : Nat := (e.1 * (1000 + tol) ^ 2 + (1000000 * e.2 - 1)) / (1000000 * e.2)
/-- The largest energy whose E_chg is at most h, halved or not, as a fraction in pJ (R75, R310). -/
def energyUnder (tol h : Nat) (half : Bool) : Nat × Nat := (h * 1000000, (1000 + tol) ^ 2 * (if half then 2 else 1))

/-- The lowest and highest codes of R302: 9.99 V and 116.00 V. -/
abbrev vFloor : Nat := 341
/-- See vFloor. -/
abbrev vTop : Nat := 3959

/-! ## The eye-safety account (R74 to R77) -/

/-- Slots of the two windows since the grid start (R75): T_A / 16 and T_B / 16. -/
def slotOf' (s : State) (len : Nat) : Nat := (s.tb - s.rm.gridAt) / max len 1
/-- Slot lengths in T64 units. -/
def slotLenA (t : EyeTable) : Nat := t.tA * 8000
/-- See slotLenA. -/
def slotLenB (t : EyeTable) : Nat := t.tB * 8000000

/-- The slots follow the grid; charges that have left the window sum are dropped (R75). -/
def eyeSlots (s : State) : State :=
  match s.rm.table with
  | none => s
  | some t =>
    let a := slotOf' s (slotLenA t)
    let b := slotOf' s (slotLenB t)
    if a = s.rm.slotA && b = s.rm.slotB then s
    else modRm (fun r => { r with
      slotA := a, slotB := b
      acct := (r.acct.map fun p => (p.1, ({ a := p.2.a.filter fun c => decide (a ≤ c.1 + 16)
                                            b := p.2.b.filter fun c => decide (b ≤ c.1 + 16) } : EyeAcct))).filter
        fun p => !(p.2.a.isEmpty && p.2.b.isEmpty) }) s

/-- The bins that [θ - u, θ + u] intersects, parts outside taken by the end bins (R74). -/
def eyeBins (s : State) (t : EyeTable) (az : Int) : List Nat :=
  let u : Int := if s.lce.rel.inUse = 0 then t.uPri else t.uSec
  let f := fun (x : Int) => (clampI 0 (t.nBin - 1 : Nat) ((x - 5 * t.azBin0) / (max t.binWidth 1 : Nat))).toNat
  let lo := f (5 * az - u)
  let hi := f (5 * az + u)
  (upto (hi + 1 - lo)).map (· + lo)

/-- Window sum of a list of charges, with the limit itself while the grid's first slot counts (R75, R77). -/
def windowSum (limit slot : Nat) (l : List (Nat × Nat)) : Nat :=
  nsum ((l.filter fun c => decide (slot ≤ c.1 + 16)).map (·.2)) + if slot ≤ 16 then limit else 0

/-- Limits of emitter e in a bin, pJ: window A and window B (R72). -/
def eyeLimits (t : EyeTable) (e bin : Nat) : Nat × Nat :=
  (1000 * bget 0 t.qA (1024 * e + bin), 1000 * bget 0 t.qB (1024 * e + bin))

/-- Headroom of emitter e over bins, pJ of E_chg (R75). -/
def eyeHeadroom (s : State) (t : EyeTable) (e : Nat) (bins : List Nat) : Nat :=
  bins.foldl (fun h bin =>
    let (qa, qb) := eyeLimits t e bin
    let x : EyeAcct := bget {} s.rm.acct (1024 * e + bin)
    min h (min (qa - windowSum qa s.rm.slotA x.a) (qb - windowSum qb s.rm.slotB x.b)))
    (1000 * bget 0 t.qPulse e)

/-- A charge added to the current slot. -/
def chargeSlot (slot pj : Nat) : List (Nat × Nat) → List (Nat × Nat)
  | [] => [(slot, pj)]
  | (k, v) :: r => if k = slot then (k, v + pj) :: r else (k, v) :: chargeSlot slot pj r

/-- Headroom in 1/65,536 of a limit, saturated (R85). An account with a limit of 0 has no headroom to express and is left
out of the minimum (DESIGN CHOICE, log entry 79). -/
def marginOf (limit sum : Nat) : Nat := if limit = 0 then 65535 else min 65535 ((limit - sum) * 65536 / limit)

/-- The smallest headroom over every emitter and bin at this instant, windows A and B: an account that lists no charge has
its whole limit left, and none has any while the first slot of the grid counts (R75, R77, R85). -/
def marginsNow (s : State) : Nat × Nat :=
  match s.rm.table with
  | none => (65535, 65535)
  | some t =>
    let first := fun (slot : Nat) (q : Bank Nat) => if slot ≤ 16 && q.any (fun p => p.2 != 0) then 0 else 65535
    s.rm.acct.foldl (fun m p =>
      let (qa, qb) := eyeLimits t (p.1 / 1024) (p.1 % 1024)
      (min m.1 (marginOf qa (windowSum qa s.rm.slotA p.2.a)), min m.2 (marginOf qb (windowSum qb s.rm.slotB p.2.b))))
      (first s.rm.slotA t.qA, first s.rm.slotB t.qB)

/-- The open frame's margins take the headroom of this instant (R85). -/
def marginsTake (s : State) : State :=
  let m := marginsNow s
  modRm (fun r => { r with marginCurA := min r.marginCurA m.1, marginCurB := min r.marginCurB m.2 }) s

/-- A committed shot is charged to every bin its interval touches (R76). -/
def eyeCharge (e : Nat) (bins : List Nat) (pj : Nat) (s : State) : State :=
  match s.rm.table with
  | none => s
  | some t => bins.foldl (fun s bin =>
      let (qa, qb) := eyeLimits t e bin
      let s := modRm (fun r => { r with acct := bmod {} r.acct (1024 * e + bin) fun x =>
        { a := chargeSlot r.slotA pj x.a, b := chargeSlot r.slotB pj x.b } }) s
      let x : EyeAcct := bget {} s.rm.acct (1024 * e + bin)
      modRm (fun r => { r with
        marginCharged := true
        marginCurA := min r.marginCurA (marginOf qa (windowSum qa r.slotA x.a))
        marginCurB := min r.marginCurB (marginOf qb (windowSum qb r.slotB x.b)) }) s) s

/-- Every account as if charged to its limit in the first slot of a new grid that starts now (R77, R85). -/
def eyeGrid (s : State) : State :=
  let s := modRm (fun r => { r with acct := [], gridAt := s.tb, slotA := 0, slotB := 0 }) s
  if s.rm.inFrame then marginsTake s else s

/-! ## Results and skips -/

/-- The PHASE parameters in force (R15). -/
def phaseParams (s : State) : PhP :=
  { keep := parN s 0x2808 0, tau := parN s 0x3000 0, tail := parN s 0x3001 0
    hits := parN s 0x3401 0, rate := parN s 0x3402 0, mon := parN s 0x3403 0 }

/-- Whole 64 ns steps from the start of a shot's frame to an instant (R252). -/
def tofsOf (sh : Shot) (at_ : Nat) : Nat := (at_ - sh.f0) / 8192 % 2 ^ 24

/-- Cycle n of a frame fires at throttle level l (R82). -/
def cycleFires (n l : Nat) : Bool := decide (256 ≤ l) || decide (n * l / 256 < (n + 1) * l / 256)

/-- The azimuth field: 16 bits, clamped (R295). -/
def clampAz (a : Int) : Int := clampI (-32768) 32767 a

/-- A result reaches the point formatter, live results of a frame in the order of R262, replayed ones after every one
already there (R263). -/
def addResult (r : ResE) (s : State) : State :=
  let r := { r with at_ := s.tb }
  let last := ((s.pt.results.getLast?).map fun x => x.order).getD r.order
  let l := if r.replayed then s.pt.results ++ [{ r with order := last }]
    else insertBy (fun x => (x.order : Int)) r s.pt.results
  modPt (fun p => { p with results := l }) s

/-- Place of a live result: phase boundary, bank, channel; for a group's result the instant of its completion stands for the
boundary, with bank 0 (R262). -/
def orderOf (boundary bank chan : Nat) : Nat := (boundary * 4 + bank) * 256 + chan

/-- The enabled channels of an emitter. -/
def emChans (s : State) (e : Nat) : List Nat := ((upto 8).map (8 * e + ·)).filter fun c => rxEnabled s c

/-- A record without a measurement (R253); a lost channel carries cause 9 in every case (R254). -/
def noRecord (s : State) (c cause tofs : Nat) (az : Int) : Rec :=
  { chan := c, intens := if (chanOf s c).lost then 9 else cause, az := clampAz az, tofs := tofs }

/-- The records of a shot that was not measured, one per enabled channel; in histogram mode those of an active shot wait for the result
of its group (R81, R100, R262). -/
def missRecords (sh : Shot) (cause tofs : Nat) (az : Int) (s : State) : State :=
  let cs := emChans s sh.em
  let r : ResE := { recs := (cs.map fun c => noRecord s c cause tofs az)
                    tStart := t64At s sh.edge
                    frame := sh.frame
                    bank := sh.bank
                    phase := sh.boundary
                    order := orderOf sh.boundary sh.bank (8 * sh.em) }
  if cs.isEmpty then s
  else if s.ee.hist && !sh.flyback then
    modPt (fun p => { p with missHeld := p.missHeld ++ [(sh.em, sh.cycle / max (parN s 0x2C01 0) 1, r)] }) s
  else addResult r s

/-- Records without a measurement that waited for their group take the place of its result (R262). -/
def releaseMiss (f : Nat × Nat × ResE → Bool) (s : State) : State :=
  (s.pt.missHeld.filter f).foldl (fun s m =>
    addResult { m.2.2 with order := orderOf s.tb 0 (8 * m.1), phase := s.rm.boundary } s)
    (modPt (fun p => { p with missHeld := p.missHeld.filter fun m => !f m }) s)

/-- An emitter shot that is not fired is counted once, under its cause, and delivers its records (R80 to R83). -/
def skipShot (sh : Shot) (cause : Nat) (s : State) : State :=
  let s := modRm (fun r => { r with
    skips := bmod 0 r.skips cause satInc
    skipCount := r.skipCount + 1
    skipMask := r.skipMask ||| BitVec.ofNat 8 (2 ^ (cause - 1)) }) s
  if sh.thin || !parB s 0x2024 0 then s else missRecords sh cause (tofsOf sh sh.edge) sh.theta s

/-- The committed shot of emitter e that is still to be fired. -/
def committedShot (s : State) (e : Nat) : Option Shot :=
  ((s.rm.current ++ s.rm.planned).find? fun sh => sh.em == e && sh.skip == 0 && !sh.gated)

/-- The gate pulse of shot sh has been given. -/
def markGated (sh : Shot) (s : State) : State :=
  let f := fun (l : List Shot) => l.map fun x =>
    if x.em = sh.em && x.boundary = sh.boundary then { x with gated := true } else x
  modRm (fun r => { r with current := f r.current, planned := f r.planned }) s

/-- W of a shot in T64 units: that of the frame it belongs to (R58, R59). -/
def shotWin (sh : Shot) : Nat := sh.w * nsU

/-- Shot sh leaves the lists of shots to be fired with a skip cause. -/
def markSkip (sh : Shot) (cause : Nat) (s : State) : State :=
  let f := fun (l : List Shot) => l.map fun x =>
    if x.em = sh.em && x.boundary = sh.boundary && x.skip = 0 && !x.gated then { x with skip := cause } else x
  modRm (fun r => { r with current := f r.current, planned := f r.planned }) s

/-- Every committed shot not yet fired is cancelled under a cause; those of the phase in progress are counted at once,
those of the next phase when it opens (R79, R80). -/
def cancelShots (cause : Nat) (s : State) : State :=
  let cur := s.rm.current.filter fun sh => sh.skip == 0 && !sh.gated
  let s := cur.foldl (fun s sh => skipShot sh cause (markSkip sh cause s)) s
  let s := modRm (fun r => { r with planned := r.planned.map fun x =>
    if x.skip = 0 && !x.gated then { x with skip := cause } else x }) s
  modFld (fun c => { c with bankS := c.bankS.map fun p => (p.1, { p.2 with fires := [] }) }) s

end Sys2Proof.Machine
end

