-- ==== Sys2Proof/Machine/AdcOps.lean ====
section
/-!
DEFINITION. Converters, excitation and the filter engines: sequences, settling, half-band stages, FIR, bank swaps
(R322 to R341, R356 to R375).
-/
namespace Sys2Proof.Machine

/-- Logical channel g. -/
def lchOf (s : State) (g : Nat) : LchS := bget {} s.adc.lch g
/-- Logical channel g changed. -/
def modLch (g : Nat) (f : LchS → LchS) (s : State) : State := modAdc (fun a => { a with lch := bmod {} a.lch g f }) s
/-- Excitation n. -/
def excOf (s : State) (n : Nat) : ExcS := bget {} s.adc.exc n
/-- Measurement channel m. -/
def measOf (s : State) (m : Nat) : MeasS := bget {} s.adc.meas m
/-- Measurement channel m changed. -/
def modMeas (m : Nat) (f : MeasS → MeasS) (s : State) : State := modAdc (fun a => { a with meas := bmod {} a.meas m f }) s

/-! ## Slots (R325, R355) -/

/-- The slot is used. -/
def slotUsed (b : Nat) : Bool := bits b 7 6 == 2
/-- The slot is a dummy. -/
def slotDummy (b : Nat) : Bool := bits b 7 6 == 1
/-- Local channel of the slot. -/
abbrev slotCh (b : Nat) : Nat := b % 16

/-- Positions of the used slots of local channel j. -/
def usedSlots (l : List Nat) (j : Nat) : List Nat :=
  (upto 32).filter fun k => slotUsed (l.getD k 0) && slotCh (l.getD k 0) == j

/-- The used slots of one channel: 1, 2, 4, 8, 16 or 32 of them, spaced exactly 32 / m apart (R325). -/
def slotsSpaced (u : List Nat) : Bool :=
  let m := u.length
  m == 0 || ([1, 2, 4, 8, 16, 32].contains m &&
    (upto m).all fun i => u.getD i 0 == u.getD 0 0 + i * (32 / m))

/-- A dummy stands immediately before a used slot of its channel, cyclically; a slot marked both ways is neither (R325). -/
def slotPaired (l : List Nat) (k : Nat) : Bool :=
  let b := l.getD k 0
  let nx := l.getD ((k + 1) % 32) 0
  bits b 7 6 != 3 && (!slotDummy b || (slotUsed nx && slotCh nx == slotCh b))

/-- A sequence keeps every rule of R325. -/
def seqValid (l : List Nat) : Bool :=
  (upto 16).all (fun j => slotsSpaced (usedSlots l j)) && (upto 32).all fun k => slotPaired l k

/-- The staging copy of ADCn (R327). -/
def stagedSlots (s : State) (n : Nat) : List Nat := (upto 32).map fun k => parN s 0x4403 (32 * n + k)
/-- The staged sources of ADCn (R327). -/
def stagedSrc (s : State) (n : Nat) : List Nat := (upto 16).map fun j => parN s 0x4408 (16 * n + j)

/-- ADC_SEQ_COMMIT of ADCn: a valid staging copy waits for the sequence start, an invalid one is refused (R327). -/
def seqCommit (n : Nat) (s : State) : State :=
  let l := stagedSlots s n
  if seqValid l then modAdc (fun a => { a with commit := bset a.commit n (l, stagedSrc s n), refused := bset a.refused n false }) s
  else modAdc (fun a => { a with refused := bset a.refused n true }) s

/-! ## Structure of a channel (R356, R365) -/

/-- The engine runs the FIR only where the output rate is 250 kS/s or less and the engine's sum has room for it (R357). -/
def firRuns (c : LchS) : Bool := c.structFir && c.firFits && decide (c.m * 31250 ≤ 250000 * 2 ^ c.structHb)

/-- Span of the input window, raw samples. -/
def spanOf (hb : Nat) (fir : Bool) : Nat := 22 * (2 ^ hb - 1) + 1 + (if fir then 63 * 2 ^ hb else 0)

/-- Twice the group delay, raw samples. -/
def gdelay2 (hb : Nat) (fir : Bool) : Nat := 22 * (2 ^ hb - 1) + (if fir then 63 * 2 ^ hb else 0)

/-- Raw period of a channel with m used slots, ns. -/
def rawNs (m : Nat) : Nat := if m = 0 then 0 else 32000 / m

/-- FLT_PERIOD (R376). -/
def fltPeriod (c : LchS) : Nat := rawNs c.m * 2 ^ c.structHb
/-- FLT_GDELAY, ns (R365, R376). -/
def fltGdelay (c : LchS) : Nat := gdelay2 c.structHb (firRuns c) * rawNs c.m / 2
/-- FLT_SETTLE (R365, R376). -/
def fltSettle (c : LchS) : Nat :=
  (spanOf c.structHb (firRuns c) + 2 ^ c.structHb - 1) / 2 ^ c.structHb - 1
/-- FLT_STATUS (R376). -/
def fltStatus (c : LchS) : Nat :=
  b2n c.settling.isSome + 2 * b2n (decide (0 < c.fadeN)) + 4 * b2n c.swapHeld.isSome + 8 * b2n (decide (0 < c.hardLeft))

/-- Settling starts with a reason; the first raw sample at or after this sequence start is number 1 of the new output grid; the delay lines
are cleared (R360, R361, R364, R366, R367). -/
def settleStart (g reason : Nat) (s : State) : State :=
  modLch g (fun c => { c with
    line := [], rawN := 0, startAt := s.tb, settleFrom := 1, settling := some reason, settleUntil := none, lastValid := 0
    dcLoad := true }) s

/-! ## Excitation (R336 to R341) -/

/-- An excitation change on EXCn: EXC_SETTLE runs, and a settling channel that names it settles anew after it
(R339, R368). -/
def excChange (n : Nat) (s : State) : State :=
  let e := s.tb + parN s 0x4413 0 * usU
  let s := modAdc (fun a => { a with exc := bmod {} a.exc n fun x => { x with
    settleFrom := if decide (0 < x.settleEnd) && decide (s.tb ≤ x.settleEnd) then x.settleFrom else s.tb
    settleEnd := e, settling := true } }) s
  (upto 64).foldl (fun s g =>
    if parN s 0x440C g == n && (lchOf s g).settling.isSome then
      modLch g (fun c => { c with settleUntil := some e, lastValid := 0 }) s
    else s) s

/-- EXCn may run: its mode is not off, the state allows it, and in voltage mode the reference is ready (R336, R341). -/
def excOn (s : State) (n : Nat) : Bool :=
  let mode := parN s 0x4410 n
  mode != 0 && (s.dev == .config || s.dev == .run || s.dev == .safe) && (mode == 2 || s.adc.refReady)

/-- Every excitation follows its mode, the reference and the device state (R336, R339, R341). -/
def excFollow (s : State) : State :=
  (upto 8).foldl (fun s n =>
    let on := excOn s n
    if (excOf s n).on == on then s
    else excChange n (modAdc (fun a => { a with exc := bmod {} a.exc n fun x =>
      { x with on := on, fault := if on then x.fault else 0 } }) s)) s

/-! ## Filter engine (R359 to R374) -/

/-- One output of a half-band stage: 23 taps, linear phase, on samples newest first with 16 fraction bits; the rounding
between stages is a DESIGN CHOICE (R362, log entry 17). -/
def hbOut (l : List Int) : Int :=
  rdiv (isum ((upto 23).map fun i => Config.hbTap (min i (22 - i)) * l.getD i 0)) 1073741824

/-- A half-band stage over samples newest first, the newest completing an output. -/
def hbStage (l : List Int) : List Int := (upto ((l.length + 1) / 2)).map fun j => hbOut (l.drop (2 * j))

/-- Half-band stages in a row. -/
def hbChain : Nat → List Int → List Int
  | 0, l => l
  | n + 1, l => hbChain n (hbStage l)

/-- Coefficient i of a bank of engine n (R363). -/
def firTap (s : State) (n bank i : Nat) : Int :=
  match bget [] s.adc.coef (2 * n + bank) with
  | [] => Config.firEmpty i
  | h => h.getD i 0

/-- The FIR on samples newest first, Q15 with 46 fraction bits, of which the engine's 48-bit sum holds 30: beyond it the sum saturates
(R363; DESIGN CHOICE, log entry 17). -/
def firOut (s : State) (n bank : Nat) (l : List Int) : Int :=
  clampI (-(2 ^ 63)) (2 ^ 63 - 1) (isum ((upto 64).map fun i => firTap s n bank i * l.getD i 0))

/-- The output of a channel's chain, Q15 with 46 fraction bits, in a cross-fade the mix of the two banks (R356, R373). -/
def chainOut (s : State) (g : Nat) (c : LchS) : Int :=
  let l := hbChain c.structHb (c.line.map (·.1))
  if firRuns c then
    let y := firOut s (g / 16) c.bank l
    if c.fadeN = 0 then y
    else rdiv ((c.fadeN - c.fadeK : Int) * firOut s (g / 16) c.fadeFrom l + c.fadeK * y) c.fadeN
  else l.getD 0 0 * 1073741824

/-- A bank change is asked for: held during a cross-fade, where a request for the bank in force cancels a held one
(R372, R374). -/
def bankRequest (g b : Nat) (s : State) : State :=
  modLch g (fun c =>
    if 0 < c.fadeN then { c with swapHeld := if b = c.bank then none else some b }
    else { c with swapReq := if b = c.bank then none else some b }) s

/-- BANK_SWAP: at an output boundary a cross-fade goes on, or a waiting request takes effect in the mode in force, hard
or as the first output of a cross-fade (R372 to R374). -/
def outBoundary (s : State) (g : Nat) (c : LchS) : LchS :=
  let c := { c with hardLeft := c.hardLeft - 1 }
  if 0 < c.fadeN && decide (c.fadeK < c.fadeN) then { c with fadeK := c.fadeK + 1 }
  else
    let c := { c with fadeN := 0, fadeK := 0 }
    match c.swapHeld.or c.swapReq with
    | none => c
    | some b =>
      let c := { c with swapHeld := none, swapReq := none }
      if b = c.bank then c
      else if parN s 0x4808 g = 0 then { c with bank := b, hardLeft := 96 }
      else { c with bank := b, fadeFrom := c.bank, fadeN := 2 ^ parN s 0x4809 g, fadeK := 1 }

/-- Place of a raw-sample reason in the order of R334; a smaller one goes first. -/
def reasonRank (r : Nat) : Int :=
  match r with
  | 6 => 0
  | 7 => 1
  | 5 => 2
  | 3 => 3
  | 2 => 4
  | _ => 5

/-- α of R361 with 32 fraction bits: 1 - exp(-2π fc / fraw), the corner in 0.01 Hz. -/
def dcAlpha (corner m : Nat) : Int := (one32 : Int) - expNeg (628318531 * corner) (10000000000 * m * 31250)

/-- The sample instant of the raw sample of channel g that has just arrived: the last one of its used slots that has passed (R324,
R359). -/
def sampleAt (s : State) (g : Nat) : Nat :=
  let done_ := (lchOf s g).slots.filter fun k => decide (s.adc.seqStart + k * usU + 200 * nsU ≤ s.tb)
  match done_.getLast? with
  | some k => s.adc.seqStart + k * usU + 200 * nsU
  | none =>
    match (lchOf s g).slots.getLast? with
    | some k => s.adc.seqStart + k * usU + 200 * nsU - 32 * usU
    | none => s.tb

/-- A sample word: value, channel, reason, VALID, Sequence (R330). -/
def sampleWord (q : Int) (g reason seq : Nat) : Nat :=
  (q % 65536).toNat + 65536 * g + 2 ^ 24 * reason + 2 ^ 27 * b2n (reason == 0) + 2 ^ 28 * (seq % 16)

end Sys2Proof.Machine
end

