-- ==== Sys2Proof/Machine/RingOps.lean ====
section
/-!
DEFINITION. DMA stream rings and PCIe staging: how an item reaches host memory (R523 to R534).
-/
namespace Sys2Proof.Machine

/-- The host interface changed. -/
def modPci (f : PciS → PciS) (s : State) : State := { s with pci := f s.pci }
/-- Ring n. -/
def ringOf (s : State) (n : Nat) : RingS := bget {} s.pci.rings n
/-- Ring n changed. -/
def modRing (n : Nat) (f : RingS → RingS) (s : State) : State :=
  modPci (fun p => { p with rings := bmod {} p.rings n f }) s

/-- RUNNING of R530. -/
def ringRunning (r : RingS) : Bool := r.enable && !r.stopped

/-- FULL of R527: every posted buffer is full and DESC equals the tail. -/
def ringFull (r : RingS) : Bool := r.buf.isNone && r.done == r.tail

/-- A descriptor fetch begins when the ring needs a buffer and one is posted (R524). -/
def ringKick (n : Nat) (s : State) : State :=
  let r := ringOf s n
  if ringRunning r && r.buf.isNone && r.done != r.tail && r.fetch == 0 then
    emit (.note "descriptor fetch" n) (modRing n (fun r => { r with fetch := 1, fetchAt := s.tb }) s)
  else s

/-- Host address of word 2 of the descriptor in use (R523, R524). -/
def descAddr (r : RingS) : BitVec 64 :=
  r.base + BitVec.ofNat 64 (16 * (r.done.toNat % max r.size 1) + 8)

/-- The buffer in progress is completed: USED, DONE, BEGINS and FIRST_OFS are written to its descriptor (R523, R524). -/
def ringComplete (n : Nat) (s : State) : State :=
  let r := ringOf s n
  match r.buf with
  | none => s
  | some b =>
    let w3 := 2 ^ 31 + (match b.first with
      | some o => 2 ^ 30 + o
      | none => 0)
    modRing n (fun r => { r with buf := none, done := r.done + 1 })
      (emit (.hostWrite (descAddr r) (leBytes 4 b.used ++ leBytes 4 w3)) s)

/-- Records of a frame are discarded and counted (R272). -/
def dropRecords (n : Nat) (s : State) : State :=
  modPt (fun p => { p with
    droppedCur := satAdd p.droppedCur n, dropped := satAdd p.dropped n, dropTotal := satAdd p.dropTotal n
    truncated := true }) s

/-- Records in the point stream that were not written are taken out of it and discarded; they take no index (R267, R272). -/
def unwritten (k : Nat) (s : State) : State :=
  if k = 0 then s
  else dropRecords k (modPt (fun p => { p with
    index := p.index - BitVec.ofNat 32 k, pointCount := p.pointCount - BitVec.ofNat 32 k
    records := p.records - BitVec.ofNat 64 k }) s)

/-- A record was held since an instant (R281). -/
def heldSince (at_ : Nat) (s : State) : State :=
  let us := (s.tb - at_) / usU
  modPt (fun p => { p with heldMax := if p.heldMax.toNat < us then BitVec.ofNat 32 (min us 0xFFFFFFFF) else p.heldMax }) s

/-- The records written on ring n since its last ring update are visible; the longest window-close-to-visible time is kept
(R269, R281). -/
def ringVisible (n : Nat) (s : State) : State :=
  let lat := ((ringOf s n).unseen.map fun c => (s.tb + 1 - c) / nsU).foldl max 0
  let s := modRing n (fun r => { r with unseen := [] }) s
  modPt (fun p => { p with maxLat := if p.maxLat.toNat < lat then BitVec.ofNat 32 (min lat 0xFFFFFFFF) else p.maxLat }) s

/-- An item is written whole: a header's frame is the last one written, a record counts its hold or its latency at the next ring
update (R281). -/
def itemWritten (n : Nat) (it : WItem) (s : State) : State :=
  let s := if it.hdr.isEmpty then s else modPt (fun p => { p with lastFrame := it.hdr.getD 2 0 }) s
  let s := if it.heldFull && n == parN s 0x3801 0 then heldSince it.at_ s else s
  if it.closeAt = 0 then s else modRing n (fun r => { r with unseen := r.unseen ++ [it.closeAt] }) s

/-- The write-back record, and source 288 + n pends (R525, R526). -/
def ringWriteBack (n : Nat) (s : State) : State :=
  let s := ringVisible n (modRing n (fun r => { r with owes := false }) s)
  let r := ringOf s n
  eicEdge (288 + n) (emit (.hostWrite r.wb
    (leBytes 8 r.bytes.toNat ++ leBytes 4 r.done.toNat ++ leBytes 4 (if r.stopped then 2 ^ 31 else 0))) s)

/-- What is written of a burst that a full ring cuts short gets its write-back (R526; DESIGN CHOICE, log entry 11). -/
def ringFlush (n : Nat) (s : State) : State :=
  if (ringOf s n).owes then ringWriteBack n s else s

/-- Bytes of an item written at the end of the buffer in progress. -/
def ringPut (n : Nat) (b : Buf) (it : WItem) (k : Nat) (s : State) : State :=
  modRing n (fun r => { r with
    bytes := r.bytes + BitVec.ofNat 64 k
    buf := some { b with
      used := b.used + k
      first := if b.first.isNone && !it.begun then some (b.used / 16) else b.first } })
    (emit (.hostWrite (b.addr + BitVec.ofNat 64 b.used) (it.data.take k)) s)

/-- Waiting items of ring n written while a buffer has room; an item that does not fit continues in the next buffer,
and each completed item is followed by a write-back; what waits on a full ring is held (R272, R524, R526). -/
def ringDrain (n : Nat) : List WItem → State → State
  | [], s => modRing n (fun r => { r with waiting := [] }) s
  | it :: rest, s =>
    match (ringOf s n).buf with
    | none =>
      let full := ringFull (ringOf s n)
      let s := if full then ringFlush n s else s
      ringKick n (modRing n (fun r => { r with waiting := (it :: rest).map fun i =>
        if full then { i with heldFull := true, closeAt := 0 } else i }) s)
    | some b =>
      let room := b.len - b.used
      if it.data.length ≤ room then
        let s := itemWritten n it (ringPut n b it it.data.length s)
        let s := if it.data.length = room then ringComplete n s else s
        ringDrain n rest (if it.more then modRing n (fun r => { r with owes := true }) s else ringWriteBack n s)
      else
        let s := ringComplete n (ringPut n b it room s)
        ringKick n (modRing n (fun r => { r with
          waiting := { it with data := it.data.drop room, begun := true } :: rest }) s)

/-- Capacity of staging: 4 MiB on chip and PCI_STAGE_SIZE on each channel in service (R533). -/
def stageCap (s : State) : Nat :=
  4194304 + parN s 0x7802 0 * 1048576 * ((upto 4).filter fun k => !s.car.chOos.getLsbD k).length

/-- A ring stops with a cause; the buffer in progress is completed where the bus can still be written (R524, R529). -/
def ringStop (n cause : Nat) (s : State) : State :=
  let s := modRing n (fun r => { r with stopped := true, cause := cause, fetch := 0 }) s
  let s := if s.pci.bme then ringWriteBack n (ringComplete n s) else modRing n (fun r => { r with buf := none }) s
  logNow 0x3705 n cause (eicEdge (320 + n) s)

/-- Items among what is staged; the rest are MSI-X messages (R533). -/
def stagedItems (p : PciS) : Nat := (p.staged.filter fun x => decide (x.1 < 32)).length

/-- The link is down: staged items are discarded and counted, every ring stops, HOST is asleep (R534). -/
def linkDown (s : State) : State :=
  let k := stagedItems s.pci
  let s := modPci (fun p => { p with
    retraining := false, dlUp := false, width := 0, staged := [], stageBytes := 0
    stageLost := satAdd p.stageLost k, hostDown := true
    rings := p.rings.map fun (j, r) => (j, if r.enable then { r with stopped := true, buf := none, fetch := 0 } else r) }) s
  logNow 0x3704 noSrc (min k 0xFFFFFFFF) s

/-- An item for ring n: staged in order while the link retrains or staging holds something, else written or waiting for
a buffer (R526, R527, R533, R534). The ring must be running. -/
def ringItemOf (n : Nat) (it : WItem) (s : State) : State :=
  let it := { it with at_ := s.tb }
  if s.pci.retraining || !s.pci.staged.isEmpty then
    let s := modPci (fun p => { p with
      staged := p.staged ++ [(n, it)], stageBytes := p.stageBytes + it.data.length }) s
    if stageCap s < s.pci.stageBytes then linkDown s else s
  else ringDrain n ((ringOf s n).waiting ++ [it]) s

/-- An item for ring n that ends its burst. -/
def ringItem (n : Nat) (data : List Byte) (s : State) : State := ringItemOf n { data := data } s

/-- An item for ring n that waits for a buffer: also on a stopped ring, until that is disabled (R527, R529). -/
def ringSend (n : Nat) (data : List Byte) (s : State) : State :=
  let r := ringOf s n
  if ringRunning r then ringItem n data s
  else if r.enable then modRing n (fun r => { r with waiting := r.waiting ++ [{ data := data, at_ := s.tb }] }) s
  else s

/-- What waits on ring n leaves it: a frame header is held again, a record leaves the point stream, another item is counted as
dropped (R272, R273, R527; the discard is a DESIGN CHOICE, log entry 11). -/
def ringEmpty (n : Nat) (s : State) : State :=
  let w := (ringOf s n).waiting
  let hs := (w.map (·.hdr)).filter fun h => !h.isEmpty
  let s := modPt (fun p => { p with hdrHeld := hs ++ p.hdrHeld }) s
  let s := if n = parN s 0x3801 0 then unwritten w.length s
    else modRing n (fun r => { r with drop := satAdd r.drop (w.length - hs.length) }) s
  modRing n (fun r => { r with waiting := [] }) s

/-- A ring is disabled: while PF0 is bus master the buffer in progress is completed and a final write-back follows, what waits leaves it,
and the point and header streams end with their rings (R527, R528). -/
def ringDisable (n : Nat) (s : State) : State :=
  if (ringOf s n).enable then
    let s := if s.pci.bme then ringWriteBack n (ringComplete n s) else s
    let s := if n = parN s 0x3801 0 || n = parN s 0x3802 0 then
        modPt (fun p => { p with streaming := p.streaming && parN s 0x7C10 0 == 1 }) s else s
    modRing n (fun r => { r with
      enable := false, stopped := false, cause := 0, fetch := 0, buf := none, unseen := [], owes := false }) (ringEmpty n s)
  else s

/-- A ring takes items: it runs, and it is not full, or the link retrains (R527, R533). -/
def ringTakes (s : State) (n : Nat) : Bool :=
  ringRunning (ringOf s n) && (!ringFull (ringOf s n) || s.pci.retraining)

end Sys2Proof.Machine
end

