-- ==== Sys2Proof/Machine/Recorder.lean ====
section
/-!
DEFINITION. Carousel: segments, index and seal records, and the commands of the recorder that no Xiest request
carries (R463 to R488).
-/
namespace Sys2Proof.Machine

/-- The recorder changed. -/
def modRec (f : RecS → RecS) (s : State) : State := { s with car := f s.car }
/-- Segment g of stream n. -/
def segOf (s : State) (n g : Nat) : Seg := bget {} (strOf s n).segs g
/-- Segment g of stream n changed. -/
def modSeg (n g : Nat) (f : Seg → Seg) (s : State) : State :=
  modStr n (fun st => { st with segs := bmod {} st.segs g f }) s

/-- The words of a list of bytes, little-endian. -/
def wordsBytes (l : List (BitVec 32)) : List Byte := (l.map fun w => leBytes 4 w.toNat).flatten

/-- Words closed by their CRC-32 (R481, R482). -/
def withCrc (l : List Nat) : List (BitVec 32) :=
  let w := l.map (BitVec.ofNat 32)
  w ++ [crc32 (wordsBytes w)]

/-- The index record of the block in progress of segment g of stream n (R481). -/
def indexRecord (s : State) (n g : Nat) : List (BitVec 32) :=
  let st := strOf s n
  let x := segOf s n g
  withCrc [0x58495A44, n * 2 ^ 24 + g * 2 ^ 20 + st.source % 16 * 2 ^ 16 + b2n x.gap, x.blocks,
    s.car.bootEpoch.toNat * 65536 + x.blkItems % 65536, x.blkT64.toNat % 2 ^ 32, x.blkT64.toNat / 2 ^ 32,
    x.blkOfs * 65536 + x.used / 16]

/-- Blocks of data of a segment, 1/1,024 of it being index records (R465 and the example after R486). -/
def segBlocks (s : State) (n : Nat) : Nat := max 1 ((strOf s n).segBytes / blockBytes * 1023 / 1024)

/-- The block in progress is closed: its index record is written, the oldest beyond the segment's blocks is overwritten with
the items that begin in it (R469, R481). -/
def blockClose (n g : Nat) (s : State) : State :=
  let r := indexRecord s n g
  let k := segBlocks s n
  modSeg n g (fun x =>
    let cut := x.index.length + 1 - k
    { x with
    index := (x.index ++ [r]).drop cut, data := x.data.drop (blockBytes * cut)
    starts := x.starts.filter fun p => decide (blockBytes * (x.blocks + 1 + cut - (x.index.length + 1)) ≤ p.2)
    blocks := x.blocks + 1, used := 0, blkItems := 0, blkOfs := 65535, blkT64 := 0, gap := false
    filled := x.filled || decide (k ≤ x.blocks + 1) }) s

/-- Bytes of an item that begins or continues in blocks: whole blocks are closed as they fill (R481). -/
def blockFill (n g : Nat) : Nat → Nat → State → State
  | 0, _, s => s
  | fuel + 1, len, s =>
    let room := blockBytes - (segOf s n g).used
    if len < room then modSeg n g (fun x => { x with used := x.used + len }) s
    else blockFill n g fuel (len - room) (blockClose n g (modSeg n g (fun x => { x with used := blockBytes }) s))

/-- An item written to the current segment of stream n; one without a T64 of its own takes that of its block's first item, and as that first
item the start stamp of its shot (R468, R471, R481; DESIGN CHOICE, log entry 12). -/
def segWrite (n : Nat) (i : Item) (s : State) : State :=
  let st := strOf s n
  let g := st.seg
  let t := if i.ownT || (segOf s n g).blkItems = 0 then i.t else (segOf s n g).blkT64
  let s := modSeg n g (fun x => { x with
    data := x.data ++ i.data, starts := x.starts ++ [(t, blockBytes * x.blocks + x.used)]
    blkT64 := if x.blkItems = 0 then t else x.blkT64
    blkOfs := if x.blkItems = 0 then x.used else x.blkOfs
    blkItems := x.blkItems + 1
    gap := x.gap || st.gapNext }) s
  let s := blockFill n g (i.data.length / blockBytes + 2) i.data.length s
  modStr n (fun st => { st with
    gapNext := false
    postBytes := if st.st = 2 && decide (st.trigT.toNat ≤ t.toNat || 0 < st.postBytes)
      then st.postBytes + i.data.length else st.postBytes }) s

/-- REC_WRITE_RATE: the mean over the last 100 ms, MB/s (R488). -/
def recWriteRate (s : State) : Nat :=
  nsum ((s.car.written.filter fun w => decide (s.tb < w.1 + 100 * msU)).map (·.2)) / 100000

/-- The post-trigger amount, capped at the data of the segment less one block (R471; DESIGN CHOICE, log entry 12). -/
def postMax (s : State) (n : Nat) : Nat :=
  min (parN s 0x6814 n * 1024) (blockBytes * (segBlocks s n - 1))

/-- ITEM_WRITE: the write engine writes the oldest queued item of a stream that writes; once the post-trigger amount is
written, items wait for the next segment (R468, R469, R471, R473). -/
def execItemWrite (t : Nat) (str : Fin 16) (s : State) : Host.Outcome State Fault Refusal :=
  let s := s.start t
  let n := str.val
  match (strOf s n).queue with
  | [] => done s
  | i :: q =>
    let writes := strState s n = 1 || (strState s n = 2 && decide ((strOf s n).postBytes < postMax s n))
    if writes && parB s 0x6800 0 then
      done (modRec (fun c => { c with
        written := (c.written.filter fun w => decide (s.tb < w.1 + 100 * msU)) ++ [(s.tb, i.data.length)] })
        (segWrite n i (modStr n (fun st => { st with queue := q }) s)))
    else done s

/-- The seal record of segment g of stream n with a cause (R482). -/
def sealWords (s : State) (n g cause : Nat) (hard : Bool) (trigT : BitVec 64) (epoch : BitVec 16) : List (BitVec 32) :=
  let st := strOf s n
  let x := segOf s n g
  let first := (x.starts.head?.getD (0, 0)).1.toNat
  let last := (x.starts.getLast?.getD (0, 0)).1.toNat
  let post := if cause = 6 then 0 else st.postBytes
  withCrc [0x4C535A44, 0x0100 * 65536 + 64, s.car.captureNo.toNat,
    n * 2 ^ 24 + g * 2 ^ 20 + st.source % 16 * 2 ^ 16 + cause * 256 + 4 * b2n x.damaged + 2 * b2n hard +
      b2n (if st.st = 2 then st.early else !x.filled),
    trigT.toNat % 2 ^ 32, trigT.toNat / 2 ^ 32, first % 2 ^ 32, first / 2 ^ 32, last % 2 ^ 32, last / 2 ^ 32,
    (x.data.length - post) / 1024, post / 1024, x.blocks - x.index.length, x.index.length,
    epoch.toNat * 65536 + min st.missed.toNat 0xFFFF]

/-- The current segment of stream n is sealed as a capture (R473, R482). -/
def sealSeg (n cause : Nat) (hard : Bool) (trigT : BitVec 64) (epoch : BitVec 16) (s : State) : State :=
  let g := (strOf s n).seg
  let s := if (segOf s n g).used = 0 then s else blockClose n g s
  let w := sealWords s n g cause hard trigT epoch
  modRec (fun c => { c with captureNo := c.captureNo + 1 })
    (modSeg n g (fun x => { x with sealRec := some w, read := false, order := s.car.captureNo.toNat }) s)

/-- Segments of stream n (R465). -/
def segCount (s : State) (n : Nat) : Nat := max 1 (min 8 (parN s 0x6813 n))

/-- A change record (R478). -/
def changeRecord (t64 : BitVec 64) (signal : Nat) (broken key : Bool) (v : Nat) : List Byte :=
  leBytes 8 t64.toNat ++ leBytes 4 (signal * 65536 + 512 * b2n broken + 256 * b2n key) ++ leBytes 4 v

/-- The value of digital group g (R477). Group 2 needs 48 bits and a change record holds 32: the record carries slots
0 to 7 (DESIGN CHOICE, log entry 12). -/
def groupValue (s : State) (g : Nat) : Nat :=
  match g with
  | 0 => siState s
  | 1 => soState s
  | 2 => sfStates s 12
  | 3 => devCode s.dev + 256 * (s.rm.degrade ||| degradeCond s).toNat
  | 4 => s.lce.mode + 256 * fbStatus s
  | 5 => fldState s + 256 * s.fe.active
  | 6 => chgWindow s + 256 * apdStatus s + 65536 * brgStatus s
  | _ => loopStatus s 0 + 256 * loopStatus s 1

/-- The keyframe of a changes-only stream: every selected value (R477). -/
def keyframe (n : Nat) (s : State) : State :=
  let st := strOf s n
  let sel := parN s 0x6811 n
  let now := t64Now s
  let put := fun (s : State) (d : List Byte) => recQueueItem n { t := now, data := d } s
  let s := modStr n (fun st => { st with keyAt := s.tb }) s
  if st.source = 7 then
    (upto 8).foldl (fun s g => if bit sel g then put s (changeRecord now g false true (groupValue s g % 2 ^ 32)) else s) s
  else if st.source = 8 then
    (upto 32).foldl (fun s m => if bit sel m then
      let x := bget ({} : MeasS) s.adc.meas m
      let s := modRec (fun c => { c with
        measLast := bset c.measLast (32 * n + m) x.value, measStat := bset c.measStat (32 * n + m) (measStatus s m) }) s
      put s (changeRecord now (256 + m) x.broken true (ofLe (leInt 4 x.value))) else s) s
  else s

/-- Stream n re-arms into a segment: REARM for at most 50 µs, a free value, then RECORDING; its keyframes go before the items
that wait (R473). -/
def armIn (n g : Nat) (s : State) : State :=
  let (d, s) := freeBits 32 s
  let wait := (strOf s n).queue
  let s := modStr n (fun st => { st with
    st := 1, seg := g, segs := bset st.segs g {}, rearmUntil := s.tb + d.toNat % (50 * usU + 1), armAt := s.tb
    early := false, postBytes := 0, queue := [] }) s
  let s := keyframe n s
  modStr n (fun st => { st with queue := st.queue ++ wait }) s

/-- The unread captures of stream n, oldest first. -/
def unread (s : State) (n : Nat) : List Nat :=
  sortBy (fun g => ((segOf s n g).order : Int))
    ((upto (segCount s n)).filter fun g => (segOf s n g).sealRec.isSome && !(segOf s n g).read)

/-- Stream n takes the lowest free segment, or is HELD (R473, R476, R484). -/
def rearmFree (n : Nat) (s : State) : State :=
  match (upto (segCount s n)).find? fun g => (segOf s n g).sealRec.isNone with
  | some g => armIn n g s
  | none => modStr n (fun st => { st with st := 4 }) s

/-- Stream n takes the lowest free segment, or with REC_OVERWRITE that of its oldest unread capture, or is HELD
(R473, R475). -/
def rearm (n : Nat) (s : State) : State :=
  let free := (upto (segCount s n)).any fun g => (segOf s n g).sealRec.isNone
  match unread s n with
  | g :: _ => if !free && parB s 0x6817 n then armIn n g s else rearmFree n s
  | [] => rearmFree n s

/-- POST_END: the post-trigger amount is written, or REC_POST_TMAX has passed since the trigger; the capture is sealed
and the stream re-arms or is HELD (R471, R473, R475). -/
def execPostEnd (t : Nat) (str : Fin 16) (s : State) : Host.Outcome State Fault Refusal :=
  let s := s.start t
  let n := str.val
  let st := strOf s n
  if st.st = 2 && (decide (postMax s n ≤ st.postBytes) ||
      decide (st.trigT.toNat + parN s 0x6815 n * msU ≤ (t64Now s).toNat)) then
    done (rearm n (sealSeg n st.trigCause false st.trigT s.car.bootEpoch s))
  else done s

/-- AUTO_TRIGGER: no trigger accepted within REC_AUTO of the stream's arm (R470); it is a local trigger of source 5 on
that stream, sent on Scan Link where REC_SL_OUT_SRC names it (R590). -/
def execAutoTrigger (t : Nat) (str : Fin 16) (s : State) : Host.Outcome State Fault Refusal :=
  let s := s.start t
  let n := str.val
  if strState s n = 1 && bit (parN s 0x6816 n) 5 && decide ((strOf s n).armAt + parN s 0x681A 0 * msU ≤ s.tb) then
    let now := t64Now s
    let s := strTrigger n 5 now s
    if bit (parN s 0x681E 0) 5 then
      done ((upto 8).foldl (fun s l => if bit (parN s 0x681D 0) l then
        slkQueue l tyTrig (leBytes 8 now.toNat ++ [5] ++ List.replicate 7 0) s else s) s)
    else done s
  else done s

/-- KEYFRAME: every REC_KEYFRAME a changes-only stream writes one (R477). -/
def execKeyframe (t : Nat) (str : Fin 16) (s : State) : Host.Outcome State Fault Refusal :=
  let s := s.start t
  let n := str.val
  let st := strOf s n
  if (st.st = 1 || st.st = 2) && parB s 0x6800 0 && decide (st.keyAt + parN s 0x6819 0 * msU ≤ s.tb) then
    done (keyframe n s)
  else done s

/-- DIGITAL_GROUP_SAMPLE: every 10 µs each group whose value changed gives a change record to the streams that select it (R477). -/
def execDigitalGroupSample (t : Nat) (s : State) : Host.Outcome State Fault Refusal :=
  let s := s.start t
  if !periodDue s.car.groupsAt (10 * usU) s.tb then done s
  else done ((upto 8).foldl (fun s g =>
    let v := groupValue s g
    if v = bget 0 s.car.groups g then s
    else recItem 7 g (t64Now s) (changeRecord (t64Now s) g false false (v % 2 ^ 32))
      (modRec (fun c => { c with groups := bset c.groups g v }) s)) (modRec (fun c => { c with groupsAt := some s.tb }) s))

/-- The index record carries LOST (R481). -/
def recordLost (r : List (BitVec 32)) : Bool := bit (r.getD 1 0).toNat 1

/-- READOUT_BLOCK: the seal record, then each retained block as its index record and 64 KiB of data, when the ring has
room; a lost block reads as 0 (R481, R483). -/
def execReadoutBlock (t : Nat) (s : State) : Host.Outcome State Fault Refusal :=
  let s := s.start t
  match s.car.read with
  | none => done s
  | some (ring, n, g, k) =>
    if !ringTakes s ring then done s
    else
      let x := segOf s n g
      if s.car.readFirst then
        done (modRec (fun c => { c with readFirst := false }) (ringItem ring (wordsBytes (x.sealRec.getD [])) s))
      else match x.index[k]? with
        | some r =>
          let d := if recordLost r then [] else (x.data.drop (k * blockBytes)).take blockBytes
          done (modRec (fun c => { c with read := some (ring, n, g, k + 1) })
            (ringItem ring (wordsBytes r ++ d ++ List.replicate (blockBytes - d.length) 0) s))
        | none => done (modSeg n g (fun x => { x with read := true }) (modRec (fun c => { c with readSt := 2, read := none }) s))

/-- A write of REC_READ: a readout starts, or is refused when the segment holds no capture (R483). -/
def recReadWrite (v : Nat) (s : State) : State :=
  let ring := v / 256 % 32
  let n := bits v 7 4
  let g := bits v 2 0
  if (segOf s n g).sealRec.isSome then
    modRec (fun c => { c with readSt := 1, read := some (ring, n, g, 0), readFirst := true }) s
  else modRec (fun c => { c with readSt := 3 }) s

/-- A write of REC_RELEASE: the segment is freed and its capture discarded; a HELD stream re-arms (R475, R483). -/
def recReleaseWrite (v : Nat) (s : State) : State :=
  let n := bits v 7 4
  let g := bits v 2 0
  if (segOf s n g).sealRec.isSome then
    let s := modSeg n g (fun _ => {}) s
    if (strOf s n).st = 4 then rearm n s else s
  else s

/-- A write of REC_REARM: each named stream that is STOPPED re-arms into a free segment or is HELD (R476). -/
def recRearmWrite (v : Nat) (s : State) : State :=
  (upto 16).foldl (fun s n => if bit v n && (strOf s n).st == 5 then rearmFree n s else s) s

/-- A write of REC_MISSED_CLR (R474). -/
def recMissedClrWrite (v : Nat) (s : State) : State :=
  (upto 16).foldl (fun s n => if bit v n then modStr n (fun st => { st with missed := 0, missedT := 0 }) s else s) s

/-- A hard stop: every stream that takes source bit 2 and writes is sealed and STOPPED; one in REARM, which has written nothing, is STOPPED
with its segment free (R476; DESIGN CHOICE, log entry 12). -/
def hardStop (t64 : BitVec 64) (s : State) : State :=
  (upto 16).foldl (fun s n =>
    let st := strOf s n
    if bit (parN s 0x6816 n) 2 && strState s n == 3 then
      modStr n (fun st => { st with st := 5, queue := [], segs := bdel st.segs st.seg }) s
    else if bit (parN s 0x6816 n) 2 && (st.st == 1 || st.st == 2) then
      let trig := if st.st = 2 then st.trigT else t64
      let post := if st.st = 2 then st.postBytes else bytesFrom t64 (segOf s n st.seg)
      let s := modStr n (fun st => { st with postBytes := post }) s
      modStr n (fun st => { st with st := 5, queue := [] })
        (sealSeg n (if st.st = 2 then st.trigCause else 2) true trig s.car.bootEpoch s)
    else s) s

/-- A mask violation: record, count, log entry once in a second, and the action of MASK_ACTION (R478, R480). -/
def maskViolated (k inst q : Nat) (t64 : BitVec 64) (value : Int) (s : State) : State :=
  let s := recItem 11 k t64 (leBytes 8 t64.toNat ++ [0, BitVec.ofNat 8 q, BitVec.ofNat 8 inst, BitVec.ofNat 8 k] ++
    leInt 4 value) s
  let s := modRec (fun c => { c with maskCount := bmod 0 c.maskCount k satInc }) s
  let last := bget 0 s.car.maskLogAt k
  let s := if last = 0 || last - 1 + secU ≤ s.tb then
      logNow 0x1C03 k q (modRec (fun c => { c with maskLogAt := bset c.maskLogAt k (s.tb + 1) }) s)
    else s
  match parN s 0x6844 k with
  | 1 => recTrigger 2 t64 s
  | 2 => hardStop t64 s
  | _ => s

/-- One sample of mask k on a bank or channel: out of mask on MASK_N consecutive samples it is violated, and again only
after a sample in mask (R479, R480). Tested in RUN and SAFE. -/
def maskSample (k inst q : Nat) (out : Bool) (t64 : BitVec 64) (value : Int) (s : State) : State :=
  if s.dev != .run && s.dev != .safe then s
  else
    let key := 512 * k + inst
    let m : MaskS := bget {} s.car.masks key
    if !out then modRec (fun c => { c with masks := bset c.masks key {} }) s
    else
      let run := m.run + 1
      let hit := !m.held && decide (parN s 0x6843 k ≤ run)
      let s := modRec (fun c => { c with masks := bset c.masks key { run := run, held := m.held || hit } }) s
      if hit then maskViolated k inst q t64 value s else s

/-- A record with bit b of word k set and its CRC anew (R481, R482). -/
def recordMark (k b : Nat) (r : List (BitVec 32)) : List (BitVec 32) :=
  withCrc ((r.dropLast.map (·.toNat)).mapIdx fun i w => if i = k then w ||| 2 ^ b else w)

/-- A capture damaged by the loss of a channel; lost says which of its blocks lay on it (R481, R482, R486). -/
def segDamage (lost : Nat → Bool) (x : Seg) : Seg :=
  match x.sealRec with
  | none => x
  | some w => { x with
      damaged := true, sealRec := some (recordMark 3 2 w)
      index := x.index.mapIdx fun i r => if lost i then recordMark 1 1 r else r }

/-- DRAM_CHANNEL_REMOVED: the channel leaves service, streams that record are sealed with cause 7, captures are damaged,
the capacity falls by a quarter and the streams re-arm. The command is the event: the tests of the channel that lead to it
lie in the DRAM. Which blocks lay on the channel is a free value (R464, R486). -/
def execDramChannelRemoved (t : Nat) (ch : Fin 4) (s : State) : Host.Outcome State Fault Refusal :=
  let s := s.start t
  if s.car.chOos.getLsbD ch then done s
  else
    let in0 := ((upto 4).filter fun k => !s.car.chOos.getLsbD k).length
    let s := modRec (fun c => { c with
      chOos := c.chOos ||| BitVec.ofNat 4 (2 ^ ch.val), capMiB := c.capMiB - c.capMiB / max in0 1 }) s
    let s := logNow 0x3C01 ch 0 s
    let writing := fun (n : Nat) => strState s n == 1 || strState s n == 2
    let s := (upto 16).foldl (fun s n =>
      let st := strOf s n
      if writing n then
        sealSeg n 7 false (if st.st = 2 then st.trigT else 0) s.car.bootEpoch s else s) s
    let draw := s.free
    let s := { s with free := s.free + 1 }
    let s := (upto 16).foldl (fun s n => modStr n (fun st => { st with
      segs := st.segs.map fun p => (p.1, segDamage (Config.lostBlock draw n p.1) p.2)
      segBytes := (st.segBytes - st.segBytes / max in0 1) / blockBytes * blockBytes }) s) s
    done ((upto 16).foldl (fun s n => if writing n then rearm n s else s) s)

end Sys2Proof.Machine
end

