-- ==== Sys2Proof/Machine/Measure.lean ====
section
/-!
DEFINITION. Measurement channels, their curves and broken state, and the charging window that follows them (R96 to R98,
R342 to R346, R477, R658).
-/
namespace Sys2Proof.Machine

/-! ## Charging window -/

/-- T_die_max: the highest temperature of model nodes 0 to 19, 0.001 °C (R604). -/
def dieMax (s : State) : Int := (upto 20).foldl (fun m k => max m (bget 25000 s.thm.node k)) (bget 25000 s.thm.node 0)

/-- The module temperature of bank b, 0.001 °C, where its channel is neither pending nor broken (R96, R98, R658). -/
def moduleT (s : State) (b : Nat) : Option Int :=
  let m := measOf s (parN s 0x2412 b)
  if m.pending || m.broken then none else some m.value

/-- The conditions of bank b's window with a margin in 0.001 °C (R96, R97). -/
def windowHolds (s : State) (b : Nat) (margin : Int) : Bool :=
  (match moduleT s b with
   | none => false
   | some v => decide (-30000 + margin ≤ v) && decide (v ≤ 95000 - margin)) &&
    decide (dieMax s ≤ 130000 - margin)

/-- Every shot of bank b not yet fired is skipped under CHARGE_TEMP, the next phase's when it opens (R96). -/
def skipBank (b : Nat) (s : State) : State :=
  let cur := s.rm.current.filter fun x => x.skip == 0 && !x.gated && x.bank == b
  let s := cur.foldl (fun s sh => skipShot sh 5 (markSkip sh 5 s)) s
  modRm (fun r => { r with planned := r.planned.map fun x => if x.skip = 0 && !x.gated && x.bank = b then { x with skip := 5 } else x }) s

/-- CHARGING_WINDOW_CLOSE: a condition that fails closes the window and stops the charger, the top-up and the shots; with
margin on every condition the 100 ms of R97 run (R96 to R98). -/
def windowCheck (s : State) (b : Nat) : State :=
  let s := if 130000 < dieMax s then modFld (fun c => { c with chgDieClosed := true }) s else s
  if !windowHolds s b 0 then
    let was := (bankOf s b).windowClosed
    let s := modBank b (fun x => { x with windowClosed := true, windowOkAt := none, reopen := false }) s
    if was then s else modBank b (fun x => { x with fires := [] }) (skipBank b s)
  else if (bankOf s b).windowClosed then
    let ok := windowHolds s b 2000
    modBank b (fun x => { x with windowOkAt := if ok then some (x.windowOkAt.getD s.tb) else none }) s
  else s

/-- The windows of all banks. -/
def windowChecks (s : State) : State := (upto 4).foldl windowCheck s

/-! ## Input of a curve (R342) -/

/-- Q15 full scale of a source in millionths of its unit (R323). -/
def fullScale (src : Nat) : Int :=
  if src < 0x10 then 2500000
  else if src = 0x20 then 5000000
  else if src = 0x21 || src = 0x22 then 10000000
  else if src = 0x23 || src = 0x24 then 80000000
  else if src = 0x25 || src = 0x26 then 256000000
  else if 0x28 ≤ src && src ≤ 0x2F then 32000
  else 5000000

/-- A quotient as numerator and positive denominator; with a zero divisor its value is free (log entry 7). -/
def quot (num den : Int) : Int × Int :=
  if den = 0 then (Config.ratioZero num, 1) else if den < 0 then (-num, -den) else (num, den)

/-- The lowest-numbered logical channel that converts the current monitor of the excitation of channel g in the sequence that runs,
where one is needed and exists (R342). -/
def currentCh (s : State) (g : Nat) : Option Nat :=
  let e := parN s 0x440C g
  if 8 ≤ e || parN s 0x4410 e != 2 then none
  else (upto 64).find? fun k => (lchOf s k).src == 0x28 + e && (lchOf s k).m != 0 && bget false s.adc.running (k / 16)

/-- The curve's input is Ω (R343). -/
def curveOhm (curve : Nat) : Bool := decide (1 ≤ curve) && decide (curve ≤ 5)

/-- Mm needs the excitation current (R342). -/
def needsCurrent (s : State) (m : Nat) : Bool := curveOhm (parN s 0x4422 m) && parN s 0x4421 m == 0xFF

/-- x of Mm from the newest outputs, in V, Ω or as a ratio (R342). -/
def measInput (s : State) (m : Nat) : Int × Int :=
  let sig := parN s 0x4420 m
  let rf := parN s 0x4421 m
  let k := parFx s 0x4423 m
  let c := lchOf s sig
  let num := k.m * c.outQ * fullScale c.src
  let ks : Int := (2 ^ k.s : Nat)
  if rf < 64 then
    let q := lchOf s rf
    quot num (ks * (q.outQ * fullScale q.src))
  else if curveOhm (parN s 0x4422 m) then
    let i := lchOf s ((currentCh s sig).getD 0)
    quot num (ks * (i.outQ * fullScale i.src))
  else (num, ks * 32768000000)

/-! ## Curves (R343 to R345) -/

/-- The largest k in [lo, lo + 2^n) for which f holds, f falling from true to false; lo where it holds nowhere. -/
def bisectTop : Nat → (Int → Bool) → Int → Int
  | 0, _, lo => lo
  | n + 1, f, lo => bisectTop n f (if f (lo + (2 ^ n : Nat)) then lo + (2 ^ n : Nat) else lo)

/-- Platinum by IEC 60751 at k · 0.0005 °C, R / R0 scaled by 1.6 · 10^28: the coefficients of the example of R347, and
below 0 °C the standard's third one (PRESUMED, log entry 18). -/
def ptRatio (k : Int) : Int :=
  16000000000000 * 10 ^ 15 + 3908300000000 * k * 2000 ^ 3 - 577500000 * k ^ 2 * 2000 ^ 2 -
    (if k < 0 then 4183 * (k - 200000) * k ^ 3 else 0)

/-- The temperature, 0.001 °C, at which a rising function of k · 0.0005 °C reaches x, rounded, and whether it lies within
[lo, hi] °C. -/
def invert (f : Int → Bool) (lo hi : Int) : Int × Bool :=
  let k := bisectTop 23 (fun k => decide (k ≤ 2000 * hi + 1) && f k) (2000 * lo)
  ((k + 1) / 2, f (2000 * lo) && decide (k ≤ 2000 * hi))

/-- Steinhart-Hart: 0.001 °C from A, B, C and ln x with 32 fraction bits (R344). -/
def steinhart (s : State) (m : Nat) (num den : Int) : Int × Bool :=
  if num ≤ 0 then (0, false)
  else
    let l := lnQ num.toNat den.toNat
    let p := fun (k : Nat) => parFx s 0x4424 (3 * m + k)
    let term := fun (f : FX) (v : Int) => f.m * v * 2 ^ 32 / (2 ^ f.s : Nat)
    let inv := term (p 0) one32 + term (p 1) l + term (p 2) (l * l / one32 * l / one32)
    if inv ≤ 0 then (0, false)
    else
      let t := rdiv (1000 * 2 ^ 64) inv - 273150
      (t, decide (-55000 ≤ t) && decide (t ≤ 150000))

/-- Point i of the user table. -/
def tablePoint (t : List Byte) (i : Nat) : Int × Int :=
  (signed 32 (ofLe ((t.drop (8 * i)).take 4)), signed 32 (ofLe ((t.drop (8 * i + 4)).take 4)))

/-- The user table at x, in µV or ppm: linear between points (R344). -/
def tableAt (t : List Byte) (num den : Int) : Int × Bool :=
  let x := 1000000 * num
  if t.length < 264 || decide (x < (tablePoint t 0).1 * den) || decide ((tablePoint t 32).1 * den < x) then (0, false)
  else
    let i := (((upto 32).filter fun i => decide ((tablePoint t i).1 * den ≤ x)).getLast?).getD 0
    let a := tablePoint t i
    let b := tablePoint t (i + 1)
    (rdiv (a.2 * ((b.1 - a.1) * den) + (b.2 - a.2) * (x - a.1 * den)) ((b.1 - a.1) * den), true)

/-- A polynomial in k · 0.0005 °C with decimal coefficients m · 10^-e, the constant first, scaled by 10^18. -/
def decPoly (cs : List (Int × Nat)) (k : Int) : Int :=
  isum ((cs.zip (upto cs.length)).map fun p => rdiv (p.1.1 * k ^ p.2 * 10 ^ 18) ((2000 ^ p.2 * 10 ^ p.1.2 : Nat) : Int))

/-- Ni1000 by DIN 43760, R / R0 (PRESUMED, log entry 18). -/
def polyNi : List (Int × Nat) :=
  [(1, 0), (5485, 6), (665, 8), (0, 0), (2805, 14), (0, 0), (-2, 17)]

/-- Type K by IEC 60584-1 below 0 °C, mV (PRESUMED, log entry 18). -/
def polyKneg : List (Int × Nat) :=
  [(0, 0), (39450128025, 12), (23622373598, 15), (-32858906784, 17), (-49904828777, 19), (-67509059173, 21),
   (-57410327428, 23), (-31088872894, 25), (-10451609365, 27), (-19889266878, 30), (-16322697486, 33)]

/-- Type K by IEC 60584-1 from 0 °C on, mV, without its exponential (PRESUMED, log entry 18). -/
def polyKpos : List (Int × Nat) :=
  [(-17600413686, 12), (38921204975, 12), (18558770032, 15), (-99457592874, 18), (31840945719, 20),
   (-56072844889, 23), (56075059059, 26), (-32020720003, 29), (97151147152, 33), (-12104721275, 36)]

/-- Type J by IEC 60584-1 up to 760 °C, mV (PRESUMED, log entry 18). -/
def polyJlow : List (Int × Nat) :=
  [(0, 0), (50381187815, 12), (30475836930, 15), (-85681065720, 18), (13228195295, 20), (-17052958337, 23),
   (20948090697, 26), (-12538395336, 29), (15631725697, 33)]

/-- Type J by IEC 60584-1 above 760 °C, mV (PRESUMED, log entry 18). -/
def polyJhigh : List (Int × Nat) :=
  [(29645625681, 8), (-14976127786, 10), (31787103924, 13), (-31847686701, 16), (15720819004, 19), (-30691369056, 23)]

/-- Type T by IEC 60584-1 below 0 °C, mV (PRESUMED, log entry 18). -/
def polyTneg : List (Int × Nat) :=
  [(0, 0), (38748106364, 12), (44194434347, 15), (11844323105, 17), (20032973554, 18), (90138019559, 20),
   (22651156593, 21), (36071154205, 23), (38493939883, 25), (28213521925, 27), (14251594779, 29), (48768662286, 32),
   (10795539270, 34), (13945027062, 37), (79795153927, 41)]

/-- Type T by IEC 60584-1 from 0 °C on, mV (PRESUMED, log entry 18). -/
def polyTpos : List (Int × Nat) :=
  [(0, 0), (38748106364, 12), (33292227880, 15), (20618243404, 17), (-21882256846, 19), (10996880928, 21),
   (-30815758772, 24), (45479135290, 27), (-27512901673, 30)]

/-- The exponential of type K at k · 0.0005 °C: 0.1185976 mV · exp(-1.183432 · 10^-4 (t - 126.9686)²), scaled by 10^18 (PRESUMED, log
entry 18). -/
def expK (k : Int) : Int :=
  1185976 * 10 ^ 11 * (expNeg (1183432 * (5 * k - 1269686).natAbs ^ 2) (10 ^ 18) : Nat) / one32

/-- The reference function of curve 4, in millionths of the resistance at 0 °C, and of curves 6 to 8, in nV, at k · 0.0005 °C (R343). -/
def curveRef (curve : Nat) (k : Int) : Int :=
  rdiv (match curve with
    | 4 => decPoly polyNi k
    | 6 => if k < 0 then decPoly polyKneg k else decPoly polyKpos k + expK k
    | 7 => decPoly (if k ≤ 1520000 then polyJlow else polyJhigh) k
    | _ => decPoly (if k < 0 then polyTneg else polyTpos) k) (10 ^ 12)

/-- A named reference function inverted: x in millionths of R0 (curve 4) or in nV (curves 6 to 8), plus an offset. -/
def invRef (curve : Nat) (num den ofs lo hi : Int) : Int × Bool :=
  invert (fun k => decide ((curveRef curve k - ofs) * den ≤ num)) lo hi

/-- Cold-junction voltage of a thermocouple, nV (R345). -/
def coldNv (s : State) (curve : Nat) : Int :=
  curveRef curve (2 * (bget 25000 s.fld.dieT 0 + 100 * parI s 0x4426 0))

/-- MEAS_VALUE of Mm from its input, and whether it lies within the curve's range; none where the curve has no input
(R343: curve 9 needs a reference). -/
def measCurve (s : State) (m : Nat) : Option (Int × Bool) :=
  let x := measInput s m
  match parN s 0x4422 m with
  | 0 => some (rdiv (1000000 * x.1) x.2, true)
  | 1 => some (invert (fun k => decide (ptRatio k * x.2 * 100 ≤ x.1 * (2000 ^ 4 * 10 ^ 15))) (-200) 850)
  | 2 => some (invert (fun k => decide (ptRatio k * x.2 * 500 ≤ x.1 * (2000 ^ 4 * 10 ^ 15))) (-200) 850)
  | 3 => some (invert (fun k => decide (ptRatio k * x.2 * 1000 ≤ x.1 * (2000 ^ 4 * 10 ^ 15))) (-200) 850)
  | 4 => some (invRef 4 (1000 * x.1) x.2 0 (-60) 250)
  | 5 => some (steinhart s m x.1 x.2)
  | 6 => some (invRef 6 (1000000000 * x.1) x.2 (coldNv s 6) (-200) 1370)
  | 7 => some (invRef 7 (1000000000 * x.1) x.2 (coldNv s 7) (-200) 1200)
  | 8 => some (invRef 8 (1000000000 * x.1) x.2 (coldNv s 8) (-200) 400)
  | 9 =>
    if parN s 0x4421 m < 64 then
      let v := rdiv (1000000000 * x.1) x.2
      some (v, decide (v.natAbs ≤ 100000000))
    else none
  | _ => some (tableAt (parBytes s 0x4425 m) x.1 x.2)

/-! ## Broken state (R346, R658) -/

/-- The logical channels of Mm: signal, reference. -/
def measChs (s : State) (m : Nat) : List Nat := [parN s 0x4420 m, parN s 0x4421 m].filter (· < 64)

/-- Excitation of channel g is in a fault state. -/
def excFaulty (s : State) (g : Nat) : Bool :=
  let e := parN s 0x440C g
  decide (e < 8) && (excOf s e).fault != 0

/-- A cause of R346 beside the range holds for Mm. -/
def measCause (s : State) (m : Nat) : Bool :=
  decide (parN s 0x4420 m < 64) &&
    ((measChs s m).any (fun g => decide (8 ≤ (lchOf s g).ovrRun) || excFaulty s g) ||
      (needsCurrent s m && (currentCh s (parN s 0x4420 m)).isNone))

/-- A slow-analogue change record of Mm for every stream that selects it where the value moved beyond the dead band from
what that stream stored last, or MEAS_STATUS changed (R477). -/
def slowRecord (m : Nat) (output : Bool) (s : State) : State :=
  let x := measOf s m
  let st := measStatus s m
  (upto 16).foldl (fun s n =>
    let k := 32 * n + m
    let moved := output && decide (parI s 0x6818 m < ((x.value - bget 0 s.car.measLast k).natAbs : Int))
    if recTakes s n 8 m && (moved || st != bget 0 s.car.measStat k) then
      recQueueItem n { t := t64Now s, data := changeRecord (t64Now s) (256 + m) x.broken false (ofLe (leInt 4 x.value)) }
        (modRec (fun c => { c with measLast := bset c.measLast k x.value, measStat := bset c.measStat k st }) s)
    else s) s

/-- MEASUREMENT_UPDATE and MEASUREMENT_BROKEN of Mm; output says whether its signal channel has just delivered an output.
A change into or out of the broken state is logged, and the charging windows follow (R342, R346, R658). -/
def measUpdate (output : Bool) (s : State) (m : Nat) : State :=
  let old := measOf s m
  let used := decide (parN s 0x4420 m < 64)
  let refNot := used && !s.adc.refReady
  let cause := measCause s m
  let chOk := (measChs s m).all fun g => (lchOf s g).outOk
  let s := if !used || refNot || cause || !output || !chOk then
      modMeas m (fun x => { x with valid := x.valid && used && !refNot && !cause && (chOk || !output) }) s
    else match measCurve s m with
      | none => modMeas m (fun x => { x with valid := false }) s
      | some (v, ok) => modMeas m (fun x => { x with
          value := if ok then clampI (-2147483648) 2147483647 v else x.value
          valid := ok, outRange := !ok, pending := x.pending && !ok, late := x.late && !ok }) s
  let x := measOf s m
  let broken := if refNot then old.broken || x.late else cause || (used && x.outRange) || x.late
  let s := modMeas m (fun x => { x with broken := broken, refNot := refNot, valid := x.valid && !broken }) s
  let s := if broken && !old.broken then logNow 0x1902 m 0 s
    else if old.broken && !broken then logNow 0x0903 m 0 s else s
  windowChecks (slowRecord m output s)

/-- Every measurement channel is judged anew after a change in its causes (R346). -/
def measAll (s : State) : State := (upto 32).foldl (measUpdate false) s

/-- The excitations follow their modes, the reference and the device state, and the measurement channels what that changes (R341,
R346). -/
def excApply (s : State) : State := measAll (excFollow s)

/-- The measurement channels that channel g feeds, as signal or reference. -/
def measOn (s : State) (g : Nat) : List Nat := (upto 32).filter fun m => (measChs s m).contains g

end Sys2Proof.Machine
end

