-- ==== Sys2Proof/Machine/Adc.lean ====
section
/-!
DEFINITION. Converters, sequence starts, sample words, reference buffer, excitation faults, loop readback, pending
measurements (R322 to R341, R353, R356 to R371, R658).
-/
namespace Sys2Proof.Machine

/-! ## Conversion -/

/-- Reason of a raw sample, the first of 6, 7, 5, 3, 2 that applies (R327, R331, R332, R334, R336, R339). -/
def rawReason (s : State) (g : Nat) (c : LchS) (k : Nat) (code : Int) : Nat :=
  let n := g / 16
  let e := parN s 0x440C g
  let at_ := s.adc.seqStart + k * usU + 200 * nsU
  let noDummy := k == 0 && bget false s.adc.firstSeq n &&
    slotDummy ((bget [] s.adc.seq n).getD 31 0) && slotCh ((bget [] s.adc.seq n).getD 31 0) == g % 16
  if !s.adc.refReady then 6
  else if code ≤ -2048 || 2047 ≤ code then 7
  else if decide (e < 8) && decide ((excOf s e).settleFrom ≤ at_) &&
    decide (at_ < (excOf s e).settleEnd) then 5
  else if 0 < c.gainMark then 3
  else if c.srcMark || noDummy then 2
  else 0

/-- AUTORANGE: a large code lowers the gain by a step, 64 consecutive small valid samples taken under autoranging raise it
(R333). -/
def autorange (want : Nat) (code : Int) (ok : Bool) (c : LchS) : LchS :=
  if 1792 ≤ code.natAbs then
    if 0 < c.gain then { c with gain := c.gain - 1, gainMark := 2, upRun := 0 } else { c with upRun := 0 }
  else if ok && code.natAbs < 896 then
    if c.upRun + 1 < 64 then { c with upRun := c.upRun + 1 }
    else if c.gain < want then { c with gain := c.gain + 1, gainMark := 2, upRun := 0 }
    else { c with upRun := 63 }
  else { c with upRun := 0 }

/-- ADC_CONVERSION: from its sample instant on converter n converts its next slot to a 12-bit code, taken after the trim of
R322; a used slot sends a
raw sample word, a dummy or empty slot none (R322, R324, R326, R330 to R334). -/
def execAdcConversion (t : Nat) (n : Fin 4) (code : Int) (s : State) : Host.Outcome State Fault Refusal :=
  let s := s.start t
  let k := bget 0 s.adc.slot n
  if !bget false s.adc.running n || decide (32 ≤ k) || decide (s.tb < s.adc.seqStart + k * usU + 200 * nsU) then done s
  else
    let b := (bget [] s.adc.seq n).getD k 0
    let s0 := s
    let s := modAdc (fun a => { a with
      slot := bset a.slot n (k + 1), firstSeq := if k = 31 then bset a.firstSeq n false else a.firstSeq }) s
    if !slotUsed b then done s
    else
      let g := 16 * n.val + slotCh b
      let c := lchOf s g
      let ain := decide (c.src < 16)
      let want := parN s 0x4409 g
      let auto := parB s 0x440A g
      let gain := if !ain then c.gain else if auto then min c.gain want else want
      let c := if gain = c.gain then c else { c with gain := gain, gainMark := 2, upRun := 0 }
      let r := rawReason s0 g c k code
      let q := if 0 < c.gainMark then c.lastOk
        else clampQ15 (code * (if ain then (16 / 2 ^ c.gain : Nat) else 16))
      let w := sampleWord q g r c.seqNo
      let c := { c with gainMark := c.gainMark - 1, srcMark := false, seqNo := (c.seqNo + 1) % 16
                        lastOk := if r = 0 then q else c.lastOk }
      let c := if auto && ain then autorange want code (r == 0) c else { c with upRun := 0 }
      let s := modLch g (fun _ => c) s
      let bl := if n.val < 2 then 6 else 7
      done (if barUp s bl then emit (.note (if bl = 6 then "BL6: sample word" else "BL7: sample word") w) s else s)

/-! ## Sample words into the filter -/

/-- A raw sample enters channel g's chain: a missing or invalid one as the last valid value, 0 before the first valid one since the
settling start; the DC blocker follows R361, and a moved settling start takes the first raw sample at or after its instant (R361, R368,
R369, R371). -/
def rawIn (g : Nat) (missing valid : Bool) (reason : Nat) (v : Int) (at_ : Nat) (s : State) : State :=
  let frz := parB s 0x4803 g
  let corner := parN s 0x4802 g
  modLch g (fun c =>
    let n := c.rawN + 1
    let moved := match c.settleUntil with
      | some u => decide (u ≤ at_)
      | none => false
    let c := if moved then { c with settleFrom := n, settleUntil := none, dcLoad := true, lastValid := 0 } else c
    let ok := !missing && valid
    let x := if ok then v else c.lastValid
    let first := ok && c.dcLoad && c.settleUntil.isNone
    let load := first && !frz
    let e := if load then v * 16777216 else c.dcE
    let y := if corner = 0 then x * 65536 else (x * 16777216 - e) / 256
    let e2 := if corner != 0 && (missing || valid) && !frz then e + dcAlpha corner (max c.m 1) * (x * 16777216 - e) / one32 else e
    let mark := if missing || valid then 0 else 16 + reason
    { c with
      rawN := n, dcE := e2, dcLoad := c.dcLoad && !first, lastValid := if ok then v else c.lastValid
      line := ((y, mark) :: c.line).take (spanOf c.structHb (firRuns c)) }) s

/-- FILTER_OUTPUT: raw sample 2^FLT_HB · q completes output q; it is invalid while settling, while a hard swap marks, and
where its window holds an invalid raw sample; the output a missing word would have completed is not sent
(R358 to R360, R364, R369 to R372, R376). -/
def filterOut (g : Nat) (missing : Bool) (at_ : Nat) (s : State) : State :=
  let c := lchOf s g
  if c.rawN % 2 ^ c.structHb != 0 then s
  else
    let c := outBoundary s g c
    let span := spanOf c.structHb (firRuns c)
    let wait := c.settling.isSome && (c.settleUntil.isSome || decide (c.rawN + 1 < c.settleFrom + span))
    let marks := (c.line.filter fun p => p.2 != 0).map (·.2 - 16)
    let worst := (sortBy reasonRank marks).head?
    let reason := if wait then c.settling.getD 0 else if 0 < c.hardLeft then 4 else worst.getD 0
    let y := rdiv (chainOut s g c) 70368744177664
    let q := if wait then 0 else clampQ15 y
    let ok := !wait && c.hardLeft == 0 && worst.isNone
    let s := if !wait && clampQ15 y != y then
        modAdc (fun a => { a with fltSat := bmod 0 a.fltSat (g / 16) satInc }) s else s
    let c := if wait then c else { c with settling := none }
    if missing then modLch g (fun _ => { c with outSeq := (c.outSeq + 1) % 16 }) s
    else
      let w := (q % 65536).toNat + 65536 * g + 2 ^ 24 * (if ok then 0 else reason) + 2 ^ 27 * b2n ok + 2 ^ 28 * c.outSeq
      let s := modLch g (fun _ => { c with
        outQ := q, outOk := ok, outReason := if ok then 0 else reason, outAt := at_, outNew := true
        outSeq := (c.outSeq + 1) % 16 }) s
      let t64 := t64At s at_
      let s := recItem 4 g t64 (leBytes 8 t64.toNat ++ leBytes 4 w ++ [0, 0, 0, 0]) s
      ((upto 32).filter fun m => parN s 0x4420 m == g).foldl (measUpdate true) s

/-- A raw sample of instant at_ and the output it completes; one from before the sequence start of the output grid is not of that grid
(R359, R360). -/
def sampleIn (g : Nat) (missing valid : Bool) (reason : Nat) (v : Int) (at_ : Nat) (s : State) : State :=
  if at_ < (lchOf s g).startAt then s else filterOut g missing at_ (rawIn g missing valid reason v at_ s)

/-- Raw samples that a gap in the Sequence field shows missing, one raw period apart, before the one taken at at_ (R371). -/
def missingIn (g at_ : Nat) : Nat → State → State
  | 0, s => s
  | k + 1, s => missingIn g at_ k (sampleIn g true false 0 0 (at_ - (k + 1) * rawNs (lchOf s g).m * nsU) s)

/-- ADC_SAMPLE_WORD: a raw sample word enters the filter engine of its channel while its sequencer runs (R121, R330, R346, R359, R367,
R371). -/
def execAdcSampleWord (t : Nat) (w : BitVec 32) (s : State) : Host.Outcome State Fault Refusal :=
  let s := s.start t
  let g := bits w.toNat 23 16
  let c := lchOf s g
  if 64 ≤ g || c.m = 0 || !bget false s.adc.running (g / 16) then done s
  else
    let at_ := sampleAt s g
    let v := signed 16 (bits w.toNat 15 0)
    let r := bits w.toNat 26 24
    let valid := bit w.toNat 27
    let seq := bits w.toNat 31 28
    let gap := match c.rxSeq with
      | some e => (seq + 16 - e) % 16
      | none => 0
    let t64 := t64At s at_
    let s := recItem 5 g t64 (leBytes 8 t64.toNat ++ leBytes 4 w.toNat ++ [0, 0, 0, 0]) s
    let s := missingIn g at_ gap s
    let ovr := !valid && r == 7
    let change := (ovr && c.ovrRun == 7) || (!ovr && decide (8 ≤ c.ovrRun))
    let s := modLch g (fun c => { c with
      rxSeq := some ((seq + 1) % 16), rawQ := v, ovrRun := if ovr then c.ovrRun + 1 else 0 }) s
    let s := sampleIn g false valid r v at_ s
    done (if change then (measOn s g).foldl (measUpdate false) s else s)

/-! ## Sequence start -/

/-- Converter n at a sequence start: a waiting commit takes effect, a channel whose used slots changed restarts with
reason 4, one whose source alone changed has its first sample marked; an enabled sequencer restarts every channel with
reason 1 (R324, R327, R360, R367). -/
def seqBegin (s : State) (n : Nat) : State :=
  let en := parB s 0x4402 n
  let was := bget false s.adc.enabled n
  let pend := (s.adc.commit.find? fun p => p.1 == n).map (·.2)
  let s := match pend with
    | none => if bget false s.adc.running n then modAdc (fun a => { a with firstSeq := bset a.firstSeq n false }) s else s
    | some (slots, src) =>
      let s := modAdc (fun a => { a with
        seq := bset a.seq n slots, firstSeq := bset a.firstSeq n true, commit := bdel a.commit n }) s
      (upto 16).foldl (fun s j =>
        let g := 16 * n + j
        let u := usedSlots slots j
        let old := lchOf s g
        let s := modLch g (fun c => { c with
          src := src.getD j 63, srcMark := c.srcMark || src.getD j 63 != c.src, slots := u, m := u.length
          skew := match u with
            | [] => 0
            | k :: _ => k * 1000 + 200 }) s
        if old.slots = u then s else settleStart g 4 s) s
  let run := en && !(bget [] s.adc.seq n).isEmpty
  let s := modAdc (fun a => { a with
    enabled := bset a.enabled n en, running := bset a.running n run, slot := bset a.slot n 0 }) s
  if en && !was then (upto 16).foldl (fun s j => settleStart (16 * n + j) 1 s) s else s

/-- The FIR-enabled channels of engine n in the order of their numbers, each with whether its 500 kS/s has room for it (R357). -/
def firRoom (s : State) (n : Nat) : List (Nat × Bool) :=
  ((upto 16).foldl (fun (acc : List (Nat × Bool) × Nat) j =>
    let g := 16 * n + j
    let c := lchOf s g
    let r := c.m * 31250 / 2 ^ c.structHb
    if !c.structFir || decide (250000 < r) then acc
    else
      let fits := decide (acc.2 + r ≤ 500000)
      (acc.1 ++ [(g, fits)], if fits then acc.2 + r else acc.2)) ([], 0)).1

/-- After a commit that raises the rates, channels for which their engine has no room go without their FIR (R357; DESIGN CHOICE, log
entry 17). -/
def firFit (s : State) : State :=
  (upto 4).foldl (fun s n => (firRoom s n).foldl (fun s p => modLch p.1 (fun c => { c with firFits := p.2 }) s) s) s

/-- ADC_SEQUENCE_START: every eighth sample tick, at whole 32 µs of the timebase count (DESIGN CHOICE, log entry 95), all
four sequences start together, the measurement channels following what is converted then; a waiting FLT_HB or FLT_FIR_EN, commits, changes of structure and a pending synchronising reset of at least 2 µs take effect
(R324, R327, R342, R346, R366, R367). -/
def execAdcSequenceStart (t : Nat) (s : State) : Host.Outcome State Fault Refusal :=
  let s := s.start t
  if s.tb % (32 * usU) != 0 || (s.adc.seqNo != 0 && s.adc.seqStart == s.tb) then done s
  else
  let s := (s.dict.held.filter fun p => ackWait p.1 == some 1).foldl (fun s p => modLch (p.1 % 256) (fun c => { c with structReq := true }) s) s
  let s := ackOwed 1 (modAdc (fun a => { a with seqStart := s.tb, seqNo := a.seqNo + 1 }) (takeHeld (fun k => ackWait k == some 1) s))
  let s := (upto 64).foldl (fun s g =>
    if (lchOf s g).structReq then
      settleStart g 4 (modLch g (fun c => { c with
        structReq := false, structHb := parN s 0x4800 g, structFir := parB s 0x4801 g }) s)
    else s) s
  let s := firFit (measAll ((upto 4).foldl seqBegin s))
  match s.adc.syncReq with
  | none => done s
  | some r =>
    if r + 2 * usU ≤ s.tb then
      done ((upto 64).foldl (fun s g => settleStart g 1 s) (modAdc (fun a => { a with syncReq := none }) s))
    else done s

/-- A synchronising reset is requested; requests merge into a pending one (R366). -/
def syncRequest (s : State) : State := modAdc (fun a => { a with syncReq := some (a.syncReq.getD s.tb) }) s

/-- SYNC_EDGE: an edge on ball SYNC of the selected polarity requests a synchronising reset (R366). -/
def execSyncEdge (t : Nat) (rise : Bool) (s : State) : Host.Outcome State Fault Refusal :=
  let s := s.start t
  let mode := parN s 0x480B 0
  done (if (mode == 1 && rise) || (mode == 2 && !rise) then syncRequest s else s)

/-! ## Reference buffer and excitation -/

/-- ADC_REF_READY changes: excitations and measurement channels follow (R336, R346). -/
def refReadySet (b : Bool) (s : State) : State :=
  if s.adc.refReady == b then s
  else excApply (modAdc (fun a => { a with refReady := b }) s)

/-- The reference buffer is enabled, the 5 ms of R335 running from now, or disabled without a log entry (R335, R336). -/
def refEnable (on : Bool) (s : State) : State :=
  let s := modAdc (fun a => { a with
    refOn := on, refFrom := if on then (if a.refOn then a.refFrom else some s.tb) else none
    refBadLog := a.refBadLog && on, refWaitGood := a.refWaitGood && on, refCheckAt := if on then a.refCheckAt else none }) s
  if on then s else refReadySet false s

/-- REFERENCE_BUFFER_CHECK: every 100 µs the buffer reads uV microvolt against the bandgap. Outside 1 percent a ready
reference ceases to be ready, with one entry per excursion, and the 5 ms of the next ready run from the first check within
0.5 percent; before the first ready they run from the enable alone (R335, R336). -/
def execReferenceBufferCheck (t : Nat) (uV : Nat) (s : State) : Host.Outcome State Fault Refusal :=
  let s := s.start t
  if !s.adc.refOn || !periodDue s.adc.refCheckAt (100 * usU) s.tb then done s
  else
    let s := modAdc (fun a => { a with refCheckAt := some s.tb }) s
    let d := ((uV : Int) - 2500000).natAbs
    if 25000 < d then
      let s := if s.adc.refBadLog then s else logNow 0x3901 noSrc 0 s
      done (refReadySet false (modAdc (fun a => { a with
        refBadLog := true, refWaitGood := a.refWaitGood || a.refReady, refFrom := if a.refReady then none else a.refFrom }) s))
    else if d ≤ 12500 then
      let s := modAdc (fun a => { a with
        refWaitGood := false, refBadLog := false, refFrom := if a.refWaitGood then some s.tb else a.refFrom }) s
      match s.adc.refFrom with
      | some f => done (if f + 5 * msU ≤ s.tb then refReadySet true s else s)
      | none => done s
    else done s

/-- EXCITATION_FAULT: what Calliope senses on EXCn, current limit and force-sense voltage in voltage mode, compliance in
current mode. Entering or leaving a fault state is an excitation change (R339, R340, R346). -/
def execExcitationFault (t : Nat) (n : Fin 8) (limited lead compliance : Bool) (s : State) :
    Host.Outcome State Fault Refusal :=
  let s := s.start t
  let x := excOf s n
  let mode := parN s 0x4410 n
  let bits_ := if !x.on then 0 else if mode = 1 then 2 * b2n limited + 4 * b2n lead else 8 * b2n compliance
  let s := modAdc (fun a => { a with exc := bmod {} a.exc n fun x => { x with fault := bits_ } }) s
  let s := if (bits_ == 0) != (x.fault == 0) then excChange n s else s
  done (if bits_ = x.fault then s else measAll s)

/-- EXC_SETTLE_END: EXC_SETTLE after a change of EXCn has passed; raw samples are no longer marked (R339, R368). -/
def execExcSettleEnd (t : Nat) (n : Fin 8) (s : State) : Host.Outcome State Fault Refusal :=
  let s := s.start t
  if (excOf s n).settling && decide ((excOf s n).settleEnd ≤ s.tb) then
    done (modAdc (fun a => { a with exc := bmod {} a.exc n fun x => { x with settling := false } }) s)
  else done s

/-! ## Loop readback and pending measurements -/

/-- Since when a condition holds. -/
def sinceWhen (old : Option Nat) (now : Nat) (holds : Bool) : Option Nat := if holds then some (old.getD now) else none

/-- A condition has held for 10 ms. -/
def held10 (f : Option Nat) (now : Nat) : Bool :=
  match f with
  | some a => decide (a + 10 * msU ≤ now)
  | none => false

/-- LOOP_READBACK_FAULT: Calliope reads LOOPn back at uA microampere; deviation and open loop are set after 10 ms and clear
with their cause; each change of either is logged. With the output off in RUN the tests are disabled (R349, R353). -/
def execLoopReadbackFault (t : Nat) (n : Fin 2) (uA : Nat) (s : State) : Host.Outcome State Fault Refusal :=
  let s := s.start t
  let l : LoopS := bget {} s.adc.loops n
  let off := s.dev == .run && parN s 0x4430 n == 0
  let dv := sinceWhen l.devFrom s.tb (!off && decide (200 < ((uA : Int) - l.uA).natAbs))
  let op := sinceWhen l.openFrom s.tb (!off && decide (uA < 500) && decide (3600 ≤ l.uA))
  let l2 := { l with meas := uA, devFrom := dv, openFrom := op, dev := held10 dv s.tb, openL := held10 op s.tb }
  let s := modAdc (fun a => { a with loops := bset a.loops n l2 }) s
  let st := loopStatus s n
  let s := if l2.dev != l.dev then logNow 0x1904 n st s else s
  done (if l2.openL != l.openL then logNow 0x1904 n st s else s)

/-- PENDING_TIMEOUT: 2 s after an ENTER_RUN out of CONFIG a measurement channel still pending becomes broken (R658). -/
def execPendingTimeout (t : Nat) (s : State) : Host.Outcome State Fault Refusal :=
  let s := s.start t
  match s.adc.runAt with
  | none => done s
  | some r =>
    if r + 2 * secU ≤ s.tb then
      let s := modAdc (fun a => { a with runAt := none }) s
      done ((upto 32).foldl (fun s m =>
        if (measOf s m).pending then measUpdate false (modMeas m (fun x => { x with late := true }) s) m else s) s)
    else done s

end Sys2Proof.Machine
end

