-- ==== Sys2Proof/Machine/Barrier.lean ====
section
/-!
DEFINITION. The isolation barrier: control frames and their acknowledgement, link failure and the spare links, and the
arbiters of the shared resources (R28 to R43, R114 to R117, R688).
-/
namespace Sys2Proof.Machine

/-- The unacknowledged frames of link bl are sent again (R116). -/
def barResend (bl : Nat) (s : State) : State :=
  let l := linkOf s bl
  if l.replay.isEmpty || !barUp s bl then s
  else
    let s := modFld (fun c => { c with retx := satAdd c.retx l.replay.length }) (modLink bl (fun l => { l with
      waitFrom := some s.tb, sent := l.replay.map fun _ => s.tb }) s)
    l.replay.foldl (fun s p => emit (.barrier (barCarrier s bl) (barFrame p.2.1.toNat p.1 p.2.2)) s) s

/-- LINK_FAILED: a link that has lost lock, or has shown no symbol for 200 ns, is declared failed; a second CRC error in a row
declares it in BARRIER_CONTROL_FRAME and FAST_OFF (R30, R33, R688). -/
def execLinkFailed (t : Nat) (bl : Fin 12) (s : State) : Host.Outcome State Fault Refusal :=
  done (linkFail bl (s.start t))

/-- SPARE_LINK_SWITCHOVER: the spare carries the failed link's traffic, and the frames sent meanwhile are retransmitted
from the replay buffer (R30, R31, R34). -/
def execSpareLinkSwitchover (t : Nat) (bl : Fin 12) (s : State) : Host.Outcome State Fault Refusal :=
  let s := s.start t
  let b : Nat := bl
  if (linkOf s b).switchUntil.isNone then done s
  else
    let s := modLink b (fun l => { l with switchUntil := none, crcRun := 0 }) s
    let s := modFld (fun c => { c with
      switchCount := satInc c.switchCount
      spareMap10 := if spareOf b = 10 then b else c.spareMap10
      spareMap11 := if spareOf b = 11 then b else c.spareMap11 }) s
    done (barResend b s)

/-- BARRIER_CONTROL_FRAME: a frame in order and with a good CRC is acknowledged; any other is discarded and answered
with a NAK that carries the SEQ of the last in-order frame; the second CRC error in a row declares the link failed. On a spare in
use the frame belongs to the link that the spare replaces (R30, R116). -/
def execBarrierControlFrame (t : Nat) (bl : Fin 12) (seq : BitVec 8) (good : Bool) (s : State) :
    Host.Outcome State Fault Refusal :=
  let s := s.start t
  let bl := barTraffic s bl
  let l := linkOf s bl
  if good && seq == l.rxSeq then
    done (barControl (barPair bl) 0x01 seq (modLink bl (fun l => { l with rxSeq := l.rxSeq + 1, crcRun := 0 }) s))
  else
    let s := if good then modLink bl (fun l => { l with crcRun := 0 }) s
      else crcError bl s
    done (barControl (barPair bl) 0x02 (l.rxSeq - 1) s)

/-- The replay buffer after an ACK of seq: frames up to it leave (R116). -/
def barAckLeft (seq : BitVec 8) (l : List (BitVec 8 × BitVec 8 × List Byte)) : List (BitVec 8 × BitVec 8 × List Byte) :=
  if l.any fun p => p.1 == seq then (l.dropWhile fun p => p.1 != seq).drop 1 else l

/-- An acknowledgement of link bl's frames up to seq; the 2 µs of R116 go on from the sending of the oldest one left. -/
def barRelease (bl : Nat) (seq : BitVec 8) (s : State) : State :=
  modLink bl (fun l =>
    let r := barAckLeft seq l.replay
    let sent := l.sent.drop (l.replay.length - r.length)
    { l with replay := r, sent := sent, waitFrom := if r.isEmpty then none else sent.head?.or l.waitFrom }) s

/-- BARRIER_ACK: the acknowledged frames leave the replay buffer (R116). -/
def execBarrierAck (t : Nat) (bl : Fin 12) (seq : BitVec 8) (s : State) : Host.Outcome State Fault Refusal :=
  done (barRelease bl seq (s.start t))

/-- BARRIER_NAK: retransmission from the first unacknowledged frame (R116). -/
def execBarrierNak (t : Nat) (bl : Fin 12) (seq : BitVec 8) (s : State) : Host.Outcome State Fault Refusal :=
  done (barResend bl (barRelease bl seq (s.start t)))

/-- BARRIER_ACK_TIMEOUT: no ACK within 2 µs of a frame starts a retransmission (R116). -/
def execBarrierAckTimeout (t : Nat) (bl : Fin 12) (s : State) : Host.Outcome State Fault Refusal :=
  let s := s.start t
  match (linkOf s bl).waitFrom with
  | none => done s
  | some f => if f + 2 * usU ≤ s.tb then done (barResend bl s) else done s

/-- FIELD_IO: Calliope receives sequencer, excitation and loop currents on BL3; the payload is kept, its fields are the
state of the converters and loop outputs themselves (R115, R289). -/
def execFieldIo (t : Nat) (payload : List Byte) (s : State) : Host.Outcome State Fault Refusal :=
  done (modFld (fun c => { c with fieldIo := payload.take 32 }) (s.start t))

/-- CFG_REQ: Calliope receives a request on BL4 and answers on BL9; what the answer carries is not published and stays
free (R28, R115, log entries 7 and 10). -/
def execCfgReq (t : Nat) (payload : List Byte) (s : State) : Host.Outcome State Fault Refusal :=
  let s := modFld (fun c => { c with cfgLast := payload.take 32 }) (s.start t)
  let (v, s) := freeBits 32 s
  done (barSend 9 0x21 (leBytes 4 v.toNat) s)

/-- CFG_RSP: the core die receives Calliope's answer (R28, R115). -/
def execCfgRsp (t : Nat) (payload : List Byte) (s : State) : Host.Outcome State Fault Refusal :=
  done (modFld (fun c => { c with rspLast := payload.take 32 }) (s.start t))

/-- The bias lies within one percent of its setpoint (R107). -/
def apdWithin (s : State) (v : Nat) : Bool :=
  decide ((10000 * (v : Int) - s.fld.apdV).natAbs * 100 ≤ s.fld.apdV.natAbs)

/-- Whether the charger of bank b runs (R89, R94, R96, R102, R609, R648). -/
def chargerRuns (s : State) (b : Nat) : Bool :=
  parB s 0x2410 0 && !(bankOf s b).chargerHold && !(bankOf s b).windowClosed && !s.fld.chargersStopped &&
    !s.fld.shutdownStop

/-- How far the reservoir of bank b lies below its target, 10 mV (R94). -/
def chargeDeficit (s : State) (b : Nat) : Nat :=
  if chargerRuns s b then (bankOf s b).vTarget - (bankOf s b).vRes else 0

/-- CHG_ILIM is shared among the banks whose chargers run, in proportion to their deficits; R94 gives neither rounding nor instants:
whole mA rounded down, shared anew at each FIELD_STAT (DESIGN CHOICE, log entry 97) (R94). -/
def chargeShares (s : State) : State :=
  let sum := nsum ((upto 4).map (chargeDeficit s))
  (upto 4).foldl (fun t b => modBank b (fun x => { x with
    iShare := if sum = 0 then 0 else parN s 0x2411 0 * chargeDeficit s b / sum }) t) s

/-- FIELD_STAT: Calliope's measurements reach the core die; a bias back within one percent is no longer out of regulation, a
current above APD_ILIM is limited, the chargers share the VHV_IN limit anew (R94, R107, R109, R115, R122). -/
def execFieldStat (t : Nat) (st : FieldStat) (s : State) : Host.Outcome State Fault Refusal :=
  let s := s.start t
  let s := (upto 4).foldl (fun s b => modBank b (fun x => { x with
    vRes := st.vres.getD b x.vRes, chgOn := chargerRuns s b }) s) s
  let s := { s with thm := { s.thm with sens := (upto 2).foldl (fun b k =>
    match st.dieT[k]? with
    | none => b
    | some v => bmod {} b (6 + k) (sensTake v s.tb)) s.thm.sens } }
  let s := chargeShares s
  let on := decide (0 < s.fld.apdTarget)
  let inside := apdWithin s st.apdV
  done (modFld (fun c => { c with
    iin := st.iin, repI := coil12 st.coilI, repV := st.vBridge, vEst := st.velocity
    vShotRep := (upto 4).map fun b => (b, st.vshot.getD b 0), wdgRep := st.wdg
    dieT := [(0, st.dieT.getD 0 0), (1, st.dieT.getD 1 0)]
    fldPower := st.power, apdVmeas := st.apdV, apdI := min st.apdI (parN s 0x2425 0), apdLimited := decide (parN s 0x2425 0 < st.apdI)
    apdReg := on && inside
    apdBad := c.apdBad && !inside
    apdBadFrom := if on && !inside then some (c.apdBadFrom.getD s.tb) else none }) s)

/-! ## Shared resources (R39 to R42) -/

/-- Class p uses resource r (R42): stamp fabric, SRAM ports, barrier links, DDR arbiter, PCIe DMA. -/
def usesRes (r p : Nat) : Bool :=
  match r with
  | 0 => p != 2
  | 1 => p != 2
  | 2 => p != 4
  | 3 => decide (3 ≤ p)
  | _ => p == 1 || p == 4 || p == 5

/-- The request of class p granted next: the lowest island above the one granted last, else the lowest (R39). -/
def roundRobin (last : Nat) (islands : List Nat) : Option Nat :=
  let s := sortBy (fun (x : Nat) => (x : Int)) islands
  match s.find? fun i => decide (last < i + 1) with
  | some i => some i
  | none => s.head?

/-- RESOURCE_GRANT: the transfer in progress has ended; new requests wait, and the pending request of the highest class
is granted, one class round robin by island (R39, R40). -/
def execResourceGrant (t : Nat) (r : Fin 5) (reqs : List (Fin 6 × Fin 132)) (s : State) :
    Host.Outcome State Fault Refusal :=
  let s := s.start t
  let a : ArbS := bget {} s.arb r
  let w := a.waiting ++ (reqs.filter fun q => usesRes r q.1).map fun q => ((q.1 : Nat), (q.2 : Nat))
  let a := match (upto 6).find? fun p => w.any fun q => q.1 == p with
    | none => { a with waiting := w, busy := none }
    | some p =>
      match roundRobin (bget 0 a.last p) ((w.filter fun q => q.1 == p).map (·.2)) with
      | none => { a with waiting := w, busy := none }
      | some i => { waiting := w.erase (p, i), last := bset a.last p (i + 1), busy := some (p, i) }
  done { s with arb := bset s.arb r a }

end Sys2Proof.Machine
end

