-- ==== Sys2Proof/Machine/Timing.lean ====
section
/-!
DEFINITION. Regression frequency measurement, PPS and time of day, encoder inputs and Scan Link marker stamps
(R147 to R157, R580).
-/
namespace Sys2Proof.Machine

/-- The timebase's users changed. -/
def modTbs (f : TbS → TbS) (s : State) : State := { s with tbs := f s.tbs }
/-- Measurement unit n. -/
def fmOf (s : State) (n : Nat) : FmS := bget {} s.tbs.fm n
/-- Measurement unit n changed. -/
def modFm (n : Nat) (f : FmS → FmS) (s : State) : State := modTbs (fun c => { c with fm := bmod {} c.fm n f }) s

/-- The sums of a fit (R147): kept events n, and over them k, k², d and k·d with d in half femtoseconds; the kept pairs
and the outliers. -/
structure Fit where
  n : Int := 0
  sk : Int := 0
  skk : Int := 0
  st : Int := 0
  skt : Int := 0
  last : Int := -1
  kept : List (Int × Int) := []
  outliers : Nat := 0
deriving Repr, DecidableEq

/-- One kept event with index k. -/
def Fit.keep (f : Fit) (k d : Int) : Fit :=
  { f with n := f.n + 1, sk := f.sk + k, skk := f.skk + k * k, st := f.st + d, skt := f.skt + k * d
           last := k, kept := f.kept ++ [(k, d)] }

/-- One event of a gate: kept, or an outlier when its index repeats or it lies more than tp / 4 away (R147); tp and d in
half femtoseconds. -/
def fitEvent (tp : Int) (f : Fit) (d : Int) : Fit :=
  let k := rdiv d tp
  if k = f.last || decide (tp < 4 * (d - k * tp).natAbs) then { f with outliers := f.outliers + 1 } else f.keep k d

/-- Half femtoseconds in a T64 unit. -/
abbrev halfFs : Int := 15625

/-- Numerator and denominator of the fitted period in half femtoseconds. -/
def Fit.num (f : Fit) : Int := f.n * f.skt - f.sk * f.st
/-- See Fit.num. -/
def Fit.den (f : Fit) : Int := f.n * f.skk - f.sk * f.sk
/-- The fitted period rounded to 1 fs (R148). -/
def Fit.period (f : Fit) : Nat := (rdiv f.num (2 * f.den)).toNat
/-- The fitted offset from the first event, T64 units, rounded. -/
def Fit.ofs (f : Fit) : Int := rdiv (f.st * f.den - f.num * f.sk) (f.n * f.den * halfFs)
/-- The sum of squared residuals, each times n · den. -/
def Fit.sq (f : Fit) : Nat :=
  nsum (f.kept.map fun p => ((p.2 * f.n * f.den - (f.st * f.den - f.num * f.sk) - f.num * f.n * p.1).natAbs) ^ 2)
/-- The denominator that goes with Fit.sq for a square in ps². -/
def Fit.sqDen (f : Fit) : Nat := f.n.toNat * (f.n * f.den).natAbs ^ 2 * 4000000
/-- rms residual, ps, rounded. -/
def Fit.rms (f : Fit) : Nat := roundSqrt f.sq f.sqDen
/-- rms at most m ps, compared exactly. -/
def Fit.within (f : Fit) (m : Nat) : Bool := decide (0 < f.den) && decide (f.sq ≤ m * m * f.sqDen)

/-- Differences of stamps to the first, half femtoseconds. -/
def fitTimes (l : List (BitVec 64)) : List Int :=
  match l with
  | [] => []
  | a :: _ => l.map fun x => halfFs * ((x - a).toInt)

/-- The fit of a gate against a period estimate in fs, 0 for the first interval (R147). -/
def fmFit (l : List (BitVec 64)) (tpFs : Nat) : Fit :=
  let d := fitTimes l
  let tp : Int := if tpFs = 0 then d.getD 1 0 else 2 * tpFs
  d.foldl (fitEvent tp) {}

/-- An event of an FM source (R148): a unit of that source takes its T64 stamp, or counts it as an outlier when it is
closer than 100 ns to the previous accepted one (R147). -/
def fmEvent (src : Nat) (stamp : BitVec 64) (s : State) : State :=
  (upto 8).foldl (fun s n =>
    if parN s 0x2830 n = src then
      modFm n (fun u =>
        match u.lastEv with
        | some l => if (stamp - l).toNat < 100 * nsU then { u with close := u.close + 1 }
            else { u with events := u.events ++ [stamp], lastEv := some stamp }
        | none => { u with events := u.events ++ [stamp], lastEv := some stamp }) s
    else s) s

/-- A new source of unit n starts its gate now (R148; DESIGN CHOICE, log entry 87). -/
def fmStart (n : Nat) (s : State) : State :=
  modFm n (fun u => { u with events := [], close := 0, lastEv := none, gateFrom := s.tb }) s

/-! ## PPS and time of day -/

/-- The correction in force, 0.01 ppb (R136). -/
def freqUsed (s : State) : Int := if parB s 0x2812 0 && s.tbs.freqOk then s.tbs.freqErr else parI s 0x2811 0

/-- A T64 load (R135, R151 to R153): the offset takes the step, and every stored T64 of the foreign-train detectors and
of the open FM gates moves with it (log entry 15). The edge that makes the load belongs to no PPS gate, as R152 does not say whether
the new gate begins with it (DESIGN CHOICE, log entry 87). -/
def t64Load (step : BitVec 64) (s : State) : State :=
  let s := { s with t64Ofs := s.t64Ofs + step }
  let s := modTbs (fun c => { c with
    ppsStep := step, loaded := true, armed := false, loads := c.loads + 1, ppsGate := [], ppsGateFrom := some s.tb
    fm := c.fm.map fun p => (p.1, { p.2 with events := p.2.events.map (· + step), lastEv := p.2.lastEv.map (· + step) }) }) s
  let s := modRj (fun r => { r with
    cands := r.cands.map fun p => (p.1, p.2.map fun c => { c with t := c.t + step })
    trains := r.trains.map fun p => (p.1, { p.2 with
      ofs := p.2.ofs + step, gateFrom := p.2.gateFrom + step
      capt := p.2.capt.map fun c => (c.1 + step, c.2) })
    pend := r.pend.map fun p => (p.1, p.2.map fun q => (q.1, q.2.map fun c => (c.1 + step, c.2))) }) s
  let s := modEe (fun e => { e with shadow := e.shadow.map fun p => (p.1, p.2.map fun u =>
    { u with trains := u.trains.map fun x => (x.1, x.2.1 + step, x.2.2) }) }) s
  let s := { s with slk := { s.slk with lanes := s.slk.lanes.map fun p => (p.1, { p.2 with
    thetas := [], deltas := [], pairs := 0, ofsValid := false
    markSent := [], markIn := none, markR := 0, markRno := 0 }) } }
  let s := modRm (fun r => { r with t64Loaded := r.t64Loaded || r.inFrame }) s
  logNow 0x0305 noSrc 0 s

/-- PPS_IN_EDGE: an active edge is stamped and accepted, or counted as a glitch within 0.8 s of the last accepted one;
an armed load takes place at the first accepted edge at least 1 ms after the arm. FM units of source 5 take every active edge
as it comes, uncompensated, glitches and edges with PPS_IN_ENABLE 0 included, as R148 does not say which it means (DESIGN CHOICE,
log entry 87) (R148, R149, R151). -/
def execPpsInEdge (t : Nat) (rise : Bool) (s : State) : Host.Outcome State Fault Refusal :=
  let s := s.start t
  let active := rise == (parN s 0x2821 0 == 0)
  let s := if active then fmEvent 5 (t64Now s) s else s
  if !parB s 0x2820 0 || !active then done s
  else
    let close := match s.tbs.ppsLastAt with
      | some l => decide (s.tb < l + 800 * msU)
      | none => false
    if close then done (modTbs (fun c => { c with glitch := satInc c.glitch }) s)
    else
      let stamp := t64Now s - BitVec.ofInt 64 (parI s 0x2822 0)
      let load := s.tbs.armed && decide (s.tbs.armedAt + msU ≤ s.tb)
      let s := modTbs (fun c => { c with
        ppsLastAt := some s.tb, ppsOk := true, ppsLast := stamp, ppsGate := c.ppsGate ++ [stamp]
        ppsGateFrom := some (c.ppsGateFrom.getD s.tb) }) s
      if load then
        let v := BitVec.ofInt 64 (parI s 0x2824 0)
        done (modTbs (fun c => { c with ppsLast := v }) (t64Load (v - stamp) s))
      else done s

/-- PPS_ARM through endpoint ep arms one load (R151). -/
def ppsArmWrite (v : Bool) (s : State) : State :=
  if v then modTbs (fun c => { c with armed := true, armedAt := s.tb }) s else s

/-- PPS_LOST: no accepted edge within 1.2 s (R149). -/
def execPpsLost (t : Nat) (s : State) : Host.Outcome State Fault Refusal :=
  let s := s.start t
  let late := match s.tbs.ppsLastAt with
    | some l => decide (l + 1200 * msU ≤ s.tb)
    | none => true
  if s.tbs.ppsOk && late then
    done (logNow 0x1304 noSrc 0 (modTbs (fun c => { c with ppsOk := false, ppsGate := [], ppsGateFrom := none }) s))
  else done s

/-- PPS_GATE_END: PPS_GATE after its start the gate's accepted edges are fitted with nominal period 1 s; an accepted fit gives
TB_FREQ_ERR. Gates follow one another, the first from the first accepted edge; an edge of the next gate waits for it (R149). -/
def execPpsGateEnd (t : Nat) (s : State) : Host.Outcome State Fault Refusal :=
  let s := s.start t
  match s.tbs.ppsGateFrom with
  | none => done s
  | some a =>
  let stop := a + parN s 0x2823 0 * secU
  if s.tb < stop then done s
  else
  let wait := (s.tbs.ppsGate.getLast?).filter fun _ => (s.tbs.ppsLastAt.map fun l => decide (stop ≤ l)).getD false
  let f := fmFit (if wait.isSome then s.tbs.ppsGate.dropLast else s.tbs.ppsGate) 1000000000000000
  let ok := s.tbs.ppsOk && decide ((parN s 0x2823 0 : Int) - 1 ≤ f.n) && f.within 1000000
  let s := modTbs (fun c => { c with ppsGate := wait.toList, ppsGateFrom := some stop }) s
  if ok then done (modTbs (fun c => { c with
      freqErr := clampI (-2147483648) 2147483647 (rdiv ((f.period : Int) - 1000000000000000) 10000)
      freqAt := s.tb, freqOk := true }) s)
  else done s

/-- FREQ_FALLBACK: 600 s without an accepted gate (R150). -/
def execFreqFallback (t : Nat) (s : State) : Host.Outcome State Fault Refusal :=
  let s := s.start t
  if s.tbs.freqOk && decide (s.tbs.freqAt + 600 * secU ≤ s.tb) then
    done (modTbs (fun c => { c with freqOk := false }) s)
  else done s

/-- PPS_OUT_PULSE: at a whole second of T64 the pulse is driven, unless it is suppressed (R154). -/
def execPpsOutPulse (t : Nat) (s : State) : Host.Outcome State Fault Refusal :=
  let s := s.start t
  let soon := match s.tbs.ppsOutAt with
    | some l => decide (s.tb < l + (parN s 0x282B 0 + 10) * msU)
    | none => false
  if parB s 0x282A 0 && (t64Now s).toNat % secU == 0 && !soon then
    done (emit (.ball "PPS_OUT" (parN s 0x282B 0)) (modTbs (fun c => { c with ppsOutAt := some s.tb }) s))
  else done s

/-- T64_WRAP: T64 is a count modulo 2^64, so the wrap changes nothing else (R12). -/
def execT64Wrap (t : Nat) (s : State) : Host.Outcome State Fault Refusal := done (s.start t)

/-- TIMEBASE_LOCK_HELD: lock held for 1 s removes the SAFE cause and ends the inhibit (R447, R687). -/
def execTimebaseLockHeld (t : Nat) (s : State) : Host.Outcome State Fault Refusal :=
  let s := s.start t
  if s.tbs.lock && decide (s.tbs.lockAt + secU ≤ s.tb) then done (uninhibit .tbLoss (safeClear .tbLoss s))
  else done s

/-- TIME_MARKER, at a receiver that is awake (R594): an arriving K28.1 is stamped as r, awaits the TIME packet with its number, and is given to the FM units
(R148, R580, R581). -/
def execTimeMarker (t : Nat) (lane : Fin 8) (s : State) : Host.Outcome State Fault Refusal :=
  let s := s.start t
  if (laneOf s lane).rxSleep then done s
  else
  let s := modLane lane (fun l => { l with markIn := some (t64Now s) }) s
  done (fmEvent (6 + lane) (t64Now s) s)

/-! ## Encoder -/

/-- Role of ENCn (R155). -/
def encRole (s : State) (n : Nat) : Nat := parN s 0x2840 n

/-- A mark-A edge counts up: the level of mark B differs from mark A's new level, or no input has role B (which level
counts up is a DESIGN CHOICE, log entry 14). -/
def encUp (s : State) (rise : Bool) : Bool :=
  match (upto 4).find? fun k => encRole s k == 2 with
  | some k => bget false s.tbs.encLevel k != rise
  | none => true

/-- The mark count, I16: it wraps on overflow, where R156 names neither wrapping nor saturation (DESIGN CHOICE, log entry 87). -/
def wrap16 (v : Int) : Int := signed 16 ((v % 65536).toNat)

/-- An edge of input n accepted with the stamp of its transition: it steps or sets the mark count by its role, and waits for
the LCE with the count after it (R155, R156). -/
def encAccept (n at_ : Nat) (rise : Bool) (s : State) : State :=
  let s := fmEvent (1 + n) (t64At s at_) s
  let s := modTbs (fun c => { c with encLevel := bset c.encLevel n rise }) s
  let act := s.rm.inFrame && decide (s.rm.frameStart ≤ at_) && decide (at_ < s.rm.frameStart + s.rm.nAct * 8 * s.rm.pNs * nsU)
  let s := match encRole s n with
    | 1 => modTbs (fun c => { c with
        encCount := wrap16 (c.encCount + if encUp s rise then 1 else -1)
        encMarks := if act then c.encMarks + 1 else c.encMarks }) s
    | 3 => modTbs (fun c => { c with encCount := parI s 0x2843 0, encIndexSeen := true }) s
    | _ => s
  modTbs (fun c => { c with encQueue := c.encQueue ++ [(at_, n, rise, c.encCount)] }) s

/-- ENC_FILTER in T64 units. -/
def encStable (s : State) : Nat := parN s 0x2841 0 * 10 * nsU

/-- The transitions whose level has stayed for ENC_FILTER are accepted, in time order; an input back at its old level has had no
edge (R155). -/
def encSettle (s : State) : State :=
  let due := sortBy (fun (p : Nat × Nat × Bool) => (p.2.1 : Int)) (s.tbs.encPend.filter fun p => decide (p.2.1 + encStable s ≤ s.tb))
  due.foldl (fun s p =>
    let s := modTbs (fun c => { c with encPend := bdel c.encPend p.1 }) s
    if bget false s.tbs.encLevel p.1 == p.2.2 then s else encAccept p.1 p.2.1 p.2.2 s) s

/-- The end of the gate of unit n: FM_GATE after its start, a whole gate follows another (R147). -/
def fmGateEnd (s : State) (n : Nat) : Nat := (fmOf s n).gateFrom + parN s 0x2831 n * msU

/-- FM_GATE_END: FM_GATE after its start the gate is fitted and accepted or rejected; a rejection keeps the last period and
makes the next gate start from its first interval. Events from the end on belong to the next gate (R147, R148). -/
def execFmGateEnd (t : Nat) (n : Fin 8) (s : State) : Host.Outcome State Fault Refusal :=
  let s := encSettle (s.start t)
  let u := fmOf s n
  let stop := fmGateEnd s n
  if parN s 0x2830 n = 0 || s.tb < stop then done s
  else
  let inGate := fun (e : BitVec 64) => decide ((e - t64At s stop).toInt < 0)
  let f := fmFit (u.events.filter inGate) (u.est.getD (parN s 0x2832 n))
  let ok := decide ((parN s 0x2833 n : Int) ≤ f.n) && f.within (parN s 0x2834 n)
  done (modFm n (fun u => { u with
    events := u.events.filter (fun e => !inGate e), close := 0, gateFrom := stop
    rms := BitVec.ofNat 32 (min 0xFFFFFFFF f.rms)
    n := BitVec.ofNat 16 (min 0xFFFF f.n.toNat)
    outliers := BitVec.ofNat 16 (min 0xFFFF (f.outliers + u.close))
    valid := ok
    period := if ok then BitVec.ofNat 64 f.period else u.period
    est := if ok then some f.period else some 0 }) s)

/-- ENC_EDGE: input n goes to a level at this instant; the edge is accepted once the level has stayed for ENC_FILTER, with this
instant as its stamp, and a transition that did not stay is dropped (R155, R156). -/
def execEncEdge (t : Nat) (n : Fin 4) (rise : Bool) (s : State) : Host.Outcome State Fault Refusal :=
  let s := encSettle (s.start t)
  done (encSettle (modTbs (fun c => { c with encPend := bset c.encPend n (s.tb, rise) }) s))

/-- ENC_STATUS at a frame start: the previous frame had no index edge, or a wrong number of mark-A edges (R157). -/
def encFrameStart (s : State) : State :=
  let s := encSettle s
  modTbs (fun c => { c with
    encStatus := BitVec.ofNat 8 (b2n (!c.encIndexSeen) + 2 * b2n (c.encMarks != 2 * parN s 0x2842 0))
    encIndexSeen := false, encMarks := 0 }) s

end Sys2Proof.Machine
end

