-- ==== Sys2Proof/Machine/EchoMath.lean ====
section
/-!
DEFINITION. Conversion of stamps and the echo engines' formulas: tap tables, pulses, amplitude, leading edge, range,
intensity, confidence and precision (R137 to R139, R164 to R170, R193 to R196, R242).
-/
namespace Sys2Proof.Machine

/-! ## Tap tables (R137, R227, R244) -/

/-- Delay line l. -/
def lineOf (s : State) (l : Nat) : LineS := bget {} s.ts.lines l
/-- Delay line l changed. -/
def modLine (l : Nat) (f : LineS → LineS) (s : State) : State := modTs (fun c => { c with lines := bmod {} c.lines l f }) s
/-- Width of tap j of a line's table in force, the production table where none is committed. -/
def tapW (s : State) (l j : Nat) : Nat :=
  match (lineOf s l).table with
  | some t => t.w.getD j 0
  | none => Config.prodTap l j
/-- L_build of a line's table in force, 1/64 tap. -/
def tapLen (s : State) (l : Nat) : Nat :=
  match (lineOf s l).table with
  | some t => t.len
  | none => Config.prodLen l
/-- sigma_tap of a line's table in force, 0.1 ps. -/
def tapSigma (s : State) (l : Nat) : Nat :=
  match (lineOf s l).table with
  | some t => t.sig
  | none => Config.prodSigma l
/-- Replica length of the input that line l belongs to, 1/64 tap. -/
def spanLen (s : State) (l : Nat) : Nat :=
  if l < 768 then (chanOf s (l / 3)).span else bget 0 s.ts.spanMon ((l - 768) / 3)

/-- Replica length that holds for the stamps of line l, 1/64 tap: the one in force at the start of the shot (R138). -/
def spanUsed (s : State) (l : Nat) : Nat :=
  if l < 768 then (chanOf s (l / 3)).spanUse else bget 0 s.ts.spanMonUse ((l - 768) / 3)

/-- The time of an edge in 1/4096 T64 unit: the first 4 GHz counter edge after instant t, less the delay of c taps. R137
gives no working precision: 1/4096 unit, the quotient rounded down (DESIGN CHOICE, log entry 13) (R137, R138). -/
def stampFx (s : State) (l t c : Nat) : Int :=
  let sum := nsum ((upto c).map fun j => tapW s l j)
  (131072 * (t / 32 + 1) : Nat) - ((tapLen s l * (2 * sum + tapW s l c) / max (spanUsed s l) 1 : Nat) : Int)

/-! ## Noise (R194 to R196) -/

/-- Crossing rate as N and T of threshold k; (0, 1) until T reaches 10 µs (R194). -/
def ambRate (c : ChanS) (k : Nat) : Nat × Nat :=
  let tt := c.ambT.getD k 0
  if tt < 10000 * one32 then (0, 1) else (c.ambN.getD k 0, tt)

/-- ν0 of R195 over a rate N / T per ns: numerator and denominator, the denominator 0 when the rate is 0. -/
def nuOver (c : ChanS) (k : Nat) : Nat × Nat := let r := ambRate c k; (289 * r.2, 1000 * r.1)

/-- Front-end noise of a bank, 1/65536 mV (R195). -/
def frontNoise (s : State) (b : Nat) : Nat :=
  match parN s 0x2800 b with
  | 0 => 18350
  | 1 => 25559
  | _ => 36700

/-- σ_n of channel c, 1/65536 mV (R195). -/
def sigmaN (s : State) (c : Nat) : Nat :=
  let x := chanOf s c
  let (num, den) := nuOver x 0
  let fe := frontNoise s (c / 64)
  if den = 0 then fe
  else
    let l := if num < 2 * den then ln2 else (lnQ num den).toNat
    let v := x.ambC.getD 0 0 * 65536 / max (x.ambT.getD 0 0) 1
    max fe (v * one32 / max (sqrt32 (2 * l)) 1)

/-- σ × √(2 ln(ν0 / rate)), mV rounded (R197, R222). -/
def codeForRate (sigma rate : Nat) : Nat :=
  (rdiv ((sigma * sqrt32 (2 * (lnQ 289000000 rate).toNat) : Nat) : Int) ((65536 * one32 : Nat) : Int)).toNat

/-! ## Walk tables (R165, R237) -/

/-- Entry i of the echo-mode set of channel c: offset, 65 rise points, 65 fall points (1/16 unit), sigma_ofs (0.1 ps). -/
def walkV (s : State) (c i : Nat) : Int :=
  match (chanOf s c).setEcho with
  | some l => l.getD i 0
  | none => Config.noWalk c i

/-- The top of the fraction scale: x = 2^(-6 + 6 p / (64 · 65536)) at position p. -/
abbrev pTop : Nat := 4194304

/-- A tabled function at position p, in 1/4096 unit, linear between points. -/
def walkAt (s : State) (c base p : Nat) : Int :=
  let i := min (p / 65536) 63
  let f : Int := p - 65536 * i
  (walkV s c (base + i) * (65536 - f) + walkV s c (base + i + 1) * f) / 256

/-- τ_r at position p. -/
def tauR (s : State) (c p : Nat) : Int := walkAt s c 1 p
/-- w at position p. -/
def widthAt (s : State) (c p : Nat) : Int := walkAt s c 66 p - walkAt s c 1 p

/-- The position with w(x) = w, in 1/4096 unit: 0 for a wider pulse, the top for a narrower one (R165). -/
def posOfWidth (s : State) (c : Nat) (w : Int) : Nat :=
  if widthAt s c 0 ≤ w then 0
  else
    match (upto 64).find? fun i => decide (widthAt s c (65536 * (i + 1)) < w) with
    | none => pTop
    | some i =>
      let a := widthAt s c (65536 * i)
      let b := widthAt s c (65536 * (i + 1))
      65536 * i + (rdiv (65536 * (a - w)) (a - b)).toNat

/-- The position of the fraction V / A, from logarithms with 32 fraction bits, held to the table. -/
def posOfLog (lv la : Int) : Nat :=
  (clampI 0 pTop ((lv - la + 6 * one32) * pTop / (6 * one32))).toNat

/-! ## Pulses (R164 to R167) -/

/-- The crossings of one pulse: first rise and its fall at the low, mid and high threshold, TIME units. -/
structure Pulse where
  r : List (Option Nat) := []
  f : List (Option Nat) := []
  truncated : Bool := false
deriving Repr, DecidableEq

/-- Edges of a threshold in time order, leading falls dropped and blanked stamps left out (R164, R204). -/
def edgesOf (l : List Stamp) (k : Nat) : List (Bool × Nat) :=
  ((l.filter fun x => !x.fblank && !x.guard && x.thr == k).map fun x => (x.rise, x.time)).dropWhile fun e => !e.1

/-- The low-threshold pulses: rise and the next fall. -/
def lowPulses : List (Bool × Nat) → Option Nat → List (Nat × Option Nat)
  | [], none => []
  | [], some a => [(a, none)]
  | (true, t) :: r, none => lowPulses r (some t)
  | (true, _) :: r, some a => lowPulses r (some a)
  | (false, _) :: r, none => lowPulses r none
  | (false, t) :: r, some a => (a, some t) :: lowPulses r none

/-- First rise of a threshold within a pulse and the fall that follows it; where a pulse holds several rises, R164 does not say
which counts: DESIGN CHOICE, log entry 88. -/
def crossing (es : List (Bool × Nat)) (lo : Nat) (hi : Option Nat) : Option Nat × Option Nat :=
  let es := es.filter fun e => decide (lo ≤ e.2) && (match hi with
    | some h => decide (e.2 ≤ h)
    | none => true)
  match es.dropWhile fun e => !e.1 with
  | [] => (none, none)
  | (_, t) :: r => (some t, (r.find? fun e => !e.1).map (·.2))

/-- The pulses of a channel-shot, at most 16 (R164). -/
def pulsesOf (l : List Stamp) : List Pulse :=
  let m := edgesOf l 1
  let h := edgesOf l 2
  ((lowPulses (edgesOf l 0) none).take 16).map fun (a, b) =>
    let (mr, mf) := crossing m a b
    let (hr, hf) := crossing h a b
    { r := [some a, mr, hr], f := [b, mf, hf], truncated := b.isNone }

/-- One pulse measured (R165 to R170): leading edge in 1/4096 unit, amplitude in 1/65536 mV, whether saturated, the rises
used (threshold, position), low width and reference width in 1/4096 unit, TIME of the low rise and of its end. -/
structure Echo where
  t0 : Int := 0
  a : Nat := 0
  sat : Bool := false
  used : List (Nat × Nat) := []
  single : Bool := false
  wL : Int := 0
  wRef : Int := 0
  from_ : Nat := 0
  to_ : Nat := 0
deriving Repr, DecidableEq

/-- The linear range at the TIA output: 1,000 mV at every gain (R125, R166). -/
abbrev linearMv : Nat := 1000

/-- log2 of A that solves τ_r(V_k / A) - τ_r(V_low / A) = d, by bisection between V_k and 64 V_low (R165). -/
def solveA (s : State) (c : Nat) (lvl lvk d : Int) : Nat → Int → Int → Int
  | 0, lo, _ => lo
  | n + 1, lo, hi =>
    let m := (lo + hi) / 2
    if d < tauR s c (posOfLog lvk m) - tauR s c (posOfLog lvl m) then solveA s c lvl lvk d n m hi
    else solveA s c lvl lvk d n lo m

/-- A pulse of channel c under threshold codes thr, measured; wEnd is the window's end (R165 to R167, R169). -/
def measure (s : State) (c : Nat) (thr : List Nat) (wEnd : Nat) (p : Pulse) : Echo :=
  let v := fun k => max (thr.getD k 1) 1
  let lv := fun k => log2Q (v k) 1
  let r := fun k => (p.r.getD k none).getD 0
  let ks := (upto 3).filter fun k => (p.r.getD k none).isSome
  let low := r 0
  let stop := (p.f.getD 0 none).getD wEnd
  let widths := ks.filterMap fun k => (p.f.getD k none).map fun f => (k, (4096 * ((f : Int) - (r k : Nat)) : Int))
  let wide := widths.any fun w => decide (widthAt s c 0 < w.2)
  let single := p.truncated && ks.length == 1
  let la : Int :=
    if single then lv 0 + one32
    else if p.truncated then
      let k := ks.getD 1 1
      solveA s c (lv 0) (lv k) (4096 * ((r k : Int) - (r 0 : Int))) 40 (lv k) (lv 0 + 6 * one32)
    else 0
  let a0 : Nat :=
    if p.truncated then exp2 la / 65536
    else
      let l := widths.map fun w => v w.1 * exp2 ((6 * (pTop : Int) - 6 * posOfWidth s c w.2) * one32 / pTop) / 65536
      nsum l / max l.length 1
  let sat := wide || decide (linearMv * 65536 < a0)
  let a := if sat then linearMv * 65536 else a0
  let lga := log2Q a 65536
  let used := if single then [(0, 3495253)] else (if sat then [0] else ks).map fun k => (k, posOfLog (lv k) lga)
  let t0 := rdiv (isum (used.map fun u => 4096 * (r u.1 : Int) - tauR s c u.2)) used.length
  { t0 := t0, a := a, sat := sat, used := used, single := single
    wL := 4096 * ((stop : Int) - low), wRef := widthAt s c (posOfLog (lv 0) lga), from_ := low, to_ := stop }

/-! ## Range and quality (R168, R170, R242) -/

/-- RNG_INDEX plus 10^7. -/
def rngIdx (s : State) : Nat := 10000000 + parN s 0x2C10 0

/-- RANGE from t_0 less the offset, both in 1/4096 unit; none for an invalid echo (R168). -/
def rangeOf (s : State) (t0 ofs : Int) : Option Nat :=
  let num := (t0 - ofs) * 100000000000 * 78125 * 299792458
  let den := (100000000000 + freqUsed s) * 4096 * 500000 * (rngIdx s : Int)
  if num ≤ 0 || 2097148 * den ≤ num then none
  else
    let r := (rdiv num den).toNat
    if r = 0 then none else some r

/-- OFS_chan of the echo mode, 1/4096 unit. -/
def ofsEcho (s : State) (c : Nat) : Int := 256 * walkV s c 0

/-- Entry i of the histogram-mode set of channel c: offset, 32 walk points (1/16 unit), sigma_ofs. -/
def walkH (s : State) (c i : Nat) : Int :=
  match (chanOf s c).setHist with
  | some l => l.getD i 0
  | none => Config.noWalk c (1000 + i)

/-- INTENS (R170): strength num / den in µA or counts, RANGE, energy in pJ. -/
def intensOf (s : State) (b num den range ePj : Nat) : Nat :=
  let k := parFx s 0x2C11 b
  (clampI 0 4095 (rdiv (1000000 * k.m * (num * range * range : Nat)) ((2 ^ k.s * den * 16000000 * ePj : Nat)))).toNat

/-- σ_cal of channel c, 0.1 ps (R242). -/
def sigmaCal (s : State) (c : Nat) (hist stale : Bool) : Nat :=
  let tap := tapSigma s (3 * c)
  let ofs := (if hist then walkH s c 33 else walkV s c 131).natAbs
  let st := if stale then 10 * parN s 0x3406 0 else 0
  isqrt (tap * tap + ofs * ofs + st * st)

/-- SIGMA from σ_t² in (1/4096 unit)² and σ_cal in 0.1 ps (R170). -/
def sigmaOf (s : State) (t2 cal : Nat) : Nat :=
  let u := cal * 524288 / 10000
  let q := isqrt (t2 + u * u)
  (clampI 0 63 (rdiv ((q * 78125 * 299792458 : Nat) : Int) ((8192 * 500000 * rngIdx s : Nat) : Int))).toNat

/-- σ_t² of an echo, (1/4096 unit)²: noise over the slope at each crossing used (R170). -/
def sigmaT2 (s : State) (c : Nat) (thr : List Nat) (e : Echo) : Nat :=
  let sn := sigmaN s c
  let l := e.used.map fun (k, p) =>
    let i := min (p / 65536) 63
    let d := (walkV s c (2 + i) - walkV s c (1 + i)).natAbs
    (sn * d * one32 / (24 * ln2 * max (thr.getD k 1) 1)) ^ 2
  nsum l / max (e.used.length * e.used.length) 1

/-- Echo mode: ranges of the pulses of a channel-shot, 0.25 mm, invalid ones left out (R168, R209). -/
def pulseRanges (s : State) (c wEnd : Nat) (thr : List Nat) (l : List Stamp) : List Nat :=
  (pulsesOf l).filterMap fun p => rangeOf s (measure s c thr wEnd p).t0 (ofsEcho s c)

end Sys2Proof.Machine
end

