-- ==== Sys2Proof/Machine/Calliope.lean ====
section
/-!
DEFINITION. Calliope's gate faults, charging, monitors, APD bias and mirror bridge (R89 to R113).
-/
namespace Sys2Proof.Machine

/-! ## Gates and charging -/

/-- GATE_FAULT: the bank's charger and top-up stop, every gate is held low until a FULL reset, firing is inhibited and
the device enters SAFE (R89). -/
def execGateFault (t : Nat) (em : Fin 32) (s : State) : Host.Outcome State Fault Refusal :=
  let s := s.start t
  let s := modBank (em.val / 8) (fun b => { b with chargerHold := true, topHold := true }) s
  let s := statSend (modFld (fun c => { c with gateHold := true }) s)
  done (logNow 0x4204 (dieF + em) 0 (safeCause .gateFault (inhibit .gateFault s)))

/-- Top-ups of bank b run: a stopped charger leaves them running from the reservoir (R89, R94, R96, R112). -/
def topUpRuns (s : State) (b : Nat) : Bool :=
  !(bankOf s b).topHold && !(bankOf s b).windowClosed && !s.fld.wdgTripped

/-- TOP_UP: 50 ns after a gate pulse the shot capacitor is topped up from the reservoir, unless top-ups are stopped
(R93). -/
def execTopUp (t : Nat) (b : Fin 4) (s : State) : Host.Outcome State Fault Refusal :=
  let s := s.start t
  if topUpRuns s b && decide ((bankOf s b).gateUntil + 50 * nsU ≤ s.tb) then
    done (emit (.ball "TOPDRV" b) (modBank b (fun x => { x with topUpAt := s.tb }) s))
  else done s

/-! ## Charging window -/

/-- CHARGING_WINDOW_REOPEN: after 100 ms with margin on every condition the window of the bank opens again, from the next phase
commit (R97). -/
def execChargingWindowReopen (t : Nat) (b : Fin 4) (s : State) : Host.Outcome State Fault Refusal :=
  let s := s.start t
  match (bankOf s b).windowOkAt with
  | none => done s
  | some f =>
    if (bankOf s b).windowClosed && decide (f + 100 * msU ≤ s.tb) then
      done (modBank b (fun x => { x with reopen := true }) s)
    else done s

/-! ## Monitors -/

/-- MON_TIMEOUT in T64 units. -/
def monTimeout (s : State) : Nat := parN s 0x2405 0 * nsU

/-- An instant lies within [nominal edge - 20 ns, nominal edge + MON_TIMEOUT] of the bank's shot (R99, R102). -/
def monInterval (s : State) (b : BankS) : Bool :=
  match b.fired.or b.shot with
  | none => false
  | some sh => decide (sh.edge ≤ s.tb + 20 * nsU) && decide (s.tb ≤ sh.edge + monTimeout s)

/-- EMITTER_FAILED: after MON_MISS_LIMIT consecutive misses the emitter's bit in MON_FAILED is set (R101). -/
def execEmitterFailed (t : Nat) (em : Fin 32) (s : State) : Host.Outcome State Fault Refusal :=
  let s := s.start t
  if decide (parN s 0x2406 0 ≤ bget 0 s.fld.monMiss em) && !s.fld.monFailed.getLsbD em then
    done (logNow 0x2206 em 0 (modFld (fun c => { c with monFailed := c.monFailed ||| BitVec.ofNat 32 (2 ^ em.val) }) s))
  else done s

/-- UNPLANNED_EMISSION: a monitor high crossing outside every shot's interval stops the bank's charger, inhibits firing
and sends the device to SAFE; only the bank's first after a FULL reset is logged (R102). -/
def execUnplannedEmission (t : Nat) (b : Fin 4) (s : State) : Host.Outcome State Fault Refusal :=
  let s := s.start t
  let x := bankOf s b
  if monInterval s x then done s
  else
    let s := modBank b (fun x => { x with chargerHold := true, unplannedLogged := true }) s
    let s := safeCause .unplanned (inhibit .unplanned s)
    done (if x.unplannedLogged then s else logNow 0x4205 b 0 s)

/-! ## APD bias -/

/-- APD_OUT_OF_REGULATION: bias outside one percent for more than 1 ms; logged once per event, CONF is 0 while it lasts
(R107). -/
def execApdOutOfRegulation (t : Nat) (s : State) : Host.Outcome State Fault Refusal :=
  let s := s.start t
  match s.fld.apdBadFrom with
  | none => done s
  | some f =>
    if s.fld.apdBad || decide (s.fld.apdTarget ≤ 0) || decide (s.tb ≤ f + msU) then done s
    else done (logNow 0x2208 noSrc 0 (modFld (fun c => { c with apdBad := true, apdReg := false }) s))

/-! ## Mirror bridge -/

/-- The injection that runs or waits ends at once with a status, no law adding more of it (R316, R318). -/
def injEnd (status : Nat) (s : State) : State :=
  if s.lce.injRun || s.lce.injWait then
    modLce (fun l => { l with injRun := false, injWait := false, injStatus := status
                              laws := l.laws.map fun p => (p.1, { p.2 with inj := 0 })
                              mode := if l.mode = 3 then (if l.inUse = 0 then 0 else 1) else l.mode }) s
  else s

/-- The mirror mode changes; the open frame keeps its highest code (R266). -/
def mirMode (m : Nat) (s : State) : State :=
  modRm (fun r => { r with mirrorWorst := max r.mirrorWorst m }) (modLce (fun l => { l with mode := m }) s)

/-- Calliope switches the bridge to high impedance. -/
def bridgeOff (s : State) : State := modFld (fun c => { c with bridgeOn := false, duty := 0 }) s

/-- BRIDGE_TRIP: over-current or undervoltage switches the bridge off; the LCE inhibits firing, enters mode 4 and plans
one re-enable, and a second trip within 1 s of it latches mode 4; an injection stops (R111, R312, R318). -/
def execBridgeTrip (t : Nat) (oc uv : Bool) (s : State) : Host.Outcome State Fault Refusal :=
  let s := s.start t
  if !(oc || uv) || !s.fld.bridgeOn then done s
  else
  let s := modFld (fun c => { c with bridgeOc := c.bridgeOc || oc, bridgeUv := c.bridgeUv || uv, brgTripAt := s.tb }) s
  let second := match s.fld.brgReAt with
    | some f => decide (s.tb < f + secU)
    | none => false
  let s := statSend (bridgeOff (injEnd 3 s))
  let s := mirMode 4 (inhibit .bridge s)
  let s := modFld (fun c => { c with brgRePend := !second }) s
  done (modLce (fun l => { l with mode4At := s.tb, latched := l.latched || second
                                  restartWait := false, restartFrame := false }) s)

/-- COIL_R × i + COIL_L × di/dt subtracted from the bridge voltage, as velocity in degree/s: voltages in mV, the coil
current in Q15 of 3.0 A, samples 1 µs apart. R112 gives no working precision: whole mA, mV and degree/s, each rounded (DESIGN
CHOICE, log entry 13) (R109, R112). -/
def bemfVelocity (s : State) (vBridge i iPrev : Int) : Int :=
  let mA := rdiv (3000 * i) 32768
  let dmA := rdiv (3000 * (i - iPrev)) 32768
  let e := vBridge - rdiv ((parN s 0x2441 0 : Int) * mA) 1000 - (parN s 0x2442 0 : Int) * dmA
  rdiv (fxMul (parFx s 0x2443 0) e) 1000

/-- BACK_EMF_ESTIMATE: every 1 µs the velocity from the back-EMF is compared with the last predicted one, and reported (R28, R112). -/
def execBackEmfEstimate (t : Nat) (vBridge i : Int) (s : State) : Host.Outcome State Fault Refusal :=
  let s := s.start t
  if s.tb < s.fld.bemfAt + usU then done s
  else
  let i := coil12 i
  let v := bemfVelocity s vBridge i s.fld.coilI
  let out := decide (parN s 0x2444 0 < (v - s.fld.vPred).natAbs)
  done (statSend <| modFld (fun c => { c with
    coilIprev := c.coilI, coilI := i, vBridge := vBridge, vEst := v
    bemfAt := s.tb, bemfRun := if out then c.bemfRun + 1 else 0 }) s)

/-- The mirror watchdog trips: gates held low, top-ups stopped, latched until LCE_REARM (R112, R113, R313). -/
def watchdogTrip (s : State) : State :=
  if s.fld.wdgTripped then s
  else modLce (fun l => { l with wdgFrame := false }) (inhibit .watchdog (statSend (modFld (fun c => { c with wdgTripped := true }) s)))

/-- MIRROR_WATCHDOG_TRIP: eight estimates outside WDG_BAND, or two output releases without an LCE_OUT frame (R112). -/
def execMirrorWatchdogTrip (t : Nat) (s : State) : Host.Outcome State Fault Refusal :=
  let s := s.start t
  if decide (8 ≤ s.fld.bemfRun) || decide (2 ≤ s.fld.lceMissed) then done (watchdogTrip s) else done s

/-- LCE_REARM: Calliope re-enables the bridge, unless the LCE keeps it off in mirror mode 4, and re-arms the watchdog, whose inhibit
ends (R28, R111, R113, R290, R312, R313, R687, R690). -/
def execLceRearm (t : Nat) (s : State) : Host.Outcome State Fault Refusal :=
  let s := s.start t
  let on := parB s 0x4024 0 && (s.dev == .config || s.dev == .run || s.dev == .safe) && s.lce.mode != 4
  done (uninhibit .watchdog <| statSend (modFld (fun c => { c with
    bridgeOn := on, bridgeOc := false, bridgeUv := false, wdgTripped := false, bemfRun := 0, lceMissed := 0 }) s))

/-- LCE_OUT: duty, predicted velocity, charge limits, bias code and heater duty arrive on BL2 and wait for the output
release (R110, R112, R289). -/
def execLceOut (t : Nat) (duty vel : Int) (vch : List Nat) (bias htr : Nat) (s : State) :
    Host.Outcome State Fault Refusal :=
  let s := s.start t
  done (modFld (fun c => { c with
    dutyNext := clampI (-2048) 2047 duty, vPredNext := vel, vchNext := vch, biasNext := bias, htrNext := htr,
    lceSeen := true }) s)

end Sys2Proof.Machine
end

