-- ==== Sys2Proof/Machine/MirrorOps.lean ====
section
/-!
DEFINITION. The mirror: azimuth and set-point, trajectory, prediction, feedback out of service, closing the loop and the
steps the LCE takes at a frame start (R74, R79, R295 to R297, R300, R305 to R313, R687, R689, R690).
-/
namespace Sys2Proof.Machine

/-! ## Azimuth and set-point -/

/-- Mirror position in Q15 with 16 fraction bits to azimuth with 16 fraction bits, without the offset (R295). -/
def azSpan (s : State) (th : Int) : Int :=
  let g := parFx s 0x4001 0
  rdiv (g.m * th * (2 * parN s 0x4000 0 : Nat)) ((32768 * 2 ^ g.s : Nat) : Int)

/-- Azimuth of a mirror position in Q15 with 16 fraction bits, rounded (R295). -/
def azOfTheta (s : State) (th : Int) : Int := rdiv (azSpan s th) 65536 + parI s 0x4002 0

/-- The mirror position, in 1 / unit of Q15, of an azimuth with 16 fraction bits: R295 inverted. -/
def thetaRaw (s : State) (unit : Nat) (az : Int) : Int :=
  let g := parFx s 0x4001 0
  rdiv ((az - 65536 * parI s 0x4002 0) * (32768 * 2 ^ g.s * unit : Nat)) (65536 * g.m * (2 * parN s 0x4000 0 : Nat))

/-- The mirror position of an azimuth held to Q15. -/
def thetaOfAz (s : State) (az : Int) : Int := clampQ15 (thetaRaw s 1 az)

/-- The position estimate at instant t, Q15 with 16 fraction bits (R300). -/
def estAt (s : State) (t : Nat) : Int :=
  65536 * s.lce.thEst + rdiv (s.lce.vModel * ((t : Int) - s.lce.tickAt)) 512000

/-- AZ of a beam at instant t, and whether it was clamped (R252, R295, R300). -/
def azAt (s : State) (t : Nat) : Int := azOfTheta s (estAt s t)

/-- A clamped azimuth counts in LCE_SAT (R295). -/
def azCount (az : Int) (s : State) : State :=
  if az = clampAz az then s else modLce (fun l => { l with sat := satInc l.sat }) s

/-! ## Trajectory (R296, R689) -/

/-- The fraction x / d at rest at both ends: 10u³ - 15u⁴ + 6u⁵, as numerator and denominator. -/
def restNum (x d : Int) : Int := 10 * x ^ 3 * d ^ 2 - 15 * x ^ 4 * d + 6 * x ^ 5

/-- The set-point of a frame x T64 units after its start, azimuth with 16 fraction bits (R296). -/
def trajAt (f : FrameP) (x : Int) : Int :=
  let act : Int := max (f.nAct * 8 * f.p * nsU) 1
  let fly : Int := max ((f.nCyc - f.nAct) * 8 * f.p * nsU) 1
  let d := f.az1 - f.az0
  if x < act then 65536 * f.az0 + rdiv (65536 * d * x) act
  else
    let y := x - act
    65536 * f.az1 + rdiv (65536 * d * y) act + rdiv (65536 * (-d * act - d * fly) * restNum y fly) (act * fly ^ 5)

/-- The open frame's parameters with the trajectory in force. -/
def frameNow (s : State) : FrameP :=
  { p := s.rm.pNs, w := s.rm.wNs, g := s.rm.gEff, d := s.rm.dNs, nCyc := s.rm.nCyc, nAct := s.rm.nAct
    az0 := s.lce.zs0, az1 := s.lce.zs1 }

/-- Length of a move to AZ_START (R689): 100 ms. -/
abbrev moveLen : Nat := 100 * msU

/-- The azimuth that sets the mirror at instant t, with 16 fraction bits: MIR_PARK in mode 2, a frame's trajectory, else AZ_START
(R296, R310, R689). -/
def setAz (s : State) (t : Nat) : Int :=
  if s.lce.mode = 2 then 65536 * parI s 0x4005 0
  else if s.rm.inFrame then trajAt (frameNow s) ((t : Int) - s.rm.frameStart)
  else 65536 * parI s 0x4003 0

/-- The set-point at instant t in Q15 (R296, R310, R689). -/
def setPointAt (s : State) (t : Nat) : Int :=
  let goal := thetaOfAz s (setAz s t)
  if s.lce.mode = 2 || s.rm.inFrame then goal
  else
    match s.lce.moveFrom with
    | some (a, from_) =>
      if t < a + moveLen then from_ + rdiv ((goal - from_) * restNum ((t : Int) - a) moveLen) ((moveLen : Int) ^ 5) else goal
    | none => goal

/-- The set-point at instant t in Q15 with 16 fraction bits. -/
def setFine (s : State) (t : Nat) : Int :=
  if s.lce.mode = 2 || s.rm.inFrame then thetaRaw s 65536 (setAz s t) else 65536 * setPointAt s t

/-- What an output release at instant t gives the core die, v being the model velocity there. A model that describes no mirror
predicts no movement off the trajectory (R74, R289, R300, R314, R319; DEDUCED, log entry 48). -/
def releaseOf (s : State) (t : Nat) (v : Int) : RelS :=
  let ref := setFine s t
  { mode := s.lce.mode, inUse := s.lce.inUse, halved := s.lce.halved, at_ := t, th := estAt s t, v := v
    devTh := estAt s t - ref
    devV := if (parFx s 0x400D 2).m = 0 then 0 else v - (setFine s (t + 4 * usU) - ref) }

/-- The predicted azimuth of a shot at instant t of the frame f that starts at f0, from what the last output release gave: the
trajectory, off which the mirror model goes on from that release; the model alone in mode 2 (R74, R289, R296, R310, R314, R317; DEDUCED,
log entry 48). -/
def predictAz (s : State) (f : FrameP) (f0 t : Nat) : Int :=
  let r := s.lce.rel
  let dt := (t : Int) - r.at_
  if r.mode = 2 then azOfTheta s (r.th + rdiv (r.v * dt) 512000)
  else rdiv (trajAt f ((t : Int) - f0) + azSpan s (r.devTh + rdiv (r.devV * dt) 512000)) 65536

/-- What the mirror model needs as coil acceleration, Q15 per s², where a frame's set-point has its peak acceleration: in the flyback
at u = (3 - √3) / 6 and (3 + √3) / 6, where the second derivative of the polynomial is 5.7735 times its span, its first one 5/6 of
it and its value (2 - √3) / 4 and (2 + √3) / 4 of it: θ'' + 2ζω θ' + ω² θ (R296, R297). -/
def peakAcc (s : State) (f : FrameP) (late : Bool) : Int :=
  let act : Int := max (f.nAct * 8 * f.p * nsU) 1
  let fly : Int := max ((f.nCyc - f.nAct) * 8 * f.p * nsU) 1
  let th1 := thetaOfAz s (65536 * f.az1)
  let d := th1 - thetaOfAz s (65536 * f.az0)
  let a := rdiv (57735 * d * (act + fly) * secU * secU) (10000 * act * fly * fly)
  let v := rdiv (d * secU * (fly - 5 * act)) (6 * act * fly)
  let (u, y) : Int × Int := if late then (788675135, 933012702) else (211324865, 66987298)
  let th := th1 + rdiv (d * (fly * u - (act + fly) * y)) (act * 1000000000)
  let wn : Int := parN s 0x400D 0
  (if late then a else -a) + rdiv (2 * (parN s 0x400D 1 : Int) * wn * v) 1000000 + rdiv (wn * wn * th) 1000000

/-- R297: the trajectory would need more coil current than BRG_ILIM through the mirror model. With MIR_KI = 0 the model
describes no mirror and the test cannot act (DEDUCED, log entry 48). -/
def trajTooFast (s : State) (f : FrameP) : Bool :=
  let k := parFx s 0x400D 2
  let lim := parN s 0x2440 0 * 32768 / 3000
  let need := max (peakAcc s f false).natAbs (peakAcc s f true).natAbs
  k.m != 0 && decide (k.m.natAbs * lim < need * 2 ^ k.s)

/-! ## Feedback, bridge and inhibits -/

/-- The mode that goes with the feedback in use while the loop is closed (R268). -/
def closedMode (inUse : Nat) : Nat := if inUse = 0 then 0 else 1

/-- The LCE sends LCE_REARM on BL2 (R113, R115). -/
def sendRearm (s : State) : State := barSend 2 0x11 [] s

/-- The LCE may enable the bridge (R290, R312, R690). -/
def bridgeAllowed (s : State) : Bool :=
  parB s 0x4024 0 && (s.dev == .config || s.dev == .run || s.dev == .safe) && !s.lce.latched && !s.lce.lceFault

/-- The loop is closed on the primary, or on the secondary when the primary fails R305 at once; firing stays inhibited
for one complete frame. With neither the loop is not closed (R305, R311). -/
def closeLoop (s : State) : State :=
  if s.lce.priFail && (s.lce.secFail || s.tbs.encStatus != 0) then s
  else
    let use := if s.lce.priFail then 1 else 0
    let s := modLce (fun l => { l with
      inUse := use, priOos := use == 1, secOos := if use = 1 then false else l.secOos
      halved := use == 1, halvedFrame := false, latched := false
      retry := false, retryFrame := false
      restartWait := true, restartFrame := false
      moveFrom := if s.rm.inFrame then l.moveFrom else some (s.tb, rdiv (estAt s s.tb) 65536) }) s
    mirMode (closedMode use) (inhibit .restart s)

/-- The bridge is enabled with LCE_REARM, then as R311 from the closing of the loop (R290, R312, R690). -/
def bridgeStart (s : State) : State :=
  if bridgeAllowed s then
    let s := closeLoop (sendRearm s)
    if s.lce.restartWait then uninhibit .bridgeOff (uninhibit .bridge (uninhibit .lceFault s)) else s
  else s

/-- The bridge is off and stays off: mode 4 inhibits firing (R690). -/
def bridgeStop (s : State) : State :=
  let s := modLce (fun l => { l with restartWait := false, restartFrame := false }) (inhibit .bridgeOff (bridgeOff s))
  mirMode 4 s

/-- The mirror mode of a loop that runs; with the bridge off it stays 4 (R690). -/
def mirLive (m : Nat) (s : State) : State := if s.lce.mode = 4 then s else mirMode m s

/-- No source remains in service: firing inhibited, mode 2, SAFE, entry 0x4807 (R310). -/
def noSource (s : State) : State :=
  let s := modLce (fun l => { l with
    inUse := 2, latched := true, retry := false, retryFrame := false, halved := false
    restartWait := false, restartFrame := false }) s
  logNow 0x4807 noSrc 0 (safeCause .bothFeedback (inhibit .bothFeedback (mirLive 2 s)))

/-- The primary is declared lost or frozen at this instant, t64 being that of the first failing sample; in mirror mode 4 the mode
stays (R79, R305, R307; DEDUCED, log entry 16). -/
def primaryLost (frozen : Bool) (t64 : BitVec 64) (s : State) : State :=
  if s.lce.priOos then s
  else
    let s := injEnd 3 (modLce (fun l => { l with priOos := true, priFail := true, frameBad := l.frameBad || l.inUse == 0 }) s)
    let s := logAt t64 0x2805 noSrc (b2n frozen) s
    if s.lce.inUse != 0 then s
    else
      let none_ := s.lce.secOos
      let s := cancelShots (if none_ then 1 else 2) s
      if none_ then noSource s
      else mirLive 1 (modLce (fun l => { l with inUse := 1, halved := true, halvedFrame := false }) s)

/-- The secondary is declared lost or frozen (R79, R306, R310). -/
def secondaryLost (s : State) : State :=
  if s.lce.secOos then modLce (fun l => { l with secFail := true }) s
  else
    let s := injEnd 3 (modLce (fun l => { l with
      secOos := true, secFail := true, secFrameOk := false, frameBad := l.frameBad || l.inUse == 1 }) s)
    if s.lce.inUse = 0 then logNow 0x2804 noSrc 0 (cancelShots 2 s)
    else if s.lce.inUse = 1 then noSource (cancelShots 1 s)
    else s

/-! ## The LCE at a frame start -/

/-- The primary's return after its test frame: hand back, in which the coil command steps by at most 1 LSB, or entry 0x0806
(R302, R309). -/
def retryEnd (complete : Bool) (s : State) : State :=
  if !s.lce.retry then s
  else if s.lce.retryFrame && complete then
    let ok := !s.lce.retryBad && s.lce.inUse == 1
    let s := modLce (fun l => { l with retry := false, retryFrame := false }) s
    if ok then mirMode 0 (modLce (fun l => { l with
      inUse := 0, priOos := false, halved := false, laws := bmod {} l.laws 3 fun w => { w with swapped := true } }) s)
    else logNow 0x0806 noSrc 0 s
  else modLce (fun l => { l with retryFrame := true, retryBad := false }) s

/-- A confirming frame ends: LCE_REARM, and the inhibit ends at this frame start (R311, R312, R313, R687). -/
def confirmEnd (complete : Bool) (s : State) : State :=
  let l := s.lce
  let s := if l.restartFrame && complete && !l.frameBad then
      let s := sendRearm (modLce (fun l => { l with
        restartWait := false, restartFrame := false, halved := l.inUse == 1, halvedFrame := false }) s)
      safeClear .bothFeedback (uninhibit .bothFeedback (uninhibit .restart s))
    else if l.restartWait then modLce (fun l => { l with restartFrame := true }) s else s
  if s.fld.wdgTripped then
    if l.wdgFrame && complete && !l.frameBad && l.inUse != 2 then sendRearm (modLce (fun l => { l with wdgFrame := false }) s)
    else modLce (fun l => { l with wdgFrame := true }) s
  else s

/-- LCE fault: the first complete frame without an overrun removes the cause and re-enables the bridge (R290). -/
def faultEnd (complete : Bool) (s : State) : State :=
  if s.lce.lceFault && complete && !s.lce.frameOverrun then
    bridgeStart (safeClear .lceFault (modLce (fun l => { l with lceFault := false }) s))
  else s

/-- What the LCE does when a frame ends and the next one starts; complete says whether a complete frame has ended
(R290, R306, R307, R309, R311, R313). -/
def mirrorFrameEnd (complete : Bool) (s : State) : State :=
  let s := confirmEnd complete (faultEnd complete (retryEnd complete s))
  modLce (fun l =>
    let back := l.secOos && complete && l.secFrameOk && l.inUse == 0
    let full := l.halved && l.halvedFrame && complete && !l.frameBad
    { l with
      secOos := l.secOos && !back
      halved := l.halved && !full
      halvedFrame := l.halved && !full
      secFrameOk := true, frameBad := false, frameOverrun := false }) s

/-- The trajectory of the frame that starts, or the previous one with entry 0x1803 (R297). -/
def mirrorFrameStart (f : FrameP) (s : State) : State :=
  let s := modLce (fun l => { l with moveFrom := none }) s
  if trajTooFast s f then logNow 0x1803 noSrc 0 s
  else modLce (fun l => { l with zs0 := f.az0, zs1 := f.az1 }) s

end Sys2Proof.Machine
end

