-- ==== Sys2Proof/Machine/Stamps.lean ====
section
/-!
DEFINITION. Stamp capture: threshold codes, start stamps, crossings in the window and the guard interval, window close
and the ambient estimator (R99 to R101, R126 to R146, R172 to R175, R184, R193 to R198, R203, R204, R220 to R225).
-/
namespace Sys2Proof.Machine

/-! ## Threshold codes -/

/-- Codes forced into order (R128). -/
def orderCodes (sp low mid high : Nat) : List Nat :=
  let mid := max mid (low + sp)
  let high := min 1023 (max high (mid + sp))
  let mid := min mid (high - sp)
  [min low (mid - sp), mid, high]

/-- THR_INIT, ordered (R128). -/
def initCodes (s : State) : List Nat :=
  orderCodes (parN s 0x2804 0) (parN s 0x2802 0) (parN s 0x2802 1) (parN s 0x2802 2)

/-- The next codes of channel c (R197, R198). -/
def nextCodes (s : State) (c : Nat) : List Nat :=
  let x := chanOf s c
  if parN s 0x2803 0 = 1 || x.ambT.getD 0 0 < 10000 * one32 then initCodes s
  else
    let target := max (parN s 0x3006 0) (codeForRate (sigmaN s c) (parN s 0x3002 0))
    let step := parN s 0x3005 0
    let now := x.thr.getD 0 0
    let low := if now < target then min target (now + step) else max target (now - step)
    let ratio := fun k => (rdiv ((low * parN s k 0 : Nat) : Int) 16).toNat
    orderCodes (parN s 0x2804 0) low (ratio 0x3003) (ratio 0x3004)

/-- The guard code of channel c at CAL_GUARD_RATE (R222). -/
def guardCodeOf (rate : Nat) (s : State) (c : Nat) : Nat :=
  min ((chanOf s c).thrUsed.getD 0 0) (max 1 (codeForRate (sigmaN s c) rate))

/-! ## The shot of a bank -/

/-- The word of a raw stamp (R140). -/
def stampWord (x : Stamp) : Nat :=
  b2n x.guard * 2147483648 + b2n x.fblank * 1073741824 + x.chan % 256 * 4194304 + b2n x.rise * 2097152 +
    x.thr % 4 * 524288 + x.time % 524288

/-- The block of one bank and phase: header and stamps (R141). -/
def rawBlock (b : Nat) (x : BankS) (sh : Shot) (missed : Bool) (guardCode : Bool) (l : List Stamp) : List Byte :=
  leBytes 8 (if missed then 0 else x.startT64.toNat) ++
    leBytes 4 (b2n guardCode * 8388608 + b2n x.ovf * 4194304 + b2n missed * 2097152 + sh.dither % 256 * 8192 +
      sh.em % 32 * 256 + b % 4 * 64 + sh.pos % 8 * 8 + sh.phase % 8) ++
    leBytes 4 (sh.epoch % 65536 * 65536 + l.length % 65536) ++ (l.map fun x => leBytes 4 (stampWord x)).flatten

/-- Rising crossings of threshold k in the tail span of shot sh that count (R193, R204). -/
def tailCount (sh : Shot) (x : ChanS) (k : Nat) : Nat :=
  let tail := min sh.pp.tail (sh.w / 2) * nsU
  (x.stamps.filter fun e => e.rise && e.thr == k && !e.fblank && decide (shotWin sh ≤ e.time + tail) &&
    !(x.supp.any fun p => decide (p.1 ≤ e.time) && decide (e.time ≤ p.2))).length

/-- The ambient estimator of channel c takes shot sh, which ends, with the parameters of its phase and a guard span in T64 units
(R15, R193, R194). -/
def ambientUpdate (sh : Shot) (guard : Nat) (s : State) (c : Nat) : State :=
  if !rxEnabled s c then s
  else
    let x := chanOf s c
    let a := expNeg (8 * sh.p) (1000 * sh.pp.tau)
    let tail := min sh.pp.tail (sh.w / 2) * nsU
    let one := fun k =>
      let coded := k == 0 && x.guardCode.isSome
      (tailCount sh x k + (if coded then 0 else x.ambCnt.getD k 0), tail + if coded then 0 else guard)
    let up := fun (l : List Nat) (k v u : Nat) => a * l.getD k 0 / one32 + v * (one32 / u)
    modChan c (fun x => { x with
      ambN := (upto 3).map fun k => up x.ambN k (one k).1 1
      ambT := (upto 3).map fun k => up x.ambT k (one k).2 nsU
      ambC := (upto 3).map fun k => up x.ambC k (x.thrUsed.getD k 0 * (one k).2) nsU }) s

/-- A quantity of the monitor pulse of a shot, T64 units: width at threshold q, or low or high rise against the start
stamp (R479). -/
def monQuantity (x : BankS) (q : Nat) : Option Int :=
  let first := fun k r => (x.monEdges.find? fun e => e.1 == k && e.2.1 == r).map fun e => e.2.2
  match q with
  | 3 => (first 0 true).map fun v => rdiv (v - x.tStartF) 4096
  | 4 => (first 2 true).map fun v => rdiv (v - x.tStartF) 4096
  | k => match first k true with
    | none => none
    | some a => ((x.monEdges.find? fun e => e.1 == k && !e.2.1 && decide (a ≤ e.2.2)).map fun e => rdiv (e.2.2 - a) 4096)

/-- The mask test of a bank's monitor pulse at an instant: the first tested quantity that is missing or out of its limits (R479, R480). -/
def monMask (b : Nat) (x : BankS) (t64 : BitVec 64) (s : State) : State :=
  let qs := (upto 5).filter fun q => parI s 0x6840 (10 * b + 2 * q) != 0 || parI s 0x6840 (10 * b + 2 * q + 1) != 0
  if qs.isEmpty then s
  else
    let bad := fun q => match monQuantity x q with
      | none => true
      | some v => decide (v < parI s 0x6840 (10 * b + 2 * q)) || decide (parI s 0x6840 (10 * b + 2 * q + 1) < v)
    match qs.find? bad with
    | some q => maskSample b b q true t64 ((monQuantity x q).getD 0) s
    | none => maskSample b b 0 false t64 0 s

/-- The guard interval of the bank's shot ends at the next monitor edge or miss: ambient counts, monitor mask, raw-stamp
block (R141, R145, R194, R479). -/
def finishShot (b : Nat) (s : State) : State :=
  let x := bankOf s b
  match x.shot with
  | none => s
  | some sh =>
    if x.monMissed || x.tStart.isNone then s
    else
      let cs := (upto 8).map (8 * sh.em + ·)
      let guard := s.tb - x.guardFrom - 40 * nsU
      let stamps := sortBy (fun (e : Stamp) => (e.time : Int))
        ((cs.map fun c => (chanOf s c).stamps ++ (chanOf s c).guards).flatten)
      let coded := cs.any fun c => (chanOf s c).guardCode.isSome
      let s := recItem 1 b x.startT64 (rawBlock b x sh false coded stamps) s
      let s := if x.guardOpen then cs.foldl (ambientUpdate sh guard) s else s
      let s := monMask b x x.startT64 s
      modBank b (fun x => { x with guardOpen := false, winOpen := false, ovf := false }) s

/-- A fired shot counts in the open frame: an active one of that frame (R214, R686). -/
def firedCounts (s : State) (sh : Shot) : Bool := !sh.flyback && s.rm.inFrame && sh.frame == s.rm.frameNo

/-- A channel of an emitter whose monitor missed: the shot was fired and had no pulse, and counts among the fired shots of
R221 (R100, R146, R209, R214, R221). -/
def channelMiss (sh : Shot) (s : State) (c : Nat) : State :=
  let cal := parB s 0x3400 0 && rxEnabled s c
  modChan c (fun x => { x with
    wantGuard := if cal then !x.wantGuard else x.wantGuard
    prevPulses := [], pulses := [], pulseFrame := sh.frame.toNat + 1
    fired := if firedCounts s sh then x.fired + 1 else x.fired }) s

/-- MONITOR_MISS: no start stamp within MON_TIMEOUT; the window stays shut, the channels deliver records with cause 0 and
one miss is counted; the monitor mask takes a sample whose crossings are missing, at the planned gate edge (R100, R146, R479; DESIGN CHOICE,
log entry 12). -/
def execMonitorMiss (t : Nat) (b : Fin 4) (s : State) : Host.Outcome State Fault Refusal :=
  let s := s.start t
  match (bankOf s b).fired with
  | none => done s
  | some sh =>
    if decide (sh.edge + monTimeout s ≤ s.tb) then
      let s := finishShot b s
      let s := modBank b (fun x => { x with
        shot := some sh, fired := none, tStart := none, monMissed := true, startT64 := 0, monEdges := [] }) s
      let s := recItem 1 b (t64At s sh.edge) (rawBlock b (bankOf s b) sh true false []) s
      let s := monMask b (bankOf s b) (t64At s sh.edge) s
      let s := modFld (fun c => { c with monMiss := bmod 0 c.monMiss sh.em (· + 1) }) s
      let s := (upto 8).foldl (fun s k => channelMiss sh s (8 * sh.em + k)) s
      done (missRecords sh 0 (tofsOf sh sh.edge) sh.theta s)
    else done s

/-- A channel of the emitter that fired begins its shot: capture is cleared, the level of the low comparator is judged
(R132), the pulses of its previous shot in the frame are kept for the support test (R209). -/
def channelOpen (sh : Shot) (s : State) (c : Nat) : State :=
  let on := rxEnabled s c
  let grp := (sh.frame.toNat, sh.cycle / max (parN s 0x2C01 0) 1)
  let hist := s.ee.hist && !sh.flyback
  let counts := firedCounts s sh
  modChan c (fun x => { x with
    stamps := [], guards := [], spill := [], spillG := [], thrUsed := x.thr, guardCnt := [0, 0, 0], ambCnt := [0, 0, 0], hits := 0, supp := []
    guardCode := none
    blindRun := if on && x.lowHigh then x.blindRun + 1 else 0
    clearRun := if on && !x.lowHigh then x.clearRun + 1 else 0
    prevPulses := if x.pulseFrame = sh.frame.toNat + 1 then x.pulses else []
    pulses := [], pulseFrame := sh.frame.toNat + 1
    fired := if counts then x.fired + 1 else x.fired
    histCnt := if hist && x.histGrp != some grp then [] else x.histCnt
    histStamps := if hist && x.histGrp != some grp then [] else x.histStamps
    histShots := if hist && x.histGrp != some grp then 0 else x.histShots
    histInfo := if hist && x.histGrp != some grp then [] else x.histInfo
    histStale := if hist && x.histGrp != some grp then false else x.histStale
    histGrp := if hist then some grp else x.histGrp }) s

/-- The last edge of a monitor threshold less than 0.5 ns before the time fx (R131). -/
def tooClose (l : Bank LastE) (k : Nat) (fx : Int) : Option LastE :=
  match l.find? fun p => p.1 == k with
  | some (_, e) => if fx < e.fx + 64 * 4096 then some e else none
  | none => none

/-- The start stamp of bank b at this instant with fine code c: the first mid-threshold rise of the monitor within the interval of
the bank's fired shot opens its window and ends the guard interval of the shot before; a rise that ends a low interval shorter than
0.5 ns is none (R29, R59, R99, R101, R103, R131, R137, R138). -/
def startStamp (b c : Nat) (s : State) : State :=
  let x := bankOf s b
  match x.fired with
  | none => s
  | some sh =>
    if !(decide (sh.edge ≤ s.tb + 20 * nsU) && decide (s.tb ≤ sh.edge + monTimeout s)) then s
    else if (tooClose x.lastM 1 (stampFx s (769 + 3 * b) s.tb c)).isSome then modBank b (fun x => { x with lastM := bdel x.lastM 1 }) s
    else
      let s := finishShot b s
      let fx := stampFx s (769 + 3 * b) s.tb c
      let at_ := (rdiv fx 4096).toNat
      let s := modBank b (fun x => { x with
        shot := some { sh with fbDegr := s.lce.inUse == 1 }, fired := none, eShot := x.eFired, tStart := some at_, tStartF := fx
        startT64 := t64At s at_, winOpen := true, guardOpen := false, monMissed := false
        monEdges := x.firedEdges ++ [(1, true, fx)], firedEdges := []
        lastM := bset x.lastM 1 { fx := fx, rise := true, kept := true, start := true }
        errSum := x.errSum + ((at_ : Int) - sh.edge), errN := x.errN + 1
        tofs := tofsOf sh at_, az := azAt s at_ }) (azCount (azAt s at_) s)
      let s := (upto 8).foldl (fun s k => channelOpen sh s (8 * sh.em + k)) s
      let s := modFld (fun c => { c with monMiss := bset c.monMiss sh.em 0 }) s
      if s.fld.monFailed.getLsbD sh.em then
        logNow 0x0207 sh.em 0 (modFld (fun c => { c with
          monFailed := c.monFailed &&& ~~~BitVec.ofNat 32 (2 ^ sh.em) }) s)
      else s

/-- An edge of bank b belongs to a shot whose phase has still to open: it waits for that boundary, whose tables and replica lengths
convert it (R138, R227). -/
def isEarly (b : Nat) (s : State) : Bool :=
  let x := bankOf s b
  !x.early.isEmpty || (s.rm.framing && x.fired.any fun sh => decide (s.rm.boundary < sh.boundary))

/-- An edge waits for the boundary of its phase. -/
def holdEdge (b : Nat) (e : EarlyE) (s : State) : State := modBank b (fun x => { x with early := x.early ++ [e] }) s

/-- START_STAMP: the start stamp of bank b; of a shot whose phase has still to open it takes effect at that boundary, as of this
instant (R29, R59, R99, R101, R103, R137, R138, R227). -/
def execStartStamp (t : Nat) (b : Fin 4) (c : Fin 32) (s : State) : Host.Outcome State Fault Refusal :=
  let s := s.start t
  if isEarly b s then done (holdEdge b { at_ := s.tb, start := true, c := c } s) else done (startStamp b c s)

/-! ## Crossings -/

/-- A hit of a delay line: one more count of its fine code; a build takes 262,144 (R220, R226). -/
def lineHit (l c : Nat) (s : State) : State :=
  let x := lineOf s l
  if 262144 ≤ x.hits then s
  else modLine l (fun x => { x with
    h := bmod 0 x.h c (· + 1), hits := x.hits + 1
    lenFrom := if x.hits = 0 then spanLen s l else x.lenFrom }) s

/-- A hit taken back: its edge was removed with the next one (R131, R220). -/
def lineUnhit (l c : Nat) (s : State) : State :=
  modLine l (fun x => if bget 0 x.h c = 0 then x else { x with h := bmod 0 x.h c (· - 1), hits := x.hits - 1 }) s

/-- An instant lies within 2 ns of a predicted arrival of a train tracked at the commit whose mask holds the channel
(R203). -/
def foreignBlank (s : State) (b c t : Nat) : Bool :=
  (bget [] s.rj.blankNow b).any fun p =>
    decide (t ≤ p.1 + 2 * nsU) && decide (p.1 ≤ t + 2 * nsU) && p.2.getLsbD (c % 64)

/-- A counter one lower, saturated and zero counts staying as they are. -/
def satDec {w : Nat} (c : BitVec w) : BitVec w := if c = 0 || c = BitVec.allOnes w then c else c - 1

/-- The monitor's calibration interval of bank b: from 100 ns after the start stamp of the phase in progress to 100 ns before
the next boundary, in every second phase (R225). -/
def monCalInterval (s : State) (b : Nat) : Bool :=
  let x := bankOf s b
  parB s 0x3400 0 && x.monCal && (match x.tStart with
    | some a => decide (s.rm.boundary ≤ a + 20 * nsU) && decide (a + 100 * nsU ≤ s.tb) &&
        decide (s.tb + 100 * nsU ≤ s.rm.boundary + s.rm.pNs * nsU)
    | none => false)

/-- The code that the monitor's low DAC runs: CAL_MON_GUARD in the calibration interval, else MON_THR (R99, R225). -/
def monLowCode (s : State) (b : Nat) : Nat := if monCalInterval s b then parN s 0x3403 0 else parN s 0x2404 0

/-- The start stamp of bank b is taken back, its pulse having been shorter than 0.5 ns: the shot waits for its start stamp again
(R131; log entry 80). -/
def startUndo (b : Nat) (s : State) : State :=
  let x := bankOf s b
  match x.shot, x.tStart with
  | some sh, some at_ =>
    let s := modBank b (fun x => { x with
      fired := some sh, shot := none, tStart := none, winOpen := false, monEdges := [], firedEdges := x.monEdges
      errSum := x.errSum - ((at_ : Int) - sh.edge), errN := x.errN - 1 }) s
    (upto 8).foldl (fun s k => modChan (8 * sh.em + k) (fun y => { y with
      pulses := y.prevPulses, fired := if firedCounts s sh then y.fired - 1 else y.fired
      blindRun := y.blindRun - 1, clearRun := y.clearRun - 1 }) s) s
  | _, _ => s

/-- The last edge of a monitor threshold is removed (R131). -/
def monUndo (b k : Nat) (e : LastE) (s : State) : State :=
  let s := modBank b (fun x => { x with
    lastM := bdel x.lastM k
    firedEdges := x.firedEdges.erase (k, e.rise, e.fx), monEdges := x.monEdges.erase (k, e.rise, e.fx)
    monHits := if e.hit.isSome then x.monHits - 1 else x.monHits }) s
  let s := if e.start then startUndo b s else s
  match e.hit with
  | some (l, c) => lineUnhit l c s
  | none => s

/-- A monitor crossing other than the start stamp: kept for the mask test, or a calibration hit; while the mid or the high line takes
the low edges, that comparator's own crossings are not stamped (R131, R223, R225, R479). -/
def monCrossing (b k : Nat) (rise : Bool) (c : Nat) (s : State) : State :=
  let s := modBank b (fun x => { x with monDac := monLowCode s b }) s
  let x := bankOf s b
  let cal := k == 0 && monCalInterval s b
  let line := 768 + 3 * b + (if cal then x.monRotor else k)
  let fx := stampFx s line s.tb c
  match tooClose x.lastM k fx with
  | some e => monUndo b k e s
  | none =>
    if cal then
      let hit := decide (x.monHits < parN s 0x3401 0)
      let e : LastE := { fx := fx, rise := rise, hit := if hit then some (line, c) else none }
      let s := modBank b (fun x => { x with
        lastM := bset x.lastM k e, monHits := if hit then x.monHits + 1 else x.monHits }) s
      if hit then lineHit line c s else s
    else if k != 0 && monCalInterval s b && x.monRotor == k then modBank b (fun x => { x with lastM := bset x.lastM k { fx := fx, rise := rise } }) s
    else
      modBank b (fun x =>
        let x := { x with lastM := bset x.lastM k { fx := fx, rise := rise, kept := true } }
        if x.fired.isSome then { x with firedEdges := x.firedEdges ++ [(k, rise, fx)] }
        else { x with monEdges := x.monEdges ++ [(k, rise, fx)] }) s

/-- A stamp of channel ch that its last edge of threshold k left. -/
def stampOf (ch k : Nat) (e : LastE) : Stamp :=
  { guard := e.guard, fblank := e.blank, chan := ch, rise := e.rise, thr := k, time := e.time }

/-- An edge recorded as the last one of threshold k of channel ch. -/
def noteEdge (ch k : Nat) (e : LastE) (s : State) : State := modChan ch (fun x => { x with lastE := bset x.lastE k e }) s

/-- An in-window crossing of channel ch (R137 to R143, R203). -/
def inWindow (b ch k : Nat) (rise : Bool) (fx : Int) (time : Nat) (s : State) : State :=
  let x := chanOf s ch
  let bl := foreignBlank s b ch s.tb
  if 96 ≤ x.stamps.length then
    let e : LastE := { fx := fx, time := time, rise := rise, drop := true, blank := bl }
    noteEdge ch k e (modChan ch (fun x => { x with spill := x.spill ++ [stampOf ch k e] }) s)
  else
    let s := if bl then modRj (fun r => { r with blanked := satInc r.blanked }) s else s
    let e : LastE := { fx := fx, time := time, rise := rise, kept := true, blank := bl }
    noteEdge ch k e (modChan ch (fun x => { x with stamps := x.stamps ++ [stampOf ch k e] }) s)

/-- A guard-interval crossing of channel ch with fine code c, dt after window close: counted, kept up to GUARD_KEEP, and a
hit of the line that takes the low comparator's edges in a guard-coded interval (R15, R130, R145, R193, R220 to R224). -/
def inGuard (sh : Shot) (b ch k : Nat) (rise : Bool) (c : Nat) (fx : Int) (time dt : Nat) (s : State) : State :=
  let x := chanOf s ch
  let coded := x.guardCode.isSome
  if coded && k == 0 && dt < 40 * nsU then noteEdge ch k { fx := fx, time := time, rise := rise, guard := true } s
  else
    let bl := foreignBlank s b ch s.tb
    let s := if bl then modRj (fun r => { r with blanked := satInc r.blanked }) s else s
    let amb := rise && !bl && decide (40 * nsU ≤ dt)
    let stamp := !(coded && k != 0 && x.rotor == k)
    let keep := decide (x.guards.length < sh.pp.keep) && stamp
    let hit := coded && k == 0 && !bl && decide (40 * nsU ≤ dt) && parB s 0x3400 0 && decide (x.hits < sh.pp.hits)
    let e : LastE := { fx := fx, time := time, rise := rise, guard := true, kept := keep, counted := true, amb := amb, blank := bl
                       hit := if hit then some (3 * ch + x.rotor, c) else none }
    let s := modChan ch (fun x => { x with
      guardCnt := x.guardCnt.set k (x.guardCnt.getD k 0 + 1)
      ambCnt := if amb then x.ambCnt.set k (x.ambCnt.getD k 0 + 1) else x.ambCnt
      hits := if hit then x.hits + 1 else x.hits
      guards := if keep then x.guards ++ [stampOf ch k e] else x.guards
      spillG := if stamp && !keep then x.spillG ++ [stampOf ch k e] else x.spillG }) s
    noteEdge ch k e (if hit then lineHit (3 * ch + x.rotor) c s else s)

/-- The times that a shot gives the histogram: the first 16 rises of HIST_THR (R173). -/
def histTimes (s : State) (l : List Stamp) : List Nat :=
  ((l.filter fun e => e.rise && e.thr == parN s 0x2C04 0 && !e.fblank && !e.guard).take 16).map (·.time)

/-- The bin of a time, none outside the histogram (R174). -/
def histBin (s : State) (tau : Nat) : Option Nat :=
  let z := nsU * parN s 0x2C03 0
  let j := (tau - z) / (32 * 2 ^ parN s 0x2C02 0)
  if tau < z || 1024 ≤ j then none else some j

/-- The histogram of channel c takes the shot's first 16 rises of HIST_THR (R173 to R175). -/
def histAccumulate (s : State) (c : Nat) : State :=
  let ts := histTimes s (chanOf s c).stamps
  modChan c (fun x => { x with
    histCnt := ts.foldl (fun h tau =>
      match histBin s tau with
      | some j => bmod 0 h j (fun v => min 65535 (v + 1))
      | none => h) x.histCnt
    histStamps := x.histStamps ++ ts.map fun tau => (x.histShots, tau)
    histShots := x.histShots + 1 }) s

/-- The last shot's part of the histogram of channel c is taken back. -/
def histUndo (s : State) (c : Nat) : State :=
  modChan c (fun x =>
    let last := x.histStamps.filter fun p => p.1 + 1 == x.histShots
    { x with
      histCnt := last.foldl (fun h p =>
        match histBin s p.2 with
        | some j => bmod 0 h j (· - 1)
        | none => h) x.histCnt
      histStamps := x.histStamps.filter fun p => p.1 + 1 != x.histShots
      histShots := x.histShots - 1 }) s

/-- A stamp leaves a list that holds it, with the first of those over its limit taken in its place; else it leaves those over the
limit (R131, R143, R145). -/
def stampOut (x : Stamp) (l rest : List Stamp) : List Stamp × List Stamp :=
  if l.contains x then (l.erase x ++ rest.head?.toList, rest.tail) else (l, rest.erase x)

/-- An in-window edge whose partner comes after window close leaves the shot that has closed: its shadow unit, the pulses kept
for the support test, the histogram and the overflow count (R131, R143, R173, R184, R209). -/
def closedUndo (sh : Shot) (b ch : Nat) (had : Bool) (s : State) : State :=
  let s := modEe (fun x => { x with shadow := bmod [] x.shadow sh.em fun l =>
    match l.getLast? with
    | some u => l.dropLast ++ [{ u with stamps := u.stamps.filter (fun y => y.chan != ch) ++ (chanOf s ch).stamps }]
    | none => l }) s
  let s := if !s.ee.hist then
      modChan ch (fun y => { y with pulses := pulseRanges s ch (shotWin sh) y.thrUsed y.stamps }) s
    else if !sh.flyback then histAccumulate (histUndo s ch) ch else s
  if had && (chanOf s ch).spill.isEmpty then
    let s := modChan ch (fun y => { y with ovf := satDec y.ovf }) s
    modBank b (fun x => { x with ovf := (upto 8).any fun i => !(chanOf s (8 * sh.em + i)).spill.isEmpty }) s
  else s

/-- The last edge of threshold k of channel ch is removed, with all that it did (R131). -/
def edgeUndo (b ch k : Nat) (e : LastE) (s : State) : State :=
  let x := bankOf s b
  let y := chanOf s ch
  let win := (e.kept || e.drop) && !e.guard
  let st := stampOf ch k e
  let l := if win then stampOut st y.stamps y.spill else (y.stamps, y.spill)
  let g := if e.guard then stampOut st y.guards y.spillG else (y.guards, y.spillG)
  let back := (if win && y.stamps.contains st then y.spill.head? else none).any (·.fblank)
  let s := modChan ch (fun y => { y with
    lastE := bdel y.lastE k
    stamps := l.1, spill := l.2, guards := g.1, spillG := g.2
    guardCnt := if e.counted then y.guardCnt.set k (y.guardCnt.getD k 0 - 1) else y.guardCnt
    ambCnt := if e.amb then y.ambCnt.set k (y.ambCnt.getD k 0 - 1) else y.ambCnt
    hits := if e.hit.isSome then y.hits - 1 else y.hits }) s
  let s := if e.blank && (e.counted || y.stamps.contains st) then modRj (fun r => { r with blanked := satDec r.blanked }) s else s
  let s := if back then modRj (fun r => { r with blanked := satInc r.blanked }) s else s
  let s := match e.hit with
    | some (l, c) => lineUnhit l c s
    | none => s
  match x.shot with
  | some sh => if win && !x.winOpen && sh.em = ch / 8 then closedUndo sh b ch (!y.spill.isEmpty) s else s
  | none => s

/-- An edge of input inp at this instant with fine code c is stamped and routed as in-window or guard, or captured nowhere outside
them; less than 0.5 ns after the threshold's last edge it removes both. TIME of a guard stamp that lies beyond its 19 bits, when
skipped shots lengthen the guard interval, saturates at 524,287 (DESIGN CHOICE, log entry 80) (R127, R131, R137 to R146). -/
def crossingAt (inp thr : Nat) (rise : Bool) (c : Nat) (s : State) : State :=
  if 256 ≤ inp then monCrossing (inp - 256) thr rise c s
  else
    let b := inp / 64
    let s := if thr = 0 then modChan inp (fun x => { x with lowHigh := rise }) s else s
    let x := bankOf s b
    let cx := chanOf s inp
    let line := 3 * inp + if thr = 0 && cx.guardCode.isSome && x.guardOpen then cx.rotor else thr
    let fx := stampFx s line s.tb c
    match tooClose cx.lastE thr fx with
    | some e => edgeUndo b inp thr e s
    | none =>
      let out := noteEdge inp thr { fx := fx, rise := rise } s
      match x.shot, x.tStart with
      | some sh, some _ =>
        if sh.em != inp / 8 || x.monMissed || !rxEnabled s inp then out
        else
          let d := rdiv (fx - x.tStartF) 4096
          if d < 0 then out
          else if x.winOpen && d < shotWin sh then inWindow b inp thr rise fx d.toNat s
          else if x.guardOpen && shotWin sh ≤ d then
            inGuard sh b inp thr rise c fx (min d.toNat 524287) (d.toNat - shotWin sh) s
          else out
      | _, _ => out

/-- A crossing waits with the start stamp of its bank for the boundary that opens the shot's phase: those of the monitor from the gate
pulse on, those of the channels from the start stamp on (R138, R227). -/
def crossingEarly (inp : Nat) (s : State) : Bool :=
  if 256 ≤ inp then isEarly (inp - 256) s else !(bankOf s (inp / 64)).early.isEmpty

/-- THRESHOLD_CROSSING: an edge is stamped and routed, at once or at the boundary that opens its shot's phase
(R127, R131, R137 to R146, R227). -/
def execThresholdCrossing (t : Nat) (inp : Fin 260) (thr : Fin 3) (rise : Bool) (c : Fin 32) (s : State) :
    Host.Outcome State Fault Refusal :=
  let s := s.start t
  if crossingEarly inp s then
    done (holdEdge (if 256 ≤ inp.val then inp.val - 256 else inp.val / 64) { at_ := s.tb, inp := inp, thr := thr, rise := rise, c := c } s)
  else done (crossingAt inp thr rise c s)

/-- The edges of bank b that waited for the phase of its shot to open take effect in their order, each as of its own instant
(R138, R227). -/
def replayEarly (b : Nat) (s : State) : State :=
  let now := s.tb
  let l := (bankOf s b).early
  let s := modBank b (fun x => { x with early := [] }) s
  let s := l.foldl (fun s e =>
    let s := { s with tb := e.at_ }
    if e.start then startStamp b e.c s else crossingAt e.inp e.thr e.rise e.c s) s
  { s with tb := now }

/-! ## Failed channels -/

/-- RX_CHANNEL_FAILED: the low comparator was high at window open on 64 consecutive shots (R132). -/
def execRxChannelFailed (t : Nat) (chan : Fin 256) (s : State) : Host.Outcome State Fault Refusal :=
  let s := s.start t
  if decide (64 ≤ (chanOf s chan).blindRun) && !(chanOf s chan).failed then
    done (logNow 0x2301 chan 0 (modChan chan (fun x => { x with failed := true }) s))
  else done s

/-- RX_CHANNEL_RESTORED: it was low on 64 consecutive shots (R132). -/
def execRxChannelRestored (t : Nat) (chan : Fin 256) (s : State) : Host.Outcome State Fault Refusal :=
  let s := s.start t
  if decide (64 ≤ (chanOf s chan).clearRun) && (chanOf s chan).failed then
    done (logNow 0x0302 chan 0 (modChan chan (fun x => { x with failed := false }) s))
  else done s

end Sys2Proof.Machine
end

