-- ==== Sys2Proof/Machine/PointOps.lean ====
section
/-!
DEFINITION. Frames closing: the frame header's words, the values of the last completed frame, and the stop of phases
(R83, R85, R219, R265 to R268, R686, R689).
-/
namespace Sys2Proof.Machine

/-- Channels with a property at the frame's end, at most 256. -/
def chanCount (s : State) (f : ChanS → Bool) : Nat := (s.chan.filter fun p => f p.2).length

/-- The header of the open frame. Word 3 bit 31 and words 8 to 10 are filled when it is written (R266). -/
def headerWords (aborted : Bool) (tEnd : BitVec 64) (s : State) : List (BitVec 32) :=
  let r := s.rm
  let w3 := b2n aborted * 2 ^ 30 + b2n (r.safeSeen || s.dev == .safe) * 2 ^ 29 + b2n r.t64Loaded * 2 ^ 28 +
    b2n r.coordActive * 2 ^ 27 + max r.mirrorWorst s.lce.mode % 16 * 2 ^ 20 + r.mirrorStart % 16 * 2 ^ 16 +
    min r.throttleMin 255 * 256 + (r.degStart ||| r.degrade).toNat
  let w15 := chanCount s (fun c => c.lost || c.failed) * 2 ^ 16 + (max (parN s 0x2C01 0) 1 - 1) % 16 * 2 ^ 12 +
    b2n s.ee.hist * 2 ^ 11 + parN s 0x3035 0 % 4 * 2 ^ 9 + chanCount s (fun c => c.staleCause != 0)
  [0x52465A44, s.pt.ver.toNat * 65536 + 64, r.frameNo.toNat, w3, r.frameT64.toNat % 2 ^ 32, r.frameT64.toNat / 2 ^ 32,
    tEnd.toNat % 2 ^ 32, tEnd.toNat / 2 ^ 32, 0, 0, 0, min r.skipCount 0xFFFFFFFF,
    r.epochStart.toNat * 65536 + r.skipMask.toNat, r.nCyc % 65536 * 65536 + r.nAct % 65536,
    r.wNs % 65536 * 65536 + r.pNs % 65536, w15].map (BitVec.ofNat 32)

/-- The open frame closes: its header is due, and the values over the last completed frame
take it unless it is aborted (R85, R219, R261, R265, R686). -/
def closeFrame (aborted : Bool) (tEnd : BitVec 64) (s : State) : State :=
  if !s.rm.inFrame then s
  else
    let s := releaseMiss (fun m => m.2.2.frame == s.rm.frameNo) s
    let s := modPt (fun p => { p with
      hdrDue := p.hdrDue ++ [(headerWords aborted tEnd s, s.pt.streaming && parB s 0x3800 0)] }) s
    let s := if aborted then s
      else modRj (fun j => { j with classLast := j.classCur, suppLast := j.suppCur })
        (modRm (fun r => { r with
          win := r.winCur
          marginA := BitVec.ofNat 16 (if r.marginCharged then r.marginCurA else 65535)
          marginB := BitVec.ofNat 16 (if r.marginCharged then r.marginCurB else 65535) }) s)
    modRj (fun j => { j with classCur := [], suppCur := 0 })
      (modRm (fun r => { r with
        inFrame := false, winCur := [], marginCurA := 65535, marginCurB := 65535, skipCount := 0, skipMask := 0
        safeSeen := false, t64Loaded := false }) s)

/-- An aborted frame ends every run of consecutive complete or clean frames (R686). -/
def endRuns (s : State) : State :=
  let s := modLce (fun l => { l with
    restartFrame := false, retryFrame := false, halvedFrame := false, wdgFrame := false, frameBad := true
    secFrameOk := false, frameOverrun := true }) s
  { s with
    fe := { s.fe with
      lastDone := none
      fields := s.fe.fields.map fun p => (p.1, { p.2 with k := [], old := [], clear := 0, viol := [], good := [], decided := [] })
      oldFields := s.fe.oldFields.map fun p => (p.1, { p.2 with k := [], old := [], clear := 0, viol := [], good := [], decided := [] }) }
    pt := { s.pt with zoneHits := s.pt.zoneHits.map fun q =>
      (q.1, q.2.filter fun h => h.getD 6 0 != (s.rm.frameNo.toNat : Int)) }
    fld := { s.fld with bankS := s.fld.bankS.map fun p => (p.1, { p.2 with errSum := 0, errN := 0 }) }
    chan := s.chan.map fun p => (p.1, { p.2 with contamRun := 0, cleanRun := 0, fired := 0, class6 := 0, refCnt := 0 }) }

/-- The set-point moves to AZ_START from the estimate at this instant (R689). -/
def moveStart (s : State) : State := modLce (fun l => { l with moveFrom := some (s.tb, rdiv (estAt s s.tb) 65536) }) s

/-- The committed shots of the next phase are skipped under INHIBIT, and the frame in progress is closed with ABORTED at tEnd, from which
the set-point moves to AZ_START (R80, R265, R686, R689). -/
def abortFrame (tEnd : BitVec 64) (s : State) : State :=
  let was := s.rm.inFrame
  let plan := s.rm.planned.filter fun sh => !sh.gated
  let mine := fun (sh : Shot) => was && sh.frame == s.rm.frameNo
  let count := fun (s : State) (sh : Shot) => skipShot sh (if sh.skip = 0 then 1 else sh.skip) s
  let s := (plan.filter mine).foldl count s
  let s := closeFrame true tEnd s
  let s := (plan.filter fun sh => !mine sh).foldl (fun s sh => count s { sh with thin := true }) s
  let s := if was then moveStart (endRuns s) else s
  modRm (fun r => { r with planned := r.planned.filter (·.gated), nextFrame := none, skipCount := 0, skipMask := 0 }) s

/-- RUN or SAFE is left for CONFIG: the frame in progress is closed at this instant; the shots of the phase in progress go on, and
phases stop at the next boundary (R265, R561). -/
def leavePhases (s : State) : State :=
  if !s.rm.framing then s else modRm (fun r => { r with stopNext := true }) (abortFrame (t64Now s) s)

/-- Phases stop: shots not yet fired are skipped under INHIBIT, the frame in progress is closed with ABORTED at tEnd,
and nothing more is planned (R80, R265, R686, R689). -/
def stopPhases (tEnd : BitVec 64) (s : State) : State :=
  if !s.rm.framing then s
  else
    let s := abortFrame tEnd (cancelShots 1 ((upto 4).foldl (fun s b => replayEarly b s) s))
    let s := modRm (fun r => { r with
      framing := false, stopNext := false, planned := [], current := [], skipCount := 0, skipMask := 0 }) s
    let s := modFld (fun c => { c with bankS := c.bankS.map fun p => (p.1, { p.2 with fires := [] }) }) s
    let s := modRm (fun r => { r with coordActive := false }) s
    modRj (fun j => { j with coordStatus := 0 }) s

end Sys2Proof.Machine
end

