-- ==== Sys2Proof/Machine/TuneOps.lean ====
section
/-!
DEFINITION. Tuning Slide: tap tables, agreement, offset and walk sets, the calibration-stale state (R220 to R248).
-/
namespace Sys2Proof.Machine

/-- The build of the offset and walk set of a mode (R236). -/
def calOf (hist : Bool) (x : ChanS) : CalM := if hist then x.calH else x.calE
/-- It changed. -/
def modCal (hist : Bool) (f : CalM → CalM) (x : ChanS) : ChanS :=
  if hist then { x with calH := f x.calH } else { x with calE := f x.calE }

/-! ## The stale state (R240, R241, R243) -/

/-- CAL_SPAN_DRIFT and CAL_SPAN_LIMIT of input i: those in force for its channel set (R15). -/
def spanPar (s : State) (i : Nat) : Nat × Nat :=
  let now := (parN s 0x3405 0, parN s 0x3404 0)
  if i < 256 then bget now s.ts.spanOld (i / 8) else now

/-- The span factor of line l is outside CAL_SPAN_LIMIT; a length not yet measured is none (R240). -/
def spanExcess (s : State) (l : Nat) : Bool :=
  let len := spanLen s l
  len != 0 && decide ((spanPar s (l / 3)).2 * len < 1000 * ((tapLen s l : Int) - len).natAbs)

/-- The MON input of bank b is stale or out of span (R240, R247). -/
def monStale (s : State) (b : Nat) : Bool :=
  (upto 3).any fun k => (lineOf s (768 + 3 * b + k)).stale || spanExcess s (768 + 3 * b + k)

/-- CAL_STALE_CAUSE of channel c; conditions are tested on enabled channels only (R240, R241, R247). -/
def chanCause (s : State) (c : Nat) : Nat :=
  if !rxEnabled s c then 0
  else
    let x := chanOf s c
    let noSet := if s.ee.hist then x.setHist.isNone else x.setEcho.isNone
    ofBits 7 fun i => match i with
      | 0 => (upto 3).any fun k => (lineOf s (3 * c + k)).stale
      | 1 => (upto 3).any fun k => spanExcess s (3 * c + k)
      | 2 => (calOf s.ee.hist x).stale
      | 3 => (calOf s.ee.hist x).miss
      | 4 => parN s 0x3416 c == 0
      | 5 => noSet
      | _ => monStale s (c / 64)

/-- The stale state of channel c follows its conditions, with one entry at each change (R241, R243). -/
def refreshStale (s : State) (c : Nat) : State :=
  let old := (chanOf s c).staleCause
  let new := BitVec.ofNat 8 (chanCause s c)
  if old = new then s
  else
    let s := modChan c (fun x => { x with staleCause := new }) s
    if old = 0 then logNow 0x2601 c new.toNat s
    else if new = 0 then logNow 0x0602 c 0 s
    else s

/-- CAL_STALE_MON, and the channels of the banks of a list. -/
def refreshMon (s : State) (b : Nat) : State :=
  let s := modTs (fun c => { c with staleMon := BitVec.ofNat 8 (ofBits 4 (monStale s)) }) s
  (upto 64).foldl (fun s i => refreshStale s (64 * b + i)) s

/-- The stale state after a change of line l. -/
def refreshLine (l : Nat) (s : State) : State :=
  if l < 768 then refreshStale s (l / 3) else refreshMon s ((l - 768) / 3)

/-! ## Tap tables (R226 to R232) -/

/-- Tap widths of counters, the rounding remainder on the widest tap (R226). -/
def tapWidths (h : List Nat) : List Nat :=
  let n := max (nsum h) 1
  let w := h.map fun x => (rdiv ((65536 * x : Nat) : Int) n).toNat
  let top := w.foldl max 0
  let i := w.findIdx (· == top)
  w.set i ((top : Int) + 65536 - (nsum w : Nat)).toNat

/-- The 32 counters of a build. -/
def lineCounts (x : LineS) : List Nat := (upto 32).map fun j => bget 0 x.h j

/-- A build of line l starts again. -/
def buildRestart (l : Nat) (s : State) : State :=
  modLine l (fun x => { x with h := [], hits := 0, lenSum := 0, lenN := 0, lenFrom := 0 }) s

/-- TAP_BUILD_COMPLETE: 262,144 hits are a build; it waits for its test with the mean replica length (R226, R227). -/
def execTapBuildComplete (t : Nat) (line : Fin 780) (s : State) : Host.Outcome State Fault Refusal :=
  let s := s.start t
  let x := lineOf s line
  if x.hits < 262144 || !parB s 0x3400 0 then done s
  else
    let len := if x.lenN = 0 then x.lenFrom else (rdiv (x.lenSum : Int) x.lenN).toNat
    done (buildRestart line (modLine line (fun y => { y with done := some (lineCounts x, len) }) s))

/-- Differences of two builds' widths, the later scaled to the earlier's length, each times that length (R229). -/
def buildDiffs (a b : List Nat × Nat) : List Nat :=
  (List.zip (tapWidths a.1) (tapWidths b.1)).map fun p => ((p.2 * b.2 : Int) - p.1 * a.2).natAbs

/-- Two builds agree (R229). -/
def buildsAgree (a b : List Nat × Nat) : Bool :=
  let d := buildDiffs a b
  (d.all fun x => decide (x ≤ 307 * a.2)) && decide (nsum (d.map fun x => x * x) ≤ 32 * (102 * a.2) ^ 2)

/-- The table that two agreeing builds commit, with σ_tap (R230, R242). -/
def pairTable (a b : List Nat × Nat) : TapTab :=
  { w := tapWidths ((List.zip a.1 b.1).map fun p => p.1 + p.2)
    len := (rdiv ((a.2 + b.2 : Nat) : Int) 2).toNat
    sig := roundSqrt (78125 ^ 2 * nsum ((buildDiffs a b).map fun x => x * x)) (4096000 ^ 2 * 32 * max (a.2 * a.2) 1) }

/-- AGREEMENT_TEST: a completed build is the first of a pair, or agrees with it and goes to the shadow table, or replaces
it; three consecutive disagreements make the line stale (R229 to R232, R245). -/
def execAgreementTest (t : Nat) (line : Fin 780) (s : State) : Host.Outcome State Fault Refusal :=
  let s := s.start t
  let x := lineOf s line
  match x.done with
  | none => done s
  | some b =>
    if !parB s 0x3400 0 then done s
    else
      match x.first with
      | none => done (modLine line (fun y => { y with done := none, first := some b }) s)
      | some a =>
        if buildsAgree a b then
          done (modLine line (fun y => { y with
            done := none, first := none, disagree := 0, shadow := some (pairTable a b) }) s)
        else
          let s := modTs (fun c => { c with disagreeCnt := satInc c.disagreeCnt })
            (modLine line (fun y => { y with
              done := none, first := some b, disagree := y.disagree + 1
              stale := y.stale || decide (3 ≤ y.disagree + 1) }) s)
          done (refreshLine line s)

/-- The shadow table of line l swaps in; the retired one stays readable until the second boundary after (R231, R232). -/
def lineSwap (s : State) (l : Nat) : State :=
  let x := lineOf s l
  match if parB s 0x3400 0 then x.shadow else none with
  | none =>
    match x.retired with
    | some (t, n) => modLine l (fun y => { y with retired := if n ≤ 1 then none else some (t, n - 1) }) s
    | none => s
  | some t =>
    let old := x.table.getD { w := (upto 32).map (Config.prodTap l), len := Config.prodLen l, sig := Config.prodSigma l }
    let s := modLine l (fun y => { y with table := some t, shadow := none, retired := some (old, 2), stale := false }) s
    let s := modTs (fun c => { c with commitNow := true, commitCnt := satInc c.commitCnt }) s
    let s := if l < 768 then modChan (l / 3) (fun c => { c with commits := satInc c.commits }) s else s
    refreshLine l s

/-- A waiting offset and walk set of channel c swaps in, which ends its stale state; the retired one stays readable until the
second boundary after (R232, R238, R239). -/
def setSwap (s : State) (c : Nat) : State :=
  match if parB s 0x3400 0 then s.ts.setShadow.find? fun p => p.1 == c else none with
  | none =>
    if (chanOf s c).retSet.isNone then s
    else modChan c (fun x => { x with retSet := x.retSet.bind fun r =>
      if r.2.2.2 ≤ 1 then none else some (r.1, r.2.1, r.2.2.1, r.2.2.2 - 1) }) s
  | some (_, set) =>
    let hist := set.length != 132
    let s := modTs (fun t => { t with
      setShadow := t.setShadow.filter fun p => p.1 != c, commitNow := true, commitCnt := satInc t.commitCnt }) s
    let s := modChan c (fun x => { x with
      retSet := some (if hist then x.setHist else x.setEcho, hist, s.tb, 2)
      setEcho := if hist then x.setEcho else some set
      setHist := if hist then some set else x.setHist
      commits := satInc x.commits }) s
    let s := modChan c (modCal hist fun m => { m with miss := false, stale := false }) s
    refreshStale s c

/-- The tables of bank b's monitor swap in, and its replica length holds from here (R138, R232). -/
def monSwap (b : Nat) (s : State) : State :=
  let s := (upto 3).foldl (fun s k => lineSwap s (768 + 3 * b + k)) s
  modTs (fun t => { t with spanMonUse := bset t.spanMonUse b (bget 0 t.spanMon b) }) s

/-- The replica of input i is measured at a phase boundary: the span in force, the running builds' mean lengths, and the
discard of a build whose length drifted (R227, R228). -/
def replicaMeasure (s : State) (p : Fin 260 × Nat) : State :=
  let i := p.1.val
  let s := if i < 256 then modChan i (fun x => { x with span := p.2 }) s
    else modTs (fun c => { c with spanMon := bset c.spanMon (i - 256) p.2 }) s
  let s := (upto 3).foldl (fun s k =>
    let l := 3 * i + k
    let x := lineOf s l
    if x.hits = 0 then s
    else if (spanPar s i).1 * x.lenFrom < 1000 * ((p.2 : Int) - x.lenFrom).natAbs then
      buildRestart l (modTs (fun c => { c with discardCnt := satInc c.discardCnt }) s)
    else modLine l (fun y => { y with lenSum := y.lenSum + p.2, lenN := y.lenN + 1 }) s) s
  if i < 256 then refreshStale s i else refreshMon s (i - 256)

/-! ## Offset and walk sets (R236 to R239) -/

/-- Every sweep level holds at least 64 echoes (R237). -/
def levelsFull (l : List (List Int)) : Bool :=
  (upto 64).all fun i => decide (64 ≤ (l.filter fun e => e.getD 0 0 == (i : Int)).length)

/-- Mean of a list of integers, rounded; 0 for none. -/
def meanI (l : List Int) : Int := rdiv (isum l) (max l.length 1 : Nat)

/-- V_k / E at the lowest level where threshold k is crossed by half of the echoes and was not below it, times 2^32 with
V_k in mV and E in pJ; the level of the 50 percent point is taken whole (R237; DESIGN CHOICE, log entry 13). -/
def gainAt (l : List (List Int)) (k : Nat) : Option Nat :=
  let at_ := fun i => l.filter fun e => e.getD 0 0 == (i : Int)
  let half := fun i => decide ((at_ i).length ≤ 2 * ((at_ i).filter fun e => decide (0 ≤ e.getD (5 + k) 0)).length)
  match (upto 64).find? half with
  | none => none
  | some i =>
    if i = 0 then none
    else
      let v := meanI ((at_ i).map fun e => e.getD (2 + k) 0)
      let en := meanI ((at_ i).map fun e => e.getD 1 0)
      if en ≤ 0 then none else some ((v * one32 / en).toNat)

/-- The gain g: the mean of the ratios, times 2^32 (R237). -/
def gainOf (l : List (List Int)) : Option Nat :=
  let g := (upto 3).filterMap (gainAt l)
  if g.isEmpty then none else some (nsum g / g.length)

/-- Position on the fraction scale of threshold code v under energy e and gain g. -/
def posOfGain (g : Nat) (v e : Int) : Nat := posOfLog (log2Q v.toNat 1) (log2Q (max (g * e.toNat) 1) one32)

/-- A point list read at position p (65,536 a point), linear between points; unit 1/16 stamp unit (R237). -/
def pointAt (l : List Int) (p : Nat) : Int :=
  let i := p / 65536
  let f : Int := (p % 65536 : Nat)
  rdiv (l.getD i 0 * (65536 - f) + l.getD (i + 1) (l.getD i 0) * f) 65536

/-- Points of a table: mean of the samples nearest each point, which are in 1/u stamp unit; unit 1/16 stamp unit. -/
def tablePoints (n u : Nat) (samples : List (Nat × Int)) : List (Option Int) :=
  (upto n).map fun i =>
    let m := samples.filter fun p => p.1 == i
    if m.isEmpty then none else some (rdiv (16 * isum (m.map (·.2))) (u * m.length : Nat))

/-- The value of the nearest point with data. -/
def fillPoints (l : List (Option Int)) : List Int :=
  (upto l.length).map fun i =>
    let cand := (sortBy (fun (j : Nat) => (((j : Int) - i).natAbs : Int)) (upto l.length)).filterMap fun j => l.getD j none
    cand.headD 0

/-- Value of a table of 65 points at the fraction 0.5. -/
def midOf (l : List Int) : Int := pointAt l 3495253

/-- Position of N_s / n_f among the 32 points from 1/8 to 16, 65,536 a point (R237). -/
def histPos (ns nf : Nat) : Nat :=
  (clampI 0 2031616 ((log2Q (max ns 1) (max nf 1) + 3 * one32) * 2031616 / (7 * one32))).toNat

/-- The two builds' mean set: every entry their mean, the standard error that of the mean offset (R238, R242). -/
def meanSet (a b : List Int) : List Int :=
  let n := a.length - 1
  ((List.zip a b).take n).map (fun p => rdiv (p.1 + p.2) 2) ++
    [((roundSqrt ((a.getD n 0).natAbs ^ 2 + (b.getD n 0).natAbs ^ 2) 4 : Nat) : Int)]

/-- The echo-mode set of channel c from its filed echoes; none while the build is incomplete (R237). -/
def buildEchoSet (s : State) (c : Nat) (l : List (List Int)) : Option (List Int) :=
  match gainOf l with
  | none => none
  | some g =>
    let crossings := fun (base : Nat) => (l.map fun e => (upto 3).filterMap fun k =>
      let r := e.getD (base + k) (-1)
      if r < 0 then none
      else some ((posOfGain g (e.getD (2 + k) 1) (e.getD 1 1) + 32768) / 65536, r)).flatten
    let rise := tablePoints 65 1 (crossings 5)
    let fall := tablePoints 65 1 (crossings 8)
    if !((upto 22).any fun i => (rise.getD i none).isSome) || (rise.getD 64 none).isNone then none
    else
      let mid := midOf (fillPoints rise)
      let r := (fillPoints rise).map (· - mid)
      let f := (fillPoints fall).map (· - mid)
      let t0 := l.map fun e =>
        let ks := (upto 3).filter fun k => decide (0 ≤ e.getD (5 + k) (-1))
        rdiv (isum (ks.map fun k =>
          16 * e.getD (5 + k) 0 - pointAt r (posOfGain g (e.getD (2 + k) 1) (e.getD 1 1))))
          (max ks.length 1 : Nat)
      let ref := rdiv (16 * 2 * (parN s 0x3416 c : Int) * rngIdx s * (100000000000 + freqUsed s) * 128 * 1000000)
        (10000000 * 299792458 * 100000000000)
      let m := meanI t0
      let var := nsum (t0.map fun x => (x - m).natAbs ^ 2)
      let n := max l.length 1
      some ([m - ref] ++ r ++ f ++ [((roundSqrt (var * 78125 ^ 2) (16000 ^ 2 * n * n) : Nat) : Int)])

/-- The histogram-mode set of channel c: mean zoom centroids at 32 points of N_s / n_f from 1/8 to 16, normalised to 0 at 0.5
like the walk; filed centroids are in 1/4096 unit (R237; the point of normalisation is DEDUCED, log entry 13). -/
def buildHistSet (s : State) (c : Nat) (l : List (List Int)) : Option (List Int) :=
  let pos := fun (e : List Int) => histPos (e.getD 2 1).toNat (e.getD 3 1).toNat
  let mid := histPos 1 2
  let pts := tablePoints 32 4096 (l.map fun e => ((pos e + 32768) / 65536, e.getD 4 0))
  if pts.all fun x => x.isNone then none
  else
    let v := fillPoints pts
    let w := v.map (· - pointAt v mid)
    let t0 := l.map fun e => e.getD 4 0 - 256 * pointAt w (pos e)
    let ref := rdiv (16 * 2 * (parN s 0x3416 c : Int) * rngIdx s * (100000000000 + freqUsed s) * 128 * 1000000)
      (10000000 * 299792458 * 100000000000)
    let m := meanI t0
    let var := nsum (t0.map fun x => (x - m).natAbs ^ 2)
    let n := max l.length 1
    some ([rdiv m 256 - ref] ++ w ++ [((roundSqrt (var * 78125 ^ 2) (4096000 ^ 2 * n * n) : Nat) : Int)])

/-- Two sets agree (R238). -/
def setsAgree (s : State) (a b : List Int) : Bool :=
  decide (a.length = b.length) &&
    (upto (a.length - 1)).all fun i =>
      decide ((a.getD i 0 - b.getD i 0).natAbs ≤ 16 * parN s (if i = 0 then 0x3414 else 0x3415) 0)

/-- Frames that have ended since reset (R85, R237, R239). -/
def framesDone (s : State) : Nat := s.rm.framesStarted - b2n s.rm.inFrame

/-- SET_BUILD at a frame start: a build of the mode in force that covers CAL_REF_FRAMES frames and has every level filled is
computed and tested against the previous one (R237, R238, R245). -/
def setBuild (s : State) (c : Nat) : State :=
  let hist := s.ee.hist
  let x := calOf hist (chanOf s c)
  if !parB s 0x3400 0 || !rxEnabled s c || x.filed.isEmpty ||
      framesDone s < x.from_ + parN s 0x3412 0 || !levelsFull x.filed then s
  else
    match if hist then buildHistSet s c x.filed else buildEchoSet s c x.filed with
    | none => s
    | some set =>
      let s := modChan c (modCal hist fun m => { m with filed := [], from_ := framesDone s }) s
      match x.prev with
      | none => modChan c (modCal hist fun m => { m with prev := some set }) s
      | some old =>
        if setsAgree s old set then
          modTs (fun t => { t with setShadow := t.setShadow.filter (fun p => p.1 != c) ++ [(c, meanSet old set)] })
            (modChan c (modCal hist fun m => { m with prev := none, disagree := 0 }) s)
        else
          let s := modTs (fun t => { t with disagreeCnt := satInc t.disagreeCnt })
            (modChan c (modCal hist fun m => { m with
              prev := some set, disagree := m.disagree + 1, stale := m.stale || decide (3 ≤ m.disagree + 1) }) s)
          refreshStale s c

/-- The mode of the engines changes at a frame start: the builds of its sets begin then, those of the other mode stay as
they are (R163, R236). -/
def modeChange (hist : Bool) (s : State) : State :=
  if s.ee.hist = hist then s
  else
    let s := modEe (fun e => { e with hist := hist }) s
    (upto 256).foldl (fun s c => modChan c (modCal hist fun m => { m with from_ := framesDone s }) s) s

/-- The frame count of R239 starts again for the channels that a new RX_ENABLE enables. -/
def rxStarts (before : State) (s : State) : State :=
  ((upto 256).filter fun c => rxEnabled s c && !rxEnabled before c).foldl (fun s c =>
    modChan c (fun x => { x with
      calE := { x.calE with from_ := framesDone s }, calH := { x.calH with from_ := framesDone s } }) s) s

/-- REFERENCE_MISSING: a build of the mode in force not complete after CAL_REF_MISS frames makes the channel stale, logs one
entry and starts again (R239). -/
def execReferenceMissing (t : Nat) (chan : Fin 256) (s : State) : Host.Outcome State Fault Refusal :=
  let s := s.start t
  let hist := s.ee.hist
  let x := calOf hist (chanOf s chan)
  if rxEnabled s chan && decide (x.from_ + parN s 0x3413 0 ≤ framesDone s) then
    let s := logNow 0x1603 chan 0 s
    done (refreshStale (modChan chan (modCal hist fun m => { m with
      miss := true, filed := [], from_ := framesDone s }) s) chan)
  else done s

end Sys2Proof.Machine
end

