-- ==== Sys2Proof/Machine/EngineOps.lean ====
section
/-!
DEFINITION. Echo engines: which engine serves a channel, declarations, spares, replays from the shadow buffer, and their
commands (R160, R181 to R192).
-/
namespace Sys2Proof.Machine

/-- Engine n. -/
def engOf (s : State) (n : Nat) : EngS := bget {} s.ee.eng n
/-- Engine n changed. -/
def modEng (n : Nat) (f : EngS → EngS) (s : State) : State := modEe (fun e => { e with eng := bmod {} e.eng n f }) s

/-- A spare is healthy and serves nothing (R183). -/
def spareFree (s : State) (n : Nat) : Bool := !(engOf s n).retired && (engOf s n).serves.isNone

/-- The spare that serves set m, if any. -/
def spareFor (s : State) (m : Nat) : Option Nat :=
  [16, 17].find? fun n => !(engOf s n).retired && (engOf s n).serves == some m

/-- The set an engine serves: its own, or the one a spare has taken over. -/
def setOf (s : State) (n : Nat) : Option Nat :=
  if (engOf s n).retired then none else if n < 16 then some n else (engOf s n).serves

/-- Live stamps of set m are processed: by its own engine, or by a spare that takes them (R183). -/
def setLive (s : State) (m : Nat) : Bool :=
  !(engOf s m).retired || (match spareFor s m with
    | some n => (engOf s n).live
    | none => false)

/-- The engine that serves set m. -/
def engineOf (s : State) (m : Nat) : Nat := if (engOf s m).retired then (spareFor s m).getD m else m

/-- The zoomed results held for engine n leave, to the point formatter where its test has passed (R182). -/
def zoomedOut (n : Nat) (pass : Bool) (s : State) : State :=
  let l := (s.pt.zoomed.filter fun p => p.1 == n).map (·.2)
  let s := modPt (fun p => { p with zoomed := p.zoomed.filter fun q => q.1 != n }) s
  if pass then l.foldl (fun s r => addResult { r with order := orderOf s.tb 0 (r.order % 256), phase := s.rm.boundary } s) s
  else s

/-- Shadow units of emitter em. -/
def unitsOf (s : State) (em : Nat) : List ShUnit := bget [] s.ee.shadow em

/-- The start stamp of the newest unit of a set, 0 with none. -/
def newestStart (s : State) (m : Nat) : Nat :=
  ((unitsOf s (2 * m) ++ unitsOf s (2 * m + 1)).map (·.tStart)).foldl max 0

/-- The window of a unit's shot closed at this instant (R59). -/
def closeOf (u : ShUnit) : Nat := u.tStart + shotWin (u.shot.getD {})

/-- HIST_K in force at a unit's shot. -/
def unitK (u : ShUnit) : Nat := max (dvInt ((dlook u.pars (dkey 0x2C01 0)).getD (dictDefault 0x2C01 0))).toNat 1

/-- The group of a unit: flyback shots are single (R172). -/
def groupKey (u : ShUnit) : Nat × Bool × Nat :=
  let sh := u.shot.getD {}
  (u.frame.toNat, sh.flyback, if sh.flyback then sh.cycle else sh.cycle / unitK u)

/-- The units of the group that a unit belongs to, oldest first (R172). -/
def groupUnits (s : State) (u : ShUnit) : List ShUnit :=
  (unitsOf s u.em).filter fun v => groupKey v == groupKey u

/-- The last unit of its group. -/
def groupLast (s : State) (u : ShUnit) : Bool := ((groupUnits s u).getLast?.map (·.tStart)) == some u.tStart

/-- The shot of a unit is of its group's last cycle. -/
def groupFull (u : ShUnit) : Bool :=
  let sh := u.shot.getD {}
  sh.flyback || sh.cycle % unitK u == unitK u - 1 || sh.cycle + 1 == sh.nAct

/-- The group of a unit is complete: its last cycle has closed, or its cycles have passed. R176 finalises at the close of the last
shot; of a group whose last shots were not fired the end of its cycles takes that place (DESIGN CHOICE, log entry 99) (R172, R176). -/
def groupComplete (s : State) (u : ShUnit) : Bool :=
  let sh := u.shot.getD {}
  let k := unitK u
  groupFull u || !s.rm.inFrame || u.frame != s.rm.frameNo || sh.cycle / k != s.rm.cycle / k || decide (s.rm.nAct ≤ s.rm.cycle)

/-- The unit whose result channel c still owes: in echo mode the newest of its emitter, in histogram mode the last of its oldest
group without a result. -/
def unitDue (s : State) (c : Nat) : Option ShUnit :=
  let owed := fun (u : ShUnit) => rxEnabled s c && decide ((chanOf s c).doneAt < u.tStart + 1)
  if s.ee.hist then (unitsOf s (c / 8)).find? fun u => groupLast s u && owed u
  else match (unitsOf s (c / 8)).getLast? with
    | some u => if owed u then some u else none
    | none => none

/-- The unit whose result is due now: in histogram mode that of a complete group. -/
def unitReady (s : State) (c : Nat) : Option ShUnit :=
  match unitDue s c with
  | some u => if s.ee.hist && !groupComplete s u then none else some u
  | none => none

/-- A result this late is discarded: more than 150 ns after the close it counts from (R180, R182). A group whose last shot was
not fired has no such close. -/
def tooLate (s : State) (u : ShUnit) : Bool :=
  decide (closeOf u + 150 * nsU < s.tb) && (!s.ee.hist || groupFull u)

/-- Channel c has no result of a unit, or only one given since an instant (R182). -/
def suspectRes (since : Nat) (u : ShUnit) (c : Nat) : Bool :=
  match u.res.find? fun p => p.1 == c % 8 with
  | some (_, at_) => decide (since ≤ at_)
  | none => true

/-- Units that the spare n replays for channel c, oldest first, in histogram mode the last of each complete group: those with
a suspect result and those with none (R182 to R185). -/
def replayUnits (s : State) (n c : Nat) : List ShUnit :=
  (unitsOf s (c / 8)).filter fun u => suspectRes (engOf s n).suspectFrom u c &&
    !(engOf s n).replayLeft.contains (c, u.tStart) && (!s.ee.hist || (groupLast s u && groupComplete s u))

/-- The spare has nothing left to replay. -/
def replayDone (s : State) (n : Nat) : Bool :=
  match (engOf s n).serves with
  | none => true
  | some m => (upto 16).all fun i => !rxEnabled s (16 * m + i) || (replayUnits s n (16 * m + i)).isEmpty

/-- A replay of a shot of a frame is still pending (R264). -/
def replayPending (s : State) (frame : BitVec 32) : Bool :=
  [16, 17].any fun n => !(engOf s n).live && !(engOf s n).retired && (match (engOf s n).serves with
    | none => false
    | some m => (upto 16).any fun i => rxEnabled s (16 * m + i) &&
        (replayUnits s n (16 * m + i)).any fun u => u.frame == frame)

/-- The declarations of set m that wait are logged, oldest first, with the number of channel-shots replayed (R188). -/
def logDeclared (m shots : Nat) (s : State) : State :=
  let l := s.ee.declPend.filter fun p => p.2.2 == m
  l.foldl (fun s p => logNow 0x2401 p.1 (p.2.1 + 65536 * min shots 65535) s)
    (modEe (fun e => { e with declPend := e.declPend.filter fun p => p.2.2 != m }) s)

/-- The channel set m is lost; entry 0x3403 names the set by the number of its own engine (R189; DESIGN CHOICE, log entry 99). -/
def setLost (m : Nat) (s : State) : State :=
  let s := (upto 16).foldl (fun s i => modChan (16 * m + i) (fun c => { c with lost := true }) s) s
  logNow 0x3403 m 0 s

/-- Spare n takes over set m, whose suspect results begin at an instant (R182, R183, R188). -/
def assignSpare (n m suspect : Nat) (s : State) : State :=
  modEe (fun e => { e with spareUsed := true })
    (modEng n (fun e => { e with
      serves := some m, replayFrom := some s.tb, declAt := s.tb, ready := false, live := false
      suspectFrom := suspect, replayLeft := [] }) s)

/-- The result of channel c for its unit of start stamp at_ is taken back, as its zoomed records will not be delivered (R182). -/
def unResult (c at_ : Nat) (s : State) : State :=
  modEe (fun e => { e with shadow := bmod [] e.shadow (c / 8) fun l => l.map fun v =>
    if v.tStart = at_ then { v with res := bdel v.res (c % 8) } else v }) s

/-- The zoomed results that engine n holds, and those that its set m still has to zoom, are to be formed again (R182). -/
def unZoomed (n m : Nat) (s : State) : State :=
  let s := (s.pt.zoomed.filter fun p => p.1 == n).foldl (fun s p =>
    match p.2.recs with
    | r :: _ => unResult r.chan p.2.unitAt s
    | [] => s) s
  (upto 16).foldl (fun s i =>
    let c := 16 * m + i
    let s := match (chanOf s c).histDue with
      | some at_ => unResult c at_ s
      | none => s
    modChan c (fun x => { x with histPeaks := [], histDue := none }) s) s

/-- An engine is declared faulty for a cause: 1 deadline, 2 known-answer test, 3 ECC; zoomed results without a passed test are
not delivered. The lowest healthy spare takes its set; of two engines declared in one phase the lower takes EE16; with no spare
left the set is lost. Earlier declarations of the set that a failing spare was replaying are logged with its count (R181 to R183, R188,
R189). -/
def declareFault (n cause : Nat) (s : State) : State :=
  match setOf s n with
  | none => s
  | some m =>
    let s := zoomedOut n false (unZoomed n m s)
    let suspect := if cause = 1 then s.tb + 1 else (engOf s n).suspectFrom
    let s := logDeclared m (engOf s n).replayLeft.length s
    let s := modEng n (fun e => { e with retired := true, live := false, ready := false, serves := none }) s
    let s := modEe (fun e => { e with
      faultT := t64Now s, faultPos := s.rm.pos, faultCause := cause, faultEng := n, faultShots := 0, faultSet := m
      declPend := e.declPend ++ [(n, cause, m)] }) s
    if spareFree s 16 then assignSpare 16 m suspect s
    else if spareFree s 17 then
      let f := engOf s 16
      match f.serves with
      | some k =>
        if m < k && decide (s.rm.boundary ≤ f.declAt) then
          let s := assignSpare 17 k f.suspectFrom s
          assignSpare 16 m suspect (modEng 17 (fun e => { e with replayLeft := f.replayLeft }) s)
        else assignSpare 17 m suspect s
      | none => assignSpare 17 m suspect s
    else logDeclared m 0 (setLost m (modEe (fun e => { e with spareUsed := true }) s))

/-- An idle spare is withdrawn (R189). -/
def withdrawSpare (n : Nat) (s : State) : State :=
  let s := modEe (fun e => { e with spareUsed := true }) (modEng n (fun e => { e with retired := true }) s)
  logNow 0x2402 n 0 s

/-- A declaration by an engine or an idle spare. -/
def engineFails (n cause : Nat) (s : State) : State :=
  if (engOf s n).retired then s
  else if 16 ≤ n && (engOf s n).serves.isNone then withdrawSpare n s
  else declareFault n cause s

/-- A shot of set m is still to be fired in the phase in progress, or its window to close: the spare will replay it too (R183). -/
def setOpen (s : State) (m : Nat) : Bool :=
  (s.rm.current.any fun sh => sh.em / 2 == m && sh.skip == 0 && !sh.gated) ||
    (upto 4).any fun b =>
      let x := bankOf s b
      x.fired.any (fun sh => sh.em / 2 == m) || (x.winOpen && x.shot.any fun sh => sh.em / 2 == m)

/-- The end of a replay, when nothing more is captured for it: the declarations for its set are logged with the count (R188). -/
def replayEnd (n : Nat) (s : State) : State :=
  match (engOf s n).serves with
  | some m => if replayDone s n && (engOf s n).ready && !setOpen s m then logDeclared m (engOf s n).replayLeft.length s else s
  | none => s

/-- Engine n is idle: the emitters of its set do not fire in the phase in progress; a spare that serves none is always idle
(R160, R162). -/
def engineIdle (s : State) (n : Nat) : Bool :=
  s.rm.framing && (match setOf s n with
    | some m => bits (parN s 0x2018 0) (4 * s.rm.pos + 3) (4 * s.rm.pos) % 8 / 2 != m % 4 || s.rm.current.isEmpty
    | none => true)

/-- Engine n has run its test of the phase in progress (R162). -/
def testDone (s : State) (n : Nat) : Bool := (engOf s n).katPhase == s.rm.boundary + 1

/-- The set of engine n still waits for a zoom pass (R162). -/
def zoomOwed (s : State) (n : Nat) : Bool :=
  match setOf s n with
  | some m => (upto 16).any fun i => !(chanOf s (16 * m + i)).histPeaks.isEmpty
  | none => false

/-- KNOWN_ANSWER_TEST: an engine completes its one test of an idle phase, after its zoom passes, on the current vector; a wrong
signature declares it faulty, or withdraws an idle spare (R162, R181, R182, R189). -/
def execKnownAnswerTest (t : Nat) (eng : Fin 18) (pass : Bool) (s : State) : Host.Outcome State Fault Refusal :=
  let s := s.start t
  if (engOf s eng).retired || !engineIdle s eng || testDone s eng || zoomOwed s eng then done s
  else
    let s := modEng eng (fun e => { e with katEcho := !e.katEcho, katPhase := s.rm.boundary + 1 }) s
    if pass then
      let s := zoomedOut eng true s
      done (if setOf s eng == some eng.val || (engOf s eng).live then modEng eng (fun e => { e with suspectFrom := s.tb }) s else s)
    else done (engineFails eng 2 (modEe (fun e => { e with katFail := satInc e.katFail }) s))

/-- Set m owes a result 150 ns after the close that it counts from (R181). -/
def pastDeadline (s : State) (m : Nat) : Bool :=
  setLive s m && (upto 16).any fun i =>
    let x := chanOf s (16 * m + i)
    !x.lost && !x.failed && (match unitReady s (16 * m + i) with
      | some u => decide (closeOf u + 150 * nsU ≤ s.tb) && (!s.ee.hist || groupFull u)
      | none => false)

/-- COMPLETION_DEADLINE_MISS: completion not signalled 150 ns after window close (R181, R182). -/
def execCompletionDeadlineMiss (t : Nat) (eng : Fin 18) (s : State) : Host.Outcome State Fault Refusal :=
  let s := s.start t
  match setOf s eng with
  | none => done s
  | some m =>
    if pastDeadline s m then done (engineFails eng 1 (modEe (fun e => { e with deadline := satInc e.deadline }) s))
    else done s

/-- ENGINE_SRAM_ECC_ERROR: a single-bit error is corrected and counted, another declares the engine faulty (R181). -/
def execEngineSramEccError (t : Nat) (eng : Fin 18) (fixed : Bool) (s : State) : Host.Outcome State Fault Refusal :=
  let s := s.start t
  if fixed then done (modEe (fun e => { e with eccCorr := satInc e.eccCorr }) s)
  else done (engineFails eng 3 s)

/-- SPARE_READY: a spare has loaded configuration and tables and replays (R183, R184). -/
def execSpareReady (t : Nat) (spare : Fin 2) (s : State) : Host.Outcome State Fault Refusal :=
  let s := s.start t
  let n := 16 + spare.val
  let e := engOf s n
  if e.retired || e.serves.isNone || e.replayFrom.isNone || e.ready then done s
  else done (replayEnd n (modEng n (fun e => { e with ready := true }) s))

/-- At a phase boundary that opens a phase of its set, a spare whose replay has ended takes live stamps (R183). -/
def sparesLive (s : State) : State :=
  [16, 17].foldl (fun s n =>
    let e := engOf s n
    match e.serves with
    | some m =>
      if e.ready && !e.live && replayDone s n && s.rm.current.any (fun sh => sh.em / 2 == m) then
        let s := logDeclared m e.replayLeft.length s
        modEng n (fun e => { e with live := true, suspectFrom := s.tb, replayLeft := [], replayFrom := none }) s
      else s
    | none => s) s

end Sys2Proof.Machine
end

