-- ==== Sys2Proof/Machine/FwdOps.lean ====
section
/-!
DEFINITION. Forwarded point records and frame headers on the receiving side: order, full rings, rewritten headers (R267,
R272, R273, R588).
-/
namespace Sys2Proof.Machine

/-- Rings of lane n's forwarded records and headers. -/
def fwdPtRing (s : State) (n : Nat) : Nat := parN s 0x7C12 n
/-- See fwdPtRing. -/
def fwdHdrRing (s : State) (n : Nat) : Nat := parN s 0x7C13 n

/-- The forwarded header with FIRST_INDEX, POINT_COUNT, DROPPED and TRUNCATED of this ring's stream: records that were
dropped here add to those the forwarder dropped (R588). -/
def fwdRewrite (l : SlkS) (h : List Byte) : List Byte :=
  let w := fun (i : Nat) => ofLe ((h.drop (4 * i)).take 4)
  let w3 := if l.fwdTrunc && decide (w 3 < 2147483648) then w 3 + 2147483648 else w 3
  h.take 12 ++ leBytes 4 w3 ++ (h.drop 16).take 16 ++ leBytes 4 l.fwdFirst.toNat ++ leBytes 4 l.fwdCount.toNat ++
    leBytes 4 (min 0xFFFFFFFF (w 10 + l.fwdDrop.toNat)) ++ h.drop 44

/-- Rewritten headers of lane n are written while their ring has room (R273). -/
def fwdHeaders (n : Nat) : List (List Byte) → State → State
  | [], s => modLane n (fun l => { l with fwdHdrs := [] }) s
  | h :: rest, s =>
    if ringTakes s (fwdHdrRing s n) then fwdHeaders n rest (ringItem (fwdHdrRing s n) h s)
    else modLane n (fun l => { l with fwdHdrs := h :: rest }) s

/-- Items received on lane n go out in order: records to their ring while it has room and fewer than 64 headers are held,
discarded and counted in a truncated frame; a header follows its frame's last record and closes it (R261, R272, R273, R588). -/
def fwdItems (n : Nat) : List (Bool × List Byte × Nat) → State → State
  | [], s => modLane n (fun l => { l with fwdQ := [] }) s
  | (hdr, d, at_) :: rest, s =>
    let l := laneOf s n
    if hdr && !(ringOf s (fwdPtRing s n)).waiting.isEmpty then modLane n (fun l => { l with fwdQ := (hdr, d, at_) :: rest }) s
    else if hdr then
      let s := modLane n (fun l => { l with
        fwdFirst := l.fwdIndex, fwdCount := 0, fwdDrop := 0, fwdTrunc := false }) s
      fwdItems n rest (fwdHeaders n (l.fwdHdrs ++ [fwdRewrite l d]) s)
    else if l.fwdTrunc then fwdItems n rest (modLane n (fun l => { l with fwdDrop := satAdd l.fwdDrop 1 }) s)
    else if ringTakes s (fwdPtRing s n) && decide (l.fwdHdrs.length < 64) then
      fwdItems n rest (ringItem (fwdPtRing s n) d (modLane n (fun l => { l with
        fwdIndex := l.fwdIndex + 1, fwdCount := l.fwdCount + 1 }) s))
    else modLane n (fun l => { l with fwdQ := (hdr, d, at_) :: rest }) s

/-- Held items of lane n are written as far as the rings have room. -/
def fwdDrain (n : Nat) (s : State) : State :=
  let s := if (laneOf s n).fwdHdrs.isEmpty then s else fwdHeaders n (laneOf s n).fwdHdrs s
  if (laneOf s n).fwdQ.isEmpty then s else fwdItems n (laneOf s n).fwdQ s

/-- Records of lane n that wait on its full ring longer than PT_HOLD leave it, discarded; they take no index (R267, R272, R588). -/
def fwdUnwritten (n : Nat) (s : State) : State :=
  let k := fwdPtRing s n
  match (ringOf s k).waiting with
  | [] => s
  | i :: _ =>
    if ringTakes s k || decide (s.tb ≤ i.at_ + parN s 0x3806 0 * msU) then s
    else
      let m := (ringOf s k).waiting.length
      modLane n (fun l => { l with
        fwdIndex := l.fwdIndex - BitVec.ofNat 32 m, fwdCount := l.fwdCount - BitVec.ofNat 32 m
        fwdDrop := satAdd l.fwdDrop m, fwdTrunc := true })
        (modRing k (fun r => { r with waiting := [] }) s)

/-- A record held longer than PT_HOLD is discarded with every later one of its frame (R272, R588). -/
def fwdExpiry (n : Nat) (s : State) : State :=
  let s := fwdUnwritten n s
  match (laneOf s n).fwdQ with
  | [] => s
  | (_, _, a) :: _ =>
    if a + parN s 0x3806 0 * msU < s.tb then fwdDrain n (modLane n (fun l => { l with fwdTrunc := true }) s) else s

/-- An item received for lane n's rings; a stopped ring's items wait as a full one's, and a ring that is not enabled takes none (R249, R529,
R588). -/
def fwdTake (n : Nat) (hdr : Bool) (d : List Byte) (s : State) : State :=
  if (ringOf s (if hdr then fwdHdrRing s n else fwdPtRing s n)).enable then
    fwdDrain n (modLane n (fun l => { l with fwdQ := l.fwdQ ++ [(hdr, d, s.tb)] }) s)
  else s

end Sys2Proof.Machine
end

