-- ==== Sys2Proof/Machine/Points.lean ====
section
/-!
DEFINITION. The point formatter: colouring, record order, write bursts, full rings, frame headers, forwarding (R249 to R274,
R399, R400, R586, R587).
-/
namespace Sys2Proof.Machine

/-! ## Colouring (R259, R400) -/

/-- The sine of u in units of 0.005°, 0 ≤ u ≤ 18,000, with 32 fraction bits (log entry 13). -/
def sinFirst (u : Int) : Int := sinSeries (u * 13493037705 / 36000)

/-- The sine of u in units of 0.005°. -/
def sinU (u : Int) : Int :=
  let v := u % 72000
  if v ≤ 18000 then sinFirst v
  else if v ≤ 36000 then sinFirst (36000 - v)
  else if v ≤ 54000 then -sinFirst (v - 36000)
  else -sinFirst (72000 - v)

/-- The cosine of u in units of 0.005°. -/
def cosU (u : Int) : Int := sinU (u + 18000)

/-- An FX32 number with 32 fraction bits. -/
def fxQ (k : FX) : Int := k.m * one32 / (2 ^ k.s : Nat)

/-- A parameter attached to a map or frame (R380). -/
def keepPar (l : List (Nat × DVal)) (num sub : Nat) : DVal :=
  match l.find? fun p => p.1 == dkey num sub with
  | some p => p.2
  | none => dictDefault num sub

/-- The map pixel (column, row) that a point of a range in 0.25 mm, elevation and azimuth in 0.005° projects to, if it
projects (R400). -/
def project (m : CMap) (ctx range : Nat) (el az : Int) : Option (Nat × Nat) :=
  let r : Int := (range : Int) * one32 / 4000
  let k := fun (num sub : Nat) => fxQ (dvFx (keepPar m.pars num sub))
  let mul := fun (a b : Int) => a * b / one32
  let h := [mul (mul r (cosU el)) (cosU az), mul (mul r (cosU el)) (sinU az), mul r (sinU el)]
  let d := h.mapIdx fun i v => v - k 0x5021 (12 * ctx + 9 + i)
  let row := fun (i : Nat) => isum ((upto 3).map fun j => mul (k 0x5021 (12 * ctx + 3 * i + j)) (d.getD j 0))
  let z := row 2
  if 10 * z ≤ one32 then none
  else
    let x := row 0 * one32 / z
    let y := row 1 * one32 / z
    let q := mul x x + mul y y
    let g := one32 + mul (k 0x5020 (8 * ctx + 4)) q + mul (k 0x5020 (8 * ctx + 5)) (mul q q)
    let u := k 0x5020 (8 * ctx + 2) + mul (mul (k 0x5020 (8 * ctx)) g) x
    let v := k 0x5020 (8 * ctx + 3) + mul (mul (k 0x5020 (8 * ctx + 1)) g) y
    if 0 ≤ u && decide (u < m.width * one32) && decide (0 ≤ v) && decide (v < m.height * one32) then
      some ((u / one32).toNat / max m.div 1, (v / one32).toNat / max m.div 1)
    else none

/-- POINT_COLOURING: a record takes its colour from the most recent complete frame of the colour context where it may and
projects (R259, R260, R400). -/
def colour (s : State) (tStart : BitVec 64) (r : Rec) : Rec :=
  let ctx := parN s 0x3804 0
  if !r.valid || r.range == 0 || decide (8 ≤ ctx) then { r with camctx := 15, rgb := 0 }
  else match (bget ({} : CtxS) s.cam.ctx ctx).map with
    | none => { r with camctx := 15, rgb := 0 }
    | some m =>
      if decide ((parN s 0x3805 0 * msU : Int) < (tStart - m.tFrame).toInt) then { r with camctx := 15, rgb := 0 }
      else match project m ctx r.range (parI s 0x5023 r.chan) r.az with
        | some (c, w) => { r with camctx := ctx, rgb := (m.pix.getD w []).getD c 0 }
        | none => { r with camctx := 15, rgb := 0 }

/-! ## Records -/

/-- The four words of a point record (R251). -/
def recWords (r : Rec) : List Nat :=
  [b2n r.valid * 2 ^ 31 + r.echo % 4 * 2 ^ 29 + r.chan % 256 * 2 ^ 21 + r.range % 2 ^ 21,
   b2n r.sat * 2 ^ 31 + r.eclass % 8 * 2 ^ 28 + r.intens % 4096 * 2 ^ 16 + (clampI (-32768) 32767 r.az % 65536).toNat,
   b2n r.throttled * 2 ^ 31 + b2n r.fbdegr * 2 ^ 30 + b2n r.replayed * 2 ^ 29 + b2n r.calstale * 2 ^ 28 +
     r.kbin % 16 * 2 ^ 24 + r.tofs % 2 ^ 24,
   r.camctx % 16 * 2 ^ 28 + r.sigma % 64 * 2 ^ 22 + r.conf % 64 * 2 ^ 16 + r.rgb % 65536]

/-- Its bytes (R251). -/
def recBytes (r : Rec) : List Byte := ((recWords r).map (leBytes 4)).flatten

/-- The frame whose header is due first. -/
def dueFrame (s : State) : Option (BitVec 32 × Bool) :=
  match s.pt.hdrDue with
  | [] => none
  | h :: _ => some (h.1.getD 2 0, h.2)

/-- The result whose records are formed next: the first of the oldest frame that is not yet complete in the stream
(R261, R263, R264). -/
def nextResult (s : State) : Option ResE :=
  match dueFrame s with
  | some (f, _) => s.pt.results.find? fun r => r.frame == f
  | none => s.pt.results.head?

/-- Points of a frame are written: the frame that is due first says so itself, the open one by PT_ENABLE. -/
def frameWrites (s : State) : Bool :=
  match dueFrame s with
  | some (_, w) => w
  | none => s.pt.streaming && parB s 0x3800 0

/-- Elements without the first that satisfies f. -/
def eraseFirst {α : Type} (f : α → Bool) : List α → List α
  | [] => []
  | x :: r => if f x then r else x :: eraseFirst f r

/-- Shots of the phase in progress that are still to be fired, and fired ones whose window has not closed. -/
def openShots (s : State) : List Shot :=
  (s.rm.current.filter fun sh => sh.skip == 0 && !sh.gated) ++
    (upto 4).filterMap (fun b => (bankOf s b).fired) ++
    (upto 4).filterMap fun b => if (bankOf s b).winOpen then (bankOf s b).shot else none

/-- The unit whose live result channel c owes, a lost or failed channel its record without a measurement (R180, R182, R254). -/
def owedUnit (s : State) (c : Nat) : Option ShUnit :=
  let x := chanOf s c
  if x.lost || (x.failed && setLive s (c / 16)) then
    (unitsOf s (c / 8)).find? fun u => rxEnabled s c && decide (x.doneAt < u.tStart + 1)
  else if !setLive s (c / 16) then none
  else match unitDue s c with
    | some u => if tooLate s u then none else some u
    | none => none

/-- Frame and place of every live result that is still to come (R261, R262). -/
def owed (s : State) : List (BitVec 32 × Nat) :=
  (openShots s).map (fun sh => (sh.frame, orderOf sh.boundary sh.bank (8 * sh.em))) ++
    (upto 256).filterMap fun c => (owedUnit s c).map fun u =>
      let sh := u.shot.getD {}
      (u.frame, orderOf sh.boundary sh.bank c)

/-- The chosen peaks of a group of frame f wait for their zoom pass (R177). -/
def zoomPending (s : State) (f : BitVec 32) : Bool :=
  (upto 256).any fun c => match (chanOf s c).histDue with
    | none => false
    | some ts => (unitsOf s (c / 8)).any fun u => u.tStart == ts && u.frame == f

/-- An echo-mode result waits for results owed before it; a group's result and a replayed one go as they complete
(R262, R263). -/
def mustWait (s : State) (r : ResE) : Bool :=
  !s.ee.hist && !r.replayed && (owed s).any fun o => decide (o.2 < r.order)

/-- The write burst that a result's records belong to: one bank's channel-shots of a phase (R270). -/
def burstKey (r : ResE) : Nat := 4 * r.phase + r.bank

/-- The records of a result are coloured and formed: they reach the recorder in every case and the stream unless points are off
or the frame is truncated (R251, R259, R260, R272, R468). -/
def formResult (r : ResE) (s : State) : State :=
  let s := modPt (fun p => { p with results := eraseFirst (fun x => x == r) p.results }) s
  let recs := r.recs.map (colour s r.tStart)
  let s := recs.foldl (fun s x => recItemT false 2 0 r.tStart (recBytes x) s) s
  if !frameWrites s then s
  else if s.pt.truncated || r.gone then dropRecords recs.length s
  else
    let since := if r.at_ < s.pt.headerAt then r.at_ else 0
    modPt (fun p => { p with burst := p.burst ++ recs.map fun x => (x, r.closeAt, burstKey r, since) }) s

/-- POINT_RECORD_FORMED: the records of the next result are formed, once no result before it is owed (R251, R259 to R264,
R272, R468). -/
def execPointRecordFormed (t : Nat) (s : State) : Host.Outcome State Fault Refusal :=
  let s := s.start t
  match nextResult s with
  | none => done s
  | some r => if mustWait s r then done s else done (formResult r s)

/-! ## Bursts -/

/-- Headers of the device held on chip, those that wait on the frame ring among them (R273, R281). -/
def headersHeld (s : State) : Nat :=
  s.pt.hdrHeld.length + ((ringOf s (parN s 0x3802 0)).waiting.filter fun i => !i.hdr.isEmpty).length

/-- The point ring takes a record: it has free space, and fewer than 64 headers are held (R272, R273). -/
def pointRoom (s : State) : Bool := ringTakes s (parN s 0x3801 0) && decide (headersHeld s < 64)

/-- Own rings are written (R586). -/
def ownRings (s : State) : Bool := parN s 0x7C10 0 != 1

/-- Items for the forwarding lane: sent while it is UP and its partner's point version is one of the device's, else
discarded and counted (R586, R587). -/
def forward (ty n : Nat) (data : List Byte) (s : State) : State :=
  if parN s 0x7C10 0 = 0 then s
  else
    let k := parN s 0x7C11 0
    let l := laneOf s k
    let up := decide (k < 8) && l.st == 4
    let fits := l.partnerPts == 0x0100
    if up && !fits then { s with slk := { s.slk with fwdStatus := 2, fwdDropped := satAdd s.slk.fwdDropped n } }
    else if up then slkQueue k ty data { s with slk := { s.slk with fwdStatus := 1 } }
    else { s with slk := { s.slk with fwdDropped := satAdd s.slk.fwdDropped n } }

/-- A record takes its place in the point stream (R267, R269, R281). -/
def recordOut (r : Rec) (closeAt : Nat) (more : Bool) (s : State) : State :=
  let s := if ownRings s then
      ringItemOf (parN s 0x3801 0) { data := recBytes r, more := more, closeAt := closeAt } s else s
  modPt (fun p => { p with index := p.index + 1, pointCount := p.pointCount + 1, records := p.records + 1 }) s

/-- What the point ring has of a burst that was cut short gets its write-back (R526). -/
def burstFlush (s : State) : State :=
  let n := parN s 0x3801 0
  if ownRings s && (ringOf s n).waiting.isEmpty then ringFlush n s else s

/-- Records held for the ring, k of them written already, are written while it has room, in bursts of sixteen with one write-back each; the
longest hold is kept (R272, R281, R526; DESIGN CHOICE, log entry 11). -/
def heldOut (k : Nat) : List (Rec × Nat) → State → State
  | [], s => burstFlush (modPt (fun p => { p with held := [] }) s)
  | (r, f) :: rest, s =>
    if pointRoom s then heldOut (k + 1) rest (heldSince f (recordOut r 0 (!rest.isEmpty && k % 16 != 15) s))
    else burstFlush (modPt (fun p => { p with held := (r, f) :: rest }) s)

/-- Records of one burst are written, or held once the ring has no room, those that waited behind an earlier frame since they were there
(R270, R272). -/
def burstOut : List (Rec × Nat × Nat × Nat) → State → State
  | [], s => burstFlush s
  | (r, c, _, at_) :: rest, s =>
    if !ownRings s || (pointRoom s && s.pt.held.isEmpty) then burstOut rest (recordOut r c (!rest.isEmpty) s)
    else burstOut rest (modPt (fun p => { p with held := p.held ++ [(r, if at_ = 0 then s.tb else at_)] }) s)

/-- Records of the burst's bank and phase are still to come (R270). -/
def burstGoesOn (s : State) (k : Nat) : Bool :=
  (s.pt.results.any fun r => burstKey r == k) || (!s.ee.hist && (owed s).any fun o => o.2 / 256 == k)

/-- The burst that closes: sixteen records, or the last ones of one bank's channel-shots of a phase (R270). -/
def burstReady (s : State) : List (Rec × Nat × Nat × Nat) :=
  match s.pt.burst with
  | [] => []
  | (_, _, k, _) :: _ =>
    let b := (s.pt.burst.takeWhile fun x => x.2.2.1 == k).take 16
    if b.length < 16 && b.length == s.pt.burst.length && burstGoesOn s k then [] else b

/-- A burst goes to the point stream and the forwarding lane (R270, R586). -/
def burstGo (b : List (Rec × Nat × Nat × Nat)) (s : State) : State :=
  let s := burstOut b (modPt (fun p => { p with burst := p.burst.drop b.length }) s)
  if b.isEmpty then s else forward tyPtRec b.length ((b.map fun x => recBytes x.1).flatten) s

/-- The first data write among what a burst put out is poisoned (R537). -/
def poison : List Out → List Out
  | [] => []
  | .hostWrite a d :: r => .poisoned a d :: r
  | o :: r => o :: poison r

/-- WRITE_BURST: what is held, forwarded items too, goes first, then the burst that closes; ecc says that an item read from on-chip
staging had an uncorrectable error, which is sent poisoned and logged (R270, R272, R526, R537, R586). -/
def execWriteBurst (t : Nat) (ecc : Bool) (s : State) : Host.Outcome State Fault Refusal :=
  let s := s.start t
  let s := (upto 8).foldl (fun s n => fwdDrain n s) s
  let s := if s.pt.held.isEmpty then s else heldOut 0 s.pt.held s
  let s := burstGo (burstReady s) s
  if ecc && s.out.any (fun o => match o with
      | .hostWrite _ _ => true
      | _ => false) then
    done (logNow 0x3706 (parN s 0x3801 0) 0 { s with out := poison s.out })
  else done s

/-- Statistics and snapshots that have waited longer than PT_HOLD for a buffer of ring n are discarded and counted; an item
of which bytes are written stays (R527). -/
def waitExpiry (s : State) (n : Nat) : State :=
  modRing n (fun r =>
    let keep := r.waiting.filter fun i => i.begun || decide (s.tb ≤ i.at_ + parN s 0x3806 0 * msU)
    { r with waiting := keep, drop := satAdd r.drop (r.waiting.length - keep.length) }) s

/-- The instant since which the oldest record is held: on the point ring while that takes nothing, or for it (R272). -/
def heldFrom (s : State) : Option Nat :=
  let n := parN s 0x3801 0
  match (ringOf s n).waiting with
  | i :: _ => if ringTakes s n then (s.pt.held.head?).map (·.2) else some i.at_
  | [] => (s.pt.held.head?).map (·.2)

/-- The records that wait on the point ring leave it, discarded (R272). -/
def waitingOut (s : State) : State :=
  let n := parN s 0x3801 0
  if ringTakes s n then s
  else unwritten (ringOf s n).waiting.length (modRing n (fun r => { r with waiting := [] }) s)

/-- While the rings do not take the records or the header of the oldest ended frame, results of later frames are held too, and beyond
PT_HOLD their records are discarded: they will count in their own frame's header (R272, R273). -/
def lateExpiry (s : State) : State :=
  match dueFrame s with
  | none => s
  | some (f, _) =>
    let old := fun (r : ResE) => r.frame != f && !r.gone && decide (r.at_ + parN s 0x3806 0 * msU < s.tb)
    if (pointRoom s && s.pt.held.isEmpty) || !s.pt.results.any old then s
    else
      let s := (s.pt.results.filter old).foldl (fun s r => heldSince r.at_ s) s
      modPt (fun p => { p with results := p.results.map fun r => if old r then { r with gone := true } else r }) s

/-- PT_HOLD_EXPIRY: a record held longer than PT_HOLD is discarded with every later one of its frame; statistics and
snapshots likewise leave their rings' queues; forwarded records as own ones (R272, R281, R527, R588). -/
def execPtHoldExpiry (t : Nat) (s : State) : Host.Outcome State Fault Refusal :=
  let s := s.start t
  let rings := (parN s 0x2C1A 0 :: (upto 8).map fun c => parN s 0x5019 c).dedup.filter (· < 32)
  let s := lateExpiry ((upto 8).foldl (fun s n => fwdExpiry n s) (rings.foldl waitExpiry s))
  match heldFrom s with
  | none => done s
  | some f =>
    if f + parN s 0x3806 0 * msU < s.tb then
      let s := waitingOut (heldSince f s)
      let n := s.pt.held.length + s.pt.burst.length
      done (dropRecords n (modPt (fun p => { p with held := [], burst := [] }) s))
    else done s

/-! ## Headers -/

/-- Held headers are written while the frame ring has room (R273). -/
def headersOut : List (List (BitVec 32)) → State → State
  | [], s => modPt (fun p => { p with hdrHeld := [] }) s
  | h :: rest, s =>
    if ringTakes s (parN s 0x3802 0) then
      headersOut rest (ringItemOf (parN s 0x3802 0) { data := (h.map fun w => leBytes 4 w.toNat).flatten, hdr := h } s)
    else modPt (fun p => { p with hdrHeld := h :: rest }) s

/-- The header with what is known only after the frame's last record (R266, R267). -/
def headerFill (s : State) (h : List (BitVec 32)) : List (BitVec 32) :=
  (((h.set 3 (h.getD 3 0 ||| if s.pt.truncated then 0x80000000 else 0)).set 8 s.pt.firstIndex).set 9
    s.pt.pointCount).set 10 s.pt.droppedCur

/-- Every record of a frame is in the stream and covered by its ring update: none waits, is held, is still owed, or may still
come from a zoom pass or a replay (R261, R264, R265). -/
def frameComplete (s : State) (f : BitVec 32) : Bool :=
  s.pt.burst.isEmpty && s.pt.held.isEmpty && (ringOf s (parN s 0x3801 0)).waiting.isEmpty &&
    !(s.pt.results.any fun r => r.frame == f) && !(s.pt.zoomed.any fun p => p.2.frame == f) && !replayPending s f &&
    !((owed s).any fun o => o.1 == f) && !zoomPending s f && !(s.pt.missHeld.any fun m => m.2.2.frame == f)

/-- The header of the oldest ended frame goes out, or is held while the frame ring is full; the counters of the next frame start; to the
recorder it is an item of its T64_END (R261, R265 to R267, R273, R468, R471, R586; DESIGN CHOICE, log entry 12). -/
def headerGo (s : State) : State :=
  match s.pt.hdrDue with
  | [] => s
  | (h, w) :: rest =>
    let h := headerFill s h
    let bytes := (h.map fun w => leBytes 4 w.toNat).flatten
    let s := modPt (fun p => { p with
      hdrDue := rest, headerAt := s.tb, firstIndex := p.index, pointCount := 0, droppedCur := 0, truncated := false }) s
    let s := recItem 2 0 (BitVec.ofNat 64 ((h.getD 6 0).toNat + 2 ^ 32 * (h.getD 7 0).toNat)) bytes s
    if !w then s
    else
      let s := forward tyPtHdr 1 bytes s
      if ownRings s then headersOut (s.pt.hdrHeld ++ [h]) s
      else modPt (fun p => { p with lastFrame := h.getD 2 0 }) s

/-- FRAME_HEADER: held headers are written as far as there is room; the header of the oldest ended frame follows its last record
(R261, R265 to R267, R273, R468, R586). -/
def execFrameHeader (t : Nat) (s : State) : Host.Outcome State Fault Refusal :=
  let s := s.start t
  let s := if s.pt.hdrHeld.isEmpty then s else headersOut s.pt.hdrHeld s
  match s.pt.hdrDue with
  | [] => done s
  | (h, w) :: _ =>
    if !frameComplete s (h.getD 2 0) || (w && ownRings s && decide (64 ≤ headersHeld s)) then done s
    else done (headerGo s)

/-! ## A reset -/

/-- The records and the header of the oldest ended frame are written as far as they exist and the rings have room. -/
def flushFrame (s : State) : State :=
  match s.pt.hdrDue with
  | [] => s
  | (h, _) :: _ =>
    let s := (s.pt.results.filter fun r => r.frame == h.getD 2 0).foldl (fun s r => formResult r s) s
    let s := s.pt.burst.foldl (fun s x => burstGo [x] s) s
    headerGo s

/-- A FULL or WARM reset leaves RUN or SAFE: the frame in progress is closed with ABORTED, and its header and the records that the
device holds leave before the reset takes them (R265, R651; DEDUCED, log entry 92). -/
def flushPoints (s : State) : State :=
  let s := if s.dev == .run || s.dev == .safe then stopPhases (t64Now s) s else s
  s.pt.hdrDue.foldl (fun s _ => flushFrame s) s

end Sys2Proof.Machine
end

