-- ==== Sys2Proof/Machine/LceLaws.lean ====
section
/-!
DEFINITION. The laws of the LCE in one period: arithmetic, coefficients, observer and feedback tests, position loop,
limiters, charge-voltage sets, bias, heater, loop outputs, injection (R282 to R305, R315 to R318, R349, R350).
-/
namespace Sys2Proof.Machine

/-! ## Arithmetic (R284 to R286) -/

/-- One coefficient on one Q15 sample: the exact product shifted to Q30, bits shifted out discarded (R285). -/
def term (k : FX) (x : Int) : Int :=
  if k.s ≤ 15 then x * k.m * (2 ^ (15 - k.s) : Nat) else x * k.m / (2 ^ (k.s - 15) : Nat)

/-- An addition that saturates at the accumulator range; the second number counts saturations (R284, R285). -/
def accAdd (a : Int × Nat) (v : Int) : Int × Nat :=
  let r := a.1 + v
  let c := clampI (-549755813888) 549755813887 r
  (c, a.2 + b2n (c != r))

/-- The accumulator as Q15 and its saturations (R286). -/
def accQ15 (a : Int × Nat) : Int × Nat :=
  let r := (a.1 + 16384) / 32768
  (clampQ15 r, a.2 + b2n (clampQ15 r != r))

/-- A conversion to Q15 saturates: 1, else 0 (R286). -/
def satQ (v : Int) : Nat := b2n (clampQ15 v != v)

/-- Saturations reach LCE_SAT (R286). -/
def satCount (n : Nat) (s : State) : State := if n = 0 then s else modLce (fun l => { l with sat := satAdd l.sat n }) s

/-! ## Coefficients (R292 to R294) -/

/-- Law n. -/
def lawOf (s : State) (n : Nat) : LawS := bget {} s.lce.laws n
/-- Law n changed. -/
def modLaw (n : Nat) (f : LawS → LawS) (s : State) : State := modLce (fun l => { l with laws := bmod {} l.laws n f }) s

/-- The coefficients of law n in the bank in use (R294). -/
def coefBank (s : State) (n : Nat) : List (Nat × Int × Nat) := if (lawOf s n).bank = 0 then (lawOf s n).setA else (lawOf s n).setB

/-- Coefficient i of law n in the bank in use; an entry that is not in the set has its default (R293). -/
def coef (s : State) (n i : Nat) : FX :=
  match (coefBank s n).find? fun e => e.1 == i with
  | some (_, m, sh) => { m := m, s := sh }
  | none => Config.coefDefault n i

/-- A role of law n where the spec names no index (R302). -/
def coefR (s : State) (n role : Nat) : FX := coef s n (Config.coefRole n role)

/-- COEFFICIENT_SET_SWAP at a sample tick: LCE_COEF_SEL takes effect, integrator states stay, and the write is acknowledged (R294). -/
def coefSwap (s : State) : State :=
  let s := takeHeld (fun k => ackWait k == some 0) s
  ackOwed 0 ([1, 2, 4, 6, 7, 8, 9].foldl (fun s n =>
    if (lawOf s n).bank = parN s 0x4012 n then s else modLaw n (fun w => { w with bank := parN s 0x4012 n, swapped := true }) s) s)

/-- The output of law n: in the period of a swap it steps by at most one LSB (R294, R302). -/
def bumpless (s : State) (n : Nat) (prev v : Int) : Int :=
  if (lawOf s n).swapped then clampI (prev - 1) (prev + 1) v else v

/-- The period that a swap opened has ended. -/
def swapsEnd (s : State) : State :=
  modLce (fun l => { l with laws := l.laws.map fun p => (p.1, { p.2 with swapped := false }) }) s

/-! ## Injection (R315, R316) -/

/-- One step of the 15-bit sequence x^15 + x^14 + 1. -/
def prbsStep (x : Nat) : Nat := x * 2 % 32768 + (bits x 14 14 + bits x 13 13) % 2

/-- Amplitude, at most INJ_MAX percent of full scale. -/
def injAmp (s : State) : Int :=
  let m : Int := 32767 * parN s 0x4034 0 / 100
  clampI (-m) m (parI s 0x4033 0)

/-- The injected value of this period; 0 once INJ_LEN periods have passed. Bit 1 of the sequence stands for the positive
amplitude, and the sweep starts at phase 0 (DESIGN CHOICE, log entry 19). -/
def injValue (s : State) : Int :=
  let l := s.lce
  if !l.injRun || decide (parN s 0x4037 0 ≤ l.injK) then 0
  else match parN s 0x4032 0 with
    | 0 => injAmp s * sinTurn l.injPhase / one32
    | 1 => if l.prbs % 2 = 1 then injAmp s else -injAmp s
    | _ => injAmp s

/-- The phase that the sine sweep gains in a period: its frequency goes logarithmically from INJ_F0 to INJ_F1 over INJ_LEN
periods (R315). -/
def sweepStep (s : State) : Nat :=
  let f0 := parN s 0x4035 0
  let e := log2Q (parN s 0x4035 1) f0 * (s.lce.injK : Int) / (max (parN s 0x4037 0) 1 : Nat)
  f0 * exp2 e * 4 / 1000000000

/-- What is added at the input (0) or output (1) of law n in this period, full the law's full scale there (R315). -/
def injAt (s : State) (n point full : Nat) : Int :=
  if s.lce.injLaw = n && parN s 0x4031 0 = point then (lawOf s n).inj * full / 32768 else 0

/-- The injection at a sample tick: one that waits without INJ_SYNC starts, law 3 goes to mirror mode 3, and the value of
the period is set (R315, R316). -/
def injTick (s : State) : State :=
  let s := if s.lce.injWait && !parB s 0x4039 0 then modLce (fun l => { l with injWait := false, injRun := true }) s else s
  let s := if s.lce.injRun && s.lce.injLaw == 3 && decide (s.lce.mode ≤ 1) then mirMode 3 s else s
  let v := injValue s
  modLaw s.lce.injLaw (fun w => { w with inj := v }) s

/-- The capture of the period: three words into the buffer of 16,384 periods or to the recorder, and the trace items of
every law (R316, R467). -/
def injCapture (s : State) : State :=
  let t64 := t64Now s
  let q := fun (v : Int) => leInt 2 (clampQ15 v)
  let s := (upto 9).foldl (fun s k =>
    let w := lawOf s (k + 1)
    recItem 6 (k + 1) t64 (leBytes 8 t64.toNat ++ q w.inj ++ q w.lastErr ++ q w.lastOut ++ [BitVec.ofNat 8 (k + 1), 0]) s) s
  if !s.lce.injRun || decide (parN s 0x4037 0 ≤ s.lce.injK) then s
  else
    let w := lawOf s s.lce.injLaw
    let s := if parN s 0x4038 0 = 1 then
        recItem 6 0xFF t64 (leBytes 8 t64.toNat ++ q w.inj ++ q w.lastErr ++ q w.lastOut ++ [BitVec.ofNat 8 s.lce.injLaw, 0]) s
      else if s.lce.injBuf.length < 16384 then
        modLce (fun l => { l with injBuf := l.injBuf ++
          [{ t := t64, inj := clampQ15 w.inj, inp := clampQ15 w.lastErr, outp := clampQ15 w.lastOut }] }) s
      else s
    let chip := max (parN s 0x4036 0) 1
    let step := sweepStep s
    modLce (fun l => { l with
      injK := l.injK + 1, injPhase := (l.injPhase + step) % 2 ^ 32, prbs := if (l.injK + 1) % chip = 0 then prbsStep l.prbs else l.prbs }) s

/-! ## Law 1: mirror model and supervision (R298, R299, R305) -/

/-- The prediction of the model one period on. With MIR_KI 0 it describes no mirror and predicts no motion (R319). -/
def modelPredict (s : State) : Int × Int :=
  let ki := parFx s 0x400D 2
  if ki.m = 0 then (s.lce.thModel, 0)
  else Config.mirStep s.lce.thModel s.lce.vModel s.lce.inI (parN s 0x400D 0, parN s 0x400D 1, ki)

/-- The model corrected by a residual in Q15 with 16 fraction bits (R305). -/
def modelCorrect (s : State) (th v res : Int) : Int × Int :=
  let g := parFx s 0x400E 0
  if (parFx s 0x400D 2).m = 0 then (th + fxMul g res, 0) else Config.mirCorrect th v res g

/-- The primary position in Q15 with 16 fraction bits: gain, offset, and the advance by the group delay (R298). -/
def primaryPos (s : State) (c : LchS) (v : Int) : Int :=
  let k := parFx s 0x4009 0
  rdiv (k.m * c.outQ * 65536) (2 ^ k.s : Nat) + 65536 * parI s 0x400A 0 + v * fltGdelay c / 4000

/-- The tests of R305 on the primary, dth being the movement predicted for the period, th the predicted position; the
residual is taken before the correction. -/
def primaryTests (s : State) (c : LchS) (th v dth : Int) : State :=
  if !(c.outNew && c.outOk) then
    modLce (fun l => { l with
      priMissT64 := if l.priMissRun = 0 then t64Now s else l.priMissT64, priMissRun := l.priMissRun + 1
      priAcc := l.priAcc + dth }) s
  else
    let res := primaryPos s c v - th
    let bad := decide ((65536 * parN s 0x400F 0 : Nat) < res.natAbs)
    let t64 := t64At s c.outAt
    modLce (fun l =>
      let same := l.priX == some c.outQ
      { l with
        priMissRun := 0, resPri := clampQ15 (rdiv res 65536), priX := some c.outQ
        priBadT64 := if l.priBadRun = 0 then t64 else l.priBadT64, priBadRun := if bad then l.priBadRun + 1 else 0
        priSameT64 := if same then l.priSameT64 else t64, priSameRun := if same then l.priSameRun + 1 else 1
        priAcc := 0, priSteps := if same then ((l.priAcc + dth) :: l.priSteps).take 31 else [] }) s

/-- The primary fails a test of R305 now. -/
def primaryFails (l : LceS) : Bool :=
  decide (8 ≤ l.priBadRun) || decide (4 ≤ l.priMissRun) || (decide (32 ≤ l.priSameRun) && decide (20 * 65536 < (isum l.priSteps).natAbs))

/-- A mark-A edge of instant e with mark count n, while the model moves from th0 by dth over the period ending now
(R299, R305). -/
def secondaryEdge (th0 dth : Int) (from_ : Nat) (s : State) (p : Nat × Int) : State :=
  let (e, n) := p
  let len : Int := max ((s.tb : Int) - from_) 1
  let part := rdiv (dth * ((e : Int) - from_)) len
  let pos := 65536 * (parI s 0x400B 0 * n + parI s 0x400C 0)
  let res := pos - (th0 + part)
  let bad := decide ((65536 * parN s 0x400F 1 : Nat) < res.natAbs)
  modLce (fun l => { l with
    secTh := rdiv pos 65536, secTravel := dth - part, resSec := clampQ15 (rdiv res 65536)
    secBadRun := if bad then l.secBadRun + 1 else 0 }) s

/-- The secondary fails a test of R305 now; that of ENC_STATUS is taken at the frame start. -/
def secondaryFails (s : State) : Bool :=
  decide (2 ≤ s.lce.secBadRun) || decide (3 * 65536 * (parI s 0x400B 0).natAbs < 2 * s.lce.secTravel.natAbs)

/-- FEEDBACK_LOST and what follows it, from the tests of this tick (R305 to R310). -/
def declareLost (s : State) : State :=
  let l := s.lce
  let pf := primaryFails l
  let sf := secondaryFails s
  let s := modLce (fun l => { l with
    priFail := pf, secFail := sf, retryBad := l.retryBad || pf
    frameBad := l.frameBad || (l.inUse == 0 && pf) || (l.inUse == 1 && sf), secFrameOk := l.secFrameOk && !sf }) s
  let frozen := decide (l.priBadRun < 8) && decide (l.priMissRun < 4)
  let t64 := if 8 ≤ l.priBadRun then l.priBadT64 else if 4 ≤ l.priMissRun then l.priMissT64 else l.priSameT64
  let fresh := (sf && !l.secOos) || (pf && !l.priOos)
  let s := if fresh && (sf || l.secOos) && (pf || l.priOos) then cancelShots 1 s else s
  let s := if sf then secondaryLost s else s
  if pf then primaryLost frozen t64 s else s

/-- Law 1 (R286, R291, R298 to R300, R305). -/
def lawModel (from_ : Nat) (s : State) : State :=
  let s := encSettle s
  let th0 := s.lce.thModel
  let (th, v) := modelPredict s
  let dth := th - th0
  let c := lchOf s (parN s 0x4008 0)
  let ok := c.outNew && c.outOk
  let due := s.tbs.encQueue.filter fun q => decide (q.1 + 500 * nsU ≤ s.tb)
  let edges := (due.filter fun q => encRole s q.2.1 == 1).map fun q => (q.1, q.2.2.2)
  let s := { s with tbs := { s.tbs with encQueue := s.tbs.encQueue.filter fun q => !decide (q.1 + 500 * nsU ≤ s.tb) } }
  let s := primaryTests s c th v dth
  let s := if edges.isEmpty then modLce (fun l => { l with secTravel := l.secTravel + dth }) s
    else edges.foldl (secondaryEdge th0 dth from_) s
  let s := declareLost (modLch (parN s 0x4008 0) (fun c => { c with outNew := false }) s)
  let (thN, vN) := match s.lce.inUse with
    | 0 => if ok then modelCorrect s th v (primaryPos s c v - th) else (th, v)
    | 1 => if edges.isEmpty then (th, v) else modelCorrect s th v (65536 * s.lce.secTh + s.lce.secTravel - th)
    | _ => (th, v)
  let est := match s.lce.inUse with
    | 0 => if ok then primaryPos s c v else th
    | 1 => 65536 * s.lce.secTh + s.lce.secTravel
    | _ => th
  let s := modLaw 1 (fun w => { w with lastErr := c.outQ, lastOut := clampQ15 (rdiv est 65536) }) s
  satCount (satQ (rdiv est 65536)) (modLce (fun l => { l with thModel := thN, vModel := vN, thEst := clampQ15 (rdiv est 65536) }) s)

/-! ## Limiters and the position loop: laws 3 and 4 (R294, R302) -/

/-- Output of a limiter of law n and its saturations, from the role of its kp: integrator plus kp times the error, held to
its range (R302). -/
def limiterOut (s : State) (n role : Nat) (lo top i e : Int) : Int × Nat :=
  let v := accQ15 (accAdd (i, 0) (term (coefR s n role) e))
  (clampI lo top v.1, v.2)

/-- Integrator of a limiter after a period and its saturations: ki times the error and kt times what the selected command
differs from its own output (R302). -/
def limiterNext (s : State) (n role : Nat) (i e sel out : Int) : Int × Nat :=
  accAdd (accAdd (i, 0) (term (coefR s n (role + 1)) e)) (term (coefR s n (role + 2)) (clampQ15 (sel - out)))

/-- A notch biquad, direct form II transposed, a0 = 1: coefficients from index i, states in Q30; output, states and
saturations (R294). -/
def biquad (s : State) (i : Nat) (x : Int) (st : Int × Int) : Int × (Int × Int) × Nat :=
  let y := accQ15 (accAdd (st.1, 0) (term (coef s 3 i) x))
  let a1 := accAdd (accAdd (st.2, y.2) (term (coef s 3 (i + 1)) x)) (-term (coef s 3 (i + 3)) y.1)
  let a2 := accAdd (accAdd (0, a1.2) (term (coef s 3 (i + 2)) x)) (-term (coef s 3 (i + 4)) y.1)
  (y.1, (a1.1, a2.1), a2.2)

/-- The demand of the position loop from the error and the set-point's velocity and acceleration per period, and the law's
new state before the integrator; the arrangement of the published coefficients is DEDUCED (R294, log entry 20). -/
def positionLoop (s : State) (e vel acc : Int) : Int × LawS × Nat :=
  let w := lawOf s 3
  let d := accQ15 (accAdd (accAdd (0, 0) (term (coef s 3 3) w.d)) ((e - w.x1) * 32768))
  let a := accAdd (accAdd (accAdd (accAdd (w.i, d.2) (term (coef s 3 0) e)) (term (coef s 3 2) d.1))
    (term (coef s 3 4) acc)) (term (coef s 3 5) vel)
  let u := accQ15 a
  let (y1, n1, k1) := biquad s 7 u.1 w.n1
  let (y2, n2, k2) := biquad s 12 y1 w.n2
  (y2, { w with x1 := e, d := d.1, n1 := n1, n2 := n2, v1 := vel }, u.2 + k1 + k2)

/-- Laws 2 to 4: set-point, position loop, and the choice of the lowest current; both the position loop and its integrator
track the selected current, and so does the coil-temperature limiter, which falls while the coil is hotter than COIL_T_MAX - 4 °C.
Every conversion to Q15 that saturates counts (R286, R291, R296, R302 to R304, R310). -/
def lawPosition (s : State) : State :=
  let ref := setPointAt s s.tb
  let vel := clampQ15 (ref - s.lce.thRef)
  let acc := clampQ15 (vel - (lawOf s 3).v1)
  let s := modLaw 2 (fun w => { w with lastErr := ref, lastOut := ref }) (modLce (fun l => { l with thRef := ref }) s)
  let e0 := ref - s.lce.thEst + injAt s 3 0 32768
  let e := clampQ15 e0
  let (y, w, k) := positionLoop s e vel acc
  let dem0 := bumpless s 3 (lawOf s 3).lastOut y + injAt s 3 1 32768
  let dem := clampQ15 dem0
  -- law 4
  let ilim := parN s 0x2440 0 * 32768 / 3000 / (if s.lce.mode = 2 then 4 else 1)
  let et := clampQ15 (parI s 0x401A 0 - 40 - s.lce.coilT)
  let w4 := lawOf s 4
  let (i4, k4) := limiterOut s 4 0 0 32767 w4.i et
  let fall := bumpless s 4 s.lce.iCt i4
  let ict := if et < 0 then max 0 (min fall (s.lce.iCt - 1)) else fall
  let mag := min (min dem.natAbs ilim) ict.toNat
  let (n4, j4) := limiterNext s 4 0 w4.i et mag ict
  let s := modLce (fun l => { l with iCt := ict })
    (modLaw 4 (fun x => { x with i := n4, lastErr := et, lastOut := ict }) s)
  let cmd : Int := if dem < 0 then -(mag : Int) else mag
  let lim := if mag = dem.natAbs then 0 else if mag = ilim then 1 else 2
  let i := accAdd (accAdd (w.i, k) (term (coef s 3 1) e)) (term (coef s 3 6) (clampQ15 (cmd - y)))
  let s := modLaw 3 (fun _ => { w with i := i.1, lastErr := e, lastOut := dem }) s
  let c := satQ (thetaRaw s 1 (setAz s s.tb)) + satQ (ref - s.lce.thRef) + satQ e0 + satQ dem0 + satQ (cmd - y)
  satCount (i.2 + k4 + j4 + c) (modLce (fun l => { l with iCmd := cmd, iLimit := lim }) s)

/-- Law 5: coil current loop, its structure not published (R291, log entry 7). -/
def lawCurrent (s : State) : State :=
  let e0 := s.lce.iCmd - s.lce.inI + injAt s 5 0 32768
  let e := clampQ15 e0
  let v := bumpless s 5 s.lce.outDuty (Config.lawOut 5 (coefBank s 5) e (lawOf s 5).i) + injAt s 5 1 2048
  let d := clampI (-2048) 2047 v
  satCount (satQ e0 + b2n (d != v)) <| modLce (fun l => { l with outDuty := d })
    (modLaw 5 (fun w => { w with i := Config.lawState 5 (coefBank s 5) e w.i, lastErr := e, lastOut := d }) s)

/-! ## Law 6: charge-voltage sets (R302) -/

/-- Laser-module temperature of bank b in 0.1 °C; a broken channel reads 125 °C (R98, R600). -/
def moduleDeci (s : State) (b : Nat) : Int :=
  let m := measOf s (parN s 0x2412 b)
  if m.broken then 1250 else rdiv m.value 100

/-- v_top of the thermal limiter: 3,959, lowered with the throttle level (R302, R607). -/
def thermalTop (s : State) : Nat :=
  if 256 ≤ s.thm.level then vTop else roundSqrt (vTop * vTop * s.thm.level) 256

/-- One limiter of a bank's set: its output, its integrator and saturations; full is the full scale of its error, prev its output of
the period before. Errors enter as integers of 0.1 °C (full scale 32,768) or of one code (4,096), which the spec does not scale (DESIGN
CHOICE, log entry 20). -/
def limiter (s : State) (role full top : Nat) (i e sel prev : Int) : Nat × Int × Nat :=
  let e0 := e + injAt s 6 0 full
  let e := clampQ15 e0
  let v := limiterOut s 6 role vFloor top i e
  let out := clampI vFloor top (bumpless s 6 prev v.1 + injAt s 6 1 4096)
  let n := limiterNext s 6 role i e sel out
  (out.toNat, n.1, satQ e0 + v.2 + n.2)

/-- The thermal and charger limiters of bank b; the words captured for law 6 are those of bank 0's thermal limiter (R316; DESIGN
CHOICE, log entry 19). -/
def lawBank (s : State) (b : Nat) : State :=
  let sel : Int := ((bget 0 s.lce.vSel b : Nat) : Int)
  let et := parI s 0x4018 0 - moduleDeci s b
  let (vt, it, nt) := limiter s 0 32768 (thermalTop s) (bget 0 s.lce.thI b) et sel (bget 0 s.lce.vThN b : Nat)
  let ec := ((bankOf s b).vRes - parN s 0x4019 0 : Int) * 4096 / 12000 - ((bget 0 s.lce.vChN b : Nat) : Int)
  let (vc, ic, nc) := limiter s 3 4096 vTop (bget 0 s.lce.chI b) ec sel (bget 0 s.lce.vChN b : Nat)
  let s := if b = 0 then modLaw 6 (fun w => { w with lastErr := clampQ15 (et + injAt s 6 0 32768), lastOut := vt }) s else s
  satCount (nt + nc) (modLce (fun l => { l with
    vThN := bset l.vThN b vt, thI := bset l.thI b it, vChN := bset l.vChN b vc, chI := bset l.chI b ic }) s)

/-! ## Laws 7 and 8 -/

/-- Law 7, APD_BIAS_UPDATE: the bias target from the detector temperature, the last valid one while the RTD is broken, and
the slew limit; 0 V while the bias is off or the channel pending. The input captured is the set-point, at which a signal is injected
(R105, R106, R108, R315, R658; DESIGN CHOICE, log entry 19). -/
def lawBias (s : State) : State :=
  let m := measOf s (parN s 0x2427 0)
  let td := if m.broken || m.pending then s.fld.apdTdet else some m.value
  let on := parB s 0x2420 0 && (s.dev == .config || s.dev == .run || s.dev == .safe) && !m.pending
  let target := match on, td with
    | true, some v => clampI 20000000 (10000 * parI s 0x2424 0)
        (10000 * parI s 0x2421 0 + parI s 0x2423 0 * (v - 100 * parI s 0x2422 0) + injAt s 7 0 200000000)
    | _, _ => 0
  let step : Int := 4 * parN s 0x2426 0
  let v := if target = 0 then 0 else s.fld.apdV + clampI (-step) step (target - s.fld.apdV)
  let raw := bumpless s 7 s.lce.apdCode (rdiv (v * 4096) 200000000) + injAt s 7 1 4096
  let code := (clampI 0 4095 raw).toNat
  let s := modFld (fun c => { c with
    apdV := v, apdTarget := target, apdTdet := td, apdHeld := m.broken, apdUpdAt := s.tb
    apdReg := c.apdReg && on, apdBad := c.apdBad && on, apdBadFrom := if on then c.apdBadFrom else none }) s
  satCount (b2n ((code : Int) != raw)) (modLce (fun l => { l with apdCode := code })
    (modLaw 7 (fun w => { w with lastErr := clampQ15 (rdiv (target * 32768) 200000000), lastOut := code }) s))

/-- Law 8: window heater, its structure not published; 0 while its RTD is broken or pending (R291, R346, R658, log
entry 7). -/
def lawHeater (s : State) : State :=
  let m := measOf s (parN s 0x401C 0)
  let e0 := parI s 0x401B 0 - rdiv m.value 100 + injAt s 8 0 32768
  let e := clampQ15 e0
  let v := bumpless s 8 s.lce.outHtr (Config.lawOut 8 (coefBank s 8) e (lawOf s 8).i) + injAt s 8 1 32768
  let c := clampI 0 32767 v
  let d := if m.broken || m.pending then 0 else c.toNat
  satCount (satQ e0 + b2n (c != v)) (modLce (fun l => { l with outHtr := d })
    (modLaw 8 (fun w => { w with i := Config.lawState 8 (coefBank s 8) e w.i, lastErr := e, lastOut := d }) s))

/-! ## Law 9: loop outputs (R349, R350, R352) -/

/-- The source of LOOPn: an update now, its value where valid (R350). -/
def loopSource (s : State) (n : Nat) : Bool × Option Int :=
  let src := parN s 0x4430 n
  if 0x40 ≤ src then
    let z : ZoneS := bget {} s.adc.zones (src % 4)
    (z.fresh, if z.valid then some z.value else none)
  else
    let m := measOf s (src - 0x10)
    (true, if m.broken || m.refNot then none else some m.value)

/-- 4 mA + 16 mA × (q - lo) / (hi - lo), clamped to 3.8 to 20.5 mA, in microampere (R349). -/
def loopCurrent (s : State) (n : Nat) (q : Int) : Nat :=
  let lo := parI s 0x4431 (2 * n)
  let x := quot (16000 * (q - lo)) (parI s 0x4431 (2 * n + 1) - lo)
  (clampI 3800 20500 (4000 + rdiv x.1 x.2)).toNat

/-- LOOP_OUTPUT_UPDATE of LOOPn: outside RUN the state's level, in RUN the source's current, the last valid one until
LOOP_HOLD invalid updates, then the fault level (R349). -/
def lawLoop (s : State) (n : Nat) : State :=
  let l : LoopS := bget {} s.adc.loops n
  if s.dev != .run then modLce (fun c => { c with outLoop := bset c.outLoop n l.uA }) s
  else if parN s 0x4430 n = 0 then
    modAdc (fun a => { a with loops := bset a.loops n { l with bad := 0, faultLevel := false } })
      (modLce (fun c => { c with outLoop := bset c.outLoop n 0 }) s)
  else
    let (upd, v) := loopSource s n
    let l2 := match v with
      | some q => if upd then { l with bad := 0, lastOk := loopCurrent s n q } else l
      | none => if upd then { l with bad := l.bad + 1 } else l
    let f := decide (max (parN s 0x4433 n) 1 ≤ l2.bad)
    let out := if f then loopFaultUa s n else l2.lastOk
    modAdc (fun a => { a with loops := bset a.loops n { l2 with faultLevel := f } })
      (modLce (fun c => { c with outLoop := bset c.outLoop n out }) s)

/-- Zone results reach law 9 at the sample tick after their frame end (R352). -/
def zonesRelease (s : State) : State :=
  modAdc (fun a => { a with zones := a.zones.map fun p => (p.1, match p.2.next with
    | some (v, ok) => { p.2 with value := v, valid := ok, next := none, fresh := true }
    | none => { p.2 with fresh := false }) }) s

/-- Mask 4: the mirror error in every period of active cycles in mirror mode 0 or 1 (R479). -/
def mirrorMask (s : State) : State :=
  let lim := parN s 0x6841 0
  let e := (s.lce.thRef - s.lce.thEst).natAbs
  if lim != 0 && s.rm.inFrame && decide (s.rm.cycle < s.rm.nAct) && decide (s.lce.mode ≤ 1) then
    maskSample 4 0 0 (decide (lim < e)) (t64Now s) e s
  else s

end Sys2Proof.Machine
end

