-- ==== Sys2Proof/Machine/Mirror.lean ====
section
/-!
DEFINITION. The LCE's period: sample tick, output release, overrun, bridge re-enable, coil resistance, end of an
injection (R287 to R290, R304, R312, R316).
-/
namespace Sys2Proof.Machine

/-- Velocity of the model at the release in degree/s, from Q15 with 16 fraction bits per period (R295, R314). -/
def velocityDps (s : State) (v : Int) : Int := rdiv (v * parN s 0x4000 0 * 2500) 2147483648

/-- The payload of LCE_OUT; its byte order is not published (R115, log entry 10). -/
def lceOutPayload (s : State) : List Byte :=
  leInt 2 s.lce.outDuty ++ leInt 2 s.lce.outVel ++ ((upto 4).map fun b => leBytes 2 (bget 0 s.lce.vChN b)).flatten ++
    leBytes 2 s.lce.apdCode ++ leBytes 2 s.lce.outHtr

/-- The payload of FIELD_IO: loop currents, each converter's sequence position with a running flag, the excitations that are on,
their modes and values (R115, log entry 10). -/
def fieldIoPayload (s : State) : List Byte :=
  leBytes 2 (bget 0 s.lce.outLoop 0) ++ leBytes 2 (bget 0 s.lce.outLoop 1) ++
    ((upto 4).map fun n => BitVec.ofNat 8 (128 * b2n (bget false s.adc.running n) + bget 0 s.adc.slot n % 128)) ++
    [BitVec.ofNat 8 (ofBits 8 fun n => (bget ({} : ExcS) s.adc.exc n).on)] ++
    leBytes 2 (nsum ((upto 8).map fun n => parN s 0x4410 n % 4 * 4 ^ n)) ++
    ((upto 8).map fun n => leBytes 2 (parN s (if parN s 0x4410 n = 2 then 0x4412 else 0x4411) n)).flatten

/-- Sums over the 1 ms of R304. -/
def coilSums (s : State) : State :=
  modLce (fun l => { l with coilVsum := l.coilVsum + l.inV, coilIsum := l.coilIsum + l.inI, coilN := l.coilN + 1 }) s

/-- Velocity of the model at the output release, half a period on: half-way to that of the next period (R314; DESIGN CHOICE, log
entry 94). -/
def releaseVel (s : State) : Int := s.lce.vModel + rdiv ((modelPredict s).2 - s.lce.vModel) 2

/-- A sample tick falls now: on the 4.000 µs grid of the timebase count (R287). -/
def tickDue (s : State) : Bool := s.tb % (4 * usU) == 0 && decide (s.lce.tickAt < s.tb)

/-- The inhibits that the laws of this period raised wait for its output release (R289). -/
def holdInhibits (before : List Inhibit) (s : State) : State :=
  modLce (fun l => { l with inhOut := s.rm.inhibits.filter fun w => !before.contains w })
    (modRm (fun r => { r with inhibits := before.filter r.inhibits.contains }) s)

/-- LCE_SAMPLE_TICK: K28.3 on BL2, inputs latched, waiting bank changes and zone results taken, the laws in their order, and
LCE_OUT and FIELD_IO sent in their slots unless compute is late at 1,900 ns (R287 to R291, R117, R314). -/
def execLceSampleTick (t : Nat) (late : Bool) (s : State) : Host.Outcome State Fault Refusal :=
  let s := s.start t
  if !tickDue s then done s
  else
  let s := canRun 1 (canRun 0 (barSymbol 2 3 s))
  let from_ := s.lce.tickAt
  let s := modLce (fun l => { l with tickAt := s.tb, tickNo := l.tickNo + 1, inI := s.fld.repI, inV := s.fld.repV }) s
  let before := s.rm.inhibits
  let s := injTick (zonesRelease (coefSwap (coilSums s)))
  let s := lawCurrent (lawPosition (lawModel from_ s))
  let s := lawHeater (lawBias ((upto 4).foldl lawBank s))
  let s := lawLoop (lawLoop s 0) 1
  let s := modLaw 9 (fun w => { w with lastErr := 0, lastOut := clampQ15 (bget 0 s.lce.outLoop 0 : Nat) }) s
  let s := holdInhibits before (swapsEnd (mirrorMask (injCapture s)))
  let s := modLce (fun l => { l with
    outReady := !late, lateTick := late, outVel := velocityDps s (releaseVel s)
    relN := releaseOf s (s.tb + 2 * usU) (releaseVel s), overrunRun := if late then l.overrunRun else 0 }) s
  done (if late then s else barSend 3 0x18 (fieldIoPayload s) (barSend 2 0x10 (lceOutPayload s) s))

/-- LCE_OUTPUT_RELEASE: 2,000 ns after the tick every output of the period takes effect, at Calliope and in the core die;
outside RUN the loop outputs stay at their state's level. Without a frame Calliope keeps its outputs, and a second release in a row without one trips the watchdog. compute is how
long the laws took, ns (R110, R112, R289, R291, R320, R349). -/
def execLceOutputRelease (t : Nat) (compute : Nat) (s : State) : Host.Outcome State Fault Refusal :=
  let s := s.start t
  if s.lce.tickNo = 0 || s.tb != s.lce.tickAt + 2 * usU then done s
  else
  let s := modLce (fun l => { l with inhOut := [] }) (s.lce.inhOut.foldl (fun s w => inhibit w s) s)
  let s := modLce (fun l => { l with computeMax := BitVec.ofNat 16 (max l.computeMax.toNat (min compute 65535)) }) s
  let s := if s.lce.outReady then
      let s := modLce (fun l => { l with vTh := l.vThN, vCh := l.vChN, rel := l.relN }) s
      if s.dev != .run then s
      else modAdc (fun a => { a with loops := (upto 2).foldl (fun b n => bmod {} b n fun x =>
        { x with uA := bget 0 s.lce.outLoop n }) a.loops }) s
    else s
  if s.fld.lceSeen then
    done (modFld (fun c => { c with
      duty := if c.bridgeOn then c.dutyNext else 0, htrDuty := c.htrNext, vPred := c.vPredNext, vch := c.vchNext, bias := c.biasNext,
      lceMissed := 0, lceSeen := false }) s)
  else
    let s := modFld (fun c => { c with lceMissed := c.lceMissed + 1 }) s
    done (if 2 ≤ s.fld.lceMissed then watchdogTrip s else s)

/-- LCE_OVERRUN: compute is not complete at 1,900 ns; the second one in a row is an LCE fault, which inhibits firing,
switches the bridge off in mirror mode 4 and sends the device to SAFE (R290). -/
def execLceOverrun (t : Nat) (s : State) : Host.Outcome State Fault Refusal :=
  let s := s.start t
  if !s.lce.lateTick || decide (s.tb < s.lce.tickAt + 1900 * nsU) then done s
  else
    let s := modLce (fun l => { l with lateTick := false, overrun := satInc l.overrun, overrunRun := l.overrunRun + 1, frameOverrun := true }) s
    let s := logNow 0x1801 noSrc 0 s
    if s.lce.overrunRun = 2 then
      let s := mirMode 4 (bridgeOff (inhibit .lceFault (modLce (fun l => { l with
        lceFault := true, restartWait := false, restartFrame := false }) s)))
      done (logNow 0x3802 noSrc 0 (safeCause .lceFault s))
    else done s

/-- BRIDGE_REENABLE: 10 ms after a trip the LCE re-enables the bridge once through LCE_REARM and recovers under R311
without a host command (R312). -/
def execBridgeReenable (t : Nat) (s : State) : Host.Outcome State Fault Refusal :=
  let s := s.start t
  if s.fld.brgRePend && decide (s.fld.brgTripAt + 10 * msU ≤ s.tb) then
    done (bridgeStart (modFld (fun c => { c with brgRePend := false, brgReAt := some s.tb }) s))
  else done s

/-- COIL_RESISTANCE_ESTIMATE: over the 1 ms just ended, mean bridge voltage over mean coil current where that exceeds
100 mA gives the coil temperature; without an estimate the last one is held (R304). -/
def execCoilResistanceEstimate (t : Nat) (s : State) : Host.Outcome State Fault Refusal :=
  let s := s.start t
  let l := s.lce
  if l.coilN < 250 then done s
  else
  let i := l.coilIsum * 3000
  let v := l.coilVsum * 32768
  let s := modLce (fun l => { l with coilVsum := 0, coilIsum := 0, coilN := 0 }) s
  if 100 * 32768 * l.coilN < i.natAbs then
    let r0 : Int := parN s 0x2441 0
    let x := quot ((1000 * v - i * r0) * 1000000) (393 * i * r0)
    done (modLce (fun l => { l with coilT := clampI (-32768) 32767 (250 + rdiv x.1 x.2) }) s)
  else done s

/-- INJECTION_COMPLETE: the injection ends after INJ_LEN periods (R316). -/
def execInjectionComplete (t : Nat) (s : State) : Host.Outcome State Fault Refusal :=
  let s := s.start t
  if s.lce.injRun && decide (parN s 0x4037 0 ≤ s.lce.injK) then done (injEnd 2 s) else done s

end Sys2Proof.Machine
end

