-- ==== Sys2Proof/Machine/Eic.lean ====
section
/-!
DEFINITION. The commands of the event interrupt controller and the error log's writer (R489 to R514).
-/
namespace Sys2Proof.Machine

/-- The owner code of a claim: the core's target number, or 6 + 8f for function f of HOST. -/
def ownerOf : Claimant → Nat
  | .core c => c
  | .pf f => 6 + 8 * f

/-- Source n is claimable by who (R495); a redirected event belongs to the fallback core alone (R502). -/
def claimable (s : State) (who : Claimant) (n : Nat) : Bool :=
  (eicReady s).getLsbD n &&
    (match who with
     | .core c =>
       if s.eic.moved.getLsbD n then parN s 0x7400 0 == c else targetOf s (groupOf s n) == c
     | .pf f =>
       !s.eic.moved.getLsbD n && targetOf s (groupOf s n) == 6 && (grpOf s (groupOf s n)).func == f)

/-- Sets the word a register read returns. -/
def reply (v : Nat) (s : State) : State := { s with busRead := BitVec.ofNat 32 v }

/-- EIC_EVENT: an edge, or the assertion of a level source; doorbells pend only through EIC_PEND_SET (R490, R492). -/
def execEicEvent (t : Nat) (src : Fin 512) (s : State) : Host.Outcome State Fault Refusal :=
  let s := s.start t
  if 480 ≤ src.val then done s
  else if eicIsLevel src then done (eicAssert src s) else done (eicEdge src s)

/-- LEVEL_WITHDRAWN: a level source de-asserts (R492, R499). -/
def execLevelWithdrawn (t : Nat) (src : Fin 512) (s : State) : Host.Outcome State Fault Refusal :=
  let s := s.start t
  if eicIsLevel src then done (eicDeassert src s) else done s

/-- COALESCING_TIMER: TIME has passed since the first event counted, and the group fires (R494). -/
def execCoalescingTimer (t : Nat) (g : Fin 32) (s : State) : Host.Outcome State Fault Refusal :=
  let s := s.start t
  match (grpOf s g).since with
  | some t0 => if t0 + (grpOf s g).time * 250 * nsU ≤ s.tb then done (groupFire g s) else done s
  | none => done s

/-- EIC_CLAIM: the lowest claimable source goes into service (R495). -/
def execEicClaim (t : Nat) (who : Claimant) (s : State) : Host.Outcome State Fault Refusal :=
  let s := s.start t
  match (upto 512).find? (claimable s who) with
  | some n =>
    let s := uncount n s
    done (reply (2 ^ 31 + n) (modEic (fun e => { e with
      active := e.active ||| srcBit n, pend := e.pend &&& ~~~srcBit n, moved := e.moved &&& ~~~srcBit n
      owner := bset e.owner n (ownerOf who)
      asleepFrom := bdel e.asleepFrom n, wakeReq := bdel e.wakeReq n, noWake := e.noWake &&& ~~~srcBit n }) s))
  | none => done (reply 0 s)

/-- EIC_COMPLETE: service ends; a source not in service there is ignored and sets BAD_COMPLETE (R496). -/
def execEicComplete (t : Nat) (who : Claimant) (src : Fin 512) (s : State) : Host.Outcome State Fault Refusal :=
  let s := s.start t
  if s.eic.active.getLsbD src && bget 0 s.eic.owner src == ownerOf who then done (eicFinish src s)
  else match who with
    | .pf f => done (modEic (fun e => { e with badComplete := bset e.badComplete f true }) s)
    | .core _ => done s

/-- The host sources named by the set bits of word j of a 16-word array. -/
def hostSources (j : Nat) (w : BitVec 32) : List Nat :=
  ((upto 32).filter fun i => w.getLsbD i && isHostSrc (32 * j + i)).map fun i => 32 * j + i

/-- EIC_PEND_SET: each named host source has one edge event (R493). -/
def execEicPendSet (t : Nat) (j : Fin 16) (w : BitVec 32) (s : State) : Host.Outcome State Fault Refusal :=
  done ((hostSources j w).foldl (fun s n => eicEdge n s) (s.start t))

/-- The pending bit of source n cleared, also one that arose during service; a level source that is still asserted pends
again (R493, R497). -/
def pendClear (s : State) (n : Nat) : State :=
  let s := modEic (fun e => { e with again := e.again &&& ~~~srcBit n }) s
  if s.eic.pend.getLsbD n then
    let s := eicWithdraw n s
    if eicIsLevel n && s.eic.level.getLsbD n then setPending n s else s
  else s

/-- EIC_PEND_CLR (R493). -/
def execEicPendClr (t : Nat) (j : Fin 16) (w : BitVec 32) (s : State) : Host.Outcome State Fault Refusal :=
  done ((hostSources j w).foldl pendClear (s.start t))

/-- EIC_MASK_SET: the named host sources are masked; a masked event counts no longer and waits at no
target (R493, R502). -/
def execEicMaskSet (t : Nat) (j : Fin 16) (w : BitVec 32) (s : State) : Host.Outcome State Fault Refusal :=
  done ((hostSources j w).foldl (fun s n => modEic (fun e => { e with
    mask := e.mask ||| srcBit n
    asleepFrom := bdel e.asleepFrom n, wakeReq := bdel e.wakeReq n, noWake := e.noWake &&& ~~~srcBit n }) (uncount n s)) (s.start t))

/-- Source n unmasked; if it is pending it is counted now (R493). -/
def unmask (s : State) (n : Nat) : State :=
  let was := s.eic.mask.getLsbD n
  let s := modEic (fun e => { e with mask := e.mask &&& ~~~srcBit n }) s
  if was && s.eic.pend.getLsbD n && !s.eic.active.getLsbD n then arbitrate (countEvent n s) n else s

/-- EIC_MASK_CLR (R493). -/
def execEicMaskClr (t : Nat) (j : Fin 16) (w : BitVec 32) (s : State) : Host.Outcome State Fault Refusal :=
  done ((hostSources j w).foldl unmask (s.start t))

/-- ARBITRATION (R500). -/
def execArbitration (t : Nat) (s : State) : Host.Outcome State Fault Refusal :=
  done ((upto 512).foldl arbitrate (s.start t))

/-- WAKE_TIMEOUT: the target did not wake within EIC_WAKE_TO, and the event is handled as not wake-capable (R502). -/
def execWakeTimeout (t : Nat) (src : Fin 512) (s : State) : Host.Outcome State Fault Refusal :=
  let s := s.start t
  let w := bget 0 s.eic.wakeReq src
  if w != 0 && targetAsleep s src && decide (w - 1 + parN s 0x7402 0 * msU ≤ s.tb) then
    done (modEic (fun e => { e with
      noWake := e.noWake ||| srcBit src, wakeReq := bdel e.wakeReq src
      asleepFrom := bset e.asleepFrom src (s.tb + 1) }) s)
  else done s

/-- REDIRECT_TIMEOUT: the event leaves the asleep target for the EIC_FALLBACK core (R502). -/
def execRedirectTimeout (t : Nat) (src : Fin 512) (s : State) : Host.Outcome State Fault Refusal :=
  let s := s.start t
  let a := bget 0 s.eic.asleepFrom src
  let g := groupOf s src
  let tgt := targetOf s g
  if a != 0 && (eicReady s).getLsbD src && !s.eic.moved.getLsbD src && targetAsleep s src
      && (!Config.eicWake src || s.eic.noWake.getLsbD src)
      && decide (a - 1 + parN s 0x7401 0 * usU ≤ s.tb) then
    let s := modEic (fun e => { e with
      moved := e.moved ||| srcBit src, asleepFrom := bdel e.asleepFrom src, noWake := e.noWake &&& ~~~srcBit src
      redCnt := bmod 0 e.redCnt tgt satInc
      redirected := if tgt = 6 then bmod 0 e.redirected (grpOf s g).func satInc else e.redirected }) (uncount src s)
    done (logNow 0x0004 src tgt (emit (.coreIrq (parN s 0x7400 0) g) s))
  else done s

/-- The bytes of a log entry (R503). -/
def logBytes (e : LogE) : List Byte :=
  leBytes 8 e.t.toNat ++ leBytes 2 e.code.toNat ++ leBytes 2 e.src.toNat ++ leBytes 4 e.data.toNat

/-- LOG_ENTRY_WRITE: 250 ns after the last one the oldest staged entry goes to slot NEXT, pends source 256 + class, reaches the recorder, and
triggers it when its class is REC_TRIG_CLASS or higher (R467, R470, R506, R507, R510). -/
def execLogEntryWrite (t : Nat) (s : State) : Host.Outcome State Fault Refusal :=
  let s := s.start t
  match s.log.staging with
  | [] => done s
  | e :: r =>
    if !periodDue s.log.wroteAt (250 * nsU) s.tb then done s
    else
    let n := s.log.next.toNat
    let wrap := decide (254 ≤ n)
    let s := { s with log := { s.log with
      wroteAt := some s.tb, staging := r, slots := bset s.log.slots n e
      next := if wrap then 0 else s.log.next + 1
      gen := if wrap then s.log.gen + 1 else s.log.gen } }
    let c := classOf e.code.toNat
    let s := recItem 10 0 e.t (logBytes e) (eicEdge (256 + c) s)
    done (if parN s 0x681B 0 ≤ c then recTrigger 3 e.t s else s)

/-- EIC_FIRST and FIRST_VALID cleared (R509). -/
def firstClear (s : State) : State := { s with log := { s.log with first := none } }

end Sys2Proof.Machine
end

