-- ==== Sys2Proof/Machine/SafetyIo.lean ====
section
/-!
DEFINITION. Tightrope's wired side: input sampling and test pulses, the safety functions, output switching, dark tests
and the SAFECFG pins (R403 to R430), with Calliope's output logic of R118 to R120.
-/
namespace Sys2Proof.Machine

/-! ## Inputs and test pulses -/

/-- The test-pulse source of input i: SI_TP_SRC or EDM_TP_SRC (R407); 0xFF none. -/
def inSource (s : State) (i : Nat) : Nat := if i < 16 then parN s 0x6011 i else parN s 0x6012 (i - 16)

/-- Test-pulse source n. -/
def tpOf (s : State) (n : Nat) : TpS := bget {} s.saf.tp n
/-- Test-pulse source n changed. -/
def modTp (n : Nat) (f : TpS → TpS) (s : State) : State := modSaf (fun c => { c with tp := bmod {} c.tp n f }) s

/-- TP_WIDTH in T64 units. -/
def tpWidth (s : State) : Nat := parN s 0x6021 0 * usU
/-- TP_RECOVERY in T64 units. -/
def tpRecovery (s : State) : Nat := parN s 0x6022 0 * usU
/-- The sampling period of Calliope (R403). -/
abbrev siPeriod : Nat := 10 * usU

/-- Function slot k uses input i (R411). -/
def sfUses (s : State) (k i : Nat) : Bool :=
  let ty := parN s 0x6030 k
  let n := if ty = 6 then 4 else if ty = 0 || ty = 8 then 0 else 2
  (upto n).any fun c => parN s 0x6031 k / 256 ^ c % 256 == i

/-- Input i is an OSSD input of a light curtain; LC_TP_TOL of its function (R418). -/
def lcTol (s : State) (i : Nat) : Option Nat :=
  ((upto 12).find? fun k => parN s 0x6030 k == 7 && sfUses s k i).map fun k => parN s 0x6037 k

/-- A fault of input i: logged and counted once while it lasts, under the cause observed first, and every function that uses the input
goes to FAULT (R408 to R410; DESIGN CHOICE, log entry 101). -/
def inputFault (i cause foreign : Nat) (s : State) : State :=
  let x := inOf s i
  let s := modIn i (fun x => { x with cleanRun := 0, cleanFor := 0 }) s
  let s := if x.fault != 0 && x.fault != 4 then s
    else
      let s := modIn i (fun x => { x with fault := cause, foreign := foreign }) s
      logNow 0x4B01 i (siFault s i) (modSaf (fun f => { f with tpErr := satInc f.tpErr }) s)
  (upto 12).foldl (fun s k => if sfUsed s k && sfUses s k i then modSf k (fun f => { f with st := 4 }) s
    else s) s

/-- An input fault ends after three test periods of the input's own source, and after a cross-short three of the other source too,
in which none was observed (R419). -/
def inputClear (i : Nat) (s : State) : State :=
  modIn i (fun x =>
    if x.fault != 0 && x.fault != 4 && decide (3 ≤ x.cleanRun) && (x.fault != 2 || decide (3 ≤ x.cleanFor)) then
      { x with fault := 0, foreign := 0 }
    else x) s

/-- A pulse of source n starts now: k TP_PERIOD + n TP_PERIOD / 8 after the sources started (R406). -/
def tpDue (s : State) (n : Nat) : Bool :=
  let per := parN s 0x6020 0 * msU
  decide (s.saf.srcFrom ≤ s.tb) && (s.tb - s.saf.srcFrom) % max per 1 == n * per / 8

/-- TEST_PULSE: at its instant a source whose bit in TP_ENABLE is 1 switches low in CONFIG, RUN or SAFE; its inputs are
masked, and the other pulsed inputs are watched for a cross-short (R405 to R408). -/
def execTestPulse (t : Nat) (n : Fin 8) (s : State) : Host.Outcome State Fault Refusal :=
  let s := s.start t
  if s.saf.srcOn && bit (parN s 0x6023 0) n && !(tpOf s n).pulse && tpDue s n then
    let s := emit (.ball "TP low" n) (modTp n (fun p => { p with pulse := true, pulseFrom := s.tb, readHigh := false }) s)
    done ((upto 20).foldl (fun s i =>
      let src := inSource s i
      if src = n then modIn i (fun x => { x with maskUntil := s.tb + tpWidth s + tpRecovery s }) s
      else if src != 0xFF then modIn i (fun x => { x with highBefore := x.raw, lowIn := 0 }) s
      else s) s)
  else done s

/-- The readback of source n at a sample: high within its pulse, or low for more than 50 µs outside, is a fault; three
passed pulses clear it (R409). -/
def tpSample (rd : BitVec 8) (s : State) (n : Nat) : State :=
  let p := tpOf s n
  let hi := rd.getLsbD n
  let inPulse := p.pulse && decide (s.tb < p.pulseFrom + tpWidth s)
  let faulty := fun (s : State) =>
    (upto 20).foldl (fun s i => if inSource s i = n then inputFault i 3 0 s else s)
      (modTp n (fun p => { p with fault := true, good := 0 }) s)
  if inPulse then
    let high := hi && decide (p.pulseFrom < s.tb)
    let s := modTp n (fun p => { p with readHigh := p.readHigh || high, lowFrom := none }) s
    if high then faulty s else s
  else
    let s := if p.pulse then
        let good := if p.readHigh then 0 else p.good + 1
        modTp n (fun p => { p with pulse := false, good := good, fault := p.fault && decide (good < 3) }) s
      else s
    if hi || !s.saf.srcOn then modTp n (fun p => { p with readHigh := hi, lowFrom := none }) s
    else
      let from0 := p.lowFrom.getD s.tb
      let s := modTp n (fun p => { p with readHigh := hi, lowFrom := some from0 }) s
      if from0 + 50 * usU < s.tb then faulty s else s

/-- Samples on which input i must hold a level, the first and the one a filter time later included: SI_FILTER, 1.0 ms for
EDM (R404). -/
def filterSamples (s : State) (i : Nat) : Nat := (if i < 16 then 10 * parN s 0x6010 i else 100) + 1

/-- One sample of input i; a masked sample neither counts towards the filter nor ends the count (R404, R407, R408, R418,
R423, R428). -/
def inSample (raw : BitVec 20) (s : State) (i : Nat) : State :=
  let x := inOf s i
  let r := raw.getLsbD i
  let src := inSource s i
  let own := tpOf s src
  let own1 := src != 0xFF && own.pulse
  let check := own1 && decide (s.tb < own.pulseFrom + tpWidth s) && decide (own.pulseFrom + tpWidth s ≤ s.tb + siPeriod)
  let s := if check then
      if r then inputFault i 1 0 s
      else if own.fault then s
      else inputClear i (modIn i (fun x => { x with cleanRun := x.cleanRun + 1 }) s)
    else s
  let other := (upto 8).find? fun m => m != src && (tpOf s m).pulse
  let s := match other with
    | some m =>
      if src = 0xFF then s
      else if s.tb < (tpOf s m).pulseFrom + tpWidth s then
        if r then s else modIn i (fun x => { x with lowIn := x.lowIn + 1 }) s
      else if (inOf s i).highBefore && r && decide (2 ≤ (inOf s i).lowIn) then inputFault i 2 m s
      else if (inOf s i).fault == 2 && (inOf s i).foreign == m then inputClear i (modIn i (fun x => { x with cleanFor := x.cleanFor + 1 }) s)
      else s
    | none => s
  let o := outOf s (i - 16)
  let masked := decide (s.tb < x.maskUntil) ||
    (decide (16 ≤ i) && (o.dark || decide (o.lastDark != 0 && s.tb < o.lastDark + parN s 0x6040 (i - 16) * usU + msU)))
  if masked then modIn i (fun x => { x with raw := r }) s
  else if r == x.state then modIn i (fun x => { x with raw := r, run := 0 }) s
  else
    let need := match lcTol s i with
      | some tol => if r then filterSamples s i else 10 * tol + 1
      | none => filterSamples s i
    if need ≤ x.run + 1 then modIn i (fun x => { x with raw := r, run := 0, state := r }) s
    else modIn i (fun x => { x with raw := r, run := x.run + 1 }) s

/-- The payload of SAFE_IN: SI, EDM and output readback states (R115; the order of its bytes is not published: DESIGN
CHOICE, log entry 10). -/
def safeInPayload (s : State) (so : BitVec 4) : List Byte :=
  leBytes 2 (siState s) ++ [BitVec.ofNat 8 (soState s / 16), so.setWidth 8]

/-- SI_SAMPLE: every 10 µs Calliope samples and filters every input, checks its sources and sends SAFE_IN (R403, R404,
R407 to R409). -/
def execSiSample (t : Nat) (raw : BitVec 20) (tpRead : BitVec 8) (soRead : BitVec 4) (s : State) :
    Host.Outcome State Fault Refusal :=
  let s := s.start t
  if !periodDue s.saf.siAt (10 * usU) s.tb then done s
  else
  let s := modSaf (fun f => { f with siAt := some s.tb }) s
  let s := (upto 20).foldl (inSample raw) s
  let s := (upto 8).foldl (tpSample tpRead) s
  done (barSend 5 0x28 (safeInPayload s soRead) s)

/-! ## Functions -/

/-- The level of input i as the safety core last received it. -/
def scIn (s : State) (i : Nat) : Bool := (inOf s i).sc

/-- Whether each channel of slot k is in its release state, in the order of SF_IN (R411). -/
def chanRelease (s : State) (k : Nat) : List Bool :=
  let i := fun c => scIn s (parN s 0x6031 k / 256 ^ c % 256)
  match parN s 0x6030 k with
  | 1 => [i 0, i 1]
  | 2 => [i 0, !i 1]
  | 3 => [i 0, i 1]
  | 4 => [i 0, !i 1]
  | 5 => [i 0, i 1]
  | 6 => [i 0, !i 1, i 2, !i 3]
  | 7 => [i 0, i 1]
  | _ => []

/-- An input of slot k has a fault of R408 or R409. -/
def sfInputFault (s : State) (k : Nat) : Bool :=
  (upto 20).any fun i => sfUses s k i && (inOf s i).fault != 0 && (inOf s i).fault != 4

/-- The discrepancies that R416 and R417 time in slot k: of the channels of types 1 to 4 and 7, of the contacts of each hand in
type 6. -/
def discrepant (s : State) (k : Nat) : Bool × Bool :=
  let c := chanRelease s k
  match parN s 0x6030 k with
  | 5 => (false, false)
  | 6 => (c.getD 0 false != c.getD 1 false, c.getD 2 false != c.getD 3 false)
  | 8 => (false, false)
  | _ => (c.any id && !c.all id, false)

/-- A reset edge of slot k at this instant: the SF_RESET_SI input falls after 100 ms to 5.0 s high (R414). -/
def resetAccepted (s : State) (k : Nat) : Bool :=
  let r := parN s 0x6035 k
  match (sfOf s k).rstHigh with
  | some a => r != 0xFF && !scIn s r && decide (a + 100 * msU ≤ s.tb) && decide (s.tb ≤ a + 5 * secU)
  | none => false

/-- Type-8 demand: its field is violated, or the selection is invalid (R436, R443). -/
def fieldDemand (s : State) (k : Nat) : Bool :=
  s.fe.selInvalid || (bget ({} : FldF) s.fe.fields (parN s 0x6031 k % 256)).violated

/-- The bookkeeping of slot k: since when channels disagree, release, demand and the reset input is high, and the hands of
a two-hand function (R414 to R417, R419). -/
def sfTrack (s : State) (k : Nat) : State :=
  let c := chanRelease s k
  let all := c.all id
  let none0 := !c.any id
  let two := (parN s 0x6030 k == 5 || parN s 0x6030 k == 6)
  let hand := fun (j : Nat) => if parN s 0x6030 k = 6 then c.getD (2 * j) false && c.getD (2 * j + 1) false
    else c.getD j false
  let r := parN s 0x6035 k
  let disc := discrepant s k
  modSf k (fun f => { f with
    discFrom := if disc.1 then some (f.discFrom.getD s.tb) else none
    discFrom2 := if disc.2 then some (f.discFrom2.getD s.tb) else none
    relFrom := if none0 then none else some (f.relFrom.getD s.tb)
    demFrom := if none0 then some (f.demFrom.getD s.tb) else none
    startSeen := f.startSeen || none0
    bothRel := if two then (f.bothRel || none0) else f.bothRel
    late := if none0 then false else f.late ||
      (two && all && (match f.handFrom with
        | some h => decide (h + 500 * msU < s.tb)
        | none => false))
    handFrom := if two && (hand 0 || hand 1) then some (f.handFrom.getD s.tb) else none
    rstHigh := if r != 0xFF && scIn s r then some (f.rstHigh.getD s.tb) else none }) s

/-- The next state of slot k from its channels; acc is a reset accepted at this instant (R413 to R419). -/
def sfNext (s : State) (k : Nat) (acc : Bool) : Nat :=
  let f := sfOf s k
  let ty := parN s 0x6030 k
  let c := chanRelease s k
  let all := if ty = 8 then !fieldDemand s k else c.all id
  let two := (ty == 5 || ty == 6)
  let restart := parN s 0x6034 k
  if ty != 8 && sfInputFault s k then 4
  else match f.st with
    | 0 =>
      if ty = 8 then 1
      else if two then (if f.bothRel || !parB s 0x6036 k then 1 else 0)
      else if parB s 0x6036 k then (if f.startSeen && all then 1 else 0)
      else 1
    | 1 =>
      if !all then 1
      else if two then (if f.bothRel && !f.late then 3 else 1)
      else if ty = 8 then (if restart = 0 then 3 else 2)
      else match f.relFrom with
        | some a => if s.tb ≤ a + parN s 0x6033 k * msU then (if restart = 0 then 3 else 2) else 1
        | none => 1
    | 2 => if !all then 1 else if acc then 3 else 2
    | 3 => if all then 3 else 1
    | _ =>
      match f.demFrom with
      | some a => if a + 100 * msU ≤ s.tb then 1 else 4
      | none => 4

/-- Slot k evaluated once; a two-hand function that releases must be released together before it releases again; leaving
FAULT clears the discrepancy of its inputs (R413, R417, R419). -/
def sfEval (s : State) (k : Nat) : State :=
  if !sfUsed s k then s
  else
    let old := (sfOf s k).st
    let acc := resetAccepted s k
    let s := sfTrack s k
    let n := sfNext s k acc
    let s := modSf k (fun f => { f with
      st := n
      bothRel := if n = 3 && old != 3 then false else f.bothRel
      startSeen := if old = 0 && n != 0 then false else f.startSeen }) s
    let s := if old = 4 && n != 4 then
        (upto 20).foldl (fun s i => if sfUses s k i && (inOf s i).fault == 4 then
          modIn i (fun x => { x with fault := 0 }) s else s) s
      else s
    if n = 1 then
        (upto 4).foldl (fun s o => if bit (parN s 0x6032 k) o then
          modOut o (fun x => { x with faultPassed := if x.faultPassed.contains k then x.faultPassed else x.faultPassed ++ [k] }) s
          else s) s
      else s

/-- Output faults 4 to 8 clear when every function that maps the output has passed through DEMAND after the fault, and
the feedback contact, where monitored, is high (R426). -/
def outClear (s : State) (n : Nat) : State :=
  let o := outOf s n
  let maps := (upto 12).filter fun k => sfUsed s k && bit (parN s 0x6032 k) n
  if decide (4 ≤ o.fault) && maps.all (fun k => o.faultPassed.contains k) &&
      (parN s 0x6042 n != 1 || (inOf s (16 + n)).sc) then
    modOut n (fun o => { o with fault := 0, faultPassed := [] }) s
  else s

/-- The functions are evaluated while the sources are on and a set is in force, then the outputs (R413, R420, R427). -/
def evalFunctions (s : State) : State :=
  if s.saf.srcOn && decide (1 ≤ s.saf.setNo) then
    evalOutputs ((upto 4).foldl outClear ((upto 12).foldl sfEval s))
  else evalOutputs s

/-- The selection that the inputs of FS_SEL_SI make (R439, R440): one of them high. -/
def inputSelection (s : State) : Option Nat :=
  let hi := (upto 8).filter fun i => parN s 0x6112 i != 0xFF && scIn s (parN s 0x6112 i)
  match hi with
  | [i] => some (parN s 0x6113 i)
  | _ => none

/-- The selection of modes 0 and 1 followed at a SAFE_IN frame: a valid one is taken up for the next frame start, an
invalid one is timed (R439, R440, R442). -/
def followSelection (s : State) : State :=
  let put := fun (x : Nat) (s : State) => { s with fe := { s.fe with
    next := if x = s.fe.active then none else some x, selInvalid := false, selBadFrom := none } }
  match parN s 0x6110 0 with
  | 0 => put (parN s 0x6111 0) s
  | 1 => match inputSelection s with
    | some x => put x s
    | none => { s with fe := { s.fe with selBadFrom := some (s.fe.selBadFrom.getD s.tb) } }
  | _ => s

/-- SAFE_IN: the safety core takes the states and readbacks, then evaluates selection, functions and outputs
(R413, R422, R424). -/
def execSafeIn (t : Nat) (si : BitVec 16) (edm so : BitVec 4) (s : State) : Host.Outcome State Fault Refusal :=
  let s := s.start t
  let s := (upto 20).foldl (fun s i => modIn i (fun x => { x with
    sc := if i < 16 then si.getLsbD i else edm.getLsbD (i - 16) }) s) s
  let s := (upto 4).foldl (fun s n => modOut n (fun o =>
    let rb := so.getLsbD n
    let bad := rb != o.on && !o.dark
    { o with
      readback := rb
      badFrom := if bad then some (o.badFrom.getD s.tb) else none
      edmPending := match o.edmPending with
        | some a => if edm.getLsbD n != o.on then none else some a
        | none => none }) s) s
  done (evalFunctions (followSelection s))

/-- DISCREPANCY_TIMEOUT: the other channel did not follow within SF_DISC; FAULT with cause 4 (R416, R417). -/
def execDiscrepancyTimeout (t : Nat) (k : Fin 12) (s : State) : Host.Outcome State Fault Refusal :=
  let s := s.start t
  let f := sfOf s k
  let d := discrepant s k
  let ran := fun (now : Bool) (since : Option Nat) => now && since.any fun a => decide (a + parN s 0x6033 k * msU ≤ s.tb)
  if sfUsed s k && f.st != 4 && (ran d.1 f.discFrom || ran d.2 f.discFrom2) then
    let s := modSf k (fun f => { f with st := 4 }) s
    let s := (upto 20).foldl (fun s i => if sfUses s k i && (inOf s i).fault == 0 then
      modIn i (fun x => { x with fault := 4 }) s else s) s
    done (evalOutputs s)
  else done s

/-! ## Calliope's outputs -/

/-- Calliope switches output n off (R118, R120, R422, R425). -/
def outOff (n : Nat) (s : State) : State :=
  modOut n (fun o => { o with
    on := false, reqRun := 0, dark := false, darkVoid := o.darkVoid || o.dark
    offAt := if o.on then s.tb else o.offAt
    edmPending := if o.on then some s.tb else o.edmPending }) s

/-- FAST_OFF: symbol FOk switches off every output in the mask armed for it; k = 4 stands for a symbol that decodes as no valid
code, which switches nothing and counts as a CRC error of BL0 (R118). -/
def execFastOff (t : Nat) (k : Fin 5) (s : State) : Host.Outcome State Fault Refusal :=
  let s := s.start t
  if k.val = 4 then done (crcError 0 s)
  else done ((upto 4).foldl (fun s n => if bit (bget 0 s.fld.foMask k) n then outOff n s else s) s)

/-- FO_ARM: the masks of FO0 to FO3 (R118). -/
def execFoArm (t : Nat) (masks : List (BitVec 4)) (s : State) : Host.Outcome State Fault Refusal :=
  let s := s.start t
  done (modFld (fun c => { c with foMask := (upto 4).foldl (fun b k => bset b k (masks.getD k 0).toNat) c.foMask }) s)

/-- One output at a valid OUT_STATE: a new token restarts its watchdog, a request absent switches it off, the second
request in a row switches it on (R119, R120). -/
def outStateOne (req : BitVec 4) (tokens : List Byte) (s : State) (n : Nat) : State :=
  let tk := tokens.getD n 0
  let s := modOut n (fun o => if tk != o.token then { o with token := tk, wdgFrom := s.tb, wdgOff := false } else o) s
  if !req.getLsbD n then outOff n s
  else
    let o := outOf s n
    let run := o.reqRun + 1
    if 2 ≤ run && !o.wdgOff && !o.on then
      modOut n (fun o => { o with reqRun := run, on := true, onAt := s.tb, edmPending := some s.tb, darkVoid := false }) s
    else modOut n (fun o => { o with reqRun := run }) s

/-- OUT_STATE (R118 to R120). -/
def execOutState (t : Nat) (req : BitVec 4) (tokens : List Byte) (s : State) : Host.Outcome State Fault Refusal :=
  done ((upto 4).foldl (outStateOne req tokens) (s.start t))

/-- OUT_STATE_SEND: every 50 µs new tokens, and the frame (R120). -/
def execOutStateSend (t : Nat) (s : State) : Host.Outcome State Fault Refusal :=
  let s := s.start t
  if !periodDue s.saf.outAt (50 * usU) s.tb then done s
  else
  let s := modSaf (fun f => { f with outAt := some s.tb }) s
  let s := modFld (fun c => { c with outWanted := (upto 4).foldl (fun b n => bmod 0 b n (· + 1)) c.outWanted }) s
  done (barSend 0 0x03 (outStatePayload s) s)

/-- OUTPUT_WATCHDOG_EXPIRY: 1 ms without restart switches the output off until the restart rule is met again
(R21, R120). -/
def execOutputWatchdogExpiry (t : Nat) (n : Fin 4) (s : State) : Host.Outcome State Fault Refusal :=
  let s := s.start t
  if (outOf s n).wdgFrom + msU ≤ s.tb then done (modOut n (fun o => { o with wdgOff := true }) (outOff n s)) else done s

/-- DARK_TEST: an on output, no other in a test, 1 s after it went on and SO_DT_PERIOD after its last test (R423, R425). -/
def execDarkTest (t : Nat) (n : Fin 4) (s : State) : Host.Outcome State Fault Refusal :=
  let s := s.start t
  let o := outOf s n
  if o.on && (upto 4).all (fun k => !(outOf s k).dark) && decide (o.onAt + secU ≤ s.tb) &&
      (o.lastDark < o.onAt || decide (o.lastDark + parN s 0x6041 n * secU ≤ s.tb)) then
    done (modOut n (fun o => { o with dark := true, darkVoid := false, darkFrom := s.tb, lastDark := s.tb }) s)
  else done s

/-- DARK_TEST_END: the test ends after SO_DT_WIDTH; fell and returned are what the readback did. A readback that did not
fall is a stuck switch A or B; switches alternate; a void result is discarded (R423 to R425). -/
def execDarkTestEnd (t : Nat) (n : Fin 4) (fell returned : Bool) (s : State) : Host.Outcome State Fault Refusal :=
  let s := s.start t
  let o := outOf s n
  if !o.dark then done (modOut n (fun o => { o with darkVoid := false }) s)
  else if s.tb < o.darkFrom + parN s 0x6040 n * usU then done s
  else
    let s := modOut n (fun o => { o with dark := false, darkVoid := false, darkB := !o.darkB }) s
    if o.darkVoid then done s
    else if !fell then done (outFault n (if o.darkB then 2 else 1) (outOff n s))
    else if returned then done (modSaf (fun f => { f with dtCount := satInc f.dtCount }) s)
    else done s

/-- OUTPUT_READBACK_FAULT: readback disagrees with the output for more than 1 ms: code 3 while off, 4 while on (R424). -/
def execOutputReadbackFault (t : Nat) (n : Fin 4) (s : State) : Host.Outcome State Fault Refusal :=
  let s := s.start t
  let o := outOf s n
  match o.badFrom with
  | some a =>
    if a + msU < s.tb && !o.dark && o.readback != o.on && (o.fault = 0 || (o.readback && decide (3 < o.fault))) then
      done (outFault n (if o.readback then 3 else 4) s)
    else done s
  | none => done s

/-- CURRENT_LIMIT: the output switches off, code 5 (R421, R424). -/
def execCurrentLimit (t : Nat) (n : Fin 4) (s : State) : Host.Outcome State Fault Refusal :=
  let s := s.start t
  if (outOf s n).on then done (outFault n 5 (outOff n s)) else done s

/-- EDM_TIMEOUT: the feedback contact did not follow within EDM_TIME: code 6 after off, 7 after on (R424, R426). -/
def execEdmTimeout (t : Nat) (n : Fin 4) (s : State) : Host.Outcome State Fault Refusal :=
  let s := s.start t
  let o := outOf s n
  match o.edmPending with
  | some a =>
    if parN s 0x6042 n = 1 && decide (a + parN s 0x6043 n * msU ≤ s.tb) then
      let s := modOut n (fun o => { o with edmPending := none }) s
      if (inOf s (16 + n)).sc = o.on then done (outFault n (if o.on then 7 else 6) s) else done s
    else done s
  | none => done s

/-- A SAFECFG pattern is valid when [7:4] is the complement of [3:0] (R427). -/
def pinsValid (p : BitVec 8) : Bool := (p.toNat / 16) + (p.toNat % 16) == 15

/-- SAFECFG_READ: every 100 ms, a reading after BOOT that differs from the BOOT reading or is invalid: outputs off, SAFE, entry 0x4B03
(R427, R430). In RECOVERY, before which BOOT reads no pins, the first reading is the one that later ones are held against (DESIGN CHOICE,
log entry 101). -/
def execSafecfgRead (t : Nat) (pins : BitVec 8) (s : State) : Host.Outcome State Fault Refusal :=
  let s := s.start t
  if s.dev == .boot || s.dev == .dormant || s.dev == .off || !periodDue s.saf.pinsAt (100 * msU) s.tb then done s
  else
    let s := if s.saf.pinsAt.isNone then modSaf (fun f => { f with pinsBoot := pins, pinsOk := pinsValid pins }) s else s
    let first0 := s.saf.pinsAt.isNone
    let s := modSaf (fun f => { f with pins := pins, pinsAt := some s.tb }) s
    if first0 then done s
    else if pins = s.saf.pinsBoot && pinsValid pins then done s
    else
      let first := !s.saf.causes.contains .cfgChange
      let s := modSaf (fun f => { f with pinsOk := false, pinChange := f.pinChange || (s.dev == .run) }) s
      let s := if first then logNow 0x4B03 noSrc pins.toNat s else s
      done (evalOutputs (safeCause .cfgChange s))

end Sys2Proof.Machine
end

