-- ==== Sys2Proof/Machine/Fields.lean ====
section
/-!
DEFINITION. The field evaluator, the selection of field sets and the safety PDUs on CANA and CANB (R431 to R462).
-/
namespace Sys2Proof.Machine

/-- The field evaluator changed. -/
def modFe (f : FeS → FeS) (s : State) : State := { s with fe := f s.fe }

/-! ## Field definitions -/

/-- Byte i of a definition. -/
def fbN (d : List Byte) (i n : Nat) : Nat := ofLe ((d.drop i).take n)
/-- Two's complement of 16 bits at byte i of a definition. -/
def fbI (d : List Byte) (i : Nat) : Int := signed 16 (fbN d i 2)

/-- Cells of a definition (R434). -/
def cellCount (d : List Byte) : Nat :=
  let w := fbN d 8 2
  if w = 0 then 0 else ((fbI d 6 - fbI d 4).toNat + w - 1) / w

/-- The cell of an azimuth inside a definition (R434). -/
def cellOf (d : List Byte) (az : Int) : Nat := (az - fbI d 4).toNat / max (fbN d 8 2) 1

/-- Contour points (AZ, range in mm) of a definition (R431). -/
def contour (d : List Byte) : List (Int × Int) :=
  (upto (fbN d 3 1)).map fun i => (fbI d (12 + 6 * i), (fbN d (14 + 6 * i) 4 : Nat))

/-- Whether x (0.25 mm) lies at or inside the contour at an azimuth, interpolated linearly between points (R431, R433). -/
def insideContour : List (Int × Int) → Int → Int → Bool
  | (a0, r0) :: (a1, r1) :: rest, az, x =>
    if a0 ≤ az && az ≤ a1 then decide (x * (a1 - a0) ≤ 4 * (r0 * (a1 - a0) + (r1 - r0) * (az - a0)))
    else insideContour ((a1, r1) :: rest) az x
  | _, _, _ => false

/-- An echo counts against a field (R433), the channel and azimuth being inside it. -/
def echoCounts (s : State) (d : List Byte) (az : Int) (e : FieldEcho) : Bool :=
  e.cls != 6 && e.cls != 7 && !bit (parN s 0x6104 0) e.cls && decide (4 * fbN d 10 2 ≤ e.range) &&
    insideContour (contour d) az ((e.range : Int) - 4 * (parN s 0x6103 0 : Nat) - 6 * (e.sigma : Nat))

/-- A channel may give good channel-shots: neither the reference check nor the window test fails, and it is not lost
(R189, R434). -/
def channelGood (s : State) (c : Nat) : Bool :=
  let x : ChanS := bget {} s.chan c
  !x.refFail && !x.contam && !x.lost

/-- The count of a cell found violated: 1 + the largest count of its neighbourhood at the end of the frame before (R435). -/
def cellNext (k : Bank Nat) (c : Nat) : Nat :=
  1 + max (bget 0 k c) (max (bget 0 k (c + 1)) (if c = 0 then 0 else bget 0 k (c - 1)))

/-- A cell found violated in a frame; the field is violated when its count reaches FLD_N_CONFIRM (R434, R435). -/
def cellViolated (s : State) (c : Nat) (x : FldF) : FldF :=
  if x.viol.contains c then x
  else { x with viol := x.viol ++ [c], violated := x.violated || decide (parN s 0x6101 0 ≤ cellNext x.k c) }

/-- A cell found violated by a result that comes after its frame's end: in the frame that ended last, where it was complete
(run), the count of that frame's end follows; in another frame it is a first count, which no run goes on from (R187, R435, R686;
DEDUCED, log entry 85). -/
def cellLate (s : State) (run : Bool) (c : Nat) (x : FldF) : FldF :=
  let n := cellNext (if run then x.old else []) c
  { x with
    k := if run then bset x.k c (max n (bget 0 x.k c)) else x.k, clear := if run then 0 else x.clear
    violated := x.violated || decide (parN s 0x6101 0 ≤ n) }

/-- The no-good test of a cell: violated when some channel of the field has no good channel-shot in it (R434). -/
def cellDecide (s : State) (d : List Byte) (c : Nat) (x : FldF) : FldF :=
  if x.decided.contains c then x
  else
    let lo := fbN d 1 1
    let gap := (upto (fbN d 2 1 + 1 - lo)).any fun i => !x.good.contains (c, lo + i)
    let x := { x with decided := x.decided ++ [c] }
    if gap then cellViolated s c x else x

/-- Whether an azimuth lies beyond cell c in the direction of the sweep (R434). -/
def beyond (s : State) (d : List Byte) (c : Nat) (az : Int) : Bool :=
  let w : Int := fbN d 8 2
  if s.lce.zs0 ≤ s.lce.zs1 then decide (min (fbI d 6) (fbI d 4 + (c + 1 : Nat) * w) ≤ az)
  else decide (az < fbI d 4 + (c : Nat) * w)

/-- One field of a set under one result. Each channel-shot that a group holds is good in the cell of its own azimuth, the group's
echoes count at the group's azimuth; a result of a frame that has ended makes no cell good and decides none, its echoes still
count (R178, R187, R433, R434; DEDUCED, log entry 85). -/
def fieldShot (s : State) (d : List Byte) (r : FieldShot) (x : FldF) : FldF :=
  let inside := fun (az : Int) => decide (fbI d 4 ≤ az) && decide (az < fbI d 6)
  let inCh := decide (fbN d 1 1 ≤ r.chan.val) && decide (r.chan.val ≤ fbN d 2 1)
  let hit := r.active && inside r.az && inCh && r.echoes.any (echoCounts s d r.az)
  if !s.rm.inFrame || r.frame != s.rm.frameNo then
    if hit then cellLate s (s.fe.lastDone == some r.frame) (cellOf d r.az) x else x
  else
  let x := if r.active && inCh && r.valid && channelGood s r.chan then
      (r.shots.filter inside).foldl (fun x az =>
        let p := (cellOf d az, r.chan.val)
        if x.good.contains p then x else { x with good := x.good ++ [p] }) x
    else x
  let x := if hit then cellViolated s (cellOf d r.az) x else x
  (upto (cellCount d)).foldl (fun x c =>
    if r.active && (r.last || beyond s d c r.theta) then cellDecide s d c x else x) x

/-- The fields of a set under one channel-shot. -/
def setShot (s : State) (set : Nat) (r : FieldShot) (b : Bank FldF) : Bank FldF :=
  (upto 4).foldl (fun b f => if fldKind s set f = 1 || fldKind s set f = 2 then
    bmod {} b f (fieldShot s (fldDef s set f) r) else b) b

/-- Type-8 functions whose field is violated go to DEMAND at once, and the outputs follow (R436, R437). -/
def fieldFunctions (s : State) : State :=
  evalOutputs ((upto 12).foldl (fun s k =>
    if parN s 0x6030 k = 8 && s.saf.srcOn && (sfOf s k).st != 4 && fieldDemand s k then
      modSf k (fun f => { f with st := 1 }) s else s) s)

/-- FIELD_EVALUATION: the oldest result of channel r that waits, live or replayed, against the fields of the active set, and of the old one
during a switch-over (R187, R212, R433 to R437, R442). Evaluated while a set is in force. -/
def execFieldEvaluation (t : Nat) (r : Fin 256) (s : State) : Host.Outcome State Fault Refusal :=
  let s := s.start t
  match s.fe.queue.find? fun x => x.chan == r with
  | none => done s
  | some x =>
    let s := modFe (fun e => { e with queue := e.queue.erase x }) s
    if s.saf.setNo = 0 then done s
    else
      let s := modFe (fun e => { e with
        fields := setShot s e.active x e.fields
        oldFields := if e.switchLeft = 0 then e.oldFields else setShot s e.oldSet x e.oldFields }) s
      done (fieldFunctions s)

/-- One field at a frame's end: cells that no shot has decided are decided, so that a frame without shots leaves no gap;
then the counts of the cells violated in it, clearing after FLD_CLEAR_FRAMES complete frames without a violated cell
(R434, R435). -/
def fieldFrameEnd (s : State) (complete : Bool) (d : List Byte) (x : FldF) : FldF :=
  let x := if complete && decide (1 ≤ fbN d 0 1) then (upto (cellCount d)).foldl (fun x c => cellDecide s d c x) x else x
  let k := x.viol.foldl (fun b c => bset b c (cellNext x.k c)) []
  let clear := if complete && x.viol.isEmpty then x.clear + 1 else 0
  { k := k, old := x.k, viol := [], good := [], decided := [], clear := clear
    violated := x.violated && decide (clear < parN s 0x6102 0) }

/-- The fields of a set newly in force: a protective field counts as violated until it first clears, any other does not
(R435, R451). -/
def freshFields (s : State) (set : Nat) : Bank FldF :=
  ((upto 4).filter fun f => fldKind s set f != 1).foldl (fun b f => bset b f { violated := false }) []

/-- Every field at a frame's end, then the switch-over and a new selection, none while the selection is invalid (R435, R442,
R443). -/
def fieldsFrameStart (complete : Bool) (s : State) : State :=
  let end0 := fun (set : Nat) (b : Bank FldF) =>
    (upto 4).foldl (fun b f => bmod {} b f (fieldFrameEnd s complete (fldDef s set f))) b
  let s := modFe (fun e => { e with
    fields := end0 e.active e.fields, oldFields := end0 e.oldSet e.oldFields, switchLeft := e.switchLeft - 1
    lastDone := if complete then some s.rm.frameNo else none }) s
  match if s.fe.selInvalid then none else s.fe.next with
  | some x => modFe (fun e => { e with
      next := none, oldSet := e.active, oldFields := e.fields, active := x, fields := freshFields s x
      switchLeft := parN s 0x6101 0 }) s
  | none => s

/-- SELECTION_INVALID: an invalid selection that lasts FS_SEL_TIME puts the type-8 functions in DEMAND and leaves the active set as it
is (R440, R443). -/
def execSelectionInvalid (t : Nat) (s : State) : Host.Outcome State Fault Refusal :=
  let s := s.start t
  match s.fe.selBadFrom with
  | some a =>
    if parN s 0x6110 0 = 1 && decide (a + parN s 0x6114 0 * msU ≤ s.tb) then
      done (fieldFunctions (modFe (fun e => { e with selInvalid := true, next := none }) s))
    else done s
  | none => done s

/-- FIELD_EVALUATOR_KAT: in every flyback cycle; a failed test sends the device to SAFE, with entry 0x4B07 (R445, R447). -/
def execFieldEvaluatorKat (t : Nat) (pass : Bool) (s : State) : Host.Outcome State Fault Refusal :=
  let s := s.start t
  if !s.rm.inFrame || decide (s.rm.cycle < s.rm.nAct) then done s
  else
  let s := modFe (fun e => { e with kat := pass }) s
  if pass then done s else done (safeCause .feKat (logNow 0x4B07 noSrc 0 s))

/-! ## Safety PDUs -/

/-- Receive slot j. -/
def slotOf (s : State) (j : Nat) : RxSlot := bget {} s.fe.slots j
/-- Receive slot j changed. -/
def modSlot (j : Nat) (f : RxSlot → RxSlot) (s : State) : State :=
  modFe (fun e => { e with slots := bmod {} e.slots j f }) s
/-- Receive slot j is used (R453). -/
def rxSlotUsed (s : State) (j : Nat) : Bool := parN s 0x6124 j != 0xFFFF

/-- The CRC of a safety PDU: CRC-32 over SPDU_KEY and bytes 0 to 11 (R450). -/
def pduCrc (s : State) (d : List Byte) : BitVec 32 := crc32 (leBytes 4 (parN s 0x6120 0) ++ d.take 12)

/-- A PDU of the device with its CRC (R449, R450). -/
def pduOf (s : State) (ty : Nat) (seq : BitVec 8) (data t64 : Nat) : List Byte :=
  let b := [BitVec.ofNat 8 (16 * ty + parN s 0x6121 0), seq] ++ leBytes 2 data ++ leBytes 8 t64
  b ++ leBytes 4 (pduCrc s b).toNat

/-- A rejected copy is counted (R451, R462). -/
def pduReject (s : State) : State := modFe (fun e => { e with err := satInc e.err }) s

/-- NET_SINGLE and its causes clear after 16 accepted pairs on every used slot and 16 transmissions acknowledged on both
networks (R447, R456). -/
def netClear (s : State) : State :=
  if (s.fe.netSingle || s.fe.mismatch) && decide (16 ≤ s.fe.txAcks) &&
      (upto 4).all (fun j => !rxSlotUsed s j || decide (16 ≤ (slotOf s j).pairs)) then
    safeClear .netMissing (safeClear .pduMismatch
      (modFe (fun e => { e with netSingle := false, missA := false, missB := false, mismatch := false }) s))
  else s

/-- The speed selection of mode 2 (R439, R441): the set in force while the speed stays in its band, else the lowest set
whose band holds it. -/
def speedSelection (s : State) (speed : Option Int) : Option Nat :=
  match speed with
  | none => none
  | some v =>
    if v = -32768 then none
    else
      let inBand := fun (x : Nat) =>
        let lo := parI s 0x6115 x
        let hi := parI s 0x6116 x
        !(lo == -32768 && hi == -32768) && decide (lo ≤ v) && decide (v ≤ hi)
      if inBand s.fe.active then some s.fe.active else (upto 16).find? inBand

/-- Mode 2 follows the received speed (R441, R443). -/
def followSpeed (s : State) : State :=
  if parN s 0x6110 0 != 2 then s
  else
    let j := (upto 4).find? fun j => rxSlotUsed s j && parN s 0x6125 j == 2
    let v := match j with
      | some j => (slotOf s j).data.map fun d => d.toInt
      | none => none
    match speedSelection s v with
    | some x => modFe (fun e => { e with next := if x = e.active then none else some x, selInvalid := false }) s
    | none => fieldFunctions (modFe (fun e => { e with selInvalid := true, next := none }) s)

/-- A pair is accepted on slot j (R454 to R457, R460). -/
def pduAccept (j : Nat) (d : List Byte) (s : State) : State :=
  let seq := BitVec.ofNat 8 (fbN d 1 1)
  let gap := match (slotOf s j).last with
    | some (_, q) => (seq - q).toNat - 1
    | none => 0
  let s := modFe (fun e => { e with lost := satAdd e.lost gap }) s
  let s := modSlot j (fun x => { x with
    last := some (BitVec.ofNat 64 (fbN d 4 8), seq), wait := x.wait.filter (fun p => p.2.2.getD 1 0 != seq), accAt := s.tb
    pairs := x.pairs + 1, data := some (BitVec.ofNat 16 (fbN d 2 2)) }) s
  let s := if (slotOf s j).timedOut && decide (16 ≤ (slotOf s j).pairs) then
      let s := modSlot j (fun x => { x with timedOut := false }) s
      if (upto 4).any (fun i => (slotOf s i).timedOut) then s else safeClear .rxTimeout s
    else s
  let s := netClear s
  if parN s 0x6125 j = 3 then
    if bit (fbN d 2 2) 0 then safeCause .remoteStop s else safeClear .remoteStop s
  else followSpeed s

/-- A copy on slot j is good: CRC apart, its T64 exceeds and its SEQ follows the last accepted one, and with
SPDU_TIME_CHECK its age is in bounds (R454, R455). -/
def pduGood (s : State) (j : Nat) (d : List Byte) : Bool :=
  let t64 := fbN d 4 8
  let age := (BitVec.ofNat 64 t64 - t64Now s).toInt.natAbs
  (match (slotOf s j).last with
   | some (t0, q) =>
     let k := (BitVec.ofNat 8 (fbN d 1 1) - q).toNat
     decide (t0.toNat < t64) && decide (1 ≤ k) && decide (k ≤ 3)
   | none => true) &&
    (!parB s 0x6128 0 || decide (age ≤ parN s 0x6129 0 * msU))

/-- A good copy of slot j on a network: paired with the copy of the same SEQ that came on the other within 10 ms, or kept
waiting; two copies of one SEQ that differ are a mismatch (R454). -/
def pduPair (j net : Nat) (d : List Byte) (s : State) : State :=
  let seq := d.getD 1 0
  match (slotOf s j).wait.find? fun p => p.2.2.getD 1 0 == seq && decide (s.tb ≤ p.2.1 + 10 * msU) with
  | none => modSlot j (fun x => { x with wait := x.wait ++ [(net, s.tb, d)] }) s
  | some (n, _, e) =>
    if e != d then
      let s := modSlot j (fun x => { x with wait := x.wait.filter (fun p => p.2.2.getD 1 0 != seq), pairs := 0 }) s
      let s := modFe (fun e => { e with mismatch := true, txAcks := 0 }) s
      safeCause .pduMismatch (logNow 0x4B05 j 0 s)
    else if n = net then s
    else pduAccept j d s

/-- Negotiation completes when the node of every used slot has answered with a common version (R458, R459). -/
def verComplete (s : State) : State :=
  let used := (upto 4).filter (rxSlotUsed s)
  if !s.fe.verDone && used.all (fun j => (slotOf s j).ver) then
    let s := modFe (fun e => { e with verDone := true, ver := BitVec.ofNat 16 verDev0 }) s
    safeClear .pduNotNegotiated (used.foldl (fun s j => modSlot j (fun x => { x with accAt := s.tb }) s) s)
  else s
where
  /-- The one version this manual describes (R458). -/
  verDev0 : Nat := 0x0100

/-- A network counts as missing: NET_SINGLE and SAFE (R456). -/
def netMissing (net : Nat) (s : State) : State :=
  safeCause .netMissing (modFe (fun e => { e with
    missA := e.missA || net == 0, missB := e.missB || net == 1, netSingle := true, txAcks := 0
    slots := (upto 4).foldl (fun b j => bmod {} b j fun x => { x with pairs := 0 }) e.slots }) s)

/-- The device's PDU p on both networks: ackA and ackB say whether each acknowledged it; one that did not is missing (R452, R456,
R555). -/
def pduSend (p : List Byte) (ackA ackB : Bool) (s : State) : State :=
  let s := canQueue 1 true (parN s 0x6122 0) p (canQueue 0 true (parN s 0x6122 0) p s)
  let s := modFe (fun e => { e with txAcks := if ackA && ackB then e.txAcks + 1 else 0 }) s
  let s := if !ackA then netMissing 0 s else s
  let s := if !ackB then netMissing 1 s else s
  netClear s

/-- A type-15 PDU of a node answers for every used slot of that node; with no common version the device sends its refusal (R456,
R458, R459). -/
def verAnswer (node : Nat) (d : List Byte) (ackA ackB : Bool) (s : State) : State :=
  let lo := fbN d 4 2
  let hi := fbN d 6 2
  let ok := decide (lo ≤ 0x0100) && decide (0x0100 ≤ hi)
  let js := (upto 4).filter fun j => rxSlotUsed s j && parN s 0x6126 j == node
  let s := js.foldl (fun s j => modSlot j (fun x => { x with verRange := (lo, hi), ver := ok }) s) s
  if ok then verComplete s
  else
    let p := pduOf s 15 s.fe.verSeq 0 (0x0100 + 65536 * 0x0100)
    let s := modFe (fun e => { e with verSeq := e.verSeq + 1 }) s
    safeCause .noPduVersion (pduSend p ackA ackB s)

/-- Used receive slots with a CAN ID (R453). -/
def slotsOf (s : State) (ident : BitVec 11) : List Nat :=
  (upto 4).filter fun j => rxSlotUsed s j && parN s 0x6124 j == ident.toNat

/-- SAFETY_PDU: a copy received on a network in CONFIG, RUN or SAFE; ackA and ackB say whether each network acknowledged the refusal
that it makes the device send, if any (R448 to R460). -/
def execSafetyPdu (tx : TxAt) (net : Fin 2) (ident : BitVec 11) (data : List Byte) (s : State) :
    Host.Outcome State Fault Refusal :=
  let s := s.start tx.t
  let ty := fbN data 0 1 / 16
  let node := fbN data 0 1 % 16
  let js := slotsOf s ident
  if js.isEmpty || !(s.dev == .config || s.dev == .run || s.dev == .safe) then done s
  else if data.length != 16 || fbN data 12 4 != (pduCrc s data).toNat then done (pduReject s)
  else if ty = 15 then
    if js.any fun j => parN s 0x6126 j == node then done (verAnswer node data tx.ackA tx.ackB s) else done s
  else if ty != 2 && ty != 3 && ty != 1 then done (pduReject s)
  else match js.find? fun j => parN s 0x6126 j == node && parN s 0x6125 j == ty with
    | none => done s
    | some j =>
      if !s.fe.verDone then done s
      else if !pduGood s j data then done (pduReject s)
      else done (pduPair j net data s)

/-- PDU_PAIRING_TIMEOUT: good copies without a partner within 10 ms are discarded and mark the other network (R456). -/
def execPduPairingTimeout (t : Nat) (j : Fin 4) (s : State) : Host.Outcome State Fault Refusal :=
  let s := s.start t
  let old := fun (p : Nat × Nat × List Byte) => decide (p.2.1 + 10 * msU < s.tb)
  let late := (slotOf s j).wait.filter old
  let s := modSlot j (fun x => { x with wait := x.wait.filter fun p => !old p }) s
  done (late.foldl (fun s p => netMissing (1 - p.1) s) s)

/-- RECEIVE_TIMEOUT: a used slot without an accepted pair for SPDU_RX_TIMEOUT, also one that a pair has reached since it last timed
out; its data are absent (R457, R459). -/
def execReceiveTimeout (t : Nat) (j : Fin 4) (s : State) : Host.Outcome State Fault Refusal :=
  let s := s.start t
  if rxSlotUsed s j && s.fe.verDone && (!(slotOf s j).timedOut || (slotOf s j).data.isSome) &&
      decide ((slotOf s j).accAt + parN s 0x6127 j * msU ≤ s.tb) then
    let s := modSlot j (fun x => { x with timedOut := true, pairs := 0, data := none }) s
    done (followSpeed (safeCause .rxTimeout (logNow 0x4B06 j 0 s)))
  else done s

/-- DATA of the field-state PDU (R451). -/
def pduData (s : State) : Nat :=
  let v := fun f => (bget ({} : FldF) s.fe.fields f).violated
  32768 * b2n s.fe.selInvalid + 16384 * b2n s.fe.netSingle + 8192 * b2n (s.dev == .safe) +
    4096 * b2n ((upto 4).any fun f => fldKind s s.fe.active f == 2 && v f) + 256 * (s.fe.active % 16) +
    16 * ofBits 4 (fun f => fldKind s s.fe.active f == 1 && v f) + ofBits 4 fun n => (outOf s n).on

/-- SAFETY_PDU_SEND: every SPDU_CYCLE, and where DATA have changed, the field-state PDU on both networks, once negotiation is
complete; ackA and ackB say whether each
network acknowledged it (R452, R456, R459, R555). -/
def execSafetyPduSend (t : Nat) (ackA ackB : Bool) (s : State) : Host.Outcome State Fault Refusal :=
  let s := s.start t
  if !s.fe.verDone || !(s.dev == .config || s.dev == .run || s.dev == .safe) then done s
  else if !periodDue s.fe.txAt (parN s 0x6123 0 * msU) s.tb && BitVec.ofNat 16 (pduData s) == s.fe.txData then done s
  else
    let data := pduData s
    let p := pduOf s 1 s.fe.txSeq data (t64Now s).toNat
    done (pduSend p ackA ackB (modFe (fun e => { e with
      txAt := some s.tb, txSeq := e.txSeq + 1, txData := BitVec.ofNat 16 data }) s))

/-- VERSION_PDU_SEND: every 100 ms type 15 on both networks until negotiation is complete; with no slot used it is complete at once;
ackA and ackB say whether each network acknowledged it (R456, R458, R459). -/
def execVersionPduSend (tx : TxAt) (s : State) : Host.Outcome State Fault Refusal :=
  let s := s.start tx.t
  if s.fe.verDone || !(s.dev == .config || s.dev == .run || s.dev == .safe) || !periodDue s.fe.verAt (100 * msU) s.tb then done s
  else
    let refused := (upto 4).any fun j => rxSlotUsed s j && (slotOf s j).verRange != (0, 0) && !(slotOf s j).ver
    let p := pduOf s 15 s.fe.verSeq (if refused then 0 else 0x0100) (0x0100 + 65536 * 0x0100)
    done (verComplete (pduSend p tx.ackA tx.ackB (modFe (fun e => { e with verAt := some s.tb, verSeq := e.verSeq + 1 }) s)))

end Sys2Proof.Machine
end

