-- ==== Sys2Proof/Machine/Gates.lean ====
section
/-!
DEFINITION. FIRE frames, the loading of a shot's codes and tables, and gate pulses (R31, R49, R80, R87 to R93, R129, R138).
-/
namespace Sys2Proof.Machine

/-! ## Loading -/

/-- The new codes of shot sh are ready: computed 60 ns before its boundary or earlier, and its channels are idle, their own last
window closed (R129). -/
def codesReady (sh : Shot) (s : State) : Bool :=
  let x := bankOf s sh.bank
  decide (sh.planAt + 60 * nsU ≤ sh.boundary) && !(x.winOpen && x.shot.any fun y => y.em == sh.em)

/-- The channels of shot sh take their new codes, at its gate pulse or at the boundary that opens its phase, whichever comes
first; codes that are not ready leave the previous ones in force for the shot (R129; log entry 80). -/
def loadCodes (sh : Shot) (s : State) : State :=
  if codesReady sh s then (emChans s sh.em).foldl (fun s c => modChan c (fun x => { x with thr := x.thrNext }) s) s else s

/-- At the boundary that opens its phase the waiting tables and sets of the channels of shot sh swap in, and the replica lengths
measured there hold for every stamp of the shot (R138, R227, R232). -/
def loadTables (sh : Shot) (s : State) : State :=
  (upto 8).foldl (fun s i =>
    let c := 8 * sh.em + i
    let s := setSwap ((upto 3).foldl (fun s k => lineSwap s (3 * c + k)) s) c
    modChan c (fun x => { x with spanUse := x.span }) s) s

/-! ## FIRE frames and gates -/

/-- A FIRE entry for a bank breaks no rule of R88: no other gate pulse since the last phase marker, no overlap with a
pulse of the bank that is driven or waits, and no second entry for the bank in the frame. -/
def fireAllowed (s : State) (frame : List FireBank) (f : FireBank) : Bool :=
  let b := bankOf s f.bank
  let edge := s.rm.boundary + 32 * f.offset
  !b.markerUsed && (frame.filter fun g => g.bank == f.bank).length == 1 && decide (b.gateUntil ≤ edge) &&
    b.fires.all fun x => decide (x.edge + x.width ≤ edge) || decide (edge + 32 * f.width ≤ x.edge)

/-- The emitter belongs to the bank and the target lies within 10.0 V to 116.0 V (R55, R91). -/
def fireAccepted (f : FireBank) : Bool :=
  f.em.val / 8 == f.bank.val && decide (vFloor ≤ f.target.toNat) && decide (f.target.toNat ≤ vTop)

/-- While phases run, an entry is executed only for the shot committed for the phase after the last marker, still to be fired, no
later than planned and at no higher energy: resent later, or cancelled, it is not (R31, R49, R79). -/
def fireLate (s : State) (f : FireBank) : Bool :=
  match s.rm.planned.find? fun x => x.em == f.em.val with
  | some x => x.skip != 0 || x.gated || decide (x.edge < s.rm.boundary + 32 * f.offset) || decide (x.vSel < f.target.toNat)
  | none => s.rm.framing

/-- The committed shots of a discarded FIRE frame are not fired and will count under INHIBIT when their phase opens (R80, R88). -/
def fireDiscard (frame : List FireBank) (s : State) : State :=
  modRm (fun r => { r with planned := r.planned.map fun x =>
    if x.skip = 0 && !x.gated && frame.any (fun f => f.em.val == x.em) then { x with skip := 1 } else x }) s

/-- FIRE: Calliope takes a FIRE frame, or discards it whole when it breaks a rule of R88, which inhibits firing and sends
the device to SAFE; an entry resent too late is not executed (R31, R88, R91). -/
def execFire (t : Nat) (frame : List FireBank) (s : State) : Host.Outcome State Fault Refusal :=
  let s := s.start t
  match frame.find? fun f => !fireAllowed s frame f with
  | some f =>
    let s := barSend 9 0x21 [BitVec.ofNat 8 f.bank] s
    done (logNow 0x3203 (dieF + f.bank) 0 (safeCause .fireRule (inhibit .fireRule (fireDiscard frame s))))
  | none => done ((frame.filter fun f => fireAccepted f && !fireLate s f).foldl (fun s f => modBank f.bank (fun b => { b with
      markerUsed := true
      fires := b.fires ++ [{ em := f.em, edge := s.rm.boundary + 32 * f.offset, width := 32 * f.width
                             target := f.target.toNat, lim := f.lim.toNat, min := f.min.toNat }] }) s) s)

/-- The shot that a FIRE command stands for: the committed one of its emitter, or one known from the frame alone. -/
def shotOfFire (s : State) (b : Nat) (f : FireS) : Shot :=
  (committedShot s f.em).getD { em := f.em, bank := b, edge := f.edge, vSel := f.target, vLim := f.lim, vMin := f.min
                                boundary := s.rm.boundary, cycle := s.rm.cycle, frame := s.rm.frameNo, epoch := s.ts.epoch.toNat
                                f0 := s.rm.frameStart, nAct := s.rm.nAct, w := s.rm.wNs, p := s.rm.pNs, pp := phaseParams s }

/-- The cause for which a shot is not fired at its gate edge, the lowest that applies; 0 to be fired (R31, R80, R93, R96, R690). -/
def gateCause (s : State) (b : BankS) (f : FireS) (v : Nat) : Nat :=
  if !s.rm.inhibits.isEmpty || s.lce.mode == 4 || s.fld.gateHold || s.fld.wdgTripped || (s.dev != .run && s.dev != .safe) then 1
  else if (linkOf s 1).switchUntil.isSome then 3
  else if f.lim < v then 4
  else if b.windowClosed then 5
  else if v < f.min then 6
  else 0

/-- A FIRE entry is at its sampling point, 20 ns before its gate edge or later but not after the edge (R49, R93). -/
def fireDue (s : State) (f : FireS) : Bool := decide (f.edge ≤ s.tb + 20 * nsU) && decide (s.tb ≤ f.edge)

/-- GATE_PULSE: VSHOT_LAST is the code in 10 mV rounded down, where R122 gives no rounding (DESIGN CHOICE, log entry 8). 20 ns before the gate edge Calliope samples the shot voltage; above the limit or below the minimum code,
with firing inhibited, BL1 being switched or the charging window closed, the shot is skipped, otherwise the gate is driven
for its width. An edge that has passed is never driven, nor one whose committed shot was cancelled meanwhile; a skip in the phase
before its own counts when its phase opens (R31, R49, R79, R80, R89, R93, R96, R112). -/
def execGatePulse (t : Nat) (b : Fin 4) (v : BitVec 12) (s : State) : Host.Outcome State Fault Refusal :=
  let s := s.start t
  let s := modBank b (fun x => { x with vShot := v.toNat, fires := x.fires.filter fun f => decide (s.tb ≤ f.edge) }) s
  match (bankOf s b).fires.find? (fireDue s) with
  | none => done s
  | some f =>
    let s := modBank b (fun x => { x with fires := x.fires.erase f }) s
    let sh := shotOfFire s b f
    let known := (committedShot s f.em).isSome
    match gateCause s (bankOf s b) f v.toNat with
    | 0 =>
      if !known && s.rm.framing then done s
      else
        let sh := { sh with vCode := v.toNat, apdBad := s.fld.apdBad }
        let s := markGated sh s
        let s := if s.rm.boundary < sh.boundary then loadCodes sh s else s
        let s := modBank b (fun x => { x with
          gateUntil := f.edge + f.width, fired := some sh, firedEdges := []
          vShotLast := 12000 * v.toNat / 4096, eFired := codePj (kEof s f.em) v.toNat }) s
        done (statSend (emit (.gate f.em false) (emit (.gate f.em true) s)))
    | cause => done (if !known then s
        else if s.rm.boundary < sh.boundary then markSkip sh cause s
        else skipShot sh cause (markSkip sh cause s))

end Sys2Proof.Machine
end

