-- ==== Sys2Proof/Machine/Echo.lean ====
section
/-!
DEFINITION. Echo results: classification, selection, records, foreign trains, histogram groups and their zoom pass, replays
(R162 to R187, R199 to R217, R236).
-/
namespace Sys2Proof.Machine

/-! ## Foreign trains (R199 to R205) -/

/-- Train slot k of bank b. -/
def trainOf (s : State) (b k : Nat) : Train := bget {} s.rj.trains (8 * b + k)
/-- Train slot k of bank b changed. -/
def modTrain (b k : Nat) (f : Train → Train) (s : State) : State :=
  modRj (fun r => { r with trains := bmod {} r.trains (8 * b + k) f }) s

/-- Distance of an instant to the nearest predicted arrival of a train, half femtoseconds (R201). -/
def trainDist (x : Train) (t : BitVec 64) : Nat :=
  let tp := 2 * max x.tp 1
  let r := ((halfFs * (t - x.ofs).toInt) % (tp : Int)).toNat
  min r (tp - r)

/-- Nanoseconds in half femtoseconds. -/
abbrev nsHf : Nat := 2000000

/-- The tracked trains of bank b, as a unit keeps them: period, reference arrival, mask (R205, R213). -/
def trackedOf (s : State) (b : Nat) : List (Nat × BitVec 64 × BitVec 64) :=
  if !parB s 0x3010 0 then []
  else ((upto 8).filter fun k => (trainOf s b k).st == 2).map fun k =>
    let x := trainOf s b k
    (x.tp, x.ofs, x.mask)

/-- An echo of channel c at an instant is near a train of a list whose mask holds its channel (R205). -/
def nearTrain (s : State) (l : List (Nat × BitVec 64 × BitVec 64)) (c : Nat) (t : BitVec 64) : Bool :=
  l.any fun x => x.2.2.getLsbD (c % 64) &&
    decide (trainDist { tp := x.1, ofs := x.2.1 } t ≤ parN s 0x3013 0 * nsHf)

/-- Pulses of one shot merged: in time order, each joins the running candidate while it lies within 2 ns of that candidate's
first pulse; the candidate has the mean of its pulses' times and the set of their channels (R199; the grouping of a chain of
pulses is a DESIGN CHOICE, log entry 84). -/
def mergePulses (shot : Nat) : List (BitVec 64 × Nat) → List (BitVec 64 × Nat) → List Cand
  | [], [] => []
  | run, [] => [candOf shot run]
  | [], p :: r => mergePulses shot [p] r
  | q :: run, p :: r =>
    if (p.1 - q.1).toInt ≤ 2 * nsU then mergePulses shot (q :: (run ++ [p])) r
    else candOf shot (q :: run) :: mergePulses shot [p] r
where
  /-- The candidate of a run of pulses. -/
  candOf (shot : Nat) (run : List (BitVec 64 × Nat)) : Cand :=
    let t0 := (run.headD (0, 0)).1
    { t := t0 + BitVec.ofInt 64 (meanI (run.map fun p => (p.1 - t0).toInt)), chans := (run.map (·.2)).eraseDups, shot := shot }

/-- The pair b, a before a candidate at t with equal spacing (R200). -/
def seedPair (s : State) (t : BitVec 64) (l : List Cand) : Option (Cand × Cand) :=
  let dist := fun (x y : BitVec 64) => (x - y).toInt
  l.reverse.findSome? fun b =>
    let d := dist t b.t
    if (parN s 0x3011 0 * nsU : Int) ≤ d && d ≤ (parN s 0x3012 0 * nsU : Int) then
      (l.reverse.find? fun a => decide ((dist b.t a.t - d).natAbs ≤ 2 * nsU)).map fun a => (b, a)
    else none

/-- A train captures an instant: within 5 ns of a predicted arrival (R201). -/
def captures (x : Train) (t : BitVec 64) : Bool := x.st != 0 && decide (trainDist x t ≤ 5 * nsHf)

/-- A merged candidate of bank b: captured by every train that predicts it, or kept among the last 32 that none has captured,
where it may seed a tentative train in the lowest free slot; that train's first gate starts at a and holds the candidates
from there that its estimate predicts (R199 to R201). -/
def newCandidate (b : Nat) (s : State) (x : Cand) : State :=
  let ks := (upto 8).filter fun k => captures (trainOf s b k) x.t
  if !ks.isEmpty then ks.foldl (fun s k => modTrain b k (fun y => { y with capt := y.capt ++ [(x.t, x.chans)] }) s) s
  else
    let l := bget [] s.rj.cands b
    let all := l ++ [x]
    let keep := fun (s : State) (m : List Cand) => modRj (fun r => { r with cands := bset r.cands b (m.drop (m.length - 32)) }) s
    match seedPair s x.t l with
    | none => keep s all
    | some (_, a) =>
      match (upto 8).find? fun k => (trainOf s b k).st == 0 with
      | none => keep (modRj (fun r => { r with seedLost := satInc r.seedLost }) s) all
      | some k =>
        let y : Train := { st := 1, tp := (rdiv (15625 * (x.t - a.t).toInt) 4).toNat, ofs := a.t, gateFrom := a.t }
        let mine := fun (c : Cand) => decide (0 ≤ (c.t - a.t).toInt) && captures y c.t
        keep (modTrain b k (fun _ => { y with capt := (all.filter mine).map fun c => (c.t, c.chans) }) s)
          (all.filter fun c => !mine c)

/-- Shots of bank b whose pulses without support wait for the rest of their shot, with those pulses. -/
def pendOf (s : State) (b : Nat) : List (Nat × List (BitVec 64 × Nat)) := bget [] s.rj.pend b

/-- The pulses without support of a shot of bank b are merged, and their candidates taken in time order (R199). -/
def flushPulses (b shot : Nat) (s : State) : State :=
  let p := ((pendOf s b).filter fun q => q.1 == shot).map (·.2) |>.flatten
  let t0 := (p.headD (0, 0)).1
  let l := mergePulses shot [] (sortBy (fun (x : BitVec 64 × Nat) => (x.1 - t0).toInt) p)
  l.foldl (newCandidate b) (modRj (fun r => { r with pend := bset r.pend b ((pendOf s b).filter fun q => q.1 != shot) }) s)

/-- Pulses without support of channel c in a shot of bank b wait for the rest of the shot (R199). -/
def addPulses (b shot c : Nat) (ts : List (BitVec 64)) (s : State) : State :=
  if !parB s 0x3010 0 then s
  else
    let l := pendOf s b
    let old := ((l.filter fun q => q.1 == shot).map (·.2)).flatten
    modRj (fun r => { r with pend := bset r.pend b ((l.filter fun q => q.1 != shot) ++ [(shot, old ++ ts.map fun t => (t, c))]) }) s

/-- The channel mask of captured candidates, with their neighbours within the bank (R202). -/
def trainMask (l : List (BitVec 64 × List Nat)) : BitVec 64 :=
  (l.map (·.2)).flatten.foldl (fun m c =>
    let i := c % 64
    let f := fun (j : Nat) => if j < 64 then BitVec.ofNat 64 (2 ^ j) else 0
    m ||| f i ||| f (i + 1) ||| (if i = 0 then 0 else f (i - 1))) 0

/-- The gate of a train that ended at an instant can be fitted: no candidate of it is still to come from a shot of bank b that
started before, or 20 µs have passed, within which the result is published (R201). -/
def gateDue (s : State) (b : Nat) (stop : BitVec 64) : Bool :=
  let before := fun (at_ : Nat) => decide ((t64At s at_ - stop).toInt < 0)
  let x := bankOf s b
  let late := decide (20 * usU ≤ (t64Now s - stop).toInt)
  let waits := (x.winOpen && (x.tStart.any before)) || ((pendOf s b).any fun p => before p.1) ||
    (upto 64).any fun i => (unitReady s (64 * b + i)).any fun u => before u.tStart
  late || !waits

/-- TRAIN_GATE_END: the candidates captured in the gate are fitted, later ones belong to the next; an accepted tentative train is
tracked, a rejected one frees its slot, a tracked one after two rejections. The gate is fitted once the shots that started in it have
given their candidates, at most 20 µs after its end (R201, R202). -/
def execTrainGateEnd (t : Nat) (b : Fin 4) (k : Fin 8) (s : State) : Host.Outcome State Fault Refusal :=
  let s := s.start t
  let x := trainOf s b k
  let next := x.gateFrom + BitVec.ofNat 64 msU
  if x.st = 0 || decide ((t64Now s - x.gateFrom).toInt < msU) || !gateDue s b next then done s
  else
    let s := ((pendOf s b).filter fun p => decide ((t64At s p.1 - next).toInt < 0)).foldl (fun s p => flushPulses b p.1 s) s
    let x := trainOf s b k
    let from_ := fun (p : BitVec 64 × List Nat) => (p.1 - x.gateFrom).toInt
    let inGate := fun (p : BitVec 64 × List Nat) => decide (0 ≤ from_ p) && decide (from_ p < msU)
    let l := sortBy from_ (x.capt.filter inGate)
    let rest := x.capt.filter fun p => decide ((msU : Int) ≤ from_ p)
    let f := fmFit (l.map (·.1)) x.tp
    let ok := decide (12 ≤ f.n) && f.within 1500
    if ok then done (modTrain b k (fun x => { x with
        st := 2, tp := f.period, ofs := (l.headD (x.ofs, [])).1 + BitVec.ofInt 64 f.ofs, gateFrom := next, capt := rest
        n := f.n.toNat, rms := f.rms, mask := trainMask l, rejected := false }) s)
    else if x.st = 1 then done (modTrain b k (fun _ => {}) s)
    else if x.rejected then
      done (modRj (fun r => { r with trainDrop := satInc r.trainDrop }) (modTrain b k (fun _ => {}) s))
    else done (modTrain b k (fun x => { x with
      gateFrom := next, capt := rest, n := f.n.toNat, rms := if 0 < f.den then f.rms else 0, rejected := true }) s)

/-! ## Echoes and their classes (R209 to R211) -/

/-- An echo before and after classification: range in 0.25 mm, time from the start stamp in 1/4096 unit, strength as a
fraction of µA or counts, shape ratio as a fraction, and what Tuning Slide files. -/
structure CEcho where
  range : Nat := 0
  t : Int := 0
  sat : Bool := false
  support : Bool := false
  cluster : Nat := 1
  later : Bool := false
  qNum : Int := 0
  qDen : Int := 1
  key : Nat := 0
  num : Nat := 0
  den : Nat := 1
  conf : Nat := 0
  sigma : Nat := 0
  from_ : Nat := 0
  to_ : Nat := 0
  filed : List Int := []
  cls : Nat := 0
deriving Repr, DecidableEq

/-- Two ranges in 0.25 mm lie within mm of each other. -/
def within (mm a b : Nat) : Bool := decide (((a : Int) - b).natAbs ≤ 4 * mm)

/-- The ECLASS of an echo (R210). -/
def classify (s : State) (flyback near : Bool) (e : CEcho) : Nat :=
  let soft := decide ((parN s 0x3032 0 : Int) * e.qDen ≤ 16 * e.qNum)
  let wide := decide ((parN s 0x3033 0 : Int) * e.qDen < 16 * e.qNum)
  if e.sat then 5
  else if flyback && decide (e.range ≤ 12800) then 7
  else if e.range < 6000 then 6
  else if near then 4
  else if e.support && decide (3 ≤ e.cluster) && soft then 1
  else if e.support then 0
  else if !wide && e.later then 3
  else if wide then 2
  else 4

/-- T64 of a time after a unit's start stamp. -/
def t64Of (s : State) (u : ShUnit) (t : Int) : BitVec 64 := t64At s u.tStart + BitVec.ofInt 64 (rdiv t 4096)

/-- Stamps of channel c in a unit. -/
def unitStamps (u : ShUnit) (c : Nat) : List Stamp := u.stamps.filter fun x => x.chan == c

/-- The offset and walk sets of a channel that a unit is converted with: after a swap the shots before it keep the retired set
while it stays readable (R138, R232). -/
def unitSets (u : ShUnit) (x : ChanS) : ChanS :=
  match x.retSet with
  | some (old, hist, at_, _) =>
    if at_ ≤ u.tStart then x else if hist then { x with setHist := old } else { x with setEcho := old }
  | none => x

/-- The state that a unit is evaluated with, live or replayed: parameters and noise estimates of its window close, and the offset and
walk sets of its shot (R138, R213, R232). -/
def unitState (s : State) (u : ShUnit) : State :=
  let s := { s with dict := { s.dict with inForce := u.pars } }
  (upto 8).foldl (fun s i =>
    let a := u.amb.getD i ([], [], [])
    modChan (8 * u.em + i) (fun x => { unitSets u x with ambN := a.1, ambT := a.2.1, ambC := a.2.2 }) s) s

/-- The measured pulses of channel c in a unit, with their ranges where valid (R164 to R168). -/
def unitPulses (s : State) (u : ShUnit) (c : Nat) : List (Pulse × Echo × Option Nat) :=
  let s := unitState s u
  (pulsesOf (unitStamps u c)).map fun p =>
    let e := measure s c (u.thr.getD (c % 8) []) (shotWin (u.shot.getD {})) p
    (p, e, rangeOf s e.t0 (ofsEcho s c))

/-- Ranges of every pulse of the emitter's eight channels. -/
def unitRanges (s : State) (u : ShUnit) : List (List Nat) :=
  (upto 8).map fun i => (unitPulses s u (8 * u.em + i)).filterMap fun p => p.2.2

/-- The channel of an index i of eight or one of its neighbours has a range within mm of r. -/
def supported (mm i r : Nat) (prev : List (List Nat)) : Bool :=
  (upto 8).any fun j => decide (j ≤ i + 1) && decide (i ≤ j + 1) && (prev.getD j []).any (within mm r)

/-- Channels of eight with a range within mm of r. -/
def clusterOf (mm r : Nat) (l : List (List Nat)) : Nat := (l.filter fun x => x.any (within mm r)).length

/-- TIA_GAIN of bank b in half kΩ (R125). -/
def tiaHalf (s : State) (b : Nat) : Nat :=
  match parN s 0x2800 b with
  | 0 => 5
  | 1 => 10
  | _ => 20

/-- Echoes of flyback shots beyond 3.2 m are discarded (R211). -/
def cutFlyback (u : ShUnit) (l : List CEcho) : List CEcho :=
  if (u.shot.getD {}).flyback then l.filter fun e => decide (e.range ≤ 12800) else l

/-- Echo mode: the classified echoes of channel c in a unit (R165 to R170, R209, R210, R236). -/
def echoesOf (s : State) (u : ShUnit) (c : Nat) : List CEcho :=
  let s := unitState s u
  let i := c % 8
  let sh := u.shot.getD {}
  let thr := u.thr.getD i []
  let ps := unitPulses s u c
  let all := unitRanges s u
  let stale := u.stale.getD i false
  let es := (ps.zip (upto ps.length)).filterMap fun ((p, e, r), k) => r.map fun range =>
    ({ range := range, t := e.t0, sat := e.sat
       support := supported (parN s 0x3030 0) i range u.prev
       cluster := max 1 (clusterOf (parN s 0x3031 0) range all)
       later := decide (k + 1 < ps.length)
       qNum := e.wL, qDen := max e.wRef 1
       key := e.a, num := 2 * e.a, den := 65536 * tiaHalf s (c / 64)
       conf := min 63 (2 * e.a / max (sigmaN s c) 1)
       sigma := if e.single then 63 else sigmaOf s (sigmaT2 s c thr e) (sigmaCal s c false stale)
       from_ := e.from_, to_ := e.to_
       filed := [(sh.level : Int), (u.ePj : Int)] ++ (thr.map fun v => (v : Int)) ++
         ((p.r ++ p.f).map fun x => (x.map fun v => (v : Int)).getD (-1)) ++ [(sh.vCode : Int)] } : CEcho)
  es.map fun e => { e with cls := classify s sh.flyback (nearTrain s u.trains c (t64Of s u e.t)) e }

/-! ## Selection and records (R215 to R217, R251 to R257) -/

/-- The echoes reported, nearest first (R216). -/
def selectEchoes (mode : Nat) (l : List CEcho) : List CEcho :=
  let near := sortBy (fun (e : CEcho) => (e.range : Int)) l
  match mode with
  | 0 => near.take 4
  | 1 => sortBy (fun (e : CEcho) => (e.range : Int)) ((sortBy (fun (e : CEcho) => -(e.key : Int)) near).take 4)
  | 2 => near.drop (near.length - 4)
  | _ =>
    match (near.filter fun e => e.cls == 0 || e.cls == 1).getLast? with
    | some e => [e]
    | none => near.drop (near.length - 1)

/-- What the records of a channel-shot or group have in common. -/
structure RecHead where
  chan : Nat := 0
  az : Int := 0
  tofs : Nat := 0
  kbin : Nat := 0
  throttled : Bool := false
  fbdegr : Bool := false
  replayed : Bool := false
  calstale : Bool := false
  ePj : Nat := 0
deriving Repr, DecidableEq

/-- A measured record, before its colour (R251). -/
def recOf (s : State) (h : RecHead) (k : Nat) (e : CEcho) : Rec :=
  { valid := true, echo := k, chan := h.chan, range := e.range, sat := e.sat, eclass := e.cls
    intens := intensOf s (h.chan / 64) e.num e.den e.range h.ePj, az := clampAz h.az
    throttled := h.throttled, fbdegr := h.fbdegr, replayed := h.replayed, calstale := h.calstale
    kbin := h.kbin, tofs := h.tofs, sigma := e.sigma, conf := if s.fld.apdBad then 0 else e.conf }

/-- The record of a channel-shot without return (R256). -/
def noReturn (h : RecHead) : Rec :=
  { valid := true, chan := h.chan, az := clampAz h.az, throttled := h.throttled, fbdegr := h.fbdegr
    replayed := h.replayed, calstale := h.calstale, kbin := h.kbin, tofs := h.tofs }

/-- The records of a channel-shot after suppression and selection, with the count suppressed (R215 to R217, R256). -/
def recordsOf (s : State) (h : RecHead) (es : List CEcho) : List Rec × Nat :=
  let left := es.filter fun e => !bit (parN s 0x3034 0) e.cls
  let sel := selectEchoes (parN s 0x3035 0) left
  let recs := if left.isEmpty then (if parB s 0x3803 0 then [noReturn h] else [])
    else (sel.zip (upto sel.length)).map fun (e, k) => recOf s h k e
  (recs, es.length - left.length)

/-- The key of a ZONE parameter. -/
def zoneKey (k : Nat) : Bool := decide (dkey 0x4440 0 ≤ k) && decide (k < dkey 0x4445 0)

/-- Zone z, as set at the window close of the unit, has a function and the channel-shot lies in it (R351). -/
def zonePicks (u : ShUnit) (h : RecHead) (s : State) (z : Nat) : Bool :=
  let p := unitState s u
  let a := parI p 0x4441 (2 * z)
  let b := parI p 0x4441 (2 * z + 1)
  parN p 0x4440 z != 0 && decide (min a b ≤ h.az) && decide (h.az ≤ max a b) &&
    decide (parN p 0x4442 (2 * z) ≤ h.chan) && decide (h.chan ≤ parN p 0x4442 (2 * z + 1))

/-- Zone z takes a channel-shot: order, channel, azimuth, farthest class 0, nearest class 1, nearest of both, frame (R351, R352). -/
def zoneTake (u : ShUnit) (h : RecHead) (es : List CEcho) (s : State) (z : Nat) : State :=
  if !zonePicks u h s z then s
  else
    let far0 := ((es.filter fun e => e.cls == 0).map (·.range)).foldl max 0
    let least := fun (l : List Nat) => l.foldl (fun m x => if m = 0 || x < m then x else m) 0
    let near1 := least ((es.filter fun e => e.cls == 1).map (·.range))
    let near01 := least ((es.filter fun e => e.cls == 0 || e.cls == 1).map (·.range))
    modPt (fun p => { p with zoneHits := bmod [] p.zoneHits z fun l =>
      l ++ [[(u.tStart : Int), h.chan, h.az, far0, near1, near01, (u.frame.toNat : Int)]] }) s

/-- The bin of an azimuth in the table in force (R68, R72). -/
def recBin (t : EyeTable) (az : Int) : Nat :=
  (clampI 0 (t.nBin - 1 : Nat) ((5 * (az - t.azBin0)) / (max t.binWidth 1 : Nat))).toNat

/-- What a result adds to the values of its frame while that frame is open: classes, suppressed echoes, window contamination,
saturated points, reference echoes (R68, R214, R219, R444). A result that comes after its frame adds nothing
(DESIGN CHOICE, log entry 81). -/
def countFrame (u : ShUnit) (h : RecHead) (es : List CEcho) (recs : List Rec) (supp : Nat) (s : State) : State :=
  if !s.rm.inFrame || u.frame != s.rm.frameNo then s
  else
    let s := modRj (fun r => { r with
      classCur := es.foldl (fun b e => bmod 0 b e.cls (· + 1)) r.classCur, suppCur := r.suppCur + supp }) s
    let s := if !(u.shot.getD {}).flyback && (es.any fun e => e.cls == 6) then
        modChan h.chan (fun c => { c with class6 := c.class6 + h.kbin + 1 }) s else s
    let s := match s.rm.table with
      | some t =>
        let k := 1024 * u.em + recBin t h.az
        if !(recs.any fun r => r.sat) || s.rm.adaptSat.contains k then s
        else modRm (fun r => { r with adaptSat := r.adaptSat ++ [k] }) s
      | none => s
    let dist := parN s 0x3416 h.chan
    let near := (es.filter fun e => e.cls == 7 && decide (((e.range : Int) - 4 * dist).natAbs ≤ 4 * parN s 0x6106 0)).length
    if dist = 0 then s else modChan h.chan (fun c => { c with refCnt := c.refCnt + near }) s

/-- Tail crossings of the earlier shots of a group, counted before its result was known, that belong to a supported peak of channel c
leave the ambient counts, decayed as those are since; now: the last shot's own update is still to come (R193, R194). -/
def tailTakeBack (u : ShUnit) (c : Nat) (now : Bool) (supp : List (Nat × Nat)) (s : State) : State :=
  let us := groupUnits s u
  let sh := u.shot.getD {}
  let a := expNeg (8 * sh.p) (1000 * sh.pp.tau)
  let n := us.length
  (us.zip (upto n)).foldl (fun s p =>
    if now && p.2 + 1 = n then s
    else
      let sv := p.1.shot.getD {}
      let decay := (upto (n - 1 - p.2 - b2n now)).foldl (fun d _ => a * d / one32) one32
      let inTail := fun (k : Nat) (e : Stamp) => e.chan == c && e.rise && e.thr == k && !e.fblank && !e.guard &&
        decide (shotWin sv ≤ e.time + min sv.pp.tail (sv.w / 2) * nsU) && (supp.any fun q => decide (q.1 ≤ e.time) && decide (e.time ≤ q.2))
      let less := fun (k : Nat) => decay * (p.1.stamps.filter (inTail k)).length
      modChan c (fun x => { x with ambN := (upto 3).map fun k => x.ambN.getD k 0 - less k }) s) s

/-- The counts of a result, each channel-shot once: those of its frame, zones, supported pulses, pulses without support, filed
reference echoes and mask 5 (R193, R199, R236, R351, R479). -/
def countResult (u : ShUnit) (h : RecHead) (all es : List CEcho) (recs : List Rec) (supp : Nat) (s : State) : State :=
  if u.tStart + 1 ≤ (chanOf s h.chan).doneAt then s
  else
    let s := (upto 4).foldl (zoneTake u h es) (countFrame u h es recs supp s)
    let now := (bankOf s (h.chan / 64)).tStart == some u.tStart
    let supp := (all.filter fun e => e.support).map fun e => (e.from_, e.to_)
    let s := if now then modChan h.chan (fun c => { c with supp := supp }) s else s
    let s := if s.ee.hist then tailTakeBack u h.chan now supp s else s
    let s := addPulses (h.chan / 64) u.tStart h.chan ((all.filter fun e => !e.support).map fun e => t64Of s u e.t) s
    (es.filter fun e => e.cls == 7).foldl (fun s e =>
      let err := ((e.range : Int) - 4 * (parN s 0x3416 h.chan : Nat)).natAbs
      let s := if parB s 0x3400 0 then modChan h.chan (modCal s.ee.hist fun m => { m with filed := m.filed ++ [e.filed] }) s else s
      if parN s 0x6842 0 = 0 then s
      else maskSample 5 h.chan 0 (decide (4 * parN s 0x6842 0 < err)) (t64Of s u e.t) ((err / 4 : Nat) : Int) s) s

/-- The result of a unit with its records. -/
def resultOf (s : State) (u : ShUnit) (h : RecHead) (recs : List Rec) (closeAt : Nat) : ResE :=
  let sh := u.shot.getD {}
  { recs := recs, tStart := t64At s u.tStart, frame := u.frame, replayed := h.replayed, bank := h.chan / 64
    order := if s.ee.hist then orderOf s.tb 0 h.chan else orderOf sh.boundary sh.bank h.chan, closeAt := closeAt
    unitAt := u.tStart
    phase := if s.ee.hist then s.rm.boundary else sh.boundary }

/-- A result with its records goes to the point formatter. -/
def deliver (u : ShUnit) (h : RecHead) (recs : List Rec) (closeAt : Nat) (s : State) : State :=
  if recs.isEmpty then s else addResult (resultOf s u h recs closeAt) s

/-- A zoomed result waits for the known-answer test of the engine that serves its channel (R182). -/
def holdZoomed (u : ShUnit) (h : RecHead) (recs : List Rec) (s : State) : State :=
  if recs.isEmpty then s
  else modPt (fun p => { p with zoomed := p.zoomed ++ [(engineOf s (h.chan / 16), resultOf s u h recs 0)] }) s

/-- The head of a single shot's records. -/
def headOf (u : ShUnit) (c : Nat) (replayed : Bool) : RecHead :=
  let sh := u.shot.getD {}
  { chan := c, az := u.az, tofs := u.tofs, throttled := sh.throttled, fbdegr := sh.fbDegr, replayed := replayed
    calstale := u.stale.getD (c % 8) false, ePj := u.ePj }

/-- Nothing of the frame's active sweep is still to come once this result is given: no later active cycle fires at the throttle
level in force (R82), no committed active shot of the frame is left, and no channel owes one (R434). -/
def lastActive (s : State) (u : ShUnit) : Bool :=
  let sh := u.shot.getD {}
  let mine := fun (x : Shot) => x.frame == sh.frame && !x.flyback
  !sh.flyback &&
    ((upto sh.nAct).all fun k => decide (k ≤ sh.cycle) ||
      !cycleFires k (if k ≤ s.rm.cycle then s.rm.level else s.rm.levelNext)) &&
    (phasesLeft s sh == 0) &&
    !((s.rm.current ++ s.rm.planned).any fun x => mine x && x.skip == 0 && !x.gated) &&
    (upto 4).all (fun b => !((bankOf s b).fired.any mine) && !((bankOf s b).winOpen && (bankOf s b).shot.any mine)) &&
    (upto 256).all (fun c => match unitDue s c with
      | some v => v.frame != sh.frame || (v.shot.getD {}).flyback
      | none => true)
where
  /-- Positions of the shot's cycle that are still to be committed. -/
  phasesLeft (s : State) (sh : Shot) : Nat :=
    if !s.rm.inFrame || sh.frame != s.rm.frameNo || s.rm.cycle != sh.cycle then 0 else 6 - min 6 s.rm.pos

/-- The azimuths of those channel-shots among us that fired with APD_STATUS bit 1 clear (R434). -/
def goodShots (us : List ShUnit) : List Int := (us.filter fun v => !(v.shot.getD {}).apdBad).map (·.az)

/-- A result of channel c goes to the field evaluator: its echoes before suppression, the azimuths of the channel-shots it
holds that can be good (R176, R187, R189, R212, R433, R434). -/
def toFields (u : ShUnit) (c : Nat) (az : Int) (valid : Bool) (shots : List Int) (es : List CEcho) (s : State) : State :=
  let sh := u.shot.getD {}
  if s.saf.setNo = 0 then s
  else { s with fe := { s.fe with queue := s.fe.queue ++ [{
    chan := Fin.ofNat 256 c, az := az, active := !sh.flyback, valid := valid, last := lastActive s u
    echoes := es.map fun e => { range := e.range, cls := e.cls, sigma := e.sigma }
    theta := sh.theta, shots := if valid then shots else [], frame := u.frame }] } }

/-- Its result is given. -/
def markDone (u : ShUnit) (c : Nat) (s : State) : State :=
  let s := modEe (fun e => { e with shadow := bmod [] e.shadow u.em fun l => l.map fun v =>
    if v.tStart = u.tStart then { v with res := bset v.res (c % 8) s.tb } else v }) s
  modChan c (fun x => { x with doneAt := max x.doneAt (u.tStart + 1) }) s

/-- When no channel of the emitter owes a result of the shot, its pulses without support are merged (R199). -/
def shotDone (u : ShUnit) (s : State) : State :=
  if (upto 8).any fun i => (unitReady s (8 * u.em + i)).isSome then s
  else flushPulses (u.em / 8) u.tStart s

/-- Echo mode: the result of channel c for a unit (R165 to R171, R210 to R217). -/
def echoShot (u : ShUnit) (c : Nat) (replayed : Bool) (s : State) : State :=
  let h := headOf u c replayed
  let all := echoesOf s u c
  let es := cutFlyback u all
  let (recs, supp) := recordsOf (unitState s u) h es
  let s := countResult u h all es recs supp s
  let s := if replayed then s else modChan c (fun x => { x with pulses := (unitRanges s u).getD (c % 8) [] }) s
  let s := deliver u h recs (closeOf u + 1) s
  toFields u c u.az true (goodShots [u]) es (shotDone u (markDone u c s))

/-- A channel-shot that is not measured: lost set 9, failed channel 10, with TOFS from the planned fire time and the predicted
azimuth (R189, R252 to R254, R258). -/
def noMeasure (u : ShUnit) (c : Nat) (s : State) : State :=
  let sh := u.shot.getD {}
  let s := deliver u { chan := c } [noRecord s c 10 (tofsOf sh sh.edge) sh.theta] (if s.ee.hist then 0 else closeOf u + 1) s
  toFields u c sh.theta false [] [] (shotDone u (markDone u c s))

/-- ECHO_RESULT: the engine of channel c completes a channel-shot in echo mode, discarded when it comes more than 150 ns after
the close; lost and failed channels deliver their records in either mode (R165 to R171, R182, R189, R199, R200, R210 to R216,
R236, R254). -/
def execEchoResult (t : Nat) (chan : Fin 256) (s : State) : Host.Outcome State Fault Refusal :=
  let s := s.start t
  let c := chan.val
  if (chanOf s c).lost || (chanOf s c).failed then
    match (unitsOf s (c / 8)).find? fun u => rxEnabled s c && decide ((chanOf s c).doneAt < u.tStart + 1) with
    | none => done s
    | some u => done (noMeasure u c s)
  else
    match unitDue s c with
    | none => done s
    | some u => if !setLive s (c / 16) || s.ee.hist || tooLate s u then done s else done (echoShot u c false s)

/-! ## Histogram mode (R172 to R179) -/

/-- HIST_THR stamps of channel c in a group: the first 16 rises of each shot (R173). -/
def groupTimes (s : State) (us : List ShUnit) (c : Nat) : List Nat :=
  (us.map fun u => ((unitStamps u c).filter fun e => e.rise && e.thr == parN s 0x2C04 0 && !e.fblank && !e.guard).take 16
    |>.map (·.time)).flatten

/-- Bin width in stamp units (R173). -/
def binUnits (s : State) : Nat := 32 * 2 ^ parN s 0x2C02 0

/-- The bins of a list of times (R173, R174). -/
def binsOf (s : State) (ts : List Nat) : Bank Nat :=
  ts.foldl (fun h tau =>
    let z := nsU * parN s 0x2C03 0
    if tau < z || 1024 ≤ (tau - z) / binUnits s then h
    else bmod 0 h ((tau - z) / binUnits s) fun v => min 65535 (v + 1)) []

/-- The three-bin sum at j (R175). -/
def sum3 (h : Bank Nat) (j : Nat) : Nat := bget 0 h j + bget 0 h (j + 1) + if j = 0 then 0 else bget 0 h (j - 1)

/-- Background over a span of ns/4 quarter nanoseconds in n shots, as numerator and denominator (R175, R177). -/
def background (s : State) (c quarters n : Nat) : Nat × Nat :=
  let r := ambRate (chanOf s c) (parN s 0x2C04 0)
  (r.1 * quarters * n, 4 * r.2)

/-- s(j) is above the detection level of R175. -/
def aboveLevel (s : State) (mu : Nat × Nat) (x : Nat) : Bool :=
  decide (mu.1 < x * mu.2) &&
    decide (parN s 0x2C05 0 ^ 2 * mu.1 * mu.2 < 100 * (x * mu.2 - mu.1) ^ 2)

/-- Candidate peaks: local maxima of s, PK_SEP bins apart, at most eight. Bins outside the histogram do not exist. Of maxima that
are too close or too many the largest are kept, and of a plateau its last bin is the maximum (R175; DESIGN CHOICE, log entry 47). -/
def peakBins (s : State) (mu : Nat × Nat) (h : Bank Nat) : List Nat :=
  let js := (upto 1024).filter fun j =>
    let x := sum3 h j
    decide (3 ≤ x) && aboveLevel s mu x && (j == 1023 || decide (sum3 h (j + 1) < x)) && (j == 0 || decide (sum3 h (j - 1) ≤ x))
  let byS := sortBy (fun (j : Nat) => -(sum3 h j : Int)) js
  let kept := byS.foldl (fun (l : List Nat) (j : Nat) =>
    if l.length < 8 && l.all (fun i => decide (parN s 0x2C06 0 ≤ ((i : Int) - j).natAbs)) then l ++ [j] else l) []
  sortBy (fun (j : Nat) => (j : Int)) kept

/-- The coarse time of a peak, 1/4096 unit: the centroid of its three bins above background (R176). -/
def coarseTime (s : State) (mu : Nat × Nat) (h : Bank Nat) (j : Nat) : Int :=
  let js := (upto 3).filterMap fun d => if j + d = 0 then none else some (j + d - 1)
  let w := fun (i : Nat) => 3 * (bget 0 h i * mu.2 : Nat) - (mu.1 : Int)
  let mid := fun (i : Nat) => ((nsU * parN s 0x2C03 0 + i * binUnits s : Nat) : Int) * 4096 + binUnits s * 2048
  let d := isum (js.map w)
  if d ≤ 0 then mid j else rdiv (isum (js.map fun i => w i * mid i)) d

/-- Contiguous bins above the detection level around j. -/
def peakWidth (s : State) (mu : Nat × Nat) (h : Bank Nat) (j : Nat) : Nat :=
  let up := ((upto (1024 - j)).takeWhile fun d => aboveLevel s mu (sum3 h (j + d))).length
  let dn := ((upto j).takeWhile fun d => aboveLevel s mu (sum3 h (j - 1 - d))).length
  up + dn

/-- The zoom of a peak: count, refined time in 1/4096 unit and its centroid before the walk, N_s, and the squared spread in (1/4096 unit)² (R177). -/
structure Zoom where
  bins : List Nat := []
  t : Int := 0
  raw : Int := 0
  ns : Nat := 0
  spread2 : Nat := 0
deriving Repr, DecidableEq

/-- The histogram walk of channel c, 1/4096 unit. -/
def histWalk (s : State) (c ns nf : Nat) : Int :=
  let p := histPos ns nf
  let i := min (p / 65536) 30
  let f : Int := p - 65536 * i
  (walkH s c (1 + i) * (65536 - f) + walkH s c (2 + i) * f) / 256

/-- The zoom pass over the retained stamps of a group about c0; with no more counts than background there is no centroid, and the
refined time is c0 (R177; DESIGN CHOICE, log entry 100). -/
def zoomOf (s : State) (c nf : Nat) (ts : List Nat) (c0 : Int) : Zoom :=
  let base := rdiv c0 4096 - 32
  let kept := (ts.map fun tau => (tau : Int)).filter fun tau => decide (base ≤ tau) && decide (tau < base + 64)
  let mu := background s c 2 nf
  let n := kept.length
  let ns := (rdiv ((n * mu.2 : Nat) - (mu.1 : Int)) (max mu.2 1 : Nat)).toNat
  let den : Int := (n * mu.2 : Nat) - (mu.1 : Int)
  let t := if den ≤ 0 then c0
    else rdiv (4096 * isum kept * mu.2 - mu.1 * (4096 * base + 63 * 2048)) den
  let mean := meanI (kept.map (4096 * ·))
  { bins := (upto 64).map fun (i : Nat) => (kept.filter fun tau => tau == base + i).length
    t := t - histWalk s c ns nf, raw := t, ns := ns
    spread2 := nsum (kept.map fun x => (4096 * x - mean).natAbs ^ 2) / max n 1 }

/-- Ranges of the coarse peaks of channel c in a list of units. -/
def peakRanges (s : State) (us : List ShUnit) (c : Nat) : List Nat :=
  if us.isEmpty then []
  else
    let s := (us.getLast?).elim s (unitState s)
    let h := binsOf s (groupTimes s us c)
    let mu := background s c (3 * 2 ^ parN s 0x2C02 0) us.length
    (peakBins s mu h).filterMap fun j => rangeOf s (coarseTime s mu h j) (256 * walkH s c 0)

/-- The units of the emitter's previous group in the same frame, a flyback group following the last active one (R209). -/
def previousGroup (s : State) (u : ShUnit) : List ShUnit :=
  let first := (groupUnits s u).headD u
  match ((unitsOf s u.em).filter fun v => v.frame == u.frame && decide (v.tStart < first.tStart)).getLast? with
  | some v => groupUnits s v
  | none => []

/-- Histogram mode: the newest unit holds the ranges of its emitter's previous group, for the support test of its group
(R209, R213). -/
def groupSupport (u : ShUnit) (s : State) : State :=
  let prev := (upto 8).map fun i => peakRanges s (previousGroup s u) (8 * u.em + i)
  modEe (fun e => { e with shadow := bmod [] e.shadow u.em fun l => l.dropLast ++ [{ u with prev := prev }] }) s

/-! ## Window close -/

/-- The units that the shadow buffer keeps of an emitter's list: the last two shots in echo mode, the last two groups in histogram
mode (R184). -/
def shadowKeep (s : State) (l : List ShUnit) : List ShUnit :=
  if s.ee.hist then
    let keys := ((l.map groupKey).reverse.eraseDups).take 2
    l.filter fun u => keys.contains (groupKey u)
  else l.drop (l.length - 2)

/-- The channel's shot is converted with stale calibration (R240, R241). -/
def chanStale (s : State) (c : Nat) : Bool := (chanOf s c).staleCause != 0

/-- WINDOW_CLOSE: W after the start stamp the window closes and the guard interval begins; overflows are counted, the low
DAC takes its guard code on every second shot, the shadow buffer takes the shot (R59, R130, R143, R184, R221, R222). -/
def execWindowClose (t : Nat) (b : Fin 4) (s : State) : Host.Outcome State Fault Refusal :=
  let s := s.start t
  let x := bankOf s b
  match x.shot, x.tStart with
  | some sh, some ts =>
    if !x.winOpen || s.tb < ts + shotWin sh then done s
    else
      let cs := (upto 8).map (8 * sh.em + ·)
      let wEnd := shotWin sh
      let s := cs.foldl (fun s c =>
        let y := chanOf s c
        let s := if !y.spill.isEmpty then modBank b (fun x => { x with ovf := true })
            (modChan c (fun y => { y with ovf := satInc y.ovf }) s) else s
        let cal := parB s 0x3400 0 && rxEnabled s c
        let code := guardCodeOf sh.pp.rate s c
        let s := modChan c (fun y => { y with
          guardCode := if cal && y.wantGuard then some code else none
          rotor := if cal && y.wantGuard then (y.rotor + 1) % 3 else y.rotor
          wantGuard := if cal then !y.wantGuard else y.wantGuard
          pulses := if s.ee.hist then y.pulses else pulseRanges s c wEnd y.thrUsed y.stamps }) s
        if s.ee.hist && !sh.flyback && rxEnabled s c then
          modChan c (fun y => { y with
            histInfo := y.histInfo ++ [(x.az, x.tofs, x.eShot)]
            histStale := y.histStale || chanStale s c }) (histAccumulate s c)
        else s) s
      let u : ShUnit := {
        em := sh.em, shot := some sh, tStart := ts
        stamps := (cs.map fun c => (chanOf s c).stamps).flatten
        frame := sh.frame, tofs := x.tofs, az := x.az, ePj := x.eShot
        prev := cs.map fun c => (chanOf s c).prevPulses
        trains := trackedOf s b
        thr := cs.map fun c => (chanOf s c).thrUsed
        stale := cs.map fun c => chanStale s c
        pars := s.dict.inForce.filter fun p => (decide (dkey 0x2800 0 ≤ p.1) && decide (p.1 < dkey 0x4000 0)) || zoneKey p.1
        amb := cs.map fun c => ((chanOf s c).ambN, (chanOf s c).ambT, (chanOf s c).ambC) }
      let s := modEe (fun e => { e with shadow := bmod [] e.shadow sh.em fun l => shadowKeep s (l ++ [u]) }) s
      let s := if s.ee.hist then groupSupport u s else s
      done (modBank b (fun x => { x with winOpen := false, guardOpen := true, guardFrom := ts + shotWin sh }) s)
  | _, _ => done s

/-! ## Groups -/

/-- The divisor of INTENS in histogram mode: K, 1 for a flyback shot (R170, R172). -/
def intensK (u : ShUnit) : Nat := if (u.shot.getD {}).flyback then 1 else unitK u

/-- CONF of a peak with N_s counts of nf shots (R170). -/
def histConf (s : State) (c nf ns : Nat) : Nat :=
  let mz := background s c 2 nf
  min 63 (isqrt (4 * ns * ns * mz.2 / max (ns * mz.2 + mz.1) 1))

/-- What Tuning Slide files of a peak: sweep level, energy, N_s, n_f and the centroid of the zoom, threshold codes, the first rise
and fall of each threshold within the peak's bins, -1 where it was not crossed, and the sampled shot voltage (R236). -/
def histFiled (u : ShUnit) (c nf : Nat) (z : Zoom) (lo hi : Nat) : List Int :=
  let sh := u.shot.getD {}
  let first := fun (k : Nat) (rise : Bool) =>
    (((unitStamps u c).find? fun e => e.thr == k && e.rise == rise && !e.fblank && !e.guard &&
      decide (lo ≤ e.time) && decide (e.time ≤ hi)).map fun e => (e.time : Int)).getD (-1)
  [(sh.level : Int), (u.ePj : Int), (z.ns : Int), (nf : Int), z.raw] ++ ((u.thr.getD (c % 8) []).map fun v => (v : Int)) ++
    (upto 3).map (fun k => first k true) ++ (upto 3).map (fun k => first k false) ++ [(sh.vCode : Int)]

/-- Histogram mode: the classified coarse peaks of channel c in the group of a unit. A coarse peak has no zoom window: its N_s is the
three-bin sum less μ_3 and its σ_t the bin width over √12 alone (DESIGN CHOICE, log entry 100); the tail crossings that belong to it
are those inside bins j-1 to j+1 (DESIGN CHOICE, log entry 100) (R170, R175, R176, R193, R209 to R211, R236). -/
def groupEchoes (s : State) (u : ShUnit) (c : Nat) : List CEcho :=
  let s := unitState s u
  let us := groupUnits s u
  let nf := us.length
  let ts := groupTimes s us c
  let h := binsOf s ts
  let mu := background s c (3 * 2 ^ parN s 0x2C02 0) nf
  let js := peakBins s mu h
  let all := (upto 8).map fun i => peakRanges s us (8 * u.em + i)
  let sh := u.shot.getD {}
  let stale := us.any fun v => v.stale.getD (c % 8) false
  let ub := binUnits s
  let at_ := fun (j : Nat) => nsU * parN s 0x2C03 0 + j * ub
  let es := (js.zip (upto js.length)).filterMap fun (j, k) =>
    let c0 := coarseTime s mu h j
    let ns := (rdiv ((sum3 h j * mu.2 : Nat) - (mu.1 : Int)) (max mu.2 1 : Nat)).toNat
    (rangeOf s c0 (256 * walkH s c 0)).map fun r => ({
      range := r, t := c0
      support := supported (parN s 0x3030 0) (c % 8) r u.prev
      cluster := max 1 (clusterOf (parN s 0x3031 0) r all)
      later := decide (k + 1 < js.length)
      qNum := 4096 * (peakWidth s mu h j * ub : Nat), qDen := widthAt s c 3495253 + 4096 * (ub : Nat)
      key := ns, num := ns, den := intensK u, conf := histConf s c nf ns
      sigma := sigmaOf s ((4096 * ub) ^ 2 / 12) (sigmaCal s c true stale)
      from_ := at_ (j - 1), to_ := at_ (j + 2)
      filed := histFiled u c nf (zoomOf s c nf ts c0) (at_ (j - 1)) (at_ (j + 2)) } : CEcho)
  es.map fun e => { e with cls := classify s sh.flyback (nearTrain s u.trains c (t64Of s u e.t)) e }

/-- A chosen peak after its zoom, none where its range is invalid (R168, R170, R177, R178). -/
def zoomEcho (s : State) (u : ShUnit) (c : Nat) (p : Int × Nat) : Option CEcho :=
  let s := unitState s u
  let us := groupUnits s u
  let stale := us.any fun v => v.stale.getD (c % 8) false
  let z := zoomOf s c us.length (groupTimes s us c) p.1
  (rangeOf s z.t (256 * walkH s c 0)).map fun r => {
    range := r, t := z.t, key := z.ns, num := z.ns, den := intensK u, conf := histConf s c us.length z.ns
    sigma := sigmaOf s (z.spread2 / max z.ns 1) (sigmaCal s c true stale), cls := p.2 }

/-- The head of a group's records: azimuth and TOFS of its middle shot, mean energy (R172, R178). -/
def groupHead (s : State) (u : ShUnit) (c : Nat) (replayed : Bool) : RecHead :=
  let us := groupUnits s u
  let m := us.getD ((us.length - 1) / 2) u
  { chan := c, az := m.az, tofs := m.tofs, kbin := us.length - 1
    throttled := us.any fun v => (v.shot.map (·.throttled)).getD false
    fbdegr := (m.shot.map (·.fbDegr)).getD false, replayed := replayed
    calstale := us.any fun v => v.stale.getD (c % 8) false
    ePj := nsum (us.map (·.ePj)) / max us.length 1 }

/-- The snapshot of a completed group with its zoomed peaks (R179). -/
def snapshotBytes (s : State) (u : ShUnit) (c : Nat) (peaks : List (Int × Nat)) : List Byte :=
  let us := groupUnits s u
  let s := unitState s u
  let ts := groupTimes s us c
  let h := binsOf s ts
  let zs := peaks.map fun p => (zoomOf s c us.length ts p.1).bins
  leBytes 8 (t64At s (us.headD u).tStart).toNat ++
    leBytes 4 (zs.length * 2 ^ 20 + (us.length - 1) % 16 * 2 ^ 16 + c * 256 + parN s 0x2C02 0 % 4 * 64) ++
    leBytes 4 (((us.getLast?.getD u).shot.map (·.epoch)).getD 0 % 65536 * 65536 + parN s 0x2C03 0) ++
    ((upto 1024).map fun j => leBytes 2 (bget 0 h j)).flatten ++ (zs.flatten.map (leBytes 2)).flatten

/-- The snapshot of channel c's group is sent on its ring (R179). -/
def snapshotGo (u : ShUnit) (c : Nat) (peaks : List (Int × Nat)) (s : State) : State :=
  let b := snapshotBytes s u c peaks
  let s := modChan c (fun x => { x with histSnap := false }) s
  let n := parN s 0x2C1A 0
  ringSend n b s

/-- A group of channel c is completed: a snapshot armed for it is of this group; it is sent at once, or after the zoom pass (R179). -/
def sendSnapshot (u : ShUnit) (c : Nat) (zoom : Bool) (s : State) : State :=
  if s.ee.snapArmed = some c then
    let s := modEe (fun e => { e with snapArmed := none }) s
    if zoom then modChan c (fun x => { x with histSnap := true }) s else snapshotGo u c [] s
  else s

/-- The chosen coarse peaks of a group: centre and class (R176, R215, R216). -/
def chosenPeaks (s : State) (es : List CEcho) : List (Int × Nat) :=
  (selectEchoes (parN s 0x3035 0) (es.filter fun e => !bit (parN s 0x3034 0) e.cls)).map fun e => (e.t, e.cls)

/-- The records after the zoom of the chosen peaks, nearest first; with no valid range left, those of a group without return
(R168, R177, R178, R256). -/
def zoomRecords (s : State) (u : ShUnit) (c : Nat) (h : RecHead) (peaks : List (Int × Nat)) : List Rec :=
  let sel := sortBy (fun (e : CEcho) => (e.range : Int)) (peaks.filterMap (zoomEcho s u c))
  if sel.isEmpty then (if parB s 0x3803 0 then [noReturn h] else [])
  else (sel.zip (upto sel.length)).map fun (e, k) => recOf s h k e

/-- The result of a group: counted, its coarse peaks at the field evaluator, its records and chosen peaks. Its candidates for foreign
trains have the T_START of the group's last shot (R199, R205; DESIGN CHOICE, log entry 84) (R175 to R178, R210 to R217). -/
def groupResult (u : ShUnit) (c : Nat) (replayed : Bool) (s : State) : State × List Rec × List (Int × Nat) :=
  let h := groupHead s u c replayed
  let all := groupEchoes s u c
  let es := cutFlyback u all
  let (recs, supp) := recordsOf (unitState s u) h es
  let peaks := chosenPeaks (unitState s u) es
  let shots := goodShots (groupUnits s u)
  let s := shotDone u (markDone u c (countResult u h all es recs supp s))
  let s := releaseMiss (fun m => m.1 == u.em && m.2.2.frame == u.frame && m.2.1 ≤ (groupKey u).2.2) s
  (toFields u c h.az true shots es s, recs, peaks)

/-- COARSE_PEAKS: a group of channel c is complete; its peaks are classified and reach the field evaluator, and the chosen ones
wait for the zoom pass, or give the records at once while ZOOM_ENABLE is 0 or no peak is left; discarded when it comes too late
(R175 to R179, R182, R199, R210 to R217). -/
def execCoarsePeaks (t : Nat) (chan : Fin 256) (s : State) : Host.Outcome State Fault Refusal :=
  let s := s.start t
  let c := chan.val
  match unitReady s c with
  | none => done s
  | some u =>
    if !s.ee.hist || !setLive s (c / 16) || (chanOf s c).lost || (chanOf s c).failed || tooLate s u then done s
    else
      let h := groupHead s u c false
      let (s, recs, peaks) := groupResult u c false s
      if parB (unitState s u) 0x2C07 0 && !peaks.isEmpty then
        done (sendSnapshot u c true (modChan c (fun x => { x with histPeaks := peaks, histDue := some u.tStart }) s))
      else done (sendSnapshot u c false (deliver u h recs 0 s))

/-- ZOOM_PASS: in an idle phase of the engine, before its test, the chosen peaks of a group of channel c are refined; the records
wait for that known-answer test (R162, R177, R178, R182). -/
def execZoomPass (t : Nat) (chan : Fin 256) (s : State) : Host.Outcome State Fault Refusal :=
  let s := s.start t
  let c := chan.val
  let n := engineOf s (c / 16)
  match (unitsOf s (c / 8)).find? fun u => (chanOf s c).histDue == some u.tStart with
  | none => done (modChan c (fun x => { x with histPeaks := [], histDue := none }) s)
  | some u =>
    if !setLive s (c / 16) || !engineIdle s n || testDone s n then done s
    else
      let h := groupHead s u c false
      let peaks := (chanOf s c).histPeaks
      let s := holdZoomed u h (zoomRecords s u c h peaks) s
      let s := if (chanOf s c).histSnap then snapshotGo u c peaks s else s
      done (modChan c (fun x => { x with histPeaks := [], histDue := none }) s)

/-! ## Replays (R184 to R187) -/

/-- A replayed group: classified at its coarse peaks like the live one, its records zoomed with ZOOM_ENABLE; a snapshot of it that
waits, or that its completion meets armed, is sent (R177, R179, R185, R213). -/
def replayGroup (u : ShUnit) (c : Nat) (s : State) : State :=
  let h := groupHead s u c true
  let fresh := decide ((chanOf s c).doneAt < u.tStart + 1)
  let (s, recs, peaks) := groupResult u c true s
  let zoom := parB (unitState s u) 0x2C07 0 && !peaks.isEmpty
  let s := deliver u h (if zoom then zoomRecords s u c h peaks else recs) 0 s
  let s := if fresh then sendSnapshot u c true s else s
  if (chanOf s c).histSnap then snapshotGo u c (if zoom then peaks else []) s else s

/-- No other enabled channel of spare n's set m has an earlier unit to replay (R185). -/
def replayFirst (s : State) (n m : Nat) (u : ShUnit) : Bool :=
  (upto 16).all fun i => !rxEnabled s (16 * m + i) ||
    ((replayUnits s n (16 * m + i)).all fun v => decide (u.tStart ≤ v.tStart))

/-- REPLAYED_RESULT: the spare replays the next channel-shot of its set from the shadow buffer, in time order
(R185 to R188, R192, R213). -/
def execReplayedResult (t : Nat) (chan : Fin 256) (s : State) : Host.Outcome State Fault Refusal :=
  let s := s.start t
  let c := chan.val
  match spareFor s (c / 16) with
  | none => done s
  | some n =>
    if !(engOf s n).ready || (engOf s n).live || !rxEnabled s c then done s
    else
      match replayUnits s n c with
      | [] => done s
      | u :: _ =>
        if !replayFirst s n (c / 16) u then done s
        else
          let s := if (chanOf s c).failed then noMeasure u c s
            else if s.ee.hist then replayGroup u c s else echoShot u c true s
          let s := modEng n (fun e => { e with replayLeft := e.replayLeft ++ [(c, u.tStart)] }) s
          let late := (s.tb - (closeOf u + 120 * nsU)) / nsU
          let s := modEe (fun e => { e with
            replayShots := satInc e.replayShots, replayed := satInc e.replayed
            faultShots := if e.faultSet = c / 16 then min 255 (e.faultShots + 1) else e.faultShots
            maxLat := BitVec.ofNat 32 (max e.maxLat.toNat (min late 0xFFFFFFFF)) }) s
          done (replayEnd n s)

end Sys2Proof.Machine
end

