-- ==== Sys2Proof/Machine/Pcie.lean ====
section
/-!
DEFINITION. The commands of the PCIe host interface (R515 to R541): version negotiation, rings, lane failure and
retraining, function resets and power states.
-/
namespace Sys2Proof.Machine

/-- The highest version in both ranges, 0 when there is none (R684). -/
def negotiate (lo hi plo phi : Nat) : Nat :=
  if max lo plo ≤ min hi phi then min hi phi else 0

/-- The versions the manual describes: 0x0100 is the lowest and the highest (R520, R277, R458, R577). -/
abbrev verDev : Nat := 0x0100

/-- The majors of four versions in bytes 0 to 3 of DATA (R521, R278, R596). -/
def majors (a b c d : Nat) : Nat := a / 256 + 256 * (b / 256) + 65536 * (c / 256) + 16777216 * (d / 256)

/-- PCI_VER_CMD: negotiation between PCI_VER_HOST and the device's range; refused while a ring is enabled
(R520 to R522). -/
def execPciVerCmd (t : Nat) (v : BitVec 32) (s : State) : Host.Outcome State Fault Refusal :=
  let s := s.start t
  if !v.getLsbD 0 || s.pci.rings.any (fun p => p.2.enable) then done s
  else
    let h := s.pci.verHost.toNat
    let c := negotiate verDev verDev (h % 65536) (h / 65536)
    if c = 0 then
      done (logNow 0x3702 noSrc (majors (h % 65536) (h / 65536) verDev verDev)
        (modPci (fun p => { p with verNeg := 0, neg := 2 }) s))
    else done (modPci (fun p => { p with verNeg := BitVec.ofNat 16 c, neg := 1 }) s)

/-- A ring's registers meet R523 and R525: base aligned to 64 bytes, size a power of two from 8 to 65,536, write-back
address aligned to 16 bytes. -/
def ringConfigOk (r : RingS) : Bool :=
  r.base.toNat % 64 == 0 && decide (8 ≤ r.size) && decide (r.size ≤ 65536) && r.size == 2 ^ Nat.log2 r.size &&
    r.wb.toNat % 16 == 0

/-- Forwarded streams that use ring n start anew with it (R267, R588; DEDUCED, log entry 74). -/
def fwdRestart (n : Nat) (s : State) : State :=
  (upto 8).foldl (fun s k =>
    if parN s 0x7C12 k = n || parN s 0x7C13 k = n then
      modLane k (fun l => { l with
        fwdIndex := 0, fwdFirst := 0, fwdCount := 0, fwdDrop := 0, fwdTrunc := false, fwdQ := [], fwdHdrs := [] }) s
    else s) s

/-- RING_ENABLE: refused unless negotiation has agreed, PF0 is bus master and the configuration is good; after a link that was down HOST
is awake again, and its waiting events are delivered (R500, R528, R534). -/
def execRingEnable (t : Nat) (n : Fin 32) (s : State) : Host.Outcome State Fault Refusal :=
  let s := s.start t
  let r := ringOf s n
  if !r.enable && s.pci.neg == 1 && s.pci.bme && ringConfigOk r then
    let s := modRing n (fun r => { r with
      enable := true, stopped := false, cause := 0, bytes := 0, buf := none, fetch := 0, waiting := [], owes := false }) s
    let woke := s.pci.hostDown && s.pci.dlUp
    let s := modPci (fun p => { p with hostDown := p.hostDown && !p.dlUp }) (fwdRestart n s)
    done (ringKick n (if woke then (upto 512).foldl arbitrate s else s))
  else done s

/-- RING_DISABLE (R528). -/
def execRingDisable (t : Nat) (n : Fin 32) (s : State) : Host.Outcome State Fault Refusal :=
  done (ringDisable n (s.start t))

/-- A fetched descriptor meets R523. -/
def descOk (addr : BitVec 64) (len w3 : BitVec 32) : Bool :=
  addr.toNat % 64 == 0 && len.toNat % 64 == 0 && decide (4096 ≤ len.toNat) && decide (len.toNat ≤ 16777216) && w3 == 0

/-! ## Error reporting (R536) -/

/-- Reporting of function f. -/
def aerOf (s : State) (f : Nat) : AerS := bget {} s.pci.aer f
/-- Reporting of function f changed. -/
def modAer (f : Nat) (g : AerS → AerS) (s : State) : State := modPci (fun p => { p with aer := bmod {} p.aer f g }) s

/-- The uncorrectable errors that the device reports, at their places in the PCIe registers: Data Link Protocol, Poisoned TLP
Received, Completion Timeout, Completer Abort, Unexpected Completion, Receiver Overflow, Malformed TLP, ECRC, Unsupported Request. -/
abbrev uncBits : BitVec 32 := 0x001FD010
/-- The correctable ones: Receiver Error, Bad TLP, Bad DLLP, Replay Num Rollover, Replay Timer Timeout, Advisory Non-Fatal. -/
abbrev corBits : BitVec 32 := 0x000031C1
/-- Poisoned TLP Received. -/
abbrev uncPoisoned : Nat := 12
/-- Completion Timeout. -/
abbrev uncTimeout : Nat := 14

/-- An uncorrectable error of function f: its status bit is set, and unless masked a message of its severity is sent (R536). -/
def aerUnc (f b : Nat) (s : State) : State :=
  let a := aerOf s f
  let s := modAer f (fun x => { x with unc := x.unc ||| BitVec.ofNat 32 (2 ^ b) }) s
  if a.uncMask.getLsbD b then s else emit (.note (if a.uncSev.getLsbD b then "ERR_FATAL" else "ERR_NONFATAL") f) s

/-- A correctable error of function f (R536). -/
def aerCor (f b : Nat) (s : State) : State :=
  let a := aerOf s f
  let s := modAer f (fun x => { x with cor := x.cor ||| BitVec.ofNat 32 (2 ^ b) }) s
  if a.corMask.getLsbD b then s else emit (.note "ERR_COR" f) s

/-- DESCRIPTOR_FETCH: the completion of the fetch in progress (R524, R529, R536). -/
def execDescriptorFetch (t : Nat) (n : Fin 32) (addr : BitVec 64) (len w3 : BitVec 32) (ok : Cpl) (s : State) :
    Host.Outcome State Fault Refusal :=
  let s := s.start t
  let r := ringOf s n
  if r.fetch = 0 || !ringRunning r then done s
  else if ok = .poisoned then done (ringStop n 3 (aerUnc 0 uncPoisoned s))
  else if ok != .good then done (ringStop n 3 s)
  else if !descOk addr len w3 then done (ringStop n 1 s)
  else
    let s := modRing n (fun r => { r with fetch := 0, buf := some { addr := addr, len := len.toNat } }) s
    done (ringDrain n (ringOf s n).waiting s)

/-- DESCRIPTOR_FETCH_TIMEOUT: 50 ms without completion; the third attempt that fails stops the ring (R529, R536). -/
def execDescriptorFetchTimeout (t : Nat) (n : Fin 32) (s : State) : Host.Outcome State Fault Refusal :=
  let s := s.start t
  let r := ringOf s n
  if r.fetch != 0 && ringRunning r && decide (r.fetchAt + 50 * msU ≤ s.tb) then
    let s := aerUnc 0 uncTimeout s
    if 3 ≤ r.fetch then done (ringStop n 2 s)
    else done (emit (.note "descriptor fetch" n) (modRing n (fun r => { r with fetch := r.fetch + 1, fetchAt := s.tb }) s))
  else done s

/-- The width and lane reversal that R531 leaves after lane failures: width 0 means the link is down. -/
def narrowed (failed : BitVec 4) (reversal : Bool) : Nat × Bool :=
  let b := fun i => failed.getLsbD i
  if !b 0 && !b 1 then (2, false)
  else if reversal && !b 2 && !b 3 then (2, true)
  else if !b 0 then (1, false)
  else if !b 3 then (1, true)
  else (0, false)

/-- Errors that a lane reports are counted, and reported as Receiver Errors and in Lane Error Status (R531, R536, R541). -/
def laneErrors (r : LaneReport) (s : State) : State :=
  if r.errs = 0 then s
  else aerCor 0 0 (modPci (fun p => { p with
    laneErr := bmod 0 p.laneErr r.lane fun n => min 255 (n + r.errs)
    laneSt := p.laneSt ||| BitVec.ofNat 4 (2 ^ r.lane.val) }) s)

/-- LANE_FAILED: a lane with more than PCI_LANE_ERR_LIMIT errors in 1 s, or without lock in Recovery, is declared failed and the
link retrains narrower, or is down when no lane serves (R531, R533, R536). -/
def execLaneFailed (t : Nat) (lane : LaneReport) (reversal : Bool) (s : State) : Host.Outcome State Fault Refusal :=
  let s := laneErrors lane (s.start t)
  if (!s.pci.dlUp && !s.pci.retraining) || s.pci.failed.getLsbD lane.lane ||
      (!lane.lost && decide (lane.errs ≤ parN s 0x7804 0)) then done s
  else
    let f := s.pci.failed ||| BitVec.ofNat 4 (2 ^ lane.lane.val)
    let (w, rv) := narrowed f reversal
    let s := modPci (fun p => { p with failed := f }) s
    let w := min w (max s.pci.trained 1)
    let s := logNow 0x2703 noSrc (f.toNat + 256 * w) s
    if w = 0 then done (linkDown s)
    else done (modPci (fun p => { p with
      width := w, reversed := rv, dlUp := false
      retrainAt := if p.retraining then p.retrainAt else s.tb, retraining := true }) s)

/-- A staged item or message is delivered in order; on a stopped ring it waits, and a header is held again (R273, R529, R533). -/
def stagedDeliver (s : State) (x : Nat × WItem) : State :=
  let (k, it) := x
  let us := (s.tb - it.at_) / usU
  let s := modPci (fun p => { p with
    maxHold := if p.maxHold.toNat < us then BitVec.ofNat 32 (min us 0xFFFFFFFF) else p.maxHold }) s
  if 32 ≤ k then emit (.msix (k - 32) (ofLe it.data)) s
  else if ringRunning (ringOf s k) then ringDrain k ((ringOf s k).waiting ++ [it]) s
  else if it.hdr.isEmpty then modRing k (fun r => { r with waiting := if r.enable then r.waiting ++ [it] else r.waiting }) s
  else { s with pt := { s.pt with hdrHeld := s.pt.hdrHeld ++ [it.hdr] } }

/-- LINK_ACTIVE: the data link layer is active. After a first training it is the trained width; after retraining the
held items and messages are delivered in their order (R516, R533). -/
def execLinkActive (t : Nat) (speed width : Fin 5) (s : State) : Host.Outcome State Fault Refusal :=
  let s := s.start t
  if s.pci.perst || s.pci.dlUp then done s
  else if s.pci.retraining then
    let st := s.pci.staged
    let s := modPci (fun p => { p with dlUp := true, retraining := false, staged := [], stageBytes := 0 }) s
    done (st.foldl stagedDeliver s)
  else
    let w := min width.val (2 ^ parN s 0x7801 0)
    done (modPci (fun p => { p with
      dlUp := true, speed := min speed.val (parN s 0x7800 0 + 1), width := w
      trained := if p.trained = 0 then w else p.trained }) s)

/-- RETRAIN_TIMEOUT: the link is not active within PCI_RETRAIN_MAX of the declaration (R534). -/
def execRetrainTimeout (t : Nat) (s : State) : Host.Outcome State Fault Refusal :=
  let s := s.start t
  if s.pci.retraining && decide (s.pci.retrainAt + parN s 0x7803 0 * msU ≤ s.tb) then done (linkDown s) else done s

/-- PCI_RETRAIN: retrains to the trained width when no lane is declared failed (R532). -/
def execPciRetrain (t : Nat) (v : BitVec 32) (s : State) : Host.Outcome State Fault Refusal :=
  let s := s.start t
  if v.getLsbD 0 && s.pci.failed == 0 && s.pci.dlUp then
    done (modPci (fun p => { p with width := p.trained, dlUp := false, retraining := true, retrainAt := s.tb }) s)
  else done s

/-- The mailbox transfer in progress is aborted, with the response that a request of it still owes (R535, R558). -/
def mbxAbort (s : State) : State :=
  { s with xi := { s.xi with owed := s.xi.owed.filter (fun x => x.2.1 != 1), mbx := { s.xi.mbx with
    aborted := s.xi.mbx.aborted || !s.xi.mbx.msg.isEmpty || s.xi.mbx.rspReady || s.xi.owed.any (fun x => x.2.1 == 1), reqFree := true, rspReady := false, rspFirst := false, rspLast := false, rspLen := 0
    msg := [], out := [] } } }

/-- Staged items discarded and counted (R535). -/
def stageDiscard (p : PciS) : PciS :=
  { p with staged := [], stageBytes := 0, stageLost := satAdd p.stageLost (stagedItems p) }

/-- An FLR of function f: its configuration space returns to reset; PF0's rings, counts and staging too, and negotiation and what PF1 has
staged stay; for PF1 the mailbox transfer is aborted (R535). -/
def flrGo (f : Nat) (s : State) : State :=
  let s := modPci (fun p => { p with
    d3 := bset p.d3 f false, msixOn := bset p.msixOn f false, msixCtl := bset p.msixCtl f 0, bar0 := bset p.bar0 f 0
    aer := bset p.aer f {}, bme1 := p.bme1 && f == 0, laneSt := if f = 0 then 0 else p.laneSt
    msixTab := p.msixTab.filter (fun x => x.1 / 256 != f), msixOpen := p.msixOpen.filter (fun x => x.1 / 64 != f)
    msixPba := p.msixPba.filter (fun x => x.1 / 64 != f) }) s
  if f = 0 then
    let s := (upto 32).foldl (fun s n => ringEmpty n s) s
    let own := s.pci.staged.filter fun x => x.1 == 33
    modPci (fun p => { stageDiscard p with
      rings := [], bme := false, laneErr := [], maxHold := 0, staged := own, stageBytes := msixBytes * own.length })
      { s with pt := { s.pt with streaming := s.pt.streaming && parN s 0x7C10 0 == 1 } }
  else closeSess 1 (mbxAbort s)

/-- FLR of a function (R535). -/
def execFlr (t : Nat) (f : Fin 2) (s : State) : Host.Outcome State Fault Refusal := done (flrGo f (s.start t))

/-- Function f enters D3hot; PF0 disables every ring (R538). -/
def d3Enter (f : Nat) (s : State) : State :=
  let s := modPci (fun p => { p with d3 := bset p.d3 f true }) s
  if f = 0 then (upto 32).foldl (fun s n => ringDisable n s) s else s

/-- Function f is in D0 again and its waiting events are delivered (R500, R538). -/
def d3Leave (f : Nat) (s : State) : State :=
  (upto 512).foldl arbitrate (modPci (fun p => { p with d3 := bset p.d3 f false }) s)

/-- D3HOT_ENTRY (R538). -/
def execD3hotEntry (t : Nat) (f : Fin 2) (s : State) : Host.Outcome State Fault Refusal := done (d3Enter f (s.start t))

/-- D3HOT_EXIT (R500, R538). -/
def execD3hotExit (t : Nat) (f : Fin 2) (s : State) : Host.Outcome State Fault Refusal := done (d3Leave f (s.start t))

/-- BUS_MASTER_ENABLE_CLEARED: every enabled ring stops with cause 4 (R529). -/
def execBusMasterEnableCleared (t : Nat) (s : State) : Host.Outcome State Fault Refusal :=
  let s := modPci (fun p => { p with bme := false }) (s.start t)
  done ((upto 32).foldl (fun s n => if ringRunning (ringOf s n) then ringStop n 4 s else s) s)

end Sys2Proof.Machine
end

