-- ==== Sys2Proof/Machine/ScanLink.lean ====
section
/-!
DEFINITION. The commands of the Scan Link lanes (R570 to R597), apart from those that planning, points and
Xiest take up.
-/
namespace Sys2Proof.Machine

/-- SLK_OFFSET: the median of the last eight values of θ, read as two's complement (R581, R597). -/
def slkOffset (s : State) (n : Nat) : Int := median ((laneOf s n).thetas.map fun x => x.toInt)
/-- SLK_DELAY: the median of the last eight values of δ (R581). -/
def slkDelay (s : State) (n : Nat) : Int := median ((laneOf s n).deltas.map fun x => x.toInt)

/-- A partner's T64 in the device's own scale (R582). -/
def aligned (s : State) (n : Nat) (t : BitVec 64) : BitVec 64 := t + BitVec.ofInt 64 (slkOffset s n)

/-- The sources whose IRQ packets of lane n are all acknowledged or gone complete (R591). -/
def irqFinish (n : Nat) (gone : List (List Byte)) (s : State) : State :=
  let was := ((laneOf s n).irqOpen.filter fun p => gone.contains p.2).map (·.1)
  let s := modLane n (fun l => { l with irqOpen := l.irqOpen.filter fun p => !gone.contains p.2 }) s
  was.foldl (fun s src =>
    if (upto 8).any (fun k => (laneOf s k).irqOpen.any fun p => p.1 == src) then s
    else if s.eic.active.getLsbD src && bget 0 s.eic.owner src == 7 then eicFinish src s else s) s

/-- Lane n leaves UP: replay buffer and queue are discarded, its Xiest session closes, entry 0x1F10, source 392 + n
(R579). -/
def laneLeavesUp (n : Nat) (st : Nat) (s : State) : State :=
  let l := laneOf s n
  let gone := (l.queue.map (·.2)) ++ (l.replay.map fun p => p.2.2)
  let s := modLane n (fun l => { l with
    replay := [], queue := [], waitFrom := none, sleepAck := none, xmsg := [], xopen := false, st := st }) s
  let s := closeSess (2 + n) (irqFinish n gone s)
  eicEdge (392 + n) (logNow 0x1F10 n (st + 256 * l.rate) s)

/-- Lane n goes to a state other than UP (R575). -/
def laneTo (n st : Nat) (s : State) : State :=
  let s := if (laneOf s n).st = 4 then laneLeavesUp n st s else s
  modLane n (fun l => { l with
    st := st, queue := [], capSame := false, tryRate := none, pairs := 0, ofsValid := false
    rate := if st ≤ 1 then 0 else l.rate, chosen := if st ≤ 1 then 0 else l.chosen, capAt := if st ≤ 1 then none else l.capAt }) s

/-- Lane n reaches UP: sequence numbers and markers start anew (DEDUCED, log entry 74), entry 0x0F11, source 392 + n (R577,
R579). -/
def laneUp (n : Nat) (s : State) : State :=
  let s := modLane n (fun l => { l with
    st := 4, txSeq := 0, rxSeq := 0, pairs := 0, ofsValid := false, thetas := [], deltas := []
    markSent := [], markIn := none, markR := 0, markRno := 0 }) s
  eicEdge (392 + n) (logNow 0x0F11 n (4 + 256 * (laneOf s n).rate) s)

/-- The packets of a replay buffer up to and with the one of a SEQ, and the rest; none acknowledged when the SEQ is not
among them (R573). -/
def ackSplit (seq : BitVec 8) (l : List (BitVec 8 × Nat × List Byte)) :
    List (BitVec 8 × Nat × List Byte) × List (BitVec 8 × Nat × List Byte) :=
  if l.any (fun p => p.1 == seq) then
    let k := (l.takeWhile fun p => p.1 != seq).length + 1
    (l.take k, l.drop k)
  else ([], l)

/-- Packets acknowledged on lane n leave the replay buffer; an acknowledged SLEEP puts the transmitter to sleep, IRQ
packets complete their sources (R573, R591, R594). -/
def slkRelease (n : Nat) (seq : BitVec 8) (s : State) : State :=
  let (out, rest) := ackSplit seq (laneOf s n).replay
  let slept := (laneOf s n).sleepAck.isSome && out.any fun p => p.2.1 % 256 == tySleep
  let s := modLane n (fun l => { l with
    replay := rest, waitFrom := if rest.isEmpty then none else some s.tb
    txSleep := l.txSleep || slept, sleepAck := if slept then none else l.sleepAck }) s
  irqFinish n ((out.filter fun p => p.2.1 == tyIrq).map fun p => p.2.2) s

/-- The packets of the replay buffer of lane n are sent again from the first unacknowledged one, unless the transmitter sleeps
(R573, R594). -/
def slkResend (n : Nat) (s : State) : State :=
  let l := laneOf s n
  if l.txSleep then s else
  let s := l.replay.foldl (fun s p => emit (.slk n (slkPacket p.2.1 p.1 p.2.2)) s) s
  modLane n (fun x => { x with
    retx := satAdd x.retx l.replay.length, waitFrom := if l.replay.isEmpty then none else some s.tb }) s

/-- SLK_ACK, at a receiver that is awake: packets are released; the first ACK at the final rate brings the lane UP (R573, R577). -/
def execSlkAck (t : Nat) (lane : Fin 8) (seq : BitVec 8) (s : State) : Host.Outcome State Fault Refusal :=
  let s := s.start t
  let l := laneOf s lane
  if l.st = 3 && !l.rxSleep then
    if l.capSame && l.tryRate.isNone then done (laneUp lane s) else done s
  else if l.st = 4 && !l.rxSleep then done (slkDrain 64 lane (slkRelease lane seq s))
  else done s

/-- SLK_NAK, at a receiver that is awake: packets up to SEQ are released, the rest are sent again, and queued ones follow where the
replay buffer has room (R573). -/
def execSlkNak (t : Nat) (lane : Fin 8) (seq : BitVec 8) (s : State) : Host.Outcome State Fault Refusal :=
  let s := s.start t
  if (laneOf s lane).st = 4 && !(laneOf s lane).rxSleep then
    done (slkDrain 64 lane (slkResend lane (slkRelease lane seq s)))
  else done s

/-- SLK_REPLAY_TIMEOUT: no ACK within 20 µs; a SLEEP unanswered for 100 µs puts the transmitter to sleep (R573, R594). -/
def execSlkReplayTimeout (t : Nat) (lane : Fin 8) (s : State) : Host.Outcome State Fault Refusal :=
  let s := s.start t
  let l := laneOf s lane
  match l.sleepAck with
  | some a =>
    if a + 100 * usU ≤ s.tb then done (modLane lane (fun l => { l with
        txSleep := true, sleepAck := none, queue := l.queue.filter fun p => p.1 != tySleep }) s)
    else match l.waitFrom with
      | some w => if w + 20 * usU ≤ s.tb then done (slkResend lane s) else done s
      | none => done s
  | none =>
    match l.waitFrom with
    | some w =>
      if l.st = 4 && !l.txSleep && decide (w + 20 * usU ≤ s.tb) then done (slkResend lane s) else done s
    | none => done s

/-- Rates of R576 that the device offers: those up to SLK_MAX_RATE. -/
def slkRates (s : State) : Nat := 2 ^ (parN s 0x7C01 0 + 1) - 1

/-- The CAP payload (R576). -/
def capPayload (s : State) (n : Nat) : List Byte :=
  leBytes 2 verDev ++ leBytes 2 verDev ++ leBytes 2 (laneOf s n).chosen.toNat ++
    [BitVec.ofNat 8 (slkRates s), BitVec.ofNat 8 n] ++ leBytes 2 0x4256 ++
    leBytes 4 (fwVersion s) ++ leBytes 2 s.pt.ver.toNat ++ Config.serial.take 16

/-- The highest rate code in a set of rates, below a bound (R577). -/
def topRate (rates bound : Nat) : Option Nat :=
  ((upto 3).filter fun r => bit rates r && decide (r < bound)).getLast?

/-- Lane n sends CAP; the instant and the VER_POINTS given are kept for the next (R576, R578, R587). -/
def capSend (n : Nat) (s : State) : State :=
  modLane n (fun l => { l with capAt := some s.tb, capVer := s.pt.ver }) (slkControl n tyCap (capPayload s n) s)

/-- Whether the lane sends CAP now, its transmitter awake: every 100 µs in NEGOTIATING (R576), every 1 s in REFUSED (R578), and
on an UP lane after a change of VER_POINTS (R587). -/
def capDue (l : SlkS) (s : State) : Bool :=
  !l.txSleep && match l.st with
  | 3 => periodDue l.capAt (100 * usU) s.tb
  | 4 => l.capVer != s.pt.ver
  | 5 => periodDue l.capAt secU s.tb
  | _ => false

/-- CAP, at a receiver that is awake: the version CHOSEN and the rate are set from the partner's ranges; no common version refuses the lane; the
same CHOSEN on both sides starts the change of rate (R577, R578). -/
def execCap (t : Nat) (lane : Fin 8) (payload : List Byte) (s : State) : Host.Outcome State Fault Refusal :=
  let s := s.start t
  let n := lane.val
  let l := laneOf s n
  let w := fun a k => ofLe ((payload.drop a).take k)
  if l.st = 0 || l.st = 1 || l.st = 6 || l.rxSleep then done s
  else
    let lo := w 0 2
    let hi := w 2 2
    let c := negotiate verDev verDev lo hi
    let s := modLane n (fun l => { l with
      partnerRange := (lo, hi), partnerRates := w 6 1, partnerPts := BitVec.ofNat 16 (w 14 2)
      partner := payload.drop 16 }) s
    if l.st = 4 then done s
    else if c = 0 then
      if l.st = 5 then done s
      else
        let s := modLane n (fun l => { l with st := 5, chosen := 0, capSame := false, tryRate := none }) s
        done (logNow 0x3F12 n (majors verDev verDev lo hi) (capSend n s))
    else
      let same := w 4 2 == c
      let s := modLane n (fun l => { l with st := 3, chosen := BitVec.ofNat 16 c }) s
      if same && !l.capSame then
        let s := capSend n s
        done (modLane n (fun l => { l with
          capSame := true, tryRate := topRate (slkRates s &&& w 6 1) 3, tryAt := s.tb }) s)
      else done s

/-- CAP_SEND: the lane sends CAP when one is due; a lane that holds its alignment begins to negotiate (R575, R576, R578, R587). -/
def execCapSend (t : Nat) (lane : Fin 8) (s : State) : Host.Outcome State Fault Refusal :=
  let s := s.start t
  let s := if (laneOf s lane).st = 2 then modLane lane (fun l => { l with st := 3 }) s else s
  if capDue (laneOf s lane) s then done (capSend lane s) else done s

/-- RATE_ALIGNMENT_TIMEOUT: no alignment at the new rate within 10 ms: the next lower common rate, or DOWN (R575, R577). -/
def execRateAlignmentTimeout (t : Nat) (lane : Fin 8) (s : State) : Host.Outcome State Fault Refusal :=
  let s := s.start t
  let l := laneOf s lane
  match l.tryRate with
  | some r =>
    if l.tryAt + 10 * msU ≤ s.tb then
      match topRate (slkRates s &&& l.partnerRates) r with
      | some r' => done (modLane lane (fun l => { l with tryRate := some r', tryAt := s.tb }) s)
      | none => done (laneTo lane 1 s)
    else done s
  | none => done s

/-- COMMA_ALIGNED, at a receiver that is awake (R594): a lane that is DOWN goes to ALIGNING; alignment at the rate being tried makes it the rate in use, and
an ACK is sent (R575, R577). -/
def execCommaAligned (t : Nat) (lane : Fin 8) (s : State) : Host.Outcome State Fault Refusal :=
  let s := s.start t
  let l := laneOf s lane
  if l.rxSleep then done s
  else if l.st = 1 then done (modLane lane (fun l => { l with st := 2 }) s)
  else match l.tryRate with
    | some r =>
      if l.st = 3 then
        done (slkControl lane tyAck [l.rxSeq - 1] (modLane lane (fun l => { l with rate := r, tryRate := none }) s))
      else done s
    | none => done s

/-- ALIGNMENT_LOST: the lane goes to DOWN; errs is the number of K30.7 decoded that the loss reports. A sleeping receiver decodes
nothing, and its lane stays as it is (R575, R579, R594, R595, R597 SLK_CODE_ERR). -/
def execAlignmentLost (t : Nat) (lane : Fin 8) (errs : Nat) (s : State) : Host.Outcome State Fault Refusal :=
  let s := s.start t
  let st := (laneOf s lane).st
  if (laneOf s lane).rxSleep then done s
  else
  let s := if 2 ≤ st && st ≤ 5 then laneTo lane 1 s else s
  done (modLane lane (fun l => { l with codeErr := satAdd l.codeErr errs }) s)

/-- Whether a packet received on lane n is taken: good, in order, on an UP lane whose receiver is awake; it is then
acknowledged, and otherwise answered with a NAK (R573). -/
def slkTake (n : Nat) (rx : SlkRx) (s : State) : Bool × State :=
  let l := laneOf s n
  if l.st != 4 || l.rxSleep then (false, s)
  else if rx.good && rx.seq == l.rxSeq then
    (true, slkControl n tyAck [rx.seq] (modLane n (fun l => { l with rxSeq := l.rxSeq + 1 }) s))
  else (false, slkControl n tyNak [l.rxSeq - 1] s)

/-- SLEEP: the receiver sleeps on accepting it (R594). -/
def execSleep (t : Nat) (lane : Fin 8) (rx : SlkRx) (s : State) : Host.Outcome State Fault Refusal :=
  let (ok, s) := slkTake lane rx (s.start t)
  if ok then done (modLane lane (fun l => { l with rxSleep := true }) s) else done s

/-- A list with one more value, keeping the last eight. -/
def last8 (l : List (BitVec 64)) (x : BitVec 64) : List (BitVec 64) := (l ++ [x]).drop (l.length + 1 - 8)

/-- θ and δ of a pair of opposite markers (R581). -/
def thetaDelta (rOwn sPartner rPartner sOwn : BitVec 64) : BitVec 64 × BitVec 64 :=
  let a := (rOwn - sPartner).toInt
  let b := (rPartner - sOwn).toInt
  (BitVec.ofInt 64 ((a - b) / 2), BitVec.ofInt 64 ((a + b) / 2))

/-- TIME: it gives the number of the marker that came before it; with the device's own marker that it answers, the pair
gives θ and δ; a new count of T64 loads discards the history (R153, R581, R583). -/
def execTime (t : Nat) (lane : Fin 8) (rx : SlkRx) (payload : List Byte) (s : State) :
    Host.Outcome State Fault Refusal :=
  let (ok, s) := slkTake lane rx (s.start t)
  if !ok then done s
  else
    let w := fun a k => ofLe ((payload.drop a).take k)
    let l := laneOf s lane
    let loads := BitVec.ofNat 16 (w 20 2)
    let fresh := l.partnerLoads.isSome && l.partnerLoads != some loads
    let s := if fresh then modLane lane (fun l => { l with thetas := [], deltas := [], pairs := 0, ofsValid := false }) s else s
    let s := modLane lane (fun l => { l with partnerLoads := some loads }) s
    match l.markIn with
    | none => done s
    | some r =>
      let s := modLane lane (fun l => { l with markIn := none, markR := r, markRno := BitVec.ofNat 16 (w 16 2) }) s
      match l.markSent.find? fun p => p.1.toNat == w 18 2 with
      | none => done s
      | some p =>
        let (th, de) := thetaDelta r (BitVec.ofNat 64 (w 0 8)) (BitVec.ofNat 64 (w 8 8)) p.2
        done (modLane lane (fun l => { l with
          thetas := last8 l.thetas th, deltas := last8 l.deltas de, pairs := l.pairs + 1, pairAt := s.tb
          ofsValid := decide (8 ≤ l.pairs + 1) }) s)

/-- A marker of lane n is due: within a symbol, at most 8 ns, after a whole multiple of SLK_MARK_PERIOD in the T64 scale in force,
for which none has been sent (R153, R570, R580). -/
def markerDue (s : State) (n : Nat) : Bool :=
  let per := parN s 0x7C08 0 * usU
  let now := (t64Now s).toNat
  decide (now % per ≤ 8 * nsU) && (match (laneOf s n).markSent.getLast? with
    | some p => p.2.toNat / per != now / per
    | none => true)

/-- MARKER_SEND: at a multiple of SLK_MARK_PERIOD an UP lane whose transmitter is awake sends K28.1, with s and a number,
and a TIME packet (R153, R580, R581). -/
def execMarkerSend (t : Nat) (lane : Fin 8) (s : State) : Host.Outcome State Fault Refusal :=
  let s := s.start t
  let l := laneOf s lane
  if l.st = 4 && !l.txSleep && markerDue s lane then
    let now := t64Now s
    let no := l.markSno + 1
    let s := modLane lane (fun l => { l with
      markSno := no, markSent := (l.markSent ++ [(no, now)]).drop (l.markSent.length + 1 - 8) }) s
    done (slkQueue lane tyTime
      (leBytes 8 now.toNat ++ leBytes 8 l.markR.toNat ++ leBytes 2 no.toNat ++ leBytes 2 l.markRno.toNat ++
        leBytes 2 s.tbs.loads.toNat) (emit (.slkMarker lane) s))
  else done s

/-- OFFSET_INVALID: no pair for 10 ms (R583). -/
def execOffsetInvalid (t : Nat) (lane : Fin 8) (s : State) : Host.Outcome State Fault Refusal :=
  let s := s.start t
  let l := laneOf s lane
  if l.ofsValid && decide (l.pairAt + 10 * msU ≤ s.tb) then
    done (logNow 0x1F13 lane 0 (modLane lane (fun l => { l with ofsValid := false }) s))
  else done s

/-- TRIG: a trigger of source bit 4 at the aligned instant, on a lane of REC_SL_IN; discarded and counted while the
offset is invalid (R583, R590). -/
def execTrig (t : Nat) (lane : Fin 8) (rx : SlkRx) (payload : List Byte) (s : State) :
    Host.Outcome State Fault Refusal :=
  let (ok, s) := slkTake lane rx (s.start t)
  if !ok then done s
  else if !(laneOf s lane).ofsValid then done (modLane lane (fun l => { l with trigDrop := satInc l.trigDrop }) s)
  else if bit (parN s 0x681C 0) lane then
    done (recTrigger 4 (aligned s lane (BitVec.ofNat 64 (ofLe (payload.take 8)))) s)
  else done s

/-- IRQ: source 384 + n pends, n the receiving lane (R591). -/
def execIrq (t : Nat) (lane : Fin 8) (rx : SlkRx) (_payload : List Byte) (s : State) :
    Host.Outcome State Fault Refusal :=
  let (ok, s) := slkTake lane rx (s.start t)
  if ok then done (eicEdge (384 + lane) s) else done s

/-- A write of SLK_TX_SLEEP: 1 sends SLEEP and waits for its ACK, 0 wakes the transmitter (R594, R595). -/
def slkTxSleepWrite (n : Nat) (v : Bool) (s : State) : State :=
  let l := laneOf s n
  if v then
    if l.st = 4 && !l.txSleep && l.sleepAck.isNone then
      modLane n (fun l => { l with sleepAck := some s.tb }) (slkQueue n tySleep [] s)
    else s
  else slkDrain 64 n (modLane n (fun l => { l with
    txSleep := false, sleepAck := none, queue := l.queue.filter fun p => p.1 != tySleep }) s)

/-- TRANSMITTER_WAKE: a queued packet wakes a sleeping transmitter while SLK_TX_AUTOWAKE is 1 (R595). -/
def execTransmitterWake (t : Nat) (lane : Fin 8) (s : State) : Host.Outcome State Fault Refusal :=
  let s := s.start t
  let l := laneOf s lane
  if l.txSleep && parB s 0x7C1A lane && !l.queue.isEmpty then
    done (slkDrain 64 lane (modLane lane (fun l => { l with txSleep := false }) s))
  else done s

/-- RECEIVER_WAKE: the activity detector wakes a sleeping receiver (R594). -/
def execReceiverWake (t : Nat) (lane : Fin 8) (s : State) : Host.Outcome State Fault Refusal :=
  done (modLane lane (fun l => { l with rxSleep := false }) (s.start t))

end Sys2Proof.Machine
end

