-- ==== Sys2Proof/Machine/PlanOps.lean ====
section
/-!
DEFINITION. Planning: apply points of parameters, timing of a frame, dither, demand, energy selection and the commit of a
phase (R15, R17, R50 to R63, R66 to R82, R197, R203, R205 to R208, R301).
-/
namespace Sys2Proof.Machine

/-! ## Apply points (R15, R17, R54) -/

/-- Apply time of a dictionary key; LCE_COEF_SEL of laws 3 and 5 applies at a frame start (R294). -/
def keyApp (k : Nat) : DApp :=
  if k = dkey 0x4012 3 || k = dkey 0x4012 5 then .frame
  else match dictFind (k / 256) (k % 256) with
    | some r => r.app
    | none => .none

/-- Written values of an apply time are put in force. -/
def applyHeld (a : DApp) (s : State) : State := takeHeld (fun k => keyApp k == a) s

/-- At the cut-off the written FRAME values are fixed for the next frame start; values fixed before stay (R17, R54). -/
def fixFrame (s : State) : State :=
  let now := s.dict.held.filter fun p => keyApp p.1 == .frame
  { s with dict := { s.dict with
      fixed := now.foldl (fun b p => bset b p.1 p.2) s.dict.fixed
      via := now.foldl (fun b p => bset (bdel b p.1) (p.1 + 16777216) (bget 0 b p.1)) s.dict.via
      held := s.dict.held.filter fun p => keyApp p.1 != .frame } }

/-- The dictionary with the fixed values in force. -/
def withFixed (s : State) : State :=
  { s with dict := { s.dict with inForce := s.dict.fixed.foldl (fun b p => bset b p.1 p.2) s.dict.inForce } }

/-! ## Frame timing (R50, R51, R58) -/

/-- N_cyc of a rate in mHz and a period in ns, halves up (R50). -/
def cyclesOf (rate p : Nat) : Nat := (2 * 1000000000000 + rate * 8 * p) / (2 * max (rate * 8 * p) 1)

/-- Timing and trajectory that the parameters in force give a frame (R50, R51, R58, R296). -/
def frameOf (s : State) : FrameP :=
  let w := parN s 0x2010 0
  let d := parN s 0x2012 0
  let p := max (w + parN s 0x2011 0 + d) 1455
  let n := cyclesOf (parN s 0x2000 0) p
  { p := p, w := w, g := p - w - d, d := d, nCyc := n, nAct := (2 * parN s 0x2001 0 * n + 100) / 200
    az0 := parI s 0x4003 0, az1 := parI s 0x4004 0 }

/-! ## Dither (R62, R63) -/

/-- One advance of the dither register. -/
def lfsrStep (x : BitVec 31) : BitVec 31 :=
  (x <<< 1) ||| (if x.getLsbD 30 != x.getLsbD 27 then 1 else 0)

/-- Eight advances. -/
def lfsr8 (x : BitVec 31) : BitVec 31 :=
  lfsrStep (lfsrStep (lfsrStep (lfsrStep (lfsrStep (lfsrStep (lfsrStep (lfsrStep x)))))))

/-- The dither code of a register and a range D (R62). -/
def ditherCode (x : BitVec 31) (d : Nat) : Nat := x.toNat % 256 * (d + 1) / 256

/-- The register is loaded from DITHER_SEED, or the device seed held in OTP when that is 0; zero is replaced by 1. -/
def ditherLoad (s : State) : State :=
  let seed := parN s 0x2013 0
  let v : BitVec 31 := if seed = 0 then Config.ditherSeed else BitVec.ofNat 31 seed
  modRm (fun r => { r with lfsr := if v = 0 then 1 else v }) s

/-! ## Demand (R67, R68, R235) -/

/-- The bin of an azimuth (R72). -/
def binOf (t : EyeTable) (az : Int) : Nat :=
  (clampI 0 (t.nBin - 1 : Nat) ((5 * (az - t.azBin0)) / (max t.binWidth 1 : Nat))).toNat

/-- Sweep level of flyback cycle m of frame f (R235). -/
def sweepLevel (m f : Nat) : Nat := (m + 23 * f) % 64

/-- The sweep energy of emitter e at level i, pJ (R235). -/
def sweepPj (s : State) (e i : Nat) : Nat :=
  let lo := parN s 0x3410 0
  let k := kEof s e
  (rdiv (k.m * ((lo * lo * exp2 (2 * i * log2Q (parN s 0x3411 0) (max lo 1) / 63) : Nat) : Int)) ((10 * 2 ^ k.s * one32 : Nat))).toNat

/-- The demand E_d of a shot, pJ (R67). -/
def demandPj (s : State) (sh : Shot) : Nat :=
  if sh.flyback then sweepPj s sh.em sh.level
  else
    let d := 100 * parN s 0x2021 sh.em
    match s.rm.table with
    | some t => if parN s 0x2020 0 = 1 then d * bget 100 s.rm.adapt (1024 * sh.em + binOf t sh.theta) / 100 else d
    | none => d

/-! ## One shot (R69 to R77, R80, R82, R92, R208, R301) -/

/-- Firing is inhibited, in mirror mode 4 too (R78, R80, R89, R113, R690). -/
def firingInhibited (s : State) : Bool :=
  !s.rm.inhibits.isEmpty || s.lce.mode == 4 || s.fld.wdgTripped || s.fld.gateHold || s.rm.table.isNone

/-- The azimuth lies in an overlap range (R208). -/
def inOverlap (s : State) (az : Int) : Bool :=
  [0, 2].any fun k =>
    let a := parI s 0x3023 k
    let b := parI s 0x3023 (k + 1)
    a != b && decide (min a b ≤ az) && decide (az ≤ max a b)

/-- The lowest selected value and what set it, ties in the order eye, thermal, charger, demand (R70, R301, R302). -/
def selectCode (vd vch vth veye : Nat) : Nat × Winner :=
  let (v, w) := if vch ≤ vd then (vch, Winner.charger) else (vd, Winner.demand)
  let (v, w) := if vth ≤ v then (vth, Winner.thermal) else (v, w)
  if veye ≤ v then (veye, Winner.eye) else (v, w)

/-- Code of a winner in LCE_WIN_CH and RM_WIN (R85, R320). -/
def winCode : Winner → Nat
  | .demand => 0
  | .eye => 1
  | .thermal => 2
  | .charger => 3

/-- The skip cause of a winner (R69). -/
def winCause : Winner → Nat
  | .eye => 4
  | .charger => 6
  | .thermal => 7
  | .demand => 0

/-- The code of E_eye, e.1 / e.2 pJ, rounded down. -/
def eyeCode (k : FX) (e : Nat × Nat) : Nat := floorSqrt (codeSqNum k e.1) (codeSqDen k * e.2)

/-- The shot with its code v selected, won by w, and the eye-safety charge of a shot that fires (R60, R62, R69 to R72). -/
def selectIn (t : EyeTable) (k : FX) (bins : List Nat) (ed : Nat) (ee : Nat × Nat) (vth vch v : Nat) (w : Winner) (sh : Shot) (s : State) :
    Shot × State :=
  let e := match w with
    | .demand => (ed, 1)
    | .eye => ee
    | .thermal => codeEnergy k vth
    | .charger => codeEnergy k vch
  let s := modLce (fun l => { l with vSel := bset l.vSel sh.bank v, winCh := bset l.winCh sh.bank (winCode w) }) s
  let eMin := parN s 0x2023 0 * ed
  let closed := (bankOf s sh.bank).windowClosed
  let low := decide (100 * e.1 < eMin * e.2)
  let skip := if low then (if closed then min 5 (winCause w) else winCause w) else if closed then 5 else 0
  let sh := { sh with
    eDem := ed, vSel := v, vLim := limitCode k t.vTol e, vMin := minimumCode k (eMin, 100), winner := w, sel := true
    eChg := chargedPj t.vTol e, throttled := decide (w = .thermal) || decide (s.rm.levelNext < 256), skip := skip }
  (sh, if skip = 0 then eyeCharge sh.em bins sh.eChg s else s)

/-- The shot with its energy selected, tested and charged (R69 to R76, R92, R301); with the charging window closed it is
skipped under CHARGE_TEMP and charges nothing (R80, R96). -/
def selectShot (sh : Shot) (s : State) : Shot × State :=
  match s.rm.table with
  | none => ({ sh with skip := 1 }, s)
  | some t =>
    let k := kEof s sh.em
    let bins := eyeBins s t sh.theta
    let ed := demandPj s sh
    let ee := energyUnder t.vTol (eyeHeadroom s t sh.em bins) s.lce.rel.halved
    let vth := bget 0 s.lce.vTh sh.bank
    let vch := bget 0 s.lce.vCh sh.bank
    let x := selectCode (targetCode k ed) vch vth (eyeCode k ee)
    selectIn t k bins ed ee vth vch x.1 x.2 sh s

/-- The plan of one shot: inhibited, thinned, yielded, or with its energy selected (R69, R80, R82, R208). -/
def planShot (sh : Shot) (s : State) : Shot × State :=
  let closed := (bankOf s sh.bank).windowClosed
  if !cycleFires sh.cycle s.rm.levelNext then
    ({ sh with thin := true, skip := if firingInhibited s then 1 else if closed then 5 else 7 }, s)
  else if firingInhibited s then ({ sh with skip := 1 }, s)
  else if s.rm.coordActive && inOverlap s sh.theta && sh.cycle % 2 != parN s 0x3021 0 then
    ({ sh with skip := if closed then 5 else 8 }, s)
  else selectShot sh s

/-! ## Thresholds and blanking of the committed phase (R197, R203) -/

/-- Predicted arrivals of bank b's tracked trains between two timebase counts, each with its train's mask (R203). -/
def arrivals (s : State) (b lo hi : Nat) : List (Nat × BitVec 64) :=
  if !parB s 0x3010 0 then []
  else
    ((upto 8).map fun k =>
      let x := trainOf s b k
      if x.st != 2 || x.tp = 0 then []
      else
        let tp : Int := 2 * x.tp
        let first := halfFs * ((t64At s lo - x.ofs).toInt)
        let k0 := -((-first) / tp)
        (upto ((hi - lo) * 15625 / (2 * x.tp) + 2)).filterMap fun i =>
          let at_ := (lo : Int) + rdiv ((k0 + i) * tp - first) halfFs
          if (lo : Int) ≤ at_ && at_ ≤ (hi : Int) then some (at_.toNat, x.mask) else none).flatten

/-! ## The commit (R49, R55 to R60) -/

/-- Where the next phase lies: parameters of its frame, that frame's start and number, cycle, position, boundary. -/
structure PhaseAt where
  f : FrameP := {}
  f0 : Nat := 0
  no : BitVec 32 := 0
  cycle : Nat := 0
  pos : Nat := 0
  boundary : Nat := 0
deriving Repr, DecidableEq

/-- The period of the phase in progress, ns. -/
def periodNow (s : State) : Nat :=
  if s.rm.inFrame then s.rm.pNs else (s.rm.nextFrame.map (·.p)).getD s.rm.pNs

/-- The phase after the one in progress. -/
def nextPhase (s : State) : PhaseAt :=
  let b := s.tb + periodNow s * nsU
  match s.rm.nextFrame with
  | some f => { f := f, f0 := b, no := BitVec.ofNat 32 s.rm.framesStarted, cycle := 0, pos := 0, boundary := b }
  | none => { f := frameNow s, f0 := s.rm.frameStart, no := s.rm.frameNo
              cycle := if s.rm.pos = 7 then s.rm.cycle + 1 else s.rm.cycle, pos := (s.rm.pos + 1) % 8, boundary := b }

/-- The phase run at a position (R55). -/
def phaseAtPos (s : State) (pos : Nat) : Nat := bits (parN s 0x2018 0) (4 * pos + 3) (4 * pos) % 8

/-- A planned shot before its energy (R55, R59, R74, R235). -/
def blankShot (s : State) (a : PhaseAt) (d b : Nat) : Shot :=
  let p := phaseAtPos s a.pos
  let edge := a.boundary + d * nsU
  let fly := decide (a.f.nAct ≤ a.cycle)
  { em := p + 8 * b, bank := b, phase := p, pos := a.pos, cycle := a.cycle, frame := a.no, flyback := fly, f0 := a.f0, nAct := a.f.nAct
    boundary := a.boundary, planAt := s.tb, dither := d, edge := edge, w := a.f.w, p := a.f.p, theta := clampAz (predictAz s a.f a.f0 edge)
    fbDegr := s.lce.rel.inUse == 1, level := if fly then sweepLevel (a.cycle - a.f.nAct) a.no.toNat else 0 }

/-- The 60 bits a shot has in the FIRE frame: offset of the gate edge from this boundary in 0.25 ns (18 bits), width (6),
target, limit and minimum codes (12 each) (R92, R115; the packing is a DESIGN CHOICE, log entry 10). -/
def fireWord (s : State) (sh : Shot) : Nat :=
  let ofs := (sh.edge - s.tb) / 32 - (bankOf s sh.bank).advance
  ofs % 2 ^ 18 + 2 ^ 18 * (parN s 0x2400 sh.em % 64) + 2 ^ 24 * (sh.vSel % 4096) + 2 ^ 36 * (sh.vLim % 4096) +
    2 ^ 48 * (sh.vMin % 4096)

/-- The FIRE payload, at most 31 bytes: the phase whose emitters fire with a mask of the banks that do, then the words of
those banks in rising order (R55, R115; DESIGN CHOICE, log entry 10). -/
def firePayload (s : State) (fired : List Shot) : List Byte :=
  let head := (fired.headD {}).phase % 8 + 16 * ofBits 4 fun b => fired.any fun sh => sh.bank == b
  BitVec.ofNat 8 head :: leBytes ((60 * fired.length + 7) / 8) (fired.foldr (fun sh w => fireWord s sh + 2 ^ 60 * w) 0)

/-- The inhibits that end at the start of the next frame as things stand: that of a shutdown whose cause is gone, and those of
a confirming frame that has shown no fault (R311, R609, R687). -/
def inhibitsAhead (s : State) : List Inhibit :=
  let l := s.lce
  let ends := l.restartFrame && !l.frameBad && s.rm.inFrame
  s.rm.inhibits.filter fun w =>
    !((w == .shutdown && !s.thm.shutdown) || (ends && (w == .restart || w == .bothFeedback)))

/-- Charging windows whose 100 ms have passed are open from this commit (R97). -/
def reopenBanks (s : State) : State :=
  let any := (upto 4).any fun b => (bankOf s b).reopen
  let s := (upto 4).foldl (fun s b => modBank b (fun x =>
    if x.reopen then { x with reopen := false, windowClosed := false, windowOkAt := none } else x) s) s
  if any then modFld (fun c => { c with chgDieClosed := false }) s else s

/-- The charger holds the reservoir of each bank at the highest shot voltage of its next eight phases plus 4.0 V, at most
120 V. A phase that is not yet committed counts with the voltage its emitter was given last, one whose emitter is disabled with none
(DEDUCED, log entry 86), and the highest code is taken to 10 mV rounded down (DESIGN CHOICE, log entry 86) (R57, R90). -/
def resTargets (l : List Shot) (s : State) : State :=
  let s := modFld (fun c => { c with vPlan := (l.filter (·.sel)).foldl (fun b sh => bset b sh.em sh.vSel) c.vPlan }) s
  (upto 4).foldl (fun s b =>
    let top := ((upto 8).map fun p => if emEnabled s (8 * b + p) then bget 0 s.fld.vPlan (8 * b + p) else 0).foldl max 0
    modBank b (fun x => { x with vTarget := min 12000 (12000 * top / 4096 + 400) }) s) s

/-- PHASE_COMMIT: the plan of the next phase, with dither, charger targets, thresholds, blanking and the FIRE frame; values already fixed
for the next frame start hold for that frame's first phase, and so do inhibits that end at it
(R49, R54, R60, R62, R69 to R76, R82, R197, R203, R208, R687). -/
def commitPhase (s : State) : State :=
  let s := reopenBanks s
  let a := nextPhase s
  let lf := lfsr8 s.rm.lfsr
  let d := ditherCode lf a.f.d
  let level := if a.pos = 0 then s.thm.level else s.rm.levelNext
  let s := modRm (fun r => { r with lfsr := lf, ditherNext := d, levelNext := level }) (eyeSlots s)
  let base := s.dict
  let inh := s.rm.inhibits
  let v := if s.rm.nextFrame.isSome then modRm (fun r => { r with inhibits := inhibitsAhead s }) (withFixed s) else s
  let (l, v) := (upto 4).foldl (fun (acc : List Shot × State) b =>
    let sh := blankShot acc.2 a d b
    if emEnabled acc.2 sh.em then
      let (sh, v) := planShot sh (azCount (predictAz acc.2 a.f a.f0 sh.edge) acc.2)
      (acc.1 ++ [sh], v)
    else acc) ([], v)
  let v := l.foldl (fun v sh => (emChans v sh.em).foldl (fun v c =>
    modChan c (fun x => { x with thrNext := nextCodes v c }) v) v) v
  let v := modRj (fun r => { r with blankNext := (upto 4).map fun b =>
    (b, arrivals v b (a.boundary + d * nsU) (a.boundary + (a.f.p + 255) * nsU)) }) v
  let fired := l.filter fun sh => sh.skip == 0
  let s := { v with dict := base }
  let s := resTargets l (modRm (fun r => { r with planned := l, inhibits := inh }) s)
  if fired.isEmpty then s else barSend 1 0x08 (firePayload v fired) s

end Sys2Proof.Machine
end

