-- ==== Sys2Proof/Machine/Plan.lean ====
section
/-!
DEFINITION. Phase boundaries and frame starts, and the commands of Ringmaster and of frame coordination (R49 to R85, R103,
R129, R183, R206, R207, R214, R227, R233, R297, R351, R352, R444, R584, R585).
-/
namespace Sys2Proof.Machine

/-! ## A frame ends -/

/-- Window contamination of a channel at the end of a complete frame (R214). -/
def contamFrame (s : State) (p : Nat × ChanS) : State :=
  let x := p.2
  let pct := parN s 0x3040 0
  let need := parN s 0x3041 0
  let much := decide (0 < x.fired) && decide (pct * x.fired ≤ 100 * x.class6)
  let under := decide (200 * x.class6 < pct * x.fired)
  let a := if much then x.contamRun + 1 else 0
  let b := if under then x.cleanRun + 1 else 0
  let set := !x.contam && decide (need ≤ a)
  let clear := x.contam && decide (need ≤ b)
  let s := modChan p.1 (fun y => { y with contamRun := a, cleanRun := b, contam := (y.contam || set) && !clear }) s
  if set then logNow 0x1502 p.1 0 s else if clear then logNow 0x0503 p.1 0 s else s

/-- A channel belongs to a used field of the active set (R431, R444). -/
def channelInField (s : State) (c : Nat) : Bool :=
  decide (1 ≤ s.saf.setNo) && (upto 4).any fun f =>
    let d := fldDef s s.fe.active f
    fldKind s s.fe.active f != 0 && decide (fbN d 1 1 ≤ c) && decide (c ≤ fbN d 2 1)

/-- The reference check of a channel over a complete frame, for the whole of the next one; a channel of no used field of the active
set was not tested, so that it does not fail (R444). -/
def refCheck (s : State) (c : Nat) : State :=
  let x := chanOf s c
  let fail := channelInField s c && decide (x.refCnt < parN s 0x6105 0)
  if x.refFail = fail then s
  else
    let s := modChan c (fun y => { y with refFail := fail }) s
    if fail then logNow 0x4B04 c 0 s else s

/-- ADAPTIVE: the factor of each emitter and bin from the points of the frame that went before. ADAPT_STEP, E_MIN and
ENERGY_MODE are those in force in that frame, also where a new value applies at this frame start, and an aborted frame's points
count in the update that follows it (R68; DESIGN CHOICE, log entry 81). -/
def adaptUpdate (s : State) : State :=
  if parN s 0x2020 0 = 0 then modRm (fun r => { r with adaptSat := [] }) s
  else
    let step := parN s 0x2022 0
    let up := s.rm.adapt.map fun p => (p.1, if s.rm.adaptSat.contains p.1 then p.2 else min 100 (p.2 + step))
    let dn := s.rm.adaptSat.foldl (fun b k => bmod 100 b k fun a => max (parN s 0x2023 0) (a - step)) up
    modRm (fun r => { r with adapt := dn.filter (fun p => p.2 != 100), adaptSat := [] }) s

/-- ADVANCE_TRIM of bank b (R103). -/
def advanceTrim (s : State) (b : Nat) : State :=
  let x := bankOf s b
  let lim : Int := 64 * x.errN
  let a := if parB s 0x2402 0 && x.errN != 0 then
      if lim < x.errSum then min 800 (x.advance + 1) else if x.errSum < -lim then max 40 (x.advance - 1) else x.advance
    else x.advance
  modBank b (fun y => { y with advance := a, errSum := 0, errN := 0 }) s

/-- The result of zone z over its channel-shots: value and contributions (R351). -/
def zoneValue (s : State) (z : Nat) (l : List (List Int)) : Option Int × Nat :=
  let k := parFx s 0x4443 z
  let mm := fun (x : Int) => rdiv (k.m * x) ((4 * 2 ^ k.s : Nat))
  let pick := fun (i : Nat) => (l.map fun h => h.getD i 0).filter fun v => v != 0
  match parN s 0x4440 z with
  | 1 => let v := pick 3
         (some (mm (median v)), v.length)
  | 2 => let v := pick 4
         (some (mm (median v)), v.length)
  | 3 =>
    let up := decide (parI s 0x4441 (2 * z) ≤ parI s 0x4441 (2 * z + 1))
    let sorted := sortBy (fun (h : List Int) => if up then h.getD 2 0 else -(h.getD 2 0)) l
    let edge := sorted.find? fun h =>
      let shot := l.filter fun g => g.getD 0 0 == h.getD 0 0
      decide (shot.length ≤ 2 * (shot.filter fun g => g.getD 4 0 != 0).length)
    (edge.map fun h => h.getD 2 0, l.length)
  | _ => let v := pick 5
         (some (mm (v.foldl min (v.headD 0))), v.length)

/-- The value of zone z over a frame, with the frame's own ZONE parameters, and whether it is valid: a zone without a function has no valid
one (R350 to R352). -/
def zoneResult (s : State) (frame : BitVec 32) (z : Nat) : Option Int × Bool :=
  let q := { s with dict := { s.dict with inForce := s.pt.zonePars } }
  let (v, n) := zoneValue q z ((bget [] s.pt.zoneHits z).filter fun h => h.getD 6 0 == (frame.toNat : Int))
  (v, v.isSome && parN q 0x4440 z != 0 && decide (parN q 0x4444 z ≤ n))

/-- ZONE_EVALUATION of a frame at its end; the results wait for the next sample tick (R350 to R352). -/
def zonesEval (frame : BitVec 32) (s : State) : State :=
  let s := (upto 4).foldl (fun s z =>
      let x := zoneResult s frame z
      modAdc (fun a => { a with zones := bmod {} a.zones z fun y => { y with next := some (x.1.getD y.value, x.2) } }) s) s
  modPt (fun p => { p with zoneHits := p.zoneHits.map fun q => (q.1, q.2.filter fun h => h.getD 6 0 != (frame.toNat : Int)) }) s

/-- A complete frame ends (R103, R214, R237, R352, R444). -/
def frameEnds (s : State) : State :=
  let s := s.chan.foldl contamFrame s
  let s := (upto 256).foldl refCheck s
  let s := { s with chan := s.chan.map fun p => (p.1, { p.2 with fired := 0, class6 := 0, refCnt := 0 }) }
  let s := (upto 4).foldl advanceTrim s
  let old := s.rm.frameNo
  let s := closeFrame false (t64Now s) (modPt (fun p => { p with zonePars := s.dict.inForce.filter fun q => zoneKey q.1 }) s)
  if replayPending s old then modPt (fun p => { p with replayHold := true }) s else zonesEval old s

/-! ## A frame starts -/

/-- The cause bits of COORD_STATUS that lane n gives for the frame that starts now (R207, R583). -/
def coordLane (s : State) (n : Nat) : Nat :=
  let l := laneOf s n
  match l.sched with
  | none => 4
  | some p =>
    let per := s.rm.nCyc * 8 * s.rm.pNs * nsU
    let d := (aligned s n p.start - s.rm.frameT64).toInt.natAbs
    if l.st != 4 || !l.ofsValid || per < 2 * d then 4
    else b2n (p.p != s.rm.pNs || p.nCyc != s.rm.nCyc) * 8 + b2n (decide (usU < d)) * 16 + b2n (p.slot == parN s 0x3021 0) * 32

/-- COORDINATION_DECISION for the frame that starts (R207). -/
def coordDecide (s : State) : State :=
  let was := s.rj.coordStatus.getLsbD 0
  if !parB s 0x3020 0 then
    modRj (fun j => { j with coordStatus := 0 }) (modRm (fun r => { r with coordActive := false }) s)
  else
    let bad := ((upto 8).filter fun n => bit (parN s 0x3022 0) n).foldl (fun m n => m ||| coordLane s n) 0
    let st := if bad = 0 then 1 else 2 + bad
    let s := modRj (fun j => { j with coordStatus := BitVec.ofNat 8 st })
      (modRm (fun r => { r with coordActive := bad == 0 }) s)
    if was && bad != 0 then logNow 0x1501 noSrc st s else s

/-- FRAME parameters come into force with what depends on the change: dither register, mode of the engines, fire
advances, trains, banks of laws 3 and 5 (R17, R63, R103, R163, R205, R294). -/
def frameApply (s : State) : State :=
  let seed := s.dict.fixed.any fun p => p.1 == dkey 0x2013 0
  let adv := (upto 4).filter fun b => s.dict.fixed.any fun p => p.1 == dkey 0x2401 b
  let before := s
  let s := rxStarts before (putInForce s.dict.fixed 16777216 { s with dict := { s.dict with fixed := [] } })
  let s := before.dict.fixed.foldl (fun s p => cfgSend (p.1 / 256) (p.1 % 256) s) s
  let s := if seed then ditherLoad s else s
  let s := adv.foldl (fun s b => modBank b (fun x => { x with advance := parN s 0x2401 b }) s) s
  let s := modeChange (parN s 0x2C00 0 == 1) s
  let s := if parB s 0x3010 0 then s else modRj (fun j => { j with trains := [], blankNow := [], blankNext := [] }) s
  modLce (fun l => { l with laws := [3, 5].foldl (fun b n => bmod {} b n fun w => { w with bank := parN s 0x4012 n, swapped := w.swapped || w.bank != parN s 0x4012 n }) l.laws }) s

/-- The point and header streams start at the first frame start at which both their rings are enabled, with a new stream
index; in forwarding mode 1 they need no ring (R528, R586). -/
def streamStart (s : State) : State :=
  let run := s.pt.negStatus == 1 &&
    (((ringOf s (parN s 0x3801 0)).enable && (ringOf s (parN s 0x3802 0)).enable) || parN s 0x7C10 0 == 1)
  if run && !s.pt.streaming then
    modPt (fun p => { p with streaming := true, index := 0, firstIndex := 0, pointCount := 0, droppedCur := 0, truncated := false }) s
  else modPt (fun p => { p with streaming := run }) s

/-- FRAME_START: the previous frame ends, the parameters of R54 apply and the next frame opens. ENC_STATUS, which R157 defines
over the frame before, is 0 where there is none (DESIGN CHOICE, log entry 82) (R23, R52, R68, R85, R157, R207, R266, R290, R296, R297, R305, R309, R311, R435, R442). -/
def frameStart (f : FrameP) (s : State) : State :=
  let was := s.rm.inFrame
  let s := encFrameStart s
  let s := if was then (if s.tbs.encStatus != 0 then secondaryLost (modLce (fun l => { l with secFrameOk := false }) s) else s)
    else modTbs (fun c => { c with encStatus := 0 }) s
  let s := adaptUpdate s
  let s := if was then frameEnds s else s
  let s := mirrorFrameEnd was (fieldsFrameStart was s)
  let s := frameApply s
  let s := mirrorFrameStart f s
  let s := modRm (fun r => { r with
    inFrame := true, nextFrame := none, frameNo := BitVec.ofNat 32 r.framesStarted, framesStarted := r.framesStarted + 1
    pNs := f.p, wNs := f.w, gEff := f.g, dNs := f.d, nCyc := f.nCyc, nAct := f.nAct, cycle := 0, pos := 0
    frameStart := s.tb, frameT64 := t64Now s, degrade := degradeCond s, degStart := degradeCond s
    mirrorStart := s.lce.mode, mirrorWorst := s.lce.mode, throttleMin := min 255 (r.levelNext - 1), marginCharged := false
    safeSeen := s.dev == .safe, t64Loaded := false, skipCount := 0, skipMask := 0, marginCurA := 65535, marginCurB := 65535 }) s
  let s := if s.thm.shutdown then s else uninhibit .shutdown s
  let s := streamStart (marginsTake s)
  let s := (upto 256).foldl refreshStale s
  let s := (s.chan.map (·.1)).foldl setBuild s
  let s := if s.lce.injWait && parB s 0x4039 0 then modLce (fun l => { l with injWait := false, injRun := true }) s else s
  coordDecide s

/-! ## A phase opens -/

/-- The shots of a phase that opens: winners are counted, skipped shots deliver their records, and with BL1 being
switched a shot that Calliope has not taken is skipped under BARRIER (R31, R80, R81, R85). -/
def openShot (s : State) (sh : Shot) : State :=
  let s := if sh.sel then modRm (fun r => { r with winCur := bmod 0 r.winCur (winCode sh.winner) satInc }) s else s
  if sh.skip != 0 then skipShot sh sh.skip s
  else if !sh.gated && (linkOf s 1).switchUntil.isSome && !(bankOf s sh.bank).fires.any (fun f => f.em == sh.em) then
    skipShot sh 3 (markSkip sh 3 s)
  else s

/-- The shots of the phase take their codes, where no gate pulse has loaded them, and their tables, with the monitors of every
bank; the epoch steps when a commit took effect (R129, R138, R227, R232, R233). -/
def swapTables (s : State) : State :=
  let s := (s.rm.current.filter fun sh => sh.skip == 0 && !sh.gated).foldl (fun s sh => loadCodes sh s) s
  let s := (s.rm.current.filter fun sh => sh.skip == 0).foldl (fun s sh => loadTables sh s) s
  let s := (upto 4).foldl (fun s b => monSwap b s) s
  modTs (fun t => { t with
    epoch := if t.commitNow then (if t.epoch = 0xFFFF then 1 else t.epoch + 1) else t.epoch, commitNow := false }) s

/-- The epoch and the PHASE parameters of the phase that opens, in a shot of it that its bank has already fired. -/
def openFired (before : Nat) (s : State) (b : Nat) : State :=
  let f := fun (sh : Shot) => if before < sh.boundary then { sh with epoch := s.ts.epoch.toNat, pp := phaseParams s } else sh
  modBank b (fun x => { x with fired := x.fired.map f, shot := x.shot.map f }) s

/-- The monitor of bank b in the phase that opens: every second phase has a calibration interval, its line in rotation
(R225). FIRE entries whose gate edge has passed are gone (R49). -/
def openBank (s : State) (b : Nat) : State :=
  modBank b (fun x => { x with
    fires := x.fires.filter fun f => decide (s.tb ≤ f.edge)
    monCal := !x.monCal, monRotor := if x.monCal then x.monRotor else (x.monRotor + 1) % 3, monHits := 0
    monDac := parN s 0x2404 0 }) s

/-- The records without a measurement of groups that are over and owe no result any more (R172, R262). -/
def missOver (s : State) : State :=
  releaseMiss (fun m =>
    (!s.rm.inFrame || m.2.2.frame != s.rm.frameNo || decide (s.rm.nAct ≤ s.rm.cycle) ||
      decide (m.2.1 < s.rm.cycle / max (parN s 0x2C01 0) 1)) &&
    !(upto 8).any fun i => (unitReady s (8 * m.1 + i)).any fun u => u.frame == m.2.2.frame && (groupKey u).2.2 ≤ m.2.1) s

/-- A throttle that ends, ends the count of thinned camera frames (R394). -/
def thinEnd (s : State) : State :=
  { s with cam := { s.cam with ctx := s.cam.ctx.map fun p => (p.1, { p.2 with thinN := 0 }) } }

/-- The committed phase becomes the phase in progress: dither, throttle level, thresholds, blanking, tables, its shots
(R15, R49, R82, R129, R138, R203, R225); a throttle that ends, ends the count of thinned camera frames (R394). -/
def openPhase (s : State) : State :=
  let before := s.rm.boundary
  let s := modRm (fun r => { r with
    current := r.planned, planned := [], boundary := s.tb, dither := r.ditherNext, level := r.levelNext
    throttleMin := min r.throttleMin (r.levelNext - 1) }) s
  let s := if s.rm.level < 256 then s else thinEnd s
  let opens := s.tb + s.rm.dither * nsU
  let s := modRj (fun j => { j with blankNow := (upto 4).map fun b =>
    (b, (bget [] j.blankNow b).filter (fun p => decide (s.tb ≤ p.1 + usU) && decide (p.1 < opens)) ++ bget [] j.blankNext b) }) s
  let s := swapTables ((upto 4).foldl openBank s)
  let s := (upto 4).foldl (openFired before) s
  let s := modRm (fun r => { r with
    current := r.current.map (fun sh => { sh with epoch := s.ts.epoch.toNat, pp := phaseParams s })
    epochStart := if r.inFrame && r.cycle == 0 && r.pos == 0 then s.ts.epoch else r.epochStart }) s
  let s := (upto 4).foldl (fun s b => replayEarly b s) s
  let s := s.rm.current.foldl openShot s
  sparesLive (missOver s)

/-- SCHEDULE_PACKET_SEND at the boundary that opens a frame's last phase (R206, R584). -/
def sendSched (s : State) : State :=
  match s.rm.nextFrame with
  | none => s
  | some f =>
    if !parB s 0x3020 0 then s
    else
      let pl := leBytes 2 f.p ++ leBytes 2 f.nCyc ++ leBytes 2 f.nAct ++ [BitVec.ofNat 8 (parN s 0x3021 0), 0] ++
        leBytes 8 (t64At s (s.tb + s.rm.pNs * nsU)).toNat ++ leBytes 4 s.rm.framesStarted
      ((upto 8).filter fun n => bit (parN s 0x3022 0) n).foldl (fun s n => slkQueue n tySched pl s) s

/-- The cut-off: the next frame's values are fixed, with its timing and trajectory (R54, R296). -/
def cutOff (s : State) : State :=
  let s := fixFrame s
  modRm (fun r => { r with nextFrame := some (frameOf (withFixed s)) }) s

/-- Phases run: RUN or SAFE, timebase locked, no wait for a partner's schedule (R19, R46, R585). -/
def phasesRun (s : State) : Bool :=
  (s.dev == .run || s.dev == .safe) && s.tbs.lock && s.slk.syncFrom.isNone

/-- A boundary is due: P after the last one, or at the start the first one early enough for the frame start of R585. -/
def boundaryDue (s : State) : Bool :=
  if s.rm.framing then decide (s.rm.boundary + periodNow s * nsU ≤ s.tb)
  else decide (s.rm.startAt ≤ s.tb + (frameOf (withFixed (fixFrame s))).p * nsU)

/-- The phase that the next boundary opens (R55). -/
def openingPhase (s : State) : Nat :=
  if s.rm.nextFrame.isSome then phaseAtPos (withFixed s) 0 else phaseAtPos s ((s.rm.pos + 1) % 8)

/-- PHASE values come into force at a boundary: CAL_SPAN_DRIFT and CAL_SPAN_LIMIT only for the channel sets whose phase it opens,
the others keep the old ones until their own boundary (R15). -/
def phaseApply (s : State) : State :=
  let old := fun (s : State) (e : Nat) => spanPar s (8 * e)
  let n := applyHeld .phase s
  let opens := fun (e : Nat) => s.rm.framing && e % 8 == openingPhase s
  modTs (fun c => { c with spanOld := (upto 32).foldl (fun b e =>
    if opens e || old s e = (parN n 0x3405 0, parN n 0x3404 0) then bdel b e else bset b e (old s e)) c.spanOld }) n

/-- Shots of the phase in progress that were planned and that no gate pulse fired are counted at the boundary that ends it, under
INHIBIT or else BARRIER, their FIRE entry not having come in time (R80; DESIGN CHOICE, log entry 98). -/
def missedShots (s : State) : State :=
  (s.rm.current.filter fun sh => sh.skip == 0 && !sh.gated).foldl (fun s sh =>
    let cause := if firingInhibited s then 1 else 3
    skipShot sh cause (markSkip sh cause s)) s

/-- The position moves to the phase that opens. -/
def advancePos (s : State) : State :=
  modRm (fun r => if r.pos = 7 then { r with pos := 0, cycle := r.cycle + 1 } else { r with pos := r.pos + 1 }) s

/-- PHASE_BOUNDARY: marker, parameters, replicas, frame start or the next position, the phase that opens, and the commit of
the one after it; in CONFIG the shots stop here (R561). The first boundary after the start commits the first frame's first
phase; PHASE_POS, which R85 does not give for the time up to that frame, is 7 in it (DESIGN CHOICE, log entry 83) (R49 to R63,
R114, R227). -/
def execPhaseBoundary (t : Nat) (replica : List (Fin 260 × Nat)) (s : State) : Host.Outcome State Fault Refusal :=
  let s := s.start t
  if !boundaryDue s then done s
  else if s.rm.framing && (s.dev == .config || s.rm.stopNext) then done (stopPhases (t64Now s) s)
  else if !phasesRun s then done s
  else
    let s := barSymbol 1 1 s
    let s := (upto 4).foldl (fun s b => modBank b (fun x => { x with markerUsed := false }) s) s
    let s := replica.foldl replicaMeasure (phaseApply (missedShots (encSettle s)))
    if !s.rm.framing then
      let s := modRm (fun r => { r with framing := true, boundary := s.tb, pos := 7, planned := [], current := [] }) s
      done (commitPhase (cutOff s))
    else
      let s := match s.rm.nextFrame with
        | some f => frameStart f s
        | none => advancePos s
      let s := openPhase s
      let s := if s.rm.cycle + 1 == s.rm.nCyc && s.rm.pos == 7 then sendSched (cutOff s) else s
      done (commitPhase s)

/-- EYE_SLOT_BOUNDARY: a new accounting slot begins at a whole multiple of the slot length (R75). -/
def execEyeSlotBoundary (t : Nat) (long : Bool) (s : State) : Host.Outcome State Fault Refusal :=
  let s := s.start t
  match s.rm.table with
  | none => done s
  | some tab =>
    let len := if long then slotLenB tab else slotLenA tab
    if len != 0 && (s.tb - s.rm.gridAt) % len == 0 then done (eyeSlots s) else done s

/-- EYE_TABLE_ECC_ERROR: firing is inhibited, a SAFE cause arises that only a FULL reset removes, entry 0x4101 (R78). -/
def execEyeTableEccError (t : Nat) (s : State) : Host.Outcome State Fault Refusal :=
  let s := modRm (fun r => { r with eyeEcc := true }) (s.start t)
  done (logNow 0x4101 noSrc 0 (safeCause .eyeEcc (inhibit .eyeEcc s)))

/-- A natural number from bytes of a payload. -/
def payN (pl : List Byte) (i n : Nat) : Nat := ofLe ((pl.drop i).take n)

/-- The first frame start that a partner's schedule allows: at least 8P after entry to RUN and not past, a whole number of its frame
periods after its announced start (R585). -/
def syncInstant (s : State) (n : Nat) (x : Sched) (entry : Nat) : Nat :=
  let per := max (x.nCyc * 8 * x.p * nsU) 1
  let start : Int := (s.tb : Int) + (aligned s n x.start - t64Now s).toInt
  let least : Int := max (entry + 8 * x.p * nsU) s.tb
  (start + (-((start - least) / per)) * per).toNat

/-- SCHED: a partner's schedule in order is kept; on the lane of SLK_SYNC_LANE one with P and N_CYC equal to its own places
the first frame start (R573, R583 to R585). -/
def execSched (t : Nat) (lane : Fin 8) (rx : SlkRx) (payload : List Byte) (s : State) :
    Host.Outcome State Fault Refusal :=
  let (ok, s) := slkTake lane rx (s.start t)
  if !ok || payload.length != 20 then done s
  else
    let x : Sched := { p := payN payload 0 2, nCyc := payN payload 2 2, nAct := payN payload 4 2, slot := payN payload 6 1
                       start := BitVec.ofNat 64 (payN payload 8 8), frameNo := BitVec.ofNat 32 (payN payload 16 4) }
    if !(laneOf s lane).ofsValid then done s
    else
      let s := modLane lane (fun l => { l with sched := some x }) s
      match s.slk.syncFrom with
      | none => done s
      | some e =>
        let f := frameOf (withFixed (fixFrame s))
        if parN s 0x7C0C 0 = lane.val && x.p == f.p && x.nCyc == f.nCyc then
          let at_ := syncInstant s lane x e
          done (modRm (fun r => { r with startAt := at_ })
            { s with slk := { s.slk with syncFrom := none, syncAt := some at_ } })
        else done s

/-- SYNC_TIMEOUT: no such schedule within 1 s, the frame starts without alignment (R585). -/
def execSyncTimeout (t : Nat) (s : State) : Host.Outcome State Fault Refusal :=
  let s := s.start t
  match s.slk.syncFrom with
  | none => done s
  | some e =>
    if e + secU ≤ s.tb then
      done (modRm (fun r => { r with startAt := 0 }) { s with slk := { s.slk with syncFrom := none, syncAt := none } })
    else done s

/-- TB_LOSS_OF_LOCK: lock lost, or no reference edge for 1 µs: firing is inhibited, the frame is closed with ABORTED,
phases stop and the device enters SAFE (R46, R134, R265, R447). -/
def execTbLossOfLock (t : Nat) (ref : Bool) (s : State) : Host.Outcome State Fault Refusal :=
  let s := s.start t
  let last := t64Now s - 1
  let s := modTbs (fun c => { c with lock := false, refOk := c.refOk && !ref }) s
  let s := stopPhases last (inhibit .tbLoss s)
  done (logNow 0x3303 noSrc 0 (safeCause .tbLoss s))

/-- REPLAY_HOLD_RELEASE: the replay of the last frame's shots has ended, the next frame's records go on, and the zones of
that frame are computed (R264, R352). -/
def execReplayHoldRelease (t : Nat) (s : State) : Host.Outcome State Fault Refusal :=
  let s := s.start t
  if s.pt.replayHold && !replayPending s (s.rm.frameNo - 1) then
    done (zonesEval (s.rm.frameNo - 1) (modPt (fun p => { p with
      replayHold := false, results := p.results.map fun r =>
        if r.frame == s.rm.frameNo - 1 then r else { r with closeAt := 0 } }) s))
  else done s

end Sys2Proof.Machine
end

