-- ==== Sys2Proof/Machine/Thermal.lean ====
section
/-!
DEFINITION. The thermal model, sensors, throttle, shutdown, core supply and the field-side supplies (R598 to R612, R648).
-/
namespace Sys2Proof.Machine

/-- The thermal model and power changed. -/
def modThm (f : ThmS → ThmS) (s : State) : State := { s with thm := f s.thm }
/-- Sensor TSk. -/
def sensOf (s : State) (k : Nat) : SensS := bget {} s.thm.sens k
/-- Sensor TSk changed. -/
def modSens (k : Nat) (f : SensS → SensS) (s : State) : State := modThm (fun x => { x with sens := bmod {} x.sens k f }) s
/-- Temperature of a model node, 0.001 °C. -/
def nodeT (s : State) (k : Nat) : Int := bget 25000 s.thm.node k

/-- T_die_min: the lowest temperature of nodes 0 to 19 (R604). -/
def dieMin (s : State) : Int := (upto 20).foldl (fun m k => min m (nodeT s k)) (nodeT s 0)

/-- Any sensor is broken (R600). -/
def sensorBroken (s : State) : Bool := s.thm.sens.any fun p => p.2.broken

/-- T_thr, 0.001 °C (R605). -/
def tThr (s : State) : Int := if sensorBroken s then max (dieMax s) 125000 else dieMax s

/-- The target level L_t (R605). -/
def throttleTarget (s : State) : Nat :=
  let t := tThr s
  if t ≤ 115000 then 256 else if 125000 ≤ t then 64 else (256 - 192 * (t - 115000) / 10000).toNat

/-- A temperature in 0.1 °C as two's complement of 16 bits. -/
def deciBits (v : Int) : Nat := (rdiv v 100 % 65536).toNat

/-- The flash-write window of R610: die between -25 °C and +105 °C. -/
def flashWindow (s : State) : Bool := decide (-25000 ≤ dieMin s) && decide (dieMax s ≤ 105000)

/-- The model node of each sensor (R598). -/
def sensNode (k : Nat) : Nat := [1, 5, 9, 12, 14, 15, 16, 18, 22, 23].getD k 0
/-- The measurement channel of TS8 and TS9 (R598). -/
def sensMeas (s : State) (k : Nat) : Nat := if k = 8 then parN s 0x7006 0 else parN s 0x2427 0

/-- Level sources 448 to 450 follow their conditions (R616). -/
def thermalLevels (s : State) : State :=
  let lvl := fun (n : Nat) (on : Bool) (s : State) =>
    if on == s.eic.level.getLsbD n then s else if on then eicAssert n s else eicDeassert n s
  lvl 450 s.thm.shutdown (lvl 449 (sensorBroken s) (lvl 448 (decide (s.thm.level < 256)) s))

/-! ## The model step -/

/-- Power of island n over a step with c handshakes, mW (R602). -/
def islandPower (n c : Nat) : Nat := Config.islandEnergy n * c / 100000000

/-- Temperatures of nodes 0 to 21 after the step (R601, R602). -/
def thermalNodes (s : State) : Bank Int :=
  let t := (upto 24).map (nodeT s)
  let p := (upto 16).map fun k =>
    nsum ((s.thm.power.filter fun q => Config.islandNode q.1 % 16 == k).map (·.2)) + Config.leakage k (nodeT s k) s.thm.vid
  (upto 22).map fun k => (k, Config.thermNode k t p s.fld.fldPower (parN s 0x7007 0))

/-- Power of the core die, mW: islands and leakage (R602, R618). -/
def corePower (s : State) : Nat :=
  nsum (s.thm.power.map (·.2)) + nsum ((upto 16).map fun k => Config.leakage k (nodeT s k) s.thm.vid)

/-- The condition of R599 that holds for TSk at this step, 0 for none: 1 range, 2 rate, 3 measurement broken, 4
plausibility, 5 no reading; dn is the change of its node, plaus since when it is implausible. -/
def sensCause (s : State) (k : Nat) (dn : Int) (plaus : Option Nat) : Nat :=
  if 8 ≤ k then (if (measOf s (sensMeas s k)).broken then 3 else 0)
  else
    let x := sensOf s k
    if !x.seen then (if x.at_ + msU ≤ s.tb then 5 else 0)
    else if x.t < -50000 || decide (150000 < x.t) then 1
    else if 5000 < ((x.t - x.prev) - dn).natAbs then 2
    else if (match plaus with
      | some f => decide (f + 100 * msU ≤ s.tb)
      | none => false) then 4
    else if x.at_ + msU ≤ s.tb then 5
    else 0

/-- TSk is tested against the node temperatures before (old) and after the step; a change into the broken state is
logged, and the second without a condition that its return needs runs (R599, R600). -/
def sensTest (old : Bank Int) (s : State) (k : Nat) : State :=
  let x := sensOf s k
  let node := nodeT s (sensNode k)
  let plaus := if k < 8 && x.seen && decide (1000 * parN s 0x7008 0 < (x.t - node).natAbs) then some (x.plausFrom.getD s.tb) else none
  let c := sensCause s k (node - bget 25000 old (sensNode k)) plaus
  let s := modSens k (fun y => { y with
    plausFrom := plaus, prev := x.t, broken := x.broken || c != 0
    okFrom := if c != 0 then none else if x.broken then some (x.okFrom.getD s.tb) else none }) s
  if c != 0 && !x.broken then logNow 0x1D03 k c s else s

/-- A sensor in service moves its node towards its reading by 1 percent of the difference, its total correction held to
THM_CORR_MAX; nodes 22 and 23 take the readings of TS8 and TS9 while these give one, keep the last one otherwise, and
take the lid's temperature before the first (R601, R603). -/
def sensCorrect (s : State) (k : Nat) : State :=
  let x := sensOf s k
  let n := sensNode k
  if k < 8 then
    if x.broken || !x.seen then s
    else
      let lim : Int := 1000 * parN s 0x7009 0
      let c := clampI (-lim) lim (x.corr + rdiv (x.t - nodeT s n) 100)
      modSens k (fun y => { y with corr := c })
        (modThm (fun y => { y with node := bset y.node n (nodeT s n + (c - x.corr)) }) s)
  else
    let m := measOf s (sensMeas s k)
    if m.pending || x.broken || m.broken then
      if x.seen then s else modThm (fun y => { y with node := bset y.node n (nodeT s 21) }) s
    else modSens k (fun y => { y with t := m.value, at_ := s.tb, seen := true })
      (modThm (fun y => { y with node := bset y.node n m.value }) s)

/-- Pairs of die sensors in service that both read 135 °C or more within 5 °C of each other (R608). -/
def hotPairsNow (s : State) : List Nat :=
  let hot := fun (k : Nat) => !(sensOf s k).broken && (sensOf s k).seen && decide (135000 ≤ (sensOf s k).t)
  ((upto 8).map fun i => ((upto 8).filter fun j => decide (i < j) && hot i && hot j &&
    decide (((sensOf s i).t - (sensOf s j).t).natAbs ≤ 5000)).map fun j => 8 * i + j).flatten

/-- The device shuts down; by says whether the sensors' condition did it (R609). -/
def shutdown (by_ : Bool) (s : State) : State :=
  let s := modThm (fun x => { x with shutdown := true, coolFrom := none, shutdowns := satInc x.shutdowns }) s
  let s := modFld (fun c => { c with shutdownStop := true }) (inhibit .shutdown s)
  logNow 0x3D05 noSrc (b2n by_ + 65536 * deciBits (dieMax s)) (safeCause .shutdown s)

/-- The conditions of R608, and the 10 s of R609 while neither holds at 110 °C or less. -/
def shutdownTest (s : State) : State :=
  let now := hotPairsNow s
  let s := modThm (fun x => { x with hotPairs := now.map fun k => (k, bget s.tb x.hotPairs k) }) s
  let model := decide (135000 ≤ dieMax s)
  let pair := s.thm.hotPairs.any fun p => decide (p.2 + msU ≤ s.tb)
  if model || pair then
    if s.thm.shutdown then modThm (fun x => { x with coolFrom := none }) s else shutdown (!model) s
  else if s.thm.shutdown && decide (dieMax s ≤ 110000) then
    modThm (fun x => { x with coolFrom := some (x.coolFrom.getD s.tb) }) s
  else modThm (fun x => { x with coolFrom := none }) s

/-- STORE_STOPPED: the die leaves the flash-write window during a Store (R566). -/
def storeStop (s : State) : State :=
  if s.xi.storing.isSome && !flashWindow s then
    logNow 0x1E03 noSrc 0 { s with xi := { s.xi with storing := none, storeSt := 3 } }
  else s

/-- THERMAL_MODEL_STEP: die holds the conversions of TS0 to TS5 since the last step in 0.001 °C, counts the handshakes of
islands. The nodes advance, sensors are tested and correct their nodes, and shutdown, charging windows, a Store and the
interrupt levels follow (R96, R566, R598 to R604, R608, R616). -/
def execThermalModelStep (t : Nat) (die : List (Fin 6 × Int)) (counts : List (Fin 132 × Nat)) (s : State) :
    Host.Outcome State Fault Refusal :=
  let s := s.start t
  if !periodDue s.thm.modelAt (100 * usU) s.tb then done s
  else
  let s := modThm (fun x => { x with modelAt := some s.tb }) s
  let s := die.foldl (fun s d => modSens d.1 (sensTake d.2 s.tb) s) s
  let s := modThm (fun x => { x with
    counts := counts.foldl (fun b c => bset b c.1 c.2) [], power := counts.foldl (fun b c => bset b c.1 (islandPower c.1 c.2)) []
 }) s
  let old := s.thm.node
  let next := thermalNodes s
  let s := modThm (fun x => { x with powCore := corePower s, node := next.foldl (fun b p => bset b p.1 p.2) x.node }) s
  let s := (upto 10).foldl (sensTest old) s
  let s := (upto 10).foldl sensCorrect s
  done (thermalLevels (storeStop (windowChecks (shutdownTest s))))

/-- SENSOR_RESTORED: a broken sensor returns after 1 s in which no condition held (R599, R600). -/
def execSensorRestored (t : Nat) (k : Fin 10) (s : State) : Host.Outcome State Fault Refusal :=
  let s := s.start t
  let x := sensOf s k
  match x.okFrom with
  | none => done s
  | some f =>
    if x.broken && decide (f + secU ≤ s.tb) then
      done (thermalLevels (logNow 0x0D04 k 0 (modSens k (fun y => { y with broken := false, okFrom := none }) s)))
    else done s

/-- SHUTDOWN_CLEARED: 10 s at or below 110 °C without a condition of R608; the cause is removed, the chargers go on, and
firing resumes at the next frame start (R609, R687). -/
def execShutdownCleared (t : Nat) (s : State) : Host.Outcome State Fault Refusal :=
  let s := s.start t
  match s.thm.coolFrom with
  | none => done s
  | some f =>
    if s.thm.shutdown && decide (f + 10 * secU ≤ s.tb) then
      let s := modThm (fun x => { x with shutdown := false, coolFrom := none }) s
      let s := modFld (fun c => { c with shutdownStop := false }) (safeClear .shutdown s)
      done (thermalLevels (logNow 0x0D06 noSrc 0 s))
    else done s

/-- THROTTLE_STEP: every 40 µs the level moves by one towards its target, with the entries of R607 (R394, R606, R607).
The level lowers the shot rate and the camera frame rates only: when the device widens binning or shortens the window is left
open by R38, and the model never does (DESIGN CHOICE, log entry 89). -/
def execThrottleStep (t : Nat) (s : State) : Host.Outcome State Fault Refusal :=
  let s := s.start t
  if s.tb < s.thm.stepAt + 40 * usU then done s
  else
    let l := s.thm.level
    let goal := throttleTarget s
    let n := if l < goal then l + 1 else if goal < l then l - 1 else l
    let s := modThm (fun x => { x with level := n, stepAt := s.tb }) s
    if l = 256 && decide (n < 256) then
      done (thermalLevels (logNow 0x2D01 noSrc (deciBits (tThr s)) (modThm (fun x => { x with throttleAt := some s.tb }) s)))
    else if l < 256 && n == 256 then
      done (thermalLevels (logNow 0x0D02 noSrc (deciBits (tThr s)) (modThm (fun x => { x with
        throttleAt := none, throttled := x.throttled + (s.tb - x.throttleAt.getD s.tb) }) (if s.rm.framing then s else thinEnd s))))
    else done s

/-- VCORE_ADJUST: full says that an island's input queue stayed more than 85 percent full over 100 µs, idle that none
exceeded 50 percent for 10 ms; in adaptive mode the VID code moves by one, at most once in 100 µs (R611, R612, R616). -/
def execVcoreAdjust (t : Nat) (full idle : Bool) (s : State) : Host.Outcome State Fault Refusal :=
  let s := s.start t
  let v := s.thm.vid
  let n := if full then min 15 (v + 1) else if idle then v - 1 else v
  if parN s 0x7010 0 != 0 || decide (s.tb < s.thm.vidAt + 100 * usU) || n == v then done s
  else done (eicEdge 451 (emit (.ball "VID" n) (modThm (fun x => { x with vid := n, vidAt := s.tb }) s)))

/-! ## Field-side supplies (R648) -/

/-- VMACH_LOW: VMACH reads v, in 10 mV, below 8.0 V: outputs off, SAFE, entry 0x3D07 (R648). -/
def execVmachLow (t : Nat) (v : Nat) (s : State) : Host.Outcome State Fault Refusal :=
  let s := s.start t
  if s.thm.vmachLow || decide (800 ≤ v) then done (modThm (fun x => { x with vmach := v }) s)
  else
    let s := modThm (fun x => { x with vmach := v, vmachLow := true }) s
    let s := safeCause .vmachLow ((upto 4).foldl (fun s n => outOff n s) s)
    done (logNow 0x3D07 noSrc (v % 65536) (evalOutputs s))

/-- VMACH_RESTORED: at or above 8.5 V for 100 ms (R648). -/
def execVmachRestored (t : Nat) (v : Nat) (s : State) : Host.Outcome State Fault Refusal :=
  let s := s.start t
  let back := s.thm.vmachLow && decide (850 ≤ v)
  let s := modThm (fun x => { x with vmach := v, vmachLow := x.vmachLow && !back }) s
  done (if back then logNow 0x0D08 noSrc (v % 65536) (safeClear .vmachLow s) else s)

/-- VHV_IN_LOW: VHV_IN reads v, in 10 mV, below 10.0 V: Calliope stops the chargers (R648). -/
def execVhvInLow (t : Nat) (v : Nat) (s : State) : Host.Outcome State Fault Refusal :=
  let s := s.start t
  if s.thm.vhvLow || decide (1000 ≤ v) then done (modThm (fun x => { x with vhv := v }) s)
  else
    done (logNow 0x1D09 noSrc (v % 65536)
      (modFld (fun c => { c with chargersStopped := true }) (modThm (fun x => { x with vhv := v, vhvLow := true }) s)))

/-- VHV_IN_RESTORED: at or above 10.5 V for 10 ms: charging resumes (R648). -/
def execVhvInRestored (t : Nat) (v : Nat) (s : State) : Host.Outcome State Fault Refusal :=
  let s := s.start t
  let back := s.thm.vhvLow && decide (1050 ≤ v)
  let s := modThm (fun x => { x with vhv := v, vhvLow := x.vhvLow && !back }) s
  done (if back then logNow 0x0D0A noSrc (v % 65536) (modFld (fun c => { c with chargersStopped := false }) s) else s)

end Sys2Proof.Machine
end

