-- ==== Sys2Proof/Machine/Flash.lean ====
section
/-!
DEFINITION. Flash: the boot selector, copy records, packages and their checks, security counters, the eye-safety table
and the safety set in a payload, set rules, the parameter journal (R412, R432, R564, R619 to R627, R634 to R637, R642).
-/
namespace Sys2Proof.Machine

/-- Update changed. -/
def modUpd (f : UpdS → UpdS) (s : State) : State := { s with upd := f s.upd }

/-! ## Records -/

/-- Bits [31:24] read 0x5A (R620). -/
def recordOk (w : BitVec 32) : Bool := w.toNat / 16777216 == 0x5A
/-- Generation of a record. -/
def recGen (w : BitVec 32) : Nat := w.toNat % 65536
/-- TRIAL of a record. -/
def recTrial (w : BitVec 32) : Nat := bits w.toNat 19 16
/-- Slot of a record, 0 A, 1 B. -/
def recSlot (w : BitVec 32) : Nat := bits w.toNat 23 23

/-- A record (R620). -/
def mkRecord (slot trial gen : Nat) : BitVec 32 :=
  BitVec.ofNat 32 (0x5A * 16777216 + slot % 2 * 8388608 + trial % 16 * 65536 + gen % 65536)

/-- Generation a is later than b under 16-bit modular comparison (R620). -/
def laterGen (a b : Nat) : Bool := let d := (a + 65536 - b % 65536) % 65536; decide (0 < d) && decide (d < 32768)

/-- Which of two copies is in force, with its record: the valid one of later generation (R620, R621). -/
def inForceOf (a b : Option (BitVec 32)) : Option (Nat × BitVec 32) :=
  match a.filter recordOk, b.filter recordOk with
  | none, none => none
  | some x, none => some (0, x)
  | none, some y => some (1, y)
  | some x, some y => if laterGen (recGen y) (recGen x) then some (1, y) else some (0, x)

/-- The next record of two copies and the copy it is written into: generation plus 1, the copy not in force (R620,
R621); with no valid copy generation 1 in copy 0 (DESIGN CHOICE, log entry 22). -/
def nextRecord (a b : Option (BitVec 32)) (slot trial : Nat) : Nat × BitVec 32 :=
  match inForceOf a b with
  | none => (0, mkRecord slot trial 1)
  | some (c, w) => (1 - c, mkRecord slot trial (recGen w + 1))

/-- The boot selector record in force (R620). -/
def selRecord (s : State) : Option (Nat × BitVec 32) := inForceOf s.upd.sel0 s.upd.sel1

/-- A new boot selector record (R620). -/
def selWrite (slot trial : Nat) (s : State) : State :=
  let (c, w) := nextRecord s.upd.sel0 s.upd.sel1 slot trial
  modUpd (fun u => if c = 0 then { u with sel0 := some w } else { u with sel1 := some w }) s

/-- Image slot k (R619). -/
def slotPkg (s : State) (k : Nat) : Pkg := bget {} s.upd.slots k
/-- Copy c of the eye-safety table. -/
def eyePkg (s : State) (c : Nat) : Pkg := bget {} s.upd.eyeCopies c
/-- Copy c of safety set n. -/
def setPkg (s : State) (n c : Nat) : Pkg := bget {} s.upd.setCopies (2 * n + c)
/-- The eye-table copy in force (R621). -/
def eyeInForce (s : State) : Option (Nat × BitVec 32) := inForceOf (eyePkg s 0).rec_ (eyePkg s 1).rec_
/-- The copy of safety set n in force (R621). -/
def setInForce (s : State) (n : Nat) : Option (Nat × BitVec 32) := inForceOf (setPkg s n 0).rec_ (setPkg s n 1).rec_

/-! ## Packages -/

/-- n bytes of a header from an offset, little-endian (R622). -/
def hdrN (h : List Byte) (ofs n : Nat) : Nat := ofLe ((h.drop ofs).take n)
/-- TYPE of a header. -/
abbrev hdrType (h : List Byte) : Nat := hdrN h 6 1
/-- FW_VERSION of a header. -/
abbrev hdrFw (h : List Byte) : Nat := hdrN h 12 4
/-- SEC_VERSION of a header. -/
abbrev hdrSec (h : List Byte) : Nat := hdrN h 16 4
/-- TARGET of a header. -/
abbrev hdrTarget (h : List Byte) : Nat := hdrN h 20 1
/-- PAYLOAD_LEN of a header. -/
abbrev hdrLen (h : List Byte) : Nat := hdrN h 24 4
/-- KEY_ID of a header. -/
abbrev hdrKey (h : List Byte) : Nat := hdrN h 28 4
/-- GROUP_VER of group g. -/
def hdrGroupVer (h : List Byte) (g : Nat) : Nat := if g < 40 then hdrN h (112 + 2 * g) 2 else 0

/-- Largest payload of a type (R622). -/
def maxPayload : Nat → Nat
  | 1 => 25099776
  | 2 => 458240
  | 3 => 196096
  | _ => 0

/-- The header checks made when byte 511 arrives (R634, reason 1 of R635); a TARGET outside 1 to 15 fails for type 3
(DEDUCED, log entry 23). -/
def headerOk (h : List Byte) : Bool :=
  hdrN h 0 4 == 0x4B505A44 && hdrN h 4 2 == 0x0100 && decide (1 ≤ hdrType h) && decide (hdrType h ≤ 3) &&
  hdrN h 8 2 == 0x4256 && decide (hdrN h 10 1 ≤ Config.steppingCore.toNat) &&
  decide (Config.steppingCore.toNat ≤ hdrN h 11 1) && decide (hdrLen h ≤ maxPayload (hdrType h)) &&
  ((h.drop 192).take 16 == Config.serial) &&
  (hdrType h != 3 || (decide (1 ≤ hdrTarget h) && decide (hdrTarget h ≤ 15)))

/-- KEY_ID known and not revoked (R625). -/
def keyOk (s : State) (h : List Byte) : Bool := decide (hdrKey h < 4) && !s.upd.revoked.getLsbD (hdrKey h)

/-- The header's signature (R622, R625). -/
def sigValid (s : State) (h : List Byte) : Bool := keyOk s h && Config.sigOk (hdrKey h) (h.take 416) ((h.drop 416).take 96)

/-- PAYLOAD_HASH of the payload as stored (R622). -/
def hashOk (p : Pkg) : Bool := Config.sha384 p.body == (p.head.drop 32).take 48

/-- The additional authenticated data: bytes 0 to 415 with the TAG field taken as 0 (R623). -/
def aadOf (h : List Byte) : List Byte := h.take 92 ++ List.replicate 16 0 ++ (h.drop 108).take 308

/-- The GCM tag (R623). -/
def tagOk (p : Pkg) : Bool :=
  Config.gcmTag ((p.head.drop 80).take 12) (aadOf p.head) p.body == (p.head.drop 92).take 16

/-- What the device decrypts from a package (R623). -/
def plainOf (p : Pkg) : List Byte := Config.decrypt ((p.head.drop 80).take 12) p.body

/-- The security counter of a type: the last word programmed (R626). -/
def secCounter (s : State) (ty : Nat) : Nat := (bget [] s.upd.counters ty).getLast?.getD 0
/-- Unused words of the counter of a type. -/
def secWordsLeft (s : State) (ty : Nat) : Nat := 64 - (bget [] s.upd.counters ty).length

/-- The counter of a type raised to a version higher than it (R627). -/
def raiseCounter (ty v : Nat) (s : State) : State :=
  if secCounter s ty < v && decide (0 < secWordsLeft s ty) then
    modUpd (fun u => { u with counters := bmod [] u.counters ty fun l => l ++ [v] }) s
  else s

/-! ## The eye-safety table -/

/-- A run of n values of w bytes from bytes, at keys k, k + 1, … . -/
def eyeNats (l : List Byte) (w k : Nat) : Nat → Bank Nat
  | 0 => []
  | n + 1 => (k, ofLe (l.take w)) :: eyeNats (l.drop w) w (k + 1) n

/-- 32 rows of n bins of four bytes, at keys 1024 e + bin. -/
def eyeRows (l : List Byte) (n e : Nat) : Nat → Bank Nat
  | 0 => []
  | m + 1 => eyeNats l 4 (1024 * e) n ++ eyeRows (l.drop (4 * n)) n (e + 1) m

/-- n FX32 numbers from bytes, at keys k, k + 1, … . -/
def eyeFx (l : List Byte) (k : Nat) : Nat → Bank FX
  | 0 => []
  | n + 1 => (k, { m := signed 32 (ofLe (l.take 4)), s := (l.getD 4 0).toNat }) :: eyeFx (l.drop 5) (k + 1) n

/-- The table in a payload: the fields of R72 in their order, sizes and units as the parameters that show them (DEDUCED,
log entry 24); none unless the CRC-32 over the preceding fields matches. -/
def eyeTable (l : List Byte) : Option EyeTable :=
  let n := ofLe ((l.drop 6).take 2)
  let q := l.drop 18
  let a := q.drop 128
  let b := a.drop (128 * n)
  let k := b.drop (128 * n)
  let z := k.drop 160
  let len := 18 + 128 + 256 * n + 160 + 5
  if l.length < len + 4 || ofLe ((l.drop len).take 4) != (crc32 (l.take len)).toNat then none
  else some {
    tableId := BitVec.ofNat 32 (ofLe (l.take 4))
    binWidth := ofLe ((l.drop 4).take 2)
    nBin := n
    azBin0 := signed 16 (ofLe ((l.drop 8).take 2))
    tA := ofLe ((l.drop 10).take 4)
    tB := ofLe ((l.drop 14).take 4)
    qPulse := eyeNats q 4 0 32
    qA := eyeRows a n 0 32
    qB := eyeRows b n 0 32
    kE := eyeFx k 0 32
    vTol := ofLe (z.take 1)
    uPri := ofLe ((z.drop 1).take 2)
    uSec := ofLe ((z.drop 3).take 2) }

/-- The eye-safety table of a stored package: its copy record, signature, hash and tag must hold (R621, R72, R78). -/
def eyeOf (s : State) (p : Pkg) : Option EyeTable :=
  if sigValid s p.head && hashOk p && tagOk p then eyeTable (plainOf p) else none

/-- The eye-safety table that flash holds (R621, R78). -/
def eyeStored (s : State) : Option EyeTable := (eyeInForce s).bind fun r => eyeOf s (eyePkg s r.1)

/-- A table comes into force; the accounts go to their limit when its grid differs from the previous one (R77, R636). -/
def eyeAccept (t : EyeTable) (s : State) : State :=
  let same := match s.rm.table with
    | none => false
    | some o => o.binWidth == t.binWidth && o.nBin == t.nBin && o.azBin0 == t.azBin0 && o.tA == t.tA && o.tB == t.tB
  let s := modRm (fun r => { r with table := some t }) s
  if same then s else eyeGrid s

/-! ## Journal records -/

/-- One entry of a group record: PARAM, SUB, length, value (R564). -/
def encEntry (p : Nat × DVal) : List Byte :=
  let v := keyBytes p.1 p.2
  leBytes 2 (p.1 / 256) ++ leBytes 1 (p.1 % 256) ++ leBytes 2 v.length ++ v

/-- A group record (R564). -/
def encGroup (g ver : Nat) (l : List (Nat × DVal)) : List Byte :=
  leBytes 1 g ++ leBytes 2 ver ++ leBytes 2 l.length ++ (l.map encEntry).flatten

/-- n entries from bytes, those the dictionary knows; with the rest of the bytes, none when they run short. -/
def decEntries : Nat → List Byte → Option (List (Nat × DVal) × List Byte)
  | 0, l => some ([], l)
  | n + 1, l =>
    let k := ofLe (l.take 2) * 256 + ofLe ((l.drop 2).take 1)
    let len := ofLe ((l.drop 3).take 2)
    if l.length < 5 + len then none
    else match decEntries n (l.drop (5 + len)) with
      | none => none
      | some (es, r) =>
        match dictFind (k / 256) (k % 256) with
        | none => some (es, r)
        | some row => some ((k, decVal row.ty ((l.drop 5).take len)) :: es, r)

/-- The group of a parameter number (R543). -/
def groupOfNum (num : Nat) : Nat :=
  if 0x6000 ≤ num && num < 0x6800 then 0x18 else num / 1024

/-- The entry is stored by Store: access RW or RWC (R544). -/
def rowStored (r : DRow) : Bool := match r.acc with | .rw | .rwc => true | _ => false

/-- The entry of a key is stored by Store. -/
def keyStored (k : Nat) : Bool := match dictFind (k / 256) (k % 256) with | some r => rowStored r | none => false

/-- The entry of a key belongs to the sealed set. -/
def keySealed (k : Nat) : Bool := match dictFind (k / 256) (k % 256) with | some r => r.acc == .rws | none => false

/-- The apply time of a key is RST. -/
def keyRst (k : Nat) : Bool := match dictFind (k / 256) (k % 256) with | some r => r.app == .rst | none => false

/-- The format version of group g that the running image writes and expects (R564, R641); 0x0100 where its header names
none (DEDUCED, log entry 25). -/
def groupVer (s : State) (g : Nat) : Nat :=
  let v := hdrGroupVer (slotPkg s s.upd.running).head g
  if v = 0 then 0x0100 else v

/-! ## Safety sets -/

/-- The payload of a set (R624): format version, two zeros, the group record, CRC-32, N and three zeros. -/
def encSet (ver n : Nat) (l : List (Nat × DVal)) : List Byte :=
  let b := leBytes 2 ver ++ [0, 0] ++ encGroup 0x18 ver l
  b ++ leBytes 4 (crc32 b).toNat ++ leBytes 1 n ++ [0, 0, 0]

/-- A set read from its payload: format version, entries, whether its CRC matches, its number, its CRC (R624). -/
def decSet (l : List Byte) : Option (Nat × List (Nat × DVal) × Bool × Nat × Nat) :=
  match decEntries (ofLe ((l.drop 7).take 2)) (l.drop 9) with
  | none => none
  | some (es, r) =>
    let body := l.take (l.length - r.length)
    let c := ofLe (r.take 4)
    some (ofLe (l.take 2), es, c == (crc32 body).toNat, ofLe ((r.drop 4).take 1), c)

/-- The value of an entry in a set, its default where the set does not hold it. -/
def setVal (l : List (Nat × DVal)) (num sub : Nat) : DVal :=
  match l.find? fun p => p.1 == dkey num sub with
  | some p => p.2
  | none => dictDefault num sub

/-- The same as a natural number. -/
def setN (l : List (Nat × DVal)) (num sub : Nat) : Nat := (dvInt (setVal l num sub)).toNat

/-- The inputs of slot k in order, unused bytes left out (R411). -/
def setInputs (l : List (Nat × DVal)) (k : Nat) : List Nat :=
  ((upto 4).map fun j => bits (setN l 0x6031 k) (8 * j + 7) (8 * j)).filter (· != 255)

/-- No element twice. -/
def allDistinct : List Nat → Bool
  | [] => true
  | x :: r => !r.contains x && allDistinct r

/-- The rules of R412. -/
def setRules412 (l : List (Nat × DVal)) : Bool :=
  let used := (upto 12).filter fun k => setN l 0x6030 k != 0
  let fns := used.filter fun k => setN l 0x6030 k != 8
  let src := fun i => setN l 0x6011 i
  let inUse := (fns.map fun k => setInputs l k).flatten
  let resets := (used.map fun k => setN l 0x6035 k).filter (· != 255)
  allDistinct (inUse ++ resets) && resets.all (fun i => !inUse.contains i && src i == 255) &&
  used.all (fun k => setN l 0x6032 k != 0) &&
  fns.all fun k =>
    let ty := setN l 0x6030 k
    let ins := setInputs l k
    let none_ := ins.all fun i => src i == 255
    ((ty != 1 && ty != 2) || setN l 0x6034 k == 1) &&
    (if ty == 7 then none_
     else none_ || (allDistinct (ins.map src) && ins.all fun i => src i != 255)) &&
    (ty == 7 || !none_ || setN l 0x6036 k == 1)

/-- A field definition obeys R431. -/
def fieldRules (d : List Byte) : Bool :=
  let npt := fbN d 3 1
  let pts := (upto npt).map fun i => (fbI d (12 + 6 * i), fbN d (14 + 6 * i) 4)
  d.length == 12 + 6 * npt && decide (fbN d 1 1 ≤ fbN d 2 1) && decide (2 ≤ npt) && decide (npt ≤ 64) &&
  decide (fbI d 4 < fbI d 6) && decide (20 ≤ fbN d 8 2) && decide (fbN d 8 2 ≤ 2000) && decide (1500 ≤ fbN d 10 2) &&
  (pts.head?.map (·.1) == some (fbI d 4)) && (pts.getLast?.map (·.1) == some (fbI d 6)) &&
  ((pts.zip (pts.drop 1)).all fun p => decide (p.1.1 < p.2.1)) && pts.all fun p => decide (p.2 ≤ 300000)

/-- The field sets reachable under the selection mode (R432, R439 to R441). -/
def reachable (l : List (Nat × DVal)) : List Nat :=
  match setN l 0x6110 0 with
  | 0 => [setN l 0x6111 0]
  | 1 => ((upto 8).filter fun i => setN l 0x6112 i != 255).map fun i => setN l 0x6113 i
  | _ => (upto 16).filter fun i =>
      !(dvInt (setVal l 0x6115 i) == -32768 && dvInt (setVal l 0x6116 i) == -32768)

/-- The rules of R432, with RX_ENABLE and CAL_REF_DIST in force. -/
def setRules432 (s : State) (l : List (Nat × DVal)) : Bool :=
  let defs := (upto 64).map fun k => dvBytes (setVal l 0x6100 k)
  let used := defs.filter fun d => fbN d 0 1 == 1 || fbN d 0 1 == 2
  defs.all (fun d => decide (fbN d 0 1 ≤ 2)) && used.all fieldRules &&
  (used.all fun d => (upto 256).all fun c =>
    if fbN d 1 1 ≤ c && c ≤ fbN d 2 1 then bit (parN s 0x2801 (c / 32)) (c % 32) && parN s 0x3416 c != 0 else true) &&
  ((upto 12).all fun k =>
    if setN l 0x6030 k = 8 then
      let f := setN l 0x6031 k % 256
      decide (f ≤ 3) && setN l 0x6031 k / 256 == 0xFFFFFF && setN l 0x6036 k == 0 &&
      (reachable l).all fun m => fbN (dvBytes (setVal l 0x6100 (4 * m + f))) 0 1 == 1
    else true) &&
  (upto 4).all fun j => setN l 0x6124 j == 0xFFFF || setN l 0x6125 j == 2 || setN l 0x6125 j == 3

/-- What a stored set gives at use: its payload when its checks pass, a sealed set by tag, hash and CRC, a package by
its signature too (R621, R624). -/
def setPlain (s : State) (p : Pkg) : Option (List Byte) :=
  if p.head.isEmpty then none
  else if hdrKey p.head = 0xFF then
    (if hashOk p && (p.auth || tagOk p) then some p.plain else none)
  else if sigValid s p.head && hashOk p && tagOk p then some (plainOf p) else none

/-! ## Verification and storage -/

/-- The area checks of R635 by type (reason 8). -/
def contentOk (s : State) (p : Pkg) : Bool :=
  match hdrType p.head with
  | 1 => Config.imageOk (plainOf p)
  | 2 => (eyeTable (plainOf p)).isSome
  | _ => match decSet (plainOf p) with
    | none => false
    | some (_, es, _, _, _) => setRules412 es && setRules432 s es

/-- The reason of the first check of R635 that fails, 0 when all pass. -/
def verifyPkg (s : State) (p : Pkg) : Nat :=
  let h := p.head
  if !headerOk h then 1
  else if !keyOk s h then 2
  else if !sigValid s h then 3
  else if !hashOk p then 4
  else if hdrSec h < secCounter s (hdrType h) then 5
  else if secCounter s (hdrType h) < hdrSec h && secWordsLeft s (hdrType h) = 0 then 6
  else if !tagOk p then 7
  else if !contentOk s p then 8
  else 0

/-- The image of slot k may be booted: signature, hash, tag, and not below the firmware counter (R637). -/
def imageValid (s : State) (k : Nat) : Bool :=
  let p := slotPkg s k
  !p.head.isEmpty && sigValid s p.head && hashOk p && tagOk p && decide (secCounter s 1 ≤ hdrSec p.head)

/-- The staging area of a package type: the slot not in force, the copy not in force (R633); in RECOVERY slot A when
neither slot is valid (R643). Type 3 areas are numbered 2 N + copy. -/
def stagingArea (s : State) (ty target : Nat) : Nat :=
  match ty with
  | 1 =>
    if s.dev == .recovery && !imageValid s 0 && !imageValid s 1 then 0
    else match selRecord s with
      | some (_, w) => 1 - recSlot w
      | none => 0
  | 2 => match eyeInForce s with | some (c, _) => 1 - c | none => 0
  | _ => 2 * target + match setInForce s target with | some (c, _) => 1 - c | none => 0

/-- The package of a staging area. -/
def areaPkg (s : State) (a : Nat × Nat) : Pkg :=
  match a.1 with
  | 1 => slotPkg s a.2
  | 2 => eyePkg s a.2
  | _ => bget {} s.upd.setCopies a.2

/-- The package of a staging area changed. -/
def modArea (a : Nat × Nat) (f : Pkg → Pkg) (s : State) : State :=
  modUpd (fun u => match a.1 with
    | 1 => { u with slots := bmod {} u.slots a.2 f }
    | 2 => { u with eyeCopies := bmod {} u.eyeCopies a.2 f }
    | _ => { u with setCopies := bmod {} u.setCopies a.2 f }) s

end Sys2Proof.Machine
end

