-- ==== Sys2Proof/Machine/Views.lean ====
section
/-!
DEFINITION. What a read of each RO or RC entry of the dictionary returns (the parameter tables of the chapters: R2, R34,
R84, R122, R146, R154, R157, R159, R191, R218, R247, R280, R319, R355, R376, R401, R429, R462, R487, R514, R541, R569,
R597, R618, R645, R664).
-/
namespace Sys2Proof.Machine

/-- A natural number as a value. -/
abbrev vN (n : Nat) : Option DVal := some (.int n)
/-- An integer as a value. -/
abbrev vI (i : Int) : Option DVal := some (.int i)
/-- A truth value as a value. -/
abbrev vB (b : Bool) : Option DVal := some (.int (b2n b))
/-- Bytes as a value. -/
abbrev vY (b : List Byte) : Option DVal := some (.bytes b)

/-- The 32 bits of channels 32 j to 32 j + 31 (R132, R189, R214, R247, R444). -/
def chanBits (s : State) (j : Nat) (f : ChanS → Bool) : Nat := ofBits 32 fun i => f (chanOf s (32 * j + i))

/-- Slot n of the error log, 255 the overflow summary (R507, R508). -/
def logSlot (s : State) (n : Nat) : LogE := if n = 255 then s.log.summary else bget {} s.log.slots n

/-- VER_SLINK: the lowest version chosen over the lanes that are UP, 0 with none (R2). -/
def verSlink (s : State) : Nat :=
  let l := ((upto 8).filter fun n => (laneOf s n).st == 4).map fun n => (laneOf s n).chosen.toNat
  match l with
  | [] => 0
  | x :: r => r.foldl min x

/-- XI_SESSIONS (R569). -/
def xiSessions (s : State) : Nat :=
  ofBits 10 (fun n => (sessOf s n).open_) + 32768 * b2n ((upto 10).any fun n => (sessOf s n).open_ && (sessOf s n).priv)

/-- CAN controller k (R554). -/
def canOf (s : State) (k : Nat) : CanS := bget {} s.xi.can k

/-- CAN_STATUS (R569); a controller that has not joined its network is neither active nor passive (log entry 26). -/
def canStatus (s : State) (k : Nat) : Nat :=
  let c := canOf s k
  let on := c.joined && !c.busOff
  let act := decide (c.tec < 128) && decide (c.rec_ < 128)
  b2n (on && act) + 2 * b2n (on && !act) + 4 * b2n c.busOff + 8 * b2n c.recovering

/-- MEAS_PENDING (R664). -/
def measPending (s : State) : Nat := ofBits 32 fun m => (measOf s m).pending

/-- SLOT_STATE of image slot k; confirmed is the slot in force with TRIAL 0xF (R645, log entry 26). -/
def slotState (s : State) (k : Nat) : Nat :=
  let p := slotPkg s k
  let rec_ := (selRecord s).map (·.2)
  let inF := match rec_ with | some w => recSlot w == k | none => false
  let conf := match rec_ with | some w => recSlot w == k && recTrial w == 15 | none => false
  let low := if p.head.isEmpty then 0 else if p.status = 0xFFFFFFFF then 1 else if p.status = 0 then 3 else 2
  low + 4 * b2n conf + 8 * b2n inF + 16 * b2n (!p.head.isEmpty && decide (hdrSec p.head < secCounter s 1))

/-- THM_SENSOR_T of TSk, 0.1 °C (R618). -/
def sensorT (s : State) (k : Nat) : Int :=
  if (k = 8 || k = 9) && (measOf s (sensMeas s k)).pending then -32768
  else if (sensOf s k).broken then 1250
  else rdiv (sensOf s k).t 100

/-- THM_THROTTLED_MS (R618). -/
def throttledMs (s : State) : Nat :=
  min 0xFFFFFFFF ((s.thm.throttled + match s.thm.throttleAt with | some a => s.tb - a | none => 0) / msU)

/-- The engine that a spare replaces, 0x1F none (R191). -/
def spareServes (s : State) (n : Nat) : Nat := (bget ({} : EngS) s.ee.eng n).serves.getD 0x1F

/-- Law n of the LCE's set in use (R319). -/
def setIdOf (l : LawS) : Nat := if l.bank = 0 then l.idA.toNat else l.idB.toNat

/-- Entries of pages 0x1000 and 0x2000; FRAME_RATE_ACT is rounded down to whole microhertz, which R50 leaves open (DESIGN CHOICE,
log entry 90). -/
def viewA (s : State) (num sub : Nat) : Option DVal :=
  match num with
  | 0x1001 => vN Config.vendorId.toNat
  | 0x1002 => vN 0x4256
  | 0x1003 => vN (if sub = 1 then Config.steppingCore.toNat else Config.steppingCalliope.toNat)
  | 0x1004 => vY Config.serial
  | 0x1005 => vN (fwVersion s)
  | 0x1010 => vN (devCode s.dev)
  | 0x1011 => vN s.rm.degrade.toNat
  | 0x1015 => vN s.xi.cmdStatus
  | 0x1017 => vN s.rst.bootTime.toNat
  | 0x1018 => vN (measPending s)
  | 0x1020 => vN (match sub with
      | 1 => s.pci.verNeg.toNat
      | 2 => s.xi.ver.toNat
      | 3 => verSlink s
      | 4 => s.pt.ver.toNat
      | _ => s.fe.ver.toNat)
  | 0x1030 => vN 0x01000100
  | 0x1032 => vN (xiSessions s)
  | 0x1033 => vN s.xi.crcErr.toNat
  | 0x1046 => vN (canStatus s sub)
  | 0x1047 => vN (256 * min 255 (canOf s sub).tec + min 255 (canOf s sub).rec_)
  | 0x1048 => vN (canOf s sub).busOffs.toNat
  | 0x1049 => vN s.xi.canAbort.toNat
  | 0x1050 => vN s.xi.storeSt
  | 0x1051 => vN s.xi.storeGen.toNat
  | 0x2002 => let f := frameOf s; vN (1000000000000000 / max 1 (8 * f.nCyc * f.p))
  | 0x2003 => vN (if sub = 1 then (frameOf s).nCyc else (frameOf s).nAct)
  | 0x2014 => vN (frameOf s).p
  | 0x2015 => vN (frameOf s).g
  | 0x2030 => vN (match s.rm.table with | some t => t.tableId.toNat | none => 0)
  | 0x2031 => vN (match s.rm.table with | some t => if sub = 0 then t.binWidth else t.nBin | none => 0)
  | 0x2032 => vN (match s.rm.table with | some t => if sub = 0 then t.tA else t.tB | none => 0)
  | 0x2033 => vN (match s.rm.table with | some t => if sub = 0 then t.uPri else t.uSec | none => 0)
  | 0x2034 => vN (match s.rm.table with | some t => t.vTol | none => 0)
  | _ => none

/-- Entries of pages 0x2400 to 0x2C00. -/
def viewB (s : State) (num sub : Nat) : Option DVal :=
  let fm := fmOf s sub
  match num with
  | 0x2403 => vN (bankOf s sub).advance
  | 0x2407 => vN s.fld.monFailed.toNat
  | 0x2413 => vN (chgWindow s)
  | 0x2414 => vN (bankOf s sub).vRes
  | 0x2415 => vN (bankOf s sub).vShotLast
  | 0x2416 => vN s.fld.iin
  | 0x2428 => vN s.fld.apdVmeas
  | 0x2429 => vN s.fld.apdI
  | 0x242A => vN (apdStatus s)
  | 0x2445 => vN (brgStatus s)
  | 0x2470 => vN (ofBits 12 fun n => (linkOf s n).failed)
  | 0x2471 => vN (s.fld.spareMap10 % 16 + 16 * (s.fld.spareMap11 % 16))
  | 0x2472 => vN s.fld.switchCount.toNat
  | 0x2473 => vN s.fld.crcErr.toNat
  | 0x2474 => vN s.fld.retx.toNat
  | 0x2805 => vN (chanBits s sub (·.failed))
  | 0x2809 => vN (chanOf s sub).ovf.toNat
  | 0x2813 => vI (freqUsed s)
  | 0x2826 => vN s.tbs.ppsLast.toNat
  | 0x2827 => vN s.tbs.ppsStep.toNat
  | 0x2828 => vI s.tbs.freqErr
  | 0x2829 => vN s.tbs.glitch.toNat
  | 0x2835 => vN fm.period.toNat
  | 0x2836 => vN fm.rms.toNat
  | 0x2837 => vN fm.n.toNat
  | 0x2838 => vN fm.outliers.toNat
  | 0x2839 => vB fm.valid
  | 0x2844 => vI (encSettle s).tbs.encCount
  | 0x2845 => vN s.tbs.encStatus.toNat
  | 0x2C20 => vN (ofBits 18 fun n => (bget ({} : EngS) s.ee.eng n).retired)
  | 0x2C21 => vN (spareServes s 16 + 256 * spareServes s 17)
  | 0x2C22 => vN (chanBits s sub (·.lost))
  | 0x2C23 => vN s.ee.replayed.toNat
  | 0x2C24 => vN s.ee.eccCorr.toNat
  | _ => none

/-- Entries of pages 0x3000 to 0x4800 and 0x5000. -/
def viewC (s : State) (num sub : Nat) : Option DVal :=
  let x := chanOf s sub
  let tr : Train := bget {} s.rj.trains sub
  let lc := lchOf s sub
  match num with
  | 0x3008 => let r := ambRate x 0; vN (r.1 * 1000000000 / max 1 r.2)
  | 0x3009 => vN ((sigmaN s sub * 100 + 32768) / 65536)
  | 0x3014 => vN (if tr.st = 0 then 0 else tr.tp / 10000)
  | 0x3015 => vN tr.st
  | 0x3016 => vN tr.n
  | 0x3017 => vN tr.rms
  | 0x3018 => vN tr.mask.toNat
  | 0x3024 => vN s.rj.coordStatus.toNat
  | 0x3042 => vN (chanBits s sub (·.contam))
  | 0x3430 => vN s.ts.epoch.toNat
  | 0x3431 => vN (chanBits s sub fun c => c.staleCause != 0)
  | 0x3432 => vN s.ts.staleMon.toNat
  | 0x3433 => vN x.staleCause.toNat
  | 0x3434 => vI (match x.setEcho with | some l => l.headD 0 | none => 0)
  | 0x3435 => vI (match x.setHist with | some l => l.headD 0 | none => 0)
  | 0x3436 => vN (sigmaCal s sub s.ee.hist (x.staleCause != 0))
  | 0x3437 => vN x.commits.toNat
  | 0x3809 => vN 0x01000100
  | 0x380A => vN s.pt.negStatus
  | 0x3810 => vN s.pt.records.toNat
  | 0x3811 => vN s.pt.dropTotal.toNat
  | 0x4013 => vN (setIdOf (bget {} s.lce.laws sub))
  | 0x401D => vI s.lce.coilT
  | 0x4020 => vN s.lce.mode
  | 0x4021 => vN (fbStatus s)
  | 0x403C => vN s.lce.injStatus
  | 0x403D => vY ((s.lce.injBuf.map fun t => leInt 2 t.inj ++ leInt 2 t.inp ++ leInt 2 t.outp).flatten)
  | 0x4401 => vB s.adc.refReady
  | 0x4405 => vN (b2n (bget false s.adc.running sub) + 2 * b2n (bget false s.adc.refused sub))
  | 0x440B => vN lc.gain
  | 0x440D => vN lc.skew
  | 0x440E => vN (lc.m * 31250)
  | 0x4414 => vN (b2n (excOf s sub).on + (excOf s sub).fault)
  | 0x4427 => vI (measOf s sub).value
  | 0x4428 => vN (measStatus s sub)
  | 0x4429 => vN (ofBits 32 fun m => (measOf s m).broken)
  | 0x4434 => vN (bget ({} : LoopS) s.adc.loops sub).meas
  | 0x4435 => vN (loopStatus s sub)
  | 0x4445 => vI (bget ({} : ZoneS) s.adc.zones sub).value
  | 0x4446 => vB (bget ({} : ZoneS) s.adc.zones sub).valid
  | 0x4807 => vN lc.bank
  | 0x480C => vN (fltPeriod lc)
  | 0x480D => vN (fltGdelay lc)
  | 0x480E => vN (fltSettle lc)
  | 0x480F => vN (fltStatus lc)
  | 0x4810 => vN (bget (0 : BitVec 32) s.adc.fltSat sub).toNat
  | 0x4811 => vN (bget (0 : BitVec 32) s.adc.coefId sub).toNat
  | 0x5035 => vN s.cam.contam.toNat
  | 0x5040 => vN (bget ({} : CtxS) s.cam.ctx sub).frames.toNat
  | 0x5041 => vN (bget ({} : CtxS) s.cam.ctx sub).drop.toNat
  | _ => none

/-- Entries of pages 0x6000 to 0x7400. -/
def viewD (s : State) (num sub : Nat) : Option DVal :=
  match num with
  | 0x6000 => vN s.saf.pinsBoot.toNat
  | 0x6001 => vN s.saf.setNo
  | 0x6002 => vN s.saf.setCrc.toNat
  | 0x6050 => vN (sfOf s sub).st
  | 0x6051 => vN (siState s)
  | 0x6052 => vN (siFault s sub)
  | 0x6053 => vN (soState s)
  | 0x6054 => vN (outOf s sub).fault
  | 0x6055 => vN (tpFault s)
  | 0x612A => vN 0x01000100
  | 0x6130 => vN s.fe.active
  | 0x6131 => vN (fsStatus s)
  | 0x6132 => vN (fldState s)
  | 0x6133 => vN (chanBits s sub (·.refFail))
  | 0x6134 => vN (netStatus s)
  | 0x6135 => vN s.fe.lost.toNat
  | 0x6136 => vN s.fe.err.toNat
  | 0x6802 => vN s.car.capMiB
  | 0x6810 => vN (strOf s sub).source
  | 0x6803 => vN s.car.bootEpoch.toNat
  | 0x6804 => vN s.car.chOos.toNat
  | 0x6823 => vN s.car.readSt
  | 0x6828 => vN (strState s sub)
  | 0x6829 => vN (strOf s sub).lost.toNat
  | 0x682A => vN (strOf s sub).missed.toNat
  | 0x682B => vN (strOf s sub).missedT.toNat
  | 0x682C => vN (strOf s sub).retrig.toNat
  | 0x6845 => vN (bget (0 : BitVec 32) s.car.maskCount sub).toNat
  | 0x7000 => vI (rdiv (nodeT s sub) 100)
  | 0x7001 => vI (sensorT s sub)
  | 0x7002 => vN (ofBits 10 fun k => (sensOf s k).broken)
  | 0x7003 => vI (rdiv (if sub = 0 then dieMax s else dieMin s) 100)
  | 0x7004 => vI (rdiv (tThr s) 100)
  | 0x7005 => vN s.thm.level
  | 0x700A => vN (match sub with
      | 0 => s.thm.powCore + s.fld.fldPower
      | 1 => s.thm.powCore
      | _ => s.fld.fldPower)
  | 0x700B => vN (bget 0 s.thm.power sub)
  | 0x700C => vN (throttledMs s)
  | 0x700D => vN s.thm.shutdowns.toNat
  | 0x7012 => vN s.thm.vid
  | 0x701A => vN s.thm.wakeSrc.toNat
  | 0x701B => vN s.thm.duration.toNat
  | 0x7404 => vN (bget (0 : BitVec 32) s.eic.vanCnt sub).toNat
  | 0x7405 => vN (bget (0 : BitVec 32) s.eic.redCnt sub).toNat
  | 0x7410 => vY (logBytes (logSlot s sub))
  | 0x7411 => vN (s.log.next.toNat + 256 * s.log.gen.toNat)
  | 0x7412 => vN (bget (0 : BitVec 32) s.log.lost sub).toNat
  | 0x7413 => vY (logBytes (s.log.first.getD {}))
  | 0x7416 => vY (logBytes s.log.prevFirst)
  | 0x7417 => vN s.log.resetCause.toNat
  | _ => none

/-- Entries of pages 0x7800 to 0x8000. -/
def viewE (s : State) (num sub : Nat) : Option DVal :=
  let l := laneOf s sub
  match num with
  | 0x7805 => vN 0x01000100
  | 0x7806 => vN s.pci.stageLost.toNat
  | 0x7C02 => vN l.rate
  | 0x7C03 => vN l.st
  | 0x7C04 => vN 0x01000100
  | 0x7C05 => vN l.chosen.toNat
  | 0x7C06 => vY l.partner
  | 0x7C09 => vI (slkOffset s sub)
  | 0x7C0A => vI (slkDelay s sub)
  | 0x7C0B => vN (ofBits 8 fun n => (laneOf s n).ofsValid)
  | 0x7C14 => vN s.slk.fwdStatus
  | 0x7C15 => vN s.slk.fwdDropped.toNat
  | 0x7C16 => vN l.trigDrop.toNat
  | 0x7C1E => vN l.prbsErr.toNat
  | 0x7C20 => vN l.codeErr.toNat
  | 0x7C21 => vN l.retx.toNat
  | 0x8001 => vN s.upd.st
  | 0x8003 => vN s.upd.received
  | 0x8004 => vN s.upd.result
  | 0x8005 => vN (s.upd.lock.getD 0xFF)
  | 0x8008 => vN (slotState s sub)
  | 0x8009 => let h := (slotPkg s sub).head; vN (hdrFw h)
  | 0x800A => let h := (slotPkg s sub).head; vN (hdrSec h)
  | 0x800B => vN (match selRecord s with | some (_, w) => w.toNat | none => 0)
  | 0x800C => vN (if sub < 3 then secCounter s (sub + 1) else secWordsLeft s (sub - 2))
  | 0x800D => if sub = 1 then vN s.upd.revoked.toNat else none
  | 0x800F => vN s.upd.recCause
  | _ => none

/-- Logical channel g converts an internal source, to which gain does not apply: its source as committed (R323, R327). -/
def internalSrc (s : State) (g : Nat) : Bool := let x := (lchOf s g).src; decide (16 ≤ x) && x != 63

/-- What a read of an entry returns: RO and RC entries as computed, others their value in force, LCH_GAIN 0 for internal
sources (R16, R323). -/
def view (s : State) (num sub : Nat) : DVal :=
  let v := match num / 1024 with
    | 4 => viewA s num sub
    | 8 => viewA s num sub
    | 9 => viewB s num sub
    | 10 => viewB s num sub
    | 11 => viewB s num sub
    | 12 => viewC s num sub
    | 13 => viewC s num sub
    | 14 => viewC s num sub
    | 16 => viewC s num sub
    | 17 => viewC s num sub
    | 18 => viewC s num sub
    | 20 => viewC s num sub
    | 24 => viewD s num sub
    | 26 => viewD s num sub
    | 28 => viewD s num sub
    | 29 => viewD s num sub
    | _ => viewE s num sub
  match v with
  | some x => x
  | none => if num = 0x4409 && internalSrc s sub then .int 0 else par s num sub

end Sys2Proof.Machine
end

