-- ==== Sys2Proof/Machine/DictOps.lean ====
section
/-!
DEFINITION. Writes of dictionary entries: the checks of a value, what an entry's own chapter refuses, how a written value
waits for its apply time, and what the device does when one takes effect (R7, R8, R15 to R17, R544, R545, R559, R682).
-/
namespace Sys2Proof.Machine

/-- The latest value written to an entry: not yet applied where there is one, else in force (R682). -/
def latest (s : State) (num sub : Nat) : DVal :=
  match dlook s.dict.held (dkey num sub) with
  | some v => v
  | none => match dlook s.dict.fixed (dkey num sub) with
    | some v => v
    | none => par s num sub

/-- The latest value as an integer. -/
def latI (s : State) (num sub : Nat) : Int := dvInt (latest s num sub)
/-- The latest value as a natural number. -/
def latN (s : State) (num sub : Nat) : Nat := (latI s num sub).toNat

/-- The state as if a written value were held: what a relation between entries is tested on. -/
def withHeld (num sub : Nat) (v : DVal) (s : State) : State :=
  { s with dict := { s.dict with held := bset s.dict.held (dkey num sub) v } }

/-- Lengths of a STR or BLOB, bytes (R7, R292, R344, R363, R401, R431, R634, R645). -/
def blobLen (num : Nat) : Nat × Nat :=
  match num with
  | 0x4010 => (8, 300)
  | 0x4011 => (8, 300)
  | 0x4425 => (264, 264)
  | 0x4804 => (268, 268)
  | 0x4805 => (268, 268)
  | 0x5015 => (66, 66)
  | 0x6100 => (1, 396)
  | 0x8002 => (5, 16388)
  | 0x8007 => (193, 193)
  | _ => (1, 65535)

/-- The value has its type's size, a STR or BLOB a length in range (R545). -/
def lengthOk (r : DRow) (l : List Byte) : Bool :=
  match r.ty with
  | .str => let b := blobLen r.num; decide (b.1 ≤ l.length) && decide (l.length ≤ min 64 b.2)
  | .blob => let b := blobLen r.num; decide (b.1 ≤ l.length) && decide (l.length ≤ b.2)
  | t => l.length == tySize t

/-- The value lies in the entry's range (R7, R8, R545). -/
def inRange (r : DRow) (v : DVal) : Bool :=
  match v with
  | .bytes _ => true
  | .fx _ sh => decide (sh ≤ 31)
  | .int i => (decide (r.lo ≤ i) && decide (i ≤ r.hi) && decide ((i - r.lo) % (max r.step 1 : Nat) = 0)) || r.also.contains i

/-! ## Rules of the entries' own chapters -/

/-- The eight nibbles are a permutation of 0 to 7 (R56). -/
def permutation8 (v : Nat) : Bool := allDistinct ((upto 8).map fun i => v / 16 ^ i % 16) && (upto 8).all fun i => decide (v / 16 ^ i % 16 < 8)

/-- The kind that a parameter assigns to ring r, of those that name rings; each kind once (R250, R588). -/
def ringKinds (s : State) (r : Nat) : List Nat :=
  let one := fun (num kind : Nat) => if latN s num 0 = r || parN s num 0 = r then [kind] else []
  let many := fun (num kind n : Nat) =>
    if (upto n).any fun i => latN s num i == r || parN s num i == r then [kind] else []
  let lane := fun (num kind : Nat) => ((upto 8).filter fun i => latN s num i == r || parN s num i == r).map fun i => kind + i
  one 0x3801 0 ++ one 0x3802 1 ++ one 0x2C1A 2 ++ many 0x5018 3 8 ++ many 0x5019 4 8 ++
    lane 0x7C12 8 ++ lane 0x7C13 16 ++
    match s.car.read with | some (q, _) => if q = r then [5] else [] | none => []

/-- Every ring carries items of one kind only (R249, R250, R588). -/
def ringsOk (s : State) : Bool := (upto 32).all fun r => decide ((ringKinds s r).length ≤ 1)

/-- The kind of the entries that name rings. -/
def isRingParam (num : Nat) : Bool := [0x3801, 0x3802, 0x2C1A, 0x5018, 0x5019, 0x7C12, 0x7C13].contains num

/-- Width and height of a packed size. -/
abbrev sizeW (v : Nat) : Nat := v / 65536
abbrev sizeH (v : Nat) : Nat := v % 65536

/-- The camera rules of one context and its pipeline (R379, R381, R384, R399). -/
def cameraOk (s : State) (c : Nat) : Bool :=
  let p := c / 2
  let size := latN s 0x500B c
  let out := latN s 0x5017 c
  let w := sizeW size
  let h := sizeH size
  let en := fun i => latN s 0x5008 i != 0
  let pix := fun i => if en i then sizeW (latN s 0x500B i) * sizeH (latN s 0x500B i) * 1000000 else 0
  let ft := fun i => max 1 (latN s 0x500D i)
  let div := 2 * 2 ^ latN s 0x5022 c
  decide (64 ≤ w) && decide (w ≤ 4096) && w % 2 == 0 && decide (64 ≤ h) && decide (h ≤ 4096) &&
  decide (pix (2 * p) * ft (2 * p + 1) + pix (2 * p + 1) * ft (2 * p) ≤ 400000000 * ft (2 * p) * ft (2 * p + 1)) &&
  decide (sizeW out ≤ w) && decide (w ≤ 8 * sizeW out) && sizeW out % 2 == 0 &&
  decide (sizeH out ≤ h) && decide (h ≤ 8 * sizeH out) &&
  decide (((w + div - 1) / div) * ((h + div - 1) / div) ≤ 147456) &&
  !(en (2 * p) && en (2 * p + 1) && latN s 0x5009 (2 * p) == latN s 0x5009 (2 * p + 1))

/-- The output rate of channel g in S/s with its latest FLT_HB, from its used slots. -/
def firRate (s : State) (g : Nat) : Nat := (lchOf s g).m * 31250 / 2 ^ latN s 0x4800 g

/-- The sum of the FIR output rates of engine n (R357). -/
def firSum (s : State) (n : Nat) : Nat :=
  nsum (((upto 16).filter fun j => latN s 0x4801 (16 * n + j) != 0).map fun j => firRate s (16 * n + j))

/-- The FIR rules for a write to channel g that makes t of s: where a commit has made the engine's sum too large, a write that lowers it
breaks nothing (R357). -/
def firOk (s t : State) (g : Nat) : Bool :=
  (latN t 0x4801 g == 0 || decide (firRate t g ≤ 250000)) &&
    (decide (firSum t (g / 16) ≤ 500000) || decide (firSum t (g / 16) < firSum s (g / 16)))

/-- A coefficient set of law n: index, mantissa and shift of each entry (R292). -/
def coefEntries (l : List Byte) : List (Nat × Int × Nat) :=
  (upto (l.getD 3 0).toNat).map fun i =>
    let e := l.drop (8 + 6 * i)
    ((e.getD 0 0).toNat, signed 32 (ofLe ((e.drop 1).take 4)), (e.getD 5 0).toNat)

/-- Coefficient indices of law n (R294; the spec gives those of law 3, log entry 7). -/
def coefIndices (n : Nat) : Nat := if n = 3 then 17 else Config.coefCount n

/-- The LCE takes a set for law n (R283, R292, R293). -/
def coefSetOk (n : Nat) (l : List Byte) : Bool :=
  let cnt := (l.getD 3 0).toNat
  let es := coefEntries l
  (l.getD 2 0).toNat == n && decide (1 ≤ cnt) && decide (cnt ≤ 48) &&
  l.length == 12 + 6 * cnt && ofLe (l.drop (8 + 6 * cnt)) == (crc32c (l.take (8 + 6 * cnt))).toNat &&
  allDistinct (es.map (·.1)) &&
  es.all fun e => decide (e.1 < coefIndices n) && decide (e.2.2 ≤ 31) && decide (e.2.1.natAbs < 256 * 2 ^ e.2.2)

/-- FIR bank b of engine n is in use (R363). -/
def bankInUse (s : State) (n b : Nat) : Bool :=
  (upto 16).any fun j =>
    let c := lchOf s (16 * n + j)
    (parB s 0x4801 (16 * n + j) || c.structFir) &&
      (c.bank == b || (decide (0 < c.fadeN) && c.fadeFrom == b) || c.swapHeld == some b)

/-- The engine takes a FIR set (R363). -/
def firSetOk (l : List Byte) : Bool :=
  ofLe ((l.drop 2).take 2) == 0 && ofLe ((l.drop 264).take 4) == (crc32c (l.take 264)).toNat

/-- The x values of a MEAS_TABLE increase strictly (R344). -/
def tableOk (l : List Byte) : Bool :=
  let x := fun i => signed 32 (ofLe ((l.drop (8 * i)).take 4))
  (upto 32).all fun i => decide (x i < x (i + 1))

/-- A number in groups of seven bits, lowest first, each byte but the last with bit 7 set; fuel bytes at most. -/
def groupBytes : Nat → Nat → List Byte
  | 0, _ => []
  | fuel + 1, z => if z < 128 then [BitVec.ofNat 8 z] else BitVec.ofNat 8 (z % 128 + 128) :: groupBytes fuel (z / 128)

/-- The number that groupBytes wrote, and the bytes after it. -/
def groupRead : List Byte → Nat × List Byte
  | [] => (0, [])
  | b :: r => if b.toNat < 128 then (b.toNat, r) else let x := groupRead r; (b.toNat - 128 + 128 * x.1, x.2)

/-- The numbers of a set, each as its difference from the one before. -/
def setBytes (prev : Int) : List Int → List Byte
  | [] => []
  | v :: r => groupBytes 9 (let d := v - prev; if 0 ≤ d then 2 * d.toNat else 2 * (-d).toNat - 1) ++ setBytes v r

/-- n numbers that setBytes wrote, and the bytes after them. -/
def setRead (prev : Int) : Nat → List Byte → List Int × List Byte
  | 0, l => ([], l)
  | n + 1, l =>
    let (z, r) := groupRead l
    let v := prev + (if z % 2 = 0 then (z / 2 : Int) else -((z + 1) / 2 : Int))
    let x := setRead v n r
    (v :: x.1, x.2)

/-- The largest VALUE of a message (R546); a longer value is cut there (DESIGN CHOICE, log entry 31). -/
abbrev maxVal : Nat := 65535

/-- The image of the committed sets of both modes in steps of 2^k: SERIAL, k, a flag and the numbers of each set of each channel,
CRC-32C. The layout is Renyajor's own and not published (R246; DESIGN CHOICE, log entry 27). -/
def calImageStep (s : State) (k : Nat) : List Byte :=
  let enc := fun (o : Option (List Int)) (n : Nat) =>
    match o with
    | none => leBytes 1 0
    | some l => leBytes 1 1 ++ setBytes 0 ((upto n).map fun i => l.getD i 0 / (2 ^ k : Int))
  let b := Config.serial ++ leBytes 1 k ++ ((upto 256).map fun c =>
    let x := chanOf s c
    enc x.setEcho 132 ++ enc x.setHist 34).flatten
  b ++ leBytes 4 (crc32c b).toNat

/-- The image in the finest step with which the value fits an entry: 1 unless hundreds of tables are steep (R246, log entry 27). -/
def calImage (s : State) : List Byte :=
  calImageStep s (((upto 63).find? fun k => decide ((calImageStep s k).length ≤ maxVal)).getD 63)

/-- A CAL_STORED_SET image of this device that passes its check (R246). -/
def calImageOk (l : List Byte) : Bool :=
  let n := l.length - 4
  l.take 16 == Config.serial && decide (21 ≤ l.length) && ofLe (l.drop n) == (crc32c (l.take n)).toNat

/-- The sets of an image, channel by channel (R244, R246). -/
def calSets : Nat → List Byte → List (Option (List Int) × Option (List Int))
  | 0, _ => []
  | n + 1, l =>
    let one := fun (l : List Byte) (k : Nat) =>
      if l.getD 0 0 = 1 then let x := setRead 0 k (l.drop 1); (some x.1, x.2)
      else (none, l.drop 1)
    let a := one l 132
    let b := one a.2 34
    (a.1, b.1) :: calSets n b.2

/-- The sets that an image holds (R244, R246). -/
def calImageSets (b : List Byte) : List (Option (List Int) × Option (List Int)) :=
  let scale := fun (o : Option (List Int)) => o.map fun l => l.map (· * (2 ^ (b.getD 16 0).toNat : Int))
  (calSets 256 (b.drop 17)).map fun x => (scale x.1, scale x.2)

/-- A receive slot that is used names type 2 or 3 (R432, R453). -/
def rxTypesOk (l : List (Nat × DVal)) (j : Nat) : Bool :=
  setN l 0x6124 j == 0xFFFF || setN l 0x6125 j == 2 || setN l 0x6125 j == 3

/-- No rule of the entry's own chapter refuses the value; work is the working copy of the safety set with the value in it. -/
def chapterOk (s : State) (num sub : Nat) (v : DVal) (work : List (Nat × DVal)) : Bool :=
  let t := withHeld num sub v s
  let n := (dvInt v).toNat
  let b := dvBytes v
  match num with
  | 0x2018 => permutation8 n
  | 0x3011 => decide (latI t 0x3011 0 ≤ latI t 0x3012 0)
  | 0x3012 => decide (latI t 0x3011 0 ≤ latI t 0x3012 0)
  | 0x3410 => decide (latI t 0x3410 0 < latI t 0x3411 0)
  | 0x3411 => decide (latI t 0x3410 0 < latI t 0x3411 0)
  | 0x3034 => decide (n &&& 0x5C = n)
  | 0x6104 => decide (n &&& 0x0C = n)
  | 0x3421 => calImageOk b
  | 0x4010 => coefSetOk sub b
  | 0x4011 => coefSetOk sub b
  | 0x4030 => [3, 5, 6, 7, 8].contains n
  | 0x4425 => tableOk b
  | 0x4430 => n = 0 || (decide (0x10 ≤ n) && decide (n ≤ 0x2F)) || (decide (0x40 ≤ n) && decide (n ≤ 0x43))
  | 0x4800 => firOk s t sub
  | 0x4801 => firOk s t sub
  | 0x4804 => firSetOk b && !bankInUse s sub 0
  | 0x4805 => firSetOk b && !bankInUse s sub 1
  | 0x1044 => latI t 0x1044 0 != latI t 0x1045 0
  | 0x1045 => latI t 0x1044 0 != latI t 0x1045 0
  | 0x6100 => fbN b 0 1 == 0 || (decide (fbN b 0 1 ≤ 2) && fieldRules b)
  | 0x6124 => rxTypesOk work sub
  | 0x6125 => rxTypesOk work sub
  | 0x5008 => cameraOk t sub
  | 0x5009 => cameraOk t sub
  | 0x500B => cameraOk t sub
  | 0x500D => cameraOk t sub
  | 0x5017 => cameraOk t sub
  | 0x5022 => cameraOk t sub
  | _ => if isRingParam num then ringsOk t else true

/-! ## Values taking effect -/

/-- REC_ENABLE changes: 0 stops every stream and keeps captures, 1 arms every stream with a source; one that is STOPPED stays so (R473,
R476, R487). -/
def recEnable (on : Bool) (s : State) : State :=
  (upto 16).foldl (fun s n =>
    let st := strOf s n
    if on then (if st.st = 0 && st.source != 0 then rearm n s else s)
    else
      let open_ := st.st == 1 || st.st == 2
      if st.st = 5 then s else modStr n (fun x => { x with st := 0, queue := [], segs := if open_ then bdel x.segs x.seg else x.segs }) s) s

/-- EXCn enters mode: the bits of EXC_STATUS that only another mode sets end (R340). -/
def excMode (n mode : Nat) (s : State) : State :=
  modAdc (fun a => { a with exc := bmod {} a.exc n fun x => { x with fault := x.fault &&& (if mode = 1 then 6 else if mode = 2 then 8 else 0) } }) s

/-- The bridge follows MIR_BRIDGE_EN (R690). -/
def bridgeEnable (on : Bool) (s : State) : State :=
  if on then (if s.fld.bridgeOn then s else bridgeStart s) else bridgeStop s

/-- What the device does when the value of an entry that applies IMM takes effect: those of Calliope are written to it, and
entries without a line here act through their value alone. -/
def immApplied (num sub : Nat) (s : State) : State :=
  let s := cfgSend num sub s
  let v := par s num sub
  let n := (dvInt v).toNat
  let b := dvBytes v
  match num with
  | 0x2830 => fmStart sub s
  | 0x4010 => modLaw sub (fun w => { w with setA := coefEntries b, idA := BitVec.ofNat 32 (ofLe ((b.drop 4).take 4)) }) s
  | 0x4011 => modLaw sub (fun w => { w with setB := coefEntries b, idB := BitVec.ofNat 32 (ofLe ((b.drop 4).take 4)) }) s
  | 0x4024 => bridgeEnable (n != 0) s
  | 0x4400 => refEnable (n != 0) s
  | 0x4410 =>
    let was := (excOf s sub).on
    let s := excFollow (excMode sub n s)
    measAll (if was && (excOf s sub).on then excChange sub s else s)
  | 0x440C => measAll s
  | 0x4420 => measAll s
  | 0x4421 => measAll s
  | 0x4422 => measAll s
  | 0x4432 => loopsFollow s
  | 0x4411 => if (excOf s sub).on && parN s 0x4410 sub == 1 then excChange sub s else s
  | 0x4412 => if (excOf s sub).on && parN s 0x4410 sub == 2 then excChange sub s else s
  | 0x4800 => modLch sub (fun c => { c with structReq := true }) s
  | 0x4801 => modLch sub (fun c => { c with structReq := true }) s
  | 0x4804 => modAdc (fun a => { a with
      coef := bset a.coef (2 * sub) ((upto 64).map fun i => signed 32 (ofLe ((b.drop (8 + 4 * i)).take 4)))
      coefId := bset a.coefId (2 * sub) (BitVec.ofNat 32 (ofLe ((b.drop 4).take 4))) }) s
  | 0x4805 => modAdc (fun a => { a with
      coef := bset a.coef (2 * sub + 1) ((upto 64).map fun i => signed 32 (ofLe ((b.drop (8 + 4 * i)).take 4)))
      coefId := bset a.coefId (2 * sub + 1) (BitVec.ofNat 32 (ofLe ((b.drop 4).take 4))) }) s
  | 0x4806 => bankRequest sub n s
  | 0x6800 => recEnable (n != 0) s
  | 0x7C00 => if n = 0 then laneTo sub 0 s
      else if (laneOf s sub).st = 0 then laneTo sub (if parN s 0x7C1C sub = 0 then 1 else 6) s else s
  | 0x7C18 => slkTxSleepWrite sub (n != 0) s
  | 0x7C19 => modLane sub (fun l => { l with rxSleep := n != 0 }) s
  | 0x7C1C => if (laneOf s sub).st = 0 then s
      else if n = 0 then (if (laneOf s sub).st = 6 then laneTo sub 1 s else s) else laneTo sub 6 (laneTo sub 1 s)
  | _ => s

/-- The transport code of an endpoint in a dictionary record (R478): CAN FD, PF1 mailbox, Scan Link. -/
def transportOf (ep : Nat) : Nat := if ep = 0 then 0 else if ep = 1 then 1 else 2

/-- An accepted value of an entry of a row: in force at once when it applies IMM, else held for its apply point or for its acknowledgment
(R15, R17, R294, R367). -/
def acceptValue (ep : Nat) (r : DRow) (sub : Nat) (v : DVal) (s : State) : State :=
  let k := dkey r.num sub
  if r.app == .imm && ackWait k == none then
    immApplied r.num sub (dictRecord k v (transportOf ep) (setPar r.num sub v s))
  else
    { s with dict := { s.dict with held := bset s.dict.held k v, via := bset s.dict.via k (transportOf ep) } }

/-! ## Safety session (R559) -/

/-- A list of entries with one set. -/
def setEnt (k : Nat) (v : DVal) : List (Nat × DVal) → List (Nat × DVal)
  | [] => [(k, v)]
  | (j, w) :: r => if j = k then (k, v) :: r else (j, w) :: setEnt k v r

/-- The number of the set the pins select. -/
def pinSet (s : State) : Nat := s.saf.pins.toNat % 16

/-- The pins show a valid pattern with N from 1 to 15, equal to the BOOT reading (R559). -/
def pinsForSet (s : State) : Bool :=
  (s.saf.pins.toNat / 16 + s.saf.pins.toNat % 16 == 15) && pinSet s != 0 && s.saf.pins == s.saf.pinsBoot

/-- The session of an endpoint is the safety session (R559, R628). -/
def isSafety (s : State) (ep : Nat) : Bool := (sessOf s ep).open_ && (sessOf s ep).priv

/-- The entries of set n in flash, none where it is absent or unreadable. -/
def flashSet (s : State) (n : Nat) : List (Nat × DVal) :=
  match setInForce s n with
  | none => []
  | some (c, _) => match (setPlain s (setPkg s n c)).bind decSet with
    | some (_, es, _, _, _) => es
    | none => []

/-- The working copy: that of the session, or a copy of set N in flash (R559). -/
def workCopy (s : State) : List (Nat × DVal) :=
  match s.xi.work with
  | some w => w
  | none => flashSet s (pinSet s)

/-! ## The order of checks (R545) -/

/-- The access code lets the entry be written in this device state (R14, R19, R643). -/
def stateWrites (s : State) (r : DRow) : Bool :=
  match s.dev with
  | .config => true
  | .run => r.acc == .rw || r.acc == .wo
  | .safe => r.acc == .rw || r.acc == .wo
  | .recovery => decide (0x8000 ≤ r.num) || r.num == 0x1012
  | _ => false

/-- The entry may be read in this device state (R643, R685). -/
def stateReads (s : State) (r : DRow) : Bool :=
  match s.dev with
  | .config => true
  | .run => true
  | .safe => true
  | .recovery => decide (0x8000 ≤ r.num) || decide (r.num ≤ 0x1020)
  | _ => false

/-- Status of a write of bytes to an entry before its effect, from the second row of R545 on: 0 when no row matches. -/
def writeStatus (ep num sub : Nat) (l : List Byte) (s : State) : Nat :=
  match dictFind num sub with
  | none => 1
  | some r =>
    let v := decVal r.ty l
    if r.acc == .ro || r.acc == .rc then 2
    else if !stateWrites s r then 3
    else if r.acc == .rws && !(isSafety s ep && pinsForSet s) then 9
    else if !lengthOk r l then 5
    else if !(inRange r v && chapterOk s num sub v (setEnt (dkey num sub) v (workCopy s))) then 4
    else 0

/-- Status of a read of an entry (R545, R685). -/
def readStatus (num sub : Nat) (s : State) : Nat :=
  match dictFind num sub with
  | none => 1
  | some r => if r.acc == .wo then 2 else if !stateReads s r then 3 else 0

/-- A plain write whose checks passed: into the working copy for an RWS entry, else to its apply point (R15, R559). -/
def writeValue (ep num sub : Nat) (l : List Byte) (s : State) : State :=
  match dictFind num sub with
  | none => s
  | some r =>
    let v := decVal r.ty l
    if r.acc == .rws then { s with xi := { s.xi with work := some (setEnt (dkey num sub) v (workCopy s)) } }
    else acceptValue ep r sub v s

end Sys2Proof.Machine
end

