-- ==== Sys2Proof/Machine/Device.lean ====
section
/-!
DEFINITION. The commands of DEVICE_CMD: device state transitions, Store, RESTORE_DEFAULTS, sealing; and the rows that
follow from them: entry to DORMANT, completion of a Store (R458, R559 to R567, R585, R614, R658 to R661).
-/
namespace Sys2Proof.Machine

/-- Reset and start-up state changed. -/
def modRst (f : RstS → RstS) (s : State) : State := { s with rst := f s.rst }
/-- Scan Link changed. -/
def modSlk (f : SlkAll → SlkAll) (s : State) : State := { s with slk := f s.slk }

/-! ## Entry to CONFIG and to RUN -/

/-- The negotiation of the safety PDU starts anew at each entry to CONFIG; with no receive slot used it is complete at once
(R458, R459). -/
def pduRestart (s : State) : State :=
  verComplete (modFe (fun e => { e with
    verDone := false, ver := 0, verAt := none
    slots := (upto 4).foldl (fun b j => bmod {} b j fun x => { x with ver := false, verRange := (0, 0) }) e.slots }) s)

/-- Leaving CONFIG drops an unsealed working copy, the wait for the automatic ENTER_RUN and an entry to DORMANT not yet begun (R560,
R562, R660). -/
def leaveConfig (s : State) : State := modRst (fun r => { r with autoWait := false }) (modXi (fun x => { x with work := none, dormantAt := none }) s)

/-- All 32 slots of ADC0 are used by the channel MIR_PRI_CH in the running sequence (R329). -/
def adc0Ok (s : State) : Bool :=
  let l := bget [] s.adc.seq 0
  l.length == 32 && l.all fun b => slotUsed b && slotCh b == parN s 0x4008 0

/-- The logical channel MIR_PRI_CH has FLT_HB 2, FIR disabled and no DC blocker (R375). -/
def mirrorChOk (s : State) : Bool :=
  let g := parN s 0x4008 0
  parN s 0x4800 g == 2 && !parB s 0x4801 g && parN s 0x4802 g == 0

/-- The point format version is chosen at an entry to RUN from CONFIG, or refused with entry 0x3701 (R277, R278). -/
def pointNegotiate (s : State) : State :=
  let host := parN s 0x3808 0
  let v := negotiate verDev verDev (host % 65536) (host / 65536)
  let s := modPt (fun p => { p with ver := BitVec.ofNat 16 v, negStatus := if v = 0 then 2 else 1 }) s
  if v = 0 then logNow 0x3701 noSrc (majors (host % 65536) (host / 65536) verDev verDev)
    (modPt (fun p => { p with streaming := false }) s) else s

/-- Why ENTER_RUN is refused, as CMD_STATUS; 0 when it is not (R78, R329, R375, R563). -/
def runRefused (s : State) : Nat :=
  if s.rm.table.isNone then 3 else if !adc0Ok s then 4 else if !mirrorChOk s then 5 else 0

/-- RUN is entered from CONFIG, or SAFE while a cause is present or latched (R20, R277, R430, R459, R561, R585, R658). -/
def enterRunNow (ep : Nat) (s : State) : State :=
  let s := pointNegotiate (leaveConfig s)
  let s := modAdc (fun a => { a with runAt := some s.tb }) s
  let s := if parN s 0x7C0C 0 ≤ 7 then modSlk (fun l => { l with syncFrom := some s.tb, syncAt := none }) s
    else modRm (fun r => { r with startAt := 0 }) (modSlk (fun l => { l with syncFrom := none, syncAt := none }) s)
  let s := if s.fe.verDone then s else safeCause .pduNotNegotiated s
  let safe := !(s.saf.causes.isEmpty && s.saf.latched.isEmpty)
  let s := modSaf (fun f => { f with pinChange := f.pinChange || (safe && (f.causes ++ f.latched).contains .cfgChange) }) s
  setState (if safe then .safe else .run) ep 2 s

/-- CONFIG is entered from RUN or SAFE: the frame in progress is closed, and shots stop at the next phase boundary (R265, R458,
R561). -/
def enterConfigNow (ep : Nat) (s : State) : State :=
  pduRestart (setState .config ep 1 (modAdc (fun a => { a with runAt := none })
    (modSlk (fun l => { l with syncFrom := none, syncAt := none }) (leavePhases s))))

/-! ## Store, defaults, sealing -/

/-- The latest written values of the stored entries that differ from their defaults (R565). -/
def snapshot (s : State) : List (Nat × DVal) :=
  let l := s.dict.held.foldl (fun b p => bset b p.1 p.2) (s.dict.fixed.foldl (fun b p => bset b p.1 p.2) s.dict.inForce)
  l.filter fun p => keyStored p.1 && p.2 != dictDefault (p.1 / 256) (p.1 % 256)

/-- A Store starts: snapshot taken, the copy that is not loaded erased (R565). -/
def storeStart (s : State) : State :=
  modXi (fun x => { x with
    storing := some (snapshot s), storeSt := 1
    jrnA := if x.jrnInB then none else x.jrnA, jrnB := if x.jrnInB then x.jrnB else none }) s

/-- Every stored entry is set to its default, at its apply time (R563). -/
def restoreDefaults (ep : Nat) (s : State) : State :=
  let keys := ((s.dict.inForce ++ s.dict.fixed ++ s.dict.held).map (·.1)).eraseDups.filter keyStored
  keys.foldl (fun s k => match dictFind (k / 256) (k % 256) with
    | some r => acceptValue ep r (k % 256) (rowDefault r (k % 256)) s
    | none => s) s

/-- The RWS entries of a working copy, every one of the dictionary in rising order (R624). -/
def sealedEntries (l : List (Nat × DVal)) : List (Nat × DVal) :=
  ((dictPageOf 0x6000).filter fun r => r.acc == .rws).flatMap fun r =>
    (List.range (r.subHi + 1 - r.subLo)).map fun i => (dkey r.num (r.subLo + i), setVal l r.num (r.subLo + i))

/-- The header of a set sealed on the device, with tag field zero, hash of the payload as stored and nonce (R624). The
stepping range is the device's own (DESIGN CHOICE, log entry 28). -/
def sealHeader (s : State) (n : Nat) (nonce body tag : List Byte) : List Byte :=
  let c := Config.steppingCore
  leBytes 4 0x4B505A44 ++ leBytes 2 0x0100 ++ [3, 0] ++ leBytes 2 0x4256 ++ [c, c] ++ leBytes 4 0 ++
    leBytes 4 (secCounter s 3) ++ leBytes 1 n ++ [0, 0, 0] ++ leBytes 4 body.length ++ leBytes 4 0xFF ++
    Config.sha384 body ++ nonce ++ tag ++ leBytes 4 0 ++ List.replicate 80 0 ++ Config.serial ++
    List.replicate 208 0 ++ List.replicate 96 0

/-- The working copy is sealed as set N into the copy not in force, its record last; the CRC-32 of the set (R560, R621,
R624). The nonce is a free value (log entry 7). -/
def sealSet (s : State) : State × Nat :=
  let n := pinSet s
  let plain := encSet 0x0100 n (sealedEntries (workCopy s))
  let crc := ofLe ((plain.drop (plain.length - 8)).take 4)
  let (x, s) := freeBits 96 s
  let nonce := leBytes 12 x.toNat
  let body := Config.encrypt nonce plain
  let h0 := sealHeader s n nonce body (List.replicate 16 0)
  let h := sealHeader s n nonce body (Config.gcmTag nonce (aadOf h0) body)
  let (c, w) := nextRecord (setPkg s n 0).rec_ (setPkg s n 1).rec_ 0 15
  let s := modArea (3, 2 * n + c) (fun _ => { head := h, body := body, rec_ := some w, plain := plain, auth := true }) s
  (logNow 0x0E08 noSrc crc (modXi (fun x => { x with work := none }) s), crc)

/-! ## DEVICE_CMD -/

/-- A refused state command: CMD_STATUS, entry 0x1E07 and the status of the response (R561 to R563). -/
def cmdRefuse (ep code why : Nat) (s : State) : Nat × List Byte × State :=
  let st := if why = 7 then 8 else if why = 8 then 11 else 12
  (st, [], logNow 0x1E07 ep (code + 256 * why) (modXi (fun x => { x with cmdStatus := why }) s))

/-- An accepted state command. -/
def cmdDone (s : State) : Nat × List Byte × State := (0, [], modXi (fun x => { x with cmdStatus := 0 }) s)

/-- The states a command is allowed from (R561). -/
def cmdFrom (code : Nat) (d : DevState) : Bool :=
  match code with
  | 1 => d == .run || d == .safe
  | 2 => d == .config
  | 3 => d == .safe
  | 4 => d == .config
  | 5 => d != .off && d != .dormant
  | 6 => d != .off && d != .dormant
  | 7 => d == .config || d == .run || d == .safe
  | 8 => d == .config
  | 9 => d == .config
  | _ => d == .config

/-- Why a command's own condition refuses it, as CMD_STATUS; 0 when it does not (R560, R561, R563, R566, R610). -/
def cmdCondition (ep code : Nat) (s : State) : Nat :=
  match code with
  | 2 => runRefused s
  | 3 => if s.saf.causes.isEmpty && s.saf.latched.isEmpty then 0 else 6
  | 7 => if s.xi.storing.isSome then 7 else if !flashWindow s then 8 else 0
  | 9 =>
    if !isSafety s ep then 9
    else if s.xi.storing.isSome then 7
    else if !flashWindow s then 8
    else if !(pinsForSet s && setRules412 (workCopy s) && setRules432 s (workCopy s)) then 10
    else 0
  | 10 => if isSafety s ep then 0 else 9
  | _ => 0

/-- The effect of an accepted command (R561, R562). -/
def cmdEffect (ep code : Nat) (s : State) : Nat × List Byte × State :=
  match code with
  | 1 => cmdDone (enterConfigNow ep s)
  | 2 => cmdDone (enterRunNow ep s)
  | 3 => cmdDone (setState .run ep 3 s)
  | 4 => cmdDone (modXi (fun x => { x with dormantAt := some (s.tb, ep) }) s)
  | 5 => cmdDone (modXi (fun x => { x with resetAt := some (x.resetAt.getD (.warm, s.tb, ep)) }) s)
  | 6 => cmdDone (modXi (fun x => { x with
      resetAt := some (.full, match x.resetAt with | some (.full, a) => a | _ => (s.tb, ep)) }) s)
  | 7 => cmdDone (storeStart s)
  | 8 => cmdDone (restoreDefaults ep s)
  | 9 =>
    let r := sealSet s
    let d := cmdDone r.1
    (0, leBytes 4 r.2, d.2.2)
  | _ => cmdDone (modXi (fun x => { x with work := none }) s)

/-- DEVICE_CMD: state, transport and conditions in turn, then the effect; status, VALUE and state (R561). -/
def deviceCmd (ep code : Nat) (s : State) : Nat × List Byte × State :=
  if !cmdFrom code s.dev then cmdRefuse ep code 1 s
  else if !bit (parN s 0x1013 0) ep then cmdRefuse ep code 2 s
  else if cmdCondition ep code s != 0 then cmdRefuse ep code (cmdCondition ep code s) s
  else cmdEffect ep code s

/-! ## Rows -/

/-- DORMANT_ENTRY: 10 ms after the response: DORM_WAKE_EN and DORM_WAKE_TIME reach the wake logic, ball PWRREQ goes low,
sessions close, bridge, excitations and networks stop (R341, R551, R562, R614, R690). -/
def execDormantEntry (t : Nat) (s : State) : Host.Outcome State Fault Refusal :=
  let s := s.start t
  match s.xi.dormantAt with
  | some (a, ep) =>
    if s.dev == .config && decide (a + 10 * msU ≤ s.tb) then
      let s := modXi (fun x => { x with dormantAt := none }) s
      let s := (upto 10).foldl (fun s ep => closeSess ep s) s
      let s := leaveConfig s
      let s := modThm (fun x => { x with
        wakeEn := parN s 0x7018 0, wakeTime := parN s 0x7019 0, pwrreq := false, dormantFrom := s.tb }) s
      let s := injEnd 4 (bridgeStop s)
      let s := excApply (setState .dormant ep 4 { s with saf := { s.saf with srcOn := false } })
      let s := modXi (fun x => { x with can := x.can.map fun p => (p.1, { p.2 with joined := false }) }) s
      done (emit (.ball "PWRREQ" 0) s)
    else done s
  | none => done s

/-- STORE_COMPLETE: the snapshot and, last, the trailer are programmed: the copy holds the generation plus 1 (R564, R565). -/
def execStoreComplete (t : Nat) (s : State) : Host.Outcome State Fault Refusal :=
  let s := s.start t
  match s.xi.storing with
  | none => done s
  | some l =>
    let gen := s.xi.storeGen + 1
    let groups := ((l.map fun p => groupOfNum (p.1 / 256)).eraseDups)
    let j : Jrn := { gen := gen, ents := l, vers := groups.foldl (fun b g => bset b g (groupVer s g)) [] }
    let s := modXi (fun x => { x with
      storing := none, storeSt := 2, storeGen := gen, jrnInB := !x.jrnInB
      jrnA := if x.jrnInB then some j else x.jrnA, jrnB := if x.jrnInB then x.jrnB else some j }) s
    done (logNow 0x0E02 noSrc gen.toNat s)

/-- AUTORUN: once the reference is ready and no measurement is pending, or AUTORUN_WAIT has passed since the entry to
CONFIG, the device acts as if ENTER_RUN had been received; a refusal is logged with SOURCE 0x1FF (R660). -/
def execAutorun (t : Nat) (s : State) : Host.Outcome State Fault Refusal :=
  let s := s.start t
  let ready := s.adc.refReady && measPending s == 0
  let late := decide (s.rst.configAt + parN s 0x1016 0 * msU ≤ s.tb)
  if s.rst.autoWait && s.dev == .config && (ready || late) then
    let s := modRst (fun r => { r with autoWait := false }) s
    if runRefused s != 0 then done (cmdRefuse noSrc 2 (runRefused s) s).2.2
    else done (cmdEffect noSrc 2 s).2.2
  else done s

end Sys2Proof.Machine
end

