-- ==== Sys2Proof/Machine/Update.lean ====
section
/-!
DEFINITION. Firmware and configuration update: what UPD_CMD, UPD_DATA, the authentication and SIG_REVOKE do, and the
update's rows that no request carries (R625 to R640).
-/
namespace Sys2Proof.Machine

/-- What a request answers: status, VALUE and the state after it. -/
abbrev Rsp := Nat × List Byte × State

/-- A request that completes with no VALUE. -/
def rspOk (s : State) : Rsp := (0, [], s)

/-- A refused update request: its status, and where the chapter has a reason, UPD_RESULT (R635). -/
def updRefuse (status reason : Nat) (s : State) : Rsp :=
  (status, [], if reason = 0 then s else modUpd (fun u => { u with result := reason }) s)

/-- A state or session condition refuses the request: status REFUSED, reason 9 (R635; which status goes with reason 9 is
a DESIGN CHOICE, log entry 29). -/
def updState (s : State) : Rsp := updRefuse 12 9 s

/-- Another endpoint holds the update lock (R630). -/
def lockedOut (ep : Nat) (s : State) : Bool := s.upd.lock.isSome && s.upd.lock != some ep

/-- The endpoint holds the update lock. -/
def lockHeld (ep : Nat) (s : State) : Bool := s.upd.lock == some ep

/-- An update write of the holder keeps the lock (R630, R631). -/
def lockTouch (s : State) : State := modUpd (fun u => { u with lockAt := s.tb }) s

/-- Every update write of the endpoint that holds the lock keeps it, a refused one too (R630, R631). -/
def lockKeep (ep : Nat) (s : State) : State := if lockHeld ep s then lockTouch s else s

/-- The lock is released; in RECEIVING to VERIFIED the staged package is discarded (R631). -/
def updRelease (s : State) : State :=
  let drop := decide (2 ≤ s.upd.st) && decide (s.upd.st ≤ 5)
  let s := match s.upd.area with
    | some a => if drop then modArea a (fun _ => {}) s else s
    | none => s
  modUpd (fun u => { u with st := 0, lock := none, area := none, buf := [], received := 0 }) s

/-- UPD_CMD OPEN: BUSY while another endpoint holds the lock, SAFETY without privilege (in the order of the example of
R640); a package verified again after a reset is reopened in VERIFIED (R630, R632, R640; DEDUCED, log entry 29). -/
def updOpen (ep : Nat) (s : State) : Rsp :=
  if lockedOut ep s then (8, [], s)
  else if !(sessOf s ep).priv then (9, [], s)
  else if s.upd.st != 0 then updState s
  else match s.upd.bgReady with
    | some a => rspOk (lockTouch (modUpd (fun u => { u with
        st := 5, lock := some ep, area := some a, bgReady := none, result := 0
        received := (areaPkg s a).body.length + 512 }) s))
    | none => rspOk (lockTouch (modUpd (fun u => { u with
        st := 1, lock := some ep, received := 0, result := 0, buf := [], area := none }) s))

/-- All bytes of the package are programmed: status word 0x0000FFFF, RECEIVED, entry 0x0E10 (R634). -/
def updReceived (ep : Nat) (a : Nat × Nat) (s : State) : State :=
  logNow 0x0E10 ep a.1 (modUpd (fun u => { u with st := 3 }) (modArea a (fun p => { p with status := 0x0000FFFF }) s))

/-- Bytes up to the header's end: kept; when byte 511 is among them the header is checked, the staging area chosen and
erased, and the rest of the chunk programmed (R622, R633, R634). -/
def updHeader (ep : Nat) (all : List Byte) (s : State) : Rsp :=
  let h := all.take 512
  let ty := hdrType h
  let got := fun (s : State) => lockTouch (modUpd (fun u => { u with received := all.length }) s)
  if all.length < 512 then rspOk (got (modUpd (fun u => { u with st := 2, buf := all }) s))
  else if !headerOk h then rspOk (got (modUpd (fun u => { u with st := 7, result := 1, buf := [] }) s))
  else if ty = 1 && ((selRecord s).map fun r => recTrial r.2) != some 15 && s.dev != .recovery then updState s
  else if 512 + hdrLen h < all.length then (4, [], s)
  else
    let a := (ty, stagingArea s ty (hdrTarget h))
    let s := modArea a (fun _ => { head := h, body := all.drop 512 }) s
    let s := got (modUpd (fun u => { u with st := 2, buf := [], area := some a, bgReady := none }) s)
    rspOk (if all.length = 512 + hdrLen h then updReceived ep a s else s)

/-- Bytes of the payload: programmed at the end of what the area holds (R634). -/
def updBody (ep : Nat) (a : Nat × Nat) (d : List Byte) (s : State) : Rsp :=
  let len := 512 + hdrLen (areaPkg s a).head
  if len < s.upd.received + d.length then (4, [], s)
  else
    let s := modArea a (fun p => { p with body := p.body ++ d }) s
    let s := lockTouch (modUpd (fun u => { u with received := u.received + d.length }) s)
    rspOk (if s.upd.received = len then updReceived ep a s else s)

/-- UPD_DATA: the lock, the state, the offset, a Store and the temperature window, then the bytes. A chunk that runs past
the package is REJECTED (R630, R634; the latter DEDUCED, log entry 29). -/
def updData (ep : Nat) (v : List Byte) (s : State) : Rsp :=
  let ofs := ofLe (v.take 4)
  let d := v.drop 4
  if lockedOut ep s then (8, [], s)
  else if !lockHeld ep s || (s.upd.st != 1 && s.upd.st != 2) then updState s
  else if ofs != s.upd.received then (4, [], s)
  else if s.xi.storing.isSome then (8, [], s)
  else if !flashWindow s then (11, [], s)
  else match s.upd.area with
    | some a => updBody ep a d s
    | none => updHeader ep (s.upd.buf ++ d) s

/-- UPD_CMD VERIFY (R632, R635). -/
def updVerify (ep : Nat) (s : State) : Rsp :=
  if lockedOut ep s then (8, [], s)
  else if !lockHeld ep s || s.upd.st != 3 then updState s
  else rspOk (lockTouch (modUpd (fun u => { u with st := 4 }) s))

/-- A package of a type is put in force: type 1 a boot selector record with TRIAL 2, types 2 and 3 the copy's record, with
the counter raised; the eye-safety table at once (R77, R621, R627, R636). -/
def activate (a : Nat × Nat) (s : State) : State :=
  let p := areaPkg s a
  match a.1 with
  | 1 => selWrite a.2 2 s
  | 2 =>
    let w := (nextRecord (eyePkg s 0).rec_ (eyePkg s 1).rec_ 0 15).2
    let s := raiseCounter 2 (hdrSec p.head) (modArea a (fun p => { p with rec_ := some w }) s)
    match eyeTable (plainOf p) with
    | some t => eyeAccept t s
    | none => s
  | _ =>
    let n := a.2 / 2
    let w := (nextRecord (setPkg s n 0).rec_ (setPkg s n 1).rec_ 0 15).2
    let pl := plainOf p
    raiseCounter 3 (hdrSec p.head) (modArea a (fun p => { p with rec_ := some w, plain := pl }) s)

/-- UPD_CMD ACTIVATE: only in VERIFIED, in CONFIG (in RECOVERY for type 1), and within the window of R610 (R636). -/
def updActivate (ep : Nat) (s : State) : Rsp :=
  if lockedOut ep s then (8, [], s)
  else match s.upd.area with
    | none => updState s
    | some a =>
      if !lockHeld ep s || s.upd.st != 5 || !(s.dev == .config || (s.dev == .recovery && a.1 == 1)) then updState s
      else if s.xi.storing.isSome then (8, [], s)
      else if !flashWindow s then updRefuse 11 12 s
      else rspOk (logNow 0x0E12 ep (a.1 + 256 * (if a.1 = 1 then a.2 else 0))
        (lockTouch (modUpd (fun u => { u with st := 6 }) (activate a s))))

/-- UPD_CMD ABORT and CLOSE: the lock is released (R631). -/
def updEnd (ep : Nat) (s : State) : Rsp :=
  if lockedOut ep s then (8, [], s)
  else if !lockHeld ep s then updState s
  else rspOk (updRelease s)

/-- UPD_CMD CONFIRM: host software confirms the image on trial (R638). -/
def updConfirm (ep : Nat) (s : State) : Rsp :=
  if lockedOut ep s then (8, [], s)
  else
    let s := if lockHeld ep s then lockTouch s else s
    rspOk (modUpd (fun u => { u with hostConfirm := u.hostConfirm || u.trialFrom.isSome }) s)

/-- UPD_CMD by its code (R645). -/
def updCmd (ep code : Nat) (s : State) : Rsp :=
  match code with
  | 1 => updOpen ep s
  | 2 => updVerify ep s
  | 3 => updActivate ep s
  | 4 => updEnd ep s
  | 5 => updEnd ep s
  | _ => updConfirm ep s

/-! ## Privilege -/

/-- A read of UPD_AUTH_CHALLENGE: 48 new random bytes, a free value (R628, log entry 7). -/
def authChallenge (ep : Nat) (s : State) : List Byte × State :=
  let (x, s) := freeBits 384 s
  let c := leBytes 48 x.toNat
  (c, modSess ep (fun e => { e with chal := some c }) s)

/-- A refused response counts; the third one locks the endpoint out (R629). -/
def authRefuse (ep status : Nat) (s : State) : Rsp :=
  let n := (sessOf s ep).refusals + 1
  if 3 ≤ n then
    (status, [], logNow 0x1E1B ep 0 (modSess ep (fun e => { e with refusals := 0, lockout := some s.tb }) s))
  else (status, [], modSess ep (fun e => { e with refusals := n }) s)

/-- UPD_AUTH_RESPONSE: REFUSED during the lockout, BUSY while another session is privileged, else accepted when key and
signature verify over challenge, SERIAL and endpoint; a challenge is answered once (R628, R629; a response that does not
verify is answered REFUSED, and one answered BUSY counts as refused: DEDUCED, log entry 30). -/
def authResponse (ep : Nat) (v : List Byte) (s : State) : Rsp :=
  let e := sessOf s ep
  if e.lockout.isSome then (12, [], s)
  else
    let s := modSess ep (fun e => { e with chal := none }) s
    if (upto 10).any fun k => k != ep && (sessOf s k).open_ && (sessOf s k).priv then authRefuse ep 8 s
    else match e.chal with
      | none => authRefuse ep 12 s
      | some c =>
        if Config.authOk (v.take 97) (v.drop 97) (c ++ Config.serial ++ leBytes 1 ep) then
          rspOk (modSess ep (fun e => { e with priv := true, refusals := 0 }) s)
        else authRefuse ep 12 s

/-- SIG_REVOKE: in a privileged session the fuses of the named keys blow, never that of the key that signed the running
image (R625, R645). -/
def sigRevoke (ep v : Nat) (s : State) : Rsp :=
  if !isSafety s ep then (9, [], s)
  else
    let h := (slotPkg s s.upd.running).head
    let keep : Nat := if h.isEmpty then 16 else hdrKey h
    let m := BitVec.ofNat 4 (ofBits 4 fun k => bit v k && k != keep)
    rspOk (modUpd (fun u => { u with revoked := u.revoked ||| m }) s)

/-! ## Rows -/

/-- VERIFY_COMPLETE: VERIFIED with status word 0, or FAILED with the reason and entry 0x1E11 (R635). -/
def execVerifyComplete (t : Nat) (s : State) : Host.Outcome State Fault Refusal :=
  let s := s.start t
  match s.upd.area with
  | none => done s
  | some a =>
    if s.upd.st != 4 then done s
    else
      let r := verifyPkg s (areaPkg s a)
      let s := modUpd (fun u => { u with st := if r = 0 then 5 else 7, result := r }) s
      done (if r = 0 then modArea a (fun p => { p with status := 0 }) s
        else logNow 0x1E11 (s.upd.lock.getD 0x1FF) r s)

/-- AUTH_LOCKOUT_END: 60 s after the third refusal the endpoint may respond again (R629). -/
def execAuthLockoutEnd (t : Nat) (ep : Fin 10) (s : State) : Host.Outcome State Fault Refusal :=
  let s := s.start t
  match (sessOf s ep).lockout with
  | some a => if a + 60 * secU ≤ s.tb then done (modSess ep (fun e => { e with lockout := none }) s) else done s
  | none => done s

/-- UPDATE_LOCK_EXPIRY: 30 s without an update write release the lock, with reason 10 (R631, R635). -/
def execUpdateLockExpiry (t : Nat) (s : State) : Host.Outcome State Fault Refusal :=
  let s := s.start t
  match s.upd.lock with
  | some ep =>
    if s.upd.lockAt + 30 * secU ≤ s.tb then
      done (logNow 0x1E1C ep 0 (modUpd (fun u => { u with result := 10 }) (updRelease s)))
    else done s
  | none => done s

/-- The conditions of R638 hold for the image on trial. -/
def confirmOk (s : State) : Bool :=
  (s.dev == .config || s.dev == .run || s.dev == .safe) && !s.upd.fatalSeen && s.tbs.lock && s.rst.linksTrained &&
    (!parB s 0x800E 0 || s.upd.hostConfirm)

/-- IMAGE_CONFIRMED: within 60 s of the end of the reset the record takes TRIAL 0xF, the firmware counter rises, entry
0x0E13 (R627, R638). -/
def execImageConfirmed (t : Nat) (s : State) : Host.Outcome State Fault Refusal :=
  let s := s.start t
  match s.upd.trialFrom with
  | some a =>
    if confirmOk s && decide (s.tb < a + 60 * secU) then
      let v := hdrSec (slotPkg s s.upd.running).head
      let s := raiseCounter 1 v (selWrite s.upd.running 15 s)
      done (logNow 0x0E13 noSrc v (modUpd (fun u => { u with trialFrom := none }) s))
    else done s
  | none => done s

/-- TRIAL_EXPIRED: 60 s without confirmation: entry 0x2E14 and a FULL reset with cause 2 (R639). -/
def execTrialExpired (t : Nat) (s : State) : Host.Outcome State Fault Refusal :=
  let s := s.start t
  match s.upd.trialFrom with
  | some a =>
    if a + 60 * secU ≤ s.tb then
      let left := match selRecord s with | some (_, w) => recTrial w | none => 0
      let s := logNow 0x2E14 noSrc left (modUpd (fun u => { u with trialFrom := none }) s)
      done (modRst (fun r => { r with request := match r.request with
        | some (.full, c) => some (.full, c)
        | _ => some (.full, 2) }) s)
    else done s
  | none => done s

end Sys2Proof.Machine
end

