-- ==== Sys2Proof/Machine/Requests.lean ====
section
/-!
DEFINITION. Xiest: messages, sessions, the operations and what a request does (R545 to R553, R643, R683 to R685).
-/
namespace Sys2Proof.Machine

/-! ## Messages (R546) -/

/-- A request as a transport delivered it: fields, whether its CRC holds, and the CRC. -/
structure Req where
  op : Byte := 0
  tag : Byte := 0
  num : Nat := 0
  sub : Nat := 0
  val : List Byte := []
  good : Bool := true
  crc : BitVec 32 := 0
deriving DecidableEq, Repr

/-- Bytes 0 to 7 of a message. -/
def xiHead (op tag : Byte) (num sub st len : Nat) : List Byte :=
  [op, tag] ++ leBytes 2 num ++ leBytes 1 sub ++ leBytes 1 st ++ leBytes 2 len

/-- A message with its CRC (R546). -/
def xiMsg (op tag : Byte) (num sub st : Nat) (val : List Byte) : List Byte :=
  let b := xiHead op tag num sub st val.length ++ val
  b ++ leBytes 4 (crc32c b).toNat

/-- A request from its fields, with the CRC that its bytes have. -/
def mkReq (op tag : Byte) (num sub : Nat) (val : List Byte) (good : Bool) : Req :=
  { op := op, tag := tag, num := num, sub := sub, val := val, good := good
    crc := crc32c (xiHead op tag num sub 0 val.length ++ val) }

/-- Length of a message from its first bytes. -/
def xiLen (m : List Byte) : Nat := 12 + ofLe ((m.drop 6).take 2)

/-- A request from its bytes; what follows its length is padding, and a short one fails its CRC (R546, R556). -/
def parseReq (m : List Byte) : Req :=
  let n := xiLen m - 12
  let crc := ofLe ((m.drop (8 + n)).take 4)
  { op := m.getD 0 0, tag := m.getD 1 0, num := ofLe ((m.drop 2).take 2), sub := ofLe ((m.drop 4).take 1)
    val := (m.drop 8).take n, crc := BitVec.ofNat 32 crc
    good := decide (12 + n ≤ m.length) && crc32c (m.take (8 + n)) == BitVec.ofNat 32 crc }

/-- The response to a request (R546). -/
def rspMsg (r : Req) (st : Nat) (val : List Byte) : List Byte := xiMsg (r.op + 0x80) r.tag r.num r.sub st val

/-! ## Operations -/

/-- A snapshot of HIST_SNAP_CH is requested (R179). -/
def snapArm (s : State) : State := { s with ee := { s.ee with snapArmed := some (parN s 0x2C18 0) } }

/-- The committed sets are copied into CAL_STORED_SET, in force at once; a written image not yet applied is dropped
(R246). -/
def calSnap (s : State) : State :=
  let s := setPar 0x3421 0 (.bytes (calImage s)) s
  { s with dict := { s.dict with held := bdel s.dict.held (dkey 0x3421 0) } }

/-- MIR_PRI_RETRY: REJECTED unless control runs on the secondary with the primary out of service and no retry (R309). -/
def priRetry (s : State) : Rsp :=
  let l := s.lce
  if l.inUse == 1 && l.priOos && !l.retry && l.mode != 2 && l.mode != 4 then
    rspOk (modLce (fun l => { l with retry := true, retryFrame := false, retryBad := false }) s)
  else (4, [], s)

/-- MIR_RESTART: leaves mode 2, or a latched mode 4, and closes the loop; without a working source the latch remains
(R310 to R312). -/
def mirRestart (s : State) : State :=
  if !s.lce.latched then s
  else if s.lce.mode = 4 then
    let s := bridgeStart (modLce (fun l => { l with latched := false }) s)
    if s.lce.restartWait then s else modLce (fun l => { l with latched := true }) s
  else closeLoop s

/-- INJ_START: refused during an injection, and with INJ_DEST 1 unless a stream of source 6, selector 0xFF records (R316,
R318, R467). -/
def injStart (s : State) : Rsp :=
  let rec_ := (upto 16).any fun n => (strOf s n).source == 6 && parN s 0x6811 n == 0xFF && strState s n == 1
  if s.lce.injRun || s.lce.injWait || (parN s 0x4038 0 == 1 && !rec_) then (4, [], s)
  else rspOk (modLce (fun l => { l with
    injWait := true, injRun := false, injLaw := parN s 0x4030 0, injK := 0, injStatus := 1, injBuf := [], prbs := 1, injPhase := 0 }) s)

/-- ADC_SEQ_COMMIT of ADCn: an invalid staging copy is refused (R327). -/
def adcCommit (n : Nat) (s : State) : Rsp := (if seqValid (stagedSlots s n) then 0 else 4, [], seqCommit n s)

/-- REC_READ: refused for a ring outside 0 to 31 or of another kind, and for a segment without a capture, with
REC_READ_STATUS 3 (R250, R483). -/
def recRead (v : Nat) (s : State) : Rsp :=
  let ring := v / 256
  let n := bits v 7 4
  let ok := decide (ring < 32) && (ringKinds s ring).all (· == 5) && (segOf s n (bits v 2 0)).sealRec.isSome
  if ok then rspOk (recReadWrite v s) else (4, [], modRec (fun c => { c with readSt := 3 }) s)

/-- What an accepted write of a WO entry does; a BOOL written 0 does nothing. -/
def woWrite (ep num sub : Nat) (l : List Byte) (s : State) : Rsp :=
  let v := ofLe l
  match num with
  | 0x1012 => deviceCmd ep v s
  | 0x8000 => updCmd ep v (lockKeep ep s)
  | 0x8002 => updData ep l (lockKeep ep s)
  | 0x8007 => authResponse ep l s
  | 0x800D => sigRevoke ep v s
  | 0x6820 => rspOk (recRearmWrite v s)
  | 0x6821 => rspOk (recReleaseWrite v s)
  | 0x6822 => recRead v s
  | 0x6824 => rspOk (recMissedClrWrite v s)
  | _ =>
    if v = 0 then rspOk s
    else match num with
      | 0x2825 => rspOk (ppsArmWrite true s)
      | 0x2C19 => rspOk (snapArm s)
      | 0x3420 => rspOk (calSnap s)
      | 0x4022 => priRetry s
      | 0x4023 => rspOk (mirRestart s)
      | 0x403A => injStart s
      | 0x403B => rspOk (injEnd 5 s)
      | 0x4404 => adcCommit sub s
      | 0x480A => rspOk (syncRequest s)
      | 0x681F => rspOk (recTrigger 0 (t64Now s) s)
      | 0x7414 => rspOk (firstClear s)
      | _ => rspOk s

/-- WRITE: the checks of R545 in their order, then the effect; an accepted write of a WO entry takes effect at once and
gives its dictionary record (R15, R478, R545). -/
def xiWrite (ep : Nat) (r : Req) (s : State) : Rsp :=
  let st := writeStatus ep r.num r.sub r.val s
  if st != 0 then (st, [], s)
  else match dictFind r.num r.sub with
    | none => (1, [], s)
    | some row =>
      if row.acc == .wo then
        let x := woWrite ep r.num r.sub r.val s
        if x.1 = 0 then
          (0, x.2.1, dictRecord (dkey r.num r.sub) (decVal row.ty r.val) (transportOf ep) x.2.2)
        else x
      else rspOk (writeValue ep r.num r.sub r.val s)

/-- READ: the value in force; an RC entry then reads 0, and UPD_AUTH_CHALLENGE is new at each read (R14, R16, R547,
R628). -/
def xiRead (ep : Nat) (r : Req) (s : State) : Rsp :=
  let st := readStatus r.num r.sub s
  if st != 0 then (st, [], s)
  else if r.num = 0x8006 then
    let x := authChallenge ep s
    (0, x.1, x.2)
  else match dictFind r.num r.sub with
    | none => (1, [], s)
    | some row =>
      let v := (encVal row.ty (view s r.num r.sub)).take maxVal
      (0, v, if row.acc == .rc then modChan r.sub (fun c => { c with ovf := 0 }) s else s)

/-- Codes of types, access and apply times (R683). -/
def tyCode : DTy → Nat
  | .bool => 0
  | .u8 => 1
  | .u16 => 2
  | .u32 => 3
  | .u64 => 4
  | .i8 => 5
  | .i16 => 6
  | .i32 => 7
  | .fx32 => 9
  | .t64 => 10
  | .enum => 11
  | .str => 12
  | .blob => 13
/-- See tyCode. -/
def accCode : DAcc → Nat
  | .ro => 0
  | .rw => 1
  | .wo => 2
  | .rwc => 3
  | .rws => 4
  | .rc => 5
/-- See tyCode. -/
def appCode : DApp → Nat
  | .imm => 0
  | .phase => 1
  | .frame => 2
  | .ctx => 3
  | .rst => 4
  | .none => 0xFF
/-- Persistence: 0 volatile, 1 stored, 2 sealed (R544, R547). -/
def persCode (r : DRow) : Nat := if r.acc == .rws then 2 else if rowStored r then 1 else 0

/-- The 16 bytes of DESCRIBE; the default of an identity entry is the die's, device's or image's own value (R2, R547, R683). -/
def describe (s : State) (r : DRow) (sub : Nat) : List Byte :=
  let v := if 0x1001 ≤ r.num && decide (r.num ≤ 0x1005) then (viewA s r.num sub).getD (rowDefault r sub) else rowDefault r sub
  let d := (encVal r.ty v).take 8
  leBytes 1 (tyCode r.ty) ++ leBytes 1 (accCode r.acc) ++ leBytes 1 (appCode r.app) ++ leBytes 1 (persCode r) ++
    [0, 0, 0, 0] ++ d ++ List.replicate (8 - d.length) 0

/-- DESCRIBE; RECOVERY does not offer it (R542, R643, R683). -/
def xiDescribe (r : Req) (s : State) : Rsp :=
  if s.dev == .recovery then (2, [], s)
  else match dictFind r.num r.sub with
    | none => (1, [], s)
    | some row => (0, describe s row r.sub, s)

/-- OPEN: closes the endpoint's session and opens one at the highest common version, or answers NO_VERSION with the
device's range (R547, R551, R552, R684). -/
def xiOpen (ep : Nat) (r : Req) (s : State) : Rsp :=
  if r.val.length != 4 then (5, [], s)
  else
    let c := negotiate verDev verDev (ofLe (r.val.take 2)) (ofLe (r.val.drop 2))
    let s := closeSess ep s
    let v := leBytes 2 c ++ leBytes 2 verDev ++ leBytes 2 verDev
    if c = 0 then (7, v, s)
    else (0, v, modSess ep (fun e => { e with open_ := true, ver := BitVec.ofNat 16 c }) s)

/-- A request of an open session, by its operation (R547). -/
def xiExec (ep : Nat) (r : Req) (s : State) : Rsp :=
  match r.op.toNat with
  | 0x01 => xiOpen ep r s
  | 0x02 => rspOk (closeSess ep s)
  | 0x10 => xiRead ep r s
  | 0x11 => xiWrite ep r s
  | 0x12 => xiDescribe r s
  | _ => (2, [], s)

/-! ## Requests -/

/-- The transport of an endpoint delivers requests now (R551, R575, R643, R649, R653, R685). -/
def delivers (s : State) (ep : Nat) : Bool :=
  s.dev != .off && s.dev != .dormant && s.rst.phase != .held &&
    (if ep = 0 then (canOf s (xiNet s)).joined && !(canOf s (xiNet s)).busOff
     else if ep = 1 then !s.pci.perst
     else (laneOf s (ep - 2)).st == 4 && s.dev != .recovery)

/-- A request equal to the session's last one by TAG and CRC within 1 s of it (R549). -/
def isRepeat (ep : Nat) (r : Req) (s : State) : Bool :=
  (sessOf s ep).open_ && (sessOf s ep).lastTag == some (r.tag, r.crc) && decide (s.tb ≤ (sessOf s ep).lastAt + secU)

/-- What the session remembers of a completed request: its time, its response, and the version for VER_XIEST (R549,
R551, R552). -/
def remember (ep : Nat) (r : Req) (m : List Byte) (s : State) : State :=
  if (sessOf s ep).open_ then
    modXi (fun x => { x with ver := (sessOf s ep).ver })
      (modSess ep (fun e => { e with lastAt := s.tb, lastTag := some (r.tag, r.crc), lastRsp := m }) s)
  else s

/-- The instant that the response to an accepted write waits for: the sample tick at which a bank change of a law other than 3
and 5 takes effect, the sequence start at which a commit or a change of structure does (R294, R327, R367). -/
def waitsFor (r : Req) (st : Nat) : Option Nat :=
  if r.op != 0x11 || st != 0 then none
  else if r.num = 0x4404 && ofLe r.val != 0 then some 1
  else ackWait (dkey r.num r.sub)

/-- A request that reaches MC0: executed and answered, or answered with STATE before CONFIG, with NO_SESSION without a
session, with the stored response when it is a repetition, unless that response still waits for its instant; discarded when its CRC fails (R549, R551). -/
def serve (ep : Nat) (r : Req) (s : State) : State :=
  if !delivers s ep then s
  else if !r.good then modXi (fun x => { x with crcErr := satInc x.crcErr }) s
  else if s.dev == .boot then respond ep (rspMsg r 3 []) s
  else if isRepeat ep r s then
    let u := modSess ep (fun e => { e with lastAt := s.tb }) s
    if s.xi.owed.any (fun x => x.2.1 == ep && x.2.2 == (sessOf s ep).lastRsp) then u else respond ep (sessOf s ep).lastRsp u
  else if !(sessOf s ep).open_ && r.op != 0x01 then respond ep (rspMsg r 6 []) s
  else
    let v := (sessOf s ep).ver
    let x := xiExec ep r s
    let m := rspMsg r x.1 x.2.1
    let s := if r.op == 0x02 then modXi (fun y => { y with ver := v }) x.2.2 else x.2.2
    match waitsFor r x.1 with
    | some k => owe k ep m (remember ep r m s)
    | none => respond ep m (remember ep r m s)

/-- A WRITE request served. -/
def serveWrite (ep : Nat) (tag : Byte) (num sub : Nat) (val : List Byte) (s : State) : State :=
  serve ep (mkReq 0x11 tag num sub val true) s

end Sys2Proof.Machine
end

