-- ==== Sys2Proof/Machine/Reset.lean ====
section
/-!
DEFINITION. Reset requests and the begin of a reset: what asks for one, what it stops and what of the state it keeps; the
PCIE reset; wake from DORMANT (R46, R445, R447, R511, R512, R535, R562, R614, R615, R640, R647, R651 to R654, R662).
-/
namespace Sys2Proof.Machine

/-! ## Requests -/

/-- A reset is requested: FULL above WARM, and the cause of the first request of the level that stays (R653). -/
def requestReset (level : ResetLevel) (cause : Nat) (s : State) : State :=
  modRst (fun r => { r with request := match r.request with
    | none => some (level, cause)
    | some (l, c) => if l = .full || level = .warm then some (l, c) else some (level, cause) }) s

/-- PORN: PORn low for 10 µs or more (R652). -/
def execPorn (t : Nat) (s : State) : Host.Outcome State Fault Refusal := done (requestReset .full 0 (s.start t))

/-- SUPPLY_MONITOR: a monitored supply is below its threshold, by the rows of R647 that lead to a FULL reset: 0 VDD_IO,
1 VDD_PCIE, 2 VDD_CORE, 3 VDD_SLK, 4 VDD2 or VDDQ, 5 VDD_AFE or VDD_TB, 6 VFLD, 7 V5_EXC. In DORMANT the board may
remove every supply but VDD_IO (R614). -/
def execSupplyMonitor (t : Nat) (supply : Fin 8) (s : State) : Host.Outcome State Fault Refusal :=
  let s := s.start t
  if s.dev == .dormant && supply != 0 then done s else done (requestReset .full 1 s)

/-- CORE_WATCHDOG: a management core hangs: WARM reset, or FULL when the previous watchdog reset came within 60 s; a second hang
before the reset of the first has begun is of the same reset (R46, R652, R654). -/
def execCoreWatchdog (t : Nat) (core : Fin 4) (s : State) : Host.Outcome State Fault Refusal :=
  let s := s.start t
  if s.dev == .off || s.dev == .dormant then done s
  else
    let s := logNow 0x3002 core 0 s
    let waits := match s.rst.request with
      | some (_, c) => c == 2
      | none => false
    let again := !waits && match s.rst.wdgAt with
      | some a => decide (s.tb ≤ a + 60 * secU)
      | none => false
    let s := modRst (fun r => { r with wdgAt := some s.tb, escal := if again then some core.val else r.escal }) s
    done (requestReset (if again then .full else .warm) 2 s)

/-- A safety-core fatal error: outputs off at once, entry 0x4003, FULL reset; a trial cannot confirm any more (R46, R638). -/
def safetyFatal (s : State) : State :=
  let s := (upto 4).foldl (fun s n => fastOff n (modOut n (fun o => { o with request := false }) s)) s
  requestReset .full 4 (logNow 0x4003 noSrc 0 (modUpd (fun u => { u with fatalSeen := true }) s))

/-- SAFETY_CORE_FATAL_ERROR (R46). -/
def execSafetyCoreFatalError (t : Nat) (s : State) : Host.Outcome State Fault Refusal :=
  let s := s.start t
  if s.dev == .off || s.dev == .dormant then done s else done (safetyFatal s)

/-- SC_SELF_TEST: a passed test changes nothing, a failed one is fatal (R445). -/
def execScSelfTest (t : Nat) (pass : Bool) (s : State) : Host.Outcome State Fault Refusal :=
  let s := s.start t
  if pass || s.dev == .off || s.dev == .dormant then done s else done (safetyFatal s)

/-! ## What a reset keeps (R662) -/

/-- The SAFE causes that only a FULL reset removes (R447). -/
def fullOnly (c : SafeCause) : Bool :=
  match c with
  | .outFault => true
  | .gateFault => true
  | .fireRule => true
  | .unplanned => true
  | .secondLink => true
  | .eyeEcc => true
  | .feKat => true
  | _ => false

/-- The inhibits that stay with those causes (R447). -/
def fullOnlyInhibit (w : Inhibit) : Bool :=
  match w with
  | .secondLink => true
  | .eyeEcc => true
  | .fireRule => true
  | .gateFault => true
  | .unplanned => true
  | _ => false

/-- The field-evaluator cause stays over a FULL reset that comes from inside the device (R445). -/
def katStays (cause : Nat) : Bool := cause == 2 || cause == 4

/-- SAFE causes kept by a reset (R445, R447). -/
def causesKept (level : ResetLevel) (cause : Nat) (s : State) : List SafeCause :=
  s.saf.causes.filter fun c => if level = .full then c == .feKat && katStays cause else fullOnly c

/-- Flash and its firmware counters survive; the lock is released, and what is staged stays in flash for BOOT (R631, R640,
log entry 33). -/
def updKept (u : UpdS) : UpdS :=
  { sel0 := u.sel0, sel1 := u.sel1, slots := u.slots, eyeCopies := u.eyeCopies, setCopies := u.setCopies
    counters := u.counters, revoked := u.revoked, raisePend := u.raisePend, running := u.running }

/-- The journal survives; a Store in progress is not done (R567, R662). -/
def xiKept (x : XiS) : XiS :=
  { jrnA := x.jrnA, jrnB := x.jrnB, jrnInB := x.jrnInB, storeLost := x.storeLost || x.storing.isSome }

/-- The error log over a reset; again marks a FULL reset that meets one still in progress (R511, R653). -/
def logKept (level : ResetLevel) (again : Bool) (l : LogS) : LogS :=
  if level = .full then
    { prevFirst := if again then l.prevFirst else l.first.getD {}, resetCause := l.resetCause }
  else l

/-- The write engine stops: the queue is dropped and the block in progress is lost; a stream in REARM records nothing (R484). -/
def strKept (tb : Nat) (st : StrS) : StrS :=
  if st.st = 1 && decide (tb < st.rearmUntil) then
    { st with queue := [], lost := 0, missed := 0, missedT := 0, retrig := 0, st := 0, segs := bdel st.segs st.seg }
  else
  { st with
    queue := [], lost := 0, missed := 0, missedT := 0, retrig := 0
    segs := st.segs.map fun p => (p.1, if p.1 = st.seg && (st.st == 1 || st.st == 2) then
      { p.2 with data := p.2.data.take (p.2.data.length - p.2.used)
                 starts := p.2.starts.filter fun q => decide (q.2 < blockBytes * p.2.blocks)
                 used := 0, blkItems := 0, blkT64 := 0, blkOfs := 65535 } else p.2) }

/-- The DRAM over a WARM reset (R484). -/
def carKept (tb : Nat) (c : RecS) : RecS :=
  { chOos := c.chOos, capMiB := c.capMiB, captureNo := c.captureNo, bootEpoch := c.bootEpoch, alloc := c.alloc
    str := c.str.map fun p => (p.1, strKept tb p.2) }

/-- The wake logic, the supplies and PWRREQ; the count of shutdowns over a WARM reset (R614, R618, R648). -/
def thmKept (level : ResetLevel) (x : ThmS) : ThmS :=
  { wakeSrc := x.wakeSrc, duration := x.duration, wakeEn := x.wakeEn, wakeTime := x.wakeTime
    vmach := x.vmach, vmachLow := x.vmachLow, vhv := x.vhv, vhvLow := x.vhvLow
    shutdowns := if level = .full then 0 else x.shutdowns }

/-- Calliope's holds and counts over a reset (R34, R89, R102, R122, R424, R447). -/
def fldKept (level : ResetLevel) (f : FldS) : FldS :=
  if level = .full then {} else
    { gateHold := f.gateHold, switchCount := f.switchCount, crcErr := f.crcErr, retx := f.retx
      bankS := f.bankS.map fun p => (p.1, { chargerHold := p.2.chargerHold, topHold := p.2.topHold, unplannedLogged := p.2.unplannedLogged })
      outs := f.outs.map fun p => (p.1, { fault := if 1 ≤ p.2.fault && p.2.fault ≤ 3 then p.2.fault else 0 }) }

/-- Counts "since the last FULL reset" of the host block, of Xiest and of Scan Link over a WARM reset (R540, R569, R597,
R662); PERST# is an input (R653). -/
def pciKept (level : ResetLevel) (p : PciS) : PciS :=
  { perst := p.perst, stageLost := if level = .full then 0 else satAdd p.stageLost (stagedItems p) }

/-- Counts of Xiest and CAN over a reset, and a commanded FULL reset that is still to come (R653). -/
def xiCounts (level : ResetLevel) (x y : XiS) : XiS :=
  if level = .full then y else
    { y with crcErr := x.crcErr, canAbort := x.canAbort
             resetAt := x.resetAt.filter fun r => r.1 == .full
             can := x.can.map fun p => (p.1, { busOffs := p.2.busOffs }) }

/-- Counts of Scan Link over a reset. -/
def slkKept (level : ResetLevel) (l : SlkAll) : SlkAll :=
  if level = .full then {} else { lanes := l.lanes.map fun p => (p.1, { codeErr := p.2.codeErr, retx := p.2.retx }) }

/-- The state in which a reset holds the device: every field at its reset value but what R662 and the rules beside it
keep. The timebase count is never reset (R9), T64 is set at the end (R10). -/
def coldState (level : ResetLevel) (cause : Nat) (s : State) : State :=
  { State.reset with
    tb := s.tb, t64Ofs := s.t64Ofs, busRead := s.busRead, free := s.free, pending := s.pending, out := s.out
    upd := updKept s.upd
    xi := xiCounts level s.xi (xiKept s.xi)
    log := logKept level (s.rst.phase != .none && s.rst.level == .full) s.log
    car := if level = .full then {} else carKept s.tb s.car
    thm := thmKept level s.thm
    fld := { fldKept level s.fld with chargersStopped := s.thm.vhvLow }
    pci := pciKept level s.pci
    slk := slkKept level s.slk
    ee := if level = .full then {} else { eccCorr := s.ee.eccCorr }
    fe := { (if level = .full then {} else ({ lost := s.fe.lost, err := s.fe.err } : FeS)) with
            kat := if (causesKept level cause s).contains .feKat then s.fe.kat else true }
    rm := if level = .full then {} else
      { inhibits := s.rm.inhibits.filter fullOnlyInhibit, eyeEcc := s.rm.eyeEcc }
    saf := { causes := causesKept level cause s, latched := causesKept level cause s }
    rst := { phase := .held, level := level, cause := cause, wdgAt := s.rst.wdgAt, escal := s.rst.escal } }

/-! ## The begin of a reset -/

/-- Gates low, outputs off, bridge high-impedance, loops at 0 mA, output balls released (R649, R651). -/
def resetBalls (s : State) : State :=
  let s := (upto 32).foldl (fun s em => emit (.gate em false) s) s
  let s := (upto 4).foldl (fun s n => if (outOf s n).on then emit (.ball "SO off" n) s else s) s
  let s := if s.fld.bridgeOn then emit (.ball "MIR high-Z" 0) s else s
  let s := (upto 2).foldl (fun s n => if (bget ({} : LoopS) s.adc.loops n).uA != 0 then emit (.ball "LOOP 0 mA" n) s else s) s
  let s := if s.rst.ready then emit (.ball "READY" 0) s else s
  if s.rst.runOk then emit (.ball "RUN_OK" 0) s else s

/-- The level and cause of a reset that begins while another may be in progress (R653). -/
def mergedReset (level : ResetLevel) (cause : Nat) (s : State) : ResetLevel × Nat :=
  if s.rst.phase = .none then (level, cause)
  else if s.rst.level = .full || level = .warm then (s.rst.level, s.rst.cause)
  else (level, cause)

/-- A reset begins: its transition to BOOT is logged, everything is stopped, and the internal reset is held (R562, R651,
R653, R655, R662). -/
def beginReset (level : ResetLevel) (cause ep cmd : Nat) (s : State) : State :=
  let m := mergedReset level cause s
  let s := if s.dev = .boot then s else logNow 0x0E06 ep (devCode s.dev + 256 * devCode .boot + 65536 * cmd) s
  coldState m.1 m.2 (resetBalls (flushPoints s))

/-- The device wakes with every supply good: wake source and time spent dormant are recorded (R615). -/
def wakeReset (src : Nat) (s : State) : State :=
  let d := s.tb - s.thm.dormantFrom
  let s := emit (.note "wake" src) (beginReset .full 1 noSrc 0 s)
  modRst (fun r => { r with wake := true }) (modThm (fun x => { x with
    wakeSrc := BitVec.ofNat 8 (2 ^ src), duration := BitVec.ofNat 32 (Config.rtcSeconds d) }) s)

/-- A commanded reset of a level is due: accepted 10 ms ago or longer (R562). -/
def commanded (level : ResetLevel) (s : State) : Option Nat :=
  match s.xi.resetAt with
  | some (l, a, ep) => if l = level && decide (a + 10 * msU ≤ s.tb) then some ep else none
  | none => none

/-- A commanded reset of a level or, for FULL, a due wake begins (R562, R615). -/
def resetDue (level : ResetLevel) (s : State) : State :=
  match commanded level s with
  | some ep => beginReset level 3 ep (if level = .full then 6 else 5) s
  | none => match s.thm.wakePend with
    | some (src, a) => if level = .full && s.dev == .dormant && decide (s.tb ≤ a + 100 * msU) then wakeReset src s else s
    | none => s

/-- A reset of a level begins if one is requested, commanded or due to a wake; without a reason nothing happens (R562,
R615, R651, R653). -/
def resetRow (level : ResetLevel) (s : State) : State :=
  match s.rst.request with
  | some (l, c) => if l = level then beginReset level c noSrc 0 s else resetDue level s
  | none => resetDue level s

/-- FULL_RESET: a FULL reset begins (R651). -/
def execFullReset (t : Nat) (s : State) : Host.Outcome State Fault Refusal := done (resetRow .full (s.start t))

/-- WARM_RESET: a WARM reset begins; the write engine stops and the DRAM keeps its content (R484, R651). -/
def execWarmReset (t : Nat) (s : State) : Host.Outcome State Fault Refusal := done (resetRow .warm (s.start t))

/-! ## Wake -/

/-- A wake source may wake the device now: the timer once DORM_WAKE_TIME has expired on the real-time counter, and never when it
is 0 (R614, R615, R618). -/
def wakeDue (s : State) (src : Nat) : Bool :=
  src != 3 || (s.thm.wakeTime != 0 && decide (s.thm.wakeTime ≤ Config.rtcSeconds (s.tb - s.thm.dormantFrom)))

/-- DORMANT_WAKE: an enabled source drives PWRREQ high; the FULL reset begins once every supply is good (R614, R615). -/
def execDormantWake (t : Nat) (src : Fin 4) (s : State) : Host.Outcome State Fault Refusal :=
  let s := s.start t
  if s.dev == .dormant && bit s.thm.wakeEn src && s.thm.wakePend.isNone && wakeDue s src then
    done (emit (.ball "PWRREQ" 1) (modThm (fun x => { x with pwrreq := true, wakePend := some (src.val, s.tb) }) s))
  else done s

/-- WAKE_SUPPLY_TIMEOUT: the supplies are not good 100 ms after the wake: PWRREQ low again (R615). -/
def execWakeSupplyTimeout (t : Nat) (s : State) : Host.Outcome State Fault Refusal :=
  let s := s.start t
  match s.thm.wakePend with
  | some (_, a) =>
    if s.dev == .dormant && decide (a + 100 * msU ≤ s.tb) then
      done (emit (.ball "PWRREQ" 0) (modThm (fun x => { x with pwrreq := false, wakePend := none }) s))
    else done s
  | none => done s

/-! ## PCIE reset -/

/-- The sources in service at HOST are completed by the device (R512). -/
def hostFinish (s : State) : State :=
  (upto 512).foldl (fun s n =>
    if s.eic.active.getLsbD n && (bget 0 s.eic.owner n == 6 || bget 0 s.eic.owner n == 14) then eicFinish n s else s) s

/-- PERST: both functions and every PCI_ register return to reset, staged items are discarded, negotiation is cleared,
the mailbox transfer is aborted and endpoint 1 closes; T64 runs on (R512, R535, R551). -/
def execPerst (t : Nat) (s : State) : Host.Outcome State Fault Refusal :=
  let s := s.start t
  if s.pci.perst then done s
  else
    let s := (upto 32).foldl (fun s n => ringEmpty n s) s
    let s := modPci (fun p => { perst := true, stageLost := satAdd p.stageLost (stagedItems p) }) s
    let s := { s with pt := { s.pt with streaming := s.pt.streaming && parN s 0x7C10 0 == 1 } }
    done (hostFinish (closeSess 1 (mbxAbort s)))

/-- PERST_RELEASE: PERST# rises: the PCIE reset ends with entry 0x0001, level 2, cause 5; within a FULL or WARM reset the
entry of that one, at its end, stands for both (R511, R653). -/
def execPerstRelease (t : Nat) (s : State) : Host.Outcome State Fault Refusal :=
  let s := s.start t
  if s.pci.perst then
    let s := modPci (fun p => { p with perst := false }) s
    if s.rst.phase != .none then done s
    else
    let s := { s with log := { s.log with resetCause := 0x0205 } }
    done (logNow 0x0001 noSrc (2 + 256 * 5 + 65536 * s.car.bootEpoch.toNat) s)
  else done s

end Sys2Proof.Machine
end

