-- ==== Sys2Proof/Machine/Boot.lean ====
section
/-!
DEFINITION. From the release of the internal reset to CONFIG or RECOVERY: end of reset at the timebase lock, choice of the
image, staging areas, journal, safety set, known-answer tests, recorder, entry to CONFIG (R10, R62, R77, R190, R194, R244,
R427, R465, R466, R484, R511, R564, R567, R602, R634, R637, R640 to R643, R651, R655 to R661, R691).
-/
namespace Sys2Proof.Machine

/-- Once the reset is released Calliope drives every gate output low and holds the safety outputs off, the test pulse
sources at 0 V and the loops at 0 mA (R650). -/
def releaseBalls (s : State) : State :=
  let s := (upto 32).foldl (fun s em => emit (.gate em false) s) s
  let s := (upto 4).foldl (fun s n => emit (.ball "SO off" n) s) s
  let s := (upto 8).foldl (fun s n => emit (.ball "TP low" n) s) s
  (upto 2).foldl (fun s n => emit (.ball "LOOP 0 mA" n) s) s

/-- INTERNAL_RESET_RELEASE: every monitored logic-side supply has been good for 1.0 ms: the internal reset is released,
BOOTSEL is read, the timebase starts and Calliope drives its outputs to their harmless states (R643, R650, R655). -/
def execInternalResetRelease (t : Nat) (bootsel : Bool) (s : State) : Host.Outcome State Fault Refusal :=
  let s := s.start t
  if s.rst.phase = .held then
    done (releaseBalls
      (modRst (fun r => { r with phase := .released, releasedAt := s.tb, bootsel := bootsel, notReady := false }) s))
  else done s

/-! ## Journal (R564, R641) -/

/-- The journal copy that is loaded: the valid copy with the higher generation, and whether it is copy B. -/
def journalOf (s : State) : Option (Jrn × Bool) :=
  match s.xi.jrnA, s.xi.jrnB with
  | some a, some b => if b.gen.toNat ≤ a.gen.toNat then some (a, false) else some (b, true)
  | some a, none => some (a, false)
  | none, some b => some (b, true)
  | none, none => none

/-- The record of group g has the major version that the running image expects (R641). -/
def groupLoads (s : State) (j : Jrn) (g : Nat) : Bool := bget 0 j.vers g / 256 == groupVer s g / 256

/-- The stored entries of the journal that the image knows and loads (R564, R641). -/
def journalEnts (s : State) : List (Nat × DVal) :=
  match journalOf s with
  | none => []
  | some (j, _) => j.ents.filter fun p => keyStored p.1 && groupLoads s j (groupOfNum (p.1 / 256))

/-- What loading the journal logs: 0x1E05 with no valid copy, 0x1E16 for each group of another major version, 0x1E01 for
a Store that a reset cut off (R564, R567, R641). -/
def journalLog (s : State) : State :=
  let s := match journalOf s with
    | none => logNow 0x1E05 noSrc 0 s
    | some (j, b) =>
      let gs := ((j.ents.map fun (p : Nat × DVal) => groupOfNum (p.1 / 256)).eraseDups).filter fun g => !groupLoads s j g
      let s := gs.foldl (fun s g =>
        logNow 0x1E16 noSrc (g + 256 * (bget 0 j.vers g / 256) + 65536 * (groupVer s g / 256)) s) s
      modXi (fun x => { x with storeGen := j.gen, jrnInB := b }) s
  if s.xi.storeLost then
    logNow 0x1E01 noSrc s.xi.storeGen.toNat (modXi (fun x => { x with storeSt := 4, storeLost := false }) s)
  else s

/-- Values put in force without a record (R660). -/
def loadValues (l : List (Nat × DVal)) (s : State) : State := l.foldl (fun s p => setPar (p.1 / 256) (p.1 % 256) p.2 s) s

/-- The offset and walk sets of CAL_STORED_SET (R244, R246). -/
def loadCalSets (l : List (Nat × DVal)) (s : State) : State :=
  match l.find? fun p => p.1 == dkey 0x3421 0 with
  | some p =>
    let b := dvBytes p.2
    if calImageOk b then
      ((calImageSets b).zipIdx).foldl (fun s x =>
        modChan x.2 (fun c => { c with setEcho := x.1.1, setHist := x.1.2 }) s) s
    else s
  | none => s

/-- The stale state of every channel follows its conditions at the start; a channel that becomes stale gives its entry
(R240, R243, R244, log entry 34). -/
def staleInit (s : State) : State := (upto 256).foldl refreshStale s

/-! ## Choice of the image (R637, R643) -/

/-- RECOVERY is entered, entry 0x3E1A; the networks are joined (R643). -/
def enterRecovery (cause : Nat) (s : State) : State :=
  let s := modUpd (fun u => { u with recCause := cause, result := if cause = 1 then 11 else 0 }) s
  let s := logNow 0x3E1A noSrc (cause - 1) (setState .recovery noSrc 0 s)
  modXi (fun x => { x with can := (upto 2).foldl (fun b n => bmod {} b n fun c => { c with joined := true }) x.can }) s

/-- The image of slot k runs. -/
def runImage (k : Nat) (s : State) : State := modUpd (fun u => { u with running := k }) s

/-- The device reverts from slot k to the other, or to RECOVERY when that is not valid either (R637). -/
def revertFrom (k : Nat) (s : State) : State :=
  if imageValid s (1 - k) then runImage (1 - k) (selWrite (1 - k) 15 (logNow 0x3E15 noSrc (1 - k) s))
  else enterRecovery 1 s

/-- The record in force decides which image boots (R637); with no record there is no valid image (log entry 5). -/
def bootImage (s : State) : State :=
  match selRecord s with
  | none => enterRecovery 1 s
  | some (_, w) =>
    let k := recSlot w
    if !imageValid s k then revertFrom k s
    else match recTrial w with
      | 15 => runImage k s
      | 1 => modUpd (fun u => { u with trialFrom := some s.tb }) (runImage k (selWrite k 0 s))
      | 2 => modUpd (fun u => { u with trialFrom := some s.tb }) (runImage k (selWrite k 1 s))
      | _ => revertFrom k s

/-- The areas of the flash: image slots, eye-table copies, safety-set copies. -/
def flashAreas : List (Nat × Nat) := [(1, 0), (1, 1), (2, 0), (2, 1)] ++ (upto 32).map fun i => (3, i)

/-- An area in force is no staging area. -/
def areaUsed (s : State) (a : Nat × Nat) : Bool :=
  (a.1 == 1 && (a.2 == s.upd.running || ((selRecord s).map fun r => recSlot r.2) == some a.2)) ||
    (areaPkg s a).rec_.isSome || (areaPkg s a).head.isEmpty

/-- What a reset left in a staging area: an unfinished download is erased, entry 0x1E19; a package that was received is
verified again (R640). -/
def stagingBoot (s : State) (a : Nat × Nat) : State :=
  let p := areaPkg s a
  if areaUsed s a then s
  else if p.status = 0xFFFFFFFF then logNow 0x1E19 noSrc a.1 (modArea a (fun _ => {}) s)
  else if p.status = 0x0000FFFF && verifyPkg s p == 0 then
    modUpd (fun u => { u with bgReady := some a }) (modArea a (fun p => { p with status := 0 }) s)
  else s

/-! ## End of reset -/

/-- The thermal nodes start at the mean of the valid die sensors; with none the value is free; the time without a reading runs from here (R599,
R602). -/
def nodesStart (die : List (Fin 8 × Int)) (s : State) : State :=
  let (x, s) := freeBits 16 s
  let mean : Int := if die.isEmpty then x.toInt else rdiv (isum (die.map fun p => p.2)) die.length
  let s := modThm (fun h => { h with node := (upto 24).map fun k => (k, mean), stepAt := s.tb, modelAt := some s.tb }) s
  let s := (upto 8).foldl (fun s k => modSens k (fun x => { x with at_ := s.tb }) s) s
  die.foldl (fun s p => modSens p.1 (sensTake p.2 s.tb) s) s

/-- The end of a FULL or WARM reset: the reference is the one that the stored TB_SOURCE selects (R10, R77, R133, R134, R194, R244, R484, R511, R602, R615, R627, R648, R654, R658). -/
def endReset (die : List (Fin 8 × Int)) (s : State) : State :=
  let r := s.rst
  let lv := if r.level = .full then 0 else 1
  let s := { s with t64Ofs := -(BitVec.ofNat 64 s.tb) }
  let src := ((journalEnts s).find? fun p => p.1 == dkey 0x2810 0).map (·.2)
  let s := modTbs (fun c => { c with
    lock := true, lockAt := s.tb, refOk := true, src := (dvInt (src.getD (dictDefault 0x2810 0))).toNat }) s
  let s := modRec (fun c => { c with bootEpoch := if lv = 0 then 0 else c.bootEpoch + 1 }) s
  let s := { s with log := { s.log with resetCause := BitVec.ofNat 16 (256 * lv + r.cause) } }
  let s := logNow 0x0001 noSrc (lv + 256 * r.cause + 65536 * s.car.bootEpoch.toNat) s
  let s := match r.escal with
    | some c => logNow 0x3006 c 0 s
    | none => s
  let s := modRst (fun r => { r with phase := .none, escal := none, wake := false }) s
  let s := if r.wake then eicEdge 452 s else s
  let s := s.upd.raisePend.foldl (fun s p => raiseCounter p.1 p.2 s) s
  let s := modUpd (fun u => { u with raisePend := [] }) s
  let s := nodesStart die (eyeGrid (modRm (fun m => { m with table := eyeStored s }) s))
  let s := staleInit (loadCalSets (journalEnts s) s)
  let s := windowChecks (ditherLoad s)
  let s := if s.thm.vmachLow then safeCause .vmachLow s else s
  let s := if s.rst.bootsel then bootImage s else enterRecovery 2 s
  flashAreas.foldl stagingBoot s

/-- TB_LOCK: the first lock after the release ends the reset; a later one brings the reference back, and after it frames
start when they may (R134, R447, R585, R655). -/
def execTbLock (t : Nat) (die : List (Fin 8 × Int)) (s : State) : Host.Outcome State Fault Refusal :=
  let s := s.start t
  match s.rst.phase with
  | .held => done s
  | .released => done (endReset die s)
  | .none =>
    if s.tbs.lock || s.dev == .dormant || s.dev == .off then done s
    else
      let s := modTbs (fun c => { c with lock := true, lockAt := s.tb, refOk := true }) s
      done (if s.dev == .run || s.dev == .safe then modRm (fun r => { r with startAt := 0 }) s else s)

/-! ## BOOT -/

/-- FIELD_SIDE_NOT_READY: Calliope's supplies or a barrier link not ready 1 s after the release: entry 0x3005, and the
device stays in BOOT (R657). -/
def execFieldSideNotReady (t : Nat) (vfld exc links : Bool) (s : State) : Host.Outcome State Fault Refusal :=
  let s := s.start t
  if s.dev == .boot && s.rst.phase != .held && decide (s.rst.releasedAt + secU ≤ s.tb) && !(vfld && exc && links) then
    let was := s.rst.notReady
    let s := modRst (fun r => { r with supplyGood := vfld && exc, linksTrained := links, notReady := true }) s
    done (if was then s else logNow 0x3005 noSrc (b2n (!vfld) + 2 * b2n (!exc) + 4 * b2n (!links)) s)
  else done s

/-- The SAFECFG pins do not give a set (R427). -/
def setFails (pins : BitVec 8) (s : State) : State := safeCause .cfgBoot (logNow 0x4B03 noSrc pins.toNat s)

/-- The SAFECFG pins at BOOT: with N from 1 to 15 the set in force in flash is put in force when it passes, with N = 0 no
set is; v is the state with every stored entry in force, on which R432 is tested (R412, R427, R432, R642). -/
def safecfgBoot (pins : BitVec 8) (v s : State) : State :=
  let n := pins.toNat % 16
  let s := modSaf (fun f => { f with pins := pins, pinsBoot := pins, pinsOk := pinsValid pins, pinsAt := some s.tb }) s
  if !pinsValid pins then setFails pins s
  else if n = 0 then s
  else match setInForce s n with
    | none => setFails pins s
    | some (c, _) => match (setPlain s (setPkg s n c)).bind decSet with
      | none => setFails pins s
      | some (ver, es, crcOk, num, crc) =>
        if ver / 256 != groupVer s 0x18 / 256 then setFails pins (logNow 0x2E17 noSrc n s)
        else if crcOk && num == n && setRules412 es && setRules432 v es then
          loadValues (es.filter fun p => keySealed p.1)
            (modSaf (fun f => { f with setOk := true, setNo := n, setCrc := BitVec.ofNat 32 crc }) s)
        else setFails pins s

/-- The known-answer tests of BOOT: an engine that fails is retired, and its spare serves at once (R190). -/
def katBoot (kat : BitVec 18) (s : State) : State :=
  let s := ([16, 17] ++ upto 16).foldl (fun s n =>
    if kat.getLsbD n then engineFails n 2 (modEe (fun e => { e with katFail := satInc e.katFail }) s) else s) s
  let s := [16, 17].foldl (fun s n =>
    if (engOf s n).serves.isSome then modEng n (fun e => { e with ready := true, live := true }) s else s) s
  ((upto 16).filter fun m => s.ee.declPend.any fun p => p.2.2 == m).foldl (fun s m => logDeclared m 0 s) s

/-- Source, size and segments of stream n that apply (R465). -/
def recWish (s : State) (n : Nat) : Nat × Nat × Nat := (parN s 0x6810 n, parN s 0x6812 n, parN s 0x6813 n)

/-- Bytes of a segment: the region's share rounded down to whole blocks, at least 16 (R465). -/
def wishSegBytes (w : Nat × Nat × Nat) : Nat := max 16 (w.2.1 * 1048576 / max 1 w.2.2 / blockBytes) * blockBytes

/-- Regions of REC_SIZE in stream order within the bytes that are left, larger where the segments of 16 blocks need it (DESIGN CHOICE, log
entry 12); a stream that does not fit gets source 0 and entry 0x1C02
(R465). -/
def recAllocate : List Nat → Nat → State → State
  | [], _, s => s
  | n :: r, left, s =>
    let w := recWish s n
    let need := max (w.2.1 * 1048576) (wishSegBytes w * max 1 w.2.2)
    if w.1 = 0 then recAllocate r left (modStr n (fun x => { x with source := 0 }) s)
    else if need ≤ left then
      recAllocate r (left - need) (modStr n (fun x => { x with source := w.1, segBytes := wishSegBytes w }) s)
    else recAllocate r left (logNow 0x1C02 n 0 (modStr n (fun x => { x with source := 0 }) s))

/-- Capacity for streams, MiB: each channel in service less its staging region, less one part in 1,024 for index records
(R465). -/
def recCapacity (s : State) (cap : Nat) : Nat :=
  ((upto 4).filter fun k => !s.car.chOos.getLsbD k).length * (cap - parN s 0x7802 0) * 1023 / 1024

/-- The recorder in BOOT: a changed allocation discards every capture; after a WARM reset segments that recorded are
sealed with cause 6, T64_TRIG 0 and the old epoch (R465, R466, R484). -/
def recBoot (cap : Nat) (s : State) : State :=
  let wish := (upto 16).map (recWish s)
  let changed := s.car.alloc != wish
  let s := modRec (fun c => { c with
    ddrOk := true, alloc := wish, capMiB := recCapacity s cap
    str := if changed then c.str.map fun p => (p.1, { p.2 with segs := [], st := 0 }) else c.str }) s
  let s := (upto 16).foldl (fun s n =>
    let st := strOf s n
    let s := if st.st = 1 || st.st = 2 then sealSeg n 6 false 0 (s.car.bootEpoch - 1) s else s
    modStr n (fun x => { x with st := 0, early := false, postBytes := 0 }) s) s
  recAllocate (upto 16) (recCapacity s cap * 1048576) s

/-- VDD_CORE is at the fixed code while VCORE_MODE is 1 (R612). -/
def vcoreBoot (s : State) : State :=
  if parN s 0x7010 0 = 1 && parN s 0x7011 0 != s.thm.vid then
    eicEdge 451 (emit (.ball "VID" (parN s 0x7011 0)) (modThm (fun x => { x with vid := parN s 0x7011 0, vidAt := s.tb }) s))
  else s

/-- What the entry to CONFIG at the end of BOOT starts: the stored entries that do not apply RST, with what they switch
on, the dither register and the fire advances; the structures and sequences of the converters; the recorder's streams; the negotiation of the safety PDU;
the fast-off outputs armed (R63, R115, R122, R349, R422, R367, R435, R440, R441, R458, R473, R660, R690, R691). -/
def configStart (late : List (Nat × DVal)) (s : State) : State :=
  let s := inhibit .bridgeOff (ditherLoad (loadValues late s))
  let s := late.foldl (fun s p => match dictFind (p.1 / 256) (p.1 % 256) with
    | some r => if r.app == .imm then s else cfgSend (p.1 / 256) (p.1 % 256) s
    | none => s) s
  let s := (upto 4).foldl (fun s b => modBank b (fun x => { x with advance := parN s 0x2401 b }) s) s
  let s := late.foldl (fun s p => match dictFind (p.1 / 256) (p.1 % 256) with
    | some r => if r.app == .imm then immApplied (p.1 / 256) (p.1 % 256) s else s
    | none => s) s
  let s := (upto 4).foldl (fun s n => if parB s 0x4402 n then seqCommit n s else s) s
  let s := (upto 64).foldl (fun s g => modLch g (fun c => { c with structReq := true }) s) s
  let s := if parB s 0x6800 0 then
      (upto 16).foldl (fun s n => if (strOf s n).source != 0 && (strOf s n).st == 0 then rearmFree n s else s) s
    else s
  let set := if parN s 0x6110 0 = 0 then parN s 0x6111 0 else s.fe.active
  let s := followSpeed { s with fe := { s.fe with active := set, fields := freshFields s set } }
  armFastOff (pduRestart (followSelection (staleInit (excApply (loopsFollow s)))))

/-- BOOT_COMPLETE: with the reset ended and the timebase locked, BOOT loads the journal, reads SAFECFG (pins), runs the
known-answer tests (kat: bit n set where engine n failed), allocates the recorder (cap: MiB of each DRAM channel) and
enters CONFIG; with AUTORUN the automatic ENTER_RUN is awaited (R656, R660, R661, R664). -/
def execBootComplete (t : Nat) (pins : BitVec 8) (cap : Nat) (kat : BitVec 18) (s : State) :
    Host.Outcome State Fault Refusal :=
  let s := s.start t
  if s.dev == .boot && s.rst.phase = .none && s.tbs.lock then
    let ents := journalEnts s
    let s := journalLog s
    let s := modXi (fun x => { x with can := (upto 2).foldl (fun b n => bmod {} b n fun c => { c with joined := true }) x.can }) s
    let s := loadValues (ents.filter fun p => keyRst p.1) s
    let s := safecfgBoot pins (loadValues ents s) s
    let s := vcoreBoot (recBoot cap (katBoot kat s))
    let s := modRst (fun r => { r with
      supplyGood := true, linksTrained := true, configAt := s.tb, autoWait := parB s 0x1014 0
      bootTime := BitVec.ofNat 32 (min 0xFFFFFFFF ((s.tb - s.rst.releasedAt) / usU)) }) s
    let s := modSaf (fun f => { f with srcOn := true, srcFrom := s.tb }) s
    done (configStart (ents.filter fun p => !keyRst p.1) (setState .config noSrc 0 s))
  else done s

end Sys2Proof.Machine
end

