-- ==== Sys2Proof/Machine/CamImage.lean ====
section
/-!
DEFINITION. What an image pipeline computes from the raw lines of one frame: the eight stages, sharpness, colour map
(R383 to R386, R395, R399).
-/
namespace Sys2Proof.Machine

/-- A plane or image component: rows of values. -/
abbrev Plane := List (List Nat)

/-- The value at column x, row y; 0 outside. -/
def px (p : Plane) (x y : Nat) : Nat := (p.getD y []).getD x 0

/-- A plane of w × h from a function of column and row. -/
def mkPlane (w h : Nat) (f : Nat → Nat → Nat) : Plane := (upto h).map fun y => (upto w).map fun x => f x y

/-- Parameter of a frame, fixed at its start (R380). -/
def framePar (f : CamF) (num sub : Nat) : Nat := (dvInt (keepPar f.pars num sub)).toNat
/-- The same as an integer. -/
def frameParI (f : CamF) (num sub : Nat) : Int := dvInt (keepPar f.pars num sub)
/-- Configured width. -/
def camW (f : CamF) (c : Nat) : Nat := framePar f 0x500B c / 65536
/-- Configured height. -/
def camH (f : CamF) (c : Nat) : Nat := framePar f 0x500B c % 65536
/-- Output width. -/
def outW (f : CamF) (c : Nat) : Nat := framePar f 0x5017 c / 65536
/-- Output height. -/
def outH (f : CamF) (c : Nat) : Nat := framePar f 0x5017 c % 65536
/-- Bits of a raw sample (R377). -/
def rawBits (f : CamF) (c : Nat) : Nat := 10 + 2 * framePar f 0x500A c

/-- Position of a pixel in the Bayer pattern: 0 R, 1 G on an R row, 2 G on a B row, 3 B; CAM_CTX_BAYER names the pattern
from the top left (R383, R401). -/
def bayer (f : CamF) (c x y : Nat) : Nat :=
  let o := framePar f 0x500C c % 4
  let cx := (x + o) % 2
  let cy := (y + o / 2) % 2
  2 * cy + cx

/-- Raw lines as 16-bit values, missing lines 0 (R383, R389). -/
def raw16 (f : CamF) (c : Nat) : Plane :=
  mkPlane (camW f c) (camH f c) fun x y => px f.lines x y % 2 ^ rawBits f c * 2 ^ (16 - rawBits f c)

/-- Stage 1: black level of the pixel's Bayer colour, numbered as in bayer (DESIGN CHOICE, log entry 21). -/
def stage1 (f : CamF) (c : Nat) (p : Plane) : Plane :=
  mkPlane (camW f c) (camH f c) fun x y =>
    px p x y - framePar f 0x5010 (4 * c + bayer f c x y) * 2 ^ (16 - rawBits f c)

/-- The eight nearest neighbours of the same colour, those inside the frame: for green the four diagonal ones and four two pixels away,
for red and blue the eight two pixels away (log entry 21). -/
def sameColour (p : Plane) (green : Bool) (w h x y : Nat) : List Int :=
  let r : Int := if green then 1 else 2
  [(-r, -r), (0, -2), (r, -r), (-2, 0), (2, 0), (-r, r), (0, 2), (r, r)].filterMap fun d =>
    let a := (x : Int) + d.1
    let b := (y : Int) + d.2
    if 0 ≤ a && decide (a < w) && decide (0 ≤ b) && decide (b < h) then some (px p a.toNat b.toNat : Int) else none

/-- Stage 2: defect correction. -/
def stage2 (f : CamF) (c : Nat) (p : Plane) : Plane :=
  let thr := framePar f 0x5011 c
  if thr = 0 then p
  else mkPlane (camW f c) (camH f c) fun x y =>
    let b := bayer f c x y
    let m := median (sameColour p (b == 1 || b == 2) (camW f c) (camH f c) x y)
    if thr < (m - px p x y).natAbs then m.toNat else px p x y

/-- The 5 × 5 neighbourhood by rows, 0 outside. -/
def near5 (p : Plane) (x y : Nat) : List Nat :=
  (upto 5).flatMap fun j => (upto 5).map fun i => if x + i < 2 || y + j < 2 then 0 else px p (x + i - 2) (y + j - 2)

/-- An RGB image: one plane for each component. -/
structure Rgb where
  r : Plane
  g : Plane
  b : Plane

/-- Stage 3: demosaic. -/
def stage3 (f : CamF) (c : Nat) (p : Plane) : Rgb :=
  let at_ := fun (x y : Nat) => Config.demosaic (bayer f c x y) (near5 p x y)
  let mk := fun (k : Nat × Nat × Nat → Nat) => mkPlane (camW f c) (camH f c) fun x y => min 65535 (k (at_ x y))
  { r := mk (·.1), g := mk (·.2.1), b := mk (·.2.2) }

/-- Stages 4 and 5: white balance and colour matrix, saturating. -/
def stage45 (f : CamF) (c : Nat) (i : Rgb) : Rgb :=
  let wb := fun (k v : Nat) => min 65535 (v * framePar f 0x5012 (3 * c + k) / 1024)
  let m := fun (k : Nat) => frameParI f 0x5013 (9 * c + k)
  let row := fun (k : Nat) => mkPlane (camW f c) (camH f c) fun x y =>
    (clampI 0 65535 ((m (3 * k) * wb 0 (px i.r x y) + m (3 * k + 1) * wb 1 (px i.g x y) +
      m (3 * k + 2) * wb 2 (px i.b x y)) / 1024)).toNat
  { r := row 0, g := row 1, b := row 2 }

/-- The sRGB transfer function of IEC 61966-2-1 on 16 bits, to 8 bits (constants PRESUMED from that standard, log
entry 18). -/
def srgb8 (v : Nat) : Nat :=
  if v * 10000000 ≤ 31308 * 65535 then (rdiv (v * 1292 * 255) (100 * 65535)).toNat
  else (rdiv ((1055 * exp2 (log2Q v 65535 * 10 / 24) - 55 * one32 : Int) * 255) (1000 * one32)).toNat

/-- Stage 6 on one value: linear, sRGB or the table of 33 points, to 8 bits. -/
def gamma8 (f : CamF) (c v : Nat) : Nat :=
  match framePar f 0x5014 c with
  | 0 => v / 256
  | 1 => min 255 (srgb8 v)
  | _ =>
    let t := dvBytes (keepPar f.pars 0x5015 c)
    if t.length < 66 then Config.gammaEmpty v % 256
    else
      let p := fun (k : Nat) => ofLe ((t.drop (2 * k)).take 2)
      let x := v * 32
      let k := min (x / 65535) 31
      let y := (p k : Int) + ((p (k + 1) : Int) - p k) * ((x : Int) - k * 65535) / 65535
      (y / 256).toNat

/-- Stage 6. -/
def stage6 (f : CamF) (c : Nat) (i : Rgb) : Rgb :=
  let g := fun (p : Plane) => p.map (·.map (gamma8 f c))
  { r := g i.r, g := g i.g, b := g i.b }

/-- The image after stage 3. -/
def demosaiced (f : CamF) (c : Nat) : Rgb := stage3 f c (stage2 f c (stage1 f c (raw16 f c)))
/-- The image after stage 6. -/
def finished (f : CamF) (c : Nat) : Rgb := stage6 f c (stage45 f c (demosaiced f c))

/-! ## Output conversion and scaling (R383, R384, R386) -/

/-- A row or column at another length by a 4-tap polyphase filter: value j lies at (j + 1/2) · length / n - 1/2 of it, and takes the four
values around that place, the edge values going on outside; at its own length it stays (R383; DEDUCED, log entry 21; the taps are not
published, log entry 7). -/
def resampled (n : Nat) (l : List Nat) : List Nat :=
  let m := l.length
  if m = n then l
  else (upto n).map fun j =>
    let pos : Int := (2 * j + 1) * m - n
    let tap := fun (i : Nat) => (l.getD (clampI 0 (m - 1 : Nat) (pos / (2 * n : Nat) - 1 + i)).toNat 0 : Int)
    (clampI 0 255 (rdiv (isum ((upto 4).map fun i => Config.polyTap m n (pos % (2 * n : Nat)).toNat i * tap i)) 16384)).toNat

/-- A plane of width w scaled to w2 × h2. -/
def scaled (p : Plane) (w2 h2 : Nat) : Plane :=
  let rows := p.map (resampled w2)
  let cols := (upto w2).map fun x => resampled h2 (rows.map fun r => r.getD x 0)
  mkPlane w2 h2 fun x y => px cols y x % 256

/-- ITU-R BT.709 in limited range: Y, U and V of an RGB pixel, 8 bits (coefficients PRESUMED from that standard, log
entry 18). -/
def yuv709 (r g b : Nat) : Nat × Nat × Nat :=
  let y : Int := 2126 * r + 7152 * g + 722 * b
  ((16 + rdiv (219 * y) 2550000).toNat,
   (128 + rdiv (224 * (10000 * b - y)) (255 * 18556)).toNat,
   (128 + rdiv (224 * (10000 * r - y)) (255 * 15748)).toNat)

/-- Stride of an output line: its length rounded up to 64 bytes (R386). -/
def strideOf (f : CamF) (c : Nat) : Nat :=
  let n := outW f c * (if framePar f 0x5016 c = 1 then 2 else 3)
  (n + 63) / 64 * 64

/-- A line padded with 0 to the stride. -/
def padLine (n : Nat) (l : List Nat) : List Byte :=
  ((l ++ List.replicate (n - l.length) 0).take n).map (BitVec.ofNat 8)

/-- The lines of the output image: YUV 4:2:2 as Y0 U0 Y1 V0, the chroma of a pair being that of its mean (log entry 21), or
RGB888 (R383, R386). -/
def imageBytes (f : CamF) (c : Nat) : List Byte :=
  let i := finished f c
  let w := camW f c
  let h := camH f c
  let w2 := outW f c
  let h2 := outH f c
  let n := strideOf f c
  if framePar f 0x5016 c = 1 then
    let yp := scaled (mkPlane w h fun x y => (yuv709 (px i.r x y) (px i.g x y) (px i.b x y)).1) w2 h2
    let mean := fun (p : Plane) (x y : Nat) => (px p (2 * x) y + px p (2 * x + 1) y + 1) / 2
    let ch := fun (k : Nat × Nat × Nat → Nat) =>
      scaled (mkPlane (w / 2) h fun x y => k (yuv709 (mean i.r x y) (mean i.g x y) (mean i.b x y))) (w2 / 2) h2
    let up := ch (·.2.1)
    let vp := ch (·.2.2)
    (upto h2).flatMap fun y => padLine n ((upto (w2 / 2)).flatMap fun x =>
      [px yp (2 * x) y, px up x y, px yp (2 * x + 1) y, px vp x y])
  else
    let r := scaled i.r w2 h2
    let g := scaled i.g w2 h2
    let b := scaled i.b w2 h2
    (upto h2).flatMap fun y => padLine n ((upto w2).flatMap fun x => [px r x y, px g x y, px b x y])

/-! ## Sharpness (R395) -/

/-- Luma after stage 3. -/
def lumaOf (f : CamF) (c : Nat) : Plane :=
  let i := demosaiced f c
  mkPlane (camW f c) (camH f c) fun x y => (px i.r x y + 2 * px i.g x y + px i.b x y) / 4

/-- Mean of a measure over the pixels of a window of the 8 × 8 grid at which it is defined; the last row and column take
the remainder pixels. -/
def windowMean (w h k : Nat) (ok : Nat → Nat → Bool) (m : Nat → Nat → Nat) : Nat :=
  let x0 := k % 8 * (w / 8)
  let y0 := k / 8 * (h / 8)
  let x1 := if k % 8 = 7 then w else x0 + w / 8
  let y1 := if k / 8 = 7 then h else y0 + h / 8
  let l := (upto (y1 - y0)).flatMap fun j => (upto (x1 - x0)).filterMap fun i =>
    if ok (x0 + i) (y0 + j) then some (m (x0 + i) (y0 + j)) else none
  min 0xFFFFFFFF (nsum l / max l.length 1)

/-- Square of the difference of two values. -/
def sqDiff (a b : Nat) : Nat := ((a : Int) - b).natAbs ^ 2

/-- Gradient energy of window k; pixels of the last row and column have no successor and do not enter (log entry 21). -/
def gradientOf (p : Plane) (w h k : Nat) : Nat :=
  windowMean w h k (fun x y => decide (x + 1 < w) && decide (y + 1 < h)) fun x y =>
    sqDiff (px p (x + 1) y) (px p x y) + sqDiff (px p x (y + 1)) (px p x y)

/-- Laplacian energy of window k; border pixels do not enter (log entry 21). -/
def laplaceOf (p : Plane) (w h k : Nat) : Nat :=
  windowMean w h k (fun x y => decide (0 < x) && decide (0 < y) && decide (x + 1 < w) && decide (y + 1 < h)) fun x y =>
    sqDiff (4 * px p x y) (px p (x - 1) y + px p (x + 1) y + px p x (y - 1) + px p x (y + 1))

/-- Mean luma of the frame, 8 bits. -/
def meanY (p : Plane) (w h : Nat) : Nat := nsum (p.map nsum) / max (w * h) 1 / 256

/-! ## Colour map (R399) -/

/-- Pixels of one side of a map cell. -/
def mapDiv (f : CamF) (c : Nat) : Nat := 2 ^ (framePar f 0x5022 c + 1)

/-- Mean of a component over one cell, those of its pixels inside the frame. -/
def cellMean (p : Plane) (w h d x y : Nat) : Nat :=
  let l := (upto d).flatMap fun j => (upto d).filterMap fun i =>
    if d * x + i < w && decide (d * y + j < h) then some (px p (d * x + i) (d * y + j)) else none
  nsum l / max l.length 1

/-- The colour map of a frame: box averages after stage 6 as RGB565, by truncation, with what is attached (R380, R399). -/
def colourMap (f : CamF) (c : Nat) : CMap :=
  let i := finished f c
  let d := mapDiv f c
  let w := camW f c
  let h := camH f c
  { tFrame := f.tFrame, width := w, height := h, div := d, pars := f.pars
    pix := mkPlane ((w + d - 1) / d) ((h + d - 1) / d) fun x y =>
      cellMean i.r w h d x y / 8 * 2048 + cellMean i.g w h d x y / 4 * 32 + cellMean i.b w h d x y / 8 }

end Sys2Proof.Machine
end

