-- ==== Sys2Proof/Machine/Camera.lean ====
section
/-!
DEFINITION. Camera ports, contexts and pipelines: frame start, line, frame end, timeout, end of processing (R377 to R398).
-/
namespace Sys2Proof.Machine

/-- Cameras changed. -/
def modCam (f : CamS → CamS) (s : State) : State := { s with cam := f s.cam }
/-- Context c. -/
def ctxOf (s : State) (c : Nat) : CtxS := bget {} s.cam.ctx c
/-- Context c changed. -/
def modCtx (c : Nat) (f : CtxS → CtxS) (s : State) : State := modCam (fun m => { m with ctx := bmod {} m.ctx c f }) s

/-- The parameters with apply time CTX and how many sub-indices each context has of them (R401). -/
abbrev ctxPars : List (Nat × Nat) :=
  [(0x5008, 1), (0x5009, 1), (0x500A, 1), (0x500B, 1), (0x500C, 1), (0x500D, 1), (0x500E, 1), (0x500F, 1), (0x5010, 4),
    (0x5011, 1), (0x5012, 3), (0x5013, 9), (0x5014, 1), (0x5015, 1), (0x5016, 1), (0x5017, 1), (0x501A, 1), (0x5020, 8),
    (0x5021, 12), (0x5022, 1)]

/-- The keys of context c. -/
def ctxKeys (c : Nat) : List Nat := ctxPars.flatMap fun p => (upto p.2).map fun k => dkey p.1 (p.2 * c + k)

/-- Written values held for context c take effect (R15, R380). -/
def applyCtx (c : Nat) (s : State) : State :=
  let ks := ctxKeys c
  takeHeld ks.contains s

/-- The parameters of context c in force, kept with a frame (R380). -/
def ctxSnapshot (s : State) (c : Nat) : List (Nat × DVal) := (ctxKeys c).map fun k => (k, par s (k / 256) (k % 256))

/-- The context of a port that a virtual channel names, enabled in s. -/
def ctxByVc (s : State) (port vc : Nat) : Option Nat :=
  [2 * port, 2 * port + 1].find? fun c => parB s 0x5008 c && parN s 0x5009 c == vc

/-- Traffic on a port is seen; a start-of-transmission error and a header that cannot be corrected each count (R378, R402). -/
def portSeen (port : Nat) (hdr : PktHdr) (s : State) : State :=
  modCam (fun m => { m with
    linkAt := bset m.linkAt port (s.tb + 1), phyErr := satAdd m.phyErr (b2n hdr.sot + b2n !hdr.ok) }) s

/-- Lines in the elastic buffer of a port (R391, R393). -/
def bufferedLines (s : State) (port : Nat) : Nat :=
  nsum ([2 * port, 2 * port + 1].map fun c =>
    let x := ctxOf s c
    nsum (x.wait.map (·.buffered)) + ((x.frame.map (·.buffered)).getD 0))

/-- COLOUR_MAP_SWAP: the map of a complete frame becomes the most recent one (R399). -/
def mapSwap (c : Nat) (f : CamF) (s : State) : State :=
  if f.short then s else modCtx c (fun x => { x with map := some (colourMap f c) }) s

/-- FRAME_CLOSURE: the frame being received on context c is classed and goes to its pipeline, or waits for it with its
lines in the buffer; end says whether its frame end arrived (R389, R391, R399, R402). -/
def frameClosure (c : Nat) (end_ : Bool) (s : State) : State :=
  match (ctxOf s c).frame with
  | none => s
  | some f =>
    let h := camH f c
    let f := { f with closed := true, short := decide (f.rx < h), long := decide (h < f.rx), timeout := !end_, tClose := t64Now s }
    let s := if f.short then modCam (fun m => { m with shortCnt := satInc m.shortCnt }) s else s
    let s := if f.long then modCam (fun m => { m with longCnt := satInc m.longCnt }) s else s
    let s := modCtx c (fun x => { x with frame := none, frames := satInc x.frames, closedAt := some s.tb }) s
    if f.live then mapSwap c f (modCam (fun m => { m with job := bset m.job (c / 2) f }) s)
    else modCtx c (fun x => { x with wait := x.wait ++ [f] }) s

/-- The throttle level of R82: the one that Ringmaster has taken, and that of R606 while no phases run. -/
def camLevel (s : State) : Nat := if s.rm.framing then s.rm.level else s.thm.level

/-- A frame of context c is thinned under throttle; n counts frames since the throttle's start (R394). -/
def thinned (s : State) (c : Nat) : Bool :=
  parB s 0x501A c && decide (camLevel s < 256) && !cycleFires (ctxOf s c).thinN (camLevel s)

/-- A frame start packet of a context: the open frame closes, its parameters apply, and the frame opens, live when the
pipeline is idle; a new size starts baselines and contamination runs anew; in a thermal shutdown every frame is discarded as thinned
(R380, R382, R389, R391, R394, R397, R398, R609). -/
def openFrame (c : Nat) (s : State) : State :=
  let s := frameClosure c true s
  let size := parN s 0x500B c
  let s := applyCtx c s
  let s := if parN s 0x500B c = size then s else modCtx c (fun x => { x with baseN := 0, base := [], lowRun := 0, okRun := 0 }) s
  if !parB s 0x5008 c then s
  else
    let thin := thinned s c || s.thm.shutdown
    let no := (ctxOf s c).started
    let s := modCtx c (fun x => { x with
      started := x.started + 1, thinN := if camLevel s < 256 then x.thinN + 1 else 0
      thinSince := if thin then x.thinSince + 1 else x.thinSince }) s
    if thin then s
    else
      let live := bget 0 s.cam.busy (c / 2) == 0
      let s := if live then modCam (fun m => { m with busy := bset m.busy (c / 2) (c + 1) }) s else s
      let tf := t64Now s + BitVec.ofInt 64 (parI s 0x500F c * usU)
      modCtx c (fun x => { x with frame := some ({ no := no, tFrame := tf, startAt := s.tb, pars := ctxSnapshot s c, live := live } : CamF) }) s

/-- FRAME_START_PACKET: a CSI frame start packet on a port and virtual channel; one that names no enabled context is
discarded, one whose header has more than one bit wrong is counted and discarded, and one with a start-of-transmission error is counted
(R378 to R380, R389). -/
def execFrameStartPacket (t : Nat) (port : Fin 4) (vc : Fin 16) (hdr : PktHdr) (s : State) :
    Host.Outcome State Fault Refusal :=
  let s := s.start t
  if parN s 0x5000 port = 0 then done s
  else
    let s := portSeen port hdr s
    if !hdr.ok then done s
    else
      let named := [2 * port.val, 2 * port.val + 1].find? fun c =>
        let u := applyCtx c s
        parB u 0x5008 c && parN u 0x5009 c == vc.val
      match named.or (ctxByVc s port vc) with
      | none => done s
      | some c => done (openFrame c s)

/-- A line enters the frame of context c: a bad one is replaced by the line two earlier or by black, one beyond the height
is counted and dropped (R389, R390). -/
def lineIn (c : Nat) (good : Bool) (pix : List Nat) (f : CamF) : CamF :=
  let w := camW f c
  if camH f c ≤ f.rx then { f with rx := f.rx + 1 }
  else
    let l := if good then pix
      else if 2 ≤ f.rx then f.lines.getD (f.rx - 2) [] else List.replicate w 0
    { f with lines := f.lines ++ [l], rx := f.rx + 1, repl := if good then f.repl else f.repl + 1 }

/-- LINE_PACKET: a long packet of RAW10, RAW12 or RAW14 of the context's own data type is a line of its open frame; for a
full elastic buffer the whole frame is dropped (R377 to R379, R390 to R393). -/
def execLinePacket (t : Nat) (port : Fin 4) (vc : Fin 16) (dt : Fin 64) (hdr : PktHdr) (crcOk : Bool) (pix : List Nat) (s : State) :
    Host.Outcome State Fault Refusal :=
  let s := s.start t
  if parN s 0x5000 port = 0 then done s
  else
    let s := portSeen port hdr s
    if !hdr.ok then done s
    else match [2 * port.val, 2 * port.val + 1].find? fun c =>
        (ctxOf s c).frame.isSome && parB s 0x5008 c && parN s 0x5009 c == vc.val with
      | none => done s
      | some c =>
        match (ctxOf s c).frame with
        | none => done s
        | some f =>
          if dt.val != 0x2B + framePar f 0x500A c then done s
          else if !f.live && decide (64 ≤ bufferedLines s port) then
            let s := modCam (fun m => { m with dropCnt := satInc m.dropCnt }) s
            done (modCtx c (fun x => { x with frame := none, drop := satInc x.drop, dropSince := x.dropSince + 1 }) s)
          else
            let good := crcOk && pix.length == camW f c
            let s := if good || decide (camH f c ≤ f.rx) then s else modCam (fun m => { m with lineErr := satInc m.lineErr }) s
            let f := lineIn c good pix f
            done (modCtx c (fun x => { x with frame := some { f with buffered := if f.live then 0 else f.buffered + 1 } }) s)

/-- FRAME_END_PACKET: a CSI frame end packet closes the open frame of its context (R389). -/
def execFrameEndPacket (t : Nat) (port : Fin 4) (vc : Fin 16) (hdr : PktHdr) (s : State) :
    Host.Outcome State Fault Refusal :=
  let s := s.start t
  if parN s 0x5000 port = 0 then done s
  else
    let s := portSeen port hdr s
    if !hdr.ok then done s
    else match ctxByVc s port vc with
      | none => done s
      | some c => done (frameClosure c true s)

/-- CAMERA_FRAME_TIMEOUT: no frame end within 1.5 × CAM_FRAME_TIME of the frame start (R389). -/
def execCameraFrameTimeout (t : Nat) (ctx : Fin 8) (s : State) : Host.Outcome State Fault Refusal :=
  let s := s.start t
  match (ctxOf s ctx).frame with
  | none => done s
  | some f =>
    if f.startAt + framePar f 0x500D ctx * 3 * usU / 2 ≤ s.tb then done (frameClosure ctx false s) else done s

/-! ## End of processing -/

/-- The image header (R387). -/
def imageHeader (s : State) (c : Nat) (f : CamF) : List Nat :=
  let x := ctxOf s c
  [0x4D495A44, 0x0100 * 65536 + 64, f.no.toNat,
    b2n f.short * 2 ^ 31 + b2n f.long * 2 ^ 30 + b2n f.timeout * 2 ^ 29 + b2n (decide (0 < f.repl)) * 2 ^ 28 +
      c % 8 * 2 ^ 25 + framePar f 0x5016 c % 4 * 2 ^ 23,
    f.tFrame.toNat % 2 ^ 32, f.tFrame.toNat / 2 ^ 32, f.tClose.toNat % 2 ^ 32, f.tClose.toNat / 2 ^ 32,
    outW f c % 65536 * 65536 + outH f c, min f.rx 65535 * 65536 + min f.repl 65535, strideOf f c,
    min x.dropSince 65535 * 65536 + min x.thinSince 65535, strideOf f c * outH f c, 0, 0, 0]

/-- The image of a frame goes to the recorder and to its ring, or is discarded whole while the ring takes nothing
(R386 to R388, R467). -/
def imageOut (c : Nat) (f : CamF) (s : State) : State :=
  if framePar f 0x5016 c = 0 then s
  else
    let d := ((imageHeader s c f).map (leBytes 4)).flatten ++ imageBytes f c
    let s := recItem 3 c f.tFrame d s
    let n := parN s 0x5018 c
    if ringTakes s n then modCtx c (fun x => { x with dropSince := 0, thinSince := 0 }) (ringItem n d s)
    else modCtx c (fun x => { x with dropSince := x.dropSince + 1 }) s

/-- Windows of the frame that are low against their baselines (R397). -/
def lowWindows (s : State) (c : Nat) (g : List Nat) : List Nat :=
  (upto 64).filter fun k => decide (g.getD k 0 * 65536 * 100 < parN s 0x5030 0 * bget 0 (ctxOf s c).base k)

/-- Baselines after an eligible frame: the mean of the first 64, then a slow average of windows that are not low (R397). -/
def baselines (s : State) (c : Nat) (g low : List Nat) : Bank Nat :=
  let x := ctxOf s c
  (upto 64).foldl (fun b k =>
    let v := bget 0 b k
    let e := g.getD k 0
    if x.baseN < 64 then bset b k (v + e * 1024)
    else if low.contains k then b
    else bset b k ((v : Int) + ((e * 65536 : Int) - v) / max (parN s 0x5031 0) 1).toNat) x.base

/-- CAMERA_CONTAMINATION: a run of eligible frames with many low windows sets the context's bit, a run without clears it
(R398). -/
def camContam (c : Nat) (many : Bool) (s : State) : State :=
  let s := modCtx c (fun x => { x with
    lowRun := if many then x.lowRun + 1 else 0, okRun := if many then 0 else x.okRun + 1 }) s
  let n := max (parN s 0x5032 0) 1
  let x := ctxOf s c
  if many && decide (n ≤ x.lowRun) && !s.cam.contam.getLsbD c then
    logNow 0x1A01 c 0 (modCam (fun m => { m with contam := m.contam ||| BitVec.ofNat 8 (2 ^ c) }) s)
  else if !many && decide (n ≤ x.okRun) && s.cam.contam.getLsbD c then
    logNow 0x0A02 c 0 (modCam (fun m => { m with contam := m.contam &&& ~~~BitVec.ofNat 8 (2 ^ c) }) s)
  else s

/-- STATISTICS_RECORD of a frame with kept statistics: baselines, contamination, and the record on its ring
(R395 to R398). -/
def statsOut (c : Nat) (f : CamF) (s : State) : State :=
  if f.short then s
  else
    let p := lumaOf f c
    let w := camW f c
    let h := camH f c
    let g := (upto 64).map (gradientOf p w h)
    let y := meanY p w h
    let s := if y < parN s 0x5034 0 || framePar f 0x500B c != parN s 0x500B c then s
      else
        let low := lowWindows s c g
        let ready := decide (64 ≤ (ctxOf s c).baseN)
        let b := baselines s c g (if ready then low else [])
        let s := modCtx c (fun x => { x with base := b, baseN := min 64 (x.baseN + 1) }) s
        if ready then camContam c (decide (parN s 0x5033 0 ≤ low.length)) s else s
    let n := parN s 0x5019 c
    if n < 32 then
      ringSend n (leBytes 8 f.tFrame.toNat ++ leBytes 4 f.no.toNat ++
        leBytes 4 (s.cam.contam.toNat * 2 ^ 24 + y % 256 * 65536 + c % 8) ++
        (upto 64).flatMap fun k => leBytes 4 (g.getD k 0) ++ leBytes 4 (laplaceOf p w h k)) s
    else s

/-- When the earliest frame of a context that waits for the pipeline started. -/
def waitingSince (s : State) (c : Nat) : Option Nat :=
  match (ctxOf s c).wait with
  | f :: _ => some f.startAt
  | [] => match (ctxOf s c).frame with
    | some f => if f.live then none else some f.startAt
    | none => none

/-- The context that the pipeline takes next: the higher CAM_PRIO, on equal priority the frame that started first (R391). -/
def nextCtx (s : State) (p : Nat) : Option Nat :=
  let a := 2 * p
  let b := 2 * p + 1
  match waitingSince s a, waitingSince s b with
  | none, none => none
  | some _, none => some a
  | none, some _ => some b
  | some ta, some tb =>
    if parN s 0x500E b < parN s 0x500E a then some a
    else if parN s 0x500E a < parN s 0x500E b then some b
    else if ta ≤ tb then some a else some b

/-- Pipeline p takes its next frame, whose buffered lines drain, or becomes idle (R391 to R393). -/
def pipeNext (p : Nat) (s : State) : State :=
  match nextCtx s p with
  | none => modCam (fun m => { m with busy := bset m.busy p 0 }) s
  | some c =>
    let s := modCam (fun m => { m with busy := bset m.busy p (c + 1) }) s
    match (ctxOf s c).wait with
    | f :: rest =>
      mapSwap c f (modCtx c (fun x => { x with wait := rest })
        (modCam (fun m => { m with job := bset m.job p { f with buffered := 0, live := true } }) s))
    | [] => modCtx c (fun x => { x with frame := x.frame.map fun f => { f with live := true, buffered := 0 } }) s

/-- PIPELINE_FRAME_DONE: pipeline p has processed its closed frame; statistics and image are written and the next waiting
context is taken (R386, R391, R396, R398). -/
def execPipelineFrameDone (t : Nat) (pipe : Fin 4) (s : State) : Host.Outcome State Fault Refusal :=
  let s := s.start t
  let p := pipe.val
  match s.cam.job.find? fun j => j.1 == p with
  | none => done s
  | some (_, f) =>
    let c := bget 0 s.cam.busy p - 1
    let s := modCam (fun m => { m with job := bdel m.job p }) s
    done (pipeNext p (imageOut c f (statsOut c f s)))

end Sys2Proof.Machine
end

