-- ==== Sys2Proof/Machine/Forward.lean ====
section
/-!
DEFINITION. The commands that bring forwarded points to a device (R573, R588).
-/
namespace Sys2Proof.Machine

/-- The first n pieces of 16 bytes of a list. -/
def pieces16 : Nat → List Byte → List (List Byte)
  | 0, _ => []
  | n + 1, l => l.take 16 :: pieces16 n (l.drop 16)

/-- PT_REC: the packet's point records go to the lane's point ring (R588). -/
def execPtRec (t : Nat) (lane : Fin 8) (rx : SlkRx) (data : List Byte) (s : State) :
    Host.Outcome State Fault Refusal :=
  let (ok, s) := slkTake lane rx (s.start t)
  if ok then done ((pieces16 (data.length / 16) data).foldl (fun s d => fwdTake lane false d s) s) else done s

/-- PT_HDR: the header is rewritten for the ring's own stream and goes to the lane's header ring (R588). -/
def execPtHdr (t : Nat) (lane : Fin 8) (rx : SlkRx) (data : List Byte) (s : State) :
    Host.Outcome State Fault Refusal :=
  let (ok, s) := slkTake lane rx (s.start t)
  if ok then done (fwdTake lane true data s) else done s

end Sys2Proof.Machine
end

