-- ==== Sys2Proof/Machine/Registers.lean ====
section
/-!
DEFINITION. The register blocks of BAR0: what a read of each register returns, which reads clear, and the writes that have
no row of their own (R13, R85, R159, R192, R219, R248, R281, R320, R402, R430, R488, R491, R513, R518, R519, R528, R530,
R541, R558).
-/
namespace Sys2Proof.Machine

/-- A field of a register word at bit lo, w bits wide. -/
def fld (w lo v : Nat) : Nat := v % 2 ^ w * 2 ^ lo
/-- A signed value in 16 bits. -/
def i16 (v : Int) : Nat := (v % 65536).toNat
/-- Sixteen bits of a 64-bit word and more. -/
abbrev lo32 (x : BitVec 64) : Nat := x.toNat % 2 ^ 32
/-- The upper half of a 64-bit word. -/
abbrev hi32 (x : BitVec 64) : Nat := x.toNat / 2 ^ 32

/-! ## Values -/

/-- Ringmaster status block (R85). -/
def readRm (s : State) (o : Nat) : Nat :=
  let r := s.rm
  let stop := !r.inhibits.isEmpty || s.fld.wdgTripped
  let win := fun (k : Nat) => (bget (0 : BitVec 32) r.win k).toNat
  match o with
  | 0x00 => fld 1 31 (b2n ((s.dev == .run || s.dev == .safe) && r.table.isSome && !stop)) + fld 1 30 (b2n stop) +
      fld 1 29 (b2n r.table.isSome) + fld 1 28 (b2n (r.inFrame && decide (r.nAct ≤ r.cycle))) +
      fld 8 16 (r.level - 1) + fld 3 0 r.pos
  | 0x04 => r.frameNo.toNat
  | 0x08 => fld 16 16 r.nCyc + fld 16 0 r.cycle
  | 0x0C => fld 16 16 r.gEff + fld 16 0 r.pNs
  | 0x10 => fld 16 16 r.marginB.toNat + fld 16 0 r.marginA.toNat
  | 0x40 => win 0
  | 0x44 => win 1
  | 0x48 => win 2
  | 0x4C => win 3
  | _ => if 0x20 ≤ o && o ≤ 0x3C then (bget (0 : BitVec 32) r.skips ((o - 0x20) / 4 + 1)).toNat else 0

/-- Timebase status block (R159). -/
def readTb (s : State) (o : Nat) : Nat :=
  let c := s.tbs
  match o with
  | 0x00 => fld 1 31 (b2n c.lock) + fld 1 30 c.src + fld 1 29 (b2n c.refOk) + fld 1 28 (b2n c.ppsOk) +
      fld 1 27 (b2n c.freqOk) + fld 1 26 (b2n c.armed) + fld 1 25 (b2n c.loaded)
  | 0x04 => lo32 (t64Now s)
  | 0x08 => c.latchT64.toNat
  | 0x0C => lo32 c.ppsLast
  | 0x10 => c.latchPps.toNat
  | 0x14 => (c.freqErr % 2 ^ 32).toNat
  | 0x18 => ((upto 256).filter fun n => (chanOf s n).failed).length
  | _ => 0

/-- Echo-engine status block (R192). -/
def readEe (s : State) (o : Nat) : Nat :=
  let e := s.ee
  match o with
  | 0x00 => fld 1 27 (b2n e.hist) +
      fld 1 26 (b2n ([16, 17].any fun n => (engOf s n).serves.isSome && !(engOf s n).retired && (engOf s n).ready && !(engOf s n).live &&
        !replayDone s n)) +
      fld 2 24 (b2n (spareFree s 16) + b2n (spareFree s 17)) + fld 1 23 (b2n (s.chan.any fun p => p.2.lost)) +
      fld 18 0 (ofBits 18 fun n => (engOf s n).retired)
  | 0x04 => fld 5 8 (spareServes s 17) + fld 5 0 (spareServes s 16)
  | 0x08 => e.deadline.toNat
  | 0x0C => e.katFail.toNat
  | 0x10 => e.replayShots.toNat
  | 0x14 => e.maxLat.toNat
  | 0x18 => lo32 e.faultT
  | 0x1C => e.faultHi.toNat
  | 0x20 => fld 8 24 (min 255 e.faultShots) + fld 3 16 e.faultPos + fld 2 8 e.faultCause + fld 5 0 e.faultEng
  | _ => if 0x40 ≤ o && o ≤ 0x5C then chanBits s ((o - 0x40) / 4) (·.lost) else 0

/-- Rejection status block (R219). -/
def readRj (s : State) (o : Nat) : Nat :=
  let r := s.rj
  match o with
  | 0x00 => nsum ((upto 4).map fun b =>
        fld 4 (16 + 4 * b) ((upto 8).filter fun k => (bget ({} : Train) r.trains (8 * b + k)).st == 2).length) +
      fld 1 15 (b2n s.rm.coordActive) + fld 1 14 (b2n (parB s 0x3020 0 && r.coordStatus.getLsbD 1)) +
      fld 1 13 (b2n (s.chan.any fun p => p.2.contam))
  | 0x04 => r.blanked.toNat
  | 0x08 => r.seedLost.toNat
  | 0x0C => r.trainDrop.toNat
  | 0x30 => r.suppLast % 2 ^ 32
  | _ => if 0x10 ≤ o && o ≤ 0x2C then bget 0 r.classLast ((o - 0x10) / 4) % 2 ^ 32
      else if 0x40 ≤ o && o ≤ 0x5C then chanBits s ((o - 0x40) / 4) (·.contam) else 0

/-- Calibration status block (R248). -/
def readCal (s : State) (o : Nat) : Nat :=
  let n := ((upto 256).filter fun c => (chanOf s c).staleCause != 0).length
  match o with
  | 0x00 => fld 1 31 (b2n (parB s 0x3400 0)) + fld 1 30 (b2n (n != 0)) + fld 4 24 s.ts.staleMon.toNat + fld 9 0 n
  | 0x04 => s.ts.epoch.toNat
  | 0x08 => s.ts.commitCnt.toNat
  | 0x0C => s.ts.disagreeCnt.toNat
  | 0x10 => s.ts.discardCnt.toNat
  | _ => if 0x40 ≤ o && o ≤ 0x5C then chanBits s ((o - 0x40) / 4) (·.staleCause != 0) else 0

/-- Ring n is full now (R527). -/
def ringFullNow (s : State) (n : Nat) : Bool := ringRunning (ringOf s n) && ringFull (ringOf s n)

/-- Point-output status block (R281). -/
def readPt (s : State) (o : Nat) : Nat :=
  let p := s.pt
  match o with
  | 0x00 => fld 1 31 (b2n p.streaming) + fld 1 30 (b2n (ringFullNow s (parN s 0x3801 0))) +
      fld 1 29 (b2n (ringFullNow s (parN s 0x3802 0))) + fld 1 28 (b2n p.replayHold) + fld 2 26 p.negStatus +
      fld 7 0 (min 64 (headersHeld s))
  | 0x04 => p.index.toNat
  | 0x08 => p.lastFrame.toNat
  | 0x0C => p.dropped.toNat
  | 0x10 => p.heldMax.toNat
  | 0x14 => p.maxLat.toNat
  | _ => 0

/-- The inhibits that the LCE raises (R290, R310 to R312, R690). -/
def lceInhibit (w : Inhibit) : Bool :=
  match w with
  | .bothFeedback => true
  | .lceFault => true
  | .bridge => true
  | .restart => true
  | .bridgeOff => true
  | .lceMode => true
  | _ => false

/-- LCE status block (R320). -/
def readLce (s : State) (o : Nat) : Nat :=
  let l := s.lce
  match o with
  | 0x00 => fld 3 24 l.mode + fld 1 23 (b2n (s.rm.inhibits.any lceInhibit)) + fld 1 22 (b2n l.halved) +
      fld 1 21 (b2n l.priOos) + fld 1 20 (b2n l.secOos) + fld 1 19 (b2n l.injRun) + fld 16 0 l.computeMax.toNat
  | 0x04 => fld 16 16 (i16 l.thRef) + fld 16 0 (i16 l.thEst)
  | 0x08 => fld 16 16 (i16 l.resSec) + fld 16 0 (i16 l.resPri)
  | 0x0C => l.overrun.toNat
  | 0x10 => l.sat.toNat
  | 0x14 => nsum ((upto 4).map fun b => fld 8 (8 * b) (bget 0 l.winCh b))
  | 0x18 => fld 16 16 (i16 l.iCmd) + fld 2 14 l.iLimit
  | _ => 0

/-- Camera context c. -/
def camCtx (s : State) (c : Nat) : CtxS := bget {} s.cam.ctx c

/-- Camera status block (R402). -/
def readCam (s : State) (o : Nat) : Nat :=
  let m := s.cam
  match o with
  | 0x00 =>
      fld 4 28 (ofBits 4 fun p => let a := bget 0 m.linkAt p; decide (0 < a) && decide (s.tb ≤ a - 1 + 100 * msU)) +
      fld 4 24 (ofBits 4 fun p => bget 0 m.busy p != 0) +
      fld 8 16 (ofBits 8 fun c => parB s 0x5008 c && (match (camCtx s c).closedAt with
        | some a => decide (s.tb ≤ a + 2 * parN s 0x500D c * usU)
        | none => false)) +
      fld 8 8 m.contam.toNat +
      fld 8 0 (ofBits 8 fun c => !(camCtx s c).wait.isEmpty || (match (camCtx s c).frame with
        | some f => decide (0 < f.buffered)
        | none => false))
  | 0x04 => m.dropCnt.toNat
  | 0x08 => m.shortCnt.toNat
  | 0x0C => m.longCnt.toNat
  | 0x10 => m.lineErr.toNat
  | 0x14 => m.phyErr.toNat
  | _ => 0

/-- Safety I/O status block (R430). -/
def readSaf (s : State) (o : Nat) : Nat :=
  let f := s.saf
  let out := fun (g : OutS → Bool) => ofBits 4 fun n => g (outOf s n)
  match o with
  | 0x00 => fld 4 28 f.setNo + fld 1 27 (b2n f.pinsOk) + fld 1 26 (b2n f.setOk) + fld 1 25 (b2n (s.dev == .safe)) +
      fld 1 24 (b2n f.pinChange) + fld 8 16 f.pins.toNat + fld 8 8 (tpFault s) +
      fld 4 4 (out fun x => x.fault != 0) + fld 4 0 (out fun x => x.on)
  | 0x04 => fld 16 16 (ofBits 16 fun n => (inOf s n).fault != 0) + fld 16 0 (siState s)
  | 0x08 => fld 4 28 (ofBits 4 fun n => (inOf s (16 + n)).state) + fld 4 24 (out fun x => x.readback) +
      fld 4 20 (out fun x => x.request) + fld 4 16 (out fun x => x.dark)
  | 0x0C => sfStates s 8
  | 0x10 => sfStates s 12 / 2 ^ 32
  | 0x14 => f.tpErr.toNat
  | 0x18 => f.dtCount.toNat
  | _ => 0

/-- Recorder status block (R488). -/
def readRec (s : State) (o : Nat) : Nat :=
  match o with
  | 0x00 => fld 1 31 (b2n (parB s 0x6800 0)) + fld 1 30 (b2n s.car.ddrOk) + fld 4 26 s.car.chOos.toNat +
      fld 16 0 (ofBits 16 (hasUnread s))
  | 0x04 => nsum ((upto 8).map fun k => fld 4 (4 * k) (strState s k))
  | 0x08 => nsum ((upto 8).map fun k => fld 4 (4 * k) (strState s (8 + k)))
  | 0x0C => s.car.missedCnt.toNat
  | 0x10 => recWriteRate s
  | _ => 0

/-- The registers of ring n (R530). -/
def readRing (s : State) (n o : Nat) : Nat :=
  let r := ringOf s n
  match o with
  | 0x00 => fld 1 31 (b2n r.enable)
  | 0x04 => fld 1 31 (b2n (ringRunning r)) + fld 1 30 (b2n (ringFullNow s n)) + fld 1 29 (b2n r.stopped) +
      fld 1 28 (b2n (s.pci.staged.any fun x => x.1 == n)) + fld 3 0 r.cause
  | 0x08 => lo32 r.base
  | 0x0C => hi32 r.base
  | 0x10 => fld 17 0 r.size
  | 0x14 => r.tail.toNat
  | 0x18 => lo32 r.wb
  | 0x1C => hi32 r.wb
  | 0x20 => r.done.toNat
  | 0x24 => r.drop.toNat
  | _ => 0

/-- The host block (R541). -/
def readPci (s : State) (o : Nat) : Nat :=
  let p := s.pci
  match o with
  | 0x00 => fld 1 31 (b2n p.dlUp) + fld 1 30 (b2n p.retraining) + fld 1 29 (b2n (decide (p.width < p.trained) && p.dlUp)) +
      fld 1 28 (b2n (!p.staged.isEmpty)) + fld 2 26 p.neg + fld 4 16 p.failed.toNat + fld 3 8 p.speed +
      fld 4 4 p.trained + fld 4 0 p.width
  | 0x04 => p.verHost.toNat
  | 0x08 => p.verNeg.toNat
  | 0x10 => p.stageBytes / 1024 % 2 ^ 32
  | 0x14 => p.maxHold.toNat
  | 0x18 => nsum ((upto 4).map fun l => fld 8 (8 * l) (min 255 (bget 0 p.laneErr l)))
  | _ => 0

/-- Word j of a 512-bit array. -/
def arrWord (x : BitVec 512) (j : Nat) : Nat := x.toNat / 2 ^ (32 * j) % 2 ^ 32

/-- The targets asleep, as function f sees them (R501, R513). -/
def asleepBits (s : State) (f : Nat) : Nat :=
  ofBits 8 fun t =>
    if t = 6 then !hostAwake s f else if t = 7 then !slinkAwake s
    else !(s.dev == .boot || s.dev == .config || s.dev == .run || s.dev == .safe)

/-- The EIC block of function f, without the log (R513). -/
def readEic (s : State) (f o : Nat) : Nat :=
  let e := s.eic
  if o = 0x000 then
    fld 1 31 (b2n (bget false e.badComplete f)) + fld 8 16 (asleepBits s f) +
      fld 10 0 ((upto 512).filter fun n => (eicReady s).getLsbD n && !e.moved.getLsbD n &&
        targetOf s (groupOf s n) == 6 && (grpOf s (groupOf s n)).func == f).length
  else if o = 0x00C then (bget (0 : BitVec 32) e.vanished f).toNat
  else if o = 0x010 then (bget (0 : BitVec 32) e.redirected f).toNat
  else if 0x100 ≤ o && o < 0x140 then arrWord e.mask ((o - 0x100) / 4)
  else if 0x140 ≤ o && o < 0x180 then arrWord e.mask ((o - 0x140) / 4)
  else if 0x180 ≤ o && o < 0x1C0 then arrWord (e.pend ||| e.again) ((o - 0x180) / 4)
  else if 0x1C0 ≤ o && o < 0x200 then arrWord (e.pend ||| e.again) ((o - 0x1C0) / 4)
  else if 0x200 ≤ o && o < 0x240 then arrWord e.level ((o - 0x200) / 4)
  else if 0x240 ≤ o && o < 0x280 then arrWord e.active ((o - 0x240) / 4)
  else if 0x300 ≤ o && o < 0x380 then
    let g := (o - 0x300) / 4
    fld 8 24 (grpOf s g).count + fld 3 21 (targetOf s g) + fld 18 0 (grpOf s g).time
  else if 0x380 ≤ o && o < 0x400 then
    let g := grpOf s ((o - 0x380) / 4)
    fld 1 7 g.func + fld 6 0 g.vector
  else if 0x800 ≤ o && o < 0x1000 then
    let n := (o - 0x800) / 4
    fld 1 31 (b2n (isFixedSrc n)) + fld 1 30 (b2n (eicIsLevel n)) + fld 1 29 (b2n (Config.eicWake n)) +
      fld 5 0 (groupOf s n)
  else 0

/-- The log registers, in PF1 alone (R513). -/
def readLog (s : State) (o : Nat) : Nat :=
  let l := s.log
  let word := fun (x : LogE) (k : Nat) => ofLe (((logBytes x).drop (4 * k)).take 4)
  if o = 0x1000 then fld 24 8 l.gen.toNat + fld 8 0 l.next.toNat
  else if o = 0x1004 then fld 1 31 (b2n l.first.isSome) + fld 1 30 (b2n (l.lost.any fun p => p.2 != 0))
  else if 0x1010 ≤ o && o ≤ 0x1020 then (bget (0 : BitVec 32) l.lost ((o - 0x1010) / 4)).toNat
  else if 0x1040 ≤ o && o ≤ 0x104C then word (l.first.getD {}) ((o - 0x1040) / 4)
  else if 0x2000 ≤ o && o < 0x3000 then word (logSlot s ((o - 0x2000) / 16)) ((o - 0x2000) / 4 % 4)
  else 0

/-- The Xiest mailbox: registers and buffers; its write-only registers read 0 (R13, R558). -/
def readMbx (s : State) (o : Nat) : Nat :=
  let m := s.xi.mbx
  if o = 0x1004 then
    fld 1 31 (b2n m.reqFree) + fld 1 30 (b2n m.rspReady) + fld 1 29 (b2n m.rspFirst) + fld 1 28 (b2n m.rspLast) +
      fld 1 27 (b2n m.aborted) + fld 1 26 (b2n m.overrun) + fld 13 0 m.rspLen
  else if 0x2000 ≤ o && o < 0x3000 then ofLe (Memory.readBytes m.req (o - 0x2000) 4)
  else if 0x3000 ≤ o && o < 0x4000 then ofLe (Memory.readBytes m.rsp (o - 0x3000) 4)
  else 0

/-- MSI-X table and PBA of function f at an offset from the table (R517, R518): vector v has its message address in words 0 and 1,
its data in word 2 and its Mask Bit in word 3 (PRESUMED, log entry 91). -/
def readMsix (s : State) (f o : Nat) : Nat :=
  let vs := if f = 0 then 64 else 16
  if o < 16 * vs then
    if o % 16 = 12 then b2n (!bget false s.pci.msixOpen (64 * f + o / 16))
    else (bget (0 : BitVec 32) s.pci.msixTab (256 * f + o / 4)).toNat
  else if 0x1000 ≤ o && o < 0x1000 + vs / 8 then ofBits 32 fun i => bget false s.pci.msixPba (64 * f + (o - 0x1000) * 8 + i) && decide ((o - 0x1000) * 8 + i < vs)
  else 0

/-- A register of function f's configuration space (R1, R501, R515 to R518, R528, R536, R538; bit places PRESUMED, log
entry 18). -/
def readCfg (s : State) (f : Nat) (r : CfgReg) : Nat :=
  let a := aerOf s f
  match r with
  | .id => 0x4256 * 2 ^ 16 + Config.vendorId.toNat
  | .command => fld 1 2 (b2n (if f = 0 then s.pci.bme else s.pci.bme1))
  | .classRev => (if f = 0 then 0x118000 else 0x088000) * 256 + Config.steppingCore.toNat
  | .bar0Lo => lo32 (bget (0 : BitVec 64) s.pci.bar0 f) / 16 * 16 + 4
  | .bar0Hi => hi32 (bget (0 : BitVec 64) s.pci.bar0 f)
  | .subsystem =>
    let (v, d) := Config.subsystem.getD (Config.vendorId, 0)
    d.toNat * 2 ^ 16 + v.toNat
  | .capPtr => (Config.capOfs 0).toNat
  | .pcieCap => 0x10 + (Config.capOfs 1).toNat * 256 + 2 * 2 ^ 16
  | .devCap => 1 + fld 1 5 1 + fld 1 15 1 + fld 1 28 1
  | .devCtl => a.devCtl.toNat
  | .linkCap => 4 + fld 6 4 4 + fld 1 11 1 + fld 3 15 3
  | .linkStatus => (s.pci.speed + fld 6 4 s.pci.width) * 2 ^ 16
  | .pmCap => 1 + (Config.capOfs 2).toNat * 256 + 3 * 2 ^ 16 + fld 1 27 1 + fld 1 30 1
  | .pmCtl => (if bget false s.pci.d3 f then 3 else 0) + fld 1 8 (b2n (a.pme.getLsbD 0)) + fld 1 15 (b2n (a.pme.getLsbD 1))
  | .msixControl => 0x11 + fld 2 30 (bget 0 s.pci.msixCtl f) + (if f = 0 then 63 else 15) * 2 ^ 16
  | .msixTable => if f = 0 then 0x20000 else 0x8000
  | .msixPba => if f = 0 then 0x21000 else 0x9000
  | .aerCap => 1 + 2 * 2 ^ 16 + Config.extNext.toNat * 2 ^ 20
  | .aerCtl => fld 1 5 1 + fld 1 6 (b2n (a.ecrc.getLsbD 0)) + fld 1 7 1 + fld 1 8 (b2n (a.ecrc.getLsbD 1))
  | .uncStatus => a.unc.toNat
  | .uncMask => a.uncMask.toNat
  | .uncSeverity => a.uncSev.toNat
  | .corStatus => a.cor.toNat
  | .corMask => a.corMask.toNat
  | .laneError => if f = 0 then s.pci.laneSt.toNat else 0

/-- What BAR0 of function f shows at a word offset; 0 outside every block (R518, R519). -/
def regRead (s : State) (f o : Nat) : Nat :=
  if o < 0x20 then readPci s o
  else if f = 0 then
    if o < 0x1000 then 0
    else if o < 0x1100 then readRm s (o - 0x1000)
    else if o < 0x1200 then readTb s (o - 0x1100)
    else if o < 0x1300 then readEe s (o - 0x1200)
    else if o < 0x1400 then readRj s (o - 0x1300)
    else if o < 0x1500 then readCal s (o - 0x1400)
    else if o < 0x1600 then readPt s (o - 0x1500)
    else if o < 0x1700 then readLce s (o - 0x1600)
    else if o < 0x1800 then readCam s (o - 0x1700)
    else if o < 0x1900 then readSaf s (o - 0x1800)
    else if o < 0x1A00 then readRec s (o - 0x1900)
    else if 0x4000 ≤ o && o < 0x4800 then readRing s ((o - 0x4000) / 64) (o % 64)
    else if 0x10000 ≤ o && o < 0x11000 then readEic s 0 (o - 0x10000)
    else if 0x20000 ≤ o then readMsix s 0 (o - 0x20000)
    else 0
  else if 0x8000 ≤ o then readMsix s 1 (o - 0x8000)
  else if 0x1000 ≤ o && o < 0x4000 then readMbx s o
  else if 0x4000 ≤ o && o < 0x5000 then readEic s 1 (o - 0x4000)
  else if 0x5000 ≤ o && o < 0x7000 then readLog s (o - 0x4000)
  else 0

/-! ## Reads that clear -/

/-- The RC registers of the status blocks of PF0 (R13). -/
def regClear0 (o : Nat) (s : State) : State :=
  match o with
  | 0x1208 => modEe (fun e => { e with deadline := 0 }) s
  | 0x120C => modEe (fun e => { e with katFail := 0 }) s
  | 0x1210 => modEe (fun e => { e with replayShots := 0 }) s
  | 0x1304 => modRj (fun r => { r with blanked := 0 }) s
  | 0x1308 => modRj (fun r => { r with seedLost := 0 }) s
  | 0x130C => modRj (fun r => { r with trainDrop := 0 }) s
  | 0x1408 => modTs (fun c => { c with commitCnt := 0 }) s
  | 0x140C => modTs (fun c => { c with disagreeCnt := 0 }) s
  | 0x1410 => modTs (fun c => { c with discardCnt := 0 }) s
  | 0x150C => modPt (fun p => { p with dropped := 0 }) s
  | 0x1510 => modPt (fun p => { p with heldMax := 0 }) s
  | 0x1514 => modPt (fun p => { p with maxLat := 0 }) s
  | 0x160C => modLce (fun l => { l with overrun := 0 }) s
  | 0x1610 => modLce (fun l => { l with sat := 0 }) s
  | 0x1704 => { s with cam := { s.cam with dropCnt := 0 } }
  | 0x1708 => { s with cam := { s.cam with shortCnt := 0 } }
  | 0x170C => { s with cam := { s.cam with longCnt := 0 } }
  | 0x1710 => { s with cam := { s.cam with lineErr := 0 } }
  | 0x1714 => { s with cam := { s.cam with phyErr := 0 } }
  | 0x1814 => modSaf (fun c => { c with tpErr := 0 }) s
  | 0x1818 => modSaf (fun c => { c with dtCount := 0 }) s
  | 0x190C => modRec (fun c => { c with missedCnt := 0 }) s
  | _ =>
    if 0x1020 ≤ o && o ≤ 0x103C then modRm (fun r => { r with skips := bset r.skips ((o - 0x1020) / 4 + 1) 0 }) s
    else if 0x4000 ≤ o && o < 0x4800 && o % 64 == 0x24 then modRing ((o - 0x4000) / 64) (fun r => { r with drop := 0 }) s
    else s

/-- A read of an RC register of function f clears it; other registers stay (R13). -/
def regClear (f o : Nat) (s : State) : State :=
  let e := if f = 0 then 0x10000 else 0x4000
  if o = 0x14 then modPci (fun p => { p with maxHold := 0 }) s
  else if o = 0x18 then modPci (fun p => { p with laneErr := [] }) s
  else if o = e + 0x00C then modEic (fun x => { x with vanished := bset x.vanished f 0 }) s
  else if o = e + 0x010 then modEic (fun x => { x with redirected := bset x.redirected f 0 }) s
  else if f = 0 then regClear0 o s else s

/-- The offset is that of a register whose read has a row of its own: EIC_CLAIM, TB_T64_LO, TB_PPS_LO, EE_FAULT_T_LO. -/
def readRowed (f o : Nat) : Bool :=
  if f = 0 then o == 0x10004 || o == 0x1104 || o == 0x110C || o == 0x1218 else o == 0x4004

/-- READ_CLEAR: a read of a register of function f, in BAR0 or in configuration space, returns its value; an RC register is
cleared then (R1, R13, R517, R519, R536). -/
def execReadClear (t : Nat) (f : Fin 2) (ofs : RegOfs) (s : State) : Host.Outcome State Fault Refusal :=
  let s := s.start t
  match ofs with
  | .cfg r => done (reply (readCfg s f r) s)
  | .bar ofs =>
    let o := ofs.toNat / 4 * 4
    if readRowed f o then done s else done (regClear f o (reply (regRead s f o) s))

/-- TB_T64_LO_READ: a read of TB_T64_LO, or with pps of TB_PPS_LO, latches the upper half of the same value (R159). -/
def execTbT64LoRead (t : Nat) (pps : Bool) (s : State) : Host.Outcome State Fault Refusal :=
  let s := s.start t
  let v := if pps then s.tbs.ppsLast else t64Now s
  let h := BitVec.ofNat 32 (hi32 v)
  done (reply (lo32 v) (modTbs (fun c => if pps then { c with latchPps := h } else { c with latchT64 := h }) s))

/-- EE_FAULT_T_LO_READ: a read of EE_FAULT_T_LO latches EE_FAULT_T_HI (R192). -/
def execEeFaultTLoRead (t : Nat) (s : State) : Host.Outcome State Fault Refusal :=
  let s := s.start t
  done (reply (lo32 s.ee.faultT) (modEe (fun e => { e with faultHi := BitVec.ofNat 32 (hi32 e.faultT) }) s))

/-! ## Writes -/

/-- The pending events of group g follow its new routing (R500). -/
def groupReroute (g : Nat) (s : State) : State :=
  (upto 512).foldl (fun s n => if groupOf s n = g then reroute s n else s) s

/-- A write of EIC_GRP_CFG of group g: COUNT 1 to 255, TARGET HOST or SLINK, TIME 1 to 260,000; a field with another
value stays, groups 0 to 7 are the firmware's, and pending events follow a new TARGET (R491, R500, R513). -/
def writeGrpCfg (g v : Nat) (s : State) : State :=
  if g < 8 then s
  else
    let c := bits v 31 24
    let k := bits v 23 21
    let d := bits v 17 0
    let was := (grpOf s g).target
    let s := modGrp g (fun x => { x with
      count := if 1 ≤ c then c else x.count
      target := if k = 6 || k = 7 then k else x.target
      time := if 1 ≤ d && d ≤ 260000 then d else x.time }) s
    if (grpOf s g).target = was then s else groupReroute g s

/-- A write of EIC_GRP_VEC of group g; one whose vector the function does not have is rejected, and pending events follow a new
function or vector (R491, R500, R513). -/
def writeGrpVec (g v : Nat) (s : State) : State :=
  if g < 8 then s
  else
    let f := bits v 7 7
    let n := bits v 5 0
    if f = 0 || n < 16 then
      let was := grpOf s g
      let s := modGrp g (fun x => { x with func := f, vector := n }) s
      if was.func = f && was.vector = n then s else groupReroute g s
    else s

/-- A write of EIC_ROUTE of source n: groups 8 to 31 for a host source; a pending event follows to the new group
(R491, R500, R513). -/
def writeRoute (n v : Nat) (s : State) : State :=
  let g := bits v 4 0
  if !isHostSrc n || decide (g < 8) || g == groupOf s n then s
  else reroute (modEic (fun e => { e with route := bset e.route n g }) (uncount n s)) n

/-- The EIC block of function f: what a write changes that has no row of its own (R491, R513). -/
def writeEic (f o v : Nat) (s : State) : State :=
  if o = 0x000 then (if bit v 31 then modEic (fun e => { e with badComplete := bset e.badComplete f false }) s else s)
  else if 0x300 ≤ o && o < 0x380 then writeGrpCfg ((o - 0x300) / 4) v s
  else if 0x380 ≤ o && o < 0x400 then writeGrpVec ((o - 0x380) / 4) v s
  else if 0x800 ≤ o && o < 0x1000 then writeRoute ((o - 0x800) / 4) v s
  else s

/-- A 64-bit register with one half written. -/
def setHalf (x : BitVec 64) (high : Bool) (v : Nat) : BitVec 64 :=
  BitVec.ofNat 64 (if high then v * 2 ^ 32 + lo32 x else hi32 x * 2 ^ 32 + v)

/-- A ring's registers: base, size and write-back address while ENABLE is 0, TAIL at any time (R524, R528). -/
def writeRing (n o v : Nat) (s : State) : State :=
  let set := fun (f : RingS → RingS) => if (ringOf s n).enable then s else modRing n f s
  match o with
  | 0x08 => set fun r => { r with base := setHalf r.base false v }
  | 0x0C => set fun r => { r with base := setHalf r.base true v }
  | 0x10 => set fun r => { r with size := v % 2 ^ 17 }
  | 0x14 => ringKick n (modRing n (fun r => { r with tail := BitVec.ofNat 32 v }) s)
  | 0x18 => set fun r => { r with wb := setHalf r.wb false v }
  | 0x1C => set fun r => { r with wb := setHalf r.wb true v }
  | _ => s

/-- A write of the MSI-X table of function f; a vector whose Mask Bit becomes 0 sends the message that waits (R518; log entry 91). -/
def writeMsix (f o v : Nat) (s : State) : State :=
  let n := o / 16
  if o < 16 * (if f = 0 then 64 else 16) then
    if o % 16 = 12 then
      let open_ := v % 2 == 0
      let waits := bget false s.pci.msixPba (64 * f + n)
      let s := modPci (fun p => { p with
        msixOpen := bset p.msixOpen (64 * f + n) open_
        msixPba := if open_ then bset p.msixPba (64 * f + n) false else p.msixPba }) s
      if open_ && waits then hostMsix f n s else s
    else modPci (fun p => { p with msixTab := bset p.msixTab (256 * f + o / 4) (BitVec.ofNat 32 v) }) s
  else s

/-- A write of a word of BAR0 of function f; RO registers, offsets outside every block and registers whose write is a row
of its own stay; 1 to FIRST_VALID clears EIC_FIRST (R13, R509, R519). -/
def regWrite (f o v : Nat) (s : State) : State :=
  if o = 0x04 then modPci (fun p => { p with verHost := BitVec.ofNat 32 v }) s
  else if f = 0 then
    if o = 0x1100 then (if bit v 25 then modTbs (fun c => { c with loaded := false }) s else s)
    else if 0x4000 ≤ o && o < 0x4800 then writeRing ((o - 0x4000) / 64) (o % 64) v s
    else if 0x10000 ≤ o && o < 0x11000 then writeEic 0 (o - 0x10000) v s
    else if 0x20000 ≤ o then writeMsix 0 (o - 0x20000) v s
    else s
  else if 0x8000 ≤ o then writeMsix 1 (o - 0x8000) v s
  else if 0x2000 ≤ o && o < 0x3000 then
    { s with xi := { s.xi with mbx := { s.xi.mbx with req := Memory.writeBytes s.xi.mbx.req (o - 0x2000) (leBytes 4 v) } } }
  else if 0x4000 ≤ o && o < 0x5000 then writeEic 1 (o - 0x4000) v s
  else if o = 0x5004 && bit v 31 then firstClear s
  else s

/-- Bus Master Enable of PF0 cleared: every running ring stops with cause 4 (R529). -/
def busMasterOff (s : State) : State :=
  (upto 32).foldl (fun s n => if ringRunning (ringOf s n) then ringStop n 4 s else s) (modPci (fun p => { p with bme := false }) s)

/-- Device Control after a write: the error reporting bits, the tag bit, payloads of 128 or 256 bytes and read requests of 128 to 512 bytes;
a size that the device does not support leaves its field (R515; bit places PRESUMED, log entry 18). -/
def devCtlSet (old : BitVec 16) (v : BitVec 32) : BitVec 16 :=
  let pay := bits v.toNat 7 5
  let req := bits v.toNat 14 12
  BitVec.ofNat 16 (v.toNat % 16 + fld 3 5 (if pay ≤ 1 then pay else bits old.toNat 7 5) + fld 1 8 (bits v.toNat 8 8) +
    fld 3 12 (if req ≤ 2 then req else bits old.toNat 14 12))

/-- A write of a configuration register of function f; Initiate FLR and PowerState act as FLR, D3HOT_ENTRY and D3HOT_EXIT; read-only ones stay, and a status bit of R536 is cleared by writing 1. -/
def writeCfg (f : Nat) (r : CfgReg) (v : BitVec 32) (s : State) : State :=
  match r with
  | .id | .classRev | .subsystem | .capPtr | .pcieCap | .devCap | .linkCap | .linkStatus | .pmCap | .msixTable | .msixPba | .aerCap => s
  | .devCtl => if v.getLsbD 15 then flrGo f s else modAer f (fun a => { a with devCtl := devCtlSet a.devCtl v }) s
  | .pmCtl =>
    let s := modAer f (fun a => { a with
      pme := BitVec.ofNat 2 (b2n (v.getLsbD 8)) ||| (if v.getLsbD 15 then 0 else a.pme &&& 2) }) s
    match v.toNat % 4 with
    | 3 => if bget false s.pci.d3 f then s else d3Enter f s
    | 0 => if bget false s.pci.d3 f then d3Leave f s else s
    | _ => s
  | .aerCtl => modAer f (fun a => { a with ecrc := BitVec.ofNat 2 (b2n (v.getLsbD 6) + 2 * b2n (v.getLsbD 8)) }) s
  | .command =>
    if f = 1 then modPci (fun p => { p with bme1 := v.getLsbD 2 }) s
    else if v.getLsbD 2 then modPci (fun p => { p with bme := true }) s
    else if s.pci.bme then busMasterOff s else s
  | .bar0Lo =>
    let size := if f = 0 then 2 ^ 18 else 2 ^ 16
    modPci (fun p => { p with bar0 := bset p.bar0 f (setHalf (bget 0 p.bar0 f) false (v.toNat / size * size)) }) s
  | .bar0Hi => modPci (fun p => { p with bar0 := bset p.bar0 f (setHalf (bget 0 p.bar0 f) true v.toNat) }) s
  | .msixControl =>
    let s := modPci (fun p => { p with
      msixCtl := bset p.msixCtl f (2 * b2n (v.getLsbD 31) + b2n (v.getLsbD 30))
      msixOn := bset p.msixOn f (v.getLsbD 31 && !v.getLsbD 30) }) s
    (upto 512).foldl arbitrate s
  | .uncStatus => modAer f (fun a => { a with unc := a.unc &&& ~~~v }) s
  | .uncMask => modAer f (fun a => { a with uncMask := v &&& uncBits }) s
  | .uncSeverity => modAer f (fun a => { a with uncSev := v &&& uncBits }) s
  | .corStatus => modAer f (fun a => { a with cor := a.cor &&& ~~~v }) s
  | .corMask => modAer f (fun a => { a with corMask := v &&& corBits }) s
  | .laneError => if f = 0 then modPci (fun p => { p with laneSt := p.laneSt &&& ~~~(v.setWidth 4) }) s else s

/-- REGISTER_WRITE: a write of a register without a row of its own, in BAR0 or in configuration space (R13, R501, R513, R517,
R518, R528, R536). -/
def execRegisterWrite (t : Nat) (at_ : RegAddr) (v : BitVec 32) (s : State) : Host.Outcome State Fault Refusal :=
  let s := s.start t
  match at_.ofs with
  | .bar ofs => done (regWrite at_.f (ofs.toNat / 4 * 4) v.toNat s)
  | .cfg r => done (writeCfg at_.f r v s)

end Sys2Proof.Machine
end

