-- ==== Sys2Proof/Machine/Xiest.lean ====
section
/-!
DEFINITION. The commands that arrive as a Xiest request, and those of its transports: CAN FD segments, the PF1 mailbox,
Scan Link segments, sessions (R545 to R561, R592). Rows that stand for one written entry are that WRITE request.
-/
namespace Sys2Proof.Machine

/-! ## Requests as rows -/

/-- HIST_SNAP: a WRITE of HIST_SNAP; 1 requests a snapshot of HIST_SNAP_CH (R179). -/
def execHistSnap (t : Nat) (ep : Fin 10) (tag : BitVec 8) (v : Bool) (s : State) :
    Host.Outcome State Fault Refusal :=
  done (serveWrite ep tag 0x2C19 0 (leBytes 1 (b2n v)) (s.start t))

/-- MIR_PRI_RETRY: a WRITE of MIR_PRI_RETRY; 1 asks for the test of the primary (R309). -/
def execMirPriRetry (t : Nat) (ep : Fin 10) (tag : BitVec 8) (v : Bool) (s : State) :
    Host.Outcome State Fault Refusal :=
  done (serveWrite ep tag 0x4022 0 (leBytes 1 (b2n v)) (s.start t))

/-- MIR_RESTART: a WRITE of MIR_RESTART; 1 leaves mode 2 or latched mode 4 (R311, R312). -/
def execMirRestart (t : Nat) (ep : Fin 10) (tag : BitVec 8) (v : Bool) (s : State) :
    Host.Outcome State Fault Refusal :=
  done (serveWrite ep tag 0x4023 0 (leBytes 1 (b2n v)) (s.start t))

/-- MIR_BRIDGE_EN: a WRITE of MIR_BRIDGE_EN (R690). -/
def execMirBridgeEn (t : Nat) (ep : Fin 10) (tag : BitVec 8) (v : Bool) (s : State) :
    Host.Outcome State Fault Refusal :=
  done (serveWrite ep tag 0x4024 0 (leBytes 1 (b2n v)) (s.start t))

/-- INJ_START: a WRITE of INJ_START; 1 starts an injection (R316). -/
def execInjStart (t : Nat) (ep : Fin 10) (tag : BitVec 8) (v : Bool) (s : State) :
    Host.Outcome State Fault Refusal :=
  done (serveWrite ep tag 0x403A 0 (leBytes 1 (b2n v)) (s.start t))

/-- INJ_STOP: a WRITE of INJ_STOP; 1 stops the injection (R318). -/
def execInjStop (t : Nat) (ep : Fin 10) (tag : BitVec 8) (v : Bool) (s : State) :
    Host.Outcome State Fault Refusal :=
  done (serveWrite ep tag 0x403B 0 (leBytes 1 (b2n v)) (s.start t))

/-- PPS_ARM: a WRITE of PPS_ARM; 1 arms one T64 load (R151). -/
def execPpsArm (t : Nat) (ep : Fin 10) (tag : BitVec 8) (v : Bool) (s : State) :
    Host.Outcome State Fault Refusal :=
  done (serveWrite ep tag 0x2825 0 (leBytes 1 (b2n v)) (s.start t))

/-- CAL_SNAPSHOT: a WRITE of CAL_SNAPSHOT; 1 copies the committed sets (R246). -/
def execCalSnapshot (t : Nat) (ep : Fin 10) (tag : BitVec 8) (v : Bool) (s : State) :
    Host.Outcome State Fault Refusal :=
  done (serveWrite ep tag 0x3420 0 (leBytes 1 (b2n v)) (s.start t))

/-- ADC_SEQ_COMMIT: a WRITE of ADC_SEQ_COMMIT of ADCn (R327). -/
def execAdcSeqCommit (t : Nat) (ep : Fin 10) (tag : BitVec 8) (n : Fin 4) (v : Bool) (s : State) :
    Host.Outcome State Fault Refusal :=
  done (serveWrite ep tag 0x4404 n (leBytes 1 (b2n v)) (s.start t))

/-- FLT_SYNC: a WRITE of FLT_SYNC; 1 requests a synchronising reset (R366). -/
def execFltSync (t : Nat) (ep : Fin 10) (tag : BitVec 8) (v : Bool) (s : State) :
    Host.Outcome State Fault Refusal :=
  done (serveWrite ep tag 0x480A 0 (leBytes 1 (b2n v)) (s.start t))

/-- SLK_TX_SLEEP: a WRITE of SLK_TX_SLEEP of a lane (R594, R595). -/
def execSlkTxSleep (t : Nat) (ep : Fin 10) (tag : BitVec 8) (lane : Fin 8) (v : Bool) (s : State) :
    Host.Outcome State Fault Refusal :=
  done (serveWrite ep tag 0x7C18 lane (leBytes 1 (b2n v)) (s.start t))

/-- REC_TRIG: a WRITE of REC_TRIG; 1 is a trigger of source bit 0 (R470). -/
def execRecTrig (t : Nat) (ep : Fin 10) (tag : BitVec 8) (v : Bool) (s : State) :
    Host.Outcome State Fault Refusal :=
  done (serveWrite ep tag 0x681F 0 (leBytes 1 (b2n v)) (s.start t))

/-- REC_READ: a WRITE of REC_READ starts a readout (R483). -/
def execRecRead (t : Nat) (ep : Fin 10) (tag : BitVec 8) (v : BitVec 16) (s : State) :
    Host.Outcome State Fault Refusal :=
  done (serveWrite ep tag 0x6822 0 (leBytes 2 v.toNat) (s.start t))

/-- REC_RELEASE: a WRITE of REC_RELEASE frees a segment (R483). -/
def execRecRelease (t : Nat) (ep : Fin 10) (tag : BitVec 8) (v : BitVec 8) (s : State) :
    Host.Outcome State Fault Refusal :=
  done (serveWrite ep tag 0x6821 0 (leBytes 1 v.toNat) (s.start t))

/-- REC_REARM: a WRITE of REC_REARM takes streams out of STOPPED (R476). -/
def execRecRearm (t : Nat) (ep : Fin 10) (tag : BitVec 8) (v : BitVec 16) (s : State) :
    Host.Outcome State Fault Refusal :=
  done (serveWrite ep tag 0x6820 0 (leBytes 2 v.toNat) (s.start t))

/-- REC_MISSED_CLR: a WRITE of REC_MISSED_CLR (R474). -/
def execRecMissedClr (t : Nat) (ep : Fin 10) (tag : BitVec 8) (v : BitVec 16) (s : State) :
    Host.Outcome State Fault Refusal :=
  done (serveWrite ep tag 0x6824 0 (leBytes 2 v.toNat) (s.start t))

/-- EIC_FIRST_CLR: a WRITE of 1 to the entry EIC_FIRST_CLR, or a write of 1 to the register of that name (R509, R513). -/
def execEicFirstClr (t : Nat) (via : Option (Fin 10 × BitVec 8)) (s : State) :
    Host.Outcome State Fault Refusal :=
  let s := s.start t
  match via with
  | some (ep, tag) => done (serveWrite ep tag 0x7414 0 [1] s)
  | none => done (firstClear s)

/-- ENTER_CONFIG: a WRITE of 1 to DEVICE_CMD (R561 to R563). -/
def execEnterConfig (t : Nat) (ep : Fin 10) (tag : BitVec 8) (s : State) :
    Host.Outcome State Fault Refusal :=
  done (serveWrite ep tag 0x1012 0 [1] (s.start t))

/-- ENTER_RUN: a WRITE of 2 to DEVICE_CMD (R561 to R563). -/
def execEnterRun (t : Nat) (ep : Fin 10) (tag : BitVec 8) (s : State) :
    Host.Outcome State Fault Refusal :=
  done (serveWrite ep tag 0x1012 0 [2] (s.start t))

/-- LEAVE_SAFE: a WRITE of 3 to DEVICE_CMD (R561 to R563). -/
def execLeaveSafe (t : Nat) (ep : Fin 10) (tag : BitVec 8) (s : State) :
    Host.Outcome State Fault Refusal :=
  done (serveWrite ep tag 0x1012 0 [3] (s.start t))

/-- ENTER_DORMANT: a WRITE of 4 to DEVICE_CMD (R561 to R563). -/
def execEnterDormant (t : Nat) (ep : Fin 10) (tag : BitVec 8) (s : State) :
    Host.Outcome State Fault Refusal :=
  done (serveWrite ep tag 0x1012 0 [4] (s.start t))

/-- RESET_WARM: a WRITE of 5 to DEVICE_CMD (R561 to R563). -/
def execResetWarm (t : Nat) (ep : Fin 10) (tag : BitVec 8) (s : State) :
    Host.Outcome State Fault Refusal :=
  done (serveWrite ep tag 0x1012 0 [5] (s.start t))

/-- RESET_FULL: a WRITE of 6 to DEVICE_CMD (R561 to R563). -/
def execResetFull (t : Nat) (ep : Fin 10) (tag : BitVec 8) (s : State) :
    Host.Outcome State Fault Refusal :=
  done (serveWrite ep tag 0x1012 0 [6] (s.start t))

/-- STORE: a WRITE of 7 to DEVICE_CMD (R561 to R563). -/
def execStore (t : Nat) (ep : Fin 10) (tag : BitVec 8) (s : State) :
    Host.Outcome State Fault Refusal :=
  done (serveWrite ep tag 0x1012 0 [7] (s.start t))

/-- RESTORE_DEFAULTS: a WRITE of 8 to DEVICE_CMD (R561 to R563). -/
def execRestoreDefaults (t : Nat) (ep : Fin 10) (tag : BitVec 8) (s : State) :
    Host.Outcome State Fault Refusal :=
  done (serveWrite ep tag 0x1012 0 [8] (s.start t))

/-- SEAL: a WRITE of 9 to DEVICE_CMD (R561 to R563). -/
def execSeal (t : Nat) (ep : Fin 10) (tag : BitVec 8) (s : State) :
    Host.Outcome State Fault Refusal :=
  done (serveWrite ep tag 0x1012 0 [9] (s.start t))

/-- DISCARD: a WRITE of 10 to DEVICE_CMD (R561 to R563). -/
def execDiscard (t : Nat) (ep : Fin 10) (tag : BitVec 8) (s : State) :
    Host.Outcome State Fault Refusal :=
  done (serveWrite ep tag 0x1012 0 [10] (s.start t))

/-- UPD_OPEN: a WRITE of 1 to UPD_CMD (R630, R645). -/
def execUpdOpen (t : Nat) (ep : Fin 10) (tag : BitVec 8) (s : State) :
    Host.Outcome State Fault Refusal :=
  done (serveWrite ep tag 0x8000 0 [1] (s.start t))

/-- UPD_VERIFY: a WRITE of 2 to UPD_CMD (R635, R645). -/
def execUpdVerify (t : Nat) (ep : Fin 10) (tag : BitVec 8) (s : State) :
    Host.Outcome State Fault Refusal :=
  done (serveWrite ep tag 0x8000 0 [2] (s.start t))

/-- UPD_ACTIVATE: a WRITE of 3 to UPD_CMD (R636, R645). -/
def execUpdActivate (t : Nat) (ep : Fin 10) (tag : BitVec 8) (s : State) :
    Host.Outcome State Fault Refusal :=
  done (serveWrite ep tag 0x8000 0 [3] (s.start t))

/-- UPD_ABORT: a WRITE of 4 to UPD_CMD (R631, R645). -/
def execUpdAbort (t : Nat) (ep : Fin 10) (tag : BitVec 8) (s : State) :
    Host.Outcome State Fault Refusal :=
  done (serveWrite ep tag 0x8000 0 [4] (s.start t))

/-- UPD_CLOSE: a WRITE of 5 to UPD_CMD (R631, R645). -/
def execUpdClose (t : Nat) (ep : Fin 10) (tag : BitVec 8) (s : State) :
    Host.Outcome State Fault Refusal :=
  done (serveWrite ep tag 0x8000 0 [5] (s.start t))

/-- UPD_CONFIRM: a WRITE of 6 to UPD_CMD (R638, R645). -/
def execUpdConfirm (t : Nat) (ep : Fin 10) (tag : BitVec 8) (s : State) :
    Host.Outcome State Fault Refusal :=
  done (serveWrite ep tag 0x8000 0 [6] (s.start t))

/-- UPD_DATA: a WRITE of UPD_DATA: offset, then bytes (R634). -/
def execUpdData (t : Nat) (ep : Fin 10) (tag : BitVec 8) (ofs : BitVec 32) (data : List Byte) (s : State) :
    Host.Outcome State Fault Refusal :=
  done (serveWrite ep tag 0x8002 0 (leBytes 4 ofs.toNat ++ data) (s.start t))

/-- UPD_AUTH_RESPONSE: a WRITE of UPD_AUTH_RESPONSE: public key, then signature (R628). -/
def execUpdAuthResponse (t : Nat) (ep : Fin 10) (tag : BitVec 8) (key : List Byte) (sig : List Byte) (s : State) :
    Host.Outcome State Fault Refusal :=
  done (serveWrite ep tag 0x8007 0 (key ++ sig) (s.start t))

/-- SIG_REVOKE: a WRITE of SIG_REVOKE (R625). -/
def execSigRevoke (t : Nat) (ep : Fin 10) (tag : BitVec 8) (v : BitVec 8) (s : State) :
    Host.Outcome State Fault Refusal :=
  done (serveWrite ep tag 0x800D 0 [v] (s.start t))

/-- UPD_AUTH_CHALLENGE: a READ of UPD_AUTH_CHALLENGE (R628). -/
def execUpdAuthChallenge (t : Nat) (ep : Fin 10) (tag : BitVec 8) (s : State) :
    Host.Outcome State Fault Refusal :=
  done (serve ep (mkReq 0x10 tag 0x8006 0 [] true) (s.start t))

/-- XIEST_OPEN: a request OPEN with the client's range; good says that its CRC holds (R547, R552). -/
def execXiestOpen (t : Nat) (ep : Fin 10) (tag : BitVec 8) (good : Bool) (lo hi : BitVec 16) (s : State) :
    Host.Outcome State Fault Refusal :=
  done (serve ep (mkReq 0x01 tag 0 0 (leBytes 2 lo.toNat ++ leBytes 2 hi.toNat) good) (s.start t))

/-- XIEST_CLOSE: a request CLOSE (R547, R551). -/
def execXiestClose (t : Nat) (ep : Fin 10) (tag : BitVec 8) (good : Bool) (s : State) :
    Host.Outcome State Fault Refusal :=
  done (serve ep (mkReq 0x02 tag 0 0 [] good) (s.start t))

/-- XIEST_READ: a request READ (R547). -/
def execXiestRead (t : Nat) (ep : Fin 10) (tag : BitVec 8) (good : Bool) (num : BitVec 16) (sub : BitVec 8) (s : State) :
    Host.Outcome State Fault Refusal :=
  done (serve ep (mkReq 0x10 tag num.toNat sub.toNat [] good) (s.start t))

/-- XIEST_WRITE: a request WRITE (R545, R547). -/
def execXiestWrite (t : Nat) (ep : Fin 10) (tag : BitVec 8) (good : Bool) (num : BitVec 16) (sub : BitVec 8) (val : List Byte) (s : State) :
    Host.Outcome State Fault Refusal :=
  done (serve ep (mkReq 0x11 tag num.toNat sub.toNat val good) (s.start t))

/-- XIEST_DESCRIBE: a request DESCRIBE (R547, R683). -/
def execXiestDescribe (t : Nat) (ep : Fin 10) (tag : BitVec 8) (good : Bool) (num : BitVec 16) (sub : BitVec 8) (s : State) :
    Host.Outcome State Fault Refusal :=
  done (serve ep (mkReq 0x12 tag num.toNat sub.toNat [] good) (s.start t))

/-- XIEST_UNKNOWN_OP: a request with another operation code (R547). -/
def execXiestUnknownOp (t : Nat) (ep : Fin 10) (tag : BitVec 8) (good : Bool) (op : BitVec 8) (num : BitVec 16) (sub : BitVec 8) (val : List Byte) (s : State) :
    Host.Outcome State Fault Refusal :=
  done (serve ep (mkReq op tag num.toNat sub.toNat val good) (s.start t))

/-! ## Sessions and CAN FD -/

/-- SESSION_TIMEOUT: a session without a request for XI_SESSION_TO closes (R551). -/
def execSessionTimeout (t : Nat) (ep : Fin 10) (s : State) : Host.Outcome State Fault Refusal :=
  let s := s.start t
  if (sessOf s ep).open_ && decide ((sessOf s ep).lastAt + parN s 0x1031 0 * secU ≤ s.tb) then done (closeSess ep s)
  else done s

/-- The message being received on CAN FD is discarded (R557). -/
def canDiscard (s : State) : State := modSess 0 (fun e => { e with rx := [], rxNext := none }) s

/-- A flow-control frame for a response: it continues, or is dropped (R556, R557). -/
def canFlow (abort : Bool) (tag : Byte) (s : State) : State :=
  let e := sessOf s 0
  if e.txWait.isSome && (e.lastTag.map (·.1)) == some tag then
    if abort then modSess 0 (fun e => { e with tx := [], txWait := none }) s else canTx 16 s
  else s

/-- Bytes of a message have arrived: complete, it is served; else the next segment has counter c, and after 15, 31, 47
and 63 the device sends flow control (R556, R557). -/
def canTake (m : List Byte) (c : Nat) (s : State) : State :=
  if 8 ≤ m.length && decide (xiLen m ≤ m.length) then serve 0 (parseReq m) (canDiscard s)
  else
    let s := modSess 0 (fun e => { e with rx := m, rxNext := some (c % 64), rxAt := s.tb }) s
    if c % 16 = 0 && decide (16 ≤ c) then canFrame [0x80, m.getD 1 0] s else s

/-- CAN_SEGMENT: a frame of XI_REQ_ID on the network of the session, by its segment header (R556, R557). -/
def execCanSegment (t : Nat) (net : Fin 2) (ident : BitVec 11) (data : List Byte) (s : State) :
    Host.Outcome State Fault Refusal :=
  let s := canRun (xiNet s) (s.start t)
  if !delivers s 0 || net.val != xiNet s || ident.toNat != parN s 0x1044 0 || data.isEmpty then done s
  else
    let h := (data.getD 0 0).toNat
    let e := sessOf s 0
    match h / 64 with
    | 3 => done (serve 0 (parseReq (data.drop 1)) (canDiscard s))
    | 1 => done (canTake (data.drop 1) 1 (canDiscard s))
    | 0 =>
      if e.rxNext = some (h % 64) then done (canTake (e.rx ++ data.drop 1) (h % 64 + 1) s) else done (canDiscard s)
    | _ => done (canFlow (h % 64 == 1) (data.getD 1 0) s)

/-- FLOW_CONTROL: a flow-control frame from the client for the device's response (R557). -/
def execFlowControl (t : Nat) (abort : Bool) (tag : BitVec 8) (s : State) : Host.Outcome State Fault Refusal :=
  let s := canRun (xiNet s) (s.start t)
  if delivers s 0 then done (canFlow abort tag s) else done s

/-- SEGMENT_TIMEOUT: no further segment within 50 ms (R557). -/
def execSegmentTimeout (t : Nat) (s : State) : Host.Outcome State Fault Refusal :=
  let s := s.start t
  let e := sessOf s 0
  if e.rxNext.isSome && decide (e.rxAt + 50 * msU ≤ s.tb) then done (canDiscard s) else done s

/-- FLOW_CONTROL_TIMEOUT: no flow control within 50 ms: the response is abandoned and counted (R557). -/
def execFlowControlTimeout (t : Nat) (s : State) : Host.Outcome State Fault Refusal :=
  let s := s.start t
  match (sessOf s 0).txWait with
  | some a =>
    if a + 50 * msU ≤ s.tb then
      done (modXi (fun x => { x with canAbort := satInc x.canAbort })
        (modSess 0 (fun e => { e with tx := [], txWait := none }) s))
    else done s
  | none => done s

/-- BUS_OFF: the controller leaves its network and recovers by itself; entry 0x1F01 (R554). -/
def execBusOff (t : Nat) (net : Fin 2) (s : State) : Host.Outcome State Fault Refusal :=
  let s := s.start t
  let c := canOf s net
  if c.busOff || !c.joined then done s
  else done (logNow 0x1F01 net 0 (modCan net (fun c => { c with
    busOff := true, recovering := true, tec := 256, txq := [], busOffs := satInc c.busOffs }) s))

/-- BUS_OFF_RECOVERY: 128 occurrences of 11 recessive bits; entry 0x0F02 (R554). -/
def execBusOffRecovery (t : Nat) (net : Fin 2) (s : State) : Host.Outcome State Fault Refusal :=
  let s := s.start t
  if (canOf s net).busOff then
    done (logNow 0x0F02 net 0 (modCan net (fun c => { c with busOff := false, recovering := false, tec := 0, rec_ := 0 }) s))
  else done s

/-! ## Mailbox (R558) -/

/-- The mailbox changed. -/
def modMbx (f : MbxS → MbxS) (s : State) : State := modXi (fun x => { x with mbx := f x.mbx }) s

/-- MBX_REQ: ignored with OVERRUN while REQ_FREE is 0; else the chunk is taken, source 481 pends, and the last chunk
completes the request. A LENGTH outside 1 to 4,096, and a chunk outside a message, are ignored (DESIGN CHOICE, log
entry 32). -/
def execMbxReq (t : Nat) (v : BitVec 32) (s : State) : Host.Outcome State Fault Refusal :=
  let s := s.start t
  let m := s.xi.mbx
  let n := v.toNat % 8192
  let first := v.getLsbD 31
  if s.pci.perst then done s
  else if !m.reqFree then done (modMbx (fun m => { m with overrun := true }) s)
  else if n = 0 || decide (4096 < n) || (!first && m.msg.isEmpty) then done s
  else
    let msg := (if first then [] else m.msg) ++ Memory.readBytes m.req 0 n
    let s := modMbx (fun m => { m with
      msg := msg, aborted := if first then false else m.aborted, overrun := if first then false else m.overrun }) s
    let s := eicEdge 481 s
    if v.getLsbD 30 then done (serve 1 (parseReq msg) (modMbx (fun m => { m with msg := [] }) s)) else done s

/-- MBX_RSP_ACK: the chunk is consumed, and the next one is placed (R558). -/
def execMbxRspAck (t : Nat) (v : BitVec 32) (s : State) : Host.Outcome State Fault Refusal :=
  let s := s.start t
  if !v.getLsbD 0 || !s.xi.mbx.rspReady then done s
  else
    let s := modMbx (fun m => { m with rspReady := false, rspFirst := false, rspLast := false, rspLen := 0 }) s
    if s.xi.mbx.out.isEmpty then done s else done (mbxPlace false s)

/-- MBX_ABORT (R558). -/
def execMbxAbort (t : Nat) (v : BitVec 32) (s : State) : Host.Outcome State Fault Refusal :=
  let s := s.start t
  if v.getLsbD 0 then done (mbxAbort s) else done s

/-! ## Scan Link (R592) -/

/-- XIEST_SEGMENT: a packet of a Xiest message; the first one starts it, the last one completes it, and one out of order
discards it (R573, R592). -/
def execXiestSegment (t : Nat) (lane : Fin 8) (rx : SlkRx) (first last : Bool) (data : List Byte) (s : State) :
    Host.Outcome State Fault Refusal :=
  let (ok, s) := slkTake lane rx (s.start t)
  let l := laneOf s lane
  if !ok then done s
  else if !first && !l.xopen then done s
  else
    let m := (if first then [] else l.xmsg) ++ data
    if last then
      done (serve (2 + lane) (parseReq m) (modLane lane (fun l => { l with xmsg := [], xopen := false }) s))
    else done (modLane lane (fun l => { l with xmsg := m, xopen := true }) s)

end Sys2Proof.Machine
end

