-- ==== Sys2Proof/Machine/Dispatch.lean ====
section
/-!
DEFINITION. The dispatch: one arm per command, each one direct call of its meaning.
-/
namespace Sys2Proof.Machine

def exec (i : Instr) (s : State) : Host.Outcome State Fault Refusal :=
  match i with
  | .phaseBoundary t replica => Sys2Proof.Machine.execPhaseBoundary t replica s
  | .eyeSlotBoundary t long => Sys2Proof.Machine.execEyeSlotBoundary t long s
  | .fire t frame => Sys2Proof.Machine.execFire t frame s
  | .gatePulse t b v => Sys2Proof.Machine.execGatePulse t b v s
  | .topUp t b => Sys2Proof.Machine.execTopUp t b s
  | .gateFault t em => Sys2Proof.Machine.execGateFault t em s
  | .startStamp t b c => Sys2Proof.Machine.execStartStamp t b c s
  | .monitorMiss t b => Sys2Proof.Machine.execMonitorMiss t b s
  | .emitterFailed t em => Sys2Proof.Machine.execEmitterFailed t em s
  | .unplannedEmission t b => Sys2Proof.Machine.execUnplannedEmission t b s
  | .thresholdCrossing t inp thr rise c => Sys2Proof.Machine.execThresholdCrossing t inp thr rise c s
  | .windowClose t b => Sys2Proof.Machine.execWindowClose t b s
  | .rxChannelFailed t chan => Sys2Proof.Machine.execRxChannelFailed t chan s
  | .rxChannelRestored t chan => Sys2Proof.Machine.execRxChannelRestored t chan s
  | .echoResult t chan => Sys2Proof.Machine.execEchoResult t chan s
  | .coarsePeaks t chan => Sys2Proof.Machine.execCoarsePeaks t chan s
  | .trainGateEnd t b k => Sys2Proof.Machine.execTrainGateEnd t b k s
  | .zoomPass t chan => Sys2Proof.Machine.execZoomPass t chan s
  | .knownAnswerTest t eng pass => Sys2Proof.Machine.execKnownAnswerTest t eng pass s
  | .completionDeadlineMiss t eng => Sys2Proof.Machine.execCompletionDeadlineMiss t eng s
  | .engineSramEccError t eng fixed => Sys2Proof.Machine.execEngineSramEccError t eng fixed s
  | .spareReady t spare => Sys2Proof.Machine.execSpareReady t spare s
  | .replayedResult t chan => Sys2Proof.Machine.execReplayedResult t chan s
  | .histSnap t ep tag v => Sys2Proof.Machine.execHistSnap t ep tag v s
  | .fieldEvaluation t r => Sys2Proof.Machine.execFieldEvaluation t r s
  | .selectionInvalid t => Sys2Proof.Machine.execSelectionInvalid t s
  | .fieldEvaluatorKat t pass => Sys2Proof.Machine.execFieldEvaluatorKat t pass s
  | .pointRecordFormed t => Sys2Proof.Machine.execPointRecordFormed t s
  | .writeBurst t ecc => Sys2Proof.Machine.execWriteBurst t ecc s
  | .frameHeader t => Sys2Proof.Machine.execFrameHeader t s
  | .ptHoldExpiry t => Sys2Proof.Machine.execPtHoldExpiry t s
  | .replayHoldRelease t => Sys2Proof.Machine.execReplayHoldRelease t s
  | .lceSampleTick t late => Sys2Proof.Machine.execLceSampleTick t late s
  | .lceOutputRelease t compute => Sys2Proof.Machine.execLceOutputRelease t compute s
  | .lceOverrun t => Sys2Proof.Machine.execLceOverrun t s
  | .mirPriRetry t ep tag v => Sys2Proof.Machine.execMirPriRetry t ep tag v s
  | .mirRestart t ep tag v => Sys2Proof.Machine.execMirRestart t ep tag v s
  | .bridgeTrip t oc uv => Sys2Proof.Machine.execBridgeTrip t oc uv s
  | .bridgeReenable t => Sys2Proof.Machine.execBridgeReenable t s
  | .backEmfEstimate t vBridge cur => Sys2Proof.Machine.execBackEmfEstimate t vBridge cur s
  | .mirrorWatchdogTrip t => Sys2Proof.Machine.execMirrorWatchdogTrip t s
  | .lceRearm t => Sys2Proof.Machine.execLceRearm t s
  | .mirBridgeEn t ep tag v => Sys2Proof.Machine.execMirBridgeEn t ep tag v s
  | .coilResistanceEstimate t => Sys2Proof.Machine.execCoilResistanceEstimate t s
  | .apdOutOfRegulation t => Sys2Proof.Machine.execApdOutOfRegulation t s
  | .injStart t ep tag v => Sys2Proof.Machine.execInjStart t ep tag v s
  | .injStop t ep tag v => Sys2Proof.Machine.execInjStop t ep tag v s
  | .injectionComplete t => Sys2Proof.Machine.execInjectionComplete t s
  | .encEdge t n rise => Sys2Proof.Machine.execEncEdge t n rise s
  | .fmGateEnd t n => Sys2Proof.Machine.execFmGateEnd t n s
  | .ppsInEdge t rise => Sys2Proof.Machine.execPpsInEdge t rise s
  | .ppsArm t ep tag v => Sys2Proof.Machine.execPpsArm t ep tag v s
  | .ppsLost t => Sys2Proof.Machine.execPpsLost t s
  | .ppsGateEnd t => Sys2Proof.Machine.execPpsGateEnd t s
  | .freqFallback t => Sys2Proof.Machine.execFreqFallback t s
  | .ppsOutPulse t => Sys2Proof.Machine.execPpsOutPulse t s
  | .t64Wrap t => Sys2Proof.Machine.execT64Wrap t s
  | .tbLock t die => Sys2Proof.Machine.execTbLock t die s
  | .tbLossOfLock t ref => Sys2Proof.Machine.execTbLossOfLock t ref s
  | .timebaseLockHeld t => Sys2Proof.Machine.execTimebaseLockHeld t s
  | .linkFailed t bl => Sys2Proof.Machine.execLinkFailed t bl s
  | .spareLinkSwitchover t bl => Sys2Proof.Machine.execSpareLinkSwitchover t bl s
  | .barrierControlFrame t bl seq good => Sys2Proof.Machine.execBarrierControlFrame t bl seq good s
  | .barrierAck t bl seq => Sys2Proof.Machine.execBarrierAck t bl seq s
  | .barrierNak t bl seq => Sys2Proof.Machine.execBarrierNak t bl seq s
  | .barrierAckTimeout t bl => Sys2Proof.Machine.execBarrierAckTimeout t bl s
  | .fastOff t k => Sys2Proof.Machine.execFastOff t k s
  | .foArm t masks => Sys2Proof.Machine.execFoArm t masks s
  | .outState t req tokens => Sys2Proof.Machine.execOutState t req tokens s
  | .outStateSend t => Sys2Proof.Machine.execOutStateSend t s
  | .outputWatchdogExpiry t n => Sys2Proof.Machine.execOutputWatchdogExpiry t n s
  | .lceOut t duty vel vch bias htr => Sys2Proof.Machine.execLceOut t duty vel vch bias htr s
  | .fieldIo t payload => Sys2Proof.Machine.execFieldIo t payload s
  | .cfgReq t payload => Sys2Proof.Machine.execCfgReq t payload s
  | .cfgRsp t payload => Sys2Proof.Machine.execCfgRsp t payload s
  | .safeIn t si edm so => Sys2Proof.Machine.execSafeIn t si edm so s
  | .fieldStat t st => Sys2Proof.Machine.execFieldStat t st s
  | .adcSampleWord t w => Sys2Proof.Machine.execAdcSampleWord t w s
  | .chargingWindowReopen t b => Sys2Proof.Machine.execChargingWindowReopen t b s
  | .adcSequenceStart t => Sys2Proof.Machine.execAdcSequenceStart t s
  | .adcConversion t n code => Sys2Proof.Machine.execAdcConversion t n code s
  | .adcSeqCommit t ep tag n v => Sys2Proof.Machine.execAdcSeqCommit t ep tag n v s
  | .referenceBufferCheck t uV => Sys2Proof.Machine.execReferenceBufferCheck t uV s
  | .excitationFault t n limited lead compliance => Sys2Proof.Machine.execExcitationFault t n limited lead compliance s
  | .excSettleEnd t n => Sys2Proof.Machine.execExcSettleEnd t n s
  | .fltSync t ep tag v => Sys2Proof.Machine.execFltSync t ep tag v s
  | .syncEdge t rise => Sys2Proof.Machine.execSyncEdge t rise s
  | .loopReadbackFault t n uA => Sys2Proof.Machine.execLoopReadbackFault t n uA s
  | .frameStartPacket t port vc hdr => Sys2Proof.Machine.execFrameStartPacket t port vc hdr s
  | .linePacket t port vc dt hdr crcOk pix => Sys2Proof.Machine.execLinePacket t port vc dt hdr crcOk pix s
  | .frameEndPacket t port vc hdr => Sys2Proof.Machine.execFrameEndPacket t port vc hdr s
  | .cameraFrameTimeout t ctx => Sys2Proof.Machine.execCameraFrameTimeout t ctx s
  | .pipelineFrameDone t pipe => Sys2Proof.Machine.execPipelineFrameDone t pipe s
  | .siSample t raw tpRead soRead => Sys2Proof.Machine.execSiSample t raw tpRead soRead s
  | .testPulse t n => Sys2Proof.Machine.execTestPulse t n s
  | .discrepancyTimeout t k => Sys2Proof.Machine.execDiscrepancyTimeout t k s
  | .darkTest t n => Sys2Proof.Machine.execDarkTest t n s
  | .darkTestEnd t n fell returned => Sys2Proof.Machine.execDarkTestEnd t n fell returned s
  | .outputReadbackFault t n => Sys2Proof.Machine.execOutputReadbackFault t n s
  | .currentLimit t n => Sys2Proof.Machine.execCurrentLimit t n s
  | .edmTimeout t n => Sys2Proof.Machine.execEdmTimeout t n s
  | .safecfgRead t pins => Sys2Proof.Machine.execSafecfgRead t pins s
  | .safetyPdu tx net ident data => Sys2Proof.Machine.execSafetyPdu tx net ident data s
  | .pduPairingTimeout t j => Sys2Proof.Machine.execPduPairingTimeout t j s
  | .receiveTimeout t j => Sys2Proof.Machine.execReceiveTimeout t j s
  | .safetyPduSend t ackA ackB => Sys2Proof.Machine.execSafetyPduSend t ackA ackB s
  | .versionPduSend tx => Sys2Proof.Machine.execVersionPduSend tx s
  | .scSelfTest t pass => Sys2Proof.Machine.execScSelfTest t pass s
  | .recTrig t ep tag v => Sys2Proof.Machine.execRecTrig t ep tag v s
  | .autoTrigger t str => Sys2Proof.Machine.execAutoTrigger t str s
  | .postEnd t str => Sys2Proof.Machine.execPostEnd t str s
  | .itemWrite t str => Sys2Proof.Machine.execItemWrite t str s
  | .keyframe t str => Sys2Proof.Machine.execKeyframe t str s
  | .digitalGroupSample t => Sys2Proof.Machine.execDigitalGroupSample t s
  | .recRead t ep tag v => Sys2Proof.Machine.execRecRead t ep tag v s
  | .readoutBlock t => Sys2Proof.Machine.execReadoutBlock t s
  | .recRelease t ep tag v => Sys2Proof.Machine.execRecRelease t ep tag v s
  | .recRearm t ep tag v => Sys2Proof.Machine.execRecRearm t ep tag v s
  | .recMissedClr t ep tag v => Sys2Proof.Machine.execRecMissedClr t ep tag v s
  | .dramChannelRemoved t ch => Sys2Proof.Machine.execDramChannelRemoved t ch s
  | .eicEvent t src => Sys2Proof.Machine.execEicEvent t src s
  | .levelWithdrawn t src => Sys2Proof.Machine.execLevelWithdrawn t src s
  | .coalescingTimer t g => Sys2Proof.Machine.execCoalescingTimer t g s
  | .eicClaim t who => Sys2Proof.Machine.execEicClaim t who s
  | .eicComplete t who src => Sys2Proof.Machine.execEicComplete t who src s
  | .eicPendSet t j w => Sys2Proof.Machine.execEicPendSet t j w s
  | .eicPendClr t j w => Sys2Proof.Machine.execEicPendClr t j w s
  | .eicMaskSet t j w => Sys2Proof.Machine.execEicMaskSet t j w s
  | .eicMaskClr t j w => Sys2Proof.Machine.execEicMaskClr t j w s
  | .arbitration t => Sys2Proof.Machine.execArbitration t s
  | .wakeTimeout t src => Sys2Proof.Machine.execWakeTimeout t src s
  | .redirectTimeout t src => Sys2Proof.Machine.execRedirectTimeout t src s
  | .logEntryWrite t => Sys2Proof.Machine.execLogEntryWrite t s
  | .eicFirstClr t via => Sys2Proof.Machine.execEicFirstClr t via s
  | .pciVerCmd t v => Sys2Proof.Machine.execPciVerCmd t v s
  | .ringEnable t n => Sys2Proof.Machine.execRingEnable t n s
  | .ringDisable t n => Sys2Proof.Machine.execRingDisable t n s
  | .descriptorFetch t n addr len w3 ok => Sys2Proof.Machine.execDescriptorFetch t n addr len w3 ok s
  | .descriptorFetchTimeout t n => Sys2Proof.Machine.execDescriptorFetchTimeout t n s
  | .laneFailed t lane reversal => Sys2Proof.Machine.execLaneFailed t lane reversal s
  | .linkActive t speed width => Sys2Proof.Machine.execLinkActive t speed width s
  | .retrainTimeout t => Sys2Proof.Machine.execRetrainTimeout t s
  | .pciRetrain t v => Sys2Proof.Machine.execPciRetrain t v s
  | .flr t f => Sys2Proof.Machine.execFlr t f s
  | .d3hotEntry t f => Sys2Proof.Machine.execD3hotEntry t f s
  | .perst t => Sys2Proof.Machine.execPerst t s
  | .xiestOpen t ep tag good lo hi => Sys2Proof.Machine.execXiestOpen t ep tag good lo hi s
  | .xiestClose t ep tag good => Sys2Proof.Machine.execXiestClose t ep tag good s
  | .xiestRead t ep tag good num sub => Sys2Proof.Machine.execXiestRead t ep tag good num sub s
  | .xiestWrite t ep tag good num sub val => Sys2Proof.Machine.execXiestWrite t ep tag good num sub val s
  | .xiestDescribe t ep tag good num sub => Sys2Proof.Machine.execXiestDescribe t ep tag good num sub s
  | .sessionTimeout t ep => Sys2Proof.Machine.execSessionTimeout t ep s
  | .canSegment t net ident data => Sys2Proof.Machine.execCanSegment t net ident data s
  | .flowControl t abort tag => Sys2Proof.Machine.execFlowControl t abort tag s
  | .segmentTimeout t => Sys2Proof.Machine.execSegmentTimeout t s
  | .flowControlTimeout t => Sys2Proof.Machine.execFlowControlTimeout t s
  | .busOff t net => Sys2Proof.Machine.execBusOff t net s
  | .busOffRecovery t net => Sys2Proof.Machine.execBusOffRecovery t net s
  | .mbxReq t v => Sys2Proof.Machine.execMbxReq t v s
  | .mbxRspAck t v => Sys2Proof.Machine.execMbxRspAck t v s
  | .mbxAbort t v => Sys2Proof.Machine.execMbxAbort t v s
  | .enterConfig t ep tag => Sys2Proof.Machine.execEnterConfig t ep tag s
  | .enterRun t ep tag => Sys2Proof.Machine.execEnterRun t ep tag s
  | .leaveSafe t ep tag => Sys2Proof.Machine.execLeaveSafe t ep tag s
  | .enterDormant t ep tag => Sys2Proof.Machine.execEnterDormant t ep tag s
  | .dormantEntry t => Sys2Proof.Machine.execDormantEntry t s
  | .resetWarm t ep tag => Sys2Proof.Machine.execResetWarm t ep tag s
  | .resetFull t ep tag => Sys2Proof.Machine.execResetFull t ep tag s
  | .store t ep tag => Sys2Proof.Machine.execStore t ep tag s
  | .storeComplete t => Sys2Proof.Machine.execStoreComplete t s
  | .restoreDefaults t ep tag => Sys2Proof.Machine.execRestoreDefaults t ep tag s
  | .seal t ep tag => Sys2Proof.Machine.execSeal t ep tag s
  | .discard t ep tag => Sys2Proof.Machine.execDiscard t ep tag s
  | .autorun t => Sys2Proof.Machine.execAutorun t s
  | .bootComplete t pins cap kat => Sys2Proof.Machine.execBootComplete t pins cap kat s
  | .fieldSideNotReady t vfld exc links => Sys2Proof.Machine.execFieldSideNotReady t vfld exc links s
  | .slkAck t lane seq => Sys2Proof.Machine.execSlkAck t lane seq s
  | .slkNak t lane seq => Sys2Proof.Machine.execSlkNak t lane seq s
  | .slkReplayTimeout t lane => Sys2Proof.Machine.execSlkReplayTimeout t lane s
  | .cap t lane payload => Sys2Proof.Machine.execCap t lane payload s
  | .capSend t lane => Sys2Proof.Machine.execCapSend t lane s
  | .rateAlignmentTimeout t lane => Sys2Proof.Machine.execRateAlignmentTimeout t lane s
  | .commaAligned t lane => Sys2Proof.Machine.execCommaAligned t lane s
  | .alignmentLost t lane errs => Sys2Proof.Machine.execAlignmentLost t lane errs s
  | .sleep t lane rx => Sys2Proof.Machine.execSleep t lane rx s
  | .time t lane rx payload => Sys2Proof.Machine.execTime t lane rx payload s
  | .timeMarker t lane => Sys2Proof.Machine.execTimeMarker t lane s
  | .markerSend t lane => Sys2Proof.Machine.execMarkerSend t lane s
  | .offsetInvalid t lane => Sys2Proof.Machine.execOffsetInvalid t lane s
  | .sched t lane rx payload => Sys2Proof.Machine.execSched t lane rx payload s
  | .syncTimeout t => Sys2Proof.Machine.execSyncTimeout t s
  | .trig t lane rx payload => Sys2Proof.Machine.execTrig t lane rx payload s
  | .irq t lane rx payload => Sys2Proof.Machine.execIrq t lane rx payload s
  | .xiestSegment t lane rx first last data => Sys2Proof.Machine.execXiestSegment t lane rx first last data s
  | .ptRec t lane rx data => Sys2Proof.Machine.execPtRec t lane rx data s
  | .ptHdr t lane rx data => Sys2Proof.Machine.execPtHdr t lane rx data s
  | .slkTxSleep t ep tag lane v => Sys2Proof.Machine.execSlkTxSleep t ep tag lane v s
  | .transmitterWake t lane => Sys2Proof.Machine.execTransmitterWake t lane s
  | .receiverWake t lane => Sys2Proof.Machine.execReceiverWake t lane s
  | .thermalModelStep t die counts => Sys2Proof.Machine.execThermalModelStep t die counts s
  | .sensorRestored t k => Sys2Proof.Machine.execSensorRestored t k s
  | .shutdownCleared t => Sys2Proof.Machine.execShutdownCleared t s
  | .throttleStep t => Sys2Proof.Machine.execThrottleStep t s
  | .vcoreAdjust t full idle => Sys2Proof.Machine.execVcoreAdjust t full idle s
  | .dormantWake t src => Sys2Proof.Machine.execDormantWake t src s
  | .wakeSupplyTimeout t => Sys2Proof.Machine.execWakeSupplyTimeout t s
  | .updOpen t ep tag => Sys2Proof.Machine.execUpdOpen t ep tag s
  | .updData t ep tag ofs data => Sys2Proof.Machine.execUpdData t ep tag ofs data s
  | .updVerify t ep tag => Sys2Proof.Machine.execUpdVerify t ep tag s
  | .verifyComplete t => Sys2Proof.Machine.execVerifyComplete t s
  | .updActivate t ep tag => Sys2Proof.Machine.execUpdActivate t ep tag s
  | .updAbort t ep tag => Sys2Proof.Machine.execUpdAbort t ep tag s
  | .updClose t ep tag => Sys2Proof.Machine.execUpdClose t ep tag s
  | .updConfirm t ep tag => Sys2Proof.Machine.execUpdConfirm t ep tag s
  | .updAuthChallenge t ep tag => Sys2Proof.Machine.execUpdAuthChallenge t ep tag s
  | .updAuthResponse t ep tag key sig => Sys2Proof.Machine.execUpdAuthResponse t ep tag key sig s
  | .authLockoutEnd t ep => Sys2Proof.Machine.execAuthLockoutEnd t ep s
  | .updateLockExpiry t => Sys2Proof.Machine.execUpdateLockExpiry t s
  | .sigRevoke t ep tag v => Sys2Proof.Machine.execSigRevoke t ep tag v s
  | .imageConfirmed t => Sys2Proof.Machine.execImageConfirmed t s
  | .trialExpired t => Sys2Proof.Machine.execTrialExpired t s
  | .porn t => Sys2Proof.Machine.execPorn t s
  | .supplyMonitor t supply => Sys2Proof.Machine.execSupplyMonitor t supply s
  | .fullReset t => Sys2Proof.Machine.execFullReset t s
  | .warmReset t => Sys2Proof.Machine.execWarmReset t s
  | .coreWatchdog t core => Sys2Proof.Machine.execCoreWatchdog t core s
  | .safetyCoreFatalError t => Sys2Proof.Machine.execSafetyCoreFatalError t s
  | .vmachLow t v => Sys2Proof.Machine.execVmachLow t v s
  | .vmachRestored t v => Sys2Proof.Machine.execVmachRestored t v s
  | .vhvInLow t v => Sys2Proof.Machine.execVhvInLow t v s
  | .vhvInRestored t v => Sys2Proof.Machine.execVhvInRestored t v s
  | .pendingTimeout t => Sys2Proof.Machine.execPendingTimeout t s
  | .eyeTableEccError t => Sys2Proof.Machine.execEyeTableEccError t s
  | .resourceGrant t r reqs => Sys2Proof.Machine.execResourceGrant t r reqs s
  | .tapBuildComplete t line => Sys2Proof.Machine.execTapBuildComplete t line s
  | .agreementTest t line => Sys2Proof.Machine.execAgreementTest t line s
  | .referenceMissing t chan => Sys2Proof.Machine.execReferenceMissing t chan s
  | .calSnapshot t ep tag v => Sys2Proof.Machine.execCalSnapshot t ep tag v s
  | .readClear t f ofs => Sys2Proof.Machine.execReadClear t f ofs s
  | .tbT64LoRead t pps => Sys2Proof.Machine.execTbT64LoRead t pps s
  | .eeFaultTLoRead t => Sys2Proof.Machine.execEeFaultTLoRead t s
  | .registerWrite t at_ v => Sys2Proof.Machine.execRegisterWrite t at_ v s
  | .internalResetRelease t bootsel => Sys2Proof.Machine.execInternalResetRelease t bootsel s
  | .perstRelease t => Sys2Proof.Machine.execPerstRelease t s
  | .busMasterEnableCleared t => Sys2Proof.Machine.execBusMasterEnableCleared t s
  | .d3hotExit t f => Sys2Proof.Machine.execD3hotExit t f s
  | .xiestUnknownOp t ep tag good op num sub val => Sys2Proof.Machine.execXiestUnknownOp t ep tag good op num sub val s

end Sys2Proof.Machine
end

