-- ==== Sys2Proof/Safety.lean ====
section
/-!
DEFINITION. The terms in which claims about the block are stated: which parts of the state a command may change, what a
request needs to be carried out, and the invariant of the DEGRADE flags.
-/
namespace Sys2Proof

open Sys2Proof.Machine

/-- The parts of the state, one for each field of State. -/
inductive Part where
  | tb
  | t64Ofs
  | dev
  | dict
  | rm
  | fld
  | chan
  | tbs
  | ee
  | rj
  | ts
  | pt
  | lce
  | adc
  | cam
  | saf
  | fe
  | car
  | eic
  | log
  | pci
  | xi
  | slk
  | thm
  | upd
  | rst
  | arb
  | out
  | busRead
  | free
  | pending
deriving DecidableEq, Repr

/-- A part is the same in two states. -/
def Part.same (p : Part) (s t : State) : Prop :=
  match p with
  | .tb => t.tb = s.tb
  | .t64Ofs => t.t64Ofs = s.t64Ofs
  | .dev => t.dev = s.dev
  | .dict => t.dict = s.dict
  | .rm => t.rm = s.rm
  | .fld => t.fld = s.fld
  | .chan => t.chan = s.chan
  | .tbs => t.tbs = s.tbs
  | .ee => t.ee = s.ee
  | .rj => t.rj = s.rj
  | .ts => t.ts = s.ts
  | .pt => t.pt = s.pt
  | .lce => t.lce = s.lce
  | .adc => t.adc = s.adc
  | .cam => t.cam = s.cam
  | .saf => t.saf = s.saf
  | .fe => t.fe = s.fe
  | .car => t.car = s.car
  | .eic => t.eic = s.eic
  | .log => t.log = s.log
  | .pci => t.pci = s.pci
  | .xi => t.xi = s.xi
  | .slk => t.slk = s.slk
  | .thm => t.thm = s.thm
  | .upd => t.upd = s.upd
  | .rst => t.rst = s.rst
  | .arb => t.arb = s.arb
  | .out => t.out = s.out
  | .busRead => t.busRead = s.busRead
  | .free => t.free = s.free
  | .pending => t.pending = s.pending

/-- Every part of the state but those listed is the same. -/
structure Only (l : List Part) (s t : State) : Prop where
  same : ∀ p, p ∉ l → p.same s t

/-- Ringmaster is the same but for the DEGRADE flags. -/
def RmSame (s t : State) : Prop := t.rm = { s.rm with degrade := t.rm.degrade }

/-- A command changes only the parts listed, the instant, its outputs and, of Ringmaster, the DEGRADE flags (R23). -/
def Frame (l : List Part) (s t : State) : Prop := Only (l ++ [.tb, .out, .rm]) s t ∧ (.rm ∉ l → RmSame s t)

/-- R23: every condition of R22 that holds has its DEGRADE flag set. -/
def DegradeInv (s : State) : Prop := degradeCond s &&& ~~~s.rm.degrade = 0

/-- What holds in every state: the DEGRADE flags of R23, and the canonical form of both mailbox buffers. -/
structure BlockInv (s : State) : Prop where
  degrade : DegradeInv s
  req : Memory.wf s.xi.mbx.req = true
  rsp : Memory.wf s.xi.mbx.rsp = true

/-- The device operates: CONFIG, RUN or SAFE. -/
abbrev Operating (s : State) : Prop := s.dev = .config ∨ s.dev = .run ∨ s.dev = .safe

/-- A request of endpoint ep is executed: its transport delivers, a session is open, the device is past BOOT and the
request does not repeat the last one (R549, R551). -/
abbrev Serves (s : State) (ep : Nat) (r : Req) : Prop :=
  delivers s ep = true ∧ s.dev ≠ .boot ∧ (sessOf s ep).open_ = true ∧ isRepeat ep r s = false

/-- The WRITE request of an entry. -/
abbrev wreq (tag : Byte) (num sub : Nat) (val : List Byte) : Req := mkReq 0x11 tag num sub val true

/-- A WRITE of endpoint ep at instant t is executed and passes the checks of R545. -/
abbrev Accepts (s : State) (t : Nat) (ep : Nat) (tag : Byte) (num sub : Nat) (val : List Byte) : Prop :=
  Serves (s.start t) ep (wreq tag num sub val) ∧ writeStatus ep num sub val (s.start t) = 0

/-- A packet on an UP lane whose receiver is awake, good and in order (R573). -/
abbrev TakesSlk (s : State) (lane : Nat) (rx : SlkRx) : Prop :=
  (laneOf s lane).st = 4 ∧ (laneOf s lane).rxSleep = false ∧ rx.good = true ∧ rx.seq = (laneOf s lane).rxSeq

/-- A packet on an UP lane whose receiver and transmitter are awake, bad or out of order (R573). -/
abbrev BadSlk (s : State) (lane : Nat) (rx : SlkRx) : Prop :=
  (laneOf s lane).st = 4 ∧ (laneOf s lane).rxSleep = false ∧ (laneOf s lane).txSleep = false ∧
    (rx.good = false ∨ rx.seq ≠ (laneOf s lane).rxSeq)

/-- The staging queue of the error log takes n more entries (R506). -/
abbrev LogRoom (s : State) (n : Nat) : Prop := s.log.staging.length + n ≤ 16

/-- The receive slot of a safety PDU by its identifier, node address and type (R453). -/
def pduSlot (s : State) (ident : BitVec 11) (data : List Byte) : Option Nat :=
  (slotsOf s ident).find? fun j => parN s 0x6126 j == fbN data 0 1 % 16 && parN s 0x6125 j == fbN data 0 1 / 16

/-- Something was put out by the command. -/
abbrev Emits (u : State) (o : Out) : Prop := o ∈ u.out

/-- The instant of a command of instant t: time never goes back. -/
abbrev instant (s : State) (t : Nat) : Nat := max s.tb t

/-- Controller k is on its network with its transmitter free at instant t: a frame queued then leaves at once (R555). -/
abbrev CanIdle (s : State) (t k : Nat) : Prop :=
  (bget ({} : CanS) s.xi.can k).joined = true ∧ (bget ({} : CanS) s.xi.can k).busOff = false ∧
    (bget ({} : CanS) s.xi.can k).txq = [] ∧ (bget ({} : CanS) s.xi.can k).txFree ≤ instant s t

/-- The command put an entry of this code, source and data into the staging queue of the error log (R503, R506). -/
abbrev Logged (s u : State) (code src data : Nat) : Prop :=
  ∃ e ∈ u.log.staging.drop s.log.staging.length, e.code = BitVec.ofNat 16 code ∧ e.src = BitVec.ofNat 16 src ∧
    e.data = BitVec.ofNat 32 data

end Sys2Proof
end

