-- ==== Sys2Proof/WellFormed.lean ====
section
/-!
DEFINITION. Which commands are well formed: the lengths and ranges that the frames and messages carrying their operands can
hold. The block's step does not read this check.
-/
namespace Sys2Proof

/-- Whether a command is well formed: its operands are ones that its frame, packet or message can carry (R115, R118, R119,
R288, R516, R546, R556, R572). -/
def Instr.wf (i : Instr) : Bool :=
  match i with
  | .fire _ frame => decide (frame.length ≤ 4)
  | .foArm _ masks => decide (masks.length = 4)
  | .outState _ _ tokens => decide (tokens.length = 4)
  | .lceOut _ duty _ vch _ _ => decide (-2048 ≤ duty ∧ duty ≤ 2047 ∧ vch.length = 4)
  | .fieldIo _ payload => decide (payload.length ≤ 32)
  | .cfgReq _ payload => decide (payload.length ≤ 32)
  | .cfgRsp _ payload => decide (payload.length ≤ 32)
  | .fieldStat _ st => decide (st.vres.length = 4 ∧ st.dieT.length = 2 ∧ -32768 ≤ st.coilI ∧ st.coilI ≤ 32767)
  | .linePacket _ _ _ _ _ _ pix => decide (pix.all (· < 16384) = true)
  | .safetyPdu _ _ _ data => decide (data.length ≤ 64)
  | .linkActive _ speed width => decide (1 ≤ speed.val ∧ width.val ∈ [1, 2, 4])
  | .xiestWrite _ _ _ _ _ _ val => decide (val.length ≤ 65535)
  | .canSegment _ _ _ data => decide (data.length ≤ 64)
  | .cap _ _ payload => decide (payload.length ≤ 4096)
  | .time _ _ _ payload => decide (payload.length ≤ 4096)
  | .sched _ _ _ payload => decide (payload.length ≤ 4096)
  | .trig _ _ _ payload => decide (payload.length ≤ 4096)
  | .irq _ _ _ payload => decide (payload.length ≤ 4096)
  | .xiestSegment _ _ _ _ _ data => decide (data.length ≤ 4096)
  | .ptRec _ _ _ data => decide (data.length ≤ 4096 ∧ data.length % 16 = 0)
  | .ptHdr _ _ _ data => decide (data.length = 64)
  | .updData _ _ _ _ data => decide (data.length ≤ 65531)
  | .updAuthResponse _ _ _ key sig => decide (key.length + sig.length ≤ 65535)
  | .xiestUnknownOp _ _ _ _ op _ _ val => decide (op.toNat ∉ [0x01, 0x02, 0x10, 0x11, 0x12] ∧ val.length ≤ 65535)
  | .phaseBoundary .. | .eyeSlotBoundary .. | .gatePulse .. | .topUp .. | .gateFault .. | .startStamp ..
  | .monitorMiss .. | .emitterFailed .. | .unplannedEmission .. | .thresholdCrossing .. | .windowClose ..
  | .rxChannelFailed .. | .rxChannelRestored .. | .echoResult .. | .coarsePeaks .. | .trainGateEnd ..
  | .zoomPass .. | .knownAnswerTest .. | .completionDeadlineMiss .. | .engineSramEccError .. | .spareReady ..
  | .replayedResult .. | .histSnap .. | .fieldEvaluation .. | .selectionInvalid .. | .fieldEvaluatorKat ..
  | .pointRecordFormed .. | .writeBurst .. | .frameHeader .. | .ptHoldExpiry .. | .replayHoldRelease ..
  | .lceSampleTick .. | .lceOutputRelease .. | .lceOverrun .. | .mirPriRetry .. | .mirRestart .. | .bridgeTrip ..
  | .bridgeReenable .. | .backEmfEstimate .. | .mirrorWatchdogTrip .. | .lceRearm .. | .mirBridgeEn ..
  | .coilResistanceEstimate .. | .apdOutOfRegulation .. | .injStart .. | .injStop .. | .injectionComplete ..
  | .encEdge .. | .fmGateEnd .. | .ppsInEdge .. | .ppsArm .. | .ppsLost .. | .ppsGateEnd .. | .freqFallback ..
  | .ppsOutPulse .. | .t64Wrap .. | .tbLock .. | .tbLossOfLock .. | .timebaseLockHeld .. | .linkFailed ..
  | .spareLinkSwitchover .. | .barrierControlFrame .. | .barrierAck .. | .barrierNak .. | .barrierAckTimeout ..
  | .fastOff .. | .outStateSend .. | .outputWatchdogExpiry .. | .safeIn .. | .adcSampleWord ..
  | .chargingWindowReopen .. | .adcSequenceStart .. | .adcConversion .. | .adcSeqCommit ..
  | .referenceBufferCheck .. | .excitationFault .. | .excSettleEnd .. | .fltSync .. | .syncEdge ..
  | .loopReadbackFault .. | .frameStartPacket .. | .frameEndPacket .. | .cameraFrameTimeout ..
  | .pipelineFrameDone .. | .siSample .. | .testPulse .. | .discrepancyTimeout .. | .darkTest .. | .darkTestEnd ..
  | .outputReadbackFault .. | .currentLimit .. | .edmTimeout .. | .safecfgRead .. | .pduPairingTimeout ..
  | .receiveTimeout .. | .safetyPduSend .. | .versionPduSend .. | .scSelfTest .. | .recTrig .. | .autoTrigger ..
  | .postEnd .. | .itemWrite .. | .keyframe .. | .digitalGroupSample .. | .recRead .. | .readoutBlock ..
  | .recRelease .. | .recRearm .. | .recMissedClr .. | .dramChannelRemoved .. | .eicEvent .. | .levelWithdrawn ..
  | .coalescingTimer .. | .eicClaim .. | .eicComplete .. | .eicPendSet .. | .eicPendClr .. | .eicMaskSet ..
  | .eicMaskClr .. | .arbitration .. | .wakeTimeout .. | .redirectTimeout .. | .logEntryWrite .. | .eicFirstClr ..
  | .pciVerCmd .. | .ringEnable .. | .ringDisable .. | .descriptorFetch .. | .descriptorFetchTimeout ..
  | .laneFailed .. | .retrainTimeout .. | .pciRetrain .. | .flr .. | .d3hotEntry .. | .perst .. | .xiestOpen ..
  | .xiestClose .. | .xiestRead .. | .xiestDescribe .. | .sessionTimeout .. | .flowControl .. | .segmentTimeout ..
  | .flowControlTimeout .. | .busOff .. | .busOffRecovery .. | .mbxReq .. | .mbxRspAck .. | .mbxAbort ..
  | .enterConfig .. | .enterRun .. | .leaveSafe .. | .enterDormant .. | .dormantEntry .. | .resetWarm ..
  | .resetFull .. | .store .. | .storeComplete .. | .restoreDefaults .. | .seal .. | .discard .. | .autorun ..
  | .bootComplete .. | .fieldSideNotReady .. | .slkAck .. | .slkNak .. | .slkReplayTimeout .. | .capSend ..
  | .rateAlignmentTimeout .. | .commaAligned .. | .alignmentLost .. | .sleep .. | .timeMarker .. | .markerSend ..
  | .offsetInvalid .. | .syncTimeout .. | .slkTxSleep .. | .transmitterWake .. | .receiverWake ..
  | .thermalModelStep .. | .sensorRestored .. | .shutdownCleared .. | .throttleStep .. | .vcoreAdjust ..
  | .dormantWake .. | .wakeSupplyTimeout .. | .updOpen .. | .updVerify .. | .verifyComplete .. | .updActivate ..
  | .updAbort .. | .updClose .. | .updConfirm .. | .updAuthChallenge .. | .authLockoutEnd .. | .updateLockExpiry ..
  | .sigRevoke .. | .imageConfirmed .. | .trialExpired .. | .porn .. | .supplyMonitor .. | .fullReset ..
  | .warmReset .. | .coreWatchdog .. | .safetyCoreFatalError .. | .vmachLow .. | .vmachRestored .. | .vhvInLow ..
  | .vhvInRestored .. | .pendingTimeout .. | .eyeTableEccError .. | .resourceGrant .. | .tapBuildComplete ..
  | .agreementTest .. | .referenceMissing .. | .calSnapshot .. | .readClear .. | .tbT64LoRead ..
  | .eeFaultTLoRead .. | .registerWrite .. | .internalResetRelease .. | .perstRelease ..
  | .busMasterEnableCleared .. | .d3hotExit .. => true

end Sys2Proof
end

