-- ==== Sys2Proof/Certificates/Slice0/Obligations.lean ====
section
/-!
DEFINITION. The statements about the block: what its commands do, family by family, what they leave unchanged, and what
every step keeps.
-/
open Sys2Proof
open Sys2Proof.Machine

/-- A FIRE frame that breaks no rule of one gate per bank and one pulse per marker arms each of its accepted entries;
one that breaks a rule arms nothing, inhibits firing and in RUN takes the device to SAFE. A gate pulse drives its
gate for the commanded width when the sample lies from the minimum to the limit code and nothing holds firing; above
the limit code or below the minimum code, or once the edge has passed, no gate output moves; the committed shot that
is not fired counts, that of the next phase when its phase opens. Commands shown to complete (exec answers next, on
conditions on the state and the operands alone): FIRE, GATE_PULSE. (R88, R91, R93) -/
def Obligations.FireAndGatePulse : Prop :=
  (∀ t frame s, (∀ f ∈ frame, fireAllowed (s.start t) frame f = true) →
    ∃ u, exec (.fire t frame) s = .next u ∧ u.rm.inhibits = s.rm.inhibits ∧
      u.dev = s.dev ∧
      (∀ f ∈ frame, fireAccepted f = true → fireLate s f = false → (bankOf u f.bank).markerUsed = true ∧ (bankOf u f.bank).fires = (bankOf s f.bank).fires ++ [{ em := f.em, edge := s.rm.boundary + 32 * f.offset, width := 32 * f.width, target := f.target.toNat, lim := f.lim.toNat, min := f.min.toNat }])) ∧
  (∀ t frame s, (∃ f ∈ frame, fireAllowed (s.start t) frame f = false) → s.dev = .run →
    ∃ u, exec (.fire t frame) s = .next u ∧ .fireRule ∈ u.rm.inhibits ∧
      u.dev = .safe ∧
      (∀ b, bankOf u b = bankOf s b)) ∧
  (∀ t (b : Fin 4) v s (f : FireS),
    (bankOf s b).fires = [f] →
    f.edge ≤ instant s t + 20 * nsU →
    instant s t ≤ f.edge →
    (linkOf s 1).switchUntil = none →
    s.lce.mode ≠ 4 →
    s.rm.inhibits = [] →
    s.fld.gateHold = false →
    s.fld.wdgTripped = false →
    s.dev = .run ∨ s.dev = .safe →
    (bankOf s b).windowClosed = false →
    f.min ≤ v.toNat →
    v.toNat ≤ f.lim →
    (committedShot s f.em).isSome = true ∨ s.rm.framing = false →
    ∃ u, exec (.gatePulse t b v) s = .next u ∧ Emits u (.gate f.em true) ∧
      Emits u (.gate f.em false) ∧
      (bankOf u b).gateUntil = f.edge + f.width ∧
      (bankOf u b).fires = [] ∧
      (∃ sh, (bankOf u b).fired = some sh ∧ sh.em = f.em ∧ sh.vCode = v.toNat) ∧
      (bankOf u b).vShot = v.toNat ∧
      (∀ c, c ≠ b.val → bankOf u c = bankOf s c)) ∧
  (∀ t (b : Fin 4) v s (f : FireS),
    (bankOf s b).fires = [f] →
    f.edge ≤ instant s t + 20 * nsU →
    instant s t ≤ f.edge →
    f.lim < v.toNat ∨ v.toNat < f.min →
    ∃ u, exec (.gatePulse t b v) s = .next u ∧ (bankOf u b).fires = [] ∧
      (bankOf u b).vShot = v.toNat ∧
      (∀ x, committedShot s f.em = some x → u.rm.skipCount = s.rm.skipCount + (if s.rm.boundary < x.boundary then 0 else 1)) ∧
      (committedShot s f.em = none → u.rm.skipCount = s.rm.skipCount) ∧
      (∀ em h, ¬ Emits u (.gate em h))) ∧
  (∀ t (b : Fin 4) v s (f : FireS), (bankOf s b).fires = [f] → f.edge < instant s t →
    ∃ u, exec (.gatePulse t b v) s = .next u ∧ (bankOf u b).fires = [] ∧
      u.rm.skipCount = s.rm.skipCount ∧
      (∀ em h, ¬ Emits u (.gate em h)))

/-- Both stop the charger of the bank, inhibit firing and take a device in RUN to SAFE, the gate fault with the top-up
stopped and every gate held low; a monitor crossing inside the interval of a shot is no unplanned emission. Commands
shown to complete (exec answers next, on conditions on the state and the operands alone): GATE_FAULT,
UNPLANNED_EMISSION. (R89, R102) -/
def Obligations.GateFaultAndUnplannedEmission : Prop :=
  (∀ t (em : Fin 32) s, s.dev = .run →
    ∃ u, exec (.gateFault t em) s = .next u ∧ u.fld.gateHold = true ∧
      (bankOf u (em.val / 8)).chargerHold = true ∧
      (bankOf u (em.val / 8)).topHold = true ∧
      .gateFault ∈ u.rm.inhibits ∧
      u.dev = .safe) ∧
  (∀ t (b : Fin 4) s, monInterval (s.start t) (bankOf s b) = false → s.dev = .run →
    ∃ u, exec (.unplannedEmission t b) s = .next u ∧ (bankOf u b).chargerHold = true ∧
      .unplanned ∈ u.rm.inhibits ∧
      u.dev = .safe) ∧
  (∀ t (b : Fin 4) s, monInterval (s.start t) (bankOf s b) = true →
    ∃ u, exec (.unplannedEmission t b) s = .next u ∧ u.dev = s.dev ∧
      u.rm.inhibits = s.rm.inhibits)

/-- A top-up starts 50 ns after the gate pulse and never while the mirror watchdog is latched; a window reopens after
100 ms with margin; MON_MISS_LIMIT misses set the bit of the emitter; bias out of regulation sets its status bit and
is logged once. Commands shown to complete (exec answers next, on conditions on the state and the operands alone):
TOP_UP, CHARGING_WINDOW_REOPEN, EMITTER_FAILED, APD_OUT_OF_REGULATION. (R93, R97, R101, R107, R112) -/
def Obligations.ChargingAndBias : Prop :=
  (∀ t (b : Fin 4) s,
    (bankOf s b).topHold = false →
    (bankOf s b).windowClosed = false →
    s.fld.wdgTripped = false →
    (bankOf s b).gateUntil + 50 * nsU ≤ instant s t →
    ∃ u, exec (.topUp t b) s = .next u ∧ (bankOf u b).topUpAt = instant s t ∧
      Emits u (.ball "TOPDRV" b)) ∧
  (∀ t (b : Fin 4) s, s.fld.wdgTripped = true →
    ∃ u, exec (.topUp t b) s = .next u ∧ bankOf u b = bankOf s b ∧
      u.out = []) ∧
  (∀ t (b : Fin 4) s (f : Nat),
    (bankOf s b).windowOkAt = some f →
    (bankOf s b).windowClosed = true →
    f + 100 * msU ≤ instant s t →
    ∃ u, exec (.chargingWindowReopen t b) s = .next u ∧ (bankOf u b).reopen = true) ∧
  (∀ t (em : Fin 32) s,
    parN s 0x2406 0 ≤ bget 0 s.fld.monMiss em →
    s.fld.monFailed.getLsbD em = false →
    LogRoom s 1 →
    ∃ u, exec (.emitterFailed t em) s = .next u ∧ u.fld.monFailed.getLsbD em = true ∧
      Logged s u 0x2206 em 0) ∧
  (∀ t s (f : Nat),
    s.fld.apdBadFrom = some f →
    f + msU < instant s t →
    s.fld.apdBad = false →
    0 < s.fld.apdTarget →
    LogRoom s 1 →
    ∃ u, exec (.apdOutOfRegulation t) s = .next u ∧ u.fld.apdBad = true ∧
      Logged s u 0x2208 noSrc 0)

/-- A bridge trip switches the bridge off, inhibits firing and sets mode 4; each back-EMF estimate counts toward the
watchdog, which trips after eight or after two missed LCE_OUT frames and latches until LCE_REARM; LCE_OUT waits for
the release. Commands shown to complete (exec answers next, on conditions on the state and the operands alone):
BRIDGE_TRIP, BACK_EMF_ESTIMATE, MIRROR_WATCHDOG_TRIP, LCE_REARM, LCE_OUT. (R110, R111, R112, R113, R312, R313) -/
def Obligations.MirrorBridgeAndWatchdog : Prop :=
  (∀ t oc uv s, (oc || uv) = true → s.fld.bridgeOn = true →
    ∃ u, exec (.bridgeTrip t oc uv) s = .next u ∧ u.fld.bridgeOn = false ∧
      u.lce.mode = 4 ∧
      .bridge ∈ u.rm.inhibits ∧
      u.fld.bridgeOc = (s.fld.bridgeOc || oc) ∧
      u.fld.bridgeUv = (s.fld.bridgeUv || uv)) ∧
  (∀ t v c s, s.fld.bemfAt + usU ≤ instant s t →
    ∃ u, exec (.backEmfEstimate t v c) s = .next u ∧ u.fld.vEst = bemfVelocity s v (coil12 c) s.fld.coilI ∧
      u.fld.coilI = coil12 c ∧
      u.fld.bemfAt = instant s t ∧
      u.fld.bemfRun = (if parN s 0x2444 0 < (u.fld.vEst - s.fld.vPred).natAbs then s.fld.bemfRun + 1 else 0)) ∧
  (∀ t s, s.fld.wdgTripped = false → 8 ≤ s.fld.bemfRun ∨ 2 ≤ s.fld.lceMissed →
    ∃ u, exec (.mirrorWatchdogTrip t) s = .next u ∧ u.fld.wdgTripped = true ∧
      .watchdog ∈ u.rm.inhibits ∧
      u.lce.mode = s.lce.mode) ∧
  (∀ t s,
    ∃ u, exec (.lceRearm t) s = .next u ∧ u.fld.bridgeOn = (parB s 0x4024 0 && (s.dev == .config || s.dev == .run || s.dev == .safe) && s.lce.mode != 4) ∧
      u.fld.bridgeOc = false ∧
      u.fld.bridgeUv = false ∧
      u.fld.wdgTripped = false ∧
      .watchdog ∉ u.rm.inhibits ∧
      u.fld.bemfRun = 0 ∧
      u.fld.lceMissed = 0) ∧
  (∀ t duty vel vch bias htr s, -2048 ≤ duty → duty ≤ 2047 →
    ∃ u, exec (.lceOut t duty vel vch bias htr) s = .next u ∧ u.fld.dutyNext = duty ∧
      u.fld.duty = s.fld.duty ∧
      u.fld.vPredNext = vel ∧
      u.fld.vPred = s.fld.vPred ∧
      u.fld.vchNext = vch ∧
      u.fld.biasNext = bias ∧
      u.fld.htrNext = htr ∧
      u.fld.vch = s.fld.vch ∧
      u.fld.bias = s.fld.bias ∧
      u.fld.htrDuty = s.fld.htrDuty ∧
      u.fld.lceSeen = true)

/-- The first failure of a direction starts a switchover, the second inhibits firing and takes the device to SAFE; a
frame in order advances the receiver, a bad one does not, on a spare in use those of the link whose traffic it
carries, and the second bad one in a row fails the link that carries it; an ACK releases frames and a NAK or 2 µs of
silence sends the rest again. FIELD_IO, CFG_REQ and CFG_RSP payloads are kept, a configuration request is answered
on BL9 with a free value, FIELD_STAT updates the measurements, and a freed resource is granted to the waiting
request (log entries 7 and 10). Commands shown to complete (exec answers next, on conditions on the state and the
operands alone): LINK_FAILED, SPARE_LINK_SWITCHOVER, BARRIER_CONTROL_FRAME, BARRIER_ACK, BARRIER_NAK,
BARRIER_ACK_TIMEOUT, FIELD_IO, CFG_REQ, CFG_RSP, FIELD_STAT, RESOURCE_GRANT. (R30, R31, R33, R34, R116, R28, R39,
R107, R115, R122) -/
def Obligations.BarrierLinksAndPayloads : Prop :=
  (∀ t (bl : Fin 12) s, (linkOf s bl).failed = false → bl.val < 10 → dirFailed s bl = false → LogRoom s 1 →
    ∃ u, exec (.linkFailed t bl) s = .next u ∧ (linkOf u bl).failed = true ∧
      (linkOf u bl).switchUntil = some (instant s t) ∧
      Logged s u 0x4201 bl 0 ∧
      u.rm.inhibits = s.rm.inhibits) ∧
  (∀ t (bl : Fin 12) s, (linkOf s bl).failed = false → dirFailed s bl = true → s.dev = .run →
    ∃ u, exec (.linkFailed t bl) s = .next u ∧ (linkOf u bl).failed = true ∧
      .secondLink ∈ u.rm.inhibits ∧
      u.dev = .safe) ∧
  (∀ t (bl : Fin 12) s, (linkOf s bl).switchUntil.isSome = true →
    ∃ u, exec (.spareLinkSwitchover t bl) s = .next u ∧ (linkOf u bl).switchUntil = none ∧
      (if bl.val ≤ 4 ∨ bl.val = 10 then u.fld.spareMap10 = bl.val else u.fld.spareMap11 = bl.val) ∧
      u.fld.switchCount = satInc s.fld.switchCount ∧
      (barUp u bl = true → u.out = (linkOf s bl).replay.map fun p => .barrier (barCarrier u bl) (barFrame p.2.1.toNat p.1 p.2.2))) ∧
  (∀ t (bl : Fin 12) s, barUp s (barPair (barTraffic s bl)) = true →
    ∃ u, exec (.barrierControlFrame t bl (linkOf s (barTraffic s bl)).rxSeq true) s = .next u ∧ Emits u (.barrier (barCarrier s (barPair (barTraffic s bl))) (barFrame 0x01 0 [(linkOf s (barTraffic s bl)).rxSeq]))) ∧
  (∀ t (bl : Fin 12) seq s,
    (linkOf s (barTraffic s bl)).crcRun = 0 →
    barUp s (barPair (barTraffic s bl)) = true →
    ∃ u, exec (.barrierControlFrame t bl seq false) s = .next u ∧ (linkOf u bl).failed = (linkOf s bl).failed ∧
      (linkOf u (barTraffic s bl)).crcRun = 1 ∧
      Emits u (.barrier (barCarrier s (barPair (barTraffic s bl))) (barFrame 0x02 0 [(linkOf s (barTraffic s bl)).rxSeq - 1]))) ∧
  (∀ t (bl : Fin 12) seq s, 1 ≤ (linkOf s (barTraffic s bl)).crcRun →
    ∃ u, exec (.barrierControlFrame t bl seq false) s = .next u ∧ (linkOf u (barCarrier s (barTraffic s bl))).failed = true) ∧
  (∀ t (bl : Fin 12) s,
    ∃ u, exec (.barrierControlFrame t bl (linkOf s (barTraffic s bl)).rxSeq true) s = .next u ∧ (linkOf u (barTraffic s bl)).rxSeq = (linkOf s (barTraffic s bl)).rxSeq + 1) ∧
  (∀ t (bl : Fin 12) seq s,
    ∃ u, exec (.barrierControlFrame t bl seq false) s = .next u ∧ (linkOf u (barTraffic s bl)).rxSeq = (linkOf s (barTraffic s bl)).rxSeq ∧
      u.fld.crcErr = satInc s.fld.crcErr) ∧
  (∀ t (bl : Fin 12) seq s,
    ∃ u, exec (.barrierAck t bl seq) s = .next u ∧ (linkOf u bl).replay = barAckLeft seq (linkOf s bl).replay) ∧
  (∀ t (bl : Fin 12) seq s, barUp s bl = true → (linkOf s bl).failed = false →
    ∃ u, exec (.barrierNak t bl seq) s = .next u ∧ (linkOf u bl).replay = barAckLeft seq (linkOf s bl).replay ∧
      (u.out = (linkOf u bl).replay.map fun p => .barrier bl (barFrame p.2.1.toNat p.1 p.2.2))) ∧
  (∀ t (bl : Fin 12) s (f : Nat),
    (linkOf s bl).waitFrom = some f →
    f + 2 * usU ≤ instant s t →
    barUp s bl = true →
    (linkOf s bl).failed = false →
    ∃ u, exec (.barrierAckTimeout t bl) s = .next u ∧ (u.out = (linkOf s bl).replay.map fun p => .barrier bl (barFrame p.2.1.toNat p.1 p.2.2))) ∧
  (∀ t pl s, pl.length ≤ 32 →
    ∃ u, exec (.fieldIo t pl) s = .next u ∧ u.fld.fieldIo = pl) ∧
  (∀ t pl s, pl.length ≤ 32 →
    ∃ u, exec (.cfgReq t pl) s = .next u ∧ u.fld.cfgLast = pl ∧
      u.free = s.free + 1 ∧
      (linkOf u 9).txSeq = (linkOf s 9).txSeq + 1) ∧
  (∀ t pl s, pl.length ≤ 32 →
    ∃ u, exec (.cfgRsp t pl) s = .next u ∧ u.fld.rspLast = pl) ∧
  (∀ t st s,
    ∃ u, exec (.fieldStat t st) s = .next u ∧ u.fld.iin = st.iin ∧
      (∀ b : Fin 4, (bankOf u b).vRes = st.vres.getD b (bankOf s b).vRes) ∧
      u.fld.repI = coil12 st.coilI ∧
      u.fld.repV = st.vBridge ∧
      u.fld.vEst = st.velocity ∧
      u.fld.wdgRep = st.wdg ∧
      u.fld.fldPower = st.power ∧
      u.fld.apdVmeas = st.apdV ∧
      u.fld.apdI = min st.apdI (parN s 0x2425 0) ∧
      u.fld.apdBad = (s.fld.apdBad && !apdWithin s st.apdV) ∧
      (u.fld.apdReg = (decide (0 < s.fld.apdTarget) && apdWithin s st.apdV))) ∧
  (∀ t (r : Fin 5) reqs s (p : Fin 6) (i : Fin 132),
    (bget {} s.arb r).waiting = [] →
    reqs = [(p, i)] →
    usesRes r p = true →
    ∃ u, exec (.resourceGrant t r reqs) s = .next u ∧ (bget {} u.arb r).busy = some (p.val, i.val) ∧
      (bget {} u.arb r).waiting = []) ∧
  (∀ t (r : Fin 5) s, (bget {} s.arb r).waiting = [] →
    ∃ u, exec (.resourceGrant t r []) s = .next u ∧ (bget {} u.arb r).busy = none)

/-- A fast-off symbol switches off every output of its armed mask and no other; an output switches on only at the second
OUT_STATE in a row that requests it, with a token that restarts its watchdog; a request that is absent and a
watchdog of 1 ms switch it off; a symbol that decodes as no code counts as a CRC error of BL0 and switches nothing.
Commands shown to complete (exec answers next, on conditions on the state and the operands alone): FAST_OFF, FO_ARM,
OUT_STATE, OUTPUT_WATCHDOG_EXPIRY. (R21, R118, R119, R120) -/
def Obligations.OutputSwitching : Prop :=
  (∀ t s, (linkOf s 0).crcRun = 0 →
    ∃ u, exec (.fastOff t 4) s = .next u ∧ u.fld.crcErr = satInc s.fld.crcErr ∧
      (linkOf u 0).crcRun = 1 ∧
      u.fld.outs = s.fld.outs) ∧
  (∀ t (k n : Fin 4) s, bit (bget 0 s.fld.foMask k) n = true →
    ∃ u, exec (.fastOff t k.castSucc) s = .next u ∧ (outOf u n).on = false) ∧
  (∀ t (k n : Fin 4) s, bit (bget 0 s.fld.foMask k) n = false →
    ∃ u, exec (.fastOff t k.castSucc) s = .next u ∧ outOf u n = outOf s n) ∧
  (∀ t masks (k : Fin 4) s,
    ∃ u, exec (.foArm t masks) s = .next u ∧ bget 0 u.fld.foMask k = (masks.getD k 0).toNat) ∧
  (∀ t req tokens (n : Fin 4) s, req.getLsbD n = false →
    ∃ u, exec (.outState t req tokens) s = .next u ∧ (outOf u n).on = false ∧
      (outOf u n).reqRun = 0) ∧
  (∀ t req tokens (n : Fin 4) s, req.getLsbD n = true → (outOf s n).on = false → (outOf s n).reqRun = 0 →
    ∃ u, exec (.outState t req tokens) s = .next u ∧ (outOf u n).on = false ∧
      (outOf u n).reqRun = 1) ∧
  (∀ t req tokens (n : Fin 4) s,
    req.getLsbD n = true →
    (outOf s n).on = false →
    1 ≤ (outOf s n).reqRun →
    tokens.getD n 0 ≠ (outOf s n).token →
    ∃ u, exec (.outState t req tokens) s = .next u ∧ (outOf u n).on = true ∧
      (outOf u n).wdgFrom = instant s t ∧
      (outOf u n).wdgOff = false) ∧
  (∀ t req tokens (n : Fin 4) s,
    (outOf s n).wdgOff = true →
    (outOf s n).on = false →
    tokens.getD n 0 = (outOf s n).token →
    ∃ u, exec (.outState t req tokens) s = .next u ∧ (outOf u n).on = false) ∧
  (∀ t (n : Fin 4) s, (outOf s n).wdgFrom + msU ≤ instant s t →
    ∃ u, exec (.outputWatchdogExpiry t n) s = .next u ∧ (outOf u n).on = false ∧
      (outOf u n).wdgOff = true)

/-- A dark test starts 1 s after its output went on; a readback that does not fall is a stuck switch, code 1 or 2, which
switches the output off and takes RUN to SAFE; a passed test is counted. Readback, current-limit and EDM faults set
codes 3 to 7 and switch off as R424 says; none of them replaces code 1, 2 or 3. Commands shown to complete (exec
answers next, on conditions on the state and the operands alone): DARK_TEST, DARK_TEST_END, OUTPUT_READBACK_FAULT,
CURRENT_LIMIT, EDM_TIMEOUT, OUT_STATE_SEND. (R423, R424, R425, R426) -/
def Obligations.DarkTestsAndReadback : Prop :=
  (∀ t (n : Fin 4) s,
    (outOf s n).on = true →
    (∀ k : Fin 4, (outOf s k).dark = false) →
    (outOf s n).onAt + secU ≤ instant s t →
    (outOf s n).lastDark < (outOf s n).onAt →
    ∃ u, exec (.darkTest t n) s = .next u ∧ (outOf u n).dark = true ∧
      (outOf u n).lastDark = instant s t ∧
      (outOf u n).on = true) ∧
  (∀ t (n : Fin 4) s,
    (outOf s n).dark = true →
    (outOf s n).darkVoid = false →
    (outOf s n).darkFrom + parN s 0x6040 n * usU ≤ instant s t →
    ∃ u, exec (.darkTestEnd t n true true) s = .next u ∧ u.saf.dtCount = satInc s.saf.dtCount ∧
      (outOf u n).dark = false ∧
      (outOf u n).darkB = !(outOf s n).darkB ∧
      (outOf u n).fault = (outOf s n).fault) ∧
  (∀ t (n : Fin 4) returned s,
    (outOf s n).dark = true →
    (outOf s n).darkVoid = false →
    (outOf s n).darkFrom + parN s 0x6040 n * usU ≤ instant s t →
    s.dev = .run →
    (outOf s n).fault = 0 ∨ 3 < (outOf s n).fault →
    ∃ u, exec (.darkTestEnd t n false returned) s = .next u ∧ (outOf u n).fault = (if (outOf s n).darkB then 2 else 1) ∧
      (outOf u n).on = false ∧
      u.dev = .safe) ∧
  (∀ t (n : Fin 4) s (a : Nat),
    (outOf s n).badFrom = some a →
    a + msU < instant s t →
    (outOf s n).dark = false →
    (outOf s n).on = false →
    (outOf s n).readback = true →
    (outOf s n).fault = 0 →
    s.dev = .run →
    ∃ u, exec (.outputReadbackFault t n) s = .next u ∧ (outOf u n).fault = 3 ∧
      u.dev = .safe ∧
      (∀ k : Fin 4, (outOf u k).request = false)) ∧
  (∀ t (n : Fin 4) s (a : Nat),
    (outOf s n).badFrom = some a →
    a + msU < instant s t →
    (outOf s n).dark = false →
    (outOf s n).on = true →
    (outOf s n).readback = false →
    (outOf s n).fault = 0 →
    ∃ u, exec (.outputReadbackFault t n) s = .next u ∧ (outOf u n).fault = 4 ∧
      (outOf u n).request = false ∧
      u.dev = s.dev) ∧
  (∀ t (n : Fin 4) s, (outOf s n).on = true → (outOf s n).fault = 0 ∨ 3 < (outOf s n).fault →
    ∃ u, exec (.currentLimit t n) s = .next u ∧ (outOf u n).on = false ∧
      (outOf u n).fault = 5 ∧
      (outOf u n).request = false ∧
      u.dev = s.dev) ∧
  (∀ t (n : Fin 4) s, (outOf s n).on = true → 1 ≤ (outOf s n).fault → (outOf s n).fault ≤ 3 →
    ∃ u, exec (.currentLimit t n) s = .next u ∧ (outOf u n).on = false ∧
      (outOf u n).fault = (outOf s n).fault) ∧
  (∀ t (n : Fin 4) s (a : Nat),
    (outOf s n).fault = 0 ∨ 3 < (outOf s n).fault →
    (outOf s n).edmPending = some a →
    parN s 0x6042 n = 1 →
    a + parN s 0x6043 n * msU ≤ instant s t →
    (inOf s (16 + n)).sc = (outOf s n).on →
    ∃ u, exec (.edmTimeout t n) s = .next u ∧ (outOf u n).fault = (if (outOf s n).on then 7 else 6) ∧
      (outOf u n).edmPending = none ∧
      u.dev = s.dev) ∧
  (∀ t s, periodDue s.saf.outAt (50 * usU) (instant s t) = true → barUp s 0 = true →
    ∃ u, exec (.outStateSend t) s = .next u ∧ Emits u (.barrier (barCarrier s 0) (barFrame 0x03 (linkOf s 0).txSeq (outStatePayload u))) ∧
      u.saf.outAt = some (instant s t) ∧
      (linkOf u 0).txSeq = (linkOf s 0).txSeq + 1 ∧
      (∀ n : Fin 4, bget 0 u.fld.outWanted n = bget 0 s.fld.outWanted n + 1))

/-- A sample is kept raw and changes an input's filtered state only to the sampled level, and is sent on BL5; a test
pulse switches its source low at the instants of R406; SAFE_IN carries every state and readback to the safety core;
a discrepancy of SF_DISC is FAULT, of either hand of a type 6; the first reading of the pins is the BOOT reading,
and pins that differ from it take RUN to SAFE. Commands shown to complete (exec answers next, on conditions on the
state and the operands alone): SI_SAMPLE, TEST_PULSE, SAFE_IN, DISCREPANCY_TIMEOUT, SAFECFG_READ. (R403, R404, R405,
R406, R413, R416, R422, R427, R447) -/
def Obligations.SafetyInputs : Prop :=
  (∀ t raw tpRead soRead (i : Fin 20) s, periodDue s.saf.siAt (10 * usU) (instant s t) = true →
    ∃ u, exec (.siSample t raw tpRead soRead) s = .next u ∧ u.saf.siAt = some (instant s t) ∧
      (inOf u i).raw = raw.getLsbD i ∧
      ((inOf u i).state = (inOf s i).state ∨ (inOf u i).state = raw.getLsbD i) ∧
      (linkOf u 5).txSeq = (linkOf s 5).txSeq + 1) ∧
  (∀ t (n : Fin 8) s,
    s.saf.srcOn = true →
    bit (parN s 0x6023 0) n = true →
    (tpOf s n).pulse = false →
    tpDue (s.start t) n = true →
    ∃ u, exec (.testPulse t n) s = .next u ∧ (tpOf u n).pulse = true ∧
      (tpOf u n).pulseFrom = instant s t ∧
      Emits u (.ball "TP low" n) ∧
      (∀ i : Fin 20, inSource s i = n → (inOf u i).maskUntil = instant s t + tpWidth s + tpRecovery s)) ∧
  (∀ t si edm so (i : Fin 16) (n : Fin 4) s,
    ∃ u, exec (.safeIn t si edm so) s = .next u ∧ (inOf u i).sc = si.getLsbD i ∧
      (inOf u (16 + n)).sc = edm.getLsbD n ∧
      (outOf u n).readback = so.getLsbD n ∧
      (outOf u n).on = (outOf s n).on) ∧
  (∀ t (k : Fin 12) s (a : Nat),
    (sfOf s k).discFrom = some a →
    sfUsed s k = true →
    (sfOf s k).st ≠ 4 →
    (discrepant s k).1 = true →
    a + parN s 0x6033 k * msU ≤ instant s t →
    ∃ u, exec (.discrepancyTimeout t k) s = .next u ∧ (sfOf u k).st = 4 ∧
      u.dev = s.dev) ∧
  (∀ t (k : Fin 12) s (a : Nat),
    (sfOf s k).discFrom2 = some a →
    sfUsed s k = true →
    (sfOf s k).st ≠ 4 →
    (discrepant s k).2 = true →
    a + parN s 0x6033 k * msU ≤ instant s t →
    ∃ u, exec (.discrepancyTimeout t k) s = .next u ∧ (sfOf u k).st = 4 ∧
      u.dev = s.dev) ∧
  (∀ t pins s, s.saf.pinsAt = none → Operating s →
    ∃ u, exec (.safecfgRead t pins) s = .next u ∧ u.saf.pinsBoot = pins ∧
      u.saf.pinsOk = pinsValid pins ∧
      u.saf.causes = s.saf.causes ∧
      u.dev = s.dev) ∧
  (∀ t pins s,
    s.saf.pinsAt.isSome = true →
    pins ≠ s.saf.pinsBoot ∨ pinsValid pins = false →
    s.dev = .run →
    periodDue s.saf.pinsAt (100 * msU) (instant s t) = true →
    ∃ u, exec (.safecfgRead t pins) s = .next u ∧ u.saf.pinsOk = false ∧
      u.saf.pinChange = true ∧
      u.dev = .safe ∧
      .cfgChange ∈ u.saf.causes) ∧
  (∀ t s,
    pinsValid s.saf.pinsBoot = true →
    s.saf.pinsAt.isSome = true →
    Operating s →
    periodDue s.saf.pinsAt (100 * msU) (instant s t) = true →
    ∃ u, exec (.safecfgRead t s.saf.pinsBoot) s = .next u ∧ u.saf = { s.saf with pins := s.saf.pinsBoot, pinsAt := some (instant s t) } ∧
      u.dev = s.dev)

/-- An evaluation takes the oldest result of its channel that waits and puts it into every field of the active set, and
of the old one during a switch-over; a type-8 function whose field is violated by an echo result is in DEMAND after
it; a selection invalid for FS_SEL_TIME puts every type-8 function in DEMAND; a failed known-answer test takes RUN
to SAFE and is logged, a passed one changes neither. Commands shown to complete (exec answers next, on conditions on
the state and the operands alone): FIELD_EVALUATION, SELECTION_INVALID, FIELD_EVALUATOR_KAT. (R434, R436, R440,
R443, R445, R447) -/
def Obligations.FieldEvaluator : Prop :=
  (∀ t r s (x : FieldShot), s.fe.queue.find? (fun y => y.chan == r) = some x → s.saf.setNo ≠ 0 →
    ∃ u, exec (.fieldEvaluation t r) s = .next u ∧ u.fe.fields = setShot s s.fe.active x s.fe.fields ∧
      u.fe.queue = s.fe.queue.erase x ∧
      u.fe.oldFields = (if s.fe.switchLeft = 0 then s.fe.oldFields else setShot s s.fe.oldSet x s.fe.oldFields)) ∧
  (∀ t r (k : Fin 12) s (x : FieldShot),
    s.fe.queue.find? (fun y => y.chan == r) = some x →
    s.saf.setNo ≠ 0 →
    parN s 0x6030 k = 8 →
    s.saf.srcOn = true →
    (sfOf s k).st ≠ 4 →
    ∃ u, exec (.fieldEvaluation t r) s = .next u ∧ (fieldDemand u k = true → (sfOf u k).st = 1) ∧
      u.fe.active = s.fe.active ∧
      u.dev = s.dev) ∧
  (∀ t r s, s.saf.setNo = 0 →
    ∃ u, exec (.fieldEvaluation t r) s = .next u ∧ u.fe.fields = s.fe.fields ∧
      u.saf = s.saf) ∧
  (∀ t (k : Fin 12) s (a : Nat),
    s.fe.selBadFrom = some a →
    parN s 0x6110 0 = 1 →
    a + parN s 0x6114 0 * msU ≤ instant s t →
    parN s 0x6030 k = 8 →
    s.saf.srcOn = true →
    (sfOf s k).st ≠ 4 →
    ∃ u, exec (.selectionInvalid t) s = .next u ∧ u.fe.selInvalid = true ∧
      u.fe.next = none ∧
      (sfOf u k).st = 1) ∧
  (∀ t s, s.rm.inFrame = true → s.rm.nAct ≤ s.rm.cycle → s.dev = .run → LogRoom s 2 →
    ∃ u, exec (.fieldEvaluatorKat t false) s = .next u ∧ u.fe.kat = false ∧
      u.dev = .safe ∧
      .feKat ∈ u.saf.causes ∧
      Logged s u 0x4B07 noSrc 0) ∧
  (∀ t s, s.rm.inFrame = true → s.rm.nAct ≤ s.rm.cycle →
    ∃ u, exec (.fieldEvaluatorKat t true) s = .next u ∧ u.fe.kat = true ∧
      u.dev = s.dev ∧
      u.saf = s.saf)

/-- A copy with a bad CRC is rejected and counted; a good copy waits for its partner, an equal partner within 10 ms is
accepted with its data and a partner that differs is a mismatch; a missing partner, a receive timeout and an
unacknowledged transmission take RUN to SAFE; field-state and version PDUs go out on both networks. Commands shown
to complete (exec answers next, on conditions on the state and the operands alone): SAFETY_PDU, PDU_PAIRING_TIMEOUT,
RECEIVE_TIMEOUT, SAFETY_PDU_SEND, VERSION_PDU_SEND. (R450, R451, R452, R454, R455, R456, R457, R458, R459) -/
def Obligations.SafetyPdus : Prop :=
  (∀ tx net ident data s (j : Fin 4),
    rxSlotUsed s j = true →
    parN s 0x6124 j = ident.toNat →
    Operating s →
    data.length ≠ 16 ∨ fbN data 12 4 ≠ (pduCrc s data).toNat →
    ∃ u, exec (.safetyPdu tx net ident data) s = .next u ∧ u.fe = { s.fe with err := satInc s.fe.err } ∧
      u.saf = s.saf) ∧
  (∀ tx net ident data s (j a : Nat),
    pduSlot s ident data = some j →
    Operating s →
    data.length = 16 →
    fbN data 12 4 = (pduCrc s data).toNat →
    fbN data 0 1 / 16 = 2 →
    s.fe.verDone = true →
    pduGood (s.start tx.t) j data = true →
    (slotOf s j).wait = [(1 - net.val, a, data)] →
    instant s tx.t ≤ a + 10 * msU →
    ∃ u, exec (.safetyPdu tx net ident data) s = .next u ∧ (slotOf u j).data = some (BitVec.ofNat 16 (fbN data 2 2)) ∧
      (slotOf u j).accAt = instant s tx.t ∧
      (slotOf u j).wait = [] ∧
      (slotOf u j).last = some (BitVec.ofNat 64 (fbN data 4 8), BitVec.ofNat 8 (fbN data 1 1))) ∧
  (∀ tx net ident data s (j : Nat),
    pduSlot s ident data = some j →
    Operating s →
    data.length = 16 →
    fbN data 12 4 = (pduCrc s data).toNat →
    fbN data 0 1 / 16 = 2 →
    s.fe.verDone = true →
    pduGood (s.start tx.t) j data = true →
    (slotOf s j).wait = [] →
    ∃ u, exec (.safetyPdu tx net ident data) s = .next u ∧ (slotOf u j).wait = [(net.val, instant s tx.t, data)] ∧
      (slotOf u j).data = (slotOf s j).data ∧
      u.saf = s.saf) ∧
  (∀ tx net ident data s (j a : Nat) (e : List Byte),
    pduSlot s ident data = some j →
    Operating s →
    data.length = 16 →
    fbN data 12 4 = (pduCrc s data).toNat →
    fbN data 0 1 / 16 = 2 →
    s.fe.verDone = true →
    pduGood (s.start tx.t) j data = true →
    (slotOf s j).wait = [(1 - net.val, a, e)] →
    e.getD 1 0 = data.getD 1 0 →
    e ≠ data →
    instant s tx.t ≤ a + 10 * msU →
    s.dev = .run →
    ∃ u, exec (.safetyPdu tx net ident data) s = .next u ∧ u.fe.mismatch = true ∧
      (slotOf u j).data = (slotOf s j).data ∧
      .pduMismatch ∈ u.saf.causes ∧
      u.dev = .safe) ∧
  (∀ t (j : Fin 4) s (a : Nat) (d : List Byte),
    (slotOf s j).wait = [(0, a, d)] →
    a + 10 * msU < instant s t →
    s.dev = .run →
    ∃ u, exec (.pduPairingTimeout t j) s = .next u ∧ u.fe.missB = true ∧
      u.fe.netSingle = true ∧
      (slotOf u j).wait = [] ∧
      u.dev = .safe) ∧
  (∀ t (j : Fin 4) s,
    rxSlotUsed s j = true →
    s.fe.verDone = true →
    (slotOf s j).timedOut = false →
    (slotOf s j).accAt + parN s 0x6127 j * msU ≤ instant s t →
    s.dev = .run →
    ∃ u, exec (.receiveTimeout t j) s = .next u ∧ (slotOf u j).timedOut = true ∧
      (slotOf u j).data = none ∧
      u.dev = .safe) ∧
  (∀ t (j : Fin 4) s,
    rxSlotUsed s j = true →
    s.fe.verDone = true →
    (slotOf s j).data.isSome = true →
    (slotOf s j).accAt + parN s 0x6127 j * msU ≤ instant s t →
    s.dev = .run →
    ∃ u, exec (.receiveTimeout t j) s = .next u ∧ (slotOf u j).timedOut = true ∧
      (slotOf u j).data = none ∧
      (slotOf u j).pairs = 0 ∧
      u.dev = .safe) ∧
  (∀ t ackA ackB s,
    s.fe.verDone = true →
    Operating s →
    periodDue s.fe.txAt (parN s 0x6123 0 * msU) (instant s t) = true →
    CanIdle s t 0 →
    CanIdle s t 1 →
    ∃ u, exec (.safetyPduSend t ackA ackB) s = .next u ∧ Emits u (.can 0 (parN s 0x6122 0) (pduOf s 1 s.fe.txSeq (pduData s) (t64Now (s.start t)).toNat)) ∧
      Emits u (.can 1 (parN s 0x6122 0) (pduOf s 1 s.fe.txSeq (pduData s) (t64Now (s.start t)).toNat)) ∧
      u.fe.txSeq = s.fe.txSeq + 1 ∧
      (s.dev = .run → (ackA = false ∨ ackB = false) → u.dev = .safe)) ∧
  (∀ tx s,
    s.fe.verDone = false →
    Operating s →
    periodDue s.fe.verAt (100 * msU) (instant s tx.t) = true →
    (∀ j : Fin 4, (slotOf s j).verRange = (0, 0)) →
    CanIdle s tx.t 0 →
    CanIdle s tx.t 1 →
    ∃ u, exec (.versionPduSend tx) s = .next u ∧ (s.dev = .run → (tx.ackA = false ∨ tx.ackB = false) → u.dev = .safe) ∧
      u.fe.verSeq = s.fe.verSeq + 1 ∧
      u.fe.verAt = some (instant s tx.t) ∧
      Emits u (.can 0 (parN s 0x6122 0) (pduOf s 15 s.fe.verSeq 0x0100 (0x0100 + 65536 * 0x0100))) ∧
      Emits u (.can 1 (parN s 0x6122 0) (pduOf s 15 s.fe.verSeq 0x0100 (0x0100 + 65536 * 0x0100))))

/-- An event of a host source leaves it pending, or in service where its group sends to Scan Link; an event counts in
its group, which fires when its count is reached; in service it is remembered; a level that goes away before claim
is withdrawn and one in service is noted as vanished; the coalescing timer fires its group and resets count and
timer. Commands shown to complete (exec answers next, on conditions on the state and the operands alone): EIC_EVENT,
LEVEL_WITHDRAWN, COALESCING_TIMER. (R492, R493, R494, R497, R499) -/
def Obligations.EicEvents : Prop :=
  (∀ t (src : Fin 512) s, src.val < 480 → isHostSrc src = true → s.eic.active.getLsbD src = false →
    ∃ u, exec (.eicEvent t src) s = .next u ∧ (u.eic.pend.getLsbD src || u.eic.active.getLsbD src) = true ∧
      u.dev = s.dev) ∧
  (∀ t (src : Fin 512) s,
    src.val < 480 →
    isHostSrc src = true →
    s.eic.active.getLsbD src = false →
    s.eic.pend.getLsbD src = false →
    s.eic.mask.getLsbD src = false →
    bget 0 s.eic.asleepFrom src = 0 →
    (grpOf s (groupOf s src)).n + 1 < (grpOf s (groupOf s src)).count →
    ∃ u, exec (.eicEvent t src) s = .next u ∧ (grpOf u (groupOf s src)).n = (grpOf s (groupOf s src)).n + 1 ∧
      (grpOf u (groupOf s src)).since = some ((grpOf s (groupOf s src)).since.getD (instant s t)) ∧
      u.eic.counted.getLsbD src = true ∧
      u.eic.pend.getLsbD src = true) ∧
  (∀ t (src : Fin 512) s,
    src.val < 480 →
    isHostSrc src = true →
    s.eic.active.getLsbD src = false →
    s.eic.pend.getLsbD src = false →
    s.eic.mask.getLsbD src = false →
    bget 0 s.eic.asleepFrom src = 0 →
    (grpOf s (groupOf s src)).count ≤ (grpOf s (groupOf s src)).n + 1 →
    targetOf s (groupOf s src) < 6 →
    ∃ u, exec (.eicEvent t src) s = .next u ∧ Emits u (.coreIrq (targetOf s (groupOf s src)) (groupOf s src)) ∧
      (grpOf u (groupOf s src)).n = 0 ∧
      u.eic.pend.getLsbD src = true) ∧
  (∀ t (src : Fin 512) s, src.val < 480 → s.eic.active.getLsbD src = true →
    ∃ u, exec (.eicEvent t src) s = .next u ∧ u.eic.active = s.eic.active ∧
      u.eic.pend = s.eic.pend ∧
      (if eicIsLevel src then u.eic.level else u.eic.again).getLsbD src = true ∧
      u.out = []) ∧
  (∀ t (src : Fin 512) s,
    s.eic.pend.getLsbD src = true →
    s.eic.level.getLsbD src = true →
    s.eic.active.getLsbD src = false →
    ∃ u, exec (.levelWithdrawn t src) s = .next u ∧ (eicIsLevel src = true → u.eic.pend.getLsbD src = false ∧ u.eic.level.getLsbD src = false) ∧
      (eicIsLevel src = false → u.eic = s.eic)) ∧
  (∀ t (src : Fin 512) s, s.eic.level.getLsbD src = false →
    ∃ u, exec (.levelWithdrawn t src) s = .next u ∧ u.eic = s.eic) ∧
  (∀ t (src : Fin 512) s, s.eic.active.getLsbD src = true → s.eic.level.getLsbD src = true →
    ∃ u, exec (.levelWithdrawn t src) s = .next u ∧ (eicIsLevel src = true → u.eic.vanish.getLsbD src = true ∧ u.eic.active = s.eic.active) ∧
      u.eic.pend = s.eic.pend) ∧
  (∀ t (g : Fin 32) s (a : Nat),
    (grpOf s g).since = some a →
    a + (grpOf s g).time * 250 * nsU ≤ instant s t →
    ∃ u, exec (.coalescingTimer t g) s = .next u ∧ (grpOf u g).n = 0 ∧
      (grpOf u g).since = none ∧
      (targetOf s g < 6 → Emits u (.coreIrq (targetOf s g) g)) ∧
      (targetOf s g = 6 → hostAwake s (grpOf s g).func = true → s.pci.retraining = false → s.pci.staged = [] →
      bget false s.pci.msixOpen (64 * (grpOf s g).func + (grpOf s g).vector) = true →
      Emits u (.msix (grpOf s g).func (grpOf s g).vector)))

/-- EIC_CLAIM returns bit 31 and the number of the lowest claimable source, which leaves the pending array for service
under its owner; with none it returns 0; EIC_COMPLETE by the owner ends the service, by another function it sets
BAD_COMPLETE and changes nothing else of the controller. EIC_PEND_SET has one edge of each named host source,
EIC_PEND_CLR clears the pending bit of a source whose level is not asserted, EIC_MASK_SET and EIC_MASK_CLR set and
clear the mask bit; a source that host software does not route keeps its bits. Commands shown to complete (exec
answers next, on conditions on the state and the operands alone): EIC_CLAIM, EIC_COMPLETE, EIC_PEND_SET,
EIC_PEND_CLR, EIC_MASK_SET, EIC_MASK_CLR. (R495, R496, R497, R513, R490, R493) -/
def Obligations.EicServiceAndArrays : Prop :=
  (∀ t who (n : Fin 512) s, claimable s who n = true → (∀ m < n.val, claimable s who m = false) →
    ∃ u, exec (.eicClaim t who) s = .next u ∧ u.busRead = BitVec.ofNat 32 (2 ^ 31 + n) ∧
      u.eic.active.getLsbD n = true ∧
      u.eic.pend.getLsbD n = false ∧
      bget 0 u.eic.owner n = ownerOf who ∧
      (∀ m : Fin 512, m ≠ n → u.eic.active.getLsbD m = s.eic.active.getLsbD m ∧ u.eic.pend.getLsbD m = s.eic.pend.getLsbD m)) ∧
  (∀ t who s, (∀ m : Fin 512, claimable s who m = false) →
    ∃ u, exec (.eicClaim t who) s = .next u ∧ u.busRead = 0 ∧
      u.eic = s.eic) ∧
  (∀ t who (src : Fin 512) s,
    s.eic.active.getLsbD src = true →
    bget 0 s.eic.owner src = ownerOf who →
    targetOf s (groupOf s src) ≠ 7 →
    ∃ u, exec (.eicComplete t who src) s = .next u ∧ u.eic.active.getLsbD src = false ∧
      u.eic.again.getLsbD src = false ∧
      u.eic.pend.getLsbD src = (s.eic.pend.getLsbD src || s.eic.again.getLsbD src || (eicIsLevel src && s.eic.level.getLsbD src))) ∧
  (∀ t (f : Fin 2) (src : Fin 512) s, s.eic.active.getLsbD src = false →
    ∃ u, exec (.eicComplete t (.pf f) src) s = .next u ∧ u.eic = { s.eic with badComplete := bset s.eic.badComplete f true }) ∧
  (∀ t (j : Fin 16) w (i : Fin 32) s, w.getLsbD i = true → isHostSrc (32 * j + i) = true →
    ∃ u, exec (.eicPendSet t j w) s = .next u ∧ (u.eic.pend.getLsbD (32 * j + i) || u.eic.active.getLsbD (32 * j + i)) = true) ∧
  (∀ t (j : Fin 16) w (i : Fin 32) s,
    w.getLsbD i = true →
    isHostSrc (32 * j + i) = true →
    s.eic.level.getLsbD (32 * j + i) = false →
    ∃ u, exec (.eicPendClr t j w) s = .next u ∧ u.eic.pend.getLsbD (32 * j + i) = false) ∧
  (∀ t (j : Fin 16) w (i : Fin 32) s, w.getLsbD i = true → isHostSrc (32 * j + i) = true →
    ∃ u, exec (.eicMaskSet t j w) s = .next u ∧ u.eic.mask.getLsbD (32 * j + i) = true ∧
      u.eic.counted.getLsbD (32 * j + i) = false ∧
      u.eic.pend = s.eic.pend) ∧
  (∀ t (j : Fin 16) w (i : Fin 32) s, w.getLsbD i = true → isHostSrc (32 * j + i) = true →
    ∃ u, exec (.eicMaskClr t j w) s = .next u ∧ u.eic.mask.getLsbD (32 * j + i) = false) ∧
  (∀ t (j : Fin 16) w (n : Fin 512) s, isHostSrc n = false →
    ∃ u, exec (.eicMaskSet t j w) s = .next u ∧ u.eic.mask.getLsbD n = s.eic.mask.getLsbD n) ∧
  (∀ t (j : Fin 16) w (n : Fin 512) s, isHostSrc n = false →
    ∃ u, exec (.eicMaskClr t j w) s = .next u ∧ u.eic.mask.getLsbD n = s.eic.mask.getLsbD n)

/-- Arbitration delivers a ready event whose target is awake again; a ready event whose target HOST is asleep waits from
the arbitration on; after EIC_WAKE_TO its wake request is given up, and after EIC_REDIRECT_TO it goes to the
fallback core with entry 0x0004; the oldest staged log entry goes to slot NEXT, and a write of EIC_FIRST_CLR clears
EIC_FIRST. Commands shown to complete (exec answers next, on conditions on the state and the operands alone):
ARBITRATION, WAKE_TIMEOUT, REDIRECT_TIMEOUT, LOG_ENTRY_WRITE, EIC_FIRST_CLR. (R500, R501, R502, R507, R509, R510) -/
def Obligations.EicAsleepAndLog : Prop :=
  (∀ t (n : Fin 512) s,
    (eicReady s).getLsbD n = true →
    s.eic.moved.getLsbD n = false →
    targetOf s (groupOf s n) = 6 →
    hostAwake s (grpOf s (groupOf s n)).func = false →
    bget 0 s.eic.asleepFrom n = 0 →
    ∃ u, exec (.arbitration t) s = .next u ∧ bget 0 u.eic.asleepFrom n = instant s t + 1 ∧
      u.eic.pend.getLsbD n = true) ∧
  (∀ t (n : Fin 512) s,
    (eicReady s).getLsbD n = true →
    s.eic.moved.getLsbD n = false →
    targetOf s (groupOf s n) < 6 →
    s.dev = .run →
    bget 0 s.eic.asleepFrom n ≠ 0 →
    ∃ u, exec (.arbitration t) s = .next u ∧ Emits u (.coreIrq (targetOf s (groupOf s n)) (groupOf s n)) ∧
      bget 0 u.eic.asleepFrom n = 0 ∧
      u.eic.pend.getLsbD n = true) ∧
  (∀ t (src : Fin 512) s,
    bget 0 s.eic.wakeReq src ≠ 0 →
    targetAsleep s src = true →
    bget 0 s.eic.wakeReq src - 1 + parN s 0x7402 0 * msU ≤ instant s t →
    ∃ u, exec (.wakeTimeout t src) s = .next u ∧ u.eic.noWake.getLsbD src = true ∧
      bget 0 u.eic.wakeReq src = 0 ∧
      bget 0 u.eic.asleepFrom src = instant s t + 1) ∧
  (∀ t (src : Fin 512) s,
    bget 0 s.eic.asleepFrom src ≠ 0 →
    (eicReady s).getLsbD src = true →
    s.eic.moved.getLsbD src = false →
    targetAsleep s src = true →
    s.eic.noWake.getLsbD src = true →
    bget 0 s.eic.asleepFrom src - 1 + parN s 0x7401 0 * usU ≤ instant s t →
    LogRoom s 1 →
    ∃ u, exec (.redirectTimeout t src) s = .next u ∧ u.eic.moved.getLsbD src = true ∧
      bget 0 u.eic.asleepFrom src = 0 ∧
      Emits u (.coreIrq (parN s 0x7400 0) (groupOf s src)) ∧
      Logged s u 0x0004 src (targetOf s (groupOf s src))) ∧
  (∀ t s (e : LogE) (r : List LogE),
    s.log.staging = e :: r →
    periodDue s.log.wroteAt (250 * nsU) (instant s t) = true →
    ∃ u, exec (.logEntryWrite t) s = .next u ∧ bget {} u.log.slots s.log.next.toNat = e ∧
      u.log.staging = r ∧
      u.log.next = (if 254 ≤ s.log.next.toNat then 0 else s.log.next + 1) ∧
      u.log.gen = (if 254 ≤ s.log.next.toNat then s.log.gen + 1 else s.log.gen)) ∧
  (∀ t s,
    ∃ u, exec (.eicFirstClr t none) s = .next u ∧ u.log = { s.log with first := none }) ∧
  (∀ t (ep : Fin 10) (tag : BitVec 8) s, Accepts s t ep tag 0x7414 0 [1] →
    ∃ u, exec (.eicFirstClr t (some (ep, tag))) s = .next u ∧ u.log = { s.log with first := none } ∧
      Emits u (.xiest ep (rspMsg (wreq tag 0x7414 0 [1]) 0 [])))

/-- PCI_VER_CMD negotiates the version while no ring is enabled; a ring is enabled only negotiated, as bus master and
well configured; a good descriptor becomes the buffer in progress, a bad one or a failed fetch stops the ring with
cause 1, 3 or, at the third timeout, 2; clearing Bus Master Enable stops every running ring with cause 4. Commands
shown to complete (exec answers next, on conditions on the state and the operands alone): PCI_VER_CMD, RING_ENABLE,
RING_DISABLE, DESCRIPTOR_FETCH, DESCRIPTOR_FETCH_TIMEOUT, BUS_MASTER_ENABLE_CLEARED. (R520, R521, R522, R523, R524,
R528, R529) -/
def Obligations.PcieRings : Prop :=
  (∀ t (v : BitVec 32) s,
    v.getLsbD 0 = true →
    (∀ p ∈ s.pci.rings, p.2.enable = false) →
    negotiate verDev verDev (s.pci.verHost.toNat % 65536) (s.pci.verHost.toNat / 65536) ≠ 0 →
    ∃ u, exec (.pciVerCmd t v) s = .next u ∧ u.pci.neg = 1 ∧
      u.pci.verNeg = 0x0100) ∧
  (∀ t (v : BitVec 32) s,
    v.getLsbD 0 = true →
    (∀ p ∈ s.pci.rings, p.2.enable = false) →
    negotiate verDev verDev (s.pci.verHost.toNat % 65536) (s.pci.verHost.toNat / 65536) = 0 →
    LogRoom s 1 →
    ∃ u, exec (.pciVerCmd t v) s = .next u ∧ u.pci.neg = 2 ∧
      u.pci.verNeg = 0 ∧
      Logged s u 0x3702 noSrc (majors (s.pci.verHost.toNat % 65536) (s.pci.verHost.toNat / 65536) verDev verDev)) ∧
  (∀ t (n : Fin 32) s,
    (ringOf s n).enable = false →
    s.pci.neg = 1 →
    s.pci.bme = true →
    ringConfigOk (ringOf s n) = true →
    ∃ u, exec (.ringEnable t n) s = .next u ∧ (ringOf u n).enable = true ∧
      (ringOf u n).stopped = false ∧
      (ringOf u n).bytes = 0 ∧
      (ringOf u n).waiting = [] ∧
      ((ringOf s n).done ≠ (ringOf s n).tail → (ringOf u n).fetch = 1 ∧ Emits u (.note "descriptor fetch" n))) ∧
  (∀ t (n : Fin 32) s, s.pci.neg ≠ 1 ∨ s.pci.bme = false ∨ ringConfigOk (ringOf s n) = false →
    ∃ u, exec (.ringEnable t n) s = .next u ∧ u.pci = s.pci) ∧
  (∀ t (n : Fin 32) s,
    (ringOf s n).enable = true →
    n.val ≠ parN s 0x3801 0 →
    (∀ i ∈ (ringOf s n).waiting, i.hdr = []) →
    ∃ u, exec (.ringDisable t n) s = .next u ∧ (ringOf u n).enable = false ∧
      (ringOf u n).waiting = [] ∧
      (ringOf u n).buf = none ∧
      (ringOf u n).drop = satAdd (ringOf s n).drop (ringOf s n).waiting.length) ∧
  (∀ t (n : Fin 32) s, (ringOf s n).enable = true →
    ∃ u, exec (.ringDisable t n) s = .next u ∧ (ringOf u n).enable = false ∧
      (ringOf u n).stopped = false ∧
      (ringOf u n).waiting = [] ∧
      (ringOf u n).buf = none ∧
      (ringOf u n).fetch = 0) ∧
  (∀ t (n : Fin 32) addr len w3 s,
    ringRunning (ringOf s n) = true →
    (ringOf s n).fetch ≠ 0 →
    (ringOf s n).waiting = [] →
    descOk addr len w3 = true →
    ∃ u, exec (.descriptorFetch t n addr len w3 .good) s = .next u ∧ (ringOf u n).buf = some { addr := addr, len := len.toNat } ∧
      (ringOf u n).fetch = 0) ∧
  (∀ t (n : Fin 32) addr len w3 (ok : Cpl) s,
    ringRunning (ringOf s n) = true →
    (ringOf s n).fetch ≠ 0 →
    ok ≠ .good ∨ descOk addr len w3 = false →
    LogRoom s 1 →
    ∃ u, exec (.descriptorFetch t n addr len w3 ok) s = .next u ∧ (ringOf u n).stopped = true ∧
      (ringOf u n).cause = (if ok = .good then 1 else 3) ∧
      Logged s u 0x3705 n (if ok = .good then 1 else 3) ∧
      (ok = .poisoned → (aerOf u 0).unc.getLsbD uncPoisoned = true)) ∧
  (∀ t (n : Fin 32) s,
    ringRunning (ringOf s n) = true →
    (ringOf s n).fetch ≠ 0 →
    (ringOf s n).fetchAt + 50 * msU ≤ instant s t →
    ∃ u, exec (.descriptorFetchTimeout t n) s = .next u ∧ (aerOf u 0).unc.getLsbD uncTimeout = true ∧
      (if 3 ≤ (ringOf s n).fetch then (ringOf u n).stopped = true ∧ (ringOf u n).cause = 2 else
      (ringOf u n).fetch = (ringOf s n).fetch + 1 ∧ (ringOf u n).fetchAt = instant s t)) ∧
  (∀ t s,
    ∃ u, exec (.busMasterEnableCleared t) s = .next u ∧ u.pci.bme = false ∧
      (∀ n : Fin 32, ringRunning (ringOf s n) = true → (ringOf u n).stopped = true ∧ (ringOf u n).cause = 4))

/-- A failed lane retrains the link on the lanes R531 leaves or takes it down; LINK_ACTIVE ends retraining with staging
delivered; after PCI_RETRAIN_MAX the link is down and every ring stops; FLR, PERST and D3hot reset, abort or disable
what R535 and R538 name, and D0 wakes the function again. Commands shown to complete (exec answers next, on
conditions on the state and the operands alone): LANE_FAILED, LINK_ACTIVE, RETRAIN_TIMEOUT, PCI_RETRAIN, FLR,
D3HOT_ENTRY, D3HOT_EXIT, PERST, PERST_RELEASE. (R516, R531, R532, R533, R534, R535, R538, R653) -/
def Obligations.PcieLink : Prop :=
  (∀ t (lane : LaneReport) reversal s, lane.lost = false → lane.errs ≤ parN s 0x7804 0 → lane.errs ≠ 0 →
    ∃ u, exec (.laneFailed t lane reversal) s = .next u ∧ bget 0 u.pci.laneErr lane.lane = min 255 (bget 0 s.pci.laneErr lane.lane + lane.errs) ∧
      u.pci.laneSt.getLsbD lane.lane = true ∧
      u.pci.failed = s.pci.failed ∧
      u.pci.dlUp = s.pci.dlUp) ∧
  (∀ t (lane : LaneReport) reversal s,
    s.pci.dlUp = true →
    s.pci.retraining = false →
    s.pci.failed.getLsbD lane.lane = false →
    lane.lost = true ∨ parN s 0x7804 0 < lane.errs →
    (narrowed (s.pci.failed ||| BitVec.ofNat 4 (2 ^ lane.lane.val)) reversal).1 ≠ 0 →
    LogRoom s 1 →
    ∃ u, exec (.laneFailed t lane reversal) s = .next u ∧ u.pci.retraining = true ∧
      u.pci.dlUp = false ∧
      u.pci.retrainAt = instant s t ∧
      u.pci.width = min (narrowed u.pci.failed reversal).1 (max s.pci.trained 1) ∧
      u.pci.failed = s.pci.failed ||| BitVec.ofNat 4 (2 ^ lane.lane.val) ∧
      Logged s u 0x2703 noSrc (u.pci.failed.toNat + 256 * (narrowed u.pci.failed reversal).1)) ∧
  (∀ t (lane : LaneReport) reversal s,
    s.pci.dlUp = true →
    s.pci.failed.getLsbD lane.lane = false →
    lane.lost = true ∨ parN s 0x7804 0 < lane.errs →
    (narrowed (s.pci.failed ||| BitVec.ofNat 4 (2 ^ lane.lane.val)) reversal).1 = 0 →
    ∃ u, exec (.laneFailed t lane reversal) s = .next u ∧ u.pci.dlUp = false ∧
      u.pci.retraining = false ∧
      u.pci.hostDown = true ∧
      u.pci.staged = []) ∧
  (∀ t speed width s (it : WItem),
    s.pci.perst = false →
    s.pci.dlUp = false →
    s.pci.retraining = true →
    s.pci.staged = [(33, it)] →
    ∃ u, exec (.linkActive t speed width) s = .next u ∧ u.out = [.msix 1 (ofLe it.data)] ∧
      u.pci.staged = [] ∧
      u.pci.dlUp = true) ∧
  (∀ t speed width s, s.pci.perst = false → s.pci.dlUp = false → s.pci.retraining = true →
    ∃ u, exec (.linkActive t speed width) s = .next u ∧ u.pci.dlUp = true ∧
      u.pci.retraining = false ∧
      u.pci.width = s.pci.width ∧
      u.pci.staged = []) ∧
  (∀ t speed width s, s.pci.perst = false → s.pci.dlUp = false → s.pci.retraining = false →
    ∃ u, exec (.linkActive t speed width) s = .next u ∧ u.pci.dlUp = true ∧
      u.pci.width = min width.val (2 ^ parN s 0x7801 0) ∧
      (s.pci.trained = 0 → u.pci.trained = u.pci.width)) ∧
  (∀ t s, s.pci.retraining = true → s.pci.retrainAt + parN s 0x7803 0 * msU ≤ instant s t →
    ∃ u, exec (.retrainTimeout t) s = .next u ∧ u.pci.retraining = false ∧
      u.pci.dlUp = false ∧
      u.pci.staged = [] ∧
      u.pci.stageLost = satAdd s.pci.stageLost (stagedItems s.pci) ∧
      (∀ n : Fin 32, (ringOf s n).enable = true → (ringOf u n).stopped = true)) ∧
  (∀ t (v : BitVec 32) s, v.getLsbD 0 = true → s.pci.failed = 0 → s.pci.dlUp = true →
    ∃ u, exec (.pciRetrain t v) s = .next u ∧ u.pci.retraining = true ∧
      u.pci.width = s.pci.trained ∧
      u.pci.retrainAt = instant s t) ∧
  (∀ t s,
    ∃ u, exec (.flr t 0) s = .next u ∧ u.pci.rings = [] ∧
      u.pci.bme = false ∧
      (u.pci.staged = s.pci.staged.filter fun x => x.1 == 33) ∧
      u.pci.laneErr = [] ∧
      u.pci.neg = s.pci.neg ∧
      u.xi = s.xi) ∧
  (∀ t s,
    ∃ u, exec (.flr t 1) s = .next u ∧ (sessOf u 1).open_ = false ∧
      u.xi.mbx.msg = [] ∧
      u.pci.rings = s.pci.rings) ∧
  (∀ t s,
    ∃ u, exec (.d3hotEntry t 0) s = .next u ∧ bget false u.pci.d3 0 = true ∧
      (∀ n : Fin 32, (ringOf u n).enable = false)) ∧
  (∀ t s,
    ∃ u, exec (.d3hotEntry t 1) s = .next u ∧ bget false u.pci.d3 1 = true ∧
      u.pci.rings = s.pci.rings) ∧
  (∀ t (f : Fin 2) (n : Fin 512) s,
    (eicReady s).getLsbD n = true →
    s.eic.moved.getLsbD n = false →
    targetOf s (groupOf s n) = 6 →
    (grpOf s (groupOf s n)).func = f →
    hostAwake (modPci (fun p => { p with d3 := bset p.d3 f false }) s) f = true →
    bget 0 s.eic.asleepFrom n ≠ 0 →
    ∃ u, exec (.d3hotExit t f) s = .next u ∧ bget 0 u.eic.asleepFrom n = 0 ∧
      bget false u.pci.d3 f = false) ∧
  (∀ t (f : Fin 2) s,
    ∃ u, exec (.d3hotExit t f) s = .next u ∧ bget false u.pci.d3 f = false ∧
      u.pci.rings = s.pci.rings) ∧
  (∀ t s, s.pci.perst = false →
    ∃ u, exec (.perst t) s = .next u ∧ u.pci.perst = true ∧
      u.pci.rings = [] ∧
      u.pci.neg = 0 ∧
      (sessOf u 1).open_ = false ∧
      u.t64Ofs = s.t64Ofs) ∧
  (∀ t s, s.pci.perst = true → s.rst.phase = .none → LogRoom s 1 →
    ∃ u, exec (.perstRelease t) s = .next u ∧ u.pci.perst = false ∧
      u.log.resetCause = 0x0205 ∧
      Logged s u 0x0001 noSrc (2 + 256 * 5 + 65536 * s.car.bootEpoch.toNat)) ∧
  (∀ t s, s.pci.perst = true → s.rst.phase ≠ .none →
    ∃ u, exec (.perstRelease t) s = .next u ∧ u.pci.perst = false ∧
      u.log = s.log)

/-- A read answers the register's value at that moment and clears an RC register; TB_T64_LO and EE_FAULT_T_LO latch the
upper half of the same value; PCI_VER_HOST, a disabled ring's size, the group configuration and the
configuration-space bits take what is written, FIRST_VALID is cleared by 1, and offsets without a writable register
change nothing. Commands shown to complete (exec answers next, on conditions on the state and the operands alone):
READ_CLEAR, TB_T64_LO_READ, EE_FAULT_T_LO_READ, REGISTER_WRITE. (R13, R159, R192, R501, R513, R518, R519, R520,
R528) -/
def Obligations.RegisterAccess : Prop :=
  (∀ t (f : Fin 2) (ofs : BitVec 18) s, readRowed f (ofs.toNat / 4 * 4) = false →
    ∃ u, exec (.readClear t f (.bar ofs)) s = .next u ∧ u.busRead = BitVec.ofNat 32 (regRead (s.start t) f (ofs.toNat / 4 * 4)) ∧
      u.dev = s.dev) ∧
  (∀ t (f : Fin 2) (r : CfgReg) s,
    ∃ u, exec (.readClear t f (.cfg r)) s = .next u ∧ u.busRead = BitVec.ofNat 32 (readCfg s f r) ∧
      u.pci = s.pci) ∧
  (∀ t s,
    ∃ u, exec (.readClear t 0 (.bar 0x14)) s = .next u ∧ u.pci = { s.pci with maxHold := 0 } ∧
      u.busRead = s.pci.maxHold) ∧
  (∀ t s,
    ∃ u, exec (.tbT64LoRead t false) s = .next u ∧ u.busRead = BitVec.ofNat 32 (lo32 (t64Now (s.start t))) ∧
      u.tbs = { s.tbs with latchT64 := BitVec.ofNat 32 (hi32 (t64Now (s.start t))) }) ∧
  (∀ t s,
    ∃ u, exec (.tbT64LoRead t true) s = .next u ∧ u.busRead = BitVec.ofNat 32 (lo32 s.tbs.ppsLast) ∧
      u.tbs = { s.tbs with latchPps := BitVec.ofNat 32 (hi32 s.tbs.ppsLast) }) ∧
  (∀ t s,
    ∃ u, exec (.eeFaultTLoRead t) s = .next u ∧ u.busRead = BitVec.ofNat 32 (lo32 s.ee.faultT) ∧
      u.ee = { s.ee with faultHi := BitVec.ofNat 32 (hi32 s.ee.faultT) }) ∧
  (∀ t (f : Fin 2) (v : BitVec 32) s,
    ∃ u, exec (.registerWrite t ⟨f, .bar 4⟩ v) s = .next u ∧ u.pci = { s.pci with verHost := v }) ∧
  (∀ t (n : Fin 32) (v : BitVec 32) s, (ringOf s n).enable = false →
    ∃ u, exec (.registerWrite t ⟨0, .bar (BitVec.ofNat 18 (0x4010 + 64 * n.val))⟩ v) s = .next u ∧ ringOf u n = { ringOf s n with size := v.toNat % 2 ^ 17 } ∧
      (∀ m : Fin 32, m ≠ n → ringOf u m = ringOf s m)) ∧
  (∀ t (n : Fin 32) (v : BitVec 32) s, (ringOf s n).enable = true →
    ∃ u, exec (.registerWrite t ⟨0, .bar (BitVec.ofNat 18 (0x4010 + 64 * n.val))⟩ v) s = .next u ∧ u.pci = s.pci) ∧
  (∀ t (v : BitVec 32) s, v.getLsbD 2 = true →
    ∃ u, exec (.registerWrite t ⟨0, .cfg .command⟩ v) s = .next u ∧ u.pci = { s.pci with bme := true }) ∧
  (∀ t (f : Fin 2) (v : BitVec 32) s, v.getLsbD 15 = false →
    ∃ u, exec (.registerWrite t ⟨f, .cfg .devCtl⟩ v) s = .next u ∧ (aerOf u f).devCtl = devCtlSet (aerOf s f).devCtl v ∧
      (aerOf u f).ecrc = (aerOf s f).ecrc) ∧
  (∀ t (f : Fin 2) (v : BitVec 32) s, bget false s.pci.d3 f = false → v.toNat % 4 = 3 →
    ∃ u, exec (.registerWrite t ⟨f, .cfg .pmCtl⟩ v) s = .next u ∧ bget false u.pci.d3 f = true) ∧
  (∀ t (v : BitVec 32) s, v.getLsbD 31 = true →
    ∃ u, exec (.registerWrite t ⟨1, .bar 0x5004⟩ v) s = .next u ∧ u.log = { s.log with first := none }) ∧
  (∀ t (f : Fin 2) (v : BitVec 32) s,
    ∃ u, exec (.registerWrite t ⟨f, .cfg .msixControl⟩ v) s = .next u ∧ bget false u.pci.msixOn f = (v.getLsbD 31 && !v.getLsbD 30))

/-- Where no acknowledged packet is an IRQ, an ACK removes from the replay buffer every packet up to its SEQ; a NAK
removes them too and sends the rest again, as 20 µs without ACK do; a SLEEP unanswered for 100 µs puts the
transmitter to sleep; the first ACK at the final rate brings a negotiating lane UP. Commands shown to complete (exec
answers next, on conditions on the state and the operands alone): SLK_ACK, SLK_NAK, SLK_REPLAY_TIMEOUT. (R573, R591,
R594) -/
def Obligations.ScanLinkReplay : Prop :=
  (∀ t (lane : Fin 8) seq s,
    (laneOf s lane).st = 4 →
    (laneOf s lane).rxSleep = false →
    (laneOf s lane).queue = [] →
    (∀ p ∈ (laneOf s lane).replay, p.2.1 ≠ tyIrq) →
    ∃ u, exec (.slkAck t lane seq) s = .next u ∧ (laneOf u lane).replay = (ackSplit seq (laneOf s lane).replay).2 ∧
      u.out = []) ∧
  (∀ t (lane : Fin 8) seq s,
    (laneOf s lane).st = 3 →
    (laneOf s lane).capSame = true →
    (laneOf s lane).tryRate = none →
    (laneOf s lane).rxSleep = false →
    LogRoom s 1 →
    ∃ u, exec (.slkAck t lane seq) s = .next u ∧ (laneOf u lane).st = 4 ∧
      (laneOf u lane).ofsValid = false ∧
      Logged s u 0x0F11 lane (4 + 256 * (laneOf s lane).rate)) ∧
  (∀ t (lane : Fin 8) seq s,
    (laneOf s lane).st = 4 →
    (laneOf s lane).rxSleep = false →
    (laneOf s lane).txSleep = false →
    (laneOf s lane).sleepAck = none →
    (laneOf s lane).queue = [] →
    (∀ p ∈ (laneOf s lane).replay, p.2.1 ≠ tyIrq) →
    ∃ u, exec (.slkNak t lane seq) s = .next u ∧ (laneOf u lane).replay = (ackSplit seq (laneOf s lane).replay).2 ∧
      (u.out = (laneOf u lane).replay.map fun p => .slk lane (slkPacket p.2.1 p.1 p.2.2)) ∧
      (laneOf u lane).retx = satAdd (laneOf s lane).retx (laneOf u lane).replay.length) ∧
  (∀ t (lane : Fin 8) s (a : Nat),
    (laneOf s lane).sleepAck = none →
    (laneOf s lane).waitFrom = some a →
    (laneOf s lane).st = 4 →
    (laneOf s lane).txSleep = false →
    a + 20 * usU ≤ instant s t →
    ∃ u, exec (.slkReplayTimeout t lane) s = .next u ∧ (u.out = (laneOf s lane).replay.map fun p => .slk lane (slkPacket p.2.1 p.1 p.2.2)) ∧
      (laneOf u lane).replay = (laneOf s lane).replay) ∧
  (∀ t (lane : Fin 8) s (a : Nat), (laneOf s lane).sleepAck = some a → a + 100 * usU ≤ instant s t →
    ∃ u, exec (.slkReplayTimeout t lane) s = .next u ∧ (laneOf u lane).txSleep = true ∧
      (laneOf u lane).sleepAck = none)

/-- A comma takes DOWN to ALIGNING and, at the rate being tried, sets the rate and acknowledges; CAP goes out 100 µs
after the last in NEGOTIATING, 1 s after it in REFUSED and after a change of the point version on an UP lane, and
takes an aligning lane to NEGOTIATING; a received CAP sets CHOSEN, refuses a lane with no common version, and starts
the change of rate when both sides chose alike; a rate that does not align in 10 ms gives way to the next lower or
to DOWN; lost alignment takes the lane DOWN with its buffers discarded, and leaves a lane whose receiver sleeps as
it is. Commands shown to complete (exec answers next, on conditions on the state and the operands alone): CAP,
CAP_SEND, RATE_ALIGNMENT_TIMEOUT, COMMA_ALIGNED, ALIGNMENT_LOST. (R575, R576, R577, R578, R579, R595) -/
def Obligations.ScanLinkNegotiation : Prop :=
  (∀ t (lane : Fin 8) payload s,
    (laneOf s lane).st = 2 ∨ (laneOf s lane).st = 3 ∨ (laneOf s lane).st = 5 →
    negotiate verDev verDev (ofLe (payload.take 2)) (ofLe ((payload.drop 2).take 2)) ≠ 0 →
    (laneOf s lane).rxSleep = false →
    ∃ u, exec (.cap t lane payload) s = .next u ∧ (laneOf u lane).st = 3 ∧
      (laneOf u lane).chosen = 0x0100 ∧
      (laneOf u lane).partnerRates = ofLe ((payload.drop 6).take 1) ∧
      (ofLe ((payload.drop 4).take 2) = 0x0100 → (laneOf s lane).capSame = false → (laneOf u lane).capSame = true ∧
      (laneOf u lane).tryRate = topRate (slkRates s &&& ofLe ((payload.drop 6).take 1)) 3)) ∧
  (∀ t (lane : Fin 8) payload s,
    (laneOf s lane).st = 2 ∨ (laneOf s lane).st = 3 →
    negotiate verDev verDev (ofLe (payload.take 2)) (ofLe ((payload.drop 2).take 2)) = 0 →
    LogRoom s 1 →
    (laneOf s lane).rxSleep = false →
    ∃ u, exec (.cap t lane payload) s = .next u ∧ (laneOf u lane).st = 5 ∧
      (laneOf u lane).chosen = 0 ∧
      Logged s u 0x3F12 lane (majors verDev verDev (ofLe (payload.take 2)) (ofLe ((payload.drop 2).take 2)))) ∧
  (∀ t (lane : Fin 8) s,
    (laneOf s lane).st = 3 ∧ periodDue (laneOf s lane).capAt (100 * usU) (instant s t) = true ∨
      (laneOf s lane).st = 5 ∧ periodDue (laneOf s lane).capAt secU (instant s t) = true ∨
      (laneOf s lane).st = 4 ∧ (laneOf s lane).capVer ≠ s.pt.ver →
    (laneOf s lane).txSleep = false →
    ∃ u, exec (.capSend t lane) s = .next u ∧ u.out = [.slk lane (slkPacket tyCap 0 (capPayload s lane))] ∧
      (laneOf u lane).capAt = some (instant s t) ∧
      (laneOf u lane).capVer = s.pt.ver ∧
      (laneOf u lane).st = (laneOf s lane).st) ∧
  (∀ t (lane : Fin 8) s,
    (laneOf s lane).st = 2 →
    periodDue (laneOf s lane).capAt (100 * usU) (instant s t) = true →
    (laneOf s lane).txSleep = false →
    ∃ u, exec (.capSend t lane) s = .next u ∧ (laneOf u lane).st = 3 ∧
      u.out = [.slk lane (slkPacket tyCap 0 (capPayload s lane))]) ∧
  (∀ t (lane : Fin 8) s (r : Nat),
    (laneOf s lane).tryRate = some r →
    (laneOf s lane).tryAt + 10 * msU ≤ instant s t →
    ∃ u, exec (.rateAlignmentTimeout t lane) s = .next u ∧ (laneOf u lane).tryRate = topRate (slkRates s &&& (laneOf s lane).partnerRates) r ∧
      (topRate (slkRates s &&& (laneOf s lane).partnerRates) r = none → (laneOf u lane).st = 1)) ∧
  (∀ t (lane : Fin 8) s, (laneOf s lane).st = 1 → (laneOf s lane).rxSleep = false →
    ∃ u, exec (.commaAligned t lane) s = .next u ∧ (laneOf u lane).st = 2) ∧
  (∀ t (lane : Fin 8) s (r : Nat),
    (laneOf s lane).st = 3 →
    (laneOf s lane).tryRate = some r →
    (laneOf s lane).txSleep = false →
    (laneOf s lane).rxSleep = false →
    ∃ u, exec (.commaAligned t lane) s = .next u ∧ (laneOf u lane).rate = r ∧
      (laneOf u lane).tryRate = none ∧
      Emits u (.slk lane (slkPacket tyAck 0 [(laneOf s lane).rxSeq - 1]))) ∧
  (∀ t (lane : Fin 8) (errs : Nat) s,
    2 ≤ (laneOf s lane).st →
    (laneOf s lane).st ≤ 5 →
    (laneOf s lane).rxSleep = false →
    ∃ u, exec (.alignmentLost t lane errs) s = .next u ∧ (laneOf u lane).st = 1 ∧
      (laneOf u lane).rate = 0 ∧
      (laneOf u lane).codeErr = satAdd (laneOf s lane).codeErr errs ∧
      ((laneOf s lane).st = 4 → (laneOf u lane).replay = [] ∧ (laneOf u lane).queue = [] ∧ (sessOf u (2 + lane)).open_ = false) ∧
      ((laneOf s lane).st = 4 → LogRoom s 1 → Logged s u 0x1F10 lane (1 + 256 * (laneOf s lane).rate))) ∧
  (∀ t (lane : Fin 8) (errs : Nat) s, (laneOf s lane).rxSleep = true →
    ∃ u, exec (.alignmentLost t lane errs) s = .next u ∧ u.slk = s.slk)

/-- SLEEP puts the receiver to sleep, TRIG triggers the recorder at the aligned instant or is counted while the offset
is invalid, IRQ pends source 384 + n, XIEST segments collect a message and a message with a bad CRC is counted; for
every packet type one that is bad or out of order changes no lane and is answered with a NAK. Commands shown to
complete (exec answers next, on conditions on the state and the operands alone): SLEEP, TRIG, IRQ, XIEST_SEGMENT.
(R573, R590, R591, R592, R594) -/
def Obligations.ScanLinkReceive : Prop :=
  (∀ t (lane : Fin 8) rx s, TakesSlk s lane rx →
    ∃ u, exec (.sleep t lane rx) s = .next u ∧ (laneOf u lane).rxSleep = true ∧
      (laneOf u lane).rxSeq = (laneOf s lane).rxSeq + 1) ∧
  (∀ t (lane : Fin 8) rx payload s, TakesSlk s lane rx → (laneOf s lane).ofsValid = false →
    ∃ u, exec (.trig t lane rx payload) s = .next u ∧ (laneOf u lane).trigDrop = satInc (laneOf s lane).trigDrop ∧
      u.car = s.car) ∧
  (∀ t (lane : Fin 8) rx payload (n : Fin 16) s,
    TakesSlk s lane rx →
    (laneOf s lane).ofsValid = true →
    bit (parN s 0x681C 0) lane = true →
    bit (parN s 0x6816 n) 4 = true →
    strState (s.start t) n = 1 →
    ∃ u, exec (.trig t lane rx payload) s = .next u ∧ (strOf u n).st = 2 ∧
      (strOf u n).trigCause = 4 ∧
      (strOf u n).trigT = aligned s lane (BitVec.ofNat 64 (ofLe (payload.take 8)))) ∧
  (∀ t (lane : Fin 8) rx payload s, TakesSlk s lane rx → s.eic.active.getLsbD (384 + lane) = false →
    ∃ u, exec (.irq t lane rx payload) s = .next u ∧ (u.eic.pend.getLsbD (384 + lane) || u.eic.active.getLsbD (384 + lane)) = true ∧
      (laneOf u lane).rxSeq = (laneOf s lane).rxSeq + 1) ∧
  (∀ t (lane : Fin 8) rx data s, TakesSlk s lane rx →
    ∃ u, exec (.xiestSegment t lane rx true false data) s = .next u ∧ (laneOf u lane).xmsg = data ∧
      (laneOf u lane).xopen = true) ∧
  (∀ t (lane : Fin 8) rx data s,
    TakesSlk s lane rx →
    (laneOf s lane).xopen = true →
    delivers s (2 + lane) = true →
    (parseReq ((laneOf s lane).xmsg ++ data)).good = false →
    ∃ u, exec (.xiestSegment t lane rx false true data) s = .next u ∧ (laneOf u lane).xopen = false ∧
      u.xi = { s.xi with crcErr := satInc s.xi.crcErr }) ∧
  (∀ t (lane : Fin 8) rx payload (first last : Bool) s, BadSlk s lane rx → ∀ c ∈
    [Instr.sleep t lane rx, .time t lane rx payload, .sched t lane rx payload, .trig t lane rx payload,
     .irq t lane rx payload, .xiestSegment t lane rx first last payload, .ptRec t lane rx payload, .ptHdr t lane rx payload],
    ∃ u, exec c s = .next u ∧ u.slk = s.slk ∧ u.out = [.slk lane (slkPacket tyNak 0 [(laneOf s lane).rxSeq - 1])])

/-- A marker that arrives at a receiver awake is stamped and counts as an event of the frequency units of its source; at
each multiple of the marker period one is sent, stamped, numbered and followed by TIME; a TIME packet that follows a
marker and answers one of the device's own adds a value of offset and delay, valid from the eighth pair, and a
change of the partner's T64 load count discards the history; after 10 ms without a pair the offset is invalid; a
matching SCHED or 1 s of waiting settles the first frame start. Commands shown to complete (exec answers next, on
conditions on the state and the operands alone): TIME_MARKER, MARKER_SEND, TIME, OFFSET_INVALID, SCHED,
SYNC_TIMEOUT. (R148, R153, R580, R581, R583, R584, R585) -/
def Obligations.ScanLinkTime : Prop :=
  (∀ t (lane : Fin 8) s, (laneOf s lane).rxSleep = false →
    ∃ u, exec (.timeMarker t lane) s = .next u ∧ (laneOf u lane).markIn = some (t64Now (s.start t)) ∧
      (∀ n : Fin 8, parN s 0x2830 n = 6 + lane.val → (fmOf s n).lastEv = none → (fmOf u n).events = (fmOf s n).events ++ [t64Now (s.start t)])) ∧
  (∀ t (lane : Fin 8) s,
    (laneOf s lane).st = 4 →
    (laneOf s lane).txSleep = false →
    markerDue (s.start t) lane = true →
    ∃ u, exec (.markerSend t lane) s = .next u ∧ (laneOf u lane).markSent.getLast? = some ((laneOf s lane).markSno + 1, t64Now (s.start t)) ∧
      (laneOf u lane).markSno = (laneOf s lane).markSno + 1 ∧
      Emits u (.slkMarker lane) ∧
      ((laneOf s lane).queue = [] → (laneOf s lane).sleepAck = none → (laneOf s lane).replay.length < 32 →
      Emits u (.slk lane (slkPacket tyTime (laneOf s lane).txSeq (leBytes 8 (t64Now (s.start t)).toNat ++ leBytes 8 (laneOf s lane).markR.toNat ++
      leBytes 2 ((laneOf s lane).markSno + 1).toNat ++ leBytes 2 (laneOf s lane).markRno.toNat ++ leBytes 2 s.tbs.loads.toNat))))) ∧
  (∀ t (lane : Fin 8) rx payload s (r : BitVec 64) (p : BitVec 16 × BitVec 64),
    TakesSlk s lane rx →
    (laneOf s lane).partnerLoads = some (BitVec.ofNat 16 (ofLe ((payload.drop 20).take 2))) →
    (laneOf s lane).markIn = some r →
    (laneOf s lane).markSent.find? (fun p => p.1.toNat == ofLe ((payload.drop 18).take 2)) = some p →
    ∃ u, exec (.time t lane rx payload) s = .next u ∧ (laneOf u lane).thetas = last8 (laneOf s lane).thetas (thetaDelta r
      (BitVec.ofNat 64 (ofLe (payload.take 8))) (BitVec.ofNat 64 (ofLe ((payload.drop 8).take 8))) p.2).1 ∧
      (laneOf u lane).ofsValid = decide (7 ≤ (laneOf s lane).pairs) ∧
      (laneOf u lane).pairAt = instant s t ∧
      (laneOf u lane).markR = r ∧
      (laneOf u lane).markRno = BitVec.ofNat 16 (ofLe ((payload.drop 16).take 2))) ∧
  (∀ t (lane : Fin 8) rx payload s (a : BitVec 16),
    TakesSlk s lane rx →
    (laneOf s lane).partnerLoads = some a →
    a ≠ BitVec.ofNat 16 (ofLe ((payload.drop 20).take 2)) →
    ∃ u, exec (.time t lane rx payload) s = .next u ∧ (laneOf u lane).thetas.length ≤ 1 ∧
      (laneOf u lane).ofsValid = false ∧
      (laneOf u lane).partnerLoads = some (BitVec.ofNat 16 (ofLe ((payload.drop 20).take 2)))) ∧
  (∀ t (lane : Fin 8) s,
    (laneOf s lane).ofsValid = true →
    (laneOf s lane).pairAt + 10 * msU ≤ instant s t →
    LogRoom s 1 →
    ∃ u, exec (.offsetInvalid t lane) s = .next u ∧ (laneOf u lane).ofsValid = false ∧
      Logged s u 0x1F13 lane 0) ∧
  (∀ t (lane : Fin 8) rx payload s,
    TakesSlk s lane rx →
    payload.length = 20 →
    (laneOf s lane).ofsValid = true →
    ∃ u, exec (.sched t lane rx payload) s = .next u ∧ (laneOf u lane).sched = some ⟨payN payload 0 2, payN payload 2 2, payN payload 4 2, payN payload 6 1,
      BitVec.ofNat 64 (payN payload 8 8), BitVec.ofNat 32 (payN payload 16 4)⟩ ∧
      (s.slk.syncFrom = none → u.rm.startAt = s.rm.startAt)) ∧
  (∀ t s (e : Nat), s.slk.syncFrom = some e → e + secU ≤ instant s t →
    ∃ u, exec (.syncTimeout t) s = .next u ∧ u.slk = { s.slk with syncFrom := none, syncAt := none } ∧
      u.rm.startAt = 0)

/-- A forwarded record for a running ring with room is counted and written; a header is rewritten, closes its frame and
starts the next; a write of 1 to SLK_TX_SLEEP sends SLEEP and waits for its ACK, a write of 0 or a queued packet
with SLK_TX_AUTOWAKE wakes the transmitter, activity wakes the receiver. Commands shown to complete (exec answers
next, on conditions on the state and the operands alone): PT_REC, PT_HDR, SLK_TX_SLEEP, TRANSMITTER_WAKE,
RECEIVER_WAKE. (R272, R273, R588, R594, R595) -/
def Obligations.ScanLinkForwardAndSleep : Prop :=
  (∀ t (lane : Fin 8) rx data s,
    TakesSlk s lane rx →
    ringTakes s (fwdPtRing s lane) = true →
    (laneOf s lane).fwdQ = [] →
    (laneOf s lane).fwdHdrs = [] →
    (laneOf s lane).fwdTrunc = false →
    data.length = 16 →
    ∃ u, exec (.ptRec t lane rx data) s = .next u ∧ (laneOf u lane).fwdIndex = (laneOf s lane).fwdIndex + 1 ∧
      (laneOf u lane).fwdCount = (laneOf s lane).fwdCount + 1 ∧
      u.pci = (ringItem (fwdPtRing s lane) data (s.start t)).pci ∧
      (laneOf u lane).fwdQ = []) ∧
  (∀ t (lane : Fin 8) rx data s,
    TakesSlk s lane rx →
    ringTakes s (fwdHdrRing s lane) = true →
    (ringOf s (fwdPtRing s lane)).waiting = [] →
    (laneOf s lane).fwdQ = [] →
    (laneOf s lane).fwdHdrs = [] →
    ∃ u, exec (.ptHdr t lane rx data) s = .next u ∧ (laneOf u lane).fwdFirst = (laneOf s lane).fwdIndex ∧
      u.pci = (ringItem (fwdHdrRing s lane) (fwdRewrite (laneOf s lane) data) (s.start t)).pci ∧
      (laneOf u lane).fwdCount = 0 ∧
      (laneOf u lane).fwdDrop = 0 ∧
      (laneOf u lane).fwdHdrs = []) ∧
  (∀ t (ep : Fin 10) tag (lane : Fin 8) s,
    Accepts s t ep tag 0x7C18 lane [1] →
    (laneOf s lane).st = 4 →
    (laneOf s lane).txSleep = false →
    (laneOf s lane).sleepAck = none →
    ∃ u, exec (.slkTxSleep t ep tag lane true) s = .next u ∧ (laneOf u lane).sleepAck = some (instant s t) ∧
      ((laneOf s lane).queue = [] → (laneOf s lane).replay.length < 32 → Emits u (.slk lane (slkPacket tySleep (laneOf s lane).txSeq []))) ∧
      Emits u (.xiest ep (rspMsg (wreq tag 0x7C18 lane [1]) 0 []))) ∧
  (∀ t (ep : Fin 10) tag (lane : Fin 8) s, Accepts s t ep tag 0x7C18 lane [0] →
    ∃ u, exec (.slkTxSleep t ep tag lane false) s = .next u ∧ (laneOf u lane).txSleep = false ∧
      (laneOf u lane).sleepAck = none) ∧
  (∀ t (lane : Fin 8) s,
    (laneOf s lane).txSleep = true →
    parB s 0x7C1A lane = true →
    (laneOf s lane).queue ≠ [] →
    ∃ u, exec (.transmitterWake t lane) s = .next u ∧ (laneOf u lane).txSleep = false) ∧
  (∀ t (lane : Fin 8) s,
    ∃ u, exec (.receiverWake t lane) s = .next u ∧ (laneOf u lane).rxSleep = false ∧
      u.out = [])

/-- A queued item is written to the end of the segment in progress, at its own T64 or, without one, at that of its
block's first item; REC_AUTO without trigger triggers the stream; when POST ends the capture is sealed and the
stream re-arms in the lowest free segment, or is HELD with none; a keyframe is queued with a record for every
selected group or measurement, and a digital group whose value changed, sampled every 10 µs, with a change record; a
removed DRAM channel is out of service, logged, and takes a quarter of the capacity. Commands shown to complete
(exec answers next, on conditions on the state and the operands alone): ITEM_WRITE, AUTO_TRIGGER, POST_END,
KEYFRAME, DIGITAL_GROUP_SAMPLE, DRAM_CHANNEL_REMOVED. (R464, R468, R469, R470, R471, R473, R475, R477) -/
def Obligations.RecorderStreams : Prop :=
  (∀ t (n : Fin 16) s (i : Item) (q : List Item),
    (strOf s n).queue = i :: q →
    strState (s.start t) n = 1 ∨ strState (s.start t) n = 2 →
    parB s 0x6800 0 = true →
    ((strOf s n).st = 2 → (strOf s n).postBytes < postMax s n) →
    i.data.length ≤ blockBytes →
    (segOf s n (strOf s n).seg).used < blockBytes →
    (segOf s n (strOf s n).seg).data.length = blockBytes * (segOf s n (strOf s n).seg).index.length + (segOf s n (strOf s n).seg).used →
    ∃ u, exec (.itemWrite t n) s = .next u ∧ (strOf u n).queue = q ∧
      (strOf u n).gapNext = false ∧
      (segOf u n (strOf s n).seg).data.drop ((segOf u n (strOf s n).seg).data.length - i.data.length) = i.data ∧
      (segOf u n (strOf s n).seg).starts.getLast? = some ((if i.ownT || (segOf s n (strOf s n).seg).blkItems = 0 then i.t else (segOf s n (strOf s n).seg).blkT64), blockBytes * (segOf s n (strOf s n).seg).blocks + (segOf s n (strOf s n).seg).used)) ∧
  (∀ t (n : Fin 16) s,
    strState (s.start t) n = 1 →
    bit (parN s 0x6816 n) 5 = true →
    (strOf s n).armAt + parN s 0x681A 0 * msU ≤ instant s t →
    ∃ u, exec (.autoTrigger t n) s = .next u ∧ (strOf u n).st = 2 ∧
      (strOf u n).trigCause = 5 ∧
      (strOf u n).trigT = t64Now (s.start t)) ∧
  (∀ t (n : Fin 16) s (g : Nat),
    (strOf s n).st = 2 →
    postMax s n ≤ (strOf s n).postBytes →
    (upto (segCount s n)).find? (fun g => g != (strOf s n).seg && (segOf s n g).sealRec.isNone) = some g →
    ∃ u, exec (.postEnd t n) s = .next u ∧ (strOf u n).st = 1 ∧
      (strOf u n).seg = g ∧
      (segOf u n (strOf s n).seg).sealRec.isSome = true ∧
      u.car.captureNo = s.car.captureNo + 1) ∧
  (∀ t (n : Fin 16) s,
    (strOf s n).st = 2 →
    postMax s n ≤ (strOf s n).postBytes →
    (∀ g < segCount s n, g ≠ (strOf s n).seg → (segOf s n g).sealRec.isSome = true) →
    parB s 0x6817 n = false →
    ∃ u, exec (.postEnd t n) s = .next u ∧ (strOf u n).st = 4 ∧
      (segOf u n (strOf s n).seg).sealRec.isSome = true ∧
      u.car.captureNo = s.car.captureNo + 1) ∧
  (∀ t (n : Fin 16) s,
    (strOf s n).st = 1 ∨ (strOf s n).st = 2 →
    parB s 0x6800 0 = true →
    (strOf s n).keyAt + parN s 0x6819 0 * msU ≤ instant s t →
    ∃ u, exec (.keyframe t n) s = .next u ∧ (strOf u n).keyAt = instant s t ∧
      (strOf u n).st = (strOf s n).st ∧
      ((strOf s n).source = 7 → recQueued s n + 128 ≤ recQueueMax → ∀ g : Fin 8, bit (parN s 0x6811 n) g = true →
      { t := t64Now (s.start t), data := changeRecord (t64Now (s.start t)) g false true (groupValue (s.start t) g % 2 ^ 32) } ∈ (strOf u n).queue) ∧
      ((strOf s n).source = 8 → recQueued s n + 512 ≤ recQueueMax → ∀ m : Fin 32, bit (parN s 0x6811 n) m = true →
      { t := t64Now (s.start t), data := changeRecord (t64Now (s.start t)) (256 + m.val) (bget ({} : MeasS) s.adc.meas m).broken true (ofLe (leInt 4 (bget ({} : MeasS) s.adc.meas m).value)) } ∈ (strOf u n).queue)) ∧
  (∀ t (g : Fin 8) (n : Fin 16) s,
    periodDue s.car.groupsAt (10 * usU) (instant s t) = true →
    bget 0 s.car.groups g ≠ groupValue (s.start t) g →
    (∀ k : Fin 8, k ≠ g → bget 0 s.car.groups k = groupValue (s.start t) k) →
    recTakes s n 7 g = true →
    recQueued s n + 256 ≤ recQueueMax →
    ∃ u, exec (.digitalGroupSample t) s = .next u ∧ bget 0 u.car.groups g = groupValue (s.start t) g ∧
      (strOf u n).queue = (strOf s n).queue ++ [{ t := t64Now (s.start t), data := pad16 (changeRecord (t64Now (s.start t)) g false false (groupValue (s.start t) g % 2 ^ 32)) }] ∧
      u.car.groupsAt = some (instant s t)) ∧
  (∀ t (ch : Fin 4) (n : Fin 16) s,
    s.car.chOos.getLsbD ch = false →
    (strOf s n).st = 0 ∨ (strOf s n).st = 4 ∨ (strOf s n).st = 5 →
    ∃ u, exec (.dramChannelRemoved t ch) s = .next u ∧ (strOf u n).st = (strOf s n).st ∧
      (strOf u n).queue = (strOf s n).queue ∧
      u.free = s.free + 1) ∧
  (∀ t (ch : Fin 4) s, s.car.chOos.getLsbD ch = false → LogRoom s 1 →
    ∃ u, exec (.dramChannelRemoved t ch) s = .next u ∧ u.car.chOos = s.car.chOos ||| BitVec.ofNat 4 (2 ^ ch.val) ∧
      u.car.capMiB = s.car.capMiB - s.car.capMiB / max ((upto 4).filter fun k => !s.car.chOos.getLsbD k).length 1 ∧
      Logged s u 0x3C01 ch 0)

/-- REC_TRIG triggers every recording stream that takes source bit 0; REC_READ of a capture starts its readout and of
anything else is rejected with REC_READ_STATUS 3; the readout puts the seal record and then each block with its
index record into the ring, and is done after the last; REC_RELEASE frees a segment, REC_REARM takes STOPPED streams
out, REC_MISSED_CLR clears the missed count. Commands shown to complete (exec answers next, on conditions on the
state and the operands alone): REC_TRIG, REC_READ, READOUT_BLOCK, REC_RELEASE, REC_REARM, REC_MISSED_CLR. (R470,
R474, R476, R483) -/
def Obligations.RecorderHost : Prop :=
  (∀ t (ep : Fin 10) tag (n : Fin 16) s,
    Accepts s t ep tag 0x681F 0 [1] →
    bit (parN s 0x6816 n) 0 = true →
    strState (s.start t) n = 1 →
    ∃ u, exec (.recTrig t ep tag true) s = .next u ∧ (strOf u n).st = 2 ∧
      (strOf u n).trigCause = 0 ∧
      (strOf u n).trigT = t64Now (s.start t)) ∧
  (∀ t (ep : Fin 10) tag (v : BitVec 16) s,
    Accepts s t ep tag 0x6822 0 (leBytes 2 v.toNat) →
    v.toNat / 256 < 32 →
    (ringKinds s (v.toNat / 256)).all (· == 5) = true →
    (segOf s (bits v.toNat 7 4) (bits v.toNat 2 0)).sealRec.isSome = true →
    ∃ u, exec (.recRead t ep tag v) s = .next u ∧ u.car.read = some (v.toNat / 256, bits v.toNat 7 4, bits v.toNat 2 0, 0) ∧
      u.car.readSt = 1 ∧
      u.car.readFirst = true) ∧
  (∀ t (ep : Fin 10) tag (v : BitVec 16) s,
    Accepts s t ep tag 0x6822 0 (leBytes 2 v.toNat) →
    (segOf s (bits v.toNat 7 4) (bits v.toNat 2 0)).sealRec = none →
    ∃ u, exec (.recRead t ep tag v) s = .next u ∧ u.car.readSt = 3 ∧
      u.car.read = s.car.read ∧
      Emits u (.xiest ep (rspMsg (wreq tag 0x6822 0 (leBytes 2 v.toNat)) 4 []))) ∧
  (∀ t s (ring n g k : Nat) (r : List (BitVec 32)),
    s.car.read = some (ring, n, g, k) →
    ringTakes s ring = true →
    s.car.readFirst = false →
    (segOf s n g).index[k]? = some r →
    ∃ u, exec (.readoutBlock t) s = .next u ∧ u.car.read = some (ring, n, g, k + 1) ∧
      (ringItem ring (wordsBytes r ++ (if recordLost r then [] else ((segOf s n g).data.drop (k * blockBytes)).take blockBytes) ++ List.replicate (blockBytes - (if recordLost r then [] else ((segOf s n g).data.drop (k * blockBytes)).take blockBytes).length) 0) (s.start t)).pci = u.pci) ∧
  (∀ t s (ring n g k : Nat),
    s.car.read = some (ring, n, g, k) →
    ringTakes s ring = true →
    s.car.readFirst = true →
    ∃ u, exec (.readoutBlock t) s = .next u ∧ u.car.read = some (ring, n, g, k) ∧
      u.car.readFirst = false ∧
      u.pci = (ringItem ring (wordsBytes ((segOf s n g).sealRec.getD [])) (s.start t)).pci) ∧
  (∀ t s (ring n g k : Nat),
    s.car.read = some (ring, n, g, k) →
    ringTakes s ring = true →
    s.car.readFirst = false →
    (segOf s n g).index[k]? = none →
    ∃ u, exec (.readoutBlock t) s = .next u ∧ u.car.read = none ∧
      u.car.readSt = 2 ∧
      (segOf u n g).read = true) ∧
  (∀ t (ep : Fin 10) tag (v : BitVec 8) s,
    Accepts s t ep tag 0x6821 0 (leBytes 1 v.toNat) →
    (strOf s (bits v.toNat 7 4)).st ≠ 4 →
    ∃ u, exec (.recRelease t ep tag v) s = .next u ∧ (segOf u (bits v.toNat 7 4) (bits v.toNat 2 0)).sealRec = none ∧
      (strOf u (bits v.toNat 7 4)).st = (strOf s (bits v.toNat 7 4)).st) ∧
  (∀ t (ep : Fin 10) tag (v : BitVec 16) (n : Fin 16) s,
    Accepts s t ep tag 0x6820 0 (leBytes 2 v.toNat) →
    v.getLsbD n = true →
    (strOf s n).st = 5 →
    (segOf s n 0).sealRec = none →
    ∃ u, exec (.recRearm t ep tag v) s = .next u ∧ (strOf u n).st = 1 ∧
      (strOf u n).seg = 0) ∧
  (∀ t (ep : Fin 10) tag (v : BitVec 16) (n : Fin 16) s,
    Accepts s t ep tag 0x6824 0 (leBytes 2 v.toNat) →
    v.getLsbD n = true →
    ∃ u, exec (.recMissedClr t ep tag v) s = .next u ∧ (strOf u n).missed = 0 ∧
      (strOf u n).missedT = 0)

/-- An accepted PPS edge is stamped, one within 0.8 s of the last is a glitch; an armed load at an accepted edge at
least 1 ms later moves T64 by the step and is logged; 1.2 s without an edge is PPS lost; a gate of PPS_GATE seconds
is fitted and publishes the frequency error, 600 s without one fall back; the pulse output marks whole seconds; a
wrap of T64 changes nothing else. A frequency gate ends after FM_GATE with the encoder edges that are stable by
then, publishes its fit and keeps the last period when rejected; an encoder transition waits for ENC_FILTER and is
then accepted with its own stamp: of role 1 it steps the mark count (wrapping: log entry 87), of role 3 it sets it,
and it waits for the LCE with the count; loss of lock inhibits firing and takes RUN to SAFE, and lock held for 1 s
removes the cause and the inhibit. Commands shown to complete (exec answers next, on conditions on the state and the
operands alone): PPS_IN_EDGE, PPS_ARM, PPS_LOST, PPS_GATE_END, FREQ_FALLBACK, PPS_OUT_PULSE, T64_WRAP, FM_GATE_END,
ENC_EDGE, TB_LOSS_OF_LOCK, TIMEBASE_LOCK_HELD. (R12, R135, R149, R150, R151, R154, R134, R147, R148, R155, R156,
R447) -/
def Obligations.TimeOfDayAndTimebase : Prop :=
  (∀ t rise s,
    parB s 0x2820 0 = true →
    rise = (parN s 0x2821 0 == 0) →
    (∀ a ∈ s.tbs.ppsLastAt, a + 800 * msU ≤ instant s t) →
    s.tbs.armed = false →
    ∃ u, exec (.ppsInEdge t rise) s = .next u ∧ u.tbs.ppsLastAt = some (instant s t) ∧
      u.tbs.ppsOk = true ∧
      u.tbs.ppsLast = t64Now (s.start t) - BitVec.ofInt 64 (parI s 0x2822 0) ∧
      u.tbs.ppsGate = s.tbs.ppsGate ++ [u.tbs.ppsLast] ∧
      u.tbs.glitch = s.tbs.glitch ∧
      u.t64Ofs = s.t64Ofs) ∧
  (∀ t rise s (a : Nat),
    parB s 0x2820 0 = true →
    rise = (parN s 0x2821 0 == 0) →
    s.tbs.ppsLastAt = some a →
    instant s t < a + 800 * msU →
    ∃ u, exec (.ppsInEdge t rise) s = .next u ∧ u.tbs.glitch = satInc s.tbs.glitch ∧
      u.tbs.ppsLastAt = s.tbs.ppsLastAt ∧
      u.t64Ofs = s.t64Ofs) ∧
  (∀ t rise s,
    parB s 0x2820 0 = true →
    rise = (parN s 0x2821 0 == 0) →
    s.tbs.ppsLastAt = none →
    s.tbs.armed = true →
    s.tbs.armedAt + msU ≤ instant s t →
    LogRoom s 1 →
    ∃ u, exec (.ppsInEdge t rise) s = .next u ∧ u.tbs.ppsLast = BitVec.ofInt 64 (parI s 0x2824 0) ∧
      u.t64Ofs = s.t64Ofs + (u.tbs.ppsLast - (t64Now (s.start t) - BitVec.ofInt 64 (parI s 0x2822 0))) ∧
      u.tbs.armed = false ∧
      u.tbs.loads = s.tbs.loads + 1 ∧
      u.tb = instant s t) ∧
  (∀ t (ep : Fin 10) tag s, Accepts s t ep tag 0x2825 0 [1] →
    ∃ u, exec (.ppsArm t ep tag true) s = .next u ∧ u.tbs.armed = true ∧
      u.tbs.armedAt = instant s t) ∧
  (∀ t s (a : Nat),
    s.tbs.ppsOk = true →
    s.tbs.ppsLastAt = some a →
    a + 1200 * msU ≤ instant s t →
    LogRoom s 1 →
    ∃ u, exec (.ppsLost t) s = .next u ∧ u.tbs.ppsOk = false ∧
      u.tbs.ppsGate = [] ∧
      Logged s u 0x1304 noSrc 0) ∧
  (∀ t s (a l : Nat) (f : Fit),
    s.tbs.ppsGateFrom = some a →
    a + parN s 0x2823 0 * secU ≤ instant s t →
    s.tbs.ppsLastAt = some l →
    l < a + parN s 0x2823 0 * secU →
    f = fmFit s.tbs.ppsGate 1000000000000000 →
    ∃ u, exec (.ppsGateEnd t) s = .next u ∧ u.tbs.ppsGate = [] ∧
      u.tbs.ppsGateFrom = some (a + parN s 0x2823 0 * secU) ∧
      ((s.tbs.ppsOk && decide ((parN s 0x2823 0 : Int) - 1 ≤ f.n) && f.within 1000000) = true → u.tbs.freqOk = true ∧
      u.tbs.freqAt = instant s t ∧
      u.tbs.freqErr = clampI (-2147483648) 2147483647 (rdiv ((f.period : Int) - 1000000000000000) 10000)) ∧
      ((s.tbs.ppsOk && decide ((parN s 0x2823 0 : Int) - 1 ≤ f.n) && f.within 1000000) = false →
      u.tbs.freqOk = s.tbs.freqOk ∧ u.tbs.freqErr = s.tbs.freqErr)) ∧
  (∀ t s, s.tbs.freqAt + 600 * secU ≤ instant s t →
    ∃ u, exec (.freqFallback t) s = .next u ∧ u.tbs = { s.tbs with freqOk := false }) ∧
  (∀ t s, parB s 0x282A 0 = true → (t64Now (s.start t)).toNat % secU = 0 → s.tbs.ppsOutAt = none →
    ∃ u, exec (.ppsOutPulse t) s = .next u ∧ u.out = [.ball "PPS_OUT" (parN s 0x282B 0)] ∧
      u.tbs.ppsOutAt = some (instant s t)) ∧
  (∀ t s,
    ∃ u, exec (.t64Wrap t) s = .next u ∧ u = settle (s.start t)) ∧
  (∀ t (n : Fin 8) s (f : Fit),
    parN s 0x2830 n ≠ 0 →
    fmGateEnd s n ≤ instant s t →
    f = fmFit ((fmOf (encSettle (s.start t)) n).events.filter fun e => decide ((e - t64At (s.start t) (fmGateEnd s n)).toInt < 0)) ((fmOf s n).est.getD (parN s 0x2832 n)) →
    ∃ u, exec (.fmGateEnd t n) s = .next u ∧ ((fmOf u n).events = (fmOf (encSettle (s.start t)) n).events.filter fun e => !decide ((e - t64At (s.start t) (fmGateEnd s n)).toInt < 0)) ∧
      (fmOf u n).n = BitVec.ofNat 16 (min 0xFFFF f.n.toNat) ∧
      (fmOf u n).rms = BitVec.ofNat 32 (min 0xFFFFFFFF f.rms) ∧
      (fmOf u n).valid = (decide ((parN s 0x2833 n : Int) ≤ f.n) && f.within (parN s 0x2834 n)) ∧
      (fmOf u n).period = (if (fmOf u n).valid then BitVec.ofNat 64 f.period else (fmOf s n).period) ∧
      (fmOf u n).gateFrom = fmGateEnd s n ∧
      (fmOf u n).est = some (if (fmOf u n).valid then f.period else 0)) ∧
  (∀ t (n : Fin 4) rise s, s.tbs.encPend = [] → 0 < parN s 0x2841 0 →
    ∃ u, exec (.encEdge t n rise) s = .next u ∧ u.tbs.encPend = [(n.val, instant s t, rise)] ∧
      u.tbs.encLevel = s.tbs.encLevel ∧
      u.tbs.encCount = s.tbs.encCount ∧
      u.tbs.encQueue = s.tbs.encQueue) ∧
  (∀ t (n m : Fin 4) rise s (a : Nat) (r : Bool),
    s.tbs.encPend = [(m.val, a, r)] →
    0 < parN s 0x2841 0 →
    a + encStable s ≤ instant s t →
    bget false s.tbs.encLevel m ≠ r →
    encRole s m = 1 →
    ∃ u, exec (.encEdge t n rise) s = .next u ∧ u.tbs.encCount = wrap16 (s.tbs.encCount + if encUp { s with tbs := { s.tbs with encLevel := bset s.tbs.encLevel m r } } r then 1 else -1) ∧
      u.tbs.encQueue = s.tbs.encQueue ++ [(a, m.val, r, u.tbs.encCount)] ∧
      u.tbs.encPend = [(n.val, instant s t, rise)]) ∧
  (∀ t (n : Fin 4) rise s,
    s.tbs.encPend = [] →
    parN s 0x2841 0 = 0 →
    bget false s.tbs.encLevel n ≠ rise →
    encRole s n ≠ 1 →
    encRole s n ≠ 3 →
    ∃ u, exec (.encEdge t n rise) s = .next u ∧ u.tbs.encCount = s.tbs.encCount ∧
      bget false u.tbs.encLevel n = rise ∧
      u.tbs.encQueue = s.tbs.encQueue ++ [(instant s t, n.val, rise, s.tbs.encCount)]) ∧
  (∀ t (n : Fin 4) rise s,
    s.tbs.encPend = [] →
    parN s 0x2841 0 = 0 →
    bget false s.tbs.encLevel n ≠ rise →
    encRole s n = 1 →
    ∃ u, exec (.encEdge t n rise) s = .next u ∧ u.tbs.encCount = wrap16 (s.tbs.encCount + if encUp { s with tbs := { s.tbs with encLevel := bset s.tbs.encLevel n rise } } rise then 1 else -1) ∧
      u.tbs.encQueue = s.tbs.encQueue ++ [(instant s t, n.val, rise, u.tbs.encCount)] ∧
      bget false u.tbs.encLevel n = rise) ∧
  (∀ t (n : Fin 4) rise s,
    s.tbs.encPend = [] →
    parN s 0x2841 0 = 0 →
    bget false s.tbs.encLevel n ≠ rise →
    encRole s n = 3 →
    ∃ u, exec (.encEdge t n rise) s = .next u ∧ u.tbs.encCount = parI s 0x2843 0 ∧
      u.tbs.encIndexSeen = true ∧
      u.tbs.encQueue = s.tbs.encQueue ++ [(instant s t, n.val, rise, u.tbs.encCount)]) ∧
  (∀ t ref s, s.dev = .run →
    ∃ u, exec (.tbLossOfLock t ref) s = .next u ∧ u.tbs.lock = false ∧
      u.tbs.refOk = (s.tbs.refOk && !ref) ∧
      .tbLoss ∈ u.rm.inhibits ∧
      .tbLoss ∈ u.saf.causes ∧
      u.dev = .safe) ∧
  (∀ t s, s.tbs.lock = true → s.tbs.lockAt + secU ≤ instant s t →
    ∃ u, exec (.timebaseLockHeld t) s = .next u ∧ .tbLoss ∉ u.rm.inhibits ∧
      .tbLoss ∉ u.saf.causes ∧
      u.dev = s.dev)

/-- The first monitor rise in the interval of a fired shot opens the window of its bank and clears the emitter's misses
(one that comes before its shot's phase boundary is held until that boundary: log entry 80); none within MON_TIMEOUT
is one miss and the window stays shut; a crossing of an enabled channel of that emitter inside the window is kept
with its time from the start stamp; two edges less than 0.5 ns apart remove each other, a crossing left out for room
taking the place; at its end the window closes, the guard interval begins and the shadow buffer takes the shot; 64
blind shots fail a channel, 64 clear ones restore it. Commands shown to complete (exec answers next, on conditions
on the state and the operands alone): START_STAMP, MONITOR_MISS, THRESHOLD_CROSSING, WINDOW_CLOSE,
RX_CHANNEL_FAILED, RX_CHANNEL_RESTORED. (R99, R100, R101, R132, R137, R138, R143, R184) -/
def Obligations.StampCapture : Prop :=
  (∀ t (b : Fin 4) (c : Fin 32) s (sh : Shot),
    (bankOf s b).fired = some sh →
    isEarly b (s.start t) = false →
    sh.edge ≤ instant s t + 20 * nsU →
    instant s t ≤ sh.edge + monTimeout s →
    tooClose (bankOf s b).lastM 1 (stampFx s (769 + 3 * b) (instant s t) c) = none →
    ∃ u, exec (.startStamp t b c) s = .next u ∧ (bankOf u b).winOpen = true ∧
      (bankOf u b).fired = none ∧
      (bankOf u b).monMissed = false ∧
      (bankOf u b).tStart.isSome = true ∧
      (bankOf u b).tStart.map (t64At s ·) = some (bankOf u b).startT64 ∧
      bget 0 u.fld.monMiss sh.em = 0) ∧
  (∀ t (b : Fin 4) (c : Fin 32) s, isEarly b (s.start t) = true →
    ∃ u, exec (.startStamp t b c) s = .next u ∧ (bankOf u b).early = (bankOf s b).early ++ [{ at_ := instant s t, start := true, c := c }] ∧
      (bankOf u b).winOpen = (bankOf s b).winOpen ∧
      (bankOf u b).fired = (bankOf s b).fired) ∧
  (∀ t (b : Fin 4) s (sh : Shot), (bankOf s b).fired = some sh → sh.edge + monTimeout s ≤ instant s t →
    ∃ u, exec (.monitorMiss t b) s = .next u ∧ (bankOf u b).monMissed = true ∧
      (bankOf u b).fired = none ∧
      (bankOf u b).tStart = none ∧
      bget 0 u.fld.monMiss sh.em = bget 0 s.fld.monMiss sh.em + 1) ∧
  (∀ t (inp : Fin 260) (thr : Fin 3) rise (c : Fin 32) s (sh : Shot) (d : Nat),
    inp.val < 256 →
    crossingEarly inp (s.start t) = false →
    (bankOf s (inp / 64)).shot = some sh →
    (bankOf s (inp / 64)).tStart.isSome = true →
    sh.em = inp / 8 →
    (bankOf s (inp / 64)).monMissed = false →
    (bankOf s (inp / 64)).winOpen = true →
    (bankOf s (inp / 64)).guardOpen = false →
    rxEnabled s inp = true →
    (chanOf s inp).lastE = [] →
    (d : Int) = rdiv (stampFx s (3 * inp + thr) (instant s t) c - (bankOf s (inp / 64)).tStartF) 4096 →
    d < shotWin sh →
    (chanOf s inp).stamps = [] →
    ∃ u, exec (.thresholdCrossing t inp thr rise c) s = .next u ∧ (chanOf u inp).stamps.map (fun e => (e.chan, e.thr, e.rise, e.time)) = [(inp.val, thr.val, rise, d)]) ∧
  (∀ t (inp : Fin 260) (thr : Fin 3) rise (c : Fin 32) s (e : LastE),
    inp.val < 256 →
    crossingEarly inp (s.start t) = false →
    (bankOf s (inp / 64)).shot = none →
    (bankOf s (inp / 64)).guardOpen = false →
    tooClose (chanOf s inp).lastE thr (stampFx s (3 * inp + thr) (instant s t) c) = some e →
    ∃ u, exec (.thresholdCrossing t inp thr rise c) s = .next u ∧ (chanOf u inp).stamps = (if (e.kept || e.drop) && !e.guard then (stampOut (stampOf inp thr e) (chanOf s inp).stamps (chanOf s inp).spill).1 else (chanOf s inp).stamps) ∧
      (chanOf u inp).guards = (if e.guard then (stampOut (stampOf inp thr e) (chanOf s inp).guards (chanOf s inp).spillG).1 else (chanOf s inp).guards) ∧
      (chanOf u inp).lastE = bdel (chanOf s inp).lastE thr) ∧
  (∀ t (inp : Fin 260) thr rise (c : Fin 32) s,
    inp.val < 256 →
    crossingEarly inp (s.start t) = false →
    (bankOf s (inp / 64)).shot = none →
    (chanOf s inp).lastE = [] →
    ∃ u, exec (.thresholdCrossing t inp thr rise c) s = .next u ∧ (chanOf u inp).stamps = (chanOf s inp).stamps ∧
      (chanOf u inp).guards = (chanOf s inp).guards ∧
      u.fld = s.fld) ∧
  (∀ t (b : Fin 4) s (sh : Shot) (a : Nat),
    (bankOf s b).shot = some sh →
    (bankOf s b).tStart = some a →
    (bankOf s b).winOpen = true →
    a + shotWin sh ≤ instant s t →
    ∃ u, exec (.windowClose t b) s = .next u ∧ (bankOf u b).winOpen = false ∧
      (bankOf u b).guardOpen = true ∧
      (bankOf u b).guardFrom = a + shotWin sh ∧
      (bget [] u.ee.shadow sh.em).getLast?.map (·.tStart) = some a) ∧
  (∀ t (chan : Fin 256) s, 64 ≤ (chanOf s chan).blindRun → (chanOf s chan).failed = false → LogRoom s 1 →
    ∃ u, exec (.rxChannelFailed t chan) s = .next u ∧ (chanOf u chan).failed = true ∧
      Logged s u 0x2301 chan 0) ∧
  (∀ t (chan : Fin 256) s, 64 ≤ (chanOf s chan).clearRun → (chanOf s chan).failed = true → LogRoom s 1 →
    ∃ u, exec (.rxChannelRestored t chan) s = .next u ∧ (chanOf u chan).failed = false ∧
      Logged s u 0x0302 chan 0)

/-- An ECHO_RESULT of a working channel in echo mode completes the unit that is due: its records reach the point
formatter and its echoes the field evaluator; a lost or failed channel gives one record without measurement.
COARSE_PEAKS completes the group that is ready: its chosen peaks wait for the zoom pass or, without zoom, its
records are delivered. ZOOM_PASS refines the chosen peaks in an idle phase and holds their records for the engine's
test; HIST_SNAP arms the snapshot; a train gate that fits is tracked, one that does not frees a tentative slot and,
the second time running, a tracked one. Commands shown to complete (exec answers next, on conditions on the state
and the operands alone): ECHO_RESULT, COARSE_PEAKS, ZOOM_PASS, HIST_SNAP, TRAIN_GATE_END. (R165, R172, R175, R177,
R179, R189, R201, R254) -/
def Obligations.EchoResults : Prop :=
  (∀ t (chan : Fin 256) s (x : ShUnit),
    unitDue s chan = some x →
    (chanOf s chan).lost = false →
    (chanOf s chan).failed = false →
    setLive s (chan / 16) = true →
    s.ee.hist = false →
    tooLate (s.start t) x = false →
    ∃ u, exec (.echoResult t chan) s = .next u ∧ (chanOf u chan).doneAt = x.tStart + 1 ∧
      ((recordsOf (unitState (s.start t) x) (headOf x chan false) (cutFlyback x (echoesOf (s.start t) x chan))).1 ≠ [] →
      ∃ r ∈ u.pt.results, r.recs = (recordsOf (unitState (s.start t) x) (headOf x chan false) (cutFlyback x (echoesOf (s.start t) x chan))).1 ∧ r.closeAt = closeOf x + 1) ∧
      (s.saf.setNo ≠ 0 → ∃ q ∈ u.fe.queue, q.chan = chan ∧ q.az = x.az ∧ q.valid = true) ∧
      u.ee = { s.ee with shadow := u.ee.shadow } ∧
      u.fld = s.fld) ∧
  (∀ t (chan : Fin 256) s (x : ShUnit),
    (unitsOf s (chan / 8)).find? (fun y => rxEnabled s chan && decide ((chanOf s chan).doneAt < y.tStart + 1)) = some x →
    (chanOf s chan).lost = true ∨ (chanOf s chan).failed = true →
    ∃ u, exec (.echoResult t chan) s = .next u ∧ (chanOf u chan).doneAt = x.tStart + 1 ∧
      (∃ r ∈ u.pt.results, r.recs = [noRecord s chan 10 (tofsOf (x.shot.getD {}) (x.shot.getD {}).edge) (x.shot.getD {}).theta])) ∧
  (∀ t (chan : Fin 256) s (x : ShUnit),
    unitReady s chan = some x →
    (chanOf s chan).lost = false →
    (chanOf s chan).failed = false →
    setLive s (chan / 16) = true →
    s.ee.hist = true →
    tooLate (s.start t) x = false →
    ∃ u, exec (.coarsePeaks t chan) s = .next u ∧ (chanOf u chan).doneAt = x.tStart + 1 ∧
      (parB (unitState s x) 0x2C07 0 = true → chosenPeaks (unitState (s.start t) x) (cutFlyback x (groupEchoes (s.start t) x chan)) ≠ [] →
      (chanOf u chan).histPeaks = chosenPeaks (unitState (s.start t) x) (cutFlyback x (groupEchoes (s.start t) x chan)) ∧ (chanOf u chan).histDue = some x.tStart) ∧
      (parB (unitState s x) 0x2C07 0 = false → (recordsOf (unitState (s.start t) x) (groupHead (s.start t) x chan false) (cutFlyback x (groupEchoes (s.start t) x chan))).1 ≠ [] →
      ∃ r ∈ u.pt.results, r.recs = (recordsOf (unitState (s.start t) x) (groupHead (s.start t) x chan false) (cutFlyback x (groupEchoes (s.start t) x chan))).1) ∧
      (s.saf.setNo ≠ 0 → ∃ q ∈ u.fe.queue, q.chan = chan ∧ q.valid = true) ∧
      u.fld = s.fld) ∧
  (∀ t (chan : Fin 256) s (x : ShUnit),
    (unitsOf s (chan / 8)).find? (fun y => (chanOf s chan).histDue == some y.tStart) = some x →
    setLive s (chan / 16) = true →
    engineIdle s (engineOf s (chan / 16)) = true →
    testDone s (engineOf s (chan / 16)) = false →
    ∃ u, exec (.zoomPass t chan) s = .next u ∧ (chanOf u chan).histPeaks = [] ∧
      (chanOf u chan).histDue = none ∧
      (zoomRecords (s.start t) x chan (groupHead (s.start t) x chan false) (chanOf s chan).histPeaks ≠ [] →
      ∃ p ∈ u.pt.zoomed, p.1 = engineOf s (chan / 16) ∧ p.2.recs = zoomRecords (s.start t) x chan (groupHead (s.start t) x chan false) (chanOf s chan).histPeaks) ∧
      u.pt.results = s.pt.results ∧
      u.fld = s.fld) ∧
  (∀ t (ep : Fin 10) tag s, Accepts s t ep tag 0x2C19 0 [1] →
    ∃ u, exec (.histSnap t ep tag true) s = .next u ∧ u.ee = { s.ee with snapArmed := some (parN s 0x2C18 0) } ∧
      Emits u (.xiest ep (rspMsg (wreq tag 0x2C19 0 [1]) 0 []))) ∧
  (∀ t (b : Fin 4) (k : Fin 8) s (x : Train) (f : Fit),
    (trainOf s b k).st ≠ 0 →
    msU ≤ (t64Now (s.start t) - (trainOf s b k).gateFrom).toInt →
    gateDue (s.start t) b ((trainOf s b k).gateFrom + BitVec.ofNat 64 msU) = true →
    x = trainOf (((pendOf (s.start t) b).filter fun p => decide ((t64At (s.start t) p.1 - ((trainOf s b k).gateFrom + BitVec.ofNat 64 msU)).toInt < 0)).foldl (fun v p => flushPulses b p.1 v) (s.start t)) b k →
    f = fmFit ((sortBy (fun (p : BitVec 64 × List Nat) => (p.1 - x.gateFrom).toInt)
      (x.capt.filter fun p => decide (0 ≤ (p.1 - x.gateFrom).toInt) && decide ((p.1 - x.gateFrom).toInt < msU))).map (·.1)) x.tp →
    ∃ u, exec (.trainGateEnd t b k) s = .next u ∧ ((decide (12 ≤ f.n) && f.within 1500) = true → (trainOf u b k).st = 2 ∧ (trainOf u b k).tp = f.period ∧
      (trainOf u b k).gateFrom = x.gateFrom + BitVec.ofNat 64 msU ∧ (trainOf u b k).rejected = false) ∧
      ((decide (12 ≤ f.n) && f.within 1500) = false → x.st = 1 → (trainOf u b k).st = 0) ∧
      ((decide (12 ≤ f.n) && f.within 1500) = false → x.st ≠ 1 → x.rejected = true →
      (trainOf u b k).st = 0 ∧ u.rj.trainDrop = satInc (((pendOf (s.start t) b).filter fun p => decide ((t64At (s.start t) p.1 - ((trainOf s b k).gateFrom + BitVec.ofNat 64 msU)).toInt < 0)).foldl (fun v p => flushPulses b p.1 v) (s.start t)).rj.trainDrop) ∧
      ((decide (12 ≤ f.n) && f.within 1500) = false → x.st ≠ 1 → x.rejected = false →
      (trainOf u b k).st = x.st ∧ (trainOf u b k).rejected = true ∧ (trainOf u b k).gateFrom = x.gateFrom + BitVec.ofNat 64 msU))

/-- A wrong known-answer signature, a missed completion deadline and an uncorrectable ECC error retire the engine, and
the lowest healthy spare EE16 takes its set; with no spare every channel of the set is lost and logged; a spare that
has loaded becomes ready and replays each kept shot once; corrected errors are only counted; zoomed results of an
engine are released when its test passes and discarded when it fails. Commands shown to complete (exec answers next,
on conditions on the state and the operands alone): KNOWN_ANSWER_TEST, COMPLETION_DEADLINE_MISS,
ENGINE_SRAM_ECC_ERROR, SPARE_READY, REPLAYED_RESULT. (R181, R182, R183, R185, R187, R188, R189) -/
def Obligations.EngineFailures : Prop :=
  (∀ t (n : Fin 18) s,
    (engOf s n).retired = false →
    engineIdle s n = true →
    testDone s n = false →
    zoomOwed s n = false →
    ∃ u, exec (.knownAnswerTest t n true) s = .next u ∧ (engOf u n).retired = false ∧
      (engOf u n).katPhase = s.rm.boundary + 1 ∧
      (n.val < 16 → (engOf u n).suspectFrom = instant s t) ∧
      (engOf u n).katEcho = !(engOf s n).katEcho ∧
      u.ee.katFail = s.ee.katFail ∧
      (u.pt.zoomed = s.pt.zoomed.filter fun p => p.1 != n.val) ∧
      ((s.pt.zoomed.filter fun p => p.1 == n.val) = [] → u.pt.results = s.pt.results)) ∧
  (∀ t (n : Fin 18) s (r : ResE),
    (engOf s n).retired = false →
    engineIdle s n = true →
    testDone s n = false →
    zoomOwed s n = false →
    s.pt.zoomed = [(n.val, r)] →
    s.pt.results = [] →
    ∃ u, exec (.knownAnswerTest t n true) s = .next u ∧ u.pt.zoomed = [] ∧
      u.pt.results.map (·.recs) = [r.recs]) ∧
  (∀ t (n : Fin 16) s,
    (engOf s n).retired = false →
    engineIdle s n = true →
    testDone s n = false →
    zoomOwed s n = false →
    spareFree s 16 = true →
    ∃ u, exec (.knownAnswerTest t (n.castLE (by decide)) false) s = .next u ∧ (engOf u n).retired = true ∧
      (engOf u 16).serves = some n.val ∧
      u.ee.katFail = satInc s.ee.katFail ∧
      u.ee.spareUsed = true ∧
      u.ee.faultCause = 2 ∧
      (u.pt.zoomed = s.pt.zoomed.filter fun p => p.1 != n.val) ∧
      u.pt.results = s.pt.results) ∧
  (∀ t (n : Fin 16) s,
    (engOf s n).retired = false →
    pastDeadline (s.start t) n = true →
    spareFree s 16 = true →
    ∃ u, exec (.completionDeadlineMiss t (n.castLE (by decide))) s = .next u ∧ (engOf u n).retired = true ∧
      (engOf u 16).serves = some n.val ∧
      u.ee.deadline = satInc s.ee.deadline ∧
      u.ee.faultCause = 1) ∧
  (∀ t (n : Fin 18) s,
    ∃ u, exec (.engineSramEccError t n true) s = .next u ∧ u.ee = { s.ee with eccCorr := satInc s.ee.eccCorr }) ∧
  (∀ t (n i : Fin 16) s,
    (engOf s n).retired = false →
    spareFree s 16 = false →
    spareFree s 17 = false →
    LogRoom s (2 + s.ee.declPend.length) →
    ∃ u, exec (.engineSramEccError t (n.castLE (by decide)) false) s = .next u ∧ (engOf u n).retired = true ∧
      (chanOf u (16 * n + i)).lost = true ∧
      u.ee.faultCause = 3 ∧
      Logged s u 0x3403 n 0) ∧
  (∀ t (k : Fin 2) s,
    (engOf s (16 + k)).retired = false →
    (engOf s (16 + k)).serves.isSome = true →
    (engOf s (16 + k)).replayFrom.isSome = true →
    (engOf s (16 + k)).ready = false →
    ∃ u, exec (.spareReady t k) s = .next u ∧ (engOf u (16 + k)).ready = true) ∧
  (∀ t (chan : Fin 256) s (n : Nat) (x : ShUnit) (r : List ShUnit),
    spareFor s (chan / 16) = some n →
    (engOf s n).ready = true →
    (engOf s n).live = false →
    rxEnabled s chan = true →
    replayUnits s n chan = x :: r →
    replayFirst s n (chan / 16) x = true →
    ∃ u, exec (.replayedResult t chan) s = .next u ∧ (chanOf u chan).doneAt = max (chanOf s chan).doneAt (x.tStart + 1) ∧
      (s.ee.hist = false → (chanOf s chan).failed = false → (recordsOf (unitState (s.start t) x) (headOf x chan true) (cutFlyback x (echoesOf (s.start t) x chan))).1 ≠ [] →
      ∃ r ∈ u.pt.results, r.replayed = true ∧ r.recs = (recordsOf (unitState (s.start t) x) (headOf x chan true) (cutFlyback x (echoesOf (s.start t) x chan))).1) ∧
      (chan.val, x.tStart) ∈ (engOf u n).replayLeft ∧
      u.ee.replayShots = satInc s.ee.replayShots ∧
      u.ee.replayed = satInc s.ee.replayed)

/-- A build of 262,144 hits is set aside and starts again; the first completed build waits for a second, two that agree
give the shadow table, two that do not count a disagreement and the later waits; a channel without a complete
reference build in CAL_REF_MISS frames is marked, logged and starts again; CAL_SNAPSHOT copies the committed sets
into the image of CAL_IMAGE (log entry 27). Commands shown to complete (exec answers next, on conditions on the
state and the operands alone): TAP_BUILD_COMPLETE, AGREEMENT_TEST, REFERENCE_MISSING, CAL_SNAPSHOT. (R226, R227,
R229, R230, R239, R246) -/
def Obligations.SelfTuning : Prop :=
  (∀ t (l : Fin 780) s, 262144 ≤ (lineOf s l).hits → parB s 0x3400 0 = true →
    ∃ u, exec (.tapBuildComplete t l) s = .next u ∧ (lineOf u l).done.map (·.1) = some (lineCounts (lineOf s l)) ∧
      (lineOf u l).hits = 0 ∧
      (lineOf u l).h = [] ∧
      u.chan = s.chan) ∧
  (∀ t (l : Fin 780) s (b : List Nat × Nat),
    parB s 0x3400 0 = true →
    (lineOf s l).done = some b →
    (lineOf s l).first = none →
    ∃ u, exec (.agreementTest t l) s = .next u ∧ (lineOf u l).first = some b ∧
      (lineOf u l).done = none) ∧
  (∀ t (l : Fin 780) s (a b : List Nat × Nat),
    parB s 0x3400 0 = true →
    (lineOf s l).done = some b →
    (lineOf s l).first = some a →
    buildsAgree a b = true →
    ∃ u, exec (.agreementTest t l) s = .next u ∧ (lineOf u l).shadow = some (pairTable a b) ∧
      (lineOf u l).first = none ∧
      (lineOf u l).disagree = 0) ∧
  (∀ t (l : Fin 780) s (a b : List Nat × Nat),
    parB s 0x3400 0 = true →
    (lineOf s l).done = some b →
    (lineOf s l).first = some a →
    buildsAgree a b = false →
    ∃ u, exec (.agreementTest t l) s = .next u ∧ (lineOf u l).first = some b ∧
      (lineOf u l).disagree = (lineOf s l).disagree + 1 ∧
      (lineOf u l).stale = ((lineOf s l).stale || decide (3 ≤ (lineOf s l).disagree + 1)) ∧
      u.ts.disagreeCnt = satInc s.ts.disagreeCnt) ∧
  (∀ t (chan : Fin 256) s,
    rxEnabled s chan = true →
    (calOf s.ee.hist (chanOf s chan)).from_ + parN s 0x3413 0 ≤ framesDone s →
    LogRoom s 1 →
    ∃ u, exec (.referenceMissing t chan) s = .next u ∧ (calOf s.ee.hist (chanOf u chan)).miss = true ∧
      (calOf s.ee.hist (chanOf u chan)).filed = [] ∧
      (calOf s.ee.hist (chanOf u chan)).from_ = framesDone s ∧
      (chanOf u chan).staleCause.getLsbD 3 = true ∧
      Logged s u 0x1603 chan 0) ∧
  (∀ t (ep : Fin 10) tag s, Accepts s t ep tag 0x3420 0 [1] →
    ∃ u, exec (.calSnapshot t ep tag true) s = .next u ∧ parBytes u 0x3421 0 = calImage s ∧
      Emits u (.xiest ep (rspMsg (wreq tag 0x3420 0 [1]) 0 [])))

/-- The sample tick, on the 4 µs grid, latches its instant, counts, and sends LCE_OUT and FIELD_IO unless compute was
late; 2 µs after it the period's outputs take effect: thresholds, limits, loop currents (in RUN), what Ringmaster
plans with, duty, predicted velocity, bias and the inhibits of its laws; a second release in a row without a frame
trips the mirror watchdog; a second overrun in a row is an LCE fault: mode 4, firing inhibited, SAFE; an injection
ends after INJ_LEN periods and the coil estimate, over 250 periods, needs 100 mA. Commands shown to complete (exec
answers next, on conditions on the state and the operands alone): LCE_SAMPLE_TICK, LCE_OUTPUT_RELEASE, LCE_OVERRUN,
COIL_RESISTANCE_ESTIMATE, INJECTION_COMPLETE. (R110, R112, R287, R289, R290, R304, R316) -/
def Obligations.LceTick : Prop :=
  (∀ t late s, instant s t % (4 * usU) = 0 → s.lce.tickAt < instant s t →
    ∃ u, exec (.lceSampleTick t late) s = .next u ∧ u.lce.tickAt = instant s t ∧
      u.lce.tickNo = s.lce.tickNo + 1 ∧
      u.lce.outReady = !late ∧
      u.lce.lateTick = late ∧
      (late = false → (linkOf u 2).replay.getLast? = some ((linkOf u 2).txSeq - 1, 0x10, lceOutPayload u)) ∧
      (late = false → (linkOf u 3).replay.getLast? = some ((linkOf u 3).txSeq - 1, 0x18, fieldIoPayload u))) ∧
  (∀ t compute s,
    s.lce.tickNo ≠ 0 →
    instant s t = s.lce.tickAt + 2 * usU →
    s.lce.outReady = true →
    s.fld.lceSeen = true →
    ∃ u, exec (.lceOutputRelease t compute) s = .next u ∧ (∀ w ∈ s.lce.inhOut, w ∈ u.rm.inhibits) ∧
      u.lce.computeMax = BitVec.ofNat 16 (max s.lce.computeMax.toNat (min compute 65535)) ∧
      u.lce.rel = s.lce.relN ∧
      (s.dev = .run → ∀ n : Fin 2, (bget ({} : LoopS) u.adc.loops n).uA = bget 0 s.lce.outLoop n) ∧
      (s.dev ≠ .run → u.adc.loops = s.adc.loops) ∧
      u.fld.vPred = s.fld.vPredNext ∧
      u.lce.vTh = s.lce.vThN ∧
      u.lce.vCh = s.lce.vChN ∧
      u.fld.duty = (if s.fld.bridgeOn then s.fld.dutyNext else 0) ∧
      u.fld.htrDuty = s.fld.htrNext ∧
      u.fld.vch = s.fld.vchNext ∧
      u.fld.bias = s.fld.biasNext ∧
      u.fld.lceMissed = 0 ∧
      u.fld.lceSeen = false ∧
      u.fld.wdgTripped = s.fld.wdgTripped) ∧
  (∀ t compute s, s.lce.tickNo ≠ 0 → instant s t = s.lce.tickAt + 2 * usU → s.fld.lceSeen = false →
    ∃ u, exec (.lceOutputRelease t compute) s = .next u ∧ u.fld.duty = s.fld.duty ∧
      u.fld.lceMissed = s.fld.lceMissed + 1 ∧
      (1 ≤ s.fld.lceMissed → u.fld.wdgTripped = true)) ∧
  (∀ t s,
    s.lce.lateTick = true →
    s.lce.tickAt + 1900 * nsU ≤ instant s t →
    s.lce.overrunRun = 0 →
    LogRoom s 1 →
    ∃ u, exec (.lceOverrun t) s = .next u ∧ u.lce.overrun = satInc s.lce.overrun ∧
      u.lce.overrunRun = 1 ∧
      Logged s u 0x1801 noSrc 0 ∧
      u.dev = s.dev) ∧
  (∀ t s,
    s.lce.lateTick = true →
    s.lce.tickAt + 1900 * nsU ≤ instant s t →
    s.lce.overrunRun = 1 →
    s.dev = .run →
    ∃ u, exec (.lceOverrun t) s = .next u ∧ u.lce.lceFault = true ∧
      u.lce.mode = 4 ∧
      u.fld.bridgeOn = false ∧
      .lceFault ∈ u.rm.inhibits ∧
      u.dev = .safe) ∧
  (∀ t s, 250 ≤ s.lce.coilN → (s.lce.coilIsum * 3000).natAbs ≤ 100 * 32768 * s.lce.coilN →
    ∃ u, exec (.coilResistanceEstimate t) s = .next u ∧ u.lce.coilT = s.lce.coilT ∧
      u.lce.coilN = 0 ∧
      u.lce.coilVsum = 0 ∧ u.lce.coilIsum = 0) ∧
  (∀ t s, 250 ≤ s.lce.coilN → 100 * 32768 * s.lce.coilN < (s.lce.coilIsum * 3000).natAbs →
    ∃ u, exec (.coilResistanceEstimate t) s = .next u ∧ u.lce.coilT = clampI (-32768) 32767 (250 + rdiv (quot ((1000 * (s.lce.coilVsum * 32768) - s.lce.coilIsum * 3000 * parN s 0x2441 0) * 1000000) (393 * (s.lce.coilIsum * 3000) * parN s 0x2441 0)).1 (quot ((1000 * (s.lce.coilVsum * 32768) - s.lce.coilIsum * 3000 * parN s 0x2441 0) * 1000000) (393 * (s.lce.coilIsum * 3000) * parN s 0x2441 0)).2)) ∧
  (∀ t s, s.lce.injRun = true → parN s 0x4037 0 ≤ s.lce.injK →
    ∃ u, exec (.injectionComplete t) s = .next u ∧ u.lce.injRun = false ∧
      u.lce.injStatus = 2 ∧
      (∀ p ∈ u.lce.laws, p.2.inj = 0) ∧
      u.lce.injWait = false)

/-- MIR_PRI_RETRY is taken only on the secondary with the primary out of service, else rejected; MIR_RESTART leaves mode
2 with firing inhibited until a complete frame; MIR_BRIDGE_EN 0 switches the bridge off in mode 4 with firing
inhibited, 1 sends LCE_REARM and closes the loop on the primary; 10 ms after a trip the bridge is re-enabled once;
INJ_START waits for its start and is refused during an injection, INJ_STOP ends a running injection with status 5.
Commands shown to complete (exec answers next, on conditions on the state and the operands alone): MIR_PRI_RETRY,
MIR_RESTART, MIR_BRIDGE_EN, BRIDGE_REENABLE, INJ_START, INJ_STOP. (R309, R310, R311, R312, R316, R318, R690) -/
def Obligations.MirrorHost : Prop :=
  (∀ t (ep : Fin 10) tag s,
    Accepts s t ep tag 0x4022 0 [1] →
    s.lce.inUse = 1 →
    s.lce.priOos = true →
    s.lce.retry = false →
    s.lce.mode ≠ 2 →
    s.lce.mode ≠ 4 →
    ∃ u, exec (.mirPriRetry t ep tag true) s = .next u ∧ u.lce = { s.lce with retry := true, retryFrame := false, retryBad := false } ∧
      Emits u (.xiest ep (rspMsg (wreq tag 0x4022 0 [1]) 0 []))) ∧
  (∀ t (ep : Fin 10) tag s,
    Accepts s t ep tag 0x4022 0 [1] →
    s.lce.inUse ≠ 1 ∨ s.lce.priOos = false ∨ s.lce.mode = 2 ∨ s.lce.mode = 4 →
    ∃ u, exec (.mirPriRetry t ep tag true) s = .next u ∧ u.lce = s.lce ∧
      Emits u (.xiest ep (rspMsg (wreq tag 0x4022 0 [1]) 4 []))) ∧
  (∀ t (ep : Fin 10) tag s,
    Accepts s t ep tag 0x4023 0 [1] →
    s.lce.latched = true →
    s.lce.mode ≠ 4 →
    s.lce.priFail = false →
    ∃ u, exec (.mirRestart t ep tag true) s = .next u ∧ u.lce.latched = false ∧
      u.lce.mode = 0 ∧
      u.lce.inUse = 0 ∧
      u.lce.restartWait = true ∧
      .restart ∈ u.rm.inhibits) ∧
  (∀ t (ep : Fin 10) tag s, Accepts s t ep tag 0x4024 0 [0] → parB s 0x4024 0 = true →
    ∃ u, exec (.mirBridgeEn t ep tag false) s = .next u ∧ parB u 0x4024 0 = false ∧
      u.fld.bridgeOn = false ∧
      u.lce.mode = 4 ∧
      .bridgeOff ∈ u.rm.inhibits ∧
      Emits u (.xiest ep (rspMsg (wreq tag 0x4024 0 [0]) 0 []))) ∧
  (∀ t (ep : Fin 10) tag s,
    Accepts s t ep tag 0x4024 0 [1] →
    s.dev = .config ∨ s.dev = .run ∨ s.dev = .safe →
    s.fld.bridgeOn = false →
    s.lce.latched = false →
    s.lce.lceFault = false →
    s.lce.priFail = false →
    ∃ u, exec (.mirBridgeEn t ep tag true) s = .next u ∧ parB u 0x4024 0 = true ∧
      u.lce.mode = 0 ∧
      u.lce.inUse = 0 ∧
      .bridgeOff ∉ u.rm.inhibits ∧
      .restart ∈ u.rm.inhibits ∧
      (linkOf u 2).replay.getLast? = some ((linkOf s 2).txSeq, 0x11, [])) ∧
  (∀ t s,
    s.fld.brgRePend = true →
    s.fld.brgTripAt + 10 * msU ≤ instant s t →
    bridgeAllowed s = true →
    s.lce.priFail = false →
    ∃ u, exec (.bridgeReenable t) s = .next u ∧ u.fld.brgRePend = false ∧
      u.fld.brgReAt = some (instant s t) ∧
      .bridge ∉ u.rm.inhibits ∧
      .restart ∈ u.rm.inhibits ∧
      u.lce.restartWait = true ∧
      u.lce.mode = 0 ∧
      (linkOf u 2).replay.getLast? = some ((linkOf s 2).txSeq, 0x11, [])) ∧
  (∀ t (ep : Fin 10) tag s,
    Accepts s t ep tag 0x403A 0 [1] →
    s.lce.injRun = false →
    s.lce.injWait = false →
    parN s 0x4038 0 ≠ 1 →
    ∃ u, exec (.injStart t ep tag true) s = .next u ∧ u.lce.injWait = true ∧
      u.lce.injStatus = 1 ∧
      u.lce.injLaw = parN s 0x4030 0 ∧
      Emits u (.xiest ep (rspMsg (wreq tag 0x403A 0 [1]) 0 []))) ∧
  (∀ t (ep : Fin 10) tag s, Accepts s t ep tag 0x403A 0 [1] → s.lce.injRun = true ∨ s.lce.injWait = true →
    ∃ u, exec (.injStart t ep tag true) s = .next u ∧ u.lce = s.lce ∧
      Emits u (.xiest ep (rspMsg (wreq tag 0x403A 0 [1]) 4 []))) ∧
  (∀ t (ep : Fin 10) tag s, Accepts s t ep tag 0x403B 0 [1] → s.lce.injRun = true →
    ∃ u, exec (.injStop t ep tag true) s = .next u ∧ u.lce.injRun = false ∧
      u.lce.injWait = false ∧
      u.lce.injStatus = 5 ∧
      (∀ p ∈ u.lce.laws, p.2.inj = 0))

/-- A sequence start, at a whole 32 µs (log entry 95), restarts every slot count, takes up waiting commits, sends the
answers that waited for it, and takes a synchronising reset of at least 2 µs; a conversion at its sample instant
steps its converter's slot, numbers the sample and sends its word; ADC_SEQ_COMMIT keeps a valid staging copy,
acknowledged at the next sequence start, and rejects another; a raw sample word is received with its value and
sequence and completes a filter output; the reference, checked every 100 µs, is ready after 5 ms in bounds and not
ready outside 1 percent. An excitation's fault bits follow what Calliope senses in its mode; settling ends
EXC_SETTLE after the change; FLT_SYNC and a selected SYNC edge request one reset; a loop deviation of 10 ms sets its
status bit; a measurement still pending 2 s after ENTER_RUN is broken. Commands shown to complete (exec answers
next, on conditions on the state and the operands alone): ADC_SEQUENCE_START, ADC_CONVERSION, ADC_SEQ_COMMIT,
ADC_SAMPLE_WORD, REFERENCE_BUFFER_CHECK, EXCITATION_FAULT, EXC_SETTLE_END, FLT_SYNC, SYNC_EDGE, LOOP_READBACK_FAULT,
PENDING_TIMEOUT. (R324, R327, R330, R335, R336, R366, R339, R340, R346, R353, R658) -/
def Obligations.ConvertersAndExcitation : Prop :=
  (∀ t (n : Fin 4) s, instant s t % (32 * usU) = 0 → s.adc.seqNo = 0 ∨ s.adc.seqStart ≠ instant s t →
    ∃ u, exec (.adcSequenceStart t) s = .next u ∧ u.adc.seqStart = instant s t ∧
      u.adc.seqNo = s.adc.seqNo + 1 ∧
      bget 0 u.adc.slot n = 0 ∧
      bget false u.adc.running n = (parB s 0x4402 n && !(bget [] u.adc.seq n).isEmpty) ∧
      (∀ r ∈ s.adc.syncReq, r + 2 * usU ≤ instant s t → u.adc.syncReq = none)) ∧
  (∀ t (ep : Fin 10) (m : List Byte) s,
    instant s t % (32 * usU) = 0 →
    s.adc.seqNo = 0 ∨ s.adc.seqStart ≠ instant s t →
    (1, ep.val, m) ∈ s.xi.owed →
    ∃ u, exec (.adcSequenceStart t) s = .next u ∧ Emits u (.xiest ep m) ∧
      (∀ x ∈ u.xi.owed, x.1 ≠ 1)) ∧
  (∀ t (n : Fin 4) s (slots : List Nat) (src : List Nat),
    instant s t % (32 * usU) = 0 →
    s.adc.seqNo = 0 ∨ s.adc.seqStart ≠ instant s t →
    (s.adc.commit.find? fun p => p.1 == n.val).map (·.2) = some (slots, src) →
    ∃ u, exec (.adcSequenceStart t) s = .next u ∧ bget [] u.adc.seq n = slots) ∧
  (∀ t (n : Fin 4) code s,
    bget false s.adc.running n = true →
    bget 0 s.adc.slot n < 32 →
    s.adc.seqStart + bget 0 s.adc.slot n * usU + 200 * nsU ≤ instant s t →
    ∃ u, exec (.adcConversion t n code) s = .next u ∧ bget 0 u.adc.slot n = bget 0 s.adc.slot n + 1 ∧
      (slotUsed ((bget [] s.adc.seq n).getD (bget 0 s.adc.slot n) 0) = true →
      (lchOf u (16 * n + slotCh ((bget [] s.adc.seq n).getD (bget 0 s.adc.slot n) 0))).seqNo =
      ((lchOf s (16 * n + slotCh ((bget [] s.adc.seq n).getD (bget 0 s.adc.slot n) 0))).seqNo + 1) % 16)) ∧
  (∀ t (n : Fin 4) code s (k g : Nat),
    bget false s.adc.running n = true →
    k = bget 0 s.adc.slot n →
    k < 32 →
    s.adc.seqStart + k * usU + 200 * nsU ≤ instant s t →
    slotUsed ((bget [] s.adc.seq n).getD k 0) = true →
    g = 16 * n.val + slotCh ((bget [] s.adc.seq n).getD k 0) →
    (lchOf s g).gainMark = 0 →
    parB s 0x440A g = false →
    16 ≤ (lchOf s g).src ∨ (lchOf s g).gain = parN s 0x4409 g →
    barUp s (if n.val < 2 then 6 else 7) = true →
    ∃ u, exec (.adcConversion t n code) s = .next u ∧ Emits u (.note (if n.val < 2 then "BL6: sample word" else "BL7: sample word")
      (sampleWord (clampQ15 (code * (if (lchOf s g).src < 16 then (16 / 2 ^ (lchOf s g).gain : Nat) else 16))) g (rawReason (s.start t) g (lchOf s g) k code) (lchOf s g).seqNo))) ∧
  (∀ t (ep : Fin 10) tag (n : Fin 4) s, Accepts s t ep tag 0x4404 n [1] → seqValid (stagedSlots s n) = true →
    ∃ u, exec (.adcSeqCommit t ep tag n true) s = .next u ∧ bget ([], []) u.adc.commit n = (stagedSlots s n, stagedSrc s n) ∧
      (1, ep.val, rspMsg (wreq tag 0x4404 n [1]) 0 []) ∈ u.xi.owed) ∧
  (∀ t (ep : Fin 10) tag (n : Fin 4) s,
    Accepts s t ep tag 0x4404 n [1] →
    seqValid (stagedSlots s n) = false →
    ∃ u, exec (.adcSeqCommit t ep tag n true) s = .next u ∧ u.adc.commit = s.adc.commit ∧
      bget false u.adc.refused n = true ∧
      Emits u (.xiest ep (rspMsg (wreq tag 0x4404 n [1]) 4 []))) ∧
  (∀ t w (g : Nat) s,
    g = bits w.toNat 23 16 →
    g < 64 →
    (lchOf s g).m ≠ 0 →
    bget false s.adc.running (g / 16) = true →
    ∃ u, exec (.adcSampleWord t w) s = .next u ∧ (lchOf u g).rawQ = signed 16 (bits w.toNat 15 0) ∧
      (lchOf u g).rxSeq = some ((bits w.toNat 31 28 + 1) % 16) ∧
      ((lchOf s g).rxSeq = some (bits w.toNat 31 28) → (lchOf s g).startAt ≤ sampleAt (s.start t) g → ((lchOf s g).rawN + 1) % 2 ^ (lchOf s g).structHb = 0 →
      (lchOf u g).outSeq = ((lchOf s g).outSeq + 1) % 16 ∧ (lchOf u g).outAt = sampleAt (s.start t) g)) ∧
  (∀ t (uV : Nat) s,
    s.adc.refOn = true →
    periodDue s.adc.refCheckAt (100 * usU) (instant s t) = true →
    25000 < ((uV : Int) - 2500000).natAbs →
    ∃ u, exec (.referenceBufferCheck t uV) s = .next u ∧ u.adc.refReady = false ∧
      u.adc.refBadLog = true ∧
      (s.adc.refBadLog = false → LogRoom s 1 → Logged s u 0x3901 noSrc 0)) ∧
  (∀ t (uV : Nat) s (a : Nat),
    s.adc.refOn = true →
    periodDue s.adc.refCheckAt (100 * usU) (instant s t) = true →
    ((uV : Int) - 2500000).natAbs ≤ 12500 →
    s.adc.refWaitGood = false →
    s.adc.refFrom = some a →
    a + 5 * msU ≤ instant s t →
    ∃ u, exec (.referenceBufferCheck t uV) s = .next u ∧ u.adc.refReady = true) ∧
  (∀ t (n : Fin 8) limited lead compliance s,
    ∃ u, exec (.excitationFault t n limited lead compliance) s = .next u ∧ (excOf u n).fault = (if (excOf s n).on = false then 0 else if parN s 0x4410 n = 1 then 2 * b2n limited + 4 * b2n lead else 8 * b2n compliance) ∧
      (excOf u n).on = (excOf s n).on ∧
      u.dev = s.dev) ∧
  (∀ t (n : Fin 8) s, (excOf s n).settleEnd ≤ instant s t →
    ∃ u, exec (.excSettleEnd t n) s = .next u ∧ (excOf u n).settling = false ∧
      (excOf u n).fault = (excOf s n).fault) ∧
  (∀ t (ep : Fin 10) tag s, Accepts s t ep tag 0x480A 0 [1] →
    ∃ u, exec (.fltSync t ep tag true) s = .next u ∧ u.adc = { s.adc with syncReq := some (s.adc.syncReq.getD (instant s t)) }) ∧
  (∀ t rise s, parN s 0x480B 0 = (if rise then 1 else 2) →
    ∃ u, exec (.syncEdge t rise) s = .next u ∧ u.adc = { s.adc with syncReq := some (s.adc.syncReq.getD (instant s t)) }) ∧
  (∀ t (n : Fin 2) (uA : Nat) s (a : Nat),
    s.dev ≠ .run ∨ parN s 0x4430 n ≠ 0 →
    200 < ((uA : Int) - (bget ({} : LoopS) s.adc.loops n).uA).natAbs →
    (bget ({} : LoopS) s.adc.loops n).devFrom = some a →
    a + 10 * msU ≤ instant s t →
    ∃ u, exec (.loopReadbackFault t n uA) s = .next u ∧ (bget ({} : LoopS) u.adc.loops n).dev = true ∧
      (bget ({} : LoopS) u.adc.loops n).meas = uA ∧
      ((bget ({} : LoopS) s.adc.loops n).dev = false → LogRoom s 1 → Logged s u 0x1904 n (loopStatus u n))) ∧
  (∀ t s (r : Nat) (m : Fin 32),
    s.adc.runAt = some r →
    r + 2 * secU ≤ instant s t →
    (measOf s m).pending = true →
    ∃ u, exec (.pendingTimeout t) s = .next u ∧ u.adc.runAt = none ∧
      (measOf u m).broken = true)

/-- A frame start puts the parameters written for its context in force and opens a frame of an enabled context, live
when the pipeline is idle; a good line of the context's data type is appended; a frame end or a timeout of 1.5 frame
times closes the frame, counts it and gives it to its pipeline or lets it wait; a pipeline that finishes writes
statistics and image and takes the next waiting context or is idle; packets on a port that is off are ignored an
uncorrectable header is counted, and so is a start-of-transmission error, which discards nothing by itself. Commands
shown to complete (exec answers next, on conditions on the state and the operands alone): FRAME_START_PACKET,
LINE_PACKET, FRAME_END_PACKET, CAMERA_FRAME_TIMEOUT, PIPELINE_FRAME_DONE. (R378, R379, R380, R389, R390, R391, R402) -/
def Obligations.Cameras : Prop :=
  (∀ t (port : Fin 4) (vc : Fin 16) hdr s (k : Nat),
    hdr.ok = true →
    parN s 0x5000 port ≠ 0 →
    s.dict.held = [] →
    ctxByVc s port vc = some k →
    (ctxOf s k).frame = none →
    thinned s k = false →
    s.thm.shutdown = false →
    ∃ u, exec (.frameStartPacket t port vc hdr) s = .next u ∧ (ctxOf u k).started = (ctxOf s k).started + 1 ∧
      (ctxOf u k).frame.map (fun f => (f.startAt, f.rx)) = some (instant s t, 0) ∧
      (ctxOf u k).frame.map (·.live) = some (bget 0 s.cam.busy (k / 2) == 0)) ∧
  (∀ t (port : Fin 4) (vc : Fin 16) hdr s (k : Nat),
    hdr.ok = true →
    parN s 0x5000 port ≠ 0 →
    ([2 * port.val, 2 * port.val + 1].find? fun c => parB (applyCtx c (portSeen port hdr (s.start t))) 0x5008 c && parN (applyCtx c (portSeen port hdr (s.start t))) 0x5009 c == vc.val) = some k →
    (ctxOf s k).frame = none →
    ∃ u, exec (.frameStartPacket t port vc hdr) s = .next u ∧ (u.dict.held = s.dict.held.filter fun p => !(ctxKeys k).contains p.1) ∧
      (ctxOf u k).started = (ctxOf s k).started + 1) ∧
  (∀ t (port : Fin 4) vc dt hdr pix s (k : Nat) (f : CamF),
    hdr.ok = true →
    parN s 0x5000 port ≠ 0 →
    [2 * port.val, 2 * port.val + 1].find? (fun c => (ctxOf s c).frame.isSome && parB s 0x5008 c && parN s 0x5009 c == vc.val) = some k →
    (ctxOf s k).frame = some f →
    f.live = true →
    dt.val = 0x2B + framePar f 0x500A k →
    pix.length = camW f k →
    f.rx < camH f k →
    ∃ u, exec (.linePacket t port vc dt hdr true pix) s = .next u ∧ u.cam.phyErr = satAdd s.cam.phyErr (b2n hdr.sot) ∧
      (ctxOf u k).frame = some { f with lines := f.lines ++ [pix], rx := f.rx + 1, buffered := 0 }) ∧
  (∀ t (port : Fin 4) (vc : Fin 16) hdr s (k : Nat) (f : CamF),
    hdr.ok = true →
    parN s 0x5000 port ≠ 0 →
    ctxByVc s port vc = some k →
    (ctxOf s k).frame = some f →
    ∃ u, exec (.frameEndPacket t port vc hdr) s = .next u ∧ (ctxOf u k).frame = none ∧
      (ctxOf u k).frames = satInc (ctxOf s k).frames ∧
      (ctxOf u k).closedAt = some (instant s t) ∧
      (f.live = true → ∃ j ∈ u.cam.job, j.1 = k / 2 ∧ j.2.closed = true ∧ j.2.timeout = false ∧ j.2.lines = f.lines) ∧
      (f.live = false → (ctxOf u k).wait.length = (ctxOf s k).wait.length + 1)) ∧
  (∀ t (k : Fin 8) s (f : CamF),
    (ctxOf s k).frame = some f →
    f.startAt + framePar f 0x500D k * 3 * usU / 2 ≤ instant s t →
    ∃ u, exec (.cameraFrameTimeout t k) s = .next u ∧ (ctxOf u k).frame = none ∧
      (ctxOf u k).frames = satInc (ctxOf s k).frames ∧
      (f.live = true → ∃ j ∈ u.cam.job, j.1 = k.val / 2 ∧ j.2.closed = true ∧ j.2.timeout = true) ∧
      (f.live = false → (ctxOf u k).wait.length = (ctxOf s k).wait.length + 1)) ∧
  (∀ t (pipe : Fin 4) s (f : CamF),
    (s.cam.job.find? fun j => j.1 == pipe.val) = some (pipe.val, f) →
    nextCtx s pipe = none →
    ∃ u, exec (.pipelineFrameDone t pipe) s = .next u ∧ bget 0 u.cam.busy pipe = 0 ∧
      u.pci = (imageOut (bget 0 s.cam.busy pipe - 1) f (statsOut (bget 0 s.cam.busy pipe - 1) f (modCam (fun m => { m with job := bdel m.job pipe }) (s.start t)))).pci ∧
      u.dev = s.dev) ∧
  (∀ t (pipe : Fin 4) s (f : CamF) (k : Nat),
    (s.cam.job.find? fun j => j.1 == pipe.val) = some (pipe.val, f) →
    nextCtx s pipe = some k →
    ∃ u, exec (.pipelineFrameDone t pipe) s = .next u ∧ bget 0 u.cam.busy pipe = k + 1) ∧
  (∀ t (port : Fin 4) vc dt hdr crcOk pix s, parN s 0x5000 port = 0 → ∀ c ∈
    [Instr.frameStartPacket t port vc hdr, .linePacket t port vc dt hdr crcOk pix, .frameEndPacket t port vc hdr],
    ∃ u, exec c s = .next u ∧ u.cam = s.cam) ∧
  (∀ t (port : Fin 4) vc dt sot crcOk pix s, parN s 0x5000 port ≠ 0 → ∀ c ∈
    [Instr.frameStartPacket t port vc ⟨sot, false⟩, .linePacket t port vc dt ⟨sot, false⟩ crcOk pix, .frameEndPacket t port vc ⟨sot, false⟩],
    ∃ u, exec c s = .next u ∧ u.cam.ctx = s.cam.ctx ∧ u.cam.phyErr = satAdd s.cam.phyErr (b2n sot + 1))

/-- A phase boundary that is due sends the marker, opens the next position of the frame and commits the one after it or,
with a frame prepared, the first phase of that frame with its values; the first boundary starts the framing; one
that is not due opens nothing; in CONFIG, or once RUN was left, the phases stop. An eye-safety slot begins at a
whole multiple of its length from the grid start. An ECC error of the eye-safety table inhibits firing and takes RUN
to SAFE. Commands shown to complete (exec answers next, on conditions on the state and the operands alone):
PHASE_BOUNDARY, EYE_SLOT_BOUNDARY, EYE_TABLE_ECC_ERROR. (R49, R52, R53, R54, R75, R77, R78, R561) -/
def Obligations.PhaseBoundaries : Prop :=
  (∀ t replica s,
    boundaryDue (s.start t) = true →
    phasesRun s = true →
    s.rm.framing = true →
    s.rm.stopNext = false →
    s.rm.nextFrame = none →
    barUp s 1 = true →
    ∃ u, exec (.phaseBoundary t replica) s = .next u ∧ u.rm.boundary = instant s t ∧
      u.rm.pos = (s.rm.pos + 1) % 8 ∧
      u.rm.cycle = (if s.rm.pos = 7 then s.rm.cycle + 1 else s.rm.cycle) ∧
      u.rm.frameNo = s.rm.frameNo ∧
      u.rm.current.map (·.em) = s.rm.planned.map (·.em) ∧
      (s.rm.inFrame = true → ∀ sh ∈ u.rm.planned, sh.boundary = instant s t + s.rm.pNs * nsU ∧ sh.em / 8 = sh.bank) ∧
      Emits u (.symbol (barCarrier s 1) 1)) ∧
  (∀ t replica s (f : FrameP),
    boundaryDue (s.start t) = true →
    phasesRun s = true →
    s.rm.framing = true →
    s.rm.stopNext = false →
    s.rm.nextFrame = some f →
    ∃ u, exec (.phaseBoundary t replica) s = .next u ∧ u.rm.inFrame = true ∧
      u.rm.boundary = instant s t ∧
      u.rm.frameStart = instant s t ∧
      u.rm.pos = 0 ∧ u.rm.cycle = 0 ∧
      u.rm.pNs = f.p ∧ u.rm.wNs = f.w ∧ u.rm.nCyc = f.nCyc ∧ u.rm.nAct = f.nAct ∧
      u.rm.frameNo = BitVec.ofNat 32 s.rm.framesStarted ∧
      u.rm.framesStarted = s.rm.framesStarted + 1) ∧
  (∀ t replica s, boundaryDue (s.start t) = true → phasesRun s = true → s.rm.framing = false →
    ∃ u, exec (.phaseBoundary t replica) s = .next u ∧ u.rm.framing = true ∧
      u.rm.boundary = instant s t ∧
      u.rm.pos = 7 ∧
      u.rm.nextFrame.isSome = true) ∧
  (∀ t replica s, boundaryDue (s.start t) = false →
    ∃ u, exec (.phaseBoundary t replica) s = .next u ∧ u.rm = { s.rm with degrade := u.rm.degrade } ∧
      u.fld = s.fld ∧
      u.out = []) ∧
  (∀ t replica s,
    boundaryDue (s.start t) = true →
    s.dev = .config ∨ s.rm.stopNext = true →
    s.rm.framing = true →
    ∃ u, exec (.phaseBoundary t replica) s = .next u ∧ u.rm.framing = false ∧
      u.rm.inFrame = false ∧
      u.rm.current = [] ∧ u.rm.planned = []) ∧
  (∀ t (long : Bool) s (tab : EyeTable),
    s.rm.table = some tab →
    (if long then slotLenB tab else slotLenA tab) ≠ 0 →
    (instant s t - s.rm.gridAt) % (if long then slotLenB tab else slotLenA tab) = 0 →
    ∃ u, exec (.eyeSlotBoundary t long) s = .next u ∧ u.rm.slotA = (instant s t - s.rm.gridAt) / max (slotLenA tab) 1 ∧
      u.rm.slotB = (instant s t - s.rm.gridAt) / max (slotLenB tab) 1 ∧
      u.rm.table = s.rm.table ∧
      u.rm.inhibits = s.rm.inhibits) ∧
  (∀ t s, s.dev = .run →
    ∃ u, exec (.eyeTableEccError t) s = .next u ∧ u.rm.eyeEcc = true ∧
      .eyeEcc ∈ u.rm.inhibits ∧
      .eyeEcc ∈ u.saf.causes ∧
      u.dev = .safe)

/-- The next result's records, once no result before it is owed, are coloured, leave the results and join the burst of a
frame that is written; a burst that closes writes them into the ring's buffer, with forwarding in place of own rings
each advances the stream index; a ring without room holds them and PT_HOLD discards and counts them, those that
waited unformed for an earlier header too; the header of a complete frame ends it, goes to the frame ring's buffer
or is held, and its first index is the next record's; a replay hold ends with its replay. Commands shown to complete
(exec answers next, on conditions on the state and the operands alone): POINT_RECORD_FORMED, WRITE_BURST,
PT_HOLD_EXPIRY, FRAME_HEADER, REPLAY_HOLD_RELEASE. (R261, R263, R264, R267, R269, R270, R272, R273, R586, R587) -/
def Obligations.PointStream : Prop :=
  (∀ t s (r : ResE),
    nextResult s = some r →
    mustWait (s.start t) r = false →
    frameWrites s = true →
    s.pt.truncated = false →
    r.gone = false →
    ∃ u, exec (.pointRecordFormed t) s = .next u ∧ u.pt.results = eraseFirst (fun x => x == r) s.pt.results ∧
      (u.pt.burst = s.pt.burst ++ r.recs.map fun x => (colour s r.tStart x, r.closeAt, burstKey r, if r.at_ < s.pt.headerAt then r.at_ else 0)) ∧
      u.pt.dropped = s.pt.dropped) ∧
  (∀ t s (r : ResE),
    nextResult s = some r →
    mustWait (s.start t) r = false →
    frameWrites s = true →
    s.pt.truncated = true ∨ r.gone = true →
    ∃ u, exec (.pointRecordFormed t) s = .next u ∧ u.pt.results = eraseFirst (fun x => x == r) s.pt.results ∧
      u.pt.burst = s.pt.burst ∧
      u.pt.dropped = satAdd s.pt.dropped r.recs.length) ∧
  (∀ t s (r : ResE), nextResult s = some r → mustWait (s.start t) r = false → frameWrites s = false →
    ∃ u, exec (.pointRecordFormed t) s = .next u ∧ u.pt = { s.pt with results := eraseFirst (fun x => x == r) s.pt.results }) ∧
  (∀ t s (b : List (Rec × Nat × Nat × Nat)),
    ownRings s = false →
    s.pt.held = [] →
    b = burstReady (s.start t) →
    ∃ u, exec (.writeBurst t false) s = .next u ∧ u.pt.burst = s.pt.burst.drop b.length ∧
      u.pt.index = s.pt.index + BitVec.ofNat 32 b.length ∧
      u.pt.held = [] ∧
      (b ≠ [] → 8 ≤ parN s 0x7C11 0 → u.slk.fwdDropped = satAdd s.slk.fwdDropped b.length)) ∧
  (∀ t s (b : List (Rec × Nat × Nat × Nat)),
    ownRings s = true →
    s.pt.held = [] →
    pointRoom s = false →
    (∀ n ∈ upto 8, (laneOf s n).fwdQ = [] ∧ (laneOf s n).fwdHdrs = []) →
    b = burstReady (s.start t) →
    ∃ u, exec (.writeBurst t false) s = .next u ∧ u.pt.burst = s.pt.burst.drop b.length ∧
      (u.pt.held = b.map fun x => (x.1, if x.2.2.2 = 0 then instant s t else x.2.2.2)) ∧
      u.pt.index = s.pt.index) ∧
  (∀ t s (x : Rec × Nat × Nat × Nat) (b : Buf),
    ownRings s = true →
    s.pt.held = [] →
    pointRoom s = true →
    (∀ n ∈ upto 8, (laneOf s n).fwdQ = [] ∧ (laneOf s n).fwdHdrs = []) →
    burstReady (s.start t) = [x] →
    s.pci.retraining = false ∧ s.pci.staged = [] →
    (ringOf s (parN s 0x3801 0)).waiting = [] →
    (ringOf s (parN s 0x3801 0)).buf = some b →
    b.used + 16 ≤ b.len →
    ∃ u, exec (.writeBurst t false) s = .next u ∧ Emits u (.hostWrite (b.addr + BitVec.ofNat 64 b.used) (recBytes x.1)) ∧
      u.pt.burst = s.pt.burst.drop 1 ∧
      u.pt.held = [] ∧
      u.pt.index = s.pt.index + 1 ∧
      u.pt.pointCount = s.pt.pointCount + 1) ∧
  (∀ t s (x : Rec × Nat) (rest : List (Rec × Nat)),
    s.pt.held = x :: rest →
    (ringOf s (parN s 0x3801 0)).waiting = [] →
    (∀ n ∈ upto 8, (laneOf s n).fwdQ = []) →
    x.2 + parN s 0x3806 0 * msU < instant s t →
    ∃ u, exec (.ptHoldExpiry t) s = .next u ∧ u.pt.held = [] ∧ u.pt.burst = [] ∧
      u.pt.truncated = true ∧
      u.pt.dropped = satAdd s.pt.dropped (s.pt.held.length + s.pt.burst.length) ∧
      u.pt.droppedCur = satAdd s.pt.droppedCur (s.pt.held.length + s.pt.burst.length)) ∧
  (∀ t s (x : WItem) (rest : List WItem),
    (ringOf s (parN s 0x3801 0)).waiting = x :: rest →
    ringTakes s (parN s 0x3801 0) = false →
    (∀ n ∈ upto 8, (laneOf s n).fwdQ = [] ∧ fwdPtRing s n ≠ parN s 0x3801 0) →
    (parN s 0x3801 0 ∉ parN s 0x2C1A 0 :: (upto 8).map fun c => parN s 0x5019 c) →
    x.at_ + parN s 0x3806 0 * msU < instant s t →
    ∃ u, exec (.ptHoldExpiry t) s = .next u ∧ (ringOf u (parN s 0x3801 0)).waiting = [] ∧
      u.pt.held = [] ∧ u.pt.burst = [] ∧
      u.pt.truncated = true ∧
      u.pt.index = s.pt.index - BitVec.ofNat 32 (rest.length + 1) ∧
      u.pt.droppedCur = satAdd (satAdd s.pt.droppedCur (rest.length + 1)) (s.pt.held.length + s.pt.burst.length)) ∧
  (∀ t s (r : ResE) (f : BitVec 32) (w : Bool),
    dueFrame s = some (f, w) →
    pointRoom s = false →
    (∀ n ∈ upto 8, (laneOf s n).fwdQ = []) →
    s.pt.held = [] →
    s.pt.burst = [] →
    (ringOf s (parN s 0x3801 0)).waiting = [] →
    s.pt.results = [r] →
    r.frame ≠ f →
    r.at_ + parN s 0x3806 0 * msU < instant s t →
    ∃ u, exec (.ptHoldExpiry t) s = .next u ∧ u.pt.results = [{ r with gone := true }]) ∧
  (∀ t s (h : List (BitVec 32)) (w : Bool),
    s.pt.hdrDue.head? = some (h, w) →
    frameComplete (s.start t) (h.getD 2 0) = true →
    s.pt.hdrHeld = [] →
    w = false ∨ ownRings s = false ∨ headersHeld s < 64 →
    ∃ u, exec (.frameHeader t) s = .next u ∧ u.pt.hdrDue = s.pt.hdrDue.drop 1 ∧
      u.pt.firstIndex = s.pt.index ∧
      u.pt.pointCount = 0 ∧ u.pt.droppedCur = 0 ∧ u.pt.truncated = false ∧
      (w = true → ownRings s = true → ringTakes s (parN s 0x3802 0) = false → u.pt.hdrHeld = [headerFill s h]) ∧
      (w = true → ownRings s = true → ringTakes s (parN s 0x3802 0) = true → u.pt.hdrHeld = []) ∧
      (w = true → ownRings s = false → u.pt.lastFrame = h.getD 2 0)) ∧
  (∀ t s (h : List (BitVec 32)) (b : Buf),
    s.pt.hdrDue.head? = some (h, true) →
    frameComplete (s.start t) (h.getD 2 0) = true →
    s.pt.hdrHeld = [] →
    ownRings s = true →
    headersHeld s < 64 →
    ringRunning (ringOf s (parN s 0x3802 0)) = true →
    s.pci.retraining = false ∧ s.pci.staged = [] →
    (ringOf s (parN s 0x3802 0)).waiting = [] →
    (ringOf s (parN s 0x3802 0)).buf = some b →
    b.used + 4 * h.length ≤ b.len →
    ∃ u, exec (.frameHeader t) s = .next u ∧ Emits u (.hostWrite (b.addr + BitVec.ofNat 64 b.used) ((headerFill s h).map fun w => leBytes 4 w.toNat).flatten) ∧
      u.pt.hdrHeld = [] ∧
      u.pt.lastFrame = (headerFill s h).getD 2 0) ∧
  (∀ t s, s.pt.replayHold = true → replayPending (s.start t) (s.rm.frameNo - 1) = false →
    ∃ u, exec (.replayHoldRelease t) s = .next u ∧ u.pt.replayHold = false ∧
      u.pt.results.map (·.recs) = s.pt.results.map (·.recs) ∧
      u.rm = { s.rm with degrade := u.rm.degrade })

/-- For every endpoint: a request whose CRC fails changes nothing but XI_CRC_ERR and gets no response; a WRITE whose TAG
and CRC equal those of the session's last request, within 1 s of it, writes nothing and sends the stored response; a
WRITE that is no repetition is executed, its response is sent, and kept with its TAG and CRC. Commands shown to
complete (exec answers next, on conditions on the state and the operands alone): XIEST_WRITE. (R549) -/
def Obligations.RequestRepeatedOrDamaged : Prop :=
  (∀ t (ep : Fin 10) tag num sub val s, delivers s ep = true →
    ∃ u, exec (.xiestWrite t ep tag false num sub val) s = .next u ∧ u.xi = { s.xi with crcErr := satInc s.xi.crcErr } ∧
      u.out = [] ∧
      u.dict = s.dict ∧
      u.dev = s.dev) ∧
  (∀ t (ep : Fin 10) tag num sub val s,
    delivers s ep = true →
    s.dev ≠ .boot →
    (sessOf s ep).open_ = true →
    (sessOf s ep).lastTag = some (tag, (wreq tag num.toNat sub.toNat val).crc) →
    instant s t ≤ (sessOf s ep).lastAt + secU →
    s.xi.owed = [] →
    ∃ u, exec (.xiestWrite t ep tag true num sub val) s = .next u ∧ u.dict = s.dict ∧
      u.dev = s.dev ∧
      Emits u (.xiest ep (sessOf s ep).lastRsp) ∧
      (∀ m, Emits u (.xiest ep m) → m = (sessOf s ep).lastRsp)) ∧
  (∀ t (ep : Fin 10) tag num sub val s (row : DRow),
    Accepts s t ep tag num.toNat sub.toNat val →
    dictFind num.toNat sub.toNat = some row →
    row.acc = .rw →
    row.app = .frame →
    ∃ u, exec (.xiestWrite t ep tag true num sub val) s = .next u ∧ dlook u.dict.held (dkey num.toNat sub.toNat) = some (decVal row.ty val) ∧
      Emits u (.xiest ep (rspMsg (wreq tag num.toNat sub.toNat val) 0 [])) ∧
      (sessOf u ep).lastTag = some (tag, (wreq tag num.toNat sub.toNat val).crc) ∧
      (sessOf u ep).lastRsp = rspMsg (wreq tag num.toNat sub.toNat val) 0 [] ∧
      (sessOf u ep).lastAt = instant s t)

/-- OPEN opens the endpoint's session at the highest common version or answers NO_VERSION; CLOSE closes it; READ answers
the value in force and changes no entry; a WRITE that fails a check answers its status and changes no entry;
DESCRIBE answers 16 bytes; an unknown operation answers ACCESS; without a session the answer is NO_SESSION, before
CONFIG it is STATE; a session without a request for XI_SESSION_TO closes. Commands shown to complete (exec answers
next, on conditions on the state and the operands alone): XIEST_OPEN, XIEST_CLOSE, XIEST_READ, XIEST_WRITE,
XIEST_DESCRIBE, XIEST_UNKNOWN_OP, SESSION_TIMEOUT. (R14, R16, R545, R547, R551, R552, R683, R684) -/
def Obligations.XiestOperations : Prop :=
  (∀ t (ep : Fin 10) tag lo hi s,
    delivers s ep = true →
    s.dev ≠ .boot →
    isRepeat ep (mkReq 0x01 tag 0 0 (leBytes 2 lo.toNat ++ leBytes 2 hi.toNat) true) (s.start t) = false →
    lo.toNat ≤ 0x0100 ∧ 0x0100 ≤ hi.toNat →
    ∃ u, exec (.xiestOpen t ep tag true lo hi) s = .next u ∧ (sessOf u ep).open_ = true ∧
      (sessOf u ep).ver = 0x0100 ∧
      (sessOf u ep).priv = false ∧
      Emits u (.xiest ep (rspMsg (mkReq 0x01 tag 0 0 (leBytes 2 lo.toNat ++ leBytes 2 hi.toNat) true) 0 [0, 1, 0, 1, 0, 1]))) ∧
  (∀ t (ep : Fin 10) tag lo hi s,
    delivers s ep = true →
    s.dev ≠ .boot →
    isRepeat ep (mkReq 0x01 tag 0 0 (leBytes 2 lo.toNat ++ leBytes 2 hi.toNat) true) (s.start t) = false →
    0x0100 < lo.toNat ∨ hi.toNat < 0x0100 →
    ∃ u, exec (.xiestOpen t ep tag true lo hi) s = .next u ∧ (sessOf u ep).open_ = false ∧
      Emits u (.xiest ep (rspMsg (mkReq 0x01 tag 0 0 (leBytes 2 lo.toNat ++ leBytes 2 hi.toNat) true) 7 [0, 0, 0, 1, 0, 1]))) ∧
  (∀ t (ep : Fin 10) tag s, Serves (s.start t) ep (mkReq 0x02 tag 0 0 [] true) →
    ∃ u, exec (.xiestClose t ep tag true) s = .next u ∧ (sessOf u ep).open_ = false ∧
      u.dict = s.dict ∧
      Emits u (.xiest ep (rspMsg (mkReq 0x02 tag 0 0 [] true) 0 []))) ∧
  (∀ t (ep : Fin 10) tag num sub s (row : DRow),
    Serves (s.start t) ep (mkReq 0x10 tag num.toNat sub.toNat [] true) →
    readStatus num.toNat sub.toNat s = 0 →
    dictFind num.toNat sub.toNat = some row →
    row.acc ≠ .rc →
    num ≠ 0x8006 →
    ∃ u, exec (.xiestRead t ep tag true num sub) s = .next u ∧ Emits u (.xiest ep (rspMsg (mkReq 0x10 tag num.toNat sub.toNat [] true) 0 ((encVal row.ty (view (s.start t) num.toNat sub.toNat)).take 65535))) ∧
      u.dict = s.dict ∧
      u.chan = s.chan) ∧
  (∀ t (ep : Fin 10) tag num sub val s,
    Serves (s.start t) ep (wreq tag num.toNat sub.toNat val) →
    writeStatus ep num.toNat sub.toNat val (s.start t) ≠ 0 →
    ∃ u, exec (.xiestWrite t ep tag true num sub val) s = .next u ∧ Emits u (.xiest ep (rspMsg (wreq tag num.toNat sub.toNat val) (writeStatus ep num.toNat sub.toNat val (s.start t)) [])) ∧
      u.dict = s.dict ∧
      u.dev = s.dev) ∧
  (∀ t (ep : Fin 10) tag num sub s (row : DRow),
    Serves (s.start t) ep (mkReq 0x12 tag num.toNat sub.toNat [] true) →
    s.dev ≠ .recovery →
    dictFind num.toNat sub.toNat = some row →
    ∃ u, exec (.xiestDescribe t ep tag true num sub) s = .next u ∧ Emits u (.xiest ep (rspMsg (mkReq 0x12 tag num.toNat sub.toNat [] true) 0 (describe s row sub.toNat))) ∧
      (describe s row sub.toNat).length = 16 ∧
      u.dict = s.dict) ∧
  (∀ t (ep : Fin 10) tag op num sub val s,
    Serves (s.start t) ep (mkReq op tag num.toNat sub.toNat val true) →
    op.toNat ∉ [1, 2, 0x10, 0x11, 0x12] →
    ∃ u, exec (.xiestUnknownOp t ep tag true op num sub val) s = .next u ∧ Emits u (.xiest ep (rspMsg (mkReq op tag num.toNat sub.toNat val true) 2 [])) ∧
      u.dict = s.dict) ∧
  (∀ t (ep : Fin 10) tag num sub s, delivers s ep = true → s.dev ≠ .boot → (sessOf s ep).open_ = false →
    ∃ u, exec (.xiestRead t ep tag true num sub) s = .next u ∧ Emits u (.xiest ep (rspMsg (mkReq 0x10 tag num.toNat sub.toNat [] true) 6 [])) ∧
      (sessOf u ep).open_ = false) ∧
  (∀ t (ep : Fin 10) tag lo hi s, delivers s ep = true → s.dev = .boot →
    ∃ u, exec (.xiestOpen t ep tag true lo hi) s = .next u ∧ (sessOf u ep).open_ = (sessOf s ep).open_ ∧
      Emits u (.xiest ep (rspMsg (mkReq 0x01 tag 0 0 (leBytes 2 lo.toNat ++ leBytes 2 hi.toNat) true) 3 []))) ∧
  (∀ t (ep : Fin 10) s, (sessOf s ep).lastAt + parN s 0x1031 0 * secU ≤ instant s t →
    ∃ u, exec (.sessionTimeout t ep) s = .next u ∧ (sessOf u ep).open_ = false ∧
      ((sessOf s ep).priv = true → (sessOf s ep).open_ = true → u.xi.work = none))

/-- A first segment starts a message, a continuation with the next counter adds to it (after every sixteenth the device
sends flow control), a complete request is served, another counter or 50 ms of silence discards it; flow control
with abort drops the response and continue sends its next segments; a response whose flow control does not come
within 50 ms is abandoned and counted; bus-off leaves the network and counts, recovery joins it again. Commands
shown to complete (exec answers next, on conditions on the state and the operands alone): CAN_SEGMENT, FLOW_CONTROL,
SEGMENT_TIMEOUT, FLOW_CONTROL_TIMEOUT, BUS_OFF, BUS_OFF_RECOVERY. (R554, R556, R557) -/
def Obligations.CanSegments : Prop :=
  (∀ t (net : Fin 2) ident data s,
    delivers s 0 = true →
    net.val = xiNet s →
    ident.toNat = parN s 0x1044 0 →
    (canOf s (xiNet s)).txq = [] →
    (data.getD 0 0).toNat / 64 = 1 →
    data.length = 64 →
    63 < xiLen (data.drop 1) →
    ∃ u, exec (.canSegment t net ident data) s = .next u ∧ (sessOf u 0).rx = data.drop 1 ∧
      (sessOf u 0).rxNext = some 1 ∧
      (sessOf u 0).rxAt = instant s t ∧
      u.out = []) ∧
  (∀ t (net : Fin 2) ident data s,
    delivers s 0 = true →
    net.val = xiNet s →
    ident.toNat = parN s 0x1044 0 →
    (canOf s (xiNet s)).txq = [] →
    data ≠ [] →
    (data.getD 0 0).toNat / 64 = 0 →
    (sessOf s 0).rxNext ≠ some ((data.getD 0 0).toNat % 64) →
    ∃ u, exec (.canSegment t net ident data) s = .next u ∧ (sessOf u 0).rx = [] ∧ (sessOf u 0).rxNext = none ∧
      u.out = []) ∧
  (∀ t (net : Fin 2) ident data s,
    delivers s 0 = true →
    net.val = xiNet s →
    ident.toNat = parN s 0x1044 0 →
    (canOf s (xiNet s)).txq = [] →
    (data.getD 0 0).toNat / 64 = 3 →
    (parseReq (data.drop 1)).good = false →
    ∃ u, exec (.canSegment t net ident data) s = .next u ∧ u.xi.crcErr = satInc s.xi.crcErr ∧
      (sessOf u 0).rx = [] ∧ (sessOf u 0).rxNext = none ∧
      u.out = []) ∧
  (∀ t (net : Fin 2) ident data s (k : Nat),
    delivers s 0 = true →
    net.val = xiNet s →
    ident.toNat = parN s 0x1044 0 →
    (canOf s (xiNet s)).txq = [] →
    data ≠ [] →
    (data.getD 0 0).toNat = k →
    k < 64 →
    (sessOf s 0).rxNext = some k →
    ((sessOf s 0).rx ++ data.drop 1).length < xiLen ((sessOf s 0).rx ++ data.drop 1) →
    ∃ u, exec (.canSegment t net ident data) s = .next u ∧ (sessOf u 0).rx = (sessOf s 0).rx ++ data.drop 1 ∧
      (sessOf u 0).rxNext = some ((k + 1) % 64) ∧
      (sessOf u 0).rxAt = instant s t ∧
      ((k + 1) % 16 = 0 → CanIdle s t (xiNet s) → u.out = [.can (xiNet s) (parN s 0x1045 0) [0x80, ((sessOf s 0).rx ++ data.drop 1).getD 1 0]])) ∧
  (∀ t (net : Fin 2) ident data s,
    delivers s 0 = true →
    net.val = xiNet s →
    ident.toNat = parN s 0x1044 0 →
    (data.getD 0 0).toNat / 64 = 3 →
    (parseReq (data.drop 1)).good = true →
    (parseReq (data.drop 1)).op ≠ 1 →
    s.dev ≠ .boot →
    (sessOf s 0).open_ = false →
    ∃ u, exec (.canSegment t net ident data) s = .next u ∧ Emits u (.xiest 0 (rspMsg (parseReq (data.drop 1)) 6 [])) ∧
      (sessOf u 0).rx = [] ∧ (sessOf u 0).rxNext = none) ∧
  (∀ t tag s (c : BitVec 32) (a : Nat),
    delivers s 0 = true →
    (sessOf s 0).txWait = some a →
    (sessOf s 0).lastTag = some (tag, c) →
    (canOf s (xiNet s)).txq = [] →
    ∃ u, exec (.flowControl t true tag) s = .next u ∧ (sessOf u 0).tx = [] ∧ (sessOf u 0).txWait = none ∧
      u.out = []) ∧
  (∀ t tag s (c : BitVec 32) (a : Nat),
    delivers s 0 = true →
    (sessOf s 0).txWait = some a →
    (sessOf s 0).lastTag = some (tag, c) →
    (sessOf s 0).tx ≠ [] →
    (sessOf s 0).tx.length ≤ 63 →
    CanIdle s t (xiNet s) →
    ∃ u, exec (.flowControl t false tag) s = .next u ∧ (sessOf u 0).tx = [] ∧ (sessOf u 0).txWait = none ∧
      u.out = [.can (xiNet s) (parN s 0x1045 0) (canPad (leBytes 1 ((sessOf s 0).txCnt % 64) ++ (sessOf s 0).tx))]) ∧
  (∀ t s (k : Nat), (sessOf s 0).rxNext = some k → (sessOf s 0).rxAt + 50 * msU ≤ instant s t →
    ∃ u, exec (.segmentTimeout t) s = .next u ∧ (sessOf u 0).rx = [] ∧ (sessOf u 0).rxNext = none ∧
      u.out = []) ∧
  (∀ t s (a : Nat), (sessOf s 0).txWait = some a → a + 50 * msU ≤ instant s t →
    ∃ u, exec (.flowControlTimeout t) s = .next u ∧ (sessOf u 0).tx = [] ∧ (sessOf u 0).txWait = none ∧
      u.xi.canAbort = satInc s.xi.canAbort) ∧
  (∀ t (net : Fin 2) s, (canOf s net).joined = true → (canOf s net).busOff = false → LogRoom s 1 →
    ∃ u, exec (.busOff t net) s = .next u ∧ (canOf u net).busOff = true ∧
      (canOf u net).busOffs = satInc (canOf s net).busOffs ∧
      (net.val = xiNet s → delivers u 0 = false) ∧
      (canOf u net).txq = [] ∧
      Logged s u 0x1F01 net 0) ∧
  (∀ t (net : Fin 2) s, (canOf s net).busOff = true → LogRoom s 1 →
    ∃ u, exec (.busOffRecovery t net) s = .next u ∧ (canOf u net).busOff = false ∧ (canOf u net).recovering = false ∧
      (canOf u net).tec = 0 ∧ (canOf u net).rec_ = 0 ∧
      Logged s u 0x0F02 net 0)

/-- A chunk written while the request buffer is free joins the message and a last chunk ends it, answered STATE in BOOT;
one written while it is not free sets OVERRUN alone; an acknowledged response chunk gives way to the next one, which
the response buffer then reads; an abort discards message and response. A register write to the request buffer
stores its four bytes there and no others. Commands shown to complete (exec answers next, on conditions on the state
and the operands alone): MBX_REQ, MBX_RSP_ACK, MBX_ABORT, REGISTER_WRITE. (R558) -/
def Obligations.Mailbox : Prop :=
  (∀ t v s,
    s.pci.perst = false →
    s.xi.mbx.reqFree = true →
    v.getLsbD 31 = true →
    v.getLsbD 30 = false →
    1 ≤ v.toNat % 8192 ∧ v.toNat % 8192 ≤ 4096 →
    ∃ u, exec (.mbxReq t v) s = .next u ∧ u.xi.mbx.msg = Memory.readBytes s.xi.mbx.req 0 (v.toNat % 8192) ∧
      u.xi.mbx.overrun = false ∧ u.xi.mbx.aborted = false ∧
      (s.eic.active.getLsbD 481 = false → (u.eic.pend.getLsbD 481 || u.eic.active.getLsbD 481) = true)) ∧
  (∀ t v s,
    s.pci.perst = false →
    s.xi.mbx.reqFree = true →
    v.getLsbD 31 = true →
    v.getLsbD 30 = true →
    1 ≤ v.toNat % 8192 ∧ v.toNat % 8192 ≤ 4096 →
    delivers s 1 = true →
    (parseReq (Memory.readBytes s.xi.mbx.req 0 (v.toNat % 8192))).good = false →
    ∃ u, exec (.mbxReq t v) s = .next u ∧ u.xi.mbx.msg = [] ∧
      u.xi.crcErr = satInc s.xi.crcErr ∧
      u.dict = s.dict) ∧
  (∀ t v s (r : Req),
    s.pci.perst = false →
    s.xi.mbx.reqFree = true →
    v.getLsbD 31 = true →
    v.getLsbD 30 = true →
    1 ≤ v.toNat % 8192 ∧ v.toNat % 8192 ≤ 4096 →
    delivers s 1 = true →
    s.dev = .boot →
    r = parseReq (Memory.readBytes s.xi.mbx.req 0 (v.toNat % 8192)) →
    r.good = true →
    ∃ u, exec (.mbxReq t v) s = .next u ∧ Emits u (.xiest 1 (rspMsg r 3 [])) ∧
      u.xi.mbx.msg = [] ∧ u.xi.mbx.rspReady = true) ∧
  (∀ t v s, s.pci.perst = false → s.xi.mbx.reqFree = false →
    ∃ u, exec (.mbxReq t v) s = .next u ∧ u.xi = { s.xi with mbx := { s.xi.mbx with overrun := true } }) ∧
  (∀ t v s (a : Nat),
    v.getLsbD 0 = true →
    s.xi.mbx.rspReady = true →
    s.xi.mbx.out ≠ [] →
    a < (s.xi.mbx.out.take 4096).length →
    Memory.wf s.xi.mbx.rsp = true →
    ∃ u, exec (.mbxRspAck t v) s = .next u ∧ u.xi.mbx.rspReady = true ∧ u.xi.mbx.rspFirst = false ∧
      u.xi.mbx.rspLen = (s.xi.mbx.out.take 4096).length ∧
      u.xi.mbx.out = s.xi.mbx.out.drop 4096 ∧
      u.xi.mbx.rspLast = (s.xi.mbx.out.drop 4096).isEmpty ∧
      Memory.read u.xi.mbx.rsp a = s.xi.mbx.out.getD a 0 ∧
      (∀ b, (s.xi.mbx.out.take 4096).length ≤ b → Memory.read u.xi.mbx.rsp b = Memory.read s.xi.mbx.rsp b)) ∧
  (∀ t v s, v.getLsbD 0 = true → s.xi.mbx.rspReady = true → s.xi.mbx.out = [] →
    ∃ u, exec (.mbxRspAck t v) s = .next u ∧ u.xi.mbx = { s.xi.mbx with rspReady := false, rspFirst := false, rspLast := false, rspLen := 0 }) ∧
  (∀ t v s, v.getLsbD 0 = true →
    ∃ u, exec (.mbxAbort t v) s = .next u ∧ u.xi.mbx.msg = [] ∧ u.xi.mbx.out = [] ∧ u.xi.mbx.rspReady = false ∧ u.xi.mbx.reqFree = true ∧
      u.xi.mbx.aborted = (s.xi.mbx.aborted || !s.xi.mbx.msg.isEmpty || s.xi.mbx.rspReady || s.xi.owed.any fun x => x.2.1 == 1) ∧
      (∀ x ∈ u.xi.owed, x.2.1 ≠ 1)) ∧
  (∀ t (k : Fin 1024) (i : Fin 4) (v : BitVec 32) s, Memory.wf s.xi.mbx.req = true →
    ∃ u, exec (.registerWrite t ⟨1, .bar (BitVec.ofNat 18 (0x2000 + 4 * k.val))⟩ v) s = .next u ∧ Memory.read u.xi.mbx.req (4 * k.val + i.val) = BitVec.ofNat 8 (v.toNat / 2 ^ (8 * i.val)) ∧
      (∀ a, a < 4 * k.val ∨ 4 * k.val + 4 ≤ a → Memory.read u.xi.mbx.req a = Memory.read s.xi.mbx.req a) ∧
      u.xi.mbx.rsp = s.xi.mbx.rsp)

/-- ENTER_CONFIG from RUN or SAFE with the open frame closed, ENTER_RUN from CONFIG with the eye-safety table, the ADC0
sequence and the mirror channel in order, to SAFE while a cause is present or latched, LEAVE_SAFE from SAFE with no
cause; a command in another state, from a transport that CMD_TRANSPORTS does not list, or against its condition is
refused with its CMD_STATUS and the state stays. Commands shown to complete (exec answers next, on conditions on the
state and the operands alone): ENTER_CONFIG, ENTER_RUN, LEAVE_SAFE. (R20, R78, R329, R375, R459, R561, R562, R563) -/
def Obligations.DeviceStates : Prop :=
  (∀ t (ep : Fin 10) tag s,
    Accepts s t ep tag 0x1012 0 [1] →
    s.dev = .run ∨ s.dev = .safe →
    bit (parN s 0x1013 0) ep = true →
    ∃ u, exec (.enterConfig t ep tag) s = .next u ∧ u.dev = .config ∧
      u.xi.cmdStatus = 0 ∧
      (s.rm.framing = true → u.rm.stopNext = true ∧ u.rm.inFrame = false) ∧
      (s.rm.framing = true → s.rm.inFrame = true → u.pt.hdrDue.length = s.pt.hdrDue.length + 1) ∧
      u.adc.runAt = none ∧
      Emits u (.xiest ep (rspMsg (wreq tag 0x1012 0 [1]) 0 []))) ∧
  (∀ t (ep : Fin 10) tag s,
    Accepts s t ep tag 0x1012 0 [2] →
    s.dev = .config →
    bit (parN s 0x1013 0) ep = true →
    runRefused s = 0 →
    s.saf.causes = [] ∧ s.saf.latched = [] →
    s.fe.verDone = true →
    ∃ u, exec (.enterRun t ep tag) s = .next u ∧ u.dev = .run ∧
      u.xi.cmdStatus = 0 ∧
      u.xi.work = none ∧
      u.adc.runAt = some (instant s t) ∧
      Emits u (.xiest ep (rspMsg (wreq tag 0x1012 0 [2]) 0 []))) ∧
  (∀ t (ep : Fin 10) tag s,
    Accepts s t ep tag 0x1012 0 [2] →
    s.dev = .config →
    bit (parN s 0x1013 0) ep = true →
    runRefused s = 0 →
    s.saf.causes ≠ [] ∨ s.saf.latched ≠ [] ∨ s.fe.verDone = false →
    ∃ u, exec (.enterRun t ep tag) s = .next u ∧ u.dev = .safe ∧
      u.xi.cmdStatus = 0) ∧
  (∀ t (ep : Fin 10) tag s,
    Accepts s t ep tag 0x1012 0 [2] →
    s.dev = .config →
    bit (parN s 0x1013 0) ep = true →
    runRefused s ≠ 0 →
    LogRoom s 1 →
    ∃ u, exec (.enterRun t ep tag) s = .next u ∧ u.dev = .config ∧
      u.xi.cmdStatus = (if s.rm.table.isNone then 3 else if adc0Ok s = false then 4 else 5) ∧
      Emits u (.xiest ep (rspMsg (wreq tag 0x1012 0 [2]) 12 [])) ∧
      Logged s u 0x1E07 ep (2 + 256 * u.xi.cmdStatus)) ∧
  (∀ t (ep : Fin 10) tag s,
    Accepts s t ep tag 0x1012 0 [3] →
    s.dev = .safe →
    bit (parN s 0x1013 0) ep = true →
    s.saf.causes = [] ∧ s.saf.latched = [] →
    ∃ u, exec (.leaveSafe t ep tag) s = .next u ∧ u.dev = .run ∧
      u.xi.cmdStatus = 0 ∧
      Emits u (.xiest ep (rspMsg (wreq tag 0x1012 0 [3]) 0 []))) ∧
  (∀ t (ep : Fin 10) tag s,
    Accepts s t ep tag 0x1012 0 [3] →
    s.dev = .safe →
    bit (parN s 0x1013 0) ep = true →
    s.saf.causes ≠ [] ∨ s.saf.latched ≠ [] →
    ∃ u, exec (.leaveSafe t ep tag) s = .next u ∧ u.dev = .safe ∧
      u.xi.cmdStatus = 6 ∧
      u.saf = s.saf) ∧
  (∀ t (ep : Fin 10) tag s, delivers s ep = true → s.dev ≠ .boot → (sessOf s ep).open_ = true →
    bit (parN s 0x1013 0) ep = false → ∀ p ∈ [(1, Instr.enterConfig t ep tag), (2, .enterRun t ep tag), (3, .leaveSafe t ep tag),
      (4, .enterDormant t ep tag), (5, .resetWarm t ep tag), (6, .resetFull t ep tag), (7, .store t ep tag),
      (8, .restoreDefaults t ep tag), (9, .seal t ep tag), (10, .discard t ep tag)],
    isRepeat ep (wreq tag 0x1012 0 [BitVec.ofNat 8 p.1]) (s.start t) = false →
    ∃ u, exec p.2 s = .next u ∧ u.dev = s.dev ∧ u.xi.cmdStatus = (if cmdFrom p.1 s.dev then 2 else 1) ∧
      Emits u (.xiest ep (rspMsg (wreq tag 0x1012 0 [BitVec.ofNat 8 p.1]) 12 [])) ∧ u.dict = s.dict ∧ u.upd = s.upd)

/-- RESET_WARM, RESET_FULL and ENTER_DORMANT answer OK and are kept with their instant; DORMANT is entered 10 ms later
with every session closed, the wake settings stored and PWRREQ low; an enabled wake source drives PWRREQ high, and
100 ms without supplies take it low again. Commands shown to complete (exec answers next, on conditions on the state
and the operands alone): RESET_WARM, RESET_FULL, ENTER_DORMANT, DORMANT_ENTRY, DORMANT_WAKE, WAKE_SUPPLY_TIMEOUT.
(R561, R562, R614, R615, R651, R653) -/
def Obligations.CommandedResetsAndDormant : Prop :=
  (∀ t (ep : Fin 10) tag s,
    Accepts s t ep tag 0x1012 0 [5] →
    s.dev ≠ .off ∧ s.dev ≠ .dormant →
    bit (parN s 0x1013 0) ep = true →
    s.xi.resetAt = none →
    ∃ u, exec (.resetWarm t ep tag) s = .next u ∧ u.xi.resetAt = some (.warm, instant s t, ep.val) ∧
      u.dev = s.dev ∧
      Emits u (.xiest ep (rspMsg (wreq tag 0x1012 0 [5]) 0 []))) ∧
  (∀ t (ep : Fin 10) tag s,
    Accepts s t ep tag 0x1012 0 [6] →
    s.dev ≠ .off ∧ s.dev ≠ .dormant →
    bit (parN s 0x1013 0) ep = true →
    s.xi.resetAt.map (·.1) ≠ some .full →
    ∃ u, exec (.resetFull t ep tag) s = .next u ∧ u.xi.resetAt = some (.full, instant s t, ep.val) ∧
      u.dev = s.dev ∧
      Emits u (.xiest ep (rspMsg (wreq tag 0x1012 0 [6]) 0 []))) ∧
  (∀ t (ep : Fin 10) tag s,
    Accepts s t ep tag 0x1012 0 [4] →
    s.dev = .config →
    bit (parN s 0x1013 0) ep = true →
    ∃ u, exec (.enterDormant t ep tag) s = .next u ∧ u.xi.dormantAt = some (instant s t, ep.val) ∧
      u.dev = .config ∧
      Emits u (.xiest ep (rspMsg (wreq tag 0x1012 0 [4]) 0 []))) ∧
  (∀ t (ep : Fin 10) s (a e : Nat),
    s.xi.dormantAt = some (a, e) →
    s.dev = .config →
    a + 10 * msU ≤ instant s t →
    ∃ u, exec (.dormantEntry t) s = .next u ∧ u.dev = .dormant ∧
      (sessOf u ep).open_ = false ∧
      delivers u ep = false ∧
      u.thm.pwrreq = false ∧
      u.thm.wakeEn = parN s 0x7018 0 ∧ u.thm.wakeTime = parN s 0x7019 0 ∧
      u.fld.bridgeOn = false ∧
      Emits u (.ball "PWRREQ" 0)) ∧
  (∀ t (src : Fin 4) s,
    s.dev = .dormant →
    bit s.thm.wakeEn src = true →
    s.thm.wakePend = none →
    (src.val = 3 → s.thm.wakeTime ≠ 0 ∧ s.thm.wakeTime ≤ Config.rtcSeconds (instant s t - s.thm.dormantFrom)) →
    ∃ u, exec (.dormantWake t src) s = .next u ∧ u.thm.pwrreq = true ∧
      u.thm.wakePend = some (src.val, instant s t) ∧
      u.dev = .dormant ∧
      u.out = [.ball "PWRREQ" 1]) ∧
  (∀ t s (a k : Nat), s.dev = .dormant → s.thm.wakePend = some (k, a) → a + 100 * msU ≤ instant s t →
    ∃ u, exec (.wakeSupplyTimeout t) s = .next u ∧ u.thm.pwrreq = false ∧
      u.thm.wakePend = none ∧
      u.out = [.ball "PWRREQ" 0])

/-- STORE takes the snapshot of the stored entries, erases the copy not loaded and answers OK; its completion puts the
snapshot with the next generation there, the other copy kept; STORE during a Store is BUSY and outside the window
TEMP; RESTORE_DEFAULTS gives a stored entry its default at its apply time; SEAL writes the copy of set N not in
force and its record; DISCARD drops the working copy; AUTORUN acts as ENTER_RUN. Commands shown to complete (exec
answers next, on conditions on the state and the operands alone): STORE, STORE_COMPLETE, RESTORE_DEFAULTS, SEAL,
DISCARD, AUTORUN. (R560, R563, R564, R565, R566, R621, R624, R660) -/
def Obligations.StoreAndSeal : Prop :=
  (∀ t (ep : Fin 10) tag s,
    Accepts s t ep tag 0x1012 0 [7] →
    s.dev = .config ∨ s.dev = .run ∨ s.dev = .safe →
    bit (parN s 0x1013 0) ep = true →
    s.xi.storing = none →
    flashWindow s = true →
    ∃ u, exec (.store t ep tag) s = .next u ∧ u.xi.storeSt = 1 ∧
      u.xi.storing = some (snapshot s) ∧
      (s.xi.jrnInB = false → u.xi.jrnB = none ∧ u.xi.jrnA = s.xi.jrnA) ∧
      (s.xi.jrnInB = true → u.xi.jrnA = none ∧ u.xi.jrnB = s.xi.jrnB) ∧
      Emits u (.xiest ep (rspMsg (wreq tag 0x1012 0 [7]) 0 []))) ∧
  (∀ t (ep : Fin 10) tag s,
    Accepts s t ep tag 0x1012 0 [7] →
    s.dev = .config ∨ s.dev = .run ∨ s.dev = .safe →
    bit (parN s 0x1013 0) ep = true →
    s.xi.storing ≠ none ∨ flashWindow s = false →
    ∃ u, exec (.store t ep tag) s = .next u ∧ u.xi.cmdStatus = (if s.xi.storing.isSome then 7 else 8) ∧
      Emits u (.xiest ep (rspMsg (wreq tag 0x1012 0 [7]) (if s.xi.storing.isSome then 8 else 11) [])) ∧
      u.xi.storing = s.xi.storing ∧ u.xi.jrnA = s.xi.jrnA ∧ u.xi.jrnB = s.xi.jrnB) ∧
  (∀ t s (l : List (Nat × DVal)), s.xi.storing = some l → LogRoom s 1 →
    ∃ u, exec (.storeComplete t) s = .next u ∧ u.xi.storing = none ∧
      u.xi.storeSt = 2 ∧
      u.xi.storeGen = s.xi.storeGen + 1 ∧
      u.xi.jrnInB = !s.xi.jrnInB ∧
      (s.xi.jrnInB = false → u.xi.jrnA = s.xi.jrnA ∧ u.xi.jrnB.map (fun j => (j.gen, j.ents)) = some (s.xi.storeGen + 1, l)) ∧
      (s.xi.jrnInB = true → u.xi.jrnB = s.xi.jrnB ∧ u.xi.jrnA.map (fun j => (j.gen, j.ents)) = some (s.xi.storeGen + 1, l)) ∧
      Logged s u 0x0E02 noSrc (s.xi.storeGen + 1).toNat) ∧
  (∀ t (ep : Fin 10) tag s (k : Nat) (v : DVal) (row : DRow),
    Accepts s t ep tag 0x1012 0 [8] →
    s.dev = .config →
    bit (parN s 0x1013 0) ep = true →
    (k, v) ∈ s.dict.inForce →
    keyStored k = true →
    dictFind (k / 256) (k % 256) = some row →
    row.app = .frame ∨ row.app = .phase →
    ∃ u, exec (.restoreDefaults t ep tag) s = .next u ∧ dlook u.dict.held (dkey row.num (k % 256)) = some (rowDefault row (k % 256)) ∧
      u.xi.cmdStatus = 0) ∧
  (∀ t (ep : Fin 10) tag s,
    Accepts s t ep tag 0x1012 0 [9] →
    s.dev = .config →
    bit (parN s 0x1013 0) ep = true →
    isSafety s ep = true →
    s.xi.storing = none →
    flashWindow s = true →
    pinsForSet s = true →
    setRules412 (workCopy s) = true →
    setRules432 s (workCopy s) = true →
    ∃ u, exec (.seal t ep tag) s = .next u ∧ u.xi.work = none ∧
      u.xi.cmdStatus = 0 ∧
      (setInForce u (pinSet s)).map (·.1) = some (nextRecord (setPkg s (pinSet s) 0).rec_ (setPkg s (pinSet s) 1).rec_ 0 15).1 ∧
      (setPkg u (pinSet s) (nextRecord (setPkg s (pinSet s) 0).rec_ (setPkg s (pinSet s) 1).rec_ 0 15).1).rec_ =
      some (nextRecord (setPkg s (pinSet s) 0).rec_ (setPkg s (pinSet s) 1).rec_ 0 15).2 ∧
      setPkg u (pinSet s) (1 - (nextRecord (setPkg s (pinSet s) 0).rec_ (setPkg s (pinSet s) 1).rec_ 0 15).1) =
      setPkg s (pinSet s) (1 - (nextRecord (setPkg s (pinSet s) 0).rec_ (setPkg s (pinSet s) 1).rec_ 0 15).1)) ∧
  (∀ t (ep : Fin 10) tag s,
    Accepts s t ep tag 0x1012 0 [10] →
    s.dev = .config →
    bit (parN s 0x1013 0) ep = true →
    isSafety s ep = true →
    ∃ u, exec (.discard t ep tag) s = .next u ∧ u.xi.work = none ∧
      u.xi.cmdStatus = 0 ∧
      u.upd = s.upd) ∧
  (∀ t s,
    s.dev = .config →
    s.rst.autoWait = true →
    s.rst.configAt + parN s 0x1016 0 * msU ≤ instant s t →
    runRefused s = 0 →
    ∃ u, exec (.autorun t) s = .next u ∧ u.rst.autoWait = false ∧
      u.dev = (if s.saf.causes = [] ∧ s.saf.latched = [] ∧ s.fe.verDone = true then .run else .safe)) ∧
  (∀ t s,
    s.dev = .config →
    s.rst.autoWait = true →
    (s.adc.refReady = true ∧ measPending s = 0) ∨ s.rst.configAt + parN s 0x1016 0 * msU ≤ instant s t →
    runRefused s ≠ 0 →
    LogRoom s 1 →
    ∃ u, exec (.autorun t) s = .next u ∧ u.rst.autoWait = false ∧
      u.dev = .config ∧
      u.xi.cmdStatus = runRefused s ∧
      Logged s u 0x1E07 noSrc (2 + 256 * runRefused s))

/-- The highest of the 20 core nodes is T_die_max and the lowest T_die_min: each is the temperature of one of them and
bounds all; above 130 °C it closes every charging window, and as the die's own condition. (R604) -/
def Obligations.DieTemperatures : Prop :=
  (∀ s : State, (∃ k < 20, nodeT s k = dieMax s) ∧ (∃ k < 20, nodeT s k = dieMin s) ∧
    (∀ k < 20, dieMin s ≤ nodeT s k ∧ nodeT s k ≤ dieMax s) ∧
    ∀ (b : Fin 4), 130000 < dieMax s → (bankOf (windowChecks s) b).windowClosed = true ∧ (windowChecks s).fld.chgDieClosed = true)

/-- Every 40 µs the throttle level moves by one towards its target and its interrupt source follows; a broken sensor
returns after 1 s without a condition; shutdown clears after 10 s at 110 °C or less with the chargers going on; in
adaptive mode the VID code moves by one, at most once in 100 µs; every 100 µs a model step gives each node without a
sensor its new temperature from temperatures and powers, and at 135 °C shuts the device down. Commands shown to
complete (exec answers next, on conditions on the state and the operands alone): THROTTLE_STEP, SENSOR_RESTORED,
SHUTDOWN_CLEARED, VCORE_ADJUST, THERMAL_MODEL_STEP. (R599, R600, R605, R606, R607, R608, R609, R611, R612, R616) -/
def Obligations.ThermalEvents : Prop :=
  (∀ t s, s.thm.stepAt + 40 * usU ≤ instant s t →
    ∃ u, exec (.throttleStep t) s = .next u ∧ (u.thm.level : Int) = s.thm.level + (if s.thm.level < throttleTarget s then 1 else if throttleTarget s < s.thm.level then -1 else 0) ∧
      u.thm.stepAt = instant s t ∧
      u.thm.node = s.thm.node ∧
      (s.thm.level = 256 → throttleTarget s < 256 → LogRoom s 1 → Logged s u 0x2D01 noSrc (deciBits (tThr s))) ∧
      (s.thm.level = 256 → throttleTarget s < 256 → u.eic.level.getLsbD 448 = true ∧ u.thm.throttleAt = some (instant s t))) ∧
  (∀ t s, instant s t < s.thm.stepAt + 40 * usU →
    ∃ u, exec (.throttleStep t) s = .next u ∧ u.thm = s.thm) ∧
  (∀ t (k : Fin 10) s (a : Nat),
    (sensOf s k).broken = true →
    (sensOf s k).okFrom = some a →
    a + secU ≤ instant s t →
    LogRoom s 1 →
    ∃ u, exec (.sensorRestored t k) s = .next u ∧ (sensOf u k).broken = false ∧
      (sensOf u k).t = (sensOf s k).t ∧
      Logged s u 0x0D04 k 0) ∧
  (∀ t s (a : Nat),
    s.thm.shutdown = true →
    s.thm.coolFrom = some a →
    a + 10 * secU ≤ instant s t →
    LogRoom s 1 →
    ∃ u, exec (.shutdownCleared t) s = .next u ∧ u.thm.shutdown = false ∧
      u.fld.shutdownStop = false ∧
      .shutdown ∉ u.saf.causes ∧ .shutdown ∉ u.saf.latched ∧
      u.dev = s.dev ∧
      Logged s u 0x0D06 noSrc 0) ∧
  (∀ t s, parN s 0x7010 0 = 0 → s.thm.vidAt + 100 * usU ≤ instant s t → s.thm.vid < 15 →
    ∃ u, exec (.vcoreAdjust t true false) s = .next u ∧ u.thm.vid = s.thm.vid + 1 ∧
      u.thm.vidAt = instant s t ∧
      Emits u (.ball "VID" (s.thm.vid + 1))) ∧
  (∀ t s, parN s 0x7010 0 = 0 → s.thm.vidAt + 100 * usU ≤ instant s t → 0 < s.thm.vid →
    ∃ u, exec (.vcoreAdjust t false true) s = .next u ∧ u.thm.vid = s.thm.vid - 1 ∧
      Emits u (.ball "VID" (s.thm.vid - 1))) ∧
  (∀ t (full idle : Bool) s,
    parN s 0x7010 0 ≠ 0 ∨ instant s t < s.thm.vidAt + 100 * usU ∨ (full = false ∧ idle = false) →
    ∃ u, exec (.vcoreAdjust t full idle) s = .next u ∧ u.thm = s.thm ∧
      u.out = []) ∧
  (∀ t die counts s, periodDue s.thm.modelAt (100 * usU) (instant s t) = true →
    ∃ u, exec (.thermalModelStep t die counts) s = .next u ∧ (∀ k, k < 22 → k ∉ [1, 5, 9, 12, 14, 15, 16, 18] → nodeT u k = Config.thermNode k ((upto 24).map (nodeT s)) ((upto 16).map fun j =>
      nsum ((u.thm.power.filter fun q => Config.islandNode q.1 % 16 == j).map (·.2)) + Config.leakage j (nodeT s j) s.thm.vid) s.fld.fldPower (parN s 0x7007 0)) ∧
      u.thm.power = counts.foldl (fun b c => bset b c.1 (islandPower c.1 c.2)) [] ∧
      u.thm.modelAt = some (instant s t) ∧
      (135000 ≤ dieMax u → s.thm.shutdown = false → u.thm.shutdown = true ∧ .shutdown ∈ u.saf.causes ∧ .shutdown ∈ u.rm.inhibits ∧ u.fld.shutdownStop = true ∧ u.dev ≠ .run) ∧
      u.thm.counts = counts.foldl (fun b c => bset b c.1 c.2) [] ∧
      u.thm.stepAt = s.thm.stepAt)

/-- A VMACH below 8.0 V records its value, switches every output off and arises as a SAFE cause; its return to 8.5 V
removes the cause. A VHV_IN below 10.0 V stops the chargers and is logged; its return to 10.5 V lets them go on.
PORn asks for FULL with cause 0 and a supply monitor with cause 1, which keep an earlier FULL request; a core
watchdog asks for WARM with cause 2, and for FULL within 60 s of the one before; a fatal error or a failed self-test
of the safety core ends every output request and asks for FULL with cause 4; a passed self-test changes nothing.
Commands shown to complete (exec answers next, on conditions on the state and the operands alone): VMACH_LOW,
VMACH_RESTORED, VHV_IN_LOW, VHV_IN_RESTORED, PORN, SUPPLY_MONITOR, CORE_WATCHDOG, SAFETY_CORE_FATAL_ERROR,
SC_SELF_TEST. (R648, R46, R445, R614, R647, R652, R653, R654) -/
def Obligations.SuppliesAndResetRequests : Prop :=
  (∀ t v (n : Fin 4) s, v < 800 → s.thm.vmachLow = false → s.dev = .run →
    ∃ u, exec (.vmachLow t v) s = .next u ∧ u.dev = .safe ∧
      (outOf u n).on = false ∧
      .vmachLow ∈ u.saf.causes ∧
      u.thm.vmachLow = true ∧ u.thm.vmach = v) ∧
  (∀ t v s, 850 ≤ v → s.thm.vmachLow = true → LogRoom s 1 →
    ∃ u, exec (.vmachRestored t v) s = .next u ∧ .vmachLow ∉ u.saf.causes ∧ .vmachLow ∉ u.saf.latched ∧
      u.thm.vmachLow = false ∧ u.thm.vmach = v ∧
      u.dev = s.dev ∧
      Logged s u 0x0D08 noSrc (v % 65536)) ∧
  (∀ t v s, v < 1000 → s.thm.vhvLow = false → LogRoom s 1 →
    ∃ u, exec (.vhvInLow t v) s = .next u ∧ u.fld.chargersStopped = true ∧
      u.thm.vhvLow = true ∧ u.thm.vhv = v ∧
      u.dev = s.dev ∧
      Logged s u 0x1D09 noSrc (v % 65536)) ∧
  (∀ t v s, 1050 ≤ v → s.thm.vhvLow = true → LogRoom s 1 →
    ∃ u, exec (.vhvInRestored t v) s = .next u ∧ u.fld.chargersStopped = false ∧
      u.thm.vhvLow = false ∧ u.thm.vhv = v ∧
      Logged s u 0x0D0A noSrc (v % 65536)) ∧
  (∀ t s, s.rst.request.map (·.1) ≠ some .full →
    ∃ u, exec (.porn t) s = .next u ∧ u.rst.request = some (.full, 0) ∧
      u.dev = s.dev) ∧
  (∀ t s (c : Nat), s.rst.request = some (.full, c) →
    ∃ u, exec (.porn t) s = .next u ∧ u.rst.request = some (.full, c)) ∧
  (∀ t (supply : Fin 8) s, s.rst.request.map (·.1) ≠ some .full → s.dev ≠ .dormant ∨ supply = 0 →
    ∃ u, exec (.supplyMonitor t supply) s = .next u ∧ u.rst.request = some (.full, 1) ∧
      u.dev = s.dev) ∧
  (∀ t (core : Fin 4) s,
    s.dev ≠ .off ∧ s.dev ≠ .dormant →
    s.rst.request = none →
    (∀ a ∈ s.rst.wdgAt, a + 60 * secU < instant s t) →
    LogRoom s 1 →
    ∃ u, exec (.coreWatchdog t core) s = .next u ∧ u.rst.request = some (.warm, 2) ∧
      u.rst.wdgAt = some (instant s t) ∧
      u.rst.escal = s.rst.escal ∧
      Logged s u 0x3002 core 0) ∧
  (∀ t (core : Fin 4) s (a : Nat),
    s.dev ≠ .off ∧ s.dev ≠ .dormant →
    s.rst.request.map (·.1) ≠ some .full →
    (∀ r ∈ s.rst.request, r.2 ≠ 2) →
    s.rst.wdgAt = some a →
    instant s t ≤ a + 60 * secU →
    ∃ u, exec (.coreWatchdog t core) s = .next u ∧ u.rst.request = some (.full, 2) ∧
      u.rst.escal = some core.val) ∧
  (∀ t (n : Fin 4) s, s.dev ≠ .off ∧ s.dev ≠ .dormant → s.rst.request.map (·.1) ≠ some .full → LogRoom s 1 →
    ∃ u, exec (.safetyCoreFatalError t) s = .next u ∧ u.rst.request = some (.full, 4) ∧
      (outOf u n).request = false ∧
      u.upd.fatalSeen = true ∧
      Logged s u 0x4003 noSrc 0) ∧
  (∀ t (n : Fin 4) s, s.dev ≠ .off ∧ s.dev ≠ .dormant → s.rst.request.map (·.1) ≠ some .full → LogRoom s 1 →
    ∃ u, exec (.scSelfTest t false) s = .next u ∧ u.rst.request = some (.full, 4) ∧
      (outOf u n).request = false ∧
      Logged s u 0x4003 noSrc 0) ∧
  (∀ t s,
    ∃ u, exec (.scSelfTest t true) s = .next u ∧ u.rst = s.rst ∧ u.fld = s.fld ∧ u.saf = s.saf ∧ u.log = s.log ∧
      u.out = [])

/-- A requested FULL or WARM reset takes the device to BOOT with the internal reset held, every gate low, the dictionary
at its defaults and every session closed; flash, counters and journal survive; FULL clears the recorder and
Ringmaster, WARM keeps the captures' numbers and the SAFE causes that only FULL removes; without a reason nothing
begins. A commanded reset begins 10 ms after its response with cause 3. The release of the internal reset samples
BOOTSEL and drives gates, outputs and loops to their harmless states. Commands shown to complete (exec answers next,
on conditions on the state and the operands alone): FULL_RESET, WARM_RESET, INTERNAL_RESET_RELEASE. (R484, R562,
R649, R650, R651, R653, R655, R662) -/
def Obligations.ResetBegin : Prop :=
  (∀ t (ep : Fin 10) (em : Fin 32) s (c : Nat), s.rst.request = some (.full, c) → s.rst.phase = .none →
    ∃ u, exec (.fullReset t) s = .next u ∧ u.dev = .boot ∧
      u.rst.phase = .held ∧ u.rst.level = .full ∧ u.rst.cause = c ∧ u.rst.request = none ∧
      Emits u (.gate em false) ∧
      u.dict = State.reset.dict ∧
      (sessOf u ep).open_ = false ∧
      u.upd.slots = s.upd.slots ∧ u.upd.eyeCopies = s.upd.eyeCopies ∧ u.upd.setCopies = s.upd.setCopies ∧ u.upd.counters = s.upd.counters ∧
      u.xi.jrnA = s.xi.jrnA ∧ u.xi.jrnB = s.xi.jrnB ∧
      u.car = {} ∧
      u.rm = { ({} : RmS) with degrade := u.rm.degrade } ∧
      u.tb = instant s t) ∧
  (∀ t (ep : Fin 10) s (a e : Nat),
    s.rst.request = none →
    s.rst.phase = .none →
    s.xi.resetAt = some (.full, a, e) →
    a + 10 * msU ≤ instant s t →
    ∃ u, exec (.fullReset t) s = .next u ∧ u.dev = .boot ∧
      u.rst.level = .full ∧ u.rst.cause = 3 ∧
      u.xi.resetAt = none ∧
      (sessOf u ep).open_ = false) ∧
  (∀ t (ep : Fin 10) (em : Fin 32) s (c : Nat), s.rst.request = some (.warm, c) → s.rst.phase = .none →
    ∃ u, exec (.warmReset t) s = .next u ∧ u.dev = .boot ∧
      u.rst.phase = .held ∧ u.rst.level = .warm ∧ u.rst.cause = c ∧
      Emits u (.gate em false) ∧
      u.dict = State.reset.dict ∧
      (sessOf u ep).open_ = false ∧
      u.upd.slots = s.upd.slots ∧ u.upd.counters = s.upd.counters ∧
      u.saf.causes = s.saf.causes.filter fullOnly ∧
      u.car.captureNo = s.car.captureNo ∧ u.car.bootEpoch = s.car.bootEpoch ∧ u.car.chOos = s.car.chOos ∧
      u.thm.shutdowns = s.thm.shutdowns) ∧
  (∀ t s, s.rst.request = none → s.xi.resetAt = none → s.thm.wakePend = none →
    ∃ u, exec (.warmReset t) s = .next u ∧ u.rst = s.rst ∧ u.dev = s.dev ∧ u.dict = s.dict ∧
      u.out = []) ∧
  (∀ t bootsel s, s.rst.phase = .held →
    ∃ u, exec (.internalResetRelease t bootsel) s = .next u ∧ u.rst.phase = .released ∧
      u.rst.releasedAt = instant s t ∧
      u.rst.bootsel = bootsel ∧
      (∀ em : Fin 32, Emits u (.gate em false)) ∧
      (∀ n : Fin 4, Emits u (.ball "SO off" n)) ∧
      (∀ n : Fin 2, Emits u (.ball "LOOP 0 mA" n)) ∧
      u.dev = s.dev)

/-- The lock after the release ends the reset with T64 at zero, the cause recorded and logged, and RECOVERY entered when
BOOTSEL asks for it; a later lock is recorded. BOOT completes into CONFIG with both networks joined and READY high,
with a SAFE cause when the SAFECFG pins give no set. A field side that is not ready 1 s after the release is logged
once and BOOT goes on. Commands shown to complete (exec answers next, on conditions on the state and the operands
alone): TB_LOCK, BOOT_COMPLETE, FIELD_SIDE_NOT_READY. (R10, R427, R567, R643, R655, R656, R657, R660, R661) -/
def Obligations.StartUp : Prop :=
  (∀ t die s, s.rst.phase = .released → LogRoom s 1 →
    ∃ u, exec (.tbLock t die) s = .next u ∧ u.rst.phase = .none ∧
      u.tbs.lock = true ∧ u.tbs.lockAt = instant s t ∧
      t64Now u = 0 ∧
      Logged s u 0x0001 noSrc ((if s.rst.level = .full then 0 else 1) + 256 * s.rst.cause + 65536 * u.car.bootEpoch.toNat) ∧
      (s.rst.bootsel = false → u.dev = .recovery ∧ u.upd.recCause = 2)) ∧
  (∀ t die s, s.rst.phase = .none → s.tbs.lock = false → s.dev ≠ .dormant ∧ s.dev ≠ .off →
    ∃ u, exec (.tbLock t die) s = .next u ∧ u.tbs.lock = true ∧ u.tbs.lockAt = instant s t ∧ u.tbs.refOk = true ∧
      u.dev = s.dev) ∧
  (∀ t pins cap kat (n : Fin 2) s, s.dev = .boot → s.rst.phase = .none → s.tbs.lock = true →
    ∃ u, exec (.bootComplete t pins cap kat) s = .next u ∧ u.dev = .config ∧
      (canOf u n).joined = true ∧
      u.rst.configAt = instant s t ∧
      u.rst.ready = true ∧ u.rst.runOk = false ∧
      u.saf.pinsBoot = pins ∧
      (pinsValid pins = false → .cfgBoot ∈ u.saf.causes) ∧
      (s.xi.jrnA = none → s.xi.jrnB = none → LogRoom s 1 → Logged s u 0x1E05 noSrc 0)) ∧
  (∀ t s,
    s.dev = .boot →
    s.rst.phase ≠ .held →
    s.rst.releasedAt + secU ≤ instant s t →
    s.rst.notReady = false →
    LogRoom s 1 →
    ∃ u, exec (.fieldSideNotReady t false true true) s = .next u ∧ u.dev = .boot ∧
      u.rst.notReady = true ∧ u.rst.supplyGood = false ∧ u.rst.linksTrained = true ∧
      Logged s u 0x3005 noSrc 1) ∧
  (∀ t vfld exc links s,
    s.dev = .boot →
    s.rst.phase ≠ .held →
    s.rst.releasedAt + secU ≤ instant s t →
    s.rst.notReady = true →
    vfld = false ∨ exc = false ∨ links = false →
    ∃ u, exec (.fieldSideNotReady t vfld exc links) s = .next u ∧ u.dev = .boot ∧
      u.log = s.log ∧
      u.rst.linksTrained = links)

/-- OPEN of a privileged session takes the lock for its endpoint; without privilege it is answered SAFETY, and while
another endpoint holds the lock BUSY; every update write of the holder keeps the lock, and every one of another
endpoint is answered BUSY with nothing changed. Commands shown to complete (exec answers next, on conditions on the
state and the operands alone): UPD_OPEN, UPD_DATA. (R630) -/
def Obligations.UpdateLock : Prop :=
  (∀ t (ep : Fin 10) tag s,
    Accepts s t ep tag 0x8000 0 [1] →
    s.upd.lock = none ∨ s.upd.lock = some ep.val →
    (sessOf s ep).priv = true →
    s.upd.st = 0 →
    ∃ u, exec (.updOpen t ep tag) s = .next u ∧ u.upd.lock = some ep.val ∧
      u.upd.lockAt = instant s t ∧
      (s.upd.bgReady = none → u.upd.st = 1 ∧ u.upd.received = 0) ∧
      Emits u (.xiest ep (rspMsg (wreq tag 0x8000 0 [1]) 0 []))) ∧
  (∀ t (ep : Fin 10) tag s,
    Accepts s t ep tag 0x8000 0 [1] →
    s.upd.lock = none ∨ s.upd.lock = some ep.val →
    (sessOf s ep).priv = false →
    ∃ u, exec (.updOpen t ep tag) s = .next u ∧ u.upd.lock = s.upd.lock ∧ u.upd.st = s.upd.st ∧
      Emits u (.xiest ep (rspMsg (wreq tag 0x8000 0 [1]) 9 []))) ∧
  (∀ t (ep : Fin 10) tag s (e : Nat), s.upd.lock = some e → e ≠ ep.val → ∀ p ∈ [(1, Instr.updOpen t ep tag),
      (2, .updVerify t ep tag), (3, .updActivate t ep tag), (4, .updAbort t ep tag), (5, .updClose t ep tag),
      (6, .updConfirm t ep tag)],
    Accepts s t ep tag 0x8000 0 [BitVec.ofNat 8 p.1] →
    ∃ u, exec p.2 s = .next u ∧ u.upd = s.upd ∧ Emits u (.xiest ep (rspMsg (wreq tag 0x8000 0 [BitVec.ofNat 8 p.1]) 8 []))) ∧
  (∀ t (ep : Fin 10) tag ofs data s (e : Nat),
    Accepts s t ep tag 0x8002 0 (leBytes 4 ofs.toNat ++ data) →
    s.upd.lock = some e →
    e ≠ ep.val →
    ∃ u, exec (.updData t ep tag ofs data) s = .next u ∧ u.upd = s.upd ∧
      Emits u (.xiest ep (rspMsg (wreq tag 0x8002 0 (leBytes 4 ofs.toNat ++ data)) 8 []))) ∧
  (∀ t (ep : Fin 10) tag s, s.upd.lock = some ep.val → ∀ p ∈ [(1, Instr.updOpen t ep tag),
      (2, .updVerify t ep tag), (3, .updActivate t ep tag), (6, .updConfirm t ep tag)],
    Accepts s t ep tag 0x8000 0 [BitVec.ofNat 8 p.1] →
    ∃ u, exec p.2 s = .next u ∧ u.upd.lock = s.upd.lock ∧ u.upd.lockAt = instant s t) ∧
  (∀ t (ep : Fin 10) tag ofs data s,
    Accepts s t ep tag 0x8002 0 (leBytes 4 ofs.toNat ++ data) →
    s.upd.lock = some ep.val →
    ∃ u, exec (.updData t ep tag ofs data) s = .next u ∧ u.upd.lock = some ep.val ∧
      u.upd.lockAt = instant s t)

/-- The first bytes wait for the header, payload bytes are programmed at the end of the staging area; VERIFY starts
verification, whose result gives VERIFIED or FAILED with the reason; ACTIVATE of an image writes a boot selector
record with TRIAL 2 for its slot; ABORT, CLOSE and 30 s of silence release the lock and discard what is staged;
CONFIRM and the conditions confirm a trial, 60 s without them ask for a FULL reset. Commands shown to complete (exec
answers next, on conditions on the state and the operands alone): UPD_DATA, UPD_VERIFY, VERIFY_COMPLETE,
UPD_ACTIVATE, UPD_ABORT, UPD_CLOSE, UPDATE_LOCK_EXPIRY, UPD_CONFIRM, IMAGE_CONFIRMED, TRIAL_EXPIRED. (R619, R620,
R621, R625, R627, R631, R633, R634, R635, R636, R638, R639) -/
def Obligations.UpdatePackage : Prop :=
  (∀ t (ep : Fin 10) tag ofs data s,
    Accepts s t ep tag 0x8002 0 (leBytes 4 ofs.toNat ++ data) →
    s.upd.lock = some ep.val →
    s.upd.st = 1 ∨ s.upd.st = 2 →
    ofs.toNat = s.upd.received →
    s.xi.storing = none →
    flashWindow s = true →
    s.upd.area = none →
    s.upd.buf.length + data.length < 512 →
    ∃ u, exec (.updData t ep tag ofs data) s = .next u ∧ u.upd.st = 2 ∧
      u.upd.buf = s.upd.buf ++ data ∧
      u.upd.received = s.upd.buf.length + data.length ∧
      Emits u (.xiest ep (rspMsg (wreq tag 0x8002 0 (leBytes 4 ofs.toNat ++ data)) 0 []))) ∧
  (∀ t (ep : Fin 10) tag ofs data s (a : Nat × Nat),
    Accepts s t ep tag 0x8002 0 (leBytes 4 ofs.toNat ++ data) →
    s.upd.lock = some ep.val →
    s.upd.st = 1 ∨ s.upd.st = 2 →
    ofs.toNat = s.upd.received →
    s.xi.storing = none →
    flashWindow s = true →
    s.upd.area = some a →
    s.upd.received + data.length < 512 + hdrLen (areaPkg s a).head →
    ∃ u, exec (.updData t ep tag ofs data) s = .next u ∧ areaPkg u a = { areaPkg s a with body := (areaPkg s a).body ++ data } ∧
      u.upd.received = s.upd.received + data.length ∧
      u.upd.st = s.upd.st) ∧
  (∀ t (ep : Fin 10) tag s, Accepts s t ep tag 0x8000 0 [2] → s.upd.lock = some ep.val → s.upd.st = 3 →
    ∃ u, exec (.updVerify t ep tag) s = .next u ∧ u.upd.st = 4 ∧
      u.upd.area = s.upd.area ∧
      Emits u (.xiest ep (rspMsg (wreq tag 0x8000 0 [2]) 0 []))) ∧
  (∀ t s (a : Nat × Nat), s.upd.area = some a → s.upd.st = 4 →
    ∃ u, exec (.verifyComplete t) s = .next u ∧ u.upd.result = verifyPkg s (areaPkg s a) ∧
      (verifyPkg s (areaPkg s a) = 0 → u.upd.st = 5 ∧ areaPkg u a = { areaPkg s a with status := 0 }) ∧
      (verifyPkg s (areaPkg s a) ≠ 0 → u.upd.st = 7 ∧ areaPkg u a = areaPkg s a ∧ (LogRoom s 1 → Logged s u 0x1E11 (s.upd.lock.getD 0x1FF) (verifyPkg s (areaPkg s a))))) ∧
  (∀ t (ep : Fin 10) tag s (k : Fin 2),
    Accepts s t ep tag 0x8000 0 [3] →
    s.upd.lock = some ep.val →
    s.upd.area = some (1, k.val) →
    s.upd.st = 5 →
    s.dev = .config ∨ s.dev = .recovery →
    s.xi.storing = none →
    flashWindow s = true →
    ∃ u, exec (.updActivate t ep tag) s = .next u ∧ u.upd.st = 6 ∧
      (selRecord u).map (fun r => (recSlot r.2, recTrial r.2)) = some (k.val, 2) ∧
      Emits u (.xiest ep (rspMsg (wreq tag 0x8000 0 [3]) 0 []))) ∧
  (∀ t (ep : Fin 10) tag s (a : Nat × Nat),
    Accepts s t ep tag 0x8000 0 [4] →
    s.upd.lock = some ep.val →
    s.upd.area = some a →
    2 ≤ s.upd.st ∧ s.upd.st ≤ 5 →
    ∃ u, exec (.updAbort t ep tag) s = .next u ∧ u.upd.lock = none ∧ u.upd.st = 0 ∧ u.upd.area = none ∧
      areaPkg u a = {}) ∧
  (∀ t (ep : Fin 10) tag s (a : Nat × Nat),
    Accepts s t ep tag 0x8000 0 [5] →
    s.upd.lock = some ep.val →
    s.upd.area = some a →
    s.upd.st = 6 →
    ∃ u, exec (.updClose t ep tag) s = .next u ∧ u.upd.lock = none ∧ u.upd.st = 0 ∧
      areaPkg u a = areaPkg s a ∧
      u.upd.sel0 = s.upd.sel0 ∧ u.upd.sel1 = s.upd.sel1) ∧
  (∀ t s (ep : Nat), s.upd.lock = some ep → s.upd.lockAt + 30 * secU ≤ instant s t → LogRoom s 1 →
    ∃ u, exec (.updateLockExpiry t) s = .next u ∧ u.upd.lock = none ∧ u.upd.st = 0 ∧ u.upd.result = 10 ∧
      Logged s u 0x1E1C ep 0) ∧
  (∀ t (ep : Fin 10) tag s,
    Accepts s t ep tag 0x8000 0 [6] →
    s.upd.lock = none ∨ s.upd.lock = some ep.val →
    s.upd.trialFrom.isSome = true →
    ∃ u, exec (.updConfirm t ep tag) s = .next u ∧ u.upd.hostConfirm = true ∧
      Emits u (.xiest ep (rspMsg (wreq tag 0x8000 0 [6]) 0 []))) ∧
  (∀ t s (a : Nat),
    s.upd.trialFrom = some a →
    confirmOk s = true →
    instant s t < a + 60 * secU →
    s.upd.running ≤ 1 →
    LogRoom s 1 →
    ∃ u, exec (.imageConfirmed t) s = .next u ∧ u.upd.trialFrom = none ∧
      (selRecord u).map (fun r => (recSlot r.2, recTrial r.2)) = some (s.upd.running, 15) ∧
      Logged s u 0x0E13 noSrc (hdrSec (slotPkg s s.upd.running).head)) ∧
  (∀ t s (a : Nat),
    s.upd.trialFrom = some a →
    a + 60 * secU ≤ instant s t →
    s.rst.request.map (·.1) ≠ some .full →
    LogRoom s 1 →
    ∃ u, exec (.trialExpired t) s = .next u ∧ u.rst.request = some (.full, 2) ∧
      u.upd.trialFrom = none ∧
      Logged s u 0x2E14 noSrc (((selRecord s).map (fun r => recTrial r.2)).getD 0))

/-- A response is answered BUSY while another session is privileged; the third refused one logs 0x1E1B and locks the
endpoint out, where every response is answered REFUSED until 60 s have passed; a response that verifies over
challenge, SERIAL and endpoint makes its session privileged until it closes; a read gives a new challenge. Commands
shown to complete (exec answers next, on conditions on the state and the operands alone): UPD_AUTH_RESPONSE,
UPD_AUTH_CHALLENGE, AUTH_LOCKOUT_END, XIEST_CLOSE. (R629) -/
def Obligations.UpdateAuthentication : Prop :=
  (∀ t (ep k : Fin 10) tag key sig s,
    Accepts s t ep tag 0x8007 0 (key ++ sig) →
    (sessOf s ep).lockout = none →
    k ≠ ep →
    (sessOf s k).open_ = true ∧ (sessOf s k).priv = true →
    (sessOf s ep).refusals < 2 →
    ∃ u, exec (.updAuthResponse t ep tag key sig) s = .next u ∧ Emits u (.xiest ep (rspMsg (wreq tag 0x8007 0 (key ++ sig)) 8 [])) ∧
      (sessOf u ep).priv = (sessOf s ep).priv ∧
      (sessOf u ep).refusals = (sessOf s ep).refusals + 1 ∧
      (sessOf u ep).lockout = none) ∧
  (∀ t (ep : Fin 10) tag key sig s,
    Accepts s t ep tag 0x8007 0 (key ++ sig) →
    (sessOf s ep).lockout = none →
    ((sessOf s ep).chal = none ∨ ∃ k : Fin 10, k ≠ ep ∧ (sessOf s k).open_ = true ∧ (sessOf s k).priv = true) →
    (sessOf s ep).refusals = 2 →
    LogRoom s 1 →
    ∃ u, exec (.updAuthResponse t ep tag key sig) s = .next u ∧ (sessOf u ep).lockout = some (instant s t) ∧
      (sessOf u ep).priv = (sessOf s ep).priv ∧
      Logged s u 0x1E1B ep 0) ∧
  (∀ t (ep : Fin 10) tag key sig s,
    Accepts s t ep tag 0x8007 0 (key ++ sig) →
    (sessOf s ep).lockout.isSome = true →
    ∃ u, exec (.updAuthResponse t ep tag key sig) s = .next u ∧ Emits u (.xiest ep (rspMsg (wreq tag 0x8007 0 (key ++ sig)) 12 [])) ∧
      (sessOf u ep).priv = (sessOf s ep).priv ∧
      (sessOf u ep).lockout = (sessOf s ep).lockout) ∧
  (∀ t (ep : Fin 10) tag key sig s (c : List Byte),
    Accepts s t ep tag 0x8007 0 (key ++ sig) →
    (sessOf s ep).lockout = none →
    (∀ k : Fin 10, k ≠ ep → ¬((sessOf s k).open_ = true ∧ (sessOf s k).priv = true)) →
    (sessOf s ep).chal = some c →
    key.length = 97 →
    ∃ u, exec (.updAuthResponse t ep tag key sig) s = .next u ∧ (sessOf u ep).chal = none ∧
      (Config.authOk key sig (c ++ Config.serial ++ leBytes 1 ep) = true → (sessOf u ep).priv = true ∧ (sessOf u ep).refusals = 0 ∧ Emits u (.xiest ep (rspMsg (wreq tag 0x8007 0 (key ++ sig)) 0 []))) ∧
      (Config.authOk key sig (c ++ Config.serial ++ leBytes 1 ep) = false → (sessOf u ep).priv = (sessOf s ep).priv ∧ Emits u (.xiest ep (rspMsg (wreq tag 0x8007 0 (key ++ sig)) 12 [])))) ∧
  (∀ t (ep : Fin 10) tag s,
    Serves (s.start t) ep (mkReq 0x10 tag 0x8006 0 [] true) →
    readStatus 0x8006 0 s = 0 →
    ∃ u, exec (.updAuthChallenge t ep tag) s = .next u ∧ (sessOf u ep).chal.map (·.length) = some 48 ∧
      (∀ c, (sessOf u ep).chal = some c → Emits u (.xiest ep (rspMsg (mkReq 0x10 tag 0x8006 0 [] true) 0 c))) ∧
      u.free = s.free + 1) ∧
  (∀ t (ep : Fin 10) s (a : Nat), (sessOf s ep).lockout = some a →
    ∃ u, exec (.authLockoutEnd t ep) s = .next u ∧ (sessOf u ep).lockout = (if a + 60 * secU ≤ instant s t then none else some a) ∧
      (sessOf u ep).open_ = (sessOf s ep).open_) ∧
  (∀ t (ep : Fin 10) tag s, Serves (s.start t) ep (mkReq 0x02 tag 0 0 [] true) →
    ∃ u, exec (.xiestClose t ep tag true) s = .next u ∧ (sessOf u ep).priv = false) ∧
  (∀ (ep : Nat) s, (sessOf (closeSess ep s) ep).priv = false ∧ (sessOf (closeSess ep s) ep).open_ = false ∧
    (sessOf (closeSess ep s) ep).lockout = (sessOf s ep).lockout)

/-- The keys are KEY_ID 0 to 3, each with one fuse: a header of another key or of a revoked one never verifies;
SIG_REVOKE of a privileged session blows the fuses of its bits, but never that of the key that signed the running
image, and leaves the others. Commands shown to complete (exec answers next, on conditions on the state and the
operands alone): SIG_REVOKE. (R625) -/
def Obligations.KeyRevocation : Prop :=
  (∀ s h, 4 ≤ hdrKey h ∨ s.upd.revoked.getLsbD (hdrKey h) = true → sigValid s h = false) ∧
  (∀ t (ep : Fin 10) tag v (k : Fin 4) s,
    Accepts s t ep tag 0x800D 0 [v] →
    (sessOf s ep).priv = true →
    (slotPkg s s.upd.running).head ≠ [] →
    ∃ u, exec (.sigRevoke t ep tag v) s = .next u ∧ u.upd.revoked.getLsbD k = (s.upd.revoked.getLsbD k || (v.getLsbD k && decide (k.val ≠ hdrKey (slotPkg s s.upd.running).head))) ∧
      u.upd.slots = s.upd.slots ∧
      Emits u (.xiest ep (rspMsg (wreq tag 0x800D 0 [v]) 0 [])))

/-- Each command of planning, emission, receive chain, echo engines, live calibration and point stream completes and
changes, beside the instant, its outputs and the DEGRADE flags, only the parts of the state that are listed for it.
(R23, R49, R88, R137, R165, R226, R251, R270) -/
def Obligations.FrameShots : Prop :=
  (∀ t replica s, ∃ u, exec (.phaseBoundary t replica) s = .next u ∧
    Frame [.dev, .dict, .rm, .fld, .chan, .tbs, .ee, .rj, .ts, .pt, .lce, .adc, .cam, .saf, .fe, .car, .eic, .log, .pci, .slk, .rst] s u) ∧
  (∀ t long s, ∃ u, exec (.eyeSlotBoundary t long) s = .next u ∧
    Frame [.rm] s u) ∧
  (∀ t frame s, ∃ u, exec (.fire t frame) s = .next u ∧
    Frame [.dev, .rm, .fld, .adc, .saf, .car, .eic, .log, .pci, .slk, .rst] s u) ∧
  (∀ t b v s, ∃ u, exec (.gatePulse t b v) s = .next u ∧
    Frame [.rm, .fld, .chan, .pt] s u) ∧
  (∀ t b s, ∃ u, exec (.topUp t b) s = .next u ∧
    Frame [.fld] s u) ∧
  (∀ t em s, ∃ u, exec (.gateFault t em) s = .next u ∧
    Frame [.dev, .rm, .fld, .adc, .saf, .car, .eic, .log, .pci, .slk, .rst] s u) ∧
  (∀ t b c s, ∃ u, exec (.startStamp t b c) s = .next u ∧
    Frame [.fld, .chan, .lce, .car, .eic, .log, .pci, .slk] s u) ∧
  (∀ t b s, ∃ u, exec (.monitorMiss t b) s = .next u ∧
    Frame [.fld, .chan, .pt, .car, .eic, .log, .pci, .slk] s u) ∧
  (∀ t em s, ∃ u, exec (.emitterFailed t em) s = .next u ∧
    Frame [.fld, .eic, .log, .pci, .slk] s u) ∧
  (∀ t b s, ∃ u, exec (.unplannedEmission t b) s = .next u ∧
    Frame [.dev, .rm, .fld, .adc, .saf, .car, .eic, .log, .pci, .slk, .rst] s u) ∧
  (∀ t inp thr rise c s, ∃ u, exec (.thresholdCrossing t inp thr rise c) s = .next u ∧
    Frame [.fld, .chan, .ee, .rj, .ts] s u) ∧
  (∀ t b s, ∃ u, exec (.windowClose t b) s = .next u ∧
    Frame [.fld, .chan, .ee] s u) ∧
  (∀ t chan s, ∃ u, exec (.rxChannelFailed t chan) s = .next u ∧
    Frame [.chan, .eic, .log, .pci, .slk] s u) ∧
  (∀ t chan s, ∃ u, exec (.rxChannelRestored t chan) s = .next u ∧
    Frame [.chan, .eic, .log, .pci, .slk] s u) ∧
  (∀ t chan s, ∃ u, exec (.echoResult t chan) s = .next u ∧
    Frame [.rm, .chan, .ee, .rj, .pt, .fe, .car, .eic, .log, .pci, .slk] s u) ∧
  (∀ t chan s, ∃ u, exec (.coarsePeaks t chan) s = .next u ∧
    Frame [.rm, .chan, .ee, .rj, .pt, .fe, .car, .eic, .log, .pci, .slk] s u) ∧
  (∀ t b k s, ∃ u, exec (.trainGateEnd t b k) s = .next u ∧
    Frame [.rj] s u) ∧
  (∀ t chan s, ∃ u, exec (.zoomPass t chan) s = .next u ∧
    Frame [.chan, .pt, .eic, .log, .pci, .slk] s u) ∧
  (∀ t eng pass s, ∃ u, exec (.knownAnswerTest t eng pass) s = .next u ∧
    Frame [.chan, .ee, .pt, .eic, .log, .pci, .slk] s u) ∧
  (∀ t eng s, ∃ u, exec (.completionDeadlineMiss t eng) s = .next u ∧
    Frame [.chan, .ee, .pt, .eic, .log, .pci, .slk] s u) ∧
  (∀ t eng fixed s, ∃ u, exec (.engineSramEccError t eng fixed) s = .next u ∧
    Frame [.chan, .ee, .pt, .eic, .log, .pci, .slk] s u) ∧
  (∀ t spare s, ∃ u, exec (.spareReady t spare) s = .next u ∧
    Frame [.ee, .eic, .log, .pci, .slk] s u) ∧
  (∀ t chan s, ∃ u, exec (.replayedResult t chan) s = .next u ∧
    Frame [.rm, .chan, .ee, .rj, .pt, .fe, .car, .eic, .log, .pci, .slk] s u) ∧
  (∀ t s, ∃ u, exec (.pointRecordFormed t) s = .next u ∧
    Frame [.pt, .car] s u) ∧
  (∀ t ecc s, ∃ u, exec (.writeBurst t ecc) s = .next u ∧
    Frame [.pt, .eic, .log, .pci, .slk] s u) ∧
  (∀ t s, ∃ u, exec (.frameHeader t) s = .next u ∧
    Frame [.pt, .car, .eic, .log, .pci, .slk] s u) ∧
  (∀ t s, ∃ u, exec (.ptHoldExpiry t) s = .next u ∧
    Frame [.pt, .eic, .log, .pci, .slk] s u) ∧
  (∀ t s, ∃ u, exec (.replayHoldRelease t) s = .next u ∧
    Frame [.pt, .adc] s u) ∧
  (∀ t s, ∃ u, exec (.eyeTableEccError t) s = .next u ∧
    Frame [.dev, .rm, .fld, .adc, .saf, .car, .eic, .log, .pci, .slk, .rst] s u) ∧
  (∀ t line s, ∃ u, exec (.tapBuildComplete t line) s = .next u ∧
    Frame [.ts] s u) ∧
  (∀ t line s, ∃ u, exec (.agreementTest t line) s = .next u ∧
    Frame [.chan, .ts, .eic, .log, .pci, .slk] s u) ∧
  (∀ t chan s, ∃ u, exec (.referenceMissing t chan) s = .next u ∧
    Frame [.chan, .eic, .log, .pci, .slk] s u)

/-- Each command of the Loop Control Engine, the timebase and encoder, the barrier links, the converters and the camera
pipelines completes and changes, beside the instant, its outputs and the DEGRADE flags, only the parts of the state
that are listed for it. (R23, R110, R116, R149, R287, R324, R378) -/
def Obligations.FrameLoops : Prop :=
  (∀ t late s, ∃ u, exec (.lceSampleTick t late) s = .next u ∧
    Frame [.dev, .dict, .rm, .fld, .tbs, .pt, .lce, .adc, .saf, .car, .eic, .log, .pci, .xi, .slk, .rst] s u) ∧
  (∀ t compute s, ∃ u, exec (.lceOutputRelease t compute) s = .next u ∧
    Frame [.rm, .fld, .lce, .adc] s u) ∧
  (∀ t s, ∃ u, exec (.lceOverrun t) s = .next u ∧
    Frame [.dev, .rm, .fld, .lce, .adc, .saf, .car, .eic, .log, .pci, .slk, .rst] s u) ∧
  (∀ t oc uv s, ∃ u, exec (.bridgeTrip t oc uv) s = .next u ∧
    Frame [.rm, .fld, .lce] s u) ∧
  (∀ t s, ∃ u, exec (.bridgeReenable t) s = .next u ∧
    Frame [.rm, .fld, .lce] s u) ∧
  (∀ t vBridge cur s, ∃ u, exec (.backEmfEstimate t vBridge cur) s = .next u ∧
    Frame [.fld] s u) ∧
  (∀ t s, ∃ u, exec (.mirrorWatchdogTrip t) s = .next u ∧
    Frame [.rm, .fld, .lce] s u) ∧
  (∀ t s, ∃ u, exec (.lceRearm t) s = .next u ∧
    Frame [.rm, .fld] s u) ∧
  (∀ t s, ∃ u, exec (.coilResistanceEstimate t) s = .next u ∧
    Frame [.lce] s u) ∧
  (∀ t s, ∃ u, exec (.apdOutOfRegulation t) s = .next u ∧
    Frame [.fld, .eic, .log, .pci, .slk] s u) ∧
  (∀ t s, ∃ u, exec (.injectionComplete t) s = .next u ∧
    Frame [.lce] s u) ∧
  (∀ t n rise s, ∃ u, exec (.encEdge t n rise) s = .next u ∧
    Frame [.tbs] s u) ∧
  (∀ t n s, ∃ u, exec (.fmGateEnd t n) s = .next u ∧
    Frame [.tbs] s u) ∧
  (∀ t rise s, ∃ u, exec (.ppsInEdge t rise) s = .next u ∧
    Frame [.t64Ofs, .rm, .tbs, .ee, .rj, .eic, .log, .pci, .slk] s u) ∧
  (∀ t s, ∃ u, exec (.ppsLost t) s = .next u ∧
    Frame [.tbs, .eic, .log, .pci, .slk] s u) ∧
  (∀ t s, ∃ u, exec (.ppsGateEnd t) s = .next u ∧
    Frame [.tbs] s u) ∧
  (∀ t s, ∃ u, exec (.freqFallback t) s = .next u ∧
    Frame [.tbs] s u) ∧
  (∀ t s, ∃ u, exec (.ppsOutPulse t) s = .next u ∧
    Frame [.tbs] s u) ∧
  (∀ t s, ∃ u, exec (.t64Wrap t) s = .next u ∧
    Frame [] s u) ∧
  (∀ t ref s, ∃ u, exec (.tbLossOfLock t ref) s = .next u ∧
    Frame [.dev, .rm, .fld, .chan, .tbs, .ee, .rj, .ts, .pt, .lce, .adc, .saf, .fe, .car, .eic, .log, .pci, .slk, .rst] s u) ∧
  (∀ t s, ∃ u, exec (.timebaseLockHeld t) s = .next u ∧
    Frame [.rm, .saf] s u) ∧
  (∀ t bl s, ∃ u, exec (.linkFailed t bl) s = .next u ∧
    Frame [.dev, .rm, .fld, .adc, .saf, .car, .eic, .log, .pci, .slk, .rst] s u) ∧
  (∀ t bl s, ∃ u, exec (.spareLinkSwitchover t bl) s = .next u ∧
    Frame [.fld] s u) ∧
  (∀ t bl seq good s, ∃ u, exec (.barrierControlFrame t bl seq good) s = .next u ∧
    Frame [.dev, .rm, .fld, .adc, .saf, .car, .eic, .log, .pci, .slk, .rst] s u) ∧
  (∀ t bl seq s, ∃ u, exec (.barrierAck t bl seq) s = .next u ∧
    Frame [.fld] s u) ∧
  (∀ t bl seq s, ∃ u, exec (.barrierNak t bl seq) s = .next u ∧
    Frame [.fld] s u) ∧
  (∀ t bl s, ∃ u, exec (.barrierAckTimeout t bl) s = .next u ∧
    Frame [.fld] s u) ∧
  (∀ t duty vel vch bias htr s, ∃ u, exec (.lceOut t duty vel vch bias htr) s = .next u ∧
    Frame [.fld] s u) ∧
  (∀ t payload s, ∃ u, exec (.fieldIo t payload) s = .next u ∧
    Frame [.fld] s u) ∧
  (∀ t payload s, ∃ u, exec (.cfgReq t payload) s = .next u ∧
    Frame [.fld, .free] s u) ∧
  (∀ t payload s, ∃ u, exec (.cfgRsp t payload) s = .next u ∧
    Frame [.fld] s u) ∧
  (∀ t st s, ∃ u, exec (.fieldStat t st) s = .next u ∧
    Frame [.fld, .thm] s u) ∧
  (∀ t w s, ∃ u, exec (.adcSampleWord t w) s = .next u ∧
    Frame [.rm, .fld, .pt, .adc, .car, .eic, .log, .pci, .slk] s u) ∧
  (∀ t b s, ∃ u, exec (.chargingWindowReopen t b) s = .next u ∧
    Frame [.fld] s u) ∧
  (∀ t s, ∃ u, exec (.adcSequenceStart t) s = .next u ∧
    Frame [.dict, .rm, .fld, .pt, .adc, .car, .eic, .log, .pci, .xi, .slk] s u) ∧
  (∀ t n code s, ∃ u, exec (.adcConversion t n code) s = .next u ∧
    Frame [.adc] s u) ∧
  (∀ t uV s, ∃ u, exec (.referenceBufferCheck t uV) s = .next u ∧
    Frame [.rm, .fld, .pt, .adc, .car, .eic, .log, .pci, .slk] s u) ∧
  (∀ t n limited lead compliance s, ∃ u, exec (.excitationFault t n limited lead compliance) s = .next u ∧
    Frame [.rm, .fld, .pt, .adc, .car, .eic, .log, .pci, .slk] s u) ∧
  (∀ t n s, ∃ u, exec (.excSettleEnd t n) s = .next u ∧
    Frame [.adc] s u) ∧
  (∀ t rise s, ∃ u, exec (.syncEdge t rise) s = .next u ∧
    Frame [.adc] s u) ∧
  (∀ t n uA s, ∃ u, exec (.loopReadbackFault t n uA) s = .next u ∧
    Frame [.adc, .eic, .log, .pci, .slk] s u) ∧
  (∀ t port vc hdr s, ∃ u, exec (.frameStartPacket t port vc hdr) s = .next u ∧
    Frame [.dict, .cam, .car] s u) ∧
  (∀ t port vc dt hdr crcOk pix s, ∃ u, exec (.linePacket t port vc dt hdr crcOk pix) s = .next u ∧
    Frame [.cam] s u) ∧
  (∀ t port vc hdr s, ∃ u, exec (.frameEndPacket t port vc hdr) s = .next u ∧
    Frame [.cam] s u) ∧
  (∀ t ctx s, ∃ u, exec (.cameraFrameTimeout t ctx) s = .next u ∧
    Frame [.cam] s u) ∧
  (∀ t pipe s, ∃ u, exec (.pipelineFrameDone t pipe) s = .next u ∧
    Frame [.pt, .cam, .car, .eic, .log, .pci, .slk] s u) ∧
  (∀ t s, ∃ u, exec (.pendingTimeout t) s = .next u ∧
    Frame [.rm, .fld, .pt, .adc, .car, .eic, .log, .pci, .slk] s u)

/-- Each command of the safety inputs and outputs, the field evaluator, the safety PDUs and the recorder completes and
changes, beside the instant, its outputs and the DEGRADE flags, only the parts of the state that are listed for it.
(R23, R404, R413, R420, R433, R454, R468) -/
def Obligations.FrameSafetyRecorder : Prop :=
  (∀ t r s, ∃ u, exec (.fieldEvaluation t r) s = .next u ∧
    Frame [.fld, .saf, .fe, .car, .eic, .log, .pci, .slk] s u) ∧
  (∀ t s, ∃ u, exec (.selectionInvalid t) s = .next u ∧
    Frame [.fld, .saf, .fe, .car, .eic, .log, .pci, .slk] s u) ∧
  (∀ t pass s, ∃ u, exec (.fieldEvaluatorKat t pass) s = .next u ∧
    Frame [.dev, .rm, .fld, .adc, .saf, .fe, .car, .eic, .log, .pci, .slk, .rst] s u) ∧
  (∀ t raw tpRead soRead s, ∃ u, exec (.siSample t raw tpRead soRead) s = .next u ∧
    Frame [.fld, .saf, .eic, .log, .pci, .slk] s u) ∧
  (∀ t n s, ∃ u, exec (.testPulse t n) s = .next u ∧
    Frame [.saf] s u) ∧
  (∀ t k s, ∃ u, exec (.discrepancyTimeout t k) s = .next u ∧
    Frame [.fld, .saf, .car, .eic, .log, .pci, .slk] s u) ∧
  (∀ t n s, ∃ u, exec (.darkTest t n) s = .next u ∧
    Frame [.fld] s u) ∧
  (∀ t n fell returned s, ∃ u, exec (.darkTestEnd t n fell returned) s = .next u ∧
    Frame [.dev, .rm, .fld, .adc, .saf, .car, .eic, .log, .pci, .slk, .rst] s u) ∧
  (∀ t n s, ∃ u, exec (.outputReadbackFault t n) s = .next u ∧
    Frame [.dev, .rm, .fld, .adc, .saf, .car, .eic, .log, .pci, .slk, .rst] s u) ∧
  (∀ t n s, ∃ u, exec (.currentLimit t n) s = .next u ∧
    Frame [.dev, .rm, .fld, .adc, .saf, .car, .eic, .log, .pci, .slk, .rst] s u) ∧
  (∀ t n s, ∃ u, exec (.edmTimeout t n) s = .next u ∧
    Frame [.dev, .rm, .fld, .adc, .saf, .car, .eic, .log, .pci, .slk, .rst] s u) ∧
  (∀ t pins s, ∃ u, exec (.safecfgRead t pins) s = .next u ∧
    Frame [.dev, .rm, .fld, .adc, .saf, .car, .eic, .log, .pci, .slk, .rst] s u) ∧
  (∀ tx net ident data s, ∃ u, exec (.safetyPdu tx net ident data) s = .next u ∧
    Frame [.dev, .rm, .fld, .adc, .saf, .fe, .car, .eic, .log, .pci, .xi, .slk, .rst] s u) ∧
  (∀ t j s, ∃ u, exec (.pduPairingTimeout t j) s = .next u ∧
    Frame [.dev, .rm, .fld, .adc, .saf, .fe, .car, .eic, .log, .pci, .slk, .rst] s u) ∧
  (∀ t j s, ∃ u, exec (.receiveTimeout t j) s = .next u ∧
    Frame [.dev, .rm, .fld, .adc, .saf, .fe, .car, .eic, .log, .pci, .slk, .rst] s u) ∧
  (∀ t ackA ackB s, ∃ u, exec (.safetyPduSend t ackA ackB) s = .next u ∧
    Frame [.dev, .rm, .fld, .adc, .saf, .fe, .car, .eic, .log, .pci, .xi, .slk, .rst] s u) ∧
  (∀ tx s, ∃ u, exec (.versionPduSend tx) s = .next u ∧
    Frame [.dev, .rm, .fld, .adc, .saf, .fe, .car, .eic, .log, .pci, .xi, .slk, .rst] s u) ∧
  (∀ t pass s, ∃ u, exec (.scSelfTest t pass) s = .next u ∧
    Frame [.fld, .eic, .log, .pci, .slk, .upd, .rst] s u) ∧
  (∀ t si edm so s, ∃ u, exec (.safeIn t si edm so) s = .next u ∧
    Frame [.fld, .saf, .fe, .car, .eic, .log, .pci, .slk] s u) ∧
  (∀ t req tokens s, ∃ u, exec (.outState t req tokens) s = .next u ∧
    Frame [.fld] s u) ∧
  (∀ t s, ∃ u, exec (.outStateSend t) s = .next u ∧
    Frame [.fld, .saf] s u) ∧
  (∀ t n s, ∃ u, exec (.outputWatchdogExpiry t n) s = .next u ∧
    Frame [.fld] s u) ∧
  (∀ t k s, ∃ u, exec (.fastOff t k) s = .next u ∧
    Frame [.dev, .rm, .fld, .adc, .saf, .car, .eic, .log, .pci, .slk, .rst] s u) ∧
  (∀ t masks s, ∃ u, exec (.foArm t masks) s = .next u ∧
    Frame [.fld] s u) ∧
  (∀ t str s, ∃ u, exec (.autoTrigger t str) s = .next u ∧
    Frame [.car, .slk] s u) ∧
  (∀ t str s, ∃ u, exec (.postEnd t str) s = .next u ∧
    Frame [.car, .free] s u) ∧
  (∀ t str s, ∃ u, exec (.itemWrite t str) s = .next u ∧
    Frame [.car] s u) ∧
  (∀ t str s, ∃ u, exec (.keyframe t str) s = .next u ∧
    Frame [.car] s u) ∧
  (∀ t s, ∃ u, exec (.digitalGroupSample t) s = .next u ∧
    Frame [.car] s u) ∧
  (∀ t s, ∃ u, exec (.readoutBlock t) s = .next u ∧
    Frame [.pt, .car, .eic, .log, .pci, .slk] s u) ∧
  (∀ t ch s, ∃ u, exec (.dramChannelRemoved t ch) s = .next u ∧
    Frame [.car, .eic, .log, .pci, .slk, .free] s u)

/-- Each command of the interrupt controller, the error log, the PCIe rings and link, the registers and the Scan Link
lanes completes and changes, beside the instant, its outputs and the DEGRADE flags, only the parts of the state that
are listed for it. (R23, R492, R513, R518, R523, R531, R573) -/
def Obligations.FrameHostLinks : Prop :=
  (∀ t src s, ∃ u, exec (.eicEvent t src) s = .next u ∧
    Frame [.eic, .pci, .slk] s u) ∧
  (∀ t src s, ∃ u, exec (.levelWithdrawn t src) s = .next u ∧
    Frame [.eic] s u) ∧
  (∀ t g s, ∃ u, exec (.coalescingTimer t g) s = .next u ∧
    Frame [.eic, .pci, .slk] s u) ∧
  (∀ t who s, ∃ u, exec (.eicClaim t who) s = .next u ∧
    Frame [.eic, .busRead] s u) ∧
  (∀ t who src s, ∃ u, exec (.eicComplete t who src) s = .next u ∧
    Frame [.eic, .pci, .slk] s u) ∧
  (∀ t j w s, ∃ u, exec (.eicPendSet t j w) s = .next u ∧
    Frame [.eic, .pci, .slk] s u) ∧
  (∀ t j w s, ∃ u, exec (.eicPendClr t j w) s = .next u ∧
    Frame [.eic, .pci, .slk] s u) ∧
  (∀ t j w s, ∃ u, exec (.eicMaskSet t j w) s = .next u ∧
    Frame [.eic] s u) ∧
  (∀ t j w s, ∃ u, exec (.eicMaskClr t j w) s = .next u ∧
    Frame [.eic, .pci, .slk] s u) ∧
  (∀ t s, ∃ u, exec (.arbitration t) s = .next u ∧
    Frame [.eic, .pci, .slk] s u) ∧
  (∀ t src s, ∃ u, exec (.wakeTimeout t src) s = .next u ∧
    Frame [.eic] s u) ∧
  (∀ t src s, ∃ u, exec (.redirectTimeout t src) s = .next u ∧
    Frame [.eic, .log, .pci, .slk] s u) ∧
  (∀ t s, ∃ u, exec (.logEntryWrite t) s = .next u ∧
    Frame [.car, .eic, .log, .pci, .slk] s u) ∧
  (∀ t v s, ∃ u, exec (.pciVerCmd t v) s = .next u ∧
    Frame [.eic, .log, .pci, .slk] s u) ∧
  (∀ t n s, ∃ u, exec (.ringEnable t n) s = .next u ∧
    Frame [.eic, .pci, .slk] s u) ∧
  (∀ t n s, ∃ u, exec (.ringDisable t n) s = .next u ∧
    Frame [.pt, .eic, .pci, .slk] s u) ∧
  (∀ t n addr len w3 ok s, ∃ u, exec (.descriptorFetch t n addr len w3 ok) s = .next u ∧
    Frame [.pt, .eic, .log, .pci, .slk] s u) ∧
  (∀ t n s, ∃ u, exec (.descriptorFetchTimeout t n) s = .next u ∧
    Frame [.pt, .eic, .log, .pci, .slk] s u) ∧
  (∀ t lane reversal s, ∃ u, exec (.laneFailed t lane reversal) s = .next u ∧
    Frame [.eic, .log, .pci, .slk] s u) ∧
  (∀ t speed width s, ∃ u, exec (.linkActive t speed width) s = .next u ∧
    Frame [.pt, .eic, .pci, .slk] s u) ∧
  (∀ t s, ∃ u, exec (.retrainTimeout t) s = .next u ∧
    Frame [.eic, .log, .pci, .slk] s u) ∧
  (∀ t v s, ∃ u, exec (.pciRetrain t v) s = .next u ∧
    Frame [.pci] s u) ∧
  (∀ t f s, ∃ u, exec (.flr t f) s = .next u ∧
    Frame [.pt, .pci, .xi] s u) ∧
  (∀ t f s, ∃ u, exec (.d3hotEntry t f) s = .next u ∧
    Frame [.pt, .eic, .pci, .slk] s u) ∧
  (∀ t s, ∃ u, exec (.perst t) s = .next u ∧
    Frame [.pt, .eic, .pci, .xi, .slk] s u) ∧
  (∀ t lane seq s, ∃ u, exec (.slkAck t lane seq) s = .next u ∧
    Frame [.eic, .log, .pci, .slk] s u) ∧
  (∀ t lane seq s, ∃ u, exec (.slkNak t lane seq) s = .next u ∧
    Frame [.eic, .pci, .slk] s u) ∧
  (∀ t lane s, ∃ u, exec (.slkReplayTimeout t lane) s = .next u ∧
    Frame [.slk] s u) ∧
  (∀ t lane payload s, ∃ u, exec (.cap t lane payload) s = .next u ∧
    Frame [.eic, .log, .pci, .slk] s u) ∧
  (∀ t lane s, ∃ u, exec (.capSend t lane) s = .next u ∧
    Frame [.slk] s u) ∧
  (∀ t lane s, ∃ u, exec (.rateAlignmentTimeout t lane) s = .next u ∧
    Frame [.eic, .log, .pci, .xi, .slk] s u) ∧
  (∀ t lane s, ∃ u, exec (.commaAligned t lane) s = .next u ∧
    Frame [.slk] s u) ∧
  (∀ t lane errs s, ∃ u, exec (.alignmentLost t lane errs) s = .next u ∧
    Frame [.eic, .log, .pci, .xi, .slk] s u) ∧
  (∀ t lane rx s, ∃ u, exec (.sleep t lane rx) s = .next u ∧
    Frame [.slk] s u) ∧
  (∀ t lane rx payload s, ∃ u, exec (.time t lane rx payload) s = .next u ∧
    Frame [.slk] s u) ∧
  (∀ t lane s, ∃ u, exec (.timeMarker t lane) s = .next u ∧
    Frame [.tbs, .slk] s u) ∧
  (∀ t lane s, ∃ u, exec (.markerSend t lane) s = .next u ∧
    Frame [.slk] s u) ∧
  (∀ t lane s, ∃ u, exec (.offsetInvalid t lane) s = .next u ∧
    Frame [.eic, .log, .pci, .slk] s u) ∧
  (∀ t lane rx payload s, ∃ u, exec (.sched t lane rx payload) s = .next u ∧
    Frame [.dict, .rm, .slk] s u) ∧
  (∀ t s, ∃ u, exec (.syncTimeout t) s = .next u ∧
    Frame [.rm, .slk] s u) ∧
  (∀ t lane rx payload s, ∃ u, exec (.trig t lane rx payload) s = .next u ∧
    Frame [.car, .slk] s u) ∧
  (∀ t lane rx payload s, ∃ u, exec (.irq t lane rx payload) s = .next u ∧
    Frame [.eic, .pci, .slk] s u) ∧
  (∀ t lane rx data s, ∃ u, exec (.ptRec t lane rx data) s = .next u ∧
    Frame [.pt, .eic, .log, .pci, .slk] s u) ∧
  (∀ t lane rx data s, ∃ u, exec (.ptHdr t lane rx data) s = .next u ∧
    Frame [.pt, .eic, .log, .pci, .slk] s u) ∧
  (∀ t lane s, ∃ u, exec (.transmitterWake t lane) s = .next u ∧
    Frame [.slk] s u) ∧
  (∀ t lane s, ∃ u, exec (.receiverWake t lane) s = .next u ∧
    Frame [.slk] s u) ∧
  (∀ t r reqs s, ∃ u, exec (.resourceGrant t r reqs) s = .next u ∧
    Frame [.arb] s u) ∧
  (∀ t f ofs s, ∃ u, exec (.readClear t f ofs) s = .next u ∧
    Frame [.rm, .ee, .rj, .ts, .pt, .lce, .cam, .saf, .car, .eic, .pci, .busRead] s u) ∧
  (∀ t pps s, ∃ u, exec (.tbT64LoRead t pps) s = .next u ∧
    Frame [.tbs, .busRead] s u) ∧
  (∀ t s, ∃ u, exec (.eeFaultTLoRead t) s = .next u ∧
    Frame [.ee, .busRead] s u) ∧
  (∀ t at_ v s, ∃ u, exec (.registerWrite t at_ v) s = .next u ∧
    Frame [.tbs, .pt, .eic, .log, .pci, .xi, .slk] s u) ∧
  (∀ t s, ∃ u, exec (.perstRelease t) s = .next u ∧
    Frame [.eic, .log, .pci, .slk] s u) ∧
  (∀ t s, ∃ u, exec (.busMasterEnableCleared t) s = .next u ∧
    Frame [.pt, .eic, .log, .pci, .slk] s u) ∧
  (∀ t f s, ∃ u, exec (.d3hotExit t f) s = .next u ∧
    Frame [.eic, .pci, .slk] s u)

/-- Each Xiest request, each entry written through one, and each event of sessions, CAN FD and the mailbox completes and
changes, beside the instant, its outputs and the DEGRADE flags, only the parts of the state that are listed for it:
the transports of the answer, the recorder for a dictionary record, and what the entry governs. (R23, R478, R547,
R551, R556, R558, R561) -/
def Obligations.FrameRequests : Prop :=
  (∀ t ep tag v s, ∃ u, exec (.histSnap t ep tag v) s = .next u ∧
    Frame [.ee, .car, .eic, .pci, .xi, .slk] s u) ∧
  (∀ t ep tag v s, ∃ u, exec (.mirPriRetry t ep tag v) s = .next u ∧
    Frame [.lce, .car, .eic, .pci, .xi, .slk] s u) ∧
  (∀ t ep tag v s, ∃ u, exec (.mirRestart t ep tag v) s = .next u ∧
    Frame [.rm, .fld, .lce, .car, .eic, .pci, .xi, .slk] s u) ∧
  (∀ t ep tag v s, ∃ u, exec (.mirBridgeEn t ep tag v) s = .next u ∧
    Frame [.dict, .rm, .fld, .lce, .car, .eic, .pci, .xi, .slk] s u) ∧
  (∀ t ep tag v s, ∃ u, exec (.injStart t ep tag v) s = .next u ∧
    Frame [.lce, .car, .eic, .pci, .xi, .slk] s u) ∧
  (∀ t ep tag v s, ∃ u, exec (.injStop t ep tag v) s = .next u ∧
    Frame [.lce, .car, .eic, .pci, .xi, .slk] s u) ∧
  (∀ t ep tag v s, ∃ u, exec (.ppsArm t ep tag v) s = .next u ∧
    Frame [.tbs, .car, .eic, .pci, .xi, .slk] s u) ∧
  (∀ t ep tag v s, ∃ u, exec (.calSnapshot t ep tag v) s = .next u ∧
    Frame [.dict, .car, .eic, .pci, .xi, .slk] s u) ∧
  (∀ t ep tag n v s, ∃ u, exec (.adcSeqCommit t ep tag n v) s = .next u ∧
    Frame [.adc, .car, .eic, .pci, .xi, .slk] s u) ∧
  (∀ t ep tag v s, ∃ u, exec (.fltSync t ep tag v) s = .next u ∧
    Frame [.adc, .car, .eic, .pci, .xi, .slk] s u) ∧
  (∀ t ep tag v s, ∃ u, exec (.recTrig t ep tag v) s = .next u ∧
    Frame [.car, .eic, .pci, .xi, .slk] s u) ∧
  (∀ t ep tag v s, ∃ u, exec (.recRead t ep tag v) s = .next u ∧
    Frame [.car, .eic, .pci, .xi, .slk] s u) ∧
  (∀ t ep tag v s, ∃ u, exec (.recRelease t ep tag v) s = .next u ∧
    Frame [.car, .eic, .pci, .xi, .slk, .free] s u) ∧
  (∀ t ep tag v s, ∃ u, exec (.recRearm t ep tag v) s = .next u ∧
    Frame [.car, .eic, .pci, .xi, .slk, .free] s u) ∧
  (∀ t ep tag v s, ∃ u, exec (.recMissedClr t ep tag v) s = .next u ∧
    Frame [.car, .eic, .pci, .xi, .slk] s u) ∧
  (∀ t via s, ∃ u, exec (.eicFirstClr t via) s = .next u ∧
    Frame [.car, .eic, .log, .pci, .xi, .slk] s u) ∧
  (∀ t ep tag s, ∃ u, exec (.updOpen t ep tag) s = .next u ∧
    Frame [.car, .eic, .pci, .xi, .slk, .upd] s u) ∧
  (∀ t ep tag ofs data s, ∃ u, exec (.updData t ep tag ofs data) s = .next u ∧
    Frame [.car, .eic, .log, .pci, .xi, .slk, .upd] s u) ∧
  (∀ t ep tag s, ∃ u, exec (.updVerify t ep tag) s = .next u ∧
    Frame [.car, .eic, .pci, .xi, .slk, .upd] s u) ∧
  (∀ t ep tag s, ∃ u, exec (.updActivate t ep tag) s = .next u ∧
    Frame [.rm, .car, .eic, .log, .pci, .xi, .slk, .upd] s u) ∧
  (∀ t ep tag s, ∃ u, exec (.updAbort t ep tag) s = .next u ∧
    Frame [.car, .eic, .pci, .xi, .slk, .upd] s u) ∧
  (∀ t ep tag s, ∃ u, exec (.updClose t ep tag) s = .next u ∧
    Frame [.car, .eic, .pci, .xi, .slk, .upd] s u) ∧
  (∀ t ep tag s, ∃ u, exec (.updConfirm t ep tag) s = .next u ∧
    Frame [.car, .eic, .pci, .xi, .slk, .upd] s u) ∧
  (∀ t ep tag s, ∃ u, exec (.updAuthChallenge t ep tag) s = .next u ∧
    Frame [.eic, .pci, .xi, .slk, .free] s u) ∧
  (∀ t ep tag key sig s, ∃ u, exec (.updAuthResponse t ep tag key sig) s = .next u ∧
    Frame [.car, .eic, .log, .pci, .xi, .slk] s u) ∧
  (∀ t ep tag v s, ∃ u, exec (.sigRevoke t ep tag v) s = .next u ∧
    Frame [.car, .eic, .pci, .xi, .slk, .upd] s u) ∧
  (∀ t ep tag s, ∃ u, exec (.enterConfig t ep tag) s = .next u ∧
    Frame [.dev, .rm, .fld, .chan, .rj, .pt, .lce, .adc, .saf, .fe, .car, .eic, .log, .pci, .xi, .slk, .rst] s u) ∧
  (∀ t ep tag s, ∃ u, exec (.enterRun t ep tag) s = .next u ∧
    Frame [.dev, .rm, .fld, .pt, .adc, .saf, .car, .eic, .log, .pci, .xi, .slk, .rst] s u) ∧
  (∀ t ep tag s, ∃ u, exec (.leaveSafe t ep tag) s = .next u ∧
    Frame [.dev, .rm, .fld, .adc, .car, .eic, .log, .pci, .xi, .slk, .rst] s u) ∧
  (∀ t ep tag s, ∃ u, exec (.enterDormant t ep tag) s = .next u ∧
    Frame [.car, .eic, .log, .pci, .xi, .slk] s u) ∧
  (∀ t ep tag s, ∃ u, exec (.resetWarm t ep tag) s = .next u ∧
    Frame [.car, .eic, .log, .pci, .xi, .slk] s u) ∧
  (∀ t ep tag s, ∃ u, exec (.resetFull t ep tag) s = .next u ∧
    Frame [.car, .eic, .log, .pci, .xi, .slk] s u) ∧
  (∀ t ep tag s, ∃ u, exec (.store t ep tag) s = .next u ∧
    Frame [.car, .eic, .log, .pci, .xi, .slk] s u) ∧
  (∀ t ep tag s, ∃ u, exec (.restoreDefaults t ep tag) s = .next u ∧
    Frame [.dict, .rm, .fld, .tbs, .pt, .lce, .adc, .car, .eic, .log, .pci, .xi, .slk, .free] s u) ∧
  (∀ t ep tag s, ∃ u, exec (.seal t ep tag) s = .next u ∧
    Frame [.car, .eic, .log, .pci, .xi, .slk, .upd, .free] s u) ∧
  (∀ t ep tag s, ∃ u, exec (.discard t ep tag) s = .next u ∧
    Frame [.car, .eic, .log, .pci, .xi, .slk] s u) ∧
  (∀ t ep tag lane v s, ∃ u, exec (.slkTxSleep t ep tag lane v) s = .next u ∧
    Frame [.dict, .car, .eic, .pci, .xi, .slk] s u) ∧
  (∀ t ep tag good lo hi s, ∃ u, exec (.xiestOpen t ep tag good lo hi) s = .next u ∧
    Frame [.eic, .pci, .xi, .slk] s u) ∧
  (∀ t ep tag good s, ∃ u, exec (.xiestClose t ep tag good) s = .next u ∧
    Frame [.eic, .pci, .xi, .slk] s u) ∧
  (∀ t ep tag good num sub s, ∃ u, exec (.xiestRead t ep tag good num sub) s = .next u ∧
    Frame [.chan, .eic, .pci, .xi, .slk, .free] s u) ∧
  (∀ t ep tag good num sub val s, ∃ u, exec (.xiestWrite t ep tag good num sub val) s = .next u ∧
    Frame [.dev, .dict, .rm, .fld, .chan, .tbs, .ee, .rj, .pt, .lce, .adc, .saf, .fe, .car, .eic, .log, .pci, .xi, .slk, .upd, .rst, .free] s u) ∧
  (∀ t ep tag good num sub s, ∃ u, exec (.xiestDescribe t ep tag good num sub) s = .next u ∧
    Frame [.eic, .pci, .xi, .slk] s u) ∧
  (∀ t ep tag good op num sub val s, ∃ u, exec (.xiestUnknownOp t ep tag good op num sub val) s = .next u ∧
    Frame [.eic, .pci, .xi, .slk] s u) ∧
  (∀ t ep s, ∃ u, exec (.sessionTimeout t ep) s = .next u ∧
    Frame [.xi] s u) ∧
  (∀ t net ident data s, ∃ u, exec (.canSegment t net ident data) s = .next u ∧
    Frame [.dev, .dict, .rm, .fld, .chan, .tbs, .ee, .rj, .pt, .lce, .adc, .saf, .fe, .car, .eic, .log, .pci, .xi, .slk, .upd, .rst, .free] s u) ∧
  (∀ t abort tag s, ∃ u, exec (.flowControl t abort tag) s = .next u ∧
    Frame [.xi] s u) ∧
  (∀ t s, ∃ u, exec (.segmentTimeout t) s = .next u ∧
    Frame [.xi] s u) ∧
  (∀ t s, ∃ u, exec (.flowControlTimeout t) s = .next u ∧
    Frame [.xi] s u) ∧
  (∀ t net s, ∃ u, exec (.busOff t net) s = .next u ∧
    Frame [.eic, .log, .pci, .xi, .slk] s u) ∧
  (∀ t net s, ∃ u, exec (.busOffRecovery t net) s = .next u ∧
    Frame [.eic, .log, .pci, .xi, .slk] s u) ∧
  (∀ t v s, ∃ u, exec (.mbxReq t v) s = .next u ∧
    Frame [.dev, .dict, .rm, .fld, .chan, .tbs, .ee, .rj, .pt, .lce, .adc, .saf, .fe, .car, .eic, .log, .pci, .xi, .slk, .upd, .rst, .free] s u) ∧
  (∀ t v s, ∃ u, exec (.mbxRspAck t v) s = .next u ∧
    Frame [.eic, .pci, .xi, .slk] s u) ∧
  (∀ t v s, ∃ u, exec (.mbxAbort t v) s = .next u ∧
    Frame [.xi] s u) ∧
  (∀ t lane rx first last data s, ∃ u, exec (.xiestSegment t lane rx first last data) s = .next u ∧
    Frame [.dev, .dict, .rm, .fld, .chan, .tbs, .ee, .rj, .pt, .lce, .adc, .saf, .fe, .car, .eic, .log, .pci, .xi, .slk, .upd, .rst, .free] s u) ∧
  (∀ t s, ∃ u, exec (.storeComplete t) s = .next u ∧
    Frame [.eic, .log, .pci, .xi, .slk] s u) ∧
  (∀ t ep s, ∃ u, exec (.authLockoutEnd t ep) s = .next u ∧
    Frame [.xi] s u)

/-- Each command of the thermal model, the supplies, resets, start-up and update completes and changes, beside the
instant, its outputs and the DEGRADE flags, only the parts of the state that are listed for it; a reset spares the
command queue, the word of the last register read and the count of free values. (R23, R562, R601, R635, R647, R655,
R662) -/
def Obligations.FrameDevice : Prop :=
  (∀ t die s, ∃ u, exec (.tbLock t die) s = .next u ∧
    Frame [.t64Ofs, .dev, .rm, .fld, .chan, .tbs, .pt, .adc, .saf, .car, .eic, .log, .pci, .xi, .slk, .thm, .upd, .rst, .free] s u) ∧
  (∀ t s, ∃ u, exec (.dormantEntry t) s = .next u ∧
    Frame [.dev, .rm, .fld, .pt, .lce, .adc, .saf, .car, .eic, .log, .pci, .xi, .slk, .thm, .rst] s u) ∧
  (∀ t s, ∃ u, exec (.autorun t) s = .next u ∧
    Frame [.dev, .dict, .rm, .fld, .chan, .tbs, .rj, .pt, .lce, .adc, .saf, .fe, .car, .eic, .log, .pci, .xi, .slk, .upd, .rst, .free] s u) ∧
  (∀ t pins cap kat s, ∃ u, exec (.bootComplete t pins cap kat) s = .next u ∧
    Frame [.dev, .dict, .rm, .fld, .chan, .tbs, .ee, .pt, .lce, .adc, .saf, .fe, .car, .eic, .log, .pci, .xi, .slk, .thm, .rst, .free] s u) ∧
  (∀ t vfld exc links s, ∃ u, exec (.fieldSideNotReady t vfld exc links) s = .next u ∧
    Frame [.eic, .log, .pci, .slk, .rst] s u) ∧
  (∀ t die counts s, ∃ u, exec (.thermalModelStep t die counts) s = .next u ∧
    Frame [.dev, .rm, .fld, .pt, .adc, .saf, .car, .eic, .log, .pci, .xi, .slk, .thm, .rst] s u) ∧
  (∀ t k s, ∃ u, exec (.sensorRestored t k) s = .next u ∧
    Frame [.eic, .log, .pci, .slk, .thm] s u) ∧
  (∀ t s, ∃ u, exec (.shutdownCleared t) s = .next u ∧
    Frame [.fld, .saf, .eic, .log, .pci, .slk, .thm] s u) ∧
  (∀ t s, ∃ u, exec (.throttleStep t) s = .next u ∧
    Frame [.cam, .eic, .log, .pci, .slk, .thm] s u) ∧
  (∀ t full idle s, ∃ u, exec (.vcoreAdjust t full idle) s = .next u ∧
    Frame [.eic, .pci, .slk, .thm] s u) ∧
  (∀ t src s, ∃ u, exec (.dormantWake t src) s = .next u ∧
    Frame [.thm] s u) ∧
  (∀ t s, ∃ u, exec (.wakeSupplyTimeout t) s = .next u ∧
    Frame [.thm] s u) ∧
  (∀ t s, ∃ u, exec (.verifyComplete t) s = .next u ∧
    Frame [.eic, .log, .pci, .slk, .upd] s u) ∧
  (∀ t s, ∃ u, exec (.updateLockExpiry t) s = .next u ∧
    Frame [.eic, .log, .pci, .slk, .upd] s u) ∧
  (∀ t s, ∃ u, exec (.imageConfirmed t) s = .next u ∧
    Frame [.eic, .log, .pci, .slk, .upd] s u) ∧
  (∀ t s, ∃ u, exec (.trialExpired t) s = .next u ∧
    Frame [.eic, .log, .pci, .slk, .upd, .rst] s u) ∧
  (∀ t s, ∃ u, exec (.porn t) s = .next u ∧
    Frame [.rst] s u) ∧
  (∀ t supply s, ∃ u, exec (.supplyMonitor t supply) s = .next u ∧
    Frame [.rst] s u) ∧
  (∀ t s, ∃ u, exec (.fullReset t) s = .next u ∧
    Frame [.dev, .dict, .rm, .fld, .chan, .tbs, .ee, .rj, .ts, .pt, .lce, .adc, .cam, .saf, .fe, .car, .eic, .log, .pci, .xi, .slk, .thm, .upd, .rst, .arb] s u) ∧
  (∀ t s, ∃ u, exec (.warmReset t) s = .next u ∧
    Frame [.dev, .dict, .rm, .fld, .chan, .tbs, .ee, .rj, .ts, .pt, .lce, .adc, .cam, .saf, .fe, .car, .eic, .log, .pci, .xi, .slk, .thm, .upd, .rst, .arb] s u) ∧
  (∀ t core s, ∃ u, exec (.coreWatchdog t core) s = .next u ∧
    Frame [.eic, .log, .pci, .slk, .rst] s u) ∧
  (∀ t s, ∃ u, exec (.safetyCoreFatalError t) s = .next u ∧
    Frame [.fld, .eic, .log, .pci, .slk, .upd, .rst] s u) ∧
  (∀ t v s, ∃ u, exec (.vmachLow t v) s = .next u ∧
    Frame [.dev, .rm, .fld, .adc, .saf, .car, .eic, .log, .pci, .slk, .thm, .rst] s u) ∧
  (∀ t v s, ∃ u, exec (.vmachRestored t v) s = .next u ∧
    Frame [.saf, .eic, .log, .pci, .slk, .thm] s u) ∧
  (∀ t v s, ∃ u, exec (.vhvInLow t v) s = .next u ∧
    Frame [.fld, .eic, .log, .pci, .slk, .thm] s u) ∧
  (∀ t v s, ∃ u, exec (.vhvInRestored t v) s = .next u ∧
    Frame [.fld, .eic, .log, .pci, .slk, .thm] s u) ∧
  (∀ t bootsel s, ∃ u, exec (.internalResetRelease t bootsel) s = .next u ∧
    Frame [.rst] s u)

/-- With command c in front, step is exec of c on the state whose queue is the rest, for every command and state; on an
empty queue step leaves the state as it is, which is the model's choice of log entry 3. The table gives no row bits,
so no word spells a command and withFetchWord changes nothing (log entry 6). (R23, R547) -/
def Obligations.QueueStep : Prop :=
  (∀ (c : Instr) (rest : List Instr) (s : State), step { s with pending := c :: rest } = exec c { s with pending := rest }) ∧
  (∀ s, s.pending = [] → step s = .next s) ∧
  (∀ nbits w s, decodeTableWord nbits w = none ∧ State.withFetchWord s nbits w = s)

/-- For every command and state exec answers a next state: no command stops the block. In it the timebase count is the
greater of its old value and the command's instant, the queue is the same, every condition of DEGRADE that holds has
its flag set, and the mailbox request buffer holds what it held unless the command is a register write or a reset.
(R9, R23, R513, R558) -/
def Obligations.EveryCommandCompletes : Prop :=
  (∀ c s, ∃ u, exec c s = .next u ∧ u.pending = s.pending ∧ s.tb ≤ u.tb ∧ DegradeInv u) ∧
  (∀ c s, (∀ t a v, c ≠ .registerWrite t a v) → (∀ t, c ≠ .fullReset t) → (∀ t, c ≠ .warmReset t) →
    ∃ u, exec c s = .next u ∧ u.xi.mbx.req = s.xi.mbx.req)

/-- From every state that meets the invariant a step gives a state that meets it: each condition of R22 that holds has
its DEGRADE flag set, and both mailbox buffers list rising addresses without blank bytes. (R22, R23, R558) -/
def Obligations.InvariantKept : Prop :=
  (∀ s u, BlockInv s → step s = .next u → BlockInv u)

/-- The device is in BOOT with the internal reset held, nothing is enabled and no session is open; the registers that
read differently from zero read RM_STATUS 0x00FF0000, EE_STATUS 0x02000000, CAL_STATUS 0x80000000, LCE_STATUS
0x04000000, REC_STATUS 0x80000000, MBX_STATUS 0x80000000; the invariant of every step holds. That the device starts
with its reset held is the model's reading (log entry 5). (R85, R192, R248, R320, R488, R551, R558, R655) -/
def Obligations.ResetState : Prop :=
  (BlockInv State.reset ∧ State.reset.dev = .boot ∧ State.reset.rst.phase = .held ∧ State.reset.pending = [] ∧
    (∀ ep : Fin 10, (sessOf State.reset ep).open_ = false) ∧ (∀ n : Fin 32, (ringOf State.reset n).enable = false) ∧
    regRead State.reset 0 0x1000 = 0x00FF0000 ∧ regRead State.reset 0 0x1200 = 0x02000000 ∧
    regRead State.reset 0 0x1400 = 0x80000000 ∧ regRead State.reset 0 0x1600 = 0x04000000 ∧
    regRead State.reset 0 0x1900 = 0x80000000 ∧ regRead State.reset 1 0x1004 = 0x80000000)
end

