-- ==== Sys2Proof/Laws/State.lean ====
section
/-!
SUPPORT. The fields of the state after each primitive update: one lemma for each field and update, so that no proof unfolds
a record update.
-/
namespace Sys2Proof.Machine

section
variable (f : FldS → FldS) (s : State)
@[simp] theorem modFld_tb : (modFld f s).tb = s.tb := rfl
@[simp] theorem modFld_t64Ofs : (modFld f s).t64Ofs = s.t64Ofs := rfl
@[simp] theorem modFld_dev : (modFld f s).dev = s.dev := rfl
@[simp] theorem modFld_dict : (modFld f s).dict = s.dict := rfl
@[simp] theorem modFld_rm : (modFld f s).rm = s.rm := rfl
@[simp] theorem modFld_fld : (modFld f s).fld = f s.fld := rfl
@[simp] theorem modFld_chan : (modFld f s).chan = s.chan := rfl
@[simp] theorem modFld_tbs : (modFld f s).tbs = s.tbs := rfl
@[simp] theorem modFld_ee : (modFld f s).ee = s.ee := rfl
@[simp] theorem modFld_rj : (modFld f s).rj = s.rj := rfl
@[simp] theorem modFld_ts : (modFld f s).ts = s.ts := rfl
@[simp] theorem modFld_pt : (modFld f s).pt = s.pt := rfl
@[simp] theorem modFld_lce : (modFld f s).lce = s.lce := rfl
@[simp] theorem modFld_adc : (modFld f s).adc = s.adc := rfl
@[simp] theorem modFld_cam : (modFld f s).cam = s.cam := rfl
@[simp] theorem modFld_saf : (modFld f s).saf = s.saf := rfl
@[simp] theorem modFld_fe : (modFld f s).fe = s.fe := rfl
@[simp] theorem modFld_car : (modFld f s).car = s.car := rfl
@[simp] theorem modFld_eic : (modFld f s).eic = s.eic := rfl
@[simp] theorem modFld_log : (modFld f s).log = s.log := rfl
@[simp] theorem modFld_pci : (modFld f s).pci = s.pci := rfl
@[simp] theorem modFld_xi : (modFld f s).xi = s.xi := rfl
@[simp] theorem modFld_slk : (modFld f s).slk = s.slk := rfl
@[simp] theorem modFld_thm : (modFld f s).thm = s.thm := rfl
@[simp] theorem modFld_upd : (modFld f s).upd = s.upd := rfl
@[simp] theorem modFld_rst : (modFld f s).rst = s.rst := rfl
@[simp] theorem modFld_arb : (modFld f s).arb = s.arb := rfl
@[simp] theorem modFld_out : (modFld f s).out = s.out := rfl
@[simp] theorem modFld_busRead : (modFld f s).busRead = s.busRead := rfl
@[simp] theorem modFld_free : (modFld f s).free = s.free := rfl
@[simp] theorem modFld_pending : (modFld f s).pending = s.pending := rfl
end

section
variable (f : SafS → SafS) (s : State)
@[simp] theorem modSaf_tb : (modSaf f s).tb = s.tb := rfl
@[simp] theorem modSaf_t64Ofs : (modSaf f s).t64Ofs = s.t64Ofs := rfl
@[simp] theorem modSaf_dev : (modSaf f s).dev = s.dev := rfl
@[simp] theorem modSaf_dict : (modSaf f s).dict = s.dict := rfl
@[simp] theorem modSaf_rm : (modSaf f s).rm = s.rm := rfl
@[simp] theorem modSaf_fld : (modSaf f s).fld = s.fld := rfl
@[simp] theorem modSaf_chan : (modSaf f s).chan = s.chan := rfl
@[simp] theorem modSaf_tbs : (modSaf f s).tbs = s.tbs := rfl
@[simp] theorem modSaf_ee : (modSaf f s).ee = s.ee := rfl
@[simp] theorem modSaf_rj : (modSaf f s).rj = s.rj := rfl
@[simp] theorem modSaf_ts : (modSaf f s).ts = s.ts := rfl
@[simp] theorem modSaf_pt : (modSaf f s).pt = s.pt := rfl
@[simp] theorem modSaf_lce : (modSaf f s).lce = s.lce := rfl
@[simp] theorem modSaf_adc : (modSaf f s).adc = s.adc := rfl
@[simp] theorem modSaf_cam : (modSaf f s).cam = s.cam := rfl
@[simp] theorem modSaf_saf : (modSaf f s).saf = f s.saf := rfl
@[simp] theorem modSaf_fe : (modSaf f s).fe = s.fe := rfl
@[simp] theorem modSaf_car : (modSaf f s).car = s.car := rfl
@[simp] theorem modSaf_eic : (modSaf f s).eic = s.eic := rfl
@[simp] theorem modSaf_log : (modSaf f s).log = s.log := rfl
@[simp] theorem modSaf_pci : (modSaf f s).pci = s.pci := rfl
@[simp] theorem modSaf_xi : (modSaf f s).xi = s.xi := rfl
@[simp] theorem modSaf_slk : (modSaf f s).slk = s.slk := rfl
@[simp] theorem modSaf_thm : (modSaf f s).thm = s.thm := rfl
@[simp] theorem modSaf_upd : (modSaf f s).upd = s.upd := rfl
@[simp] theorem modSaf_rst : (modSaf f s).rst = s.rst := rfl
@[simp] theorem modSaf_arb : (modSaf f s).arb = s.arb := rfl
@[simp] theorem modSaf_out : (modSaf f s).out = s.out := rfl
@[simp] theorem modSaf_busRead : (modSaf f s).busRead = s.busRead := rfl
@[simp] theorem modSaf_free : (modSaf f s).free = s.free := rfl
@[simp] theorem modSaf_pending : (modSaf f s).pending = s.pending := rfl
end

section
variable (f : RmS → RmS) (s : State)
@[simp] theorem modRm_tb : (modRm f s).tb = s.tb := rfl
@[simp] theorem modRm_t64Ofs : (modRm f s).t64Ofs = s.t64Ofs := rfl
@[simp] theorem modRm_dev : (modRm f s).dev = s.dev := rfl
@[simp] theorem modRm_dict : (modRm f s).dict = s.dict := rfl
@[simp] theorem modRm_rm : (modRm f s).rm = f s.rm := rfl
@[simp] theorem modRm_fld : (modRm f s).fld = s.fld := rfl
@[simp] theorem modRm_chan : (modRm f s).chan = s.chan := rfl
@[simp] theorem modRm_tbs : (modRm f s).tbs = s.tbs := rfl
@[simp] theorem modRm_ee : (modRm f s).ee = s.ee := rfl
@[simp] theorem modRm_rj : (modRm f s).rj = s.rj := rfl
@[simp] theorem modRm_ts : (modRm f s).ts = s.ts := rfl
@[simp] theorem modRm_pt : (modRm f s).pt = s.pt := rfl
@[simp] theorem modRm_lce : (modRm f s).lce = s.lce := rfl
@[simp] theorem modRm_adc : (modRm f s).adc = s.adc := rfl
@[simp] theorem modRm_cam : (modRm f s).cam = s.cam := rfl
@[simp] theorem modRm_saf : (modRm f s).saf = s.saf := rfl
@[simp] theorem modRm_fe : (modRm f s).fe = s.fe := rfl
@[simp] theorem modRm_car : (modRm f s).car = s.car := rfl
@[simp] theorem modRm_eic : (modRm f s).eic = s.eic := rfl
@[simp] theorem modRm_log : (modRm f s).log = s.log := rfl
@[simp] theorem modRm_pci : (modRm f s).pci = s.pci := rfl
@[simp] theorem modRm_xi : (modRm f s).xi = s.xi := rfl
@[simp] theorem modRm_slk : (modRm f s).slk = s.slk := rfl
@[simp] theorem modRm_thm : (modRm f s).thm = s.thm := rfl
@[simp] theorem modRm_upd : (modRm f s).upd = s.upd := rfl
@[simp] theorem modRm_rst : (modRm f s).rst = s.rst := rfl
@[simp] theorem modRm_arb : (modRm f s).arb = s.arb := rfl
@[simp] theorem modRm_out : (modRm f s).out = s.out := rfl
@[simp] theorem modRm_busRead : (modRm f s).busRead = s.busRead := rfl
@[simp] theorem modRm_free : (modRm f s).free = s.free := rfl
@[simp] theorem modRm_pending : (modRm f s).pending = s.pending := rfl
end

section
variable (f : EicS → EicS) (s : State)
@[simp] theorem modEic_tb : (modEic f s).tb = s.tb := rfl
@[simp] theorem modEic_t64Ofs : (modEic f s).t64Ofs = s.t64Ofs := rfl
@[simp] theorem modEic_dev : (modEic f s).dev = s.dev := rfl
@[simp] theorem modEic_dict : (modEic f s).dict = s.dict := rfl
@[simp] theorem modEic_rm : (modEic f s).rm = s.rm := rfl
@[simp] theorem modEic_fld : (modEic f s).fld = s.fld := rfl
@[simp] theorem modEic_chan : (modEic f s).chan = s.chan := rfl
@[simp] theorem modEic_tbs : (modEic f s).tbs = s.tbs := rfl
@[simp] theorem modEic_ee : (modEic f s).ee = s.ee := rfl
@[simp] theorem modEic_rj : (modEic f s).rj = s.rj := rfl
@[simp] theorem modEic_ts : (modEic f s).ts = s.ts := rfl
@[simp] theorem modEic_pt : (modEic f s).pt = s.pt := rfl
@[simp] theorem modEic_lce : (modEic f s).lce = s.lce := rfl
@[simp] theorem modEic_adc : (modEic f s).adc = s.adc := rfl
@[simp] theorem modEic_cam : (modEic f s).cam = s.cam := rfl
@[simp] theorem modEic_saf : (modEic f s).saf = s.saf := rfl
@[simp] theorem modEic_fe : (modEic f s).fe = s.fe := rfl
@[simp] theorem modEic_car : (modEic f s).car = s.car := rfl
@[simp] theorem modEic_eic : (modEic f s).eic = f s.eic := rfl
@[simp] theorem modEic_log : (modEic f s).log = s.log := rfl
@[simp] theorem modEic_pci : (modEic f s).pci = s.pci := rfl
@[simp] theorem modEic_xi : (modEic f s).xi = s.xi := rfl
@[simp] theorem modEic_slk : (modEic f s).slk = s.slk := rfl
@[simp] theorem modEic_thm : (modEic f s).thm = s.thm := rfl
@[simp] theorem modEic_upd : (modEic f s).upd = s.upd := rfl
@[simp] theorem modEic_rst : (modEic f s).rst = s.rst := rfl
@[simp] theorem modEic_arb : (modEic f s).arb = s.arb := rfl
@[simp] theorem modEic_out : (modEic f s).out = s.out := rfl
@[simp] theorem modEic_busRead : (modEic f s).busRead = s.busRead := rfl
@[simp] theorem modEic_free : (modEic f s).free = s.free := rfl
@[simp] theorem modEic_pending : (modEic f s).pending = s.pending := rfl
end

section
variable (f : RecS → RecS) (s : State)
@[simp] theorem modRec_tb : (modRec f s).tb = s.tb := rfl
@[simp] theorem modRec_t64Ofs : (modRec f s).t64Ofs = s.t64Ofs := rfl
@[simp] theorem modRec_dev : (modRec f s).dev = s.dev := rfl
@[simp] theorem modRec_dict : (modRec f s).dict = s.dict := rfl
@[simp] theorem modRec_rm : (modRec f s).rm = s.rm := rfl
@[simp] theorem modRec_fld : (modRec f s).fld = s.fld := rfl
@[simp] theorem modRec_chan : (modRec f s).chan = s.chan := rfl
@[simp] theorem modRec_tbs : (modRec f s).tbs = s.tbs := rfl
@[simp] theorem modRec_ee : (modRec f s).ee = s.ee := rfl
@[simp] theorem modRec_rj : (modRec f s).rj = s.rj := rfl
@[simp] theorem modRec_ts : (modRec f s).ts = s.ts := rfl
@[simp] theorem modRec_pt : (modRec f s).pt = s.pt := rfl
@[simp] theorem modRec_lce : (modRec f s).lce = s.lce := rfl
@[simp] theorem modRec_adc : (modRec f s).adc = s.adc := rfl
@[simp] theorem modRec_cam : (modRec f s).cam = s.cam := rfl
@[simp] theorem modRec_saf : (modRec f s).saf = s.saf := rfl
@[simp] theorem modRec_fe : (modRec f s).fe = s.fe := rfl
@[simp] theorem modRec_car : (modRec f s).car = f s.car := rfl
@[simp] theorem modRec_eic : (modRec f s).eic = s.eic := rfl
@[simp] theorem modRec_log : (modRec f s).log = s.log := rfl
@[simp] theorem modRec_pci : (modRec f s).pci = s.pci := rfl
@[simp] theorem modRec_xi : (modRec f s).xi = s.xi := rfl
@[simp] theorem modRec_slk : (modRec f s).slk = s.slk := rfl
@[simp] theorem modRec_thm : (modRec f s).thm = s.thm := rfl
@[simp] theorem modRec_upd : (modRec f s).upd = s.upd := rfl
@[simp] theorem modRec_rst : (modRec f s).rst = s.rst := rfl
@[simp] theorem modRec_arb : (modRec f s).arb = s.arb := rfl
@[simp] theorem modRec_out : (modRec f s).out = s.out := rfl
@[simp] theorem modRec_busRead : (modRec f s).busRead = s.busRead := rfl
@[simp] theorem modRec_free : (modRec f s).free = s.free := rfl
@[simp] theorem modRec_pending : (modRec f s).pending = s.pending := rfl
end

section
variable (f : PciS → PciS) (s : State)
@[simp] theorem modPci_tb : (modPci f s).tb = s.tb := rfl
@[simp] theorem modPci_t64Ofs : (modPci f s).t64Ofs = s.t64Ofs := rfl
@[simp] theorem modPci_dev : (modPci f s).dev = s.dev := rfl
@[simp] theorem modPci_dict : (modPci f s).dict = s.dict := rfl
@[simp] theorem modPci_rm : (modPci f s).rm = s.rm := rfl
@[simp] theorem modPci_fld : (modPci f s).fld = s.fld := rfl
@[simp] theorem modPci_chan : (modPci f s).chan = s.chan := rfl
@[simp] theorem modPci_tbs : (modPci f s).tbs = s.tbs := rfl
@[simp] theorem modPci_ee : (modPci f s).ee = s.ee := rfl
@[simp] theorem modPci_rj : (modPci f s).rj = s.rj := rfl
@[simp] theorem modPci_ts : (modPci f s).ts = s.ts := rfl
@[simp] theorem modPci_pt : (modPci f s).pt = s.pt := rfl
@[simp] theorem modPci_lce : (modPci f s).lce = s.lce := rfl
@[simp] theorem modPci_adc : (modPci f s).adc = s.adc := rfl
@[simp] theorem modPci_cam : (modPci f s).cam = s.cam := rfl
@[simp] theorem modPci_saf : (modPci f s).saf = s.saf := rfl
@[simp] theorem modPci_fe : (modPci f s).fe = s.fe := rfl
@[simp] theorem modPci_car : (modPci f s).car = s.car := rfl
@[simp] theorem modPci_eic : (modPci f s).eic = s.eic := rfl
@[simp] theorem modPci_log : (modPci f s).log = s.log := rfl
@[simp] theorem modPci_pci : (modPci f s).pci = f s.pci := rfl
@[simp] theorem modPci_xi : (modPci f s).xi = s.xi := rfl
@[simp] theorem modPci_slk : (modPci f s).slk = s.slk := rfl
@[simp] theorem modPci_thm : (modPci f s).thm = s.thm := rfl
@[simp] theorem modPci_upd : (modPci f s).upd = s.upd := rfl
@[simp] theorem modPci_rst : (modPci f s).rst = s.rst := rfl
@[simp] theorem modPci_arb : (modPci f s).arb = s.arb := rfl
@[simp] theorem modPci_out : (modPci f s).out = s.out := rfl
@[simp] theorem modPci_busRead : (modPci f s).busRead = s.busRead := rfl
@[simp] theorem modPci_free : (modPci f s).free = s.free := rfl
@[simp] theorem modPci_pending : (modPci f s).pending = s.pending := rfl
end

section
variable (f : SlkAll → SlkAll) (s : State)
@[simp] theorem modSlk_tb : (modSlk f s).tb = s.tb := rfl
@[simp] theorem modSlk_t64Ofs : (modSlk f s).t64Ofs = s.t64Ofs := rfl
@[simp] theorem modSlk_dev : (modSlk f s).dev = s.dev := rfl
@[simp] theorem modSlk_dict : (modSlk f s).dict = s.dict := rfl
@[simp] theorem modSlk_rm : (modSlk f s).rm = s.rm := rfl
@[simp] theorem modSlk_fld : (modSlk f s).fld = s.fld := rfl
@[simp] theorem modSlk_chan : (modSlk f s).chan = s.chan := rfl
@[simp] theorem modSlk_tbs : (modSlk f s).tbs = s.tbs := rfl
@[simp] theorem modSlk_ee : (modSlk f s).ee = s.ee := rfl
@[simp] theorem modSlk_rj : (modSlk f s).rj = s.rj := rfl
@[simp] theorem modSlk_ts : (modSlk f s).ts = s.ts := rfl
@[simp] theorem modSlk_pt : (modSlk f s).pt = s.pt := rfl
@[simp] theorem modSlk_lce : (modSlk f s).lce = s.lce := rfl
@[simp] theorem modSlk_adc : (modSlk f s).adc = s.adc := rfl
@[simp] theorem modSlk_cam : (modSlk f s).cam = s.cam := rfl
@[simp] theorem modSlk_saf : (modSlk f s).saf = s.saf := rfl
@[simp] theorem modSlk_fe : (modSlk f s).fe = s.fe := rfl
@[simp] theorem modSlk_car : (modSlk f s).car = s.car := rfl
@[simp] theorem modSlk_eic : (modSlk f s).eic = s.eic := rfl
@[simp] theorem modSlk_log : (modSlk f s).log = s.log := rfl
@[simp] theorem modSlk_pci : (modSlk f s).pci = s.pci := rfl
@[simp] theorem modSlk_xi : (modSlk f s).xi = s.xi := rfl
@[simp] theorem modSlk_slk : (modSlk f s).slk = f s.slk := rfl
@[simp] theorem modSlk_thm : (modSlk f s).thm = s.thm := rfl
@[simp] theorem modSlk_upd : (modSlk f s).upd = s.upd := rfl
@[simp] theorem modSlk_rst : (modSlk f s).rst = s.rst := rfl
@[simp] theorem modSlk_arb : (modSlk f s).arb = s.arb := rfl
@[simp] theorem modSlk_out : (modSlk f s).out = s.out := rfl
@[simp] theorem modSlk_busRead : (modSlk f s).busRead = s.busRead := rfl
@[simp] theorem modSlk_free : (modSlk f s).free = s.free := rfl
@[simp] theorem modSlk_pending : (modSlk f s).pending = s.pending := rfl
end

section
variable (f : XiS → XiS) (s : State)
@[simp] theorem modXi_tb : (modXi f s).tb = s.tb := rfl
@[simp] theorem modXi_t64Ofs : (modXi f s).t64Ofs = s.t64Ofs := rfl
@[simp] theorem modXi_dev : (modXi f s).dev = s.dev := rfl
@[simp] theorem modXi_dict : (modXi f s).dict = s.dict := rfl
@[simp] theorem modXi_rm : (modXi f s).rm = s.rm := rfl
@[simp] theorem modXi_fld : (modXi f s).fld = s.fld := rfl
@[simp] theorem modXi_chan : (modXi f s).chan = s.chan := rfl
@[simp] theorem modXi_tbs : (modXi f s).tbs = s.tbs := rfl
@[simp] theorem modXi_ee : (modXi f s).ee = s.ee := rfl
@[simp] theorem modXi_rj : (modXi f s).rj = s.rj := rfl
@[simp] theorem modXi_ts : (modXi f s).ts = s.ts := rfl
@[simp] theorem modXi_pt : (modXi f s).pt = s.pt := rfl
@[simp] theorem modXi_lce : (modXi f s).lce = s.lce := rfl
@[simp] theorem modXi_adc : (modXi f s).adc = s.adc := rfl
@[simp] theorem modXi_cam : (modXi f s).cam = s.cam := rfl
@[simp] theorem modXi_saf : (modXi f s).saf = s.saf := rfl
@[simp] theorem modXi_fe : (modXi f s).fe = s.fe := rfl
@[simp] theorem modXi_car : (modXi f s).car = s.car := rfl
@[simp] theorem modXi_eic : (modXi f s).eic = s.eic := rfl
@[simp] theorem modXi_log : (modXi f s).log = s.log := rfl
@[simp] theorem modXi_pci : (modXi f s).pci = s.pci := rfl
@[simp] theorem modXi_xi : (modXi f s).xi = f s.xi := rfl
@[simp] theorem modXi_slk : (modXi f s).slk = s.slk := rfl
@[simp] theorem modXi_thm : (modXi f s).thm = s.thm := rfl
@[simp] theorem modXi_upd : (modXi f s).upd = s.upd := rfl
@[simp] theorem modXi_rst : (modXi f s).rst = s.rst := rfl
@[simp] theorem modXi_arb : (modXi f s).arb = s.arb := rfl
@[simp] theorem modXi_out : (modXi f s).out = s.out := rfl
@[simp] theorem modXi_busRead : (modXi f s).busRead = s.busRead := rfl
@[simp] theorem modXi_free : (modXi f s).free = s.free := rfl
@[simp] theorem modXi_pending : (modXi f s).pending = s.pending := rfl
end

section
variable (f : RstS → RstS) (s : State)
@[simp] theorem modRst_tb : (modRst f s).tb = s.tb := rfl
@[simp] theorem modRst_t64Ofs : (modRst f s).t64Ofs = s.t64Ofs := rfl
@[simp] theorem modRst_dev : (modRst f s).dev = s.dev := rfl
@[simp] theorem modRst_dict : (modRst f s).dict = s.dict := rfl
@[simp] theorem modRst_rm : (modRst f s).rm = s.rm := rfl
@[simp] theorem modRst_fld : (modRst f s).fld = s.fld := rfl
@[simp] theorem modRst_chan : (modRst f s).chan = s.chan := rfl
@[simp] theorem modRst_tbs : (modRst f s).tbs = s.tbs := rfl
@[simp] theorem modRst_ee : (modRst f s).ee = s.ee := rfl
@[simp] theorem modRst_rj : (modRst f s).rj = s.rj := rfl
@[simp] theorem modRst_ts : (modRst f s).ts = s.ts := rfl
@[simp] theorem modRst_pt : (modRst f s).pt = s.pt := rfl
@[simp] theorem modRst_lce : (modRst f s).lce = s.lce := rfl
@[simp] theorem modRst_adc : (modRst f s).adc = s.adc := rfl
@[simp] theorem modRst_cam : (modRst f s).cam = s.cam := rfl
@[simp] theorem modRst_saf : (modRst f s).saf = s.saf := rfl
@[simp] theorem modRst_fe : (modRst f s).fe = s.fe := rfl
@[simp] theorem modRst_car : (modRst f s).car = s.car := rfl
@[simp] theorem modRst_eic : (modRst f s).eic = s.eic := rfl
@[simp] theorem modRst_log : (modRst f s).log = s.log := rfl
@[simp] theorem modRst_pci : (modRst f s).pci = s.pci := rfl
@[simp] theorem modRst_xi : (modRst f s).xi = s.xi := rfl
@[simp] theorem modRst_slk : (modRst f s).slk = s.slk := rfl
@[simp] theorem modRst_thm : (modRst f s).thm = s.thm := rfl
@[simp] theorem modRst_upd : (modRst f s).upd = s.upd := rfl
@[simp] theorem modRst_rst : (modRst f s).rst = f s.rst := rfl
@[simp] theorem modRst_arb : (modRst f s).arb = s.arb := rfl
@[simp] theorem modRst_out : (modRst f s).out = s.out := rfl
@[simp] theorem modRst_busRead : (modRst f s).busRead = s.busRead := rfl
@[simp] theorem modRst_free : (modRst f s).free = s.free := rfl
@[simp] theorem modRst_pending : (modRst f s).pending = s.pending := rfl
end

section
variable (f : CamS → CamS) (s : State)
@[simp] theorem modCam_tb : (modCam f s).tb = s.tb := rfl
@[simp] theorem modCam_t64Ofs : (modCam f s).t64Ofs = s.t64Ofs := rfl
@[simp] theorem modCam_dev : (modCam f s).dev = s.dev := rfl
@[simp] theorem modCam_dict : (modCam f s).dict = s.dict := rfl
@[simp] theorem modCam_rm : (modCam f s).rm = s.rm := rfl
@[simp] theorem modCam_fld : (modCam f s).fld = s.fld := rfl
@[simp] theorem modCam_chan : (modCam f s).chan = s.chan := rfl
@[simp] theorem modCam_tbs : (modCam f s).tbs = s.tbs := rfl
@[simp] theorem modCam_ee : (modCam f s).ee = s.ee := rfl
@[simp] theorem modCam_rj : (modCam f s).rj = s.rj := rfl
@[simp] theorem modCam_ts : (modCam f s).ts = s.ts := rfl
@[simp] theorem modCam_pt : (modCam f s).pt = s.pt := rfl
@[simp] theorem modCam_lce : (modCam f s).lce = s.lce := rfl
@[simp] theorem modCam_adc : (modCam f s).adc = s.adc := rfl
@[simp] theorem modCam_cam : (modCam f s).cam = f s.cam := rfl
@[simp] theorem modCam_saf : (modCam f s).saf = s.saf := rfl
@[simp] theorem modCam_fe : (modCam f s).fe = s.fe := rfl
@[simp] theorem modCam_car : (modCam f s).car = s.car := rfl
@[simp] theorem modCam_eic : (modCam f s).eic = s.eic := rfl
@[simp] theorem modCam_log : (modCam f s).log = s.log := rfl
@[simp] theorem modCam_pci : (modCam f s).pci = s.pci := rfl
@[simp] theorem modCam_xi : (modCam f s).xi = s.xi := rfl
@[simp] theorem modCam_slk : (modCam f s).slk = s.slk := rfl
@[simp] theorem modCam_thm : (modCam f s).thm = s.thm := rfl
@[simp] theorem modCam_upd : (modCam f s).upd = s.upd := rfl
@[simp] theorem modCam_rst : (modCam f s).rst = s.rst := rfl
@[simp] theorem modCam_arb : (modCam f s).arb = s.arb := rfl
@[simp] theorem modCam_out : (modCam f s).out = s.out := rfl
@[simp] theorem modCam_busRead : (modCam f s).busRead = s.busRead := rfl
@[simp] theorem modCam_free : (modCam f s).free = s.free := rfl
@[simp] theorem modCam_pending : (modCam f s).pending = s.pending := rfl
end

section
variable (f : FeS → FeS) (s : State)
@[simp] theorem modFe_tb : (modFe f s).tb = s.tb := rfl
@[simp] theorem modFe_t64Ofs : (modFe f s).t64Ofs = s.t64Ofs := rfl
@[simp] theorem modFe_dev : (modFe f s).dev = s.dev := rfl
@[simp] theorem modFe_dict : (modFe f s).dict = s.dict := rfl
@[simp] theorem modFe_rm : (modFe f s).rm = s.rm := rfl
@[simp] theorem modFe_fld : (modFe f s).fld = s.fld := rfl
@[simp] theorem modFe_chan : (modFe f s).chan = s.chan := rfl
@[simp] theorem modFe_tbs : (modFe f s).tbs = s.tbs := rfl
@[simp] theorem modFe_ee : (modFe f s).ee = s.ee := rfl
@[simp] theorem modFe_rj : (modFe f s).rj = s.rj := rfl
@[simp] theorem modFe_ts : (modFe f s).ts = s.ts := rfl
@[simp] theorem modFe_pt : (modFe f s).pt = s.pt := rfl
@[simp] theorem modFe_lce : (modFe f s).lce = s.lce := rfl
@[simp] theorem modFe_adc : (modFe f s).adc = s.adc := rfl
@[simp] theorem modFe_cam : (modFe f s).cam = s.cam := rfl
@[simp] theorem modFe_saf : (modFe f s).saf = s.saf := rfl
@[simp] theorem modFe_fe : (modFe f s).fe = f s.fe := rfl
@[simp] theorem modFe_car : (modFe f s).car = s.car := rfl
@[simp] theorem modFe_eic : (modFe f s).eic = s.eic := rfl
@[simp] theorem modFe_log : (modFe f s).log = s.log := rfl
@[simp] theorem modFe_pci : (modFe f s).pci = s.pci := rfl
@[simp] theorem modFe_xi : (modFe f s).xi = s.xi := rfl
@[simp] theorem modFe_slk : (modFe f s).slk = s.slk := rfl
@[simp] theorem modFe_thm : (modFe f s).thm = s.thm := rfl
@[simp] theorem modFe_upd : (modFe f s).upd = s.upd := rfl
@[simp] theorem modFe_rst : (modFe f s).rst = s.rst := rfl
@[simp] theorem modFe_arb : (modFe f s).arb = s.arb := rfl
@[simp] theorem modFe_out : (modFe f s).out = s.out := rfl
@[simp] theorem modFe_busRead : (modFe f s).busRead = s.busRead := rfl
@[simp] theorem modFe_free : (modFe f s).free = s.free := rfl
@[simp] theorem modFe_pending : (modFe f s).pending = s.pending := rfl
end

section
variable (f : UpdS → UpdS) (s : State)
@[simp] theorem modUpd_tb : (modUpd f s).tb = s.tb := rfl
@[simp] theorem modUpd_t64Ofs : (modUpd f s).t64Ofs = s.t64Ofs := rfl
@[simp] theorem modUpd_dev : (modUpd f s).dev = s.dev := rfl
@[simp] theorem modUpd_dict : (modUpd f s).dict = s.dict := rfl
@[simp] theorem modUpd_rm : (modUpd f s).rm = s.rm := rfl
@[simp] theorem modUpd_fld : (modUpd f s).fld = s.fld := rfl
@[simp] theorem modUpd_chan : (modUpd f s).chan = s.chan := rfl
@[simp] theorem modUpd_tbs : (modUpd f s).tbs = s.tbs := rfl
@[simp] theorem modUpd_ee : (modUpd f s).ee = s.ee := rfl
@[simp] theorem modUpd_rj : (modUpd f s).rj = s.rj := rfl
@[simp] theorem modUpd_ts : (modUpd f s).ts = s.ts := rfl
@[simp] theorem modUpd_pt : (modUpd f s).pt = s.pt := rfl
@[simp] theorem modUpd_lce : (modUpd f s).lce = s.lce := rfl
@[simp] theorem modUpd_adc : (modUpd f s).adc = s.adc := rfl
@[simp] theorem modUpd_cam : (modUpd f s).cam = s.cam := rfl
@[simp] theorem modUpd_saf : (modUpd f s).saf = s.saf := rfl
@[simp] theorem modUpd_fe : (modUpd f s).fe = s.fe := rfl
@[simp] theorem modUpd_car : (modUpd f s).car = s.car := rfl
@[simp] theorem modUpd_eic : (modUpd f s).eic = s.eic := rfl
@[simp] theorem modUpd_log : (modUpd f s).log = s.log := rfl
@[simp] theorem modUpd_pci : (modUpd f s).pci = s.pci := rfl
@[simp] theorem modUpd_xi : (modUpd f s).xi = s.xi := rfl
@[simp] theorem modUpd_slk : (modUpd f s).slk = s.slk := rfl
@[simp] theorem modUpd_thm : (modUpd f s).thm = s.thm := rfl
@[simp] theorem modUpd_upd : (modUpd f s).upd = f s.upd := rfl
@[simp] theorem modUpd_rst : (modUpd f s).rst = s.rst := rfl
@[simp] theorem modUpd_arb : (modUpd f s).arb = s.arb := rfl
@[simp] theorem modUpd_out : (modUpd f s).out = s.out := rfl
@[simp] theorem modUpd_busRead : (modUpd f s).busRead = s.busRead := rfl
@[simp] theorem modUpd_free : (modUpd f s).free = s.free := rfl
@[simp] theorem modUpd_pending : (modUpd f s).pending = s.pending := rfl
end

section
variable (f : PtS → PtS) (s : State)
@[simp] theorem modPt_tb : (modPt f s).tb = s.tb := rfl
@[simp] theorem modPt_t64Ofs : (modPt f s).t64Ofs = s.t64Ofs := rfl
@[simp] theorem modPt_dev : (modPt f s).dev = s.dev := rfl
@[simp] theorem modPt_dict : (modPt f s).dict = s.dict := rfl
@[simp] theorem modPt_rm : (modPt f s).rm = s.rm := rfl
@[simp] theorem modPt_fld : (modPt f s).fld = s.fld := rfl
@[simp] theorem modPt_chan : (modPt f s).chan = s.chan := rfl
@[simp] theorem modPt_tbs : (modPt f s).tbs = s.tbs := rfl
@[simp] theorem modPt_ee : (modPt f s).ee = s.ee := rfl
@[simp] theorem modPt_rj : (modPt f s).rj = s.rj := rfl
@[simp] theorem modPt_ts : (modPt f s).ts = s.ts := rfl
@[simp] theorem modPt_pt : (modPt f s).pt = f s.pt := rfl
@[simp] theorem modPt_lce : (modPt f s).lce = s.lce := rfl
@[simp] theorem modPt_adc : (modPt f s).adc = s.adc := rfl
@[simp] theorem modPt_cam : (modPt f s).cam = s.cam := rfl
@[simp] theorem modPt_saf : (modPt f s).saf = s.saf := rfl
@[simp] theorem modPt_fe : (modPt f s).fe = s.fe := rfl
@[simp] theorem modPt_car : (modPt f s).car = s.car := rfl
@[simp] theorem modPt_eic : (modPt f s).eic = s.eic := rfl
@[simp] theorem modPt_log : (modPt f s).log = s.log := rfl
@[simp] theorem modPt_pci : (modPt f s).pci = s.pci := rfl
@[simp] theorem modPt_xi : (modPt f s).xi = s.xi := rfl
@[simp] theorem modPt_slk : (modPt f s).slk = s.slk := rfl
@[simp] theorem modPt_thm : (modPt f s).thm = s.thm := rfl
@[simp] theorem modPt_upd : (modPt f s).upd = s.upd := rfl
@[simp] theorem modPt_rst : (modPt f s).rst = s.rst := rfl
@[simp] theorem modPt_arb : (modPt f s).arb = s.arb := rfl
@[simp] theorem modPt_out : (modPt f s).out = s.out := rfl
@[simp] theorem modPt_busRead : (modPt f s).busRead = s.busRead := rfl
@[simp] theorem modPt_free : (modPt f s).free = s.free := rfl
@[simp] theorem modPt_pending : (modPt f s).pending = s.pending := rfl
end

section
variable (f : LceS → LceS) (s : State)
@[simp] theorem modLce_tb : (modLce f s).tb = s.tb := rfl
@[simp] theorem modLce_t64Ofs : (modLce f s).t64Ofs = s.t64Ofs := rfl
@[simp] theorem modLce_dev : (modLce f s).dev = s.dev := rfl
@[simp] theorem modLce_dict : (modLce f s).dict = s.dict := rfl
@[simp] theorem modLce_rm : (modLce f s).rm = s.rm := rfl
@[simp] theorem modLce_fld : (modLce f s).fld = s.fld := rfl
@[simp] theorem modLce_chan : (modLce f s).chan = s.chan := rfl
@[simp] theorem modLce_tbs : (modLce f s).tbs = s.tbs := rfl
@[simp] theorem modLce_ee : (modLce f s).ee = s.ee := rfl
@[simp] theorem modLce_rj : (modLce f s).rj = s.rj := rfl
@[simp] theorem modLce_ts : (modLce f s).ts = s.ts := rfl
@[simp] theorem modLce_pt : (modLce f s).pt = s.pt := rfl
@[simp] theorem modLce_lce : (modLce f s).lce = f s.lce := rfl
@[simp] theorem modLce_adc : (modLce f s).adc = s.adc := rfl
@[simp] theorem modLce_cam : (modLce f s).cam = s.cam := rfl
@[simp] theorem modLce_saf : (modLce f s).saf = s.saf := rfl
@[simp] theorem modLce_fe : (modLce f s).fe = s.fe := rfl
@[simp] theorem modLce_car : (modLce f s).car = s.car := rfl
@[simp] theorem modLce_eic : (modLce f s).eic = s.eic := rfl
@[simp] theorem modLce_log : (modLce f s).log = s.log := rfl
@[simp] theorem modLce_pci : (modLce f s).pci = s.pci := rfl
@[simp] theorem modLce_xi : (modLce f s).xi = s.xi := rfl
@[simp] theorem modLce_slk : (modLce f s).slk = s.slk := rfl
@[simp] theorem modLce_thm : (modLce f s).thm = s.thm := rfl
@[simp] theorem modLce_upd : (modLce f s).upd = s.upd := rfl
@[simp] theorem modLce_rst : (modLce f s).rst = s.rst := rfl
@[simp] theorem modLce_arb : (modLce f s).arb = s.arb := rfl
@[simp] theorem modLce_out : (modLce f s).out = s.out := rfl
@[simp] theorem modLce_busRead : (modLce f s).busRead = s.busRead := rfl
@[simp] theorem modLce_free : (modLce f s).free = s.free := rfl
@[simp] theorem modLce_pending : (modLce f s).pending = s.pending := rfl
end

section
variable (f : EeS → EeS) (s : State)
@[simp] theorem modEe_tb : (modEe f s).tb = s.tb := rfl
@[simp] theorem modEe_t64Ofs : (modEe f s).t64Ofs = s.t64Ofs := rfl
@[simp] theorem modEe_dev : (modEe f s).dev = s.dev := rfl
@[simp] theorem modEe_dict : (modEe f s).dict = s.dict := rfl
@[simp] theorem modEe_rm : (modEe f s).rm = s.rm := rfl
@[simp] theorem modEe_fld : (modEe f s).fld = s.fld := rfl
@[simp] theorem modEe_chan : (modEe f s).chan = s.chan := rfl
@[simp] theorem modEe_tbs : (modEe f s).tbs = s.tbs := rfl
@[simp] theorem modEe_ee : (modEe f s).ee = f s.ee := rfl
@[simp] theorem modEe_rj : (modEe f s).rj = s.rj := rfl
@[simp] theorem modEe_ts : (modEe f s).ts = s.ts := rfl
@[simp] theorem modEe_pt : (modEe f s).pt = s.pt := rfl
@[simp] theorem modEe_lce : (modEe f s).lce = s.lce := rfl
@[simp] theorem modEe_adc : (modEe f s).adc = s.adc := rfl
@[simp] theorem modEe_cam : (modEe f s).cam = s.cam := rfl
@[simp] theorem modEe_saf : (modEe f s).saf = s.saf := rfl
@[simp] theorem modEe_fe : (modEe f s).fe = s.fe := rfl
@[simp] theorem modEe_car : (modEe f s).car = s.car := rfl
@[simp] theorem modEe_eic : (modEe f s).eic = s.eic := rfl
@[simp] theorem modEe_log : (modEe f s).log = s.log := rfl
@[simp] theorem modEe_pci : (modEe f s).pci = s.pci := rfl
@[simp] theorem modEe_xi : (modEe f s).xi = s.xi := rfl
@[simp] theorem modEe_slk : (modEe f s).slk = s.slk := rfl
@[simp] theorem modEe_thm : (modEe f s).thm = s.thm := rfl
@[simp] theorem modEe_upd : (modEe f s).upd = s.upd := rfl
@[simp] theorem modEe_rst : (modEe f s).rst = s.rst := rfl
@[simp] theorem modEe_arb : (modEe f s).arb = s.arb := rfl
@[simp] theorem modEe_out : (modEe f s).out = s.out := rfl
@[simp] theorem modEe_busRead : (modEe f s).busRead = s.busRead := rfl
@[simp] theorem modEe_free : (modEe f s).free = s.free := rfl
@[simp] theorem modEe_pending : (modEe f s).pending = s.pending := rfl
end

section
variable (f : RjS → RjS) (s : State)
@[simp] theorem modRj_tb : (modRj f s).tb = s.tb := rfl
@[simp] theorem modRj_t64Ofs : (modRj f s).t64Ofs = s.t64Ofs := rfl
@[simp] theorem modRj_dev : (modRj f s).dev = s.dev := rfl
@[simp] theorem modRj_dict : (modRj f s).dict = s.dict := rfl
@[simp] theorem modRj_rm : (modRj f s).rm = s.rm := rfl
@[simp] theorem modRj_fld : (modRj f s).fld = s.fld := rfl
@[simp] theorem modRj_chan : (modRj f s).chan = s.chan := rfl
@[simp] theorem modRj_tbs : (modRj f s).tbs = s.tbs := rfl
@[simp] theorem modRj_ee : (modRj f s).ee = s.ee := rfl
@[simp] theorem modRj_rj : (modRj f s).rj = f s.rj := rfl
@[simp] theorem modRj_ts : (modRj f s).ts = s.ts := rfl
@[simp] theorem modRj_pt : (modRj f s).pt = s.pt := rfl
@[simp] theorem modRj_lce : (modRj f s).lce = s.lce := rfl
@[simp] theorem modRj_adc : (modRj f s).adc = s.adc := rfl
@[simp] theorem modRj_cam : (modRj f s).cam = s.cam := rfl
@[simp] theorem modRj_saf : (modRj f s).saf = s.saf := rfl
@[simp] theorem modRj_fe : (modRj f s).fe = s.fe := rfl
@[simp] theorem modRj_car : (modRj f s).car = s.car := rfl
@[simp] theorem modRj_eic : (modRj f s).eic = s.eic := rfl
@[simp] theorem modRj_log : (modRj f s).log = s.log := rfl
@[simp] theorem modRj_pci : (modRj f s).pci = s.pci := rfl
@[simp] theorem modRj_xi : (modRj f s).xi = s.xi := rfl
@[simp] theorem modRj_slk : (modRj f s).slk = s.slk := rfl
@[simp] theorem modRj_thm : (modRj f s).thm = s.thm := rfl
@[simp] theorem modRj_upd : (modRj f s).upd = s.upd := rfl
@[simp] theorem modRj_rst : (modRj f s).rst = s.rst := rfl
@[simp] theorem modRj_arb : (modRj f s).arb = s.arb := rfl
@[simp] theorem modRj_out : (modRj f s).out = s.out := rfl
@[simp] theorem modRj_busRead : (modRj f s).busRead = s.busRead := rfl
@[simp] theorem modRj_free : (modRj f s).free = s.free := rfl
@[simp] theorem modRj_pending : (modRj f s).pending = s.pending := rfl
end

section
variable (f : TsS → TsS) (s : State)
@[simp] theorem modTs_tb : (modTs f s).tb = s.tb := rfl
@[simp] theorem modTs_t64Ofs : (modTs f s).t64Ofs = s.t64Ofs := rfl
@[simp] theorem modTs_dev : (modTs f s).dev = s.dev := rfl
@[simp] theorem modTs_dict : (modTs f s).dict = s.dict := rfl
@[simp] theorem modTs_rm : (modTs f s).rm = s.rm := rfl
@[simp] theorem modTs_fld : (modTs f s).fld = s.fld := rfl
@[simp] theorem modTs_chan : (modTs f s).chan = s.chan := rfl
@[simp] theorem modTs_tbs : (modTs f s).tbs = s.tbs := rfl
@[simp] theorem modTs_ee : (modTs f s).ee = s.ee := rfl
@[simp] theorem modTs_rj : (modTs f s).rj = s.rj := rfl
@[simp] theorem modTs_ts : (modTs f s).ts = f s.ts := rfl
@[simp] theorem modTs_pt : (modTs f s).pt = s.pt := rfl
@[simp] theorem modTs_lce : (modTs f s).lce = s.lce := rfl
@[simp] theorem modTs_adc : (modTs f s).adc = s.adc := rfl
@[simp] theorem modTs_cam : (modTs f s).cam = s.cam := rfl
@[simp] theorem modTs_saf : (modTs f s).saf = s.saf := rfl
@[simp] theorem modTs_fe : (modTs f s).fe = s.fe := rfl
@[simp] theorem modTs_car : (modTs f s).car = s.car := rfl
@[simp] theorem modTs_eic : (modTs f s).eic = s.eic := rfl
@[simp] theorem modTs_log : (modTs f s).log = s.log := rfl
@[simp] theorem modTs_pci : (modTs f s).pci = s.pci := rfl
@[simp] theorem modTs_xi : (modTs f s).xi = s.xi := rfl
@[simp] theorem modTs_slk : (modTs f s).slk = s.slk := rfl
@[simp] theorem modTs_thm : (modTs f s).thm = s.thm := rfl
@[simp] theorem modTs_upd : (modTs f s).upd = s.upd := rfl
@[simp] theorem modTs_rst : (modTs f s).rst = s.rst := rfl
@[simp] theorem modTs_arb : (modTs f s).arb = s.arb := rfl
@[simp] theorem modTs_out : (modTs f s).out = s.out := rfl
@[simp] theorem modTs_busRead : (modTs f s).busRead = s.busRead := rfl
@[simp] theorem modTs_free : (modTs f s).free = s.free := rfl
@[simp] theorem modTs_pending : (modTs f s).pending = s.pending := rfl
end

section
variable (f : AdcS → AdcS) (s : State)
@[simp] theorem modAdc_tb : (modAdc f s).tb = s.tb := rfl
@[simp] theorem modAdc_t64Ofs : (modAdc f s).t64Ofs = s.t64Ofs := rfl
@[simp] theorem modAdc_dev : (modAdc f s).dev = s.dev := rfl
@[simp] theorem modAdc_dict : (modAdc f s).dict = s.dict := rfl
@[simp] theorem modAdc_rm : (modAdc f s).rm = s.rm := rfl
@[simp] theorem modAdc_fld : (modAdc f s).fld = s.fld := rfl
@[simp] theorem modAdc_chan : (modAdc f s).chan = s.chan := rfl
@[simp] theorem modAdc_tbs : (modAdc f s).tbs = s.tbs := rfl
@[simp] theorem modAdc_ee : (modAdc f s).ee = s.ee := rfl
@[simp] theorem modAdc_rj : (modAdc f s).rj = s.rj := rfl
@[simp] theorem modAdc_ts : (modAdc f s).ts = s.ts := rfl
@[simp] theorem modAdc_pt : (modAdc f s).pt = s.pt := rfl
@[simp] theorem modAdc_lce : (modAdc f s).lce = s.lce := rfl
@[simp] theorem modAdc_adc : (modAdc f s).adc = f s.adc := rfl
@[simp] theorem modAdc_cam : (modAdc f s).cam = s.cam := rfl
@[simp] theorem modAdc_saf : (modAdc f s).saf = s.saf := rfl
@[simp] theorem modAdc_fe : (modAdc f s).fe = s.fe := rfl
@[simp] theorem modAdc_car : (modAdc f s).car = s.car := rfl
@[simp] theorem modAdc_eic : (modAdc f s).eic = s.eic := rfl
@[simp] theorem modAdc_log : (modAdc f s).log = s.log := rfl
@[simp] theorem modAdc_pci : (modAdc f s).pci = s.pci := rfl
@[simp] theorem modAdc_xi : (modAdc f s).xi = s.xi := rfl
@[simp] theorem modAdc_slk : (modAdc f s).slk = s.slk := rfl
@[simp] theorem modAdc_thm : (modAdc f s).thm = s.thm := rfl
@[simp] theorem modAdc_upd : (modAdc f s).upd = s.upd := rfl
@[simp] theorem modAdc_rst : (modAdc f s).rst = s.rst := rfl
@[simp] theorem modAdc_arb : (modAdc f s).arb = s.arb := rfl
@[simp] theorem modAdc_out : (modAdc f s).out = s.out := rfl
@[simp] theorem modAdc_busRead : (modAdc f s).busRead = s.busRead := rfl
@[simp] theorem modAdc_free : (modAdc f s).free = s.free := rfl
@[simp] theorem modAdc_pending : (modAdc f s).pending = s.pending := rfl
end

section
variable (f : ThmS → ThmS) (s : State)
@[simp] theorem modThm_tb : (modThm f s).tb = s.tb := rfl
@[simp] theorem modThm_t64Ofs : (modThm f s).t64Ofs = s.t64Ofs := rfl
@[simp] theorem modThm_dev : (modThm f s).dev = s.dev := rfl
@[simp] theorem modThm_dict : (modThm f s).dict = s.dict := rfl
@[simp] theorem modThm_rm : (modThm f s).rm = s.rm := rfl
@[simp] theorem modThm_fld : (modThm f s).fld = s.fld := rfl
@[simp] theorem modThm_chan : (modThm f s).chan = s.chan := rfl
@[simp] theorem modThm_tbs : (modThm f s).tbs = s.tbs := rfl
@[simp] theorem modThm_ee : (modThm f s).ee = s.ee := rfl
@[simp] theorem modThm_rj : (modThm f s).rj = s.rj := rfl
@[simp] theorem modThm_ts : (modThm f s).ts = s.ts := rfl
@[simp] theorem modThm_pt : (modThm f s).pt = s.pt := rfl
@[simp] theorem modThm_lce : (modThm f s).lce = s.lce := rfl
@[simp] theorem modThm_adc : (modThm f s).adc = s.adc := rfl
@[simp] theorem modThm_cam : (modThm f s).cam = s.cam := rfl
@[simp] theorem modThm_saf : (modThm f s).saf = s.saf := rfl
@[simp] theorem modThm_fe : (modThm f s).fe = s.fe := rfl
@[simp] theorem modThm_car : (modThm f s).car = s.car := rfl
@[simp] theorem modThm_eic : (modThm f s).eic = s.eic := rfl
@[simp] theorem modThm_log : (modThm f s).log = s.log := rfl
@[simp] theorem modThm_pci : (modThm f s).pci = s.pci := rfl
@[simp] theorem modThm_xi : (modThm f s).xi = s.xi := rfl
@[simp] theorem modThm_slk : (modThm f s).slk = s.slk := rfl
@[simp] theorem modThm_thm : (modThm f s).thm = f s.thm := rfl
@[simp] theorem modThm_upd : (modThm f s).upd = s.upd := rfl
@[simp] theorem modThm_rst : (modThm f s).rst = s.rst := rfl
@[simp] theorem modThm_arb : (modThm f s).arb = s.arb := rfl
@[simp] theorem modThm_out : (modThm f s).out = s.out := rfl
@[simp] theorem modThm_busRead : (modThm f s).busRead = s.busRead := rfl
@[simp] theorem modThm_free : (modThm f s).free = s.free := rfl
@[simp] theorem modThm_pending : (modThm f s).pending = s.pending := rfl
end

section
variable (f : TbS → TbS) (s : State)
@[simp] theorem modTbs_tb : (modTbs f s).tb = s.tb := rfl
@[simp] theorem modTbs_t64Ofs : (modTbs f s).t64Ofs = s.t64Ofs := rfl
@[simp] theorem modTbs_dev : (modTbs f s).dev = s.dev := rfl
@[simp] theorem modTbs_dict : (modTbs f s).dict = s.dict := rfl
@[simp] theorem modTbs_rm : (modTbs f s).rm = s.rm := rfl
@[simp] theorem modTbs_fld : (modTbs f s).fld = s.fld := rfl
@[simp] theorem modTbs_chan : (modTbs f s).chan = s.chan := rfl
@[simp] theorem modTbs_tbs : (modTbs f s).tbs = f s.tbs := rfl
@[simp] theorem modTbs_ee : (modTbs f s).ee = s.ee := rfl
@[simp] theorem modTbs_rj : (modTbs f s).rj = s.rj := rfl
@[simp] theorem modTbs_ts : (modTbs f s).ts = s.ts := rfl
@[simp] theorem modTbs_pt : (modTbs f s).pt = s.pt := rfl
@[simp] theorem modTbs_lce : (modTbs f s).lce = s.lce := rfl
@[simp] theorem modTbs_adc : (modTbs f s).adc = s.adc := rfl
@[simp] theorem modTbs_cam : (modTbs f s).cam = s.cam := rfl
@[simp] theorem modTbs_saf : (modTbs f s).saf = s.saf := rfl
@[simp] theorem modTbs_fe : (modTbs f s).fe = s.fe := rfl
@[simp] theorem modTbs_car : (modTbs f s).car = s.car := rfl
@[simp] theorem modTbs_eic : (modTbs f s).eic = s.eic := rfl
@[simp] theorem modTbs_log : (modTbs f s).log = s.log := rfl
@[simp] theorem modTbs_pci : (modTbs f s).pci = s.pci := rfl
@[simp] theorem modTbs_xi : (modTbs f s).xi = s.xi := rfl
@[simp] theorem modTbs_slk : (modTbs f s).slk = s.slk := rfl
@[simp] theorem modTbs_thm : (modTbs f s).thm = s.thm := rfl
@[simp] theorem modTbs_upd : (modTbs f s).upd = s.upd := rfl
@[simp] theorem modTbs_rst : (modTbs f s).rst = s.rst := rfl
@[simp] theorem modTbs_arb : (modTbs f s).arb = s.arb := rfl
@[simp] theorem modTbs_out : (modTbs f s).out = s.out := rfl
@[simp] theorem modTbs_busRead : (modTbs f s).busRead = s.busRead := rfl
@[simp] theorem modTbs_free : (modTbs f s).free = s.free := rfl
@[simp] theorem modTbs_pending : (modTbs f s).pending = s.pending := rfl
end

section
variable (x : Out) (s : State)
@[simp] theorem emit_tb : (emit x s).tb = s.tb := rfl
@[simp] theorem emit_t64Ofs : (emit x s).t64Ofs = s.t64Ofs := rfl
@[simp] theorem emit_dev : (emit x s).dev = s.dev := rfl
@[simp] theorem emit_dict : (emit x s).dict = s.dict := rfl
@[simp] theorem emit_rm : (emit x s).rm = s.rm := rfl
@[simp] theorem emit_fld : (emit x s).fld = s.fld := rfl
@[simp] theorem emit_chan : (emit x s).chan = s.chan := rfl
@[simp] theorem emit_tbs : (emit x s).tbs = s.tbs := rfl
@[simp] theorem emit_ee : (emit x s).ee = s.ee := rfl
@[simp] theorem emit_rj : (emit x s).rj = s.rj := rfl
@[simp] theorem emit_ts : (emit x s).ts = s.ts := rfl
@[simp] theorem emit_pt : (emit x s).pt = s.pt := rfl
@[simp] theorem emit_lce : (emit x s).lce = s.lce := rfl
@[simp] theorem emit_adc : (emit x s).adc = s.adc := rfl
@[simp] theorem emit_cam : (emit x s).cam = s.cam := rfl
@[simp] theorem emit_saf : (emit x s).saf = s.saf := rfl
@[simp] theorem emit_fe : (emit x s).fe = s.fe := rfl
@[simp] theorem emit_car : (emit x s).car = s.car := rfl
@[simp] theorem emit_eic : (emit x s).eic = s.eic := rfl
@[simp] theorem emit_log : (emit x s).log = s.log := rfl
@[simp] theorem emit_pci : (emit x s).pci = s.pci := rfl
@[simp] theorem emit_xi : (emit x s).xi = s.xi := rfl
@[simp] theorem emit_slk : (emit x s).slk = s.slk := rfl
@[simp] theorem emit_thm : (emit x s).thm = s.thm := rfl
@[simp] theorem emit_upd : (emit x s).upd = s.upd := rfl
@[simp] theorem emit_rst : (emit x s).rst = s.rst := rfl
@[simp] theorem emit_arb : (emit x s).arb = s.arb := rfl
@[simp] theorem emit_out : (emit x s).out = s.out ++ [x] := rfl
@[simp] theorem emit_busRead : (emit x s).busRead = s.busRead := rfl
@[simp] theorem emit_free : (emit x s).free = s.free := rfl
@[simp] theorem emit_pending : (emit x s).pending = s.pending := rfl
end

section
variable (s : State)
@[simp] theorem settle_tb : (settle s).tb = s.tb := rfl
@[simp] theorem settle_t64Ofs : (settle s).t64Ofs = s.t64Ofs := rfl
@[simp] theorem settle_dev : (settle s).dev = s.dev := rfl
@[simp] theorem settle_dict : (settle s).dict = s.dict := rfl
@[simp] theorem settle_rm : (settle s).rm = { s.rm with degrade := s.rm.degrade ||| degradeCond s } := rfl
@[simp] theorem settle_fld : (settle s).fld = s.fld := rfl
@[simp] theorem settle_chan : (settle s).chan = s.chan := rfl
@[simp] theorem settle_tbs : (settle s).tbs = s.tbs := rfl
@[simp] theorem settle_ee : (settle s).ee = s.ee := rfl
@[simp] theorem settle_rj : (settle s).rj = s.rj := rfl
@[simp] theorem settle_ts : (settle s).ts = s.ts := rfl
@[simp] theorem settle_pt : (settle s).pt = s.pt := rfl
@[simp] theorem settle_lce : (settle s).lce = s.lce := rfl
@[simp] theorem settle_adc : (settle s).adc = s.adc := rfl
@[simp] theorem settle_cam : (settle s).cam = s.cam := rfl
@[simp] theorem settle_saf : (settle s).saf = s.saf := rfl
@[simp] theorem settle_fe : (settle s).fe = s.fe := rfl
@[simp] theorem settle_car : (settle s).car = s.car := rfl
@[simp] theorem settle_eic : (settle s).eic = s.eic := rfl
@[simp] theorem settle_log : (settle s).log = s.log := rfl
@[simp] theorem settle_pci : (settle s).pci = s.pci := rfl
@[simp] theorem settle_xi : (settle s).xi = s.xi := rfl
@[simp] theorem settle_slk : (settle s).slk = s.slk := rfl
@[simp] theorem settle_thm : (settle s).thm = s.thm := rfl
@[simp] theorem settle_upd : (settle s).upd = s.upd := rfl
@[simp] theorem settle_rst : (settle s).rst = s.rst := rfl
@[simp] theorem settle_arb : (settle s).arb = s.arb := rfl
@[simp] theorem settle_out : (settle s).out = s.out := rfl
@[simp] theorem settle_busRead : (settle s).busRead = s.busRead := rfl
@[simp] theorem settle_free : (settle s).free = s.free := rfl
@[simp] theorem settle_pending : (settle s).pending = s.pending := rfl
end

section
variable (s : State) (t : Nat)
@[simp] theorem start_tb : (s.start t).tb = max s.tb t := rfl
@[simp] theorem start_t64Ofs : (s.start t).t64Ofs = s.t64Ofs := rfl
@[simp] theorem start_dev : (s.start t).dev = s.dev := rfl
@[simp] theorem start_dict : (s.start t).dict = s.dict := rfl
@[simp] theorem start_rm : (s.start t).rm = s.rm := rfl
@[simp] theorem start_fld : (s.start t).fld = s.fld := rfl
@[simp] theorem start_chan : (s.start t).chan = s.chan := rfl
@[simp] theorem start_tbs : (s.start t).tbs = s.tbs := rfl
@[simp] theorem start_ee : (s.start t).ee = s.ee := rfl
@[simp] theorem start_rj : (s.start t).rj = s.rj := rfl
@[simp] theorem start_ts : (s.start t).ts = s.ts := rfl
@[simp] theorem start_pt : (s.start t).pt = s.pt := rfl
@[simp] theorem start_lce : (s.start t).lce = s.lce := rfl
@[simp] theorem start_adc : (s.start t).adc = s.adc := rfl
@[simp] theorem start_cam : (s.start t).cam = s.cam := rfl
@[simp] theorem start_saf : (s.start t).saf = s.saf := rfl
@[simp] theorem start_fe : (s.start t).fe = s.fe := rfl
@[simp] theorem start_car : (s.start t).car = s.car := rfl
@[simp] theorem start_eic : (s.start t).eic = s.eic := rfl
@[simp] theorem start_log : (s.start t).log = s.log := rfl
@[simp] theorem start_pci : (s.start t).pci = s.pci := rfl
@[simp] theorem start_xi : (s.start t).xi = s.xi := rfl
@[simp] theorem start_slk : (s.start t).slk = s.slk := rfl
@[simp] theorem start_thm : (s.start t).thm = s.thm := rfl
@[simp] theorem start_upd : (s.start t).upd = s.upd := rfl
@[simp] theorem start_rst : (s.start t).rst = s.rst := rfl
@[simp] theorem start_arb : (s.start t).arb = s.arb := rfl
@[simp] theorem start_out : (s.start t).out = [] := rfl
@[simp] theorem start_busRead : (s.start t).busRead = s.busRead := rfl
@[simp] theorem start_free : (s.start t).free = s.free := rfl
@[simp] theorem start_pending : (s.start t).pending = s.pending := rfl
end

section
variable (num sub : Nat) (v : DVal) (s : State)
@[simp] theorem setPar_tb : (setPar num sub v s).tb = s.tb := rfl
@[simp] theorem setPar_t64Ofs : (setPar num sub v s).t64Ofs = s.t64Ofs := rfl
@[simp] theorem setPar_dev : (setPar num sub v s).dev = s.dev := rfl
@[simp] theorem setPar_dict : (setPar num sub v s).dict = { s.dict with inForce := bset s.dict.inForce (dkey num sub) v } := rfl
@[simp] theorem setPar_rm : (setPar num sub v s).rm = s.rm := rfl
@[simp] theorem setPar_fld : (setPar num sub v s).fld = s.fld := rfl
@[simp] theorem setPar_chan : (setPar num sub v s).chan = s.chan := rfl
@[simp] theorem setPar_tbs : (setPar num sub v s).tbs = s.tbs := rfl
@[simp] theorem setPar_ee : (setPar num sub v s).ee = s.ee := rfl
@[simp] theorem setPar_rj : (setPar num sub v s).rj = s.rj := rfl
@[simp] theorem setPar_ts : (setPar num sub v s).ts = s.ts := rfl
@[simp] theorem setPar_pt : (setPar num sub v s).pt = s.pt := rfl
@[simp] theorem setPar_lce : (setPar num sub v s).lce = s.lce := rfl
@[simp] theorem setPar_adc : (setPar num sub v s).adc = s.adc := rfl
@[simp] theorem setPar_cam : (setPar num sub v s).cam = s.cam := rfl
@[simp] theorem setPar_saf : (setPar num sub v s).saf = s.saf := rfl
@[simp] theorem setPar_fe : (setPar num sub v s).fe = s.fe := rfl
@[simp] theorem setPar_car : (setPar num sub v s).car = s.car := rfl
@[simp] theorem setPar_eic : (setPar num sub v s).eic = s.eic := rfl
@[simp] theorem setPar_log : (setPar num sub v s).log = s.log := rfl
@[simp] theorem setPar_pci : (setPar num sub v s).pci = s.pci := rfl
@[simp] theorem setPar_xi : (setPar num sub v s).xi = s.xi := rfl
@[simp] theorem setPar_slk : (setPar num sub v s).slk = s.slk := rfl
@[simp] theorem setPar_thm : (setPar num sub v s).thm = s.thm := rfl
@[simp] theorem setPar_upd : (setPar num sub v s).upd = s.upd := rfl
@[simp] theorem setPar_rst : (setPar num sub v s).rst = s.rst := rfl
@[simp] theorem setPar_arb : (setPar num sub v s).arb = s.arb := rfl
@[simp] theorem setPar_out : (setPar num sub v s).out = s.out := rfl
@[simp] theorem setPar_busRead : (setPar num sub v s).busRead = s.busRead := rfl
@[simp] theorem setPar_free : (setPar num sub v s).free = s.free := rfl
@[simp] theorem setPar_pending : (setPar num sub v s).pending = s.pending := rfl
end

section
variable (w : Nat) (s : State)
@[simp] theorem freeBits_tb : (freeBits w s).2.tb = s.tb := rfl
@[simp] theorem freeBits_t64Ofs : (freeBits w s).2.t64Ofs = s.t64Ofs := rfl
@[simp] theorem freeBits_dev : (freeBits w s).2.dev = s.dev := rfl
@[simp] theorem freeBits_dict : (freeBits w s).2.dict = s.dict := rfl
@[simp] theorem freeBits_rm : (freeBits w s).2.rm = s.rm := rfl
@[simp] theorem freeBits_fld : (freeBits w s).2.fld = s.fld := rfl
@[simp] theorem freeBits_chan : (freeBits w s).2.chan = s.chan := rfl
@[simp] theorem freeBits_tbs : (freeBits w s).2.tbs = s.tbs := rfl
@[simp] theorem freeBits_ee : (freeBits w s).2.ee = s.ee := rfl
@[simp] theorem freeBits_rj : (freeBits w s).2.rj = s.rj := rfl
@[simp] theorem freeBits_ts : (freeBits w s).2.ts = s.ts := rfl
@[simp] theorem freeBits_pt : (freeBits w s).2.pt = s.pt := rfl
@[simp] theorem freeBits_lce : (freeBits w s).2.lce = s.lce := rfl
@[simp] theorem freeBits_adc : (freeBits w s).2.adc = s.adc := rfl
@[simp] theorem freeBits_cam : (freeBits w s).2.cam = s.cam := rfl
@[simp] theorem freeBits_saf : (freeBits w s).2.saf = s.saf := rfl
@[simp] theorem freeBits_fe : (freeBits w s).2.fe = s.fe := rfl
@[simp] theorem freeBits_car : (freeBits w s).2.car = s.car := rfl
@[simp] theorem freeBits_eic : (freeBits w s).2.eic = s.eic := rfl
@[simp] theorem freeBits_log : (freeBits w s).2.log = s.log := rfl
@[simp] theorem freeBits_pci : (freeBits w s).2.pci = s.pci := rfl
@[simp] theorem freeBits_xi : (freeBits w s).2.xi = s.xi := rfl
@[simp] theorem freeBits_slk : (freeBits w s).2.slk = s.slk := rfl
@[simp] theorem freeBits_thm : (freeBits w s).2.thm = s.thm := rfl
@[simp] theorem freeBits_upd : (freeBits w s).2.upd = s.upd := rfl
@[simp] theorem freeBits_rst : (freeBits w s).2.rst = s.rst := rfl
@[simp] theorem freeBits_arb : (freeBits w s).2.arb = s.arb := rfl
@[simp] theorem freeBits_out : (freeBits w s).2.out = s.out := rfl
@[simp] theorem freeBits_busRead : (freeBits w s).2.busRead = s.busRead := rfl
@[simp] theorem freeBits_free : (freeBits w s).2.free = s.free + 1 := rfl
@[simp] theorem freeBits_pending : (freeBits w s).2.pending = s.pending := rfl
end

section
variable (c : Nat) (f : ChanS → ChanS) (s : State)
@[simp] theorem modChan_tb : (modChan c f s).tb = s.tb := rfl
@[simp] theorem modChan_t64Ofs : (modChan c f s).t64Ofs = s.t64Ofs := rfl
@[simp] theorem modChan_dev : (modChan c f s).dev = s.dev := rfl
@[simp] theorem modChan_dict : (modChan c f s).dict = s.dict := rfl
@[simp] theorem modChan_rm : (modChan c f s).rm = s.rm := rfl
@[simp] theorem modChan_fld : (modChan c f s).fld = s.fld := rfl
@[simp] theorem modChan_chan : (modChan c f s).chan = bmod {} s.chan c f := rfl
@[simp] theorem modChan_tbs : (modChan c f s).tbs = s.tbs := rfl
@[simp] theorem modChan_ee : (modChan c f s).ee = s.ee := rfl
@[simp] theorem modChan_rj : (modChan c f s).rj = s.rj := rfl
@[simp] theorem modChan_ts : (modChan c f s).ts = s.ts := rfl
@[simp] theorem modChan_pt : (modChan c f s).pt = s.pt := rfl
@[simp] theorem modChan_lce : (modChan c f s).lce = s.lce := rfl
@[simp] theorem modChan_adc : (modChan c f s).adc = s.adc := rfl
@[simp] theorem modChan_cam : (modChan c f s).cam = s.cam := rfl
@[simp] theorem modChan_saf : (modChan c f s).saf = s.saf := rfl
@[simp] theorem modChan_fe : (modChan c f s).fe = s.fe := rfl
@[simp] theorem modChan_car : (modChan c f s).car = s.car := rfl
@[simp] theorem modChan_eic : (modChan c f s).eic = s.eic := rfl
@[simp] theorem modChan_log : (modChan c f s).log = s.log := rfl
@[simp] theorem modChan_pci : (modChan c f s).pci = s.pci := rfl
@[simp] theorem modChan_xi : (modChan c f s).xi = s.xi := rfl
@[simp] theorem modChan_slk : (modChan c f s).slk = s.slk := rfl
@[simp] theorem modChan_thm : (modChan c f s).thm = s.thm := rfl
@[simp] theorem modChan_upd : (modChan c f s).upd = s.upd := rfl
@[simp] theorem modChan_rst : (modChan c f s).rst = s.rst := rfl
@[simp] theorem modChan_arb : (modChan c f s).arb = s.arb := rfl
@[simp] theorem modChan_out : (modChan c f s).out = s.out := rfl
@[simp] theorem modChan_busRead : (modChan c f s).busRead = s.busRead := rfl
@[simp] theorem modChan_free : (modChan c f s).free = s.free := rfl
@[simp] theorem modChan_pending : (modChan c f s).pending = s.pending := rfl
end

end Sys2Proof.Machine
end

