-- ==== Sys2Proof/Laws/Banks.lean ====
section
/-!
SUPPORT. Banks: what an element reads as after one is written, and the same for each bank of the state.
-/
namespace Sys2Proof.Machine

@[simp] theorem bget_bset_self {α : Type} (d v : α) (b : Bank α) (k : Nat) : bget d (bset b k v) k = v := by
  induction b with
  | nil => simp [bset, bget]
  | cons x r ih =>
    obtain ⟨j, w⟩ := x
    simp only [bset]
    split
    · simp [bget]
    · split
      · simp [bget]
      · next h1 h2 => simp [bget, h1, h2, ih]

theorem bget_bset_ne {α : Type} (d v : α) (b : Bank α) {k i : Nat} (h : i ≠ k) : bget d (bset b k v) i = bget d b i := by
  induction b with
  | nil => simp [bset, bget]; omega
  | cons x r ih =>
    obtain ⟨j, w⟩ := x
    simp only [bset]
    split
    · next h1 => subst h1; simp only [bget]; split <;> [omega; rfl]
    · split
      · next h1 h2 =>
        simp only [bget]
        split
        · omega
        · split
          · next h3 h4 => simp [show j ≠ i by omega, show i < j by omega]
          · rfl
      · simp only [bget]
        split
        · rfl
        · split
          · rfl
          · exact ih

@[simp] theorem bget_bmod_self {α : Type} (d : α) (b : Bank α) (k : Nat) (f : α → α) :
    bget d (bmod d b k f) k = f (bget d b k) := bget_bset_self d _ b k

theorem bget_bmod_ne {α : Type} (d : α) (b : Bank α) {k i : Nat} (f : α → α) (h : i ≠ k) :
    bget d (bmod d b k f) i = bget d b i := bget_bset_ne d _ b h

@[simp] theorem bankOf_modBank (n : Nat) (f : BankS → BankS) (s : State) : bankOf (modBank n f s) n = f (bankOf s n) := bget_bmod_self _ _ n f
theorem bankOf_modBank_ne (f : BankS → BankS) (s : State) {n i : Nat} (h : i ≠ n) : bankOf (modBank n f s) i = bankOf s i := bget_bmod_ne _ _ f h

@[simp] theorem linkOf_modLink (n : Nat) (f : LinkS → LinkS) (s : State) : linkOf (modLink n f s) n = f (linkOf s n) := bget_bmod_self _ _ n f
theorem linkOf_modLink_ne (f : LinkS → LinkS) (s : State) {n i : Nat} (h : i ≠ n) : linkOf (modLink n f s) i = linkOf s i := bget_bmod_ne _ _ f h

@[simp] theorem outOf_modOut (n : Nat) (f : OutS → OutS) (s : State) : outOf (modOut n f s) n = f (outOf s n) := bget_bmod_self _ _ n f
theorem outOf_modOut_ne (f : OutS → OutS) (s : State) {n i : Nat} (h : i ≠ n) : outOf (modOut n f s) i = outOf s i := bget_bmod_ne _ _ f h

@[simp] theorem sfOf_modSf (n : Nat) (f : SfS → SfS) (s : State) : sfOf (modSf n f s) n = f (sfOf s n) := bget_bmod_self _ _ n f
theorem sfOf_modSf_ne (f : SfS → SfS) (s : State) {n i : Nat} (h : i ≠ n) : sfOf (modSf n f s) i = sfOf s i := bget_bmod_ne _ _ f h

@[simp] theorem inOf_modIn (n : Nat) (f : InS → InS) (s : State) : inOf (modIn n f s) n = f (inOf s n) := bget_bmod_self _ _ n f
theorem inOf_modIn_ne (f : InS → InS) (s : State) {n i : Nat} (h : i ≠ n) : inOf (modIn n f s) i = inOf s i := bget_bmod_ne _ _ f h

@[simp] theorem laneOf_modLane (n : Nat) (f : SlkS → SlkS) (s : State) : laneOf (modLane n f s) n = f (laneOf s n) := bget_bmod_self _ _ n f
theorem laneOf_modLane_ne (f : SlkS → SlkS) (s : State) {n i : Nat} (h : i ≠ n) : laneOf (modLane n f s) i = laneOf s i := bget_bmod_ne _ _ f h

@[simp] theorem strOf_modStr (n : Nat) (f : StrS → StrS) (s : State) : strOf (modStr n f s) n = f (strOf s n) := bget_bmod_self _ _ n f
theorem strOf_modStr_ne (f : StrS → StrS) (s : State) {n i : Nat} (h : i ≠ n) : strOf (modStr n f s) i = strOf s i := bget_bmod_ne _ _ f h

@[simp] theorem sessOf_modSess (n : Nat) (f : SessS → SessS) (s : State) : sessOf (modSess n f s) n = f (sessOf s n) := bget_bmod_self _ _ n f
theorem sessOf_modSess_ne (f : SessS → SessS) (s : State) {n i : Nat} (h : i ≠ n) : sessOf (modSess n f s) i = sessOf s i := bget_bmod_ne _ _ f h

@[simp] theorem grpOf_modGrp (n : Nat) (f : GrpS → GrpS) (s : State) : grpOf (modGrp n f s) n = f (grpOf s n) := bget_bmod_self _ _ n f
theorem grpOf_modGrp_ne (f : GrpS → GrpS) (s : State) {n i : Nat} (h : i ≠ n) : grpOf (modGrp n f s) i = grpOf s i := bget_bmod_ne _ _ f h

@[simp] theorem ringOf_modRing (n : Nat) (f : RingS → RingS) (s : State) : ringOf (modRing n f s) n = f (ringOf s n) := bget_bmod_self _ _ n f
theorem ringOf_modRing_ne (f : RingS → RingS) (s : State) {n i : Nat} (h : i ≠ n) : ringOf (modRing n f s) i = ringOf s i := bget_bmod_ne _ _ f h

@[simp] theorem lchOf_modLch (n : Nat) (f : LchS → LchS) (s : State) : lchOf (modLch n f s) n = f (lchOf s n) := bget_bmod_self _ _ n f
theorem lchOf_modLch_ne (f : LchS → LchS) (s : State) {n i : Nat} (h : i ≠ n) : lchOf (modLch n f s) i = lchOf s i := bget_bmod_ne _ _ f h

@[simp] theorem measOf_modMeas (n : Nat) (f : MeasS → MeasS) (s : State) : measOf (modMeas n f s) n = f (measOf s n) := bget_bmod_self _ _ n f
theorem measOf_modMeas_ne (f : MeasS → MeasS) (s : State) {n i : Nat} (h : i ≠ n) : measOf (modMeas n f s) i = measOf s i := bget_bmod_ne _ _ f h

@[simp] theorem ctxOf_modCtx (n : Nat) (f : CtxS → CtxS) (s : State) : ctxOf (modCtx n f s) n = f (ctxOf s n) := bget_bmod_self _ _ n f
theorem ctxOf_modCtx_ne (f : CtxS → CtxS) (s : State) {n i : Nat} (h : i ≠ n) : ctxOf (modCtx n f s) i = ctxOf s i := bget_bmod_ne _ _ f h

@[simp] theorem tpOf_modTp (n : Nat) (f : TpS → TpS) (s : State) : tpOf (modTp n f s) n = f (tpOf s n) := bget_bmod_self _ _ n f
theorem tpOf_modTp_ne (f : TpS → TpS) (s : State) {n i : Nat} (h : i ≠ n) : tpOf (modTp n f s) i = tpOf s i := bget_bmod_ne _ _ f h

@[simp] theorem slotOf_modSlot (n : Nat) (f : RxSlot → RxSlot) (s : State) : slotOf (modSlot n f s) n = f (slotOf s n) := bget_bmod_self _ _ n f
theorem slotOf_modSlot_ne (f : RxSlot → RxSlot) (s : State) {n i : Nat} (h : i ≠ n) : slotOf (modSlot n f s) i = slotOf s i := bget_bmod_ne _ _ f h

@[simp] theorem engOf_modEng (n : Nat) (f : EngS → EngS) (s : State) : engOf (modEng n f s) n = f (engOf s n) := bget_bmod_self _ _ n f
theorem engOf_modEng_ne (f : EngS → EngS) (s : State) {n i : Nat} (h : i ≠ n) : engOf (modEng n f s) i = engOf s i := bget_bmod_ne _ _ f h

@[simp] theorem chanOf_modChan (n : Nat) (f : ChanS → ChanS) (s : State) : chanOf (modChan n f s) n = f (chanOf s n) := bget_bmod_self _ _ n f
theorem chanOf_modChan_ne (f : ChanS → ChanS) (s : State) {n i : Nat} (h : i ≠ n) : chanOf (modChan n f s) i = chanOf s i := bget_bmod_ne _ _ f h

@[simp] theorem lineOf_modLine (n : Nat) (f : LineS → LineS) (s : State) : lineOf (modLine n f s) n = f (lineOf s n) := bget_bmod_self _ _ n f
theorem lineOf_modLine_ne (f : LineS → LineS) (s : State) {n i : Nat} (h : i ≠ n) : lineOf (modLine n f s) i = lineOf s i := bget_bmod_ne _ _ f h

@[simp] theorem lawOf_modLaw (n : Nat) (f : LawS → LawS) (s : State) : lawOf (modLaw n f s) n = f (lawOf s n) := bget_bmod_self _ _ n f
theorem lawOf_modLaw_ne (f : LawS → LawS) (s : State) {n i : Nat} (h : i ≠ n) : lawOf (modLaw n f s) i = lawOf s i := bget_bmod_ne _ _ f h

@[simp] theorem sensOf_modSens (n : Nat) (f : SensS → SensS) (s : State) : sensOf (modSens n f s) n = f (sensOf s n) := bget_bmod_self _ _ n f
theorem sensOf_modSens_ne (f : SensS → SensS) (s : State) {n i : Nat} (h : i ≠ n) : sensOf (modSens n f s) i = sensOf s i := bget_bmod_ne _ _ f h

@[simp] theorem fmOf_modFm (n : Nat) (f : FmS → FmS) (s : State) : fmOf (modFm n f s) n = f (fmOf s n) := bget_bmod_self _ _ n f
theorem fmOf_modFm_ne (f : FmS → FmS) (s : State) {n i : Nat} (h : i ≠ n) : fmOf (modFm n f s) i = fmOf s i := bget_bmod_ne _ _ f h

@[simp] theorem canOf_modCan (n : Nat) (f : CanS → CanS) (s : State) : canOf (modCan n f s) n = f (canOf s n) := bget_bmod_self _ _ n f
theorem canOf_modCan_ne (f : CanS → CanS) (s : State) {n i : Nat} (h : i ≠ n) : canOf (modCan n f s) i = canOf s i := bget_bmod_ne _ _ f h

end Sys2Proof.Machine
end

