-- ==== Sys2Proof/Laws/OnlyBase.lean ====
section
/-!
SUPPORT. Frames of the shared operations: how parts of the state compare, and what the operations on values, links, interrupts, the log, SAFE, rings and the recorder change.
-/
namespace Sys2Proof

open Sys2Proof.Machine

set_option linter.unusedTactic false
set_option linter.unreachableTactic false
set_option linter.tactic.unusedName false

/-- Every part of l is one of m. -/
def subParts (l m : List Part) : Bool := l.all fun p => m.contains p

theorem mem_of_sub {l m : List Part} (h : subParts l m = true) {p : Part} (hp : p ∈ l) : p ∈ m := by
  have := List.all_eq_true.mp h p hp
  simpa using this

theorem Part.same_refl (p : Part) (s : State) : p.same s s := by cases p <;> rfl

theorem Part.same_trans {p : Part} {s t u : State} (h : p.same s t) (k : p.same t u) : p.same s u := by
  cases p <;> exact Eq.trans k h

theorem Only.refl {l : List Part} {s : State} : Only l s s := ⟨fun p _ => p.same_refl s⟩

theorem Only.trans {l : List Part} {s t u : State} (h : Only l s t) (k : Only l t u) : Only l s u :=
  ⟨fun p hp => Part.same_trans (h.same p hp) (k.same p hp)⟩

theorem Only.mono {l m : List Part} {s t : State} (hl : subParts l m = true) (h : Only l s t) : Only m s t :=
  ⟨fun p hp => h.same p fun q => hp (mem_of_sub hl q)⟩

theorem Only.cut {l : List Part} {s x t : State} (h : Only l s x) (k : Only l s x → Only l s t) : Only l s t := k h

theorem Only.of_snd {α : Type} {l : List Part} {s t : State} {p : α × State} {a : α} (e : p = (a, t))
    (h : Only l s p.2) : Only l s t := by subst e; exact h

theorem Only.of_fst {α : Type} {l : List Part} {s t : State} {p : State × α} {a : α} (e : p = (t, a))
    (h : Only l s p.1) : Only l s t := by subst e; exact h

theorem Only.foldl {α : Type} {l : List Part} {s : State} {f : State → α → State}
    (hf : ∀ x t, Only l s t → Only l s (f t x)) {xs : List α} {i : State} (h : Only l s i) :
    Only l s (xs.foldl f i) := by
  induction xs generalizing i with
  | nil => exact h
  | cons x r ih => exact ih (hf x i h)

theorem Only.step {l m : List Part} {s t u : State} (k : Only m t u) (hl : subParts m l = true) (h : Only l s t) :
    Only l s u := h.trans (k.mono hl)

theorem Only.lit {l : List Part} {s : State} {x0 x1 x2 x3 x4 x5 x6 x7 x8 x9 x10 x11 x12 x13 x14 x15 x16 x17 x18 x19 x20 x21 x22 x23 x24 x25 x26 x27 x28 x29 x30}
    (h : ∀ p, p ∉ l → p.same s (State.mk x0 x1 x2 x3 x4 x5 x6 x7 x8 x9 x10 x11 x12 x13 x14 x15 x16 x17 x18 x19 x20 x21 x22 x23 x24 x25 x26 x27 x28 x29 x30)) :
    Only l s (State.mk x0 x1 x2 x3 x4 x5 x6 x7 x8 x9 x10 x11 x12 x13 x14 x15 x16 x17 x18 x19 x20 x21 x22 x23 x24 x25 x26 x27 x28 x29 x30) := ⟨h⟩

theorem Only.foldlSnd {α β : Type} {l : List Part} {s : State} {f : β × State → α → β × State}
    (hf : ∀ x a, Only l s a.2 → Only l s (f a x).2) {xs : List α} {i : β × State} (h : Only l s i.2) :
    Only l s (xs.foldl f i).2 := by
  induction xs generalizing i with
  | nil => exact h
  | cons x r ih => exact ih (hf x i h)

theorem State.start_only {s : State} {t : Nat} :
    Only [.tb, .out] s (State.start s t) := by
  unfold State.start
  repeat' first
    | with_reducible exact Only.refl
    | with_reducible assumption
    | (extract_lets +onlyGivenNames x; have ht := x.busRead; clear ht; refine Only.cut (x := x) ?_ (fun hx => ?_); (on_goal 1 => subst x); (on_goal 2 => clear_value x))
    | extract_lets +onlyGivenNames x
    | ((with_reducible apply Only.foldl); on_goal 1 => intro x t ht)
    | split
    | ((with_reducible apply Only.lit); intro p hp; cases p <;> first | exact absurd (by decide) hp | (have hq := (‹Only _ _ _›).same _ hp; exact hq) | exact rfl)

theorem emit_only {o : Out} {s : State} :
    Only [.out] s (emit o s) := by
  unfold emit
  repeat' first
    | with_reducible exact Only.refl
    | with_reducible assumption
    | (extract_lets +onlyGivenNames x; have ht := x.busRead; clear ht; refine Only.cut (x := x) ?_ (fun hx => ?_); (on_goal 1 => subst x); (on_goal 2 => clear_value x))
    | extract_lets +onlyGivenNames x
    | ((with_reducible apply Only.foldl); on_goal 1 => intro x t ht)
    | split
    | ((with_reducible apply Only.lit); intro p hp; cases p <;> first | exact absurd (by decide) hp | (have hq := (‹Only _ _ _›).same _ hp; exact hq) | exact rfl)

theorem freeBits_only {w : Nat} {s : State} :
    Only [.free] s (freeBits w s).2 := by
  unfold freeBits
  repeat' first
    | with_reducible exact Only.refl
    | with_reducible assumption
    | (extract_lets +onlyGivenNames x; have ht := x.busRead; clear ht; refine Only.cut (x := x) ?_ (fun hx => ?_); (on_goal 1 => subst x); (on_goal 2 => clear_value x))
    | extract_lets +onlyGivenNames x
    | ((with_reducible apply Only.foldl); on_goal 1 => intro x t ht)
    | split
    | ((with_reducible apply Only.lit); intro p hp; cases p <;> first | exact absurd (by decide) hp | (have hq := (‹Only _ _ _›).same _ hp; exact hq) | exact rfl)

theorem setPar_only {num sub : Nat} {v : DVal} {s : State} :
    Only [.dict] s (setPar num sub v s) := by
  unfold setPar
  repeat' first
    | with_reducible exact Only.refl
    | with_reducible assumption
    | (extract_lets +onlyGivenNames x; have ht := x.busRead; clear ht; refine Only.cut (x := x) ?_ (fun hx => ?_); (on_goal 1 => subst x); (on_goal 2 => clear_value x))
    | extract_lets +onlyGivenNames x
    | ((with_reducible apply Only.foldl); on_goal 1 => intro x t ht)
    | split
    | ((with_reducible apply Only.lit); intro p hp; cases p <;> first | exact absurd (by decide) hp | (have hq := (‹Only _ _ _›).same _ hp; exact hq) | exact rfl)

theorem settle_only {s : State} :
    Only [.rm] s (settle s) := by
  unfold settle
  repeat' first
    | with_reducible exact Only.refl
    | with_reducible assumption
    | (extract_lets +onlyGivenNames x; have ht := x.busRead; clear ht; refine Only.cut (x := x) ?_ (fun hx => ?_); (on_goal 1 => subst x); (on_goal 2 => clear_value x))
    | extract_lets +onlyGivenNames x
    | ((with_reducible apply Only.foldl); on_goal 1 => intro x t ht)
    | split
    | ((with_reducible apply Only.lit); intro p hp; cases p <;> first | exact absurd (by decide) hp | (have hq := (‹Only _ _ _›).same _ hp; exact hq) | exact rfl)

theorem modLane_only {n : Nat} {f : SlkS → SlkS} {s : State} :
    Only [.slk] s (modLane n f s) := by
  unfold modLane
  repeat' first
    | with_reducible exact Only.refl
    | with_reducible assumption
    | (extract_lets +onlyGivenNames x; have ht := x.busRead; clear ht; refine Only.cut (x := x) ?_ (fun hx => ?_); (on_goal 1 => subst x); (on_goal 2 => clear_value x))
    | extract_lets +onlyGivenNames x
    | ((with_reducible apply Only.foldl); on_goal 1 => intro x t ht)
    | split
    | ((with_reducible apply Only.lit); intro p hp; cases p <;> first | exact absurd (by decide) hp | (have hq := (‹Only _ _ _›).same _ hp; exact hq) | exact rfl)

theorem slkControl_only {n ty : Nat} {payload : List Byte} {s : State} :
    Only [.slk, .out] s (slkControl n ty payload s) := by
  unfold slkControl
  repeat' first
    | with_reducible exact Only.refl
    | with_reducible assumption
    | (extract_lets +onlyGivenNames x; have ht := x.busRead; clear ht; refine Only.cut (x := x) ?_ (fun hx => ?_); (on_goal 1 => subst x); (on_goal 2 => clear_value x))
    | extract_lets +onlyGivenNames x
    | ((with_reducible apply Only.foldl); on_goal 1 => intro x t ht)
    | split
    | ((with_reducible apply Only.step modLane_only); on_goal 1 => decide)
    | ((with_reducible apply Only.step emit_only); on_goal 1 => decide)
    | ((with_reducible apply Only.lit); intro p hp; cases p <;> first | exact absurd (by decide) hp | (have hq := (‹Only _ _ _›).same _ hp; exact hq) | exact rfl)

theorem slkDrain_only {k n : Nat} {s : State} :
    Only [.slk, .out] s (slkDrain k n s) := by
  induction k generalizing n s with
  | zero =>
    unfold slkDrain
    repeat' first
      | with_reducible exact Only.refl
      | with_reducible assumption
      | (extract_lets +onlyGivenNames x; have ht := x.busRead; clear ht; refine Only.cut (x := x) ?_ (fun hx => ?_); (on_goal 1 => subst x); (on_goal 2 => clear_value x))
      | extract_lets +onlyGivenNames x
      | ((with_reducible apply Only.foldl); on_goal 1 => intro x t ht)
      | split
      | ((with_reducible apply Only.step emit_only); on_goal 1 => decide)
      | ((with_reducible apply Only.step modLane_only); on_goal 1 => decide)
      | ((with_reducible apply Only.lit); intro p hp; cases p <;> first | exact absurd (by decide) hp | (have hq := (‹Only _ _ _›).same _ hp; exact hq) | exact rfl)
  | succ k ih =>
    unfold slkDrain
    repeat' first
      | with_reducible exact Only.refl
      | with_reducible assumption
      | (extract_lets +onlyGivenNames x; have ht := x.busRead; clear ht; refine Only.cut (x := x) ?_ (fun hx => ?_); (on_goal 1 => subst x); (on_goal 2 => clear_value x))
      | extract_lets +onlyGivenNames x
      | ((with_reducible apply Only.foldl); on_goal 1 => intro x t ht)
      | split
      | ((with_reducible apply Only.step emit_only); on_goal 1 => decide)
      | ((with_reducible apply Only.step modLane_only); on_goal 1 => decide)
      | ((with_reducible apply Only.step ih); on_goal 1 => decide)
      | ((with_reducible apply Only.lit); intro p hp; cases p <;> first | exact absurd (by decide) hp | (have hq := (‹Only _ _ _›).same _ hp; exact hq) | exact rfl)

theorem slkQueue_only {n ty : Nat} {payload : List Byte} {s : State} :
    Only [.slk, .out] s (slkQueue n ty payload s) := by
  unfold slkQueue
  repeat' first
    | with_reducible exact Only.refl
    | with_reducible assumption
    | (extract_lets +onlyGivenNames x; have ht := x.busRead; clear ht; refine Only.cut (x := x) ?_ (fun hx => ?_); (on_goal 1 => subst x); (on_goal 2 => clear_value x))
    | extract_lets +onlyGivenNames x
    | ((with_reducible apply Only.foldl); on_goal 1 => intro x t ht)
    | split
    | ((with_reducible apply Only.step slkDrain_only); on_goal 1 => decide)
    | ((with_reducible apply Only.step modLane_only); on_goal 1 => decide)
    | ((with_reducible apply Only.lit); intro p hp; cases p <;> first | exact absurd (by decide) hp | (have hq := (‹Only _ _ _›).same _ hp; exact hq) | exact rfl)

theorem modCan_only {k : Nat} {f : CanS → CanS} {s : State} :
    Only [.xi] s (modCan k f s) := by
  unfold modCan
  repeat' first
    | with_reducible exact Only.refl
    | with_reducible assumption
    | (extract_lets +onlyGivenNames x; have ht := x.busRead; clear ht; refine Only.cut (x := x) ?_ (fun hx => ?_); (on_goal 1 => subst x); (on_goal 2 => clear_value x))
    | extract_lets +onlyGivenNames x
    | ((with_reducible apply Only.foldl); on_goal 1 => intro x t ht)
    | split
    | ((with_reducible apply Only.lit); intro p hp; cases p <;> first | exact absurd (by decide) hp | (have hq := (‹Only _ _ _›).same _ hp; exact hq) | exact rfl)

theorem canPump_only {k n : Nat} {s : State} :
    Only [.xi, .out] s (canPump k n s) := by
  induction k generalizing n s with
  | zero =>
    unfold canPump
    repeat' first
      | with_reducible exact Only.refl
      | with_reducible assumption
      | (extract_lets +onlyGivenNames x; have ht := x.busRead; clear ht; refine Only.cut (x := x) ?_ (fun hx => ?_); (on_goal 1 => subst x); (on_goal 2 => clear_value x))
      | extract_lets +onlyGivenNames x
      | ((with_reducible apply Only.foldl); on_goal 1 => intro x t ht)
      | split
      | ((with_reducible apply Only.step emit_only); on_goal 1 => decide)
      | ((with_reducible apply Only.step modCan_only); on_goal 1 => decide)
      | ((with_reducible apply Only.lit); intro p hp; cases p <;> first | exact absurd (by decide) hp | (have hq := (‹Only _ _ _›).same _ hp; exact hq) | exact rfl)
  | succ k ih =>
    unfold canPump
    repeat' first
      | with_reducible exact Only.refl
      | with_reducible assumption
      | (extract_lets +onlyGivenNames x; have ht := x.busRead; clear ht; refine Only.cut (x := x) ?_ (fun hx => ?_); (on_goal 1 => subst x); (on_goal 2 => clear_value x))
      | extract_lets +onlyGivenNames x
      | ((with_reducible apply Only.foldl); on_goal 1 => intro x t ht)
      | split
      | ((with_reducible apply Only.step emit_only); on_goal 1 => decide)
      | ((with_reducible apply Only.step modCan_only); on_goal 1 => decide)
      | ((with_reducible apply Only.step ih); on_goal 1 => decide)
      | ((with_reducible apply Only.lit); intro p hp; cases p <;> first | exact absurd (by decide) hp | (have hq := (‹Only _ _ _›).same _ hp; exact hq) | exact rfl)

theorem canRun_only {k : Nat} {s : State} :
    Only [.xi, .out] s (canRun k s) := by
  unfold canRun
  repeat' first
    | with_reducible exact Only.refl
    | with_reducible assumption
    | (extract_lets +onlyGivenNames x; have ht := x.busRead; clear ht; refine Only.cut (x := x) ?_ (fun hx => ?_); (on_goal 1 => subst x); (on_goal 2 => clear_value x))
    | extract_lets +onlyGivenNames x
    | ((with_reducible apply Only.foldl); on_goal 1 => intro x t ht)
    | split
    | ((with_reducible apply Only.step canPump_only); on_goal 1 => decide)
    | ((with_reducible apply Only.lit); intro p hp; cases p <;> first | exact absurd (by decide) hp | (have hq := (‹Only _ _ _›).same _ hp; exact hq) | exact rfl)

theorem canQueue_only {k : Nat} {safety : Bool} {id : Nat} {d : List Byte} {s : State} :
    Only [.xi, .out] s (canQueue k safety id d s) := by
  unfold canQueue
  repeat' first
    | with_reducible exact Only.refl
    | with_reducible assumption
    | (extract_lets +onlyGivenNames x; have ht := x.busRead; clear ht; refine Only.cut (x := x) ?_ (fun hx => ?_); (on_goal 1 => subst x); (on_goal 2 => clear_value x))
    | extract_lets +onlyGivenNames x
    | ((with_reducible apply Only.foldl); on_goal 1 => intro x t ht)
    | split
    | ((with_reducible apply Only.step modCan_only); on_goal 1 => decide)
    | ((with_reducible apply Only.step canRun_only); on_goal 1 => decide)
    | ((with_reducible apply Only.lit); intro p hp; cases p <;> first | exact absurd (by decide) hp | (have hq := (‹Only _ _ _›).same _ hp; exact hq) | exact rfl)

theorem hostMsix_only {f v : Nat} {s : State} :
    Only [.pci, .out] s (hostMsix f v s) := by
  unfold hostMsix
  repeat' first
    | with_reducible exact Only.refl
    | with_reducible assumption
    | (extract_lets +onlyGivenNames x; have ht := x.busRead; clear ht; refine Only.cut (x := x) ?_ (fun hx => ?_); (on_goal 1 => subst x); (on_goal 2 => clear_value x))
    | extract_lets +onlyGivenNames x
    | ((with_reducible apply Only.foldl); on_goal 1 => intro x t ht)
    | split
    | ((with_reducible apply Only.step emit_only); on_goal 1 => decide)
    | ((with_reducible apply Only.lit); intro p hp; cases p <;> first | exact absurd (by decide) hp | (have hq := (‹Only _ _ _›).same _ hp; exact hq) | exact rfl)

theorem modGrp_only {g : Nat} {f : GrpS → GrpS} {s : State} :
    Only [.eic] s (modGrp g f s) := by
  unfold modGrp
  repeat' first
    | with_reducible exact Only.refl
    | with_reducible assumption
    | (extract_lets +onlyGivenNames x; have ht := x.busRead; clear ht; refine Only.cut (x := x) ?_ (fun hx => ?_); (on_goal 1 => subst x); (on_goal 2 => clear_value x))
    | extract_lets +onlyGivenNames x
    | ((with_reducible apply Only.foldl); on_goal 1 => intro x t ht)
    | split
    | ((with_reducible apply Only.lit); intro p hp; cases p <;> first | exact absurd (by decide) hp | (have hq := (‹Only _ _ _›).same _ hp; exact hq) | exact rfl)

theorem modEic_only {f : EicS → EicS} {s : State} :
    Only [.eic] s (modEic f s) := by
  unfold modEic
  repeat' first
    | with_reducible exact Only.refl
    | with_reducible assumption
    | (extract_lets +onlyGivenNames x; have ht := x.busRead; clear ht; refine Only.cut (x := x) ?_ (fun hx => ?_); (on_goal 1 => subst x); (on_goal 2 => clear_value x))
    | extract_lets +onlyGivenNames x
    | ((with_reducible apply Only.foldl); on_goal 1 => intro x t ht)
    | split
    | ((with_reducible apply Only.lit); intro p hp; cases p <;> first | exact absurd (by decide) hp | (have hq := (‹Only _ _ _›).same _ hp; exact hq) | exact rfl)

theorem slinkFire_only {g count : Nat} {s : State} :
    Only [.eic, .slk, .out] s (slinkFire g count s) := by
  unfold slinkFire
  repeat' first
    | with_reducible exact Only.refl
    | with_reducible assumption
    | (extract_lets +onlyGivenNames x; have ht := x.busRead; clear ht; refine Only.cut (x := x) ?_ (fun hx => ?_); (on_goal 1 => subst x); (on_goal 2 => clear_value x))
    | extract_lets +onlyGivenNames x
    | ((with_reducible apply Only.foldl); on_goal 1 => intro x t ht)
    | split
    | ((with_reducible apply Only.step modEic_only); on_goal 1 => decide)
    | ((with_reducible apply Only.step slkQueue_only); on_goal 1 => decide)
    | ((with_reducible apply Only.step modLane_only); on_goal 1 => decide)
    | ((with_reducible apply Only.lit); intro p hp; cases p <;> first | exact absurd (by decide) hp | (have hq := (‹Only _ _ _›).same _ hp; exact hq) | exact rfl)

theorem groupFire_only {g : Nat} {s : State} :
    Only [.eic, .pci, .slk, .out] s (groupFire g s) := by
  unfold groupFire
  repeat' first
    | with_reducible exact Only.refl
    | with_reducible assumption
    | (extract_lets +onlyGivenNames x; have ht := x.busRead; clear ht; refine Only.cut (x := x) ?_ (fun hx => ?_); (on_goal 1 => subst x); (on_goal 2 => clear_value x))
    | extract_lets +onlyGivenNames x
    | ((with_reducible apply Only.foldl); on_goal 1 => intro x t ht)
    | split
    | ((with_reducible apply Only.step modGrp_only); on_goal 1 => decide)
    | ((with_reducible apply Only.step modEic_only); on_goal 1 => decide)
    | ((with_reducible apply Only.step hostMsix_only); on_goal 1 => decide)
    | ((with_reducible apply Only.step slinkFire_only); on_goal 1 => decide)
    | ((with_reducible apply Only.step emit_only); on_goal 1 => decide)
    | ((with_reducible apply Only.lit); intro p hp; cases p <;> first | exact absurd (by decide) hp | (have hq := (‹Only _ _ _›).same _ hp; exact hq) | exact rfl)

theorem countEvent_only {n : Nat} {s : State} :
    Only [.eic, .pci, .slk, .out] s (countEvent n s) := by
  unfold countEvent
  repeat' first
    | with_reducible exact Only.refl
    | with_reducible assumption
    | (extract_lets +onlyGivenNames x; have ht := x.busRead; clear ht; refine Only.cut (x := x) ?_ (fun hx => ?_); (on_goal 1 => subst x); (on_goal 2 => clear_value x))
    | extract_lets +onlyGivenNames x
    | ((with_reducible apply Only.foldl); on_goal 1 => intro x t ht)
    | split
    | ((with_reducible apply Only.step modGrp_only); on_goal 1 => decide)
    | ((with_reducible apply Only.step modEic_only); on_goal 1 => decide)
    | ((with_reducible apply Only.step groupFire_only); on_goal 1 => decide)
    | ((with_reducible apply Only.lit); intro p hp; cases p <;> first | exact absurd (by decide) hp | (have hq := (‹Only _ _ _›).same _ hp; exact hq) | exact rfl)

theorem uncount_only {n : Nat} {s : State} :
    Only [.eic] s (uncount n s) := by
  unfold uncount
  repeat' first
    | with_reducible exact Only.refl
    | with_reducible assumption
    | (extract_lets +onlyGivenNames x; have ht := x.busRead; clear ht; refine Only.cut (x := x) ?_ (fun hx => ?_); (on_goal 1 => subst x); (on_goal 2 => clear_value x))
    | extract_lets +onlyGivenNames x
    | ((with_reducible apply Only.foldl); on_goal 1 => intro x t ht)
    | split
    | ((with_reducible apply Only.step modEic_only); on_goal 1 => decide)
    | ((with_reducible apply Only.step modGrp_only); on_goal 1 => decide)
    | ((with_reducible apply Only.lit); intro p hp; cases p <;> first | exact absurd (by decide) hp | (have hq := (‹Only _ _ _›).same _ hp; exact hq) | exact rfl)

theorem wakeRequest_only {n : Nat} {s : State} :
    Only [.pci, .slk, .out] s (wakeRequest n s) := by
  unfold wakeRequest
  repeat' first
    | with_reducible exact Only.refl
    | with_reducible assumption
    | (extract_lets +onlyGivenNames x; have ht := x.busRead; clear ht; refine Only.cut (x := x) ?_ (fun hx => ?_); (on_goal 1 => subst x); (on_goal 2 => clear_value x))
    | extract_lets +onlyGivenNames x
    | ((with_reducible apply Only.foldl); on_goal 1 => intro x t ht)
    | split
    | ((with_reducible apply Only.step emit_only); on_goal 1 => decide)
    | ((with_reducible apply Only.step slkDrain_only); on_goal 1 => decide)
    | ((with_reducible apply Only.step modLane_only); on_goal 1 => decide)
    | ((with_reducible apply Only.lit); intro p hp; cases p <;> first | exact absurd (by decide) hp | (have hq := (‹Only _ _ _›).same _ hp; exact hq) | exact rfl)

theorem arbitrate_only {s : State} {n : Nat} :
    Only [.eic, .pci, .slk, .out] s (arbitrate s n) := by
  unfold arbitrate
  repeat' first
    | with_reducible exact Only.refl
    | with_reducible assumption
    | (extract_lets +onlyGivenNames x; have ht := x.busRead; clear ht; refine Only.cut (x := x) ?_ (fun hx => ?_); (on_goal 1 => subst x); (on_goal 2 => clear_value x))
    | extract_lets +onlyGivenNames x
    | ((with_reducible apply Only.foldl); on_goal 1 => intro x t ht)
    | split
    | ((with_reducible apply Only.step modEic_only); on_goal 1 => decide)
    | ((with_reducible apply Only.step wakeRequest_only); on_goal 1 => decide)
    | ((with_reducible apply Only.step groupFire_only); on_goal 1 => decide)
    | ((with_reducible apply Only.lit); intro p hp; cases p <;> first | exact absurd (by decide) hp | (have hq := (‹Only _ _ _›).same _ hp; exact hq) | exact rfl)

theorem setPending_only {n : Nat} {s : State} :
    Only [.eic, .pci, .slk, .out] s (setPending n s) := by
  unfold setPending
  repeat' first
    | with_reducible exact Only.refl
    | with_reducible assumption
    | (extract_lets +onlyGivenNames x; have ht := x.busRead; clear ht; refine Only.cut (x := x) ?_ (fun hx => ?_); (on_goal 1 => subst x); (on_goal 2 => clear_value x))
    | extract_lets +onlyGivenNames x
    | ((with_reducible apply Only.foldl); on_goal 1 => intro x t ht)
    | split
    | ((with_reducible apply Only.step modEic_only); on_goal 1 => decide)
    | ((with_reducible apply Only.step arbitrate_only); on_goal 1 => decide)
    | ((with_reducible apply Only.step countEvent_only); on_goal 1 => decide)
    | ((with_reducible apply Only.lit); intro p hp; cases p <;> first | exact absurd (by decide) hp | (have hq := (‹Only _ _ _›).same _ hp; exact hq) | exact rfl)

theorem eicEdge_only {n : Nat} {s : State} :
    Only [.eic, .pci, .slk, .out] s (eicEdge n s) := by
  unfold eicEdge
  repeat' first
    | with_reducible exact Only.refl
    | with_reducible assumption
    | (extract_lets +onlyGivenNames x; have ht := x.busRead; clear ht; refine Only.cut (x := x) ?_ (fun hx => ?_); (on_goal 1 => subst x); (on_goal 2 => clear_value x))
    | extract_lets +onlyGivenNames x
    | ((with_reducible apply Only.foldl); on_goal 1 => intro x t ht)
    | split
    | ((with_reducible apply Only.step modEic_only); on_goal 1 => decide)
    | ((with_reducible apply Only.step setPending_only); on_goal 1 => decide)
    | ((with_reducible apply Only.lit); intro p hp; cases p <;> first | exact absurd (by decide) hp | (have hq := (‹Only _ _ _›).same _ hp; exact hq) | exact rfl)

theorem eicAssert_only {n : Nat} {s : State} :
    Only [.eic, .pci, .slk, .out] s (eicAssert n s) := by
  unfold eicAssert
  repeat' first
    | with_reducible exact Only.refl
    | with_reducible assumption
    | (extract_lets +onlyGivenNames x; have ht := x.busRead; clear ht; refine Only.cut (x := x) ?_ (fun hx => ?_); (on_goal 1 => subst x); (on_goal 2 => clear_value x))
    | extract_lets +onlyGivenNames x
    | ((with_reducible apply Only.foldl); on_goal 1 => intro x t ht)
    | split
    | ((with_reducible apply Only.step modEic_only); on_goal 1 => decide)
    | ((with_reducible apply Only.step setPending_only); on_goal 1 => decide)
    | ((with_reducible apply Only.lit); intro p hp; cases p <;> first | exact absurd (by decide) hp | (have hq := (‹Only _ _ _›).same _ hp; exact hq) | exact rfl)

theorem eicWithdraw_only {n : Nat} {s : State} :
    Only [.eic] s (eicWithdraw n s) := by
  unfold eicWithdraw
  repeat' first
    | with_reducible exact Only.refl
    | with_reducible assumption
    | (extract_lets +onlyGivenNames x; have ht := x.busRead; clear ht; refine Only.cut (x := x) ?_ (fun hx => ?_); (on_goal 1 => subst x); (on_goal 2 => clear_value x))
    | extract_lets +onlyGivenNames x
    | ((with_reducible apply Only.foldl); on_goal 1 => intro x t ht)
    | split
    | ((with_reducible apply Only.step modEic_only); on_goal 1 => decide)
    | ((with_reducible apply Only.step uncount_only); on_goal 1 => decide)
    | ((with_reducible apply Only.lit); intro p hp; cases p <;> first | exact absurd (by decide) hp | (have hq := (‹Only _ _ _›).same _ hp; exact hq) | exact rfl)

theorem eicDeassert_only {n : Nat} {s : State} :
    Only [.eic] s (eicDeassert n s) := by
  unfold eicDeassert
  repeat' first
    | with_reducible exact Only.refl
    | with_reducible assumption
    | (extract_lets +onlyGivenNames x; have ht := x.busRead; clear ht; refine Only.cut (x := x) ?_ (fun hx => ?_); (on_goal 1 => subst x); (on_goal 2 => clear_value x))
    | extract_lets +onlyGivenNames x
    | ((with_reducible apply Only.foldl); on_goal 1 => intro x t ht)
    | split
    | ((with_reducible apply Only.step modEic_only); on_goal 1 => decide)
    | ((with_reducible apply Only.step eicWithdraw_only); on_goal 1 => decide)
    | ((with_reducible apply Only.lit); intro p hp; cases p <;> first | exact absurd (by decide) hp | (have hq := (‹Only _ _ _›).same _ hp; exact hq) | exact rfl)

theorem eicFinish_only {n : Nat} {s : State} :
    Only [.eic, .pci, .slk, .out] s (eicFinish n s) := by
  unfold eicFinish
  repeat' first
    | with_reducible exact Only.refl
    | with_reducible assumption
    | (extract_lets +onlyGivenNames x; have ht := x.busRead; clear ht; refine Only.cut (x := x) ?_ (fun hx => ?_); (on_goal 1 => subst x); (on_goal 2 => clear_value x))
    | extract_lets +onlyGivenNames x
    | ((with_reducible apply Only.foldl); on_goal 1 => intro x t ht)
    | split
    | ((with_reducible apply Only.step modEic_only); on_goal 1 => decide)
    | ((with_reducible apply Only.step arbitrate_only); on_goal 1 => decide)
    | ((with_reducible apply Only.step groupFire_only); on_goal 1 => decide)
    | ((with_reducible apply Only.lit); intro p hp; cases p <;> first | exact absurd (by decide) hp | (have hq := (‹Only _ _ _›).same _ hp; exact hq) | exact rfl)

theorem waitEnd_only {n : Nat} {s : State} :
    Only [.eic] s (waitEnd n s) := by
  unfold waitEnd
  repeat' first
    | with_reducible exact Only.refl
    | with_reducible assumption
    | (extract_lets +onlyGivenNames x; have ht := x.busRead; clear ht; refine Only.cut (x := x) ?_ (fun hx => ?_); (on_goal 1 => subst x); (on_goal 2 => clear_value x))
    | extract_lets +onlyGivenNames x
    | ((with_reducible apply Only.foldl); on_goal 1 => intro x t ht)
    | split
    | ((with_reducible apply Only.step modEic_only); on_goal 1 => decide)
    | ((with_reducible apply Only.lit); intro p hp; cases p <;> first | exact absurd (by decide) hp | (have hq := (‹Only _ _ _›).same _ hp; exact hq) | exact rfl)

theorem reroute_only {s : State} {n : Nat} :
    Only [.eic, .pci, .slk, .out] s (reroute s n) := by
  unfold reroute
  repeat' first
    | with_reducible exact Only.refl
    | with_reducible assumption
    | (extract_lets +onlyGivenNames x; have ht := x.busRead; clear ht; refine Only.cut (x := x) ?_ (fun hx => ?_); (on_goal 1 => subst x); (on_goal 2 => clear_value x))
    | extract_lets +onlyGivenNames x
    | ((with_reducible apply Only.foldl); on_goal 1 => intro x t ht)
    | split
    | ((with_reducible apply Only.step waitEnd_only); on_goal 1 => decide)
    | ((with_reducible apply Only.step arbitrate_only); on_goal 1 => decide)
    | ((with_reducible apply Only.step countEvent_only); on_goal 1 => decide)
    | ((with_reducible apply Only.lit); intro p hp; cases p <;> first | exact absurd (by decide) hp | (have hq := (‹Only _ _ _›).same _ hp; exact hq) | exact rfl)

theorem logEntry_only {e : LogE} {s : State} :
    Only [.eic, .log, .pci, .slk, .out] s (logEntry e s) := by
  unfold logEntry
  repeat' first
    | with_reducible exact Only.refl
    | with_reducible assumption
    | (extract_lets +onlyGivenNames x; have ht := x.busRead; clear ht; refine Only.cut (x := x) ?_ (fun hx => ?_); (on_goal 1 => subst x); (on_goal 2 => clear_value x))
    | extract_lets +onlyGivenNames x
    | ((with_reducible apply Only.foldl); on_goal 1 => intro x t ht)
    | split
    | ((with_reducible apply Only.step eicEdge_only); on_goal 1 => decide)
    | ((with_reducible apply Only.lit); intro p hp; cases p <;> first | exact absurd (by decide) hp | (have hq := (‹Only _ _ _›).same _ hp; exact hq) | exact rfl)

theorem logAt_only {t64 : BitVec 64} {code src data : Nat} {s : State} :
    Only [.eic, .log, .pci, .slk, .out] s (logAt t64 code src data s) := by
  unfold logAt
  repeat' first
    | with_reducible exact Only.refl
    | with_reducible assumption
    | (extract_lets +onlyGivenNames x; have ht := x.busRead; clear ht; refine Only.cut (x := x) ?_ (fun hx => ?_); (on_goal 1 => subst x); (on_goal 2 => clear_value x))
    | extract_lets +onlyGivenNames x
    | ((with_reducible apply Only.foldl); on_goal 1 => intro x t ht)
    | split
    | ((with_reducible apply Only.step logEntry_only); on_goal 1 => decide)
    | ((with_reducible apply Only.lit); intro p hp; cases p <;> first | exact absurd (by decide) hp | (have hq := (‹Only _ _ _›).same _ hp; exact hq) | exact rfl)

theorem logNow_only {code src data : Nat} {s : State} :
    Only [.eic, .log, .pci, .slk, .out] s (logNow code src data s) := by
  unfold logNow
  repeat' first
    | with_reducible exact Only.refl
    | with_reducible assumption
    | (extract_lets +onlyGivenNames x; have ht := x.busRead; clear ht; refine Only.cut (x := x) ?_ (fun hx => ?_); (on_goal 1 => subst x); (on_goal 2 => clear_value x))
    | extract_lets +onlyGivenNames x
    | ((with_reducible apply Only.foldl); on_goal 1 => intro x t ht)
    | split
    | ((with_reducible apply Only.step logAt_only); on_goal 1 => decide)
    | ((with_reducible apply Only.lit); intro p hp; cases p <;> first | exact absurd (by decide) hp | (have hq := (‹Only _ _ _›).same _ hp; exact hq) | exact rfl)

theorem modStr_only {n : Nat} {f : StrS → StrS} {s : State} :
    Only [.car] s (modStr n f s) := by
  unfold modStr
  repeat' first
    | with_reducible exact Only.refl
    | with_reducible assumption
    | (extract_lets +onlyGivenNames x; have ht := x.busRead; clear ht; refine Only.cut (x := x) ?_ (fun hx => ?_); (on_goal 1 => subst x); (on_goal 2 => clear_value x))
    | extract_lets +onlyGivenNames x
    | ((with_reducible apply Only.foldl); on_goal 1 => intro x t ht)
    | split
    | ((with_reducible apply Only.lit); intro p hp; cases p <;> first | exact absurd (by decide) hp | (have hq := (‹Only _ _ _›).same _ hp; exact hq) | exact rfl)

theorem recQueueItem_only {n : Nat} {i : Item} {s : State} :
    Only [.car] s (recQueueItem n i s) := by
  unfold recQueueItem
  repeat' first
    | with_reducible exact Only.refl
    | with_reducible assumption
    | (extract_lets +onlyGivenNames x; have ht := x.busRead; clear ht; refine Only.cut (x := x) ?_ (fun hx => ?_); (on_goal 1 => subst x); (on_goal 2 => clear_value x))
    | extract_lets +onlyGivenNames x
    | ((with_reducible apply Only.foldl); on_goal 1 => intro x t ht)
    | split
    | ((with_reducible apply Only.step modStr_only); on_goal 1 => decide)
    | ((with_reducible apply Only.lit); intro p hp; cases p <;> first | exact absurd (by decide) hp | (have hq := (‹Only _ _ _›).same _ hp; exact hq) | exact rfl)

theorem recItemT_only {own : Bool} {src sel : Nat} {t64 : BitVec 64} {data : List Byte} {s : State} :
    Only [.car] s (recItemT own src sel t64 data s) := by
  unfold recItemT
  repeat' first
    | with_reducible exact Only.refl
    | with_reducible assumption
    | (extract_lets +onlyGivenNames x; have ht := x.busRead; clear ht; refine Only.cut (x := x) ?_ (fun hx => ?_); (on_goal 1 => subst x); (on_goal 2 => clear_value x))
    | extract_lets +onlyGivenNames x
    | ((with_reducible apply Only.foldl); on_goal 1 => intro x t ht)
    | split
    | ((with_reducible apply Only.step recQueueItem_only); on_goal 1 => decide)
    | ((with_reducible apply Only.lit); intro p hp; cases p <;> first | exact absurd (by decide) hp | (have hq := (‹Only _ _ _›).same _ hp; exact hq) | exact rfl)

theorem recItem_only {src sel : Nat} {t64 : BitVec 64} {data : List Byte} {s : State} :
    Only [.car] s (recItem src sel t64 data s) := by
  unfold recItem
  repeat' first
    | with_reducible exact Only.refl
    | with_reducible assumption
    | (extract_lets +onlyGivenNames x; have ht := x.busRead; clear ht; refine Only.cut (x := x) ?_ (fun hx => ?_); (on_goal 1 => subst x); (on_goal 2 => clear_value x))
    | extract_lets +onlyGivenNames x
    | ((with_reducible apply Only.foldl); on_goal 1 => intro x t ht)
    | split
    | ((with_reducible apply Only.step recItemT_only); on_goal 1 => decide)
    | ((with_reducible apply Only.lit); intro p hp; cases p <;> first | exact absurd (by decide) hp | (have hq := (‹Only _ _ _›).same _ hp; exact hq) | exact rfl)

theorem strTrigger_only {n src : Nat} {t64 : BitVec 64} {s : State} :
    Only [.car] s (strTrigger n src t64 s) := by
  unfold strTrigger
  repeat' first
    | with_reducible exact Only.refl
    | with_reducible assumption
    | (extract_lets +onlyGivenNames x; have ht := x.busRead; clear ht; refine Only.cut (x := x) ?_ (fun hx => ?_); (on_goal 1 => subst x); (on_goal 2 => clear_value x))
    | extract_lets +onlyGivenNames x
    | ((with_reducible apply Only.foldl); on_goal 1 => intro x t ht)
    | split
    | ((with_reducible apply Only.step modStr_only); on_goal 1 => decide)
    | ((with_reducible apply Only.lit); intro p hp; cases p <;> first | exact absurd (by decide) hp | (have hq := (‹Only _ _ _›).same _ hp; exact hq) | exact rfl)

theorem recTrigger_only {src : Nat} {t64 : BitVec 64} {s : State} :
    Only [.car, .slk, .out] s (recTrigger src t64 s) := by
  unfold recTrigger
  repeat' first
    | with_reducible exact Only.refl
    | with_reducible assumption
    | (extract_lets +onlyGivenNames x; have ht := x.busRead; clear ht; refine Only.cut (x := x) ?_ (fun hx => ?_); (on_goal 1 => subst x); (on_goal 2 => clear_value x))
    | extract_lets +onlyGivenNames x
    | ((with_reducible apply Only.foldl); on_goal 1 => intro x t ht)
    | split
    | ((with_reducible apply Only.step strTrigger_only); on_goal 1 => decide)
    | ((with_reducible apply Only.step slkQueue_only); on_goal 1 => decide)
    | ((with_reducible apply Only.lit); intro p hp; cases p <;> first | exact absurd (by decide) hp | (have hq := (‹Only _ _ _›).same _ hp; exact hq) | exact rfl)

theorem dictRecord_only {k : Nat} {v : DVal} {tr : Nat} {s : State} :
    Only [.car] s (dictRecord k v tr s) := by
  unfold dictRecord
  repeat' first
    | with_reducible exact Only.refl
    | with_reducible assumption
    | (extract_lets +onlyGivenNames x; have ht := x.busRead; clear ht; refine Only.cut (x := x) ?_ (fun hx => ?_); (on_goal 1 => subst x); (on_goal 2 => clear_value x))
    | extract_lets +onlyGivenNames x
    | ((with_reducible apply Only.foldl); on_goal 1 => intro x t ht)
    | split
    | ((with_reducible apply Only.step recItem_only); on_goal 1 => decide)
    | ((with_reducible apply Only.lit); intro p hp; cases p <;> first | exact absurd (by decide) hp | (have hq := (‹Only _ _ _›).same _ hp; exact hq) | exact rfl)

theorem putInForce_only {l : Bank DVal} {ofs : Nat} {s : State} :
    Only [.dict, .car] s (putInForce l ofs s) := by
  unfold putInForce
  repeat' first
    | with_reducible exact Only.refl
    | with_reducible assumption
    | (extract_lets +onlyGivenNames x; have ht := x.busRead; clear ht; refine Only.cut (x := x) ?_ (fun hx => ?_); (on_goal 1 => subst x); (on_goal 2 => clear_value x))
    | extract_lets +onlyGivenNames x
    | ((with_reducible apply Only.foldl); on_goal 1 => intro x t ht)
    | split
    | ((with_reducible apply Only.step dictRecord_only); on_goal 1 => decide)
    | ((with_reducible apply Only.lit); intro p hp; cases p <;> first | exact absurd (by decide) hp | (have hq := (‹Only _ _ _›).same _ hp; exact hq) | exact rfl)

theorem takeHeld_only {sel : Nat → Bool} {s : State} :
    Only [.dict, .car] s (takeHeld sel s) := by
  unfold takeHeld
  repeat' first
    | with_reducible exact Only.refl
    | with_reducible assumption
    | (extract_lets +onlyGivenNames x; have ht := x.busRead; clear ht; refine Only.cut (x := x) ?_ (fun hx => ?_); (on_goal 1 => subst x); (on_goal 2 => clear_value x))
    | extract_lets +onlyGivenNames x
    | ((with_reducible apply Only.foldl); on_goal 1 => intro x t ht)
    | split
    | ((with_reducible apply Only.step putInForce_only); on_goal 1 => decide)
    | ((with_reducible apply Only.lit); intro p hp; cases p <;> first | exact absurd (by decide) hp | (have hq := (‹Only _ _ _›).same _ hp; exact hq) | exact rfl)

theorem modFld_only {f : FldS → FldS} {s : State} :
    Only [.fld] s (modFld f s) := by
  unfold modFld
  repeat' first
    | with_reducible exact Only.refl
    | with_reducible assumption
    | (extract_lets +onlyGivenNames x; have ht := x.busRead; clear ht; refine Only.cut (x := x) ?_ (fun hx => ?_); (on_goal 1 => subst x); (on_goal 2 => clear_value x))
    | extract_lets +onlyGivenNames x
    | ((with_reducible apply Only.foldl); on_goal 1 => intro x t ht)
    | split
    | ((with_reducible apply Only.lit); intro p hp; cases p <;> first | exact absurd (by decide) hp | (have hq := (‹Only _ _ _›).same _ hp; exact hq) | exact rfl)

theorem modSaf_only {f : SafS → SafS} {s : State} :
    Only [.saf] s (modSaf f s) := by
  unfold modSaf
  repeat' first
    | with_reducible exact Only.refl
    | with_reducible assumption
    | (extract_lets +onlyGivenNames x; have ht := x.busRead; clear ht; refine Only.cut (x := x) ?_ (fun hx => ?_); (on_goal 1 => subst x); (on_goal 2 => clear_value x))
    | extract_lets +onlyGivenNames x
    | ((with_reducible apply Only.foldl); on_goal 1 => intro x t ht)
    | split
    | ((with_reducible apply Only.lit); intro p hp; cases p <;> first | exact absurd (by decide) hp | (have hq := (‹Only _ _ _›).same _ hp; exact hq) | exact rfl)

theorem modRm_only {f : RmS → RmS} {s : State} :
    Only [.rm] s (modRm f s) := by
  unfold modRm
  repeat' first
    | with_reducible exact Only.refl
    | with_reducible assumption
    | (extract_lets +onlyGivenNames x; have ht := x.busRead; clear ht; refine Only.cut (x := x) ?_ (fun hx => ?_); (on_goal 1 => subst x); (on_goal 2 => clear_value x))
    | extract_lets +onlyGivenNames x
    | ((with_reducible apply Only.foldl); on_goal 1 => intro x t ht)
    | split
    | ((with_reducible apply Only.lit); intro p hp; cases p <;> first | exact absurd (by decide) hp | (have hq := (‹Only _ _ _›).same _ hp; exact hq) | exact rfl)

theorem modLink_only {bl : Nat} {f : LinkS → LinkS} {s : State} :
    Only [.fld] s (modLink bl f s) := by
  unfold modLink
  repeat' first
    | with_reducible exact Only.refl
    | with_reducible assumption
    | (extract_lets +onlyGivenNames x; have ht := x.busRead; clear ht; refine Only.cut (x := x) ?_ (fun hx => ?_); (on_goal 1 => subst x); (on_goal 2 => clear_value x))
    | extract_lets +onlyGivenNames x
    | ((with_reducible apply Only.foldl); on_goal 1 => intro x t ht)
    | split
    | ((with_reducible apply Only.step modFld_only); on_goal 1 => decide)
    | ((with_reducible apply Only.lit); intro p hp; cases p <;> first | exact absurd (by decide) hp | (have hq := (‹Only _ _ _›).same _ hp; exact hq) | exact rfl)

theorem modOut_only {n : Nat} {f : OutS → OutS} {s : State} :
    Only [.fld] s (modOut n f s) := by
  unfold modOut
  repeat' first
    | with_reducible exact Only.refl
    | with_reducible assumption
    | (extract_lets +onlyGivenNames x; have ht := x.busRead; clear ht; refine Only.cut (x := x) ?_ (fun hx => ?_); (on_goal 1 => subst x); (on_goal 2 => clear_value x))
    | extract_lets +onlyGivenNames x
    | ((with_reducible apply Only.foldl); on_goal 1 => intro x t ht)
    | split
    | ((with_reducible apply Only.step modFld_only); on_goal 1 => decide)
    | ((with_reducible apply Only.lit); intro p hp; cases p <;> first | exact absurd (by decide) hp | (have hq := (‹Only _ _ _›).same _ hp; exact hq) | exact rfl)

theorem modBank_only {b : Nat} {f : BankS → BankS} {s : State} :
    Only [.fld] s (modBank b f s) := by
  unfold modBank
  repeat' first
    | with_reducible exact Only.refl
    | with_reducible assumption
    | (extract_lets +onlyGivenNames x; have ht := x.busRead; clear ht; refine Only.cut (x := x) ?_ (fun hx => ?_); (on_goal 1 => subst x); (on_goal 2 => clear_value x))
    | extract_lets +onlyGivenNames x
    | ((with_reducible apply Only.foldl); on_goal 1 => intro x t ht)
    | split
    | ((with_reducible apply Only.step modFld_only); on_goal 1 => decide)
    | ((with_reducible apply Only.lit); intro p hp; cases p <;> first | exact absurd (by decide) hp | (have hq := (‹Only _ _ _›).same _ hp; exact hq) | exact rfl)

theorem modSf_only {k : Nat} {f : SfS → SfS} {s : State} :
    Only [.saf] s (modSf k f s) := by
  unfold modSf
  repeat' first
    | with_reducible exact Only.refl
    | with_reducible assumption
    | (extract_lets +onlyGivenNames x; have ht := x.busRead; clear ht; refine Only.cut (x := x) ?_ (fun hx => ?_); (on_goal 1 => subst x); (on_goal 2 => clear_value x))
    | extract_lets +onlyGivenNames x
    | ((with_reducible apply Only.foldl); on_goal 1 => intro x t ht)
    | split
    | ((with_reducible apply Only.step modSaf_only); on_goal 1 => decide)
    | ((with_reducible apply Only.lit); intro p hp; cases p <;> first | exact absurd (by decide) hp | (have hq := (‹Only _ _ _›).same _ hp; exact hq) | exact rfl)

theorem modIn_only {i : Nat} {f : InS → InS} {s : State} :
    Only [.saf] s (modIn i f s) := by
  unfold modIn
  repeat' first
    | with_reducible exact Only.refl
    | with_reducible assumption
    | (extract_lets +onlyGivenNames x; have ht := x.busRead; clear ht; refine Only.cut (x := x) ?_ (fun hx => ?_); (on_goal 1 => subst x); (on_goal 2 => clear_value x))
    | extract_lets +onlyGivenNames x
    | ((with_reducible apply Only.foldl); on_goal 1 => intro x t ht)
    | split
    | ((with_reducible apply Only.step modSaf_only); on_goal 1 => decide)
    | ((with_reducible apply Only.lit); intro p hp; cases p <;> first | exact absurd (by decide) hp | (have hq := (‹Only _ _ _›).same _ hp; exact hq) | exact rfl)

theorem barSend_only {bl ty : Nat} {pl : List Byte} {s : State} :
    Only [.fld, .out] s (barSend bl ty pl s) := by
  unfold barSend
  repeat' first
    | with_reducible exact Only.refl
    | with_reducible assumption
    | (extract_lets +onlyGivenNames x; have ht := x.busRead; clear ht; refine Only.cut (x := x) ?_ (fun hx => ?_); (on_goal 1 => subst x); (on_goal 2 => clear_value x))
    | extract_lets +onlyGivenNames x
    | ((with_reducible apply Only.foldl); on_goal 1 => intro x t ht)
    | split
    | ((with_reducible apply Only.step modLink_only); on_goal 1 => decide)
    | ((with_reducible apply Only.step emit_only); on_goal 1 => decide)
    | ((with_reducible apply Only.lit); intro p hp; cases p <;> first | exact absurd (by decide) hp | (have hq := (‹Only _ _ _›).same _ hp; exact hq) | exact rfl)

theorem barControl_only {bl ty : Nat} {seq : BitVec 8} {s : State} :
    Only [.out] s (barControl bl ty seq s) := by
  unfold barControl
  repeat' first
    | with_reducible exact Only.refl
    | with_reducible assumption
    | (extract_lets +onlyGivenNames x; have ht := x.busRead; clear ht; refine Only.cut (x := x) ?_ (fun hx => ?_); (on_goal 1 => subst x); (on_goal 2 => clear_value x))
    | extract_lets +onlyGivenNames x
    | ((with_reducible apply Only.foldl); on_goal 1 => intro x t ht)
    | split
    | ((with_reducible apply Only.step emit_only); on_goal 1 => decide)
    | ((with_reducible apply Only.lit); intro p hp; cases p <;> first | exact absurd (by decide) hp | (have hq := (‹Only _ _ _›).same _ hp; exact hq) | exact rfl)

theorem barSymbol_only {bl k : Nat} {s : State} :
    Only [.out] s (barSymbol bl k s) := by
  unfold barSymbol
  repeat' first
    | with_reducible exact Only.refl
    | with_reducible assumption
    | (extract_lets +onlyGivenNames x; have ht := x.busRead; clear ht; refine Only.cut (x := x) ?_ (fun hx => ?_); (on_goal 1 => subst x); (on_goal 2 => clear_value x))
    | extract_lets +onlyGivenNames x
    | ((with_reducible apply Only.foldl); on_goal 1 => intro x t ht)
    | split
    | ((with_reducible apply Only.step emit_only); on_goal 1 => decide)
    | ((with_reducible apply Only.lit); intro p hp; cases p <;> first | exact absurd (by decide) hp | (have hq := (‹Only _ _ _›).same _ hp; exact hq) | exact rfl)

theorem cfgSend_only {num sub : Nat} {s : State} :
    Only [.fld, .out] s (cfgSend num sub s) := by
  unfold cfgSend
  repeat' first
    | with_reducible exact Only.refl
    | with_reducible assumption
    | (extract_lets +onlyGivenNames x; have ht := x.busRead; clear ht; refine Only.cut (x := x) ?_ (fun hx => ?_); (on_goal 1 => subst x); (on_goal 2 => clear_value x))
    | extract_lets +onlyGivenNames x
    | ((with_reducible apply Only.foldl); on_goal 1 => intro x t ht)
    | split
    | ((with_reducible apply Only.step barSend_only); on_goal 1 => decide)
    | ((with_reducible apply Only.lit); intro p hp; cases p <;> first | exact absurd (by decide) hp | (have hq := (‹Only _ _ _›).same _ hp; exact hq) | exact rfl)

theorem statSend_only {s : State} :
    Only [.fld, .out] s (statSend s) := by
  unfold statSend
  repeat' first
    | with_reducible exact Only.refl
    | with_reducible assumption
    | (extract_lets +onlyGivenNames x; have ht := x.busRead; clear ht; refine Only.cut (x := x) ?_ (fun hx => ?_); (on_goal 1 => subst x); (on_goal 2 => clear_value x))
    | extract_lets +onlyGivenNames x
    | ((with_reducible apply Only.foldl); on_goal 1 => intro x t ht)
    | split
    | ((with_reducible apply Only.step barSend_only); on_goal 1 => decide)
    | ((with_reducible apply Only.lit); intro p hp; cases p <;> first | exact absurd (by decide) hp | (have hq := (‹Only _ _ _›).same _ hp; exact hq) | exact rfl)

theorem fastOff_only {n : Nat} {s : State} :
    Only [.fld, .out] s (fastOff n s) := by
  unfold fastOff
  repeat' first
    | with_reducible exact Only.refl
    | with_reducible assumption
    | (extract_lets +onlyGivenNames x; have ht := x.busRead; clear ht; refine Only.cut (x := x) ?_ (fun hx => ?_); (on_goal 1 => subst x); (on_goal 2 => clear_value x))
    | extract_lets +onlyGivenNames x
    | ((with_reducible apply Only.foldl); on_goal 1 => intro x t ht)
    | split
    | ((with_reducible apply Only.step barSend_only); on_goal 1 => decide)
    | ((with_reducible apply Only.step barSymbol_only); on_goal 1 => decide)
    | ((with_reducible apply Only.lit); intro p hp; cases p <;> first | exact absurd (by decide) hp | (have hq := (‹Only _ _ _›).same _ hp; exact hq) | exact rfl)

theorem armFastOff_only {s : State} :
    Only [.fld, .out] s (armFastOff s) := by
  unfold armFastOff
  repeat' first
    | with_reducible exact Only.refl
    | with_reducible assumption
    | (extract_lets +onlyGivenNames x; have ht := x.busRead; clear ht; refine Only.cut (x := x) ?_ (fun hx => ?_); (on_goal 1 => subst x); (on_goal 2 => clear_value x))
    | extract_lets +onlyGivenNames x
    | ((with_reducible apply Only.foldl); on_goal 1 => intro x t ht)
    | split
    | ((with_reducible apply Only.step barSend_only); on_goal 1 => decide)
    | ((with_reducible apply Only.lit); intro p hp; cases p <;> first | exact absurd (by decide) hp | (have hq := (‹Only _ _ _›).same _ hp; exact hq) | exact rfl)

theorem outFaultSet_only {n code : Nat} {s : State} :
    Only [.fld, .eic, .log, .pci, .slk, .out] s (outFaultSet n code s) := by
  unfold outFaultSet
  repeat' first
    | with_reducible exact Only.refl
    | with_reducible assumption
    | (extract_lets +onlyGivenNames x; have ht := x.busRead; clear ht; refine Only.cut (x := x) ?_ (fun hx => ?_); (on_goal 1 => subst x); (on_goal 2 => clear_value x))
    | extract_lets +onlyGivenNames x
    | ((with_reducible apply Only.foldl); on_goal 1 => intro x t ht)
    | split
    | ((with_reducible apply Only.step logNow_only); on_goal 1 => decide)
    | ((with_reducible apply Only.step modOut_only); on_goal 1 => decide)
    | ((with_reducible apply Only.lit); intro p hp; cases p <;> first | exact absurd (by decide) hp | (have hq := (‹Only _ _ _›).same _ hp; exact hq) | exact rfl)

theorem evalOutput_only {s : State} {n : Nat} :
    Only [.fld, .car, .eic, .log, .pci, .slk, .out] s (evalOutput s n) := by
  unfold evalOutput
  repeat' first
    | with_reducible exact Only.refl
    | with_reducible assumption
    | (extract_lets +onlyGivenNames x; have ht := x.busRead; clear ht; refine Only.cut (x := x) ?_ (fun hx => ?_); (on_goal 1 => subst x); (on_goal 2 => clear_value x))
    | extract_lets +onlyGivenNames x
    | ((with_reducible apply Only.foldl); on_goal 1 => intro x t ht)
    | split
    | ((with_reducible apply Only.step modOut_only); on_goal 1 => decide)
    | ((with_reducible apply Only.step fastOff_only); on_goal 1 => decide)
    | ((with_reducible apply Only.step recTrigger_only); on_goal 1 => decide)
    | ((with_reducible apply Only.step outFaultSet_only); on_goal 1 => decide)
    | ((with_reducible apply Only.lit); intro p hp; cases p <;> first | exact absurd (by decide) hp | (have hq := (‹Only _ _ _›).same _ hp; exact hq) | exact rfl)

theorem evalOutputs_only {s : State} :
    Only [.fld, .car, .eic, .log, .pci, .slk, .out] s (evalOutputs s) := by
  unfold evalOutputs
  repeat' first
    | with_reducible exact Only.refl
    | with_reducible assumption
    | (extract_lets +onlyGivenNames x; have ht := x.busRead; clear ht; refine Only.cut (x := x) ?_ (fun hx => ?_); (on_goal 1 => subst x); (on_goal 2 => clear_value x))
    | extract_lets +onlyGivenNames x
    | ((with_reducible apply Only.foldl); on_goal 1 => intro x t ht)
    | split
    | ((with_reducible apply Only.step evalOutput_only); on_goal 1 => decide)
    | ((with_reducible apply Only.lit); intro p hp; cases p <;> first | exact absurd (by decide) hp | (have hq := (‹Only _ _ _›).same _ hp; exact hq) | exact rfl)

theorem loopsFollow_only {s : State} :
    Only [.adc] s (loopsFollow s) := by
  unfold loopsFollow
  repeat' first
    | with_reducible exact Only.refl
    | with_reducible assumption
    | (extract_lets +onlyGivenNames x; have ht := x.busRead; clear ht; refine Only.cut (x := x) ?_ (fun hx => ?_); (on_goal 1 => subst x); (on_goal 2 => clear_value x))
    | extract_lets +onlyGivenNames x
    | ((with_reducible apply Only.foldl); on_goal 1 => intro x t ht)
    | split
    | ((with_reducible apply Only.lit); intro p hp; cases p <;> first | exact absurd (by decide) hp | (have hq := (‹Only _ _ _›).same _ hp; exact hq) | exact rfl)

theorem balls_only {s : State} :
    Only [.rst, .out] s (balls s) := by
  unfold balls
  repeat' first
    | with_reducible exact Only.refl
    | with_reducible assumption
    | (extract_lets +onlyGivenNames x; have ht := x.busRead; clear ht; refine Only.cut (x := x) ?_ (fun hx => ?_); (on_goal 1 => subst x); (on_goal 2 => clear_value x))
    | extract_lets +onlyGivenNames x
    | ((with_reducible apply Only.foldl); on_goal 1 => intro x t ht)
    | split
    | ((with_reducible apply Only.step emit_only); on_goal 1 => decide)
    | ((with_reducible apply Only.lit); intro p hp; cases p <;> first | exact absurd (by decide) hp | (have hq := (‹Only _ _ _›).same _ hp; exact hq) | exact rfl)

theorem setState_only {new : DevState} {ep cmd : Nat} {s : State} :
    Only [.dev, .rm, .fld, .adc, .car, .eic, .log, .pci, .slk, .rst, .out] s (setState new ep cmd s) := by
  unfold setState
  repeat' first
    | with_reducible exact Only.refl
    | with_reducible assumption
    | (extract_lets +onlyGivenNames x; have ht := x.busRead; clear ht; refine Only.cut (x := x) ?_ (fun hx => ?_); (on_goal 1 => subst x); (on_goal 2 => clear_value x))
    | extract_lets +onlyGivenNames x
    | ((with_reducible apply Only.foldl); on_goal 1 => intro x t ht)
    | split
    | ((with_reducible apply Only.step logNow_only); on_goal 1 => decide)
    | ((with_reducible apply Only.step balls_only); on_goal 1 => decide)
    | ((with_reducible apply Only.step evalOutputs_only); on_goal 1 => decide)
    | ((with_reducible apply Only.step loopsFollow_only); on_goal 1 => decide)
    | ((with_reducible apply Only.step recTrigger_only); on_goal 1 => decide)
    | ((with_reducible apply Only.lit); intro p hp; cases p <;> first | exact absurd (by decide) hp | (have hq := (‹Only _ _ _›).same _ hp; exact hq) | exact rfl)

theorem safeCause_only {c : SafeCause} {s : State} :
    Only [.dev, .rm, .fld, .adc, .saf, .car, .eic, .log, .pci, .slk, .rst, .out] s (safeCause c s) := by
  unfold safeCause
  repeat' first
    | with_reducible exact Only.refl
    | with_reducible assumption
    | (extract_lets +onlyGivenNames x; have ht := x.busRead; clear ht; refine Only.cut (x := x) ?_ (fun hx => ?_); (on_goal 1 => subst x); (on_goal 2 => clear_value x))
    | extract_lets +onlyGivenNames x
    | ((with_reducible apply Only.foldl); on_goal 1 => intro x t ht)
    | split
    | ((with_reducible apply Only.step modSaf_only); on_goal 1 => decide)
    | ((with_reducible apply Only.step setState_only); on_goal 1 => decide)
    | ((with_reducible apply Only.lit); intro p hp; cases p <;> first | exact absurd (by decide) hp | (have hq := (‹Only _ _ _›).same _ hp; exact hq) | exact rfl)

theorem safeClear_only {c : SafeCause} {s : State} :
    Only [.saf] s (safeClear c s) := by
  unfold safeClear
  repeat' first
    | with_reducible exact Only.refl
    | with_reducible assumption
    | (extract_lets +onlyGivenNames x; have ht := x.busRead; clear ht; refine Only.cut (x := x) ?_ (fun hx => ?_); (on_goal 1 => subst x); (on_goal 2 => clear_value x))
    | extract_lets +onlyGivenNames x
    | ((with_reducible apply Only.foldl); on_goal 1 => intro x t ht)
    | split
    | ((with_reducible apply Only.step modSaf_only); on_goal 1 => decide)
    | ((with_reducible apply Only.lit); intro p hp; cases p <;> first | exact absurd (by decide) hp | (have hq := (‹Only _ _ _›).same _ hp; exact hq) | exact rfl)

theorem modXi_only {f : XiS → XiS} {s : State} :
    Only [.xi] s (modXi f s) := by
  unfold modXi
  repeat' first
    | with_reducible exact Only.refl
    | with_reducible assumption
    | (extract_lets +onlyGivenNames x; have ht := x.busRead; clear ht; refine Only.cut (x := x) ?_ (fun hx => ?_); (on_goal 1 => subst x); (on_goal 2 => clear_value x))
    | extract_lets +onlyGivenNames x
    | ((with_reducible apply Only.foldl); on_goal 1 => intro x t ht)
    | split
    | ((with_reducible apply Only.lit); intro p hp; cases p <;> first | exact absurd (by decide) hp | (have hq := (‹Only _ _ _›).same _ hp; exact hq) | exact rfl)

theorem modPt_only {f : PtS → PtS} {s : State} :
    Only [.pt] s (modPt f s) := by
  unfold modPt
  repeat' first
    | with_reducible exact Only.refl
    | with_reducible assumption
    | (extract_lets +onlyGivenNames x; have ht := x.busRead; clear ht; refine Only.cut (x := x) ?_ (fun hx => ?_); (on_goal 1 => subst x); (on_goal 2 => clear_value x))
    | extract_lets +onlyGivenNames x
    | ((with_reducible apply Only.foldl); on_goal 1 => intro x t ht)
    | split
    | ((with_reducible apply Only.lit); intro p hp; cases p <;> first | exact absurd (by decide) hp | (have hq := (‹Only _ _ _›).same _ hp; exact hq) | exact rfl)

theorem inhibit_only {w : Inhibit} {s : State} :
    Only [.rm] s (inhibit w s) := by
  unfold inhibit
  repeat' first
    | with_reducible exact Only.refl
    | with_reducible assumption
    | (extract_lets +onlyGivenNames x; have ht := x.busRead; clear ht; refine Only.cut (x := x) ?_ (fun hx => ?_); (on_goal 1 => subst x); (on_goal 2 => clear_value x))
    | extract_lets +onlyGivenNames x
    | ((with_reducible apply Only.foldl); on_goal 1 => intro x t ht)
    | split
    | ((with_reducible apply Only.step modRm_only); on_goal 1 => decide)
    | ((with_reducible apply Only.lit); intro p hp; cases p <;> first | exact absurd (by decide) hp | (have hq := (‹Only _ _ _›).same _ hp; exact hq) | exact rfl)

theorem uninhibit_only {w : Inhibit} {s : State} :
    Only [.rm] s (uninhibit w s) := by
  unfold uninhibit
  repeat' first
    | with_reducible exact Only.refl
    | with_reducible assumption
    | (extract_lets +onlyGivenNames x; have ht := x.busRead; clear ht; refine Only.cut (x := x) ?_ (fun hx => ?_); (on_goal 1 => subst x); (on_goal 2 => clear_value x))
    | extract_lets +onlyGivenNames x
    | ((with_reducible apply Only.foldl); on_goal 1 => intro x t ht)
    | split
    | ((with_reducible apply Only.step modRm_only); on_goal 1 => decide)
    | ((with_reducible apply Only.lit); intro p hp; cases p <;> first | exact absurd (by decide) hp | (have hq := (‹Only _ _ _›).same _ hp; exact hq) | exact rfl)

theorem outFault_only {n code : Nat} {s : State} :
    Only [.dev, .rm, .fld, .adc, .saf, .car, .eic, .log, .pci, .slk, .rst, .out] s (outFault n code s) := by
  unfold outFault
  repeat' first
    | with_reducible exact Only.refl
    | with_reducible assumption
    | (extract_lets +onlyGivenNames x; have ht := x.busRead; clear ht; refine Only.cut (x := x) ?_ (fun hx => ?_); (on_goal 1 => subst x); (on_goal 2 => clear_value x))
    | extract_lets +onlyGivenNames x
    | ((with_reducible apply Only.foldl); on_goal 1 => intro x t ht)
    | split
    | ((with_reducible apply Only.step outFaultSet_only); on_goal 1 => decide)
    | ((with_reducible apply Only.step safeCause_only); on_goal 1 => decide)
    | ((with_reducible apply Only.step fastOff_only); on_goal 1 => decide)
    | ((with_reducible apply Only.step modOut_only); on_goal 1 => decide)
    | ((with_reducible apply Only.step evalOutputs_only); on_goal 1 => decide)
    | ((with_reducible apply Only.lit); intro p hp; cases p <;> first | exact absurd (by decide) hp | (have hq := (‹Only _ _ _›).same _ hp; exact hq) | exact rfl)

theorem modSess_only {ep : Nat} {f : SessS → SessS} {s : State} :
    Only [.xi] s (modSess ep f s) := by
  unfold modSess
  repeat' first
    | with_reducible exact Only.refl
    | with_reducible assumption
    | (extract_lets +onlyGivenNames x; have ht := x.busRead; clear ht; refine Only.cut (x := x) ?_ (fun hx => ?_); (on_goal 1 => subst x); (on_goal 2 => clear_value x))
    | extract_lets +onlyGivenNames x
    | ((with_reducible apply Only.foldl); on_goal 1 => intro x t ht)
    | split
    | ((with_reducible apply Only.lit); intro p hp; cases p <;> first | exact absurd (by decide) hp | (have hq := (‹Only _ _ _›).same _ hp; exact hq) | exact rfl)

theorem closeSess_only {ep : Nat} {s : State} :
    Only [.xi] s (closeSess ep s) := by
  unfold closeSess
  repeat' first
    | with_reducible exact Only.refl
    | with_reducible assumption
    | (extract_lets +onlyGivenNames x; have ht := x.busRead; clear ht; refine Only.cut (x := x) ?_ (fun hx => ?_); (on_goal 1 => subst x); (on_goal 2 => clear_value x))
    | extract_lets +onlyGivenNames x
    | ((with_reducible apply Only.foldl); on_goal 1 => intro x t ht)
    | split
    | ((with_reducible apply Only.step modSess_only); on_goal 1 => decide)
    | ((with_reducible apply Only.lit); intro p hp; cases p <;> first | exact absurd (by decide) hp | (have hq := (‹Only _ _ _›).same _ hp; exact hq) | exact rfl)

theorem linkFail_only {b : Nat} {s : State} :
    Only [.dev, .rm, .fld, .adc, .saf, .car, .eic, .log, .pci, .slk, .rst, .out] s (linkFail b s) := by
  unfold linkFail
  repeat' first
    | with_reducible exact Only.refl
    | with_reducible assumption
    | (extract_lets +onlyGivenNames x; have ht := x.busRead; clear ht; refine Only.cut (x := x) ?_ (fun hx => ?_); (on_goal 1 => subst x); (on_goal 2 => clear_value x))
    | extract_lets +onlyGivenNames x
    | ((with_reducible apply Only.foldl); on_goal 1 => intro x t ht)
    | split
    | ((with_reducible apply Only.step modLink_only); on_goal 1 => decide)
    | ((with_reducible apply Only.step logNow_only); on_goal 1 => decide)
    | ((with_reducible apply Only.step safeCause_only); on_goal 1 => decide)
    | ((with_reducible apply Only.step inhibit_only); on_goal 1 => decide)
    | ((with_reducible apply Only.lit); intro p hp; cases p <;> first | exact absurd (by decide) hp | (have hq := (‹Only _ _ _›).same _ hp; exact hq) | exact rfl)

theorem crcError_only {b : Nat} {s : State} :
    Only [.dev, .rm, .fld, .adc, .saf, .car, .eic, .log, .pci, .slk, .rst, .out] s (crcError b s) := by
  unfold crcError
  repeat' first
    | with_reducible exact Only.refl
    | with_reducible assumption
    | (extract_lets +onlyGivenNames x; have ht := x.busRead; clear ht; refine Only.cut (x := x) ?_ (fun hx => ?_); (on_goal 1 => subst x); (on_goal 2 => clear_value x))
    | extract_lets +onlyGivenNames x
    | ((with_reducible apply Only.foldl); on_goal 1 => intro x t ht)
    | split
    | ((with_reducible apply Only.step modFld_only); on_goal 1 => decide)
    | ((with_reducible apply Only.step modLink_only); on_goal 1 => decide)
    | ((with_reducible apply Only.step linkFail_only); on_goal 1 => decide)
    | ((with_reducible apply Only.lit); intro p hp; cases p <;> first | exact absurd (by decide) hp | (have hq := (‹Only _ _ _›).same _ hp; exact hq) | exact rfl)

theorem modPci_only {f : PciS → PciS} {s : State} :
    Only [.pci] s (modPci f s) := by
  unfold modPci
  repeat' first
    | with_reducible exact Only.refl
    | with_reducible assumption
    | (extract_lets +onlyGivenNames x; have ht := x.busRead; clear ht; refine Only.cut (x := x) ?_ (fun hx => ?_); (on_goal 1 => subst x); (on_goal 2 => clear_value x))
    | extract_lets +onlyGivenNames x
    | ((with_reducible apply Only.foldl); on_goal 1 => intro x t ht)
    | split
    | ((with_reducible apply Only.lit); intro p hp; cases p <;> first | exact absurd (by decide) hp | (have hq := (‹Only _ _ _›).same _ hp; exact hq) | exact rfl)

theorem modRing_only {n : Nat} {f : RingS → RingS} {s : State} :
    Only [.pci] s (modRing n f s) := by
  unfold modRing
  repeat' first
    | with_reducible exact Only.refl
    | with_reducible assumption
    | (extract_lets +onlyGivenNames x; have ht := x.busRead; clear ht; refine Only.cut (x := x) ?_ (fun hx => ?_); (on_goal 1 => subst x); (on_goal 2 => clear_value x))
    | extract_lets +onlyGivenNames x
    | ((with_reducible apply Only.foldl); on_goal 1 => intro x t ht)
    | split
    | ((with_reducible apply Only.step modPci_only); on_goal 1 => decide)
    | ((with_reducible apply Only.lit); intro p hp; cases p <;> first | exact absurd (by decide) hp | (have hq := (‹Only _ _ _›).same _ hp; exact hq) | exact rfl)

theorem ringKick_only {n : Nat} {s : State} :
    Only [.pci, .out] s (ringKick n s) := by
  unfold ringKick
  repeat' first
    | with_reducible exact Only.refl
    | with_reducible assumption
    | (extract_lets +onlyGivenNames x; have ht := x.busRead; clear ht; refine Only.cut (x := x) ?_ (fun hx => ?_); (on_goal 1 => subst x); (on_goal 2 => clear_value x))
    | extract_lets +onlyGivenNames x
    | ((with_reducible apply Only.foldl); on_goal 1 => intro x t ht)
    | split
    | ((with_reducible apply Only.step emit_only); on_goal 1 => decide)
    | ((with_reducible apply Only.step modRing_only); on_goal 1 => decide)
    | ((with_reducible apply Only.lit); intro p hp; cases p <;> first | exact absurd (by decide) hp | (have hq := (‹Only _ _ _›).same _ hp; exact hq) | exact rfl)

theorem ringComplete_only {n : Nat} {s : State} :
    Only [.pci, .out] s (ringComplete n s) := by
  unfold ringComplete
  repeat' first
    | with_reducible exact Only.refl
    | with_reducible assumption
    | (extract_lets +onlyGivenNames x; have ht := x.busRead; clear ht; refine Only.cut (x := x) ?_ (fun hx => ?_); (on_goal 1 => subst x); (on_goal 2 => clear_value x))
    | extract_lets +onlyGivenNames x
    | ((with_reducible apply Only.foldl); on_goal 1 => intro x t ht)
    | split
    | ((with_reducible apply Only.step modRing_only); on_goal 1 => decide)
    | ((with_reducible apply Only.step emit_only); on_goal 1 => decide)
    | ((with_reducible apply Only.lit); intro p hp; cases p <;> first | exact absurd (by decide) hp | (have hq := (‹Only _ _ _›).same _ hp; exact hq) | exact rfl)

theorem dropRecords_only {n : Nat} {s : State} :
    Only [.pt] s (dropRecords n s) := by
  unfold dropRecords
  repeat' first
    | with_reducible exact Only.refl
    | with_reducible assumption
    | (extract_lets +onlyGivenNames x; have ht := x.busRead; clear ht; refine Only.cut (x := x) ?_ (fun hx => ?_); (on_goal 1 => subst x); (on_goal 2 => clear_value x))
    | extract_lets +onlyGivenNames x
    | ((with_reducible apply Only.foldl); on_goal 1 => intro x t ht)
    | split
    | ((with_reducible apply Only.step modPt_only); on_goal 1 => decide)
    | ((with_reducible apply Only.lit); intro p hp; cases p <;> first | exact absurd (by decide) hp | (have hq := (‹Only _ _ _›).same _ hp; exact hq) | exact rfl)

theorem unwritten_only {k : Nat} {s : State} :
    Only [.pt] s (unwritten k s) := by
  unfold unwritten
  repeat' first
    | with_reducible exact Only.refl
    | with_reducible assumption
    | (extract_lets +onlyGivenNames x; have ht := x.busRead; clear ht; refine Only.cut (x := x) ?_ (fun hx => ?_); (on_goal 1 => subst x); (on_goal 2 => clear_value x))
    | extract_lets +onlyGivenNames x
    | ((with_reducible apply Only.foldl); on_goal 1 => intro x t ht)
    | split
    | ((with_reducible apply Only.step dropRecords_only); on_goal 1 => decide)
    | ((with_reducible apply Only.step modPt_only); on_goal 1 => decide)
    | ((with_reducible apply Only.lit); intro p hp; cases p <;> first | exact absurd (by decide) hp | (have hq := (‹Only _ _ _›).same _ hp; exact hq) | exact rfl)

theorem heldSince_only {at_ : Nat} {s : State} :
    Only [.pt] s (heldSince at_ s) := by
  unfold heldSince
  repeat' first
    | with_reducible exact Only.refl
    | with_reducible assumption
    | (extract_lets +onlyGivenNames x; have ht := x.busRead; clear ht; refine Only.cut (x := x) ?_ (fun hx => ?_); (on_goal 1 => subst x); (on_goal 2 => clear_value x))
    | extract_lets +onlyGivenNames x
    | ((with_reducible apply Only.foldl); on_goal 1 => intro x t ht)
    | split
    | ((with_reducible apply Only.step modPt_only); on_goal 1 => decide)
    | ((with_reducible apply Only.lit); intro p hp; cases p <;> first | exact absurd (by decide) hp | (have hq := (‹Only _ _ _›).same _ hp; exact hq) | exact rfl)

theorem ringVisible_only {n : Nat} {s : State} :
    Only [.pt, .pci] s (ringVisible n s) := by
  unfold ringVisible
  repeat' first
    | with_reducible exact Only.refl
    | with_reducible assumption
    | (extract_lets +onlyGivenNames x; have ht := x.busRead; clear ht; refine Only.cut (x := x) ?_ (fun hx => ?_); (on_goal 1 => subst x); (on_goal 2 => clear_value x))
    | extract_lets +onlyGivenNames x
    | ((with_reducible apply Only.foldl); on_goal 1 => intro x t ht)
    | split
    | ((with_reducible apply Only.step modRing_only); on_goal 1 => decide)
    | ((with_reducible apply Only.step modPt_only); on_goal 1 => decide)
    | ((with_reducible apply Only.lit); intro p hp; cases p <;> first | exact absurd (by decide) hp | (have hq := (‹Only _ _ _›).same _ hp; exact hq) | exact rfl)

theorem itemWritten_only {n : Nat} {it : WItem} {s : State} :
    Only [.pt, .pci] s (itemWritten n it s) := by
  unfold itemWritten
  repeat' first
    | with_reducible exact Only.refl
    | with_reducible assumption
    | (extract_lets +onlyGivenNames x; have ht := x.busRead; clear ht; refine Only.cut (x := x) ?_ (fun hx => ?_); (on_goal 1 => subst x); (on_goal 2 => clear_value x))
    | extract_lets +onlyGivenNames x
    | ((with_reducible apply Only.foldl); on_goal 1 => intro x t ht)
    | split
    | ((with_reducible apply Only.step modPt_only); on_goal 1 => decide)
    | ((with_reducible apply Only.step heldSince_only); on_goal 1 => decide)
    | ((with_reducible apply Only.step modRing_only); on_goal 1 => decide)
    | ((with_reducible apply Only.lit); intro p hp; cases p <;> first | exact absurd (by decide) hp | (have hq := (‹Only _ _ _›).same _ hp; exact hq) | exact rfl)

theorem ringWriteBack_only {n : Nat} {s : State} :
    Only [.pt, .eic, .pci, .slk, .out] s (ringWriteBack n s) := by
  unfold ringWriteBack
  repeat' first
    | with_reducible exact Only.refl
    | with_reducible assumption
    | (extract_lets +onlyGivenNames x; have ht := x.busRead; clear ht; refine Only.cut (x := x) ?_ (fun hx => ?_); (on_goal 1 => subst x); (on_goal 2 => clear_value x))
    | extract_lets +onlyGivenNames x
    | ((with_reducible apply Only.foldl); on_goal 1 => intro x t ht)
    | split
    | ((with_reducible apply Only.step ringVisible_only); on_goal 1 => decide)
    | ((with_reducible apply Only.step modRing_only); on_goal 1 => decide)
    | ((with_reducible apply Only.step eicEdge_only); on_goal 1 => decide)
    | ((with_reducible apply Only.step emit_only); on_goal 1 => decide)
    | ((with_reducible apply Only.lit); intro p hp; cases p <;> first | exact absurd (by decide) hp | (have hq := (‹Only _ _ _›).same _ hp; exact hq) | exact rfl)

theorem ringFlush_only {n : Nat} {s : State} :
    Only [.pt, .eic, .pci, .slk, .out] s (ringFlush n s) := by
  unfold ringFlush
  repeat' first
    | with_reducible exact Only.refl
    | with_reducible assumption
    | (extract_lets +onlyGivenNames x; have ht := x.busRead; clear ht; refine Only.cut (x := x) ?_ (fun hx => ?_); (on_goal 1 => subst x); (on_goal 2 => clear_value x))
    | extract_lets +onlyGivenNames x
    | ((with_reducible apply Only.foldl); on_goal 1 => intro x t ht)
    | split
    | ((with_reducible apply Only.step ringWriteBack_only); on_goal 1 => decide)
    | ((with_reducible apply Only.lit); intro p hp; cases p <;> first | exact absurd (by decide) hp | (have hq := (‹Only _ _ _›).same _ hp; exact hq) | exact rfl)

theorem ringPut_only {n : Nat} {b : Buf} {it : WItem} {k : Nat} {s : State} :
    Only [.pci, .out] s (ringPut n b it k s) := by
  unfold ringPut
  repeat' first
    | with_reducible exact Only.refl
    | with_reducible assumption
    | (extract_lets +onlyGivenNames x; have ht := x.busRead; clear ht; refine Only.cut (x := x) ?_ (fun hx => ?_); (on_goal 1 => subst x); (on_goal 2 => clear_value x))
    | extract_lets +onlyGivenNames x
    | ((with_reducible apply Only.foldl); on_goal 1 => intro x t ht)
    | split
    | ((with_reducible apply Only.step modRing_only); on_goal 1 => decide)
    | ((with_reducible apply Only.step emit_only); on_goal 1 => decide)
    | ((with_reducible apply Only.lit); intro p hp; cases p <;> first | exact absurd (by decide) hp | (have hq := (‹Only _ _ _›).same _ hp; exact hq) | exact rfl)

theorem ringDrain_only {n : Nat} {q : List WItem} {s : State} :
    Only [.pt, .eic, .pci, .slk, .out] s (ringDrain n q s) := by
  induction q generalizing s with
  | nil =>
    unfold ringDrain
    repeat' first
      | with_reducible exact Only.refl
      | with_reducible assumption
      | (extract_lets +onlyGivenNames x; have ht := x.busRead; clear ht; refine Only.cut (x := x) ?_ (fun hx => ?_); (on_goal 1 => subst x); (on_goal 2 => clear_value x))
      | extract_lets +onlyGivenNames x
      | ((with_reducible apply Only.foldl); on_goal 1 => intro x t ht)
      | split
      | ((with_reducible apply Only.step modRing_only); on_goal 1 => decide)
      | ((with_reducible apply Only.step ringFlush_only); on_goal 1 => decide)
      | ((with_reducible apply Only.step ringKick_only); on_goal 1 => decide)
      | ((with_reducible apply Only.step itemWritten_only); on_goal 1 => decide)
      | ((with_reducible apply Only.step ringPut_only); on_goal 1 => decide)
      | ((with_reducible apply Only.step ringComplete_only); on_goal 1 => decide)
      | ((with_reducible apply Only.step ringWriteBack_only); on_goal 1 => decide)
      | ((with_reducible apply Only.lit); intro p hp; cases p <;> first | exact absurd (by decide) hp | (have hq := (‹Only _ _ _›).same _ hp; exact hq) | exact rfl)
  | cons x q ih =>
    unfold ringDrain
    repeat' first
      | with_reducible exact Only.refl
      | with_reducible assumption
      | (extract_lets +onlyGivenNames x; have ht := x.busRead; clear ht; refine Only.cut (x := x) ?_ (fun hx => ?_); (on_goal 1 => subst x); (on_goal 2 => clear_value x))
      | extract_lets +onlyGivenNames x
      | ((with_reducible apply Only.foldl); on_goal 1 => intro x t ht)
      | split
      | ((with_reducible apply Only.step modRing_only); on_goal 1 => decide)
      | ((with_reducible apply Only.step ringFlush_only); on_goal 1 => decide)
      | ((with_reducible apply Only.step ringKick_only); on_goal 1 => decide)
      | ((with_reducible apply Only.step itemWritten_only); on_goal 1 => decide)
      | ((with_reducible apply Only.step ringPut_only); on_goal 1 => decide)
      | ((with_reducible apply Only.step ringComplete_only); on_goal 1 => decide)
      | ((with_reducible apply Only.step ringWriteBack_only); on_goal 1 => decide)
      | ((with_reducible apply Only.step ih); on_goal 1 => decide)
      | ((with_reducible apply Only.lit); intro p hp; cases p <;> first | exact absurd (by decide) hp | (have hq := (‹Only _ _ _›).same _ hp; exact hq) | exact rfl)

theorem ringStop_only {n cause : Nat} {s : State} :
    Only [.pt, .eic, .log, .pci, .slk, .out] s (ringStop n cause s) := by
  unfold ringStop
  repeat' first
    | with_reducible exact Only.refl
    | with_reducible assumption
    | (extract_lets +onlyGivenNames x; have ht := x.busRead; clear ht; refine Only.cut (x := x) ?_ (fun hx => ?_); (on_goal 1 => subst x); (on_goal 2 => clear_value x))
    | extract_lets +onlyGivenNames x
    | ((with_reducible apply Only.foldl); on_goal 1 => intro x t ht)
    | split
    | ((with_reducible apply Only.step modRing_only); on_goal 1 => decide)
    | ((with_reducible apply Only.step ringWriteBack_only); on_goal 1 => decide)
    | ((with_reducible apply Only.step ringComplete_only); on_goal 1 => decide)
    | ((with_reducible apply Only.step logNow_only); on_goal 1 => decide)
    | ((with_reducible apply Only.step eicEdge_only); on_goal 1 => decide)
    | ((with_reducible apply Only.lit); intro p hp; cases p <;> first | exact absurd (by decide) hp | (have hq := (‹Only _ _ _›).same _ hp; exact hq) | exact rfl)

theorem linkDown_only {s : State} :
    Only [.eic, .log, .pci, .slk, .out] s (linkDown s) := by
  unfold linkDown
  repeat' first
    | with_reducible exact Only.refl
    | with_reducible assumption
    | (extract_lets +onlyGivenNames x; have ht := x.busRead; clear ht; refine Only.cut (x := x) ?_ (fun hx => ?_); (on_goal 1 => subst x); (on_goal 2 => clear_value x))
    | extract_lets +onlyGivenNames x
    | ((with_reducible apply Only.foldl); on_goal 1 => intro x t ht)
    | split
    | ((with_reducible apply Only.step modPci_only); on_goal 1 => decide)
    | ((with_reducible apply Only.step logNow_only); on_goal 1 => decide)
    | ((with_reducible apply Only.lit); intro p hp; cases p <;> first | exact absurd (by decide) hp | (have hq := (‹Only _ _ _›).same _ hp; exact hq) | exact rfl)

theorem ringItemOf_only {n : Nat} {it : WItem} {s : State} :
    Only [.pt, .eic, .log, .pci, .slk, .out] s (ringItemOf n it s) := by
  unfold ringItemOf
  repeat' first
    | with_reducible exact Only.refl
    | with_reducible assumption
    | (extract_lets +onlyGivenNames x; have ht := x.busRead; clear ht; refine Only.cut (x := x) ?_ (fun hx => ?_); (on_goal 1 => subst x); (on_goal 2 => clear_value x))
    | extract_lets +onlyGivenNames x
    | ((with_reducible apply Only.foldl); on_goal 1 => intro x t ht)
    | split
    | ((with_reducible apply Only.step modPci_only); on_goal 1 => decide)
    | ((with_reducible apply Only.step linkDown_only); on_goal 1 => decide)
    | ((with_reducible apply Only.step ringDrain_only); on_goal 1 => decide)
    | ((with_reducible apply Only.lit); intro p hp; cases p <;> first | exact absurd (by decide) hp | (have hq := (‹Only _ _ _›).same _ hp; exact hq) | exact rfl)

theorem ringItem_only {n : Nat} {data : List Byte} {s : State} :
    Only [.pt, .eic, .log, .pci, .slk, .out] s (ringItem n data s) := by
  unfold ringItem
  repeat' first
    | with_reducible exact Only.refl
    | with_reducible assumption
    | (extract_lets +onlyGivenNames x; have ht := x.busRead; clear ht; refine Only.cut (x := x) ?_ (fun hx => ?_); (on_goal 1 => subst x); (on_goal 2 => clear_value x))
    | extract_lets +onlyGivenNames x
    | ((with_reducible apply Only.foldl); on_goal 1 => intro x t ht)
    | split
    | ((with_reducible apply Only.step ringItemOf_only); on_goal 1 => decide)
    | ((with_reducible apply Only.lit); intro p hp; cases p <;> first | exact absurd (by decide) hp | (have hq := (‹Only _ _ _›).same _ hp; exact hq) | exact rfl)

theorem ringSend_only {n : Nat} {data : List Byte} {s : State} :
    Only [.pt, .eic, .log, .pci, .slk, .out] s (ringSend n data s) := by
  unfold ringSend
  repeat' first
    | with_reducible exact Only.refl
    | with_reducible assumption
    | (extract_lets +onlyGivenNames x; have ht := x.busRead; clear ht; refine Only.cut (x := x) ?_ (fun hx => ?_); (on_goal 1 => subst x); (on_goal 2 => clear_value x))
    | extract_lets +onlyGivenNames x
    | ((with_reducible apply Only.foldl); on_goal 1 => intro x t ht)
    | split
    | ((with_reducible apply Only.step ringItem_only); on_goal 1 => decide)
    | ((with_reducible apply Only.step modRing_only); on_goal 1 => decide)
    | ((with_reducible apply Only.lit); intro p hp; cases p <;> first | exact absurd (by decide) hp | (have hq := (‹Only _ _ _›).same _ hp; exact hq) | exact rfl)

theorem ringEmpty_only {n : Nat} {s : State} :
    Only [.pt, .pci] s (ringEmpty n s) := by
  unfold ringEmpty
  repeat' first
    | with_reducible exact Only.refl
    | with_reducible assumption
    | (extract_lets +onlyGivenNames x; have ht := x.busRead; clear ht; refine Only.cut (x := x) ?_ (fun hx => ?_); (on_goal 1 => subst x); (on_goal 2 => clear_value x))
    | extract_lets +onlyGivenNames x
    | ((with_reducible apply Only.foldl); on_goal 1 => intro x t ht)
    | split
    | ((with_reducible apply Only.step modPt_only); on_goal 1 => decide)
    | ((with_reducible apply Only.step unwritten_only); on_goal 1 => decide)
    | ((with_reducible apply Only.step modRing_only); on_goal 1 => decide)
    | ((with_reducible apply Only.lit); intro p hp; cases p <;> first | exact absurd (by decide) hp | (have hq := (‹Only _ _ _›).same _ hp; exact hq) | exact rfl)

theorem ringDisable_only {n : Nat} {s : State} :
    Only [.pt, .eic, .pci, .slk, .out] s (ringDisable n s) := by
  unfold ringDisable
  repeat' first
    | with_reducible exact Only.refl
    | with_reducible assumption
    | (extract_lets +onlyGivenNames x; have ht := x.busRead; clear ht; refine Only.cut (x := x) ?_ (fun hx => ?_); (on_goal 1 => subst x); (on_goal 2 => clear_value x))
    | extract_lets +onlyGivenNames x
    | ((with_reducible apply Only.foldl); on_goal 1 => intro x t ht)
    | split
    | ((with_reducible apply Only.step ringWriteBack_only); on_goal 1 => decide)
    | ((with_reducible apply Only.step ringComplete_only); on_goal 1 => decide)
    | ((with_reducible apply Only.step modPt_only); on_goal 1 => decide)
    | ((with_reducible apply Only.step modRing_only); on_goal 1 => decide)
    | ((with_reducible apply Only.step ringEmpty_only); on_goal 1 => decide)
    | ((with_reducible apply Only.lit); intro p hp; cases p <;> first | exact absurd (by decide) hp | (have hq := (‹Only _ _ _›).same _ hp; exact hq) | exact rfl)

theorem modRec_only {f : RecS → RecS} {s : State} :
    Only [.car] s (modRec f s) := by
  unfold modRec
  repeat' first
    | with_reducible exact Only.refl
    | with_reducible assumption
    | (extract_lets +onlyGivenNames x; have ht := x.busRead; clear ht; refine Only.cut (x := x) ?_ (fun hx => ?_); (on_goal 1 => subst x); (on_goal 2 => clear_value x))
    | extract_lets +onlyGivenNames x
    | ((with_reducible apply Only.foldl); on_goal 1 => intro x t ht)
    | split
    | ((with_reducible apply Only.lit); intro p hp; cases p <;> first | exact absurd (by decide) hp | (have hq := (‹Only _ _ _›).same _ hp; exact hq) | exact rfl)

theorem modSeg_only {n g : Nat} {f : Seg → Seg} {s : State} :
    Only [.car] s (modSeg n g f s) := by
  unfold modSeg
  repeat' first
    | with_reducible exact Only.refl
    | with_reducible assumption
    | (extract_lets +onlyGivenNames x; have ht := x.busRead; clear ht; refine Only.cut (x := x) ?_ (fun hx => ?_); (on_goal 1 => subst x); (on_goal 2 => clear_value x))
    | extract_lets +onlyGivenNames x
    | ((with_reducible apply Only.foldl); on_goal 1 => intro x t ht)
    | split
    | ((with_reducible apply Only.step modStr_only); on_goal 1 => decide)
    | ((with_reducible apply Only.lit); intro p hp; cases p <;> first | exact absurd (by decide) hp | (have hq := (‹Only _ _ _›).same _ hp; exact hq) | exact rfl)

theorem blockClose_only {n g : Nat} {s : State} :
    Only [.car] s (blockClose n g s) := by
  unfold blockClose
  repeat' first
    | with_reducible exact Only.refl
    | with_reducible assumption
    | (extract_lets +onlyGivenNames x; have ht := x.busRead; clear ht; refine Only.cut (x := x) ?_ (fun hx => ?_); (on_goal 1 => subst x); (on_goal 2 => clear_value x))
    | extract_lets +onlyGivenNames x
    | ((with_reducible apply Only.foldl); on_goal 1 => intro x t ht)
    | split
    | ((with_reducible apply Only.step modSeg_only); on_goal 1 => decide)
    | ((with_reducible apply Only.lit); intro p hp; cases p <;> first | exact absurd (by decide) hp | (have hq := (‹Only _ _ _›).same _ hp; exact hq) | exact rfl)

theorem blockFill_only {n g k a : Nat} {s : State} :
    Only [.car] s (blockFill n g k a s) := by
  induction k generalizing a s with
  | zero =>
    unfold blockFill
    repeat' first
      | with_reducible exact Only.refl
      | with_reducible assumption
      | (extract_lets +onlyGivenNames x; have ht := x.busRead; clear ht; refine Only.cut (x := x) ?_ (fun hx => ?_); (on_goal 1 => subst x); (on_goal 2 => clear_value x))
      | extract_lets +onlyGivenNames x
      | ((with_reducible apply Only.foldl); on_goal 1 => intro x t ht)
      | split
      | ((with_reducible apply Only.step modSeg_only); on_goal 1 => decide)
      | ((with_reducible apply Only.step blockClose_only); on_goal 1 => decide)
      | ((with_reducible apply Only.lit); intro p hp; cases p <;> first | exact absurd (by decide) hp | (have hq := (‹Only _ _ _›).same _ hp; exact hq) | exact rfl)
  | succ k ih =>
    unfold blockFill
    repeat' first
      | with_reducible exact Only.refl
      | with_reducible assumption
      | (extract_lets +onlyGivenNames x; have ht := x.busRead; clear ht; refine Only.cut (x := x) ?_ (fun hx => ?_); (on_goal 1 => subst x); (on_goal 2 => clear_value x))
      | extract_lets +onlyGivenNames x
      | ((with_reducible apply Only.foldl); on_goal 1 => intro x t ht)
      | split
      | ((with_reducible apply Only.step modSeg_only); on_goal 1 => decide)
      | ((with_reducible apply Only.step blockClose_only); on_goal 1 => decide)
      | ((with_reducible apply Only.step ih); on_goal 1 => decide)
      | ((with_reducible apply Only.lit); intro p hp; cases p <;> first | exact absurd (by decide) hp | (have hq := (‹Only _ _ _›).same _ hp; exact hq) | exact rfl)

theorem segWrite_only {n : Nat} {i : Item} {s : State} :
    Only [.car] s (segWrite n i s) := by
  unfold segWrite
  repeat' first
    | with_reducible exact Only.refl
    | with_reducible assumption
    | (extract_lets +onlyGivenNames x; have ht := x.busRead; clear ht; refine Only.cut (x := x) ?_ (fun hx => ?_); (on_goal 1 => subst x); (on_goal 2 => clear_value x))
    | extract_lets +onlyGivenNames x
    | ((with_reducible apply Only.foldl); on_goal 1 => intro x t ht)
    | split
    | ((with_reducible apply Only.step modSeg_only); on_goal 1 => decide)
    | ((with_reducible apply Only.step blockFill_only); on_goal 1 => decide)
    | ((with_reducible apply Only.step modStr_only); on_goal 1 => decide)
    | ((with_reducible apply Only.lit); intro p hp; cases p <;> first | exact absurd (by decide) hp | (have hq := (‹Only _ _ _›).same _ hp; exact hq) | exact rfl)

theorem sealSeg_only {n cause : Nat} {hard : Bool} {trigT : BitVec 64} {epoch : BitVec 16} {s : State} :
    Only [.car] s (sealSeg n cause hard trigT epoch s) := by
  unfold sealSeg
  repeat' first
    | with_reducible exact Only.refl
    | with_reducible assumption
    | (extract_lets +onlyGivenNames x; have ht := x.busRead; clear ht; refine Only.cut (x := x) ?_ (fun hx => ?_); (on_goal 1 => subst x); (on_goal 2 => clear_value x))
    | extract_lets +onlyGivenNames x
    | ((with_reducible apply Only.foldl); on_goal 1 => intro x t ht)
    | split
    | ((with_reducible apply Only.step blockClose_only); on_goal 1 => decide)
    | ((with_reducible apply Only.step modRec_only); on_goal 1 => decide)
    | ((with_reducible apply Only.step modSeg_only); on_goal 1 => decide)
    | ((with_reducible apply Only.lit); intro p hp; cases p <;> first | exact absurd (by decide) hp | (have hq := (‹Only _ _ _›).same _ hp; exact hq) | exact rfl)

theorem keyframe_only {n : Nat} {s : State} :
    Only [.car] s (keyframe n s) := by
  unfold keyframe
  repeat' first
    | with_reducible exact Only.refl
    | with_reducible assumption
    | (extract_lets +onlyGivenNames x; have ht := x.busRead; clear ht; refine Only.cut (x := x) ?_ (fun hx => ?_); (on_goal 1 => subst x); (on_goal 2 => clear_value x))
    | extract_lets +onlyGivenNames x
    | ((with_reducible apply Only.foldl); on_goal 1 => intro x t ht)
    | split
    | ((with_reducible apply Only.step recQueueItem_only); on_goal 1 => decide)
    | ((with_reducible apply Only.step modStr_only); on_goal 1 => decide)
    | ((with_reducible apply Only.step modRec_only); on_goal 1 => decide)
    | ((with_reducible apply Only.lit); intro p hp; cases p <;> first | exact absurd (by decide) hp | (have hq := (‹Only _ _ _›).same _ hp; exact hq) | exact rfl)

theorem armIn_only {n g : Nat} {s : State} :
    Only [.car, .free] s (armIn n g s) := by
  unfold armIn
  repeat' first
    | with_reducible exact Only.refl
    | with_reducible assumption
    | (extract_lets +onlyGivenNames x; have ht := x.busRead; clear ht; refine Only.cut (x := x) ?_ (fun hx => ?_); (on_goal 1 => subst x); (on_goal 2 => clear_value x))
    | extract_lets +onlyGivenNames x
    | ((with_reducible apply Only.foldl); on_goal 1 => intro x t ht)
    | split
    | ((with_reducible apply Only.step freeBits_only); on_goal 1 => decide)
    | (refine Only.of_snd (by assumption) ?_; (with_reducible apply Only.step freeBits_only); on_goal 1 => decide)
    | ((with_reducible apply Only.step modStr_only); on_goal 1 => decide)
    | ((with_reducible apply Only.step keyframe_only); on_goal 1 => decide)
    | ((with_reducible apply Only.lit); intro p hp; cases p <;> first | exact absurd (by decide) hp | (have hq := (‹Only _ _ _›).same _ hp; exact hq) | exact rfl)

theorem rearmFree_only {n : Nat} {s : State} :
    Only [.car, .free] s (rearmFree n s) := by
  unfold rearmFree
  repeat' first
    | with_reducible exact Only.refl
    | with_reducible assumption
    | (extract_lets +onlyGivenNames x; have ht := x.busRead; clear ht; refine Only.cut (x := x) ?_ (fun hx => ?_); (on_goal 1 => subst x); (on_goal 2 => clear_value x))
    | extract_lets +onlyGivenNames x
    | ((with_reducible apply Only.foldl); on_goal 1 => intro x t ht)
    | split
    | ((with_reducible apply Only.step armIn_only); on_goal 1 => decide)
    | ((with_reducible apply Only.step modStr_only); on_goal 1 => decide)
    | ((with_reducible apply Only.lit); intro p hp; cases p <;> first | exact absurd (by decide) hp | (have hq := (‹Only _ _ _›).same _ hp; exact hq) | exact rfl)

theorem rearm_only {n : Nat} {s : State} :
    Only [.car, .free] s (rearm n s) := by
  unfold rearm
  repeat' first
    | with_reducible exact Only.refl
    | with_reducible assumption
    | (extract_lets +onlyGivenNames x; have ht := x.busRead; clear ht; refine Only.cut (x := x) ?_ (fun hx => ?_); (on_goal 1 => subst x); (on_goal 2 => clear_value x))
    | extract_lets +onlyGivenNames x
    | ((with_reducible apply Only.foldl); on_goal 1 => intro x t ht)
    | split
    | ((with_reducible apply Only.step armIn_only); on_goal 1 => decide)
    | ((with_reducible apply Only.step rearmFree_only); on_goal 1 => decide)
    | ((with_reducible apply Only.lit); intro p hp; cases p <;> first | exact absurd (by decide) hp | (have hq := (‹Only _ _ _›).same _ hp; exact hq) | exact rfl)

theorem recReadWrite_only {v : Nat} {s : State} :
    Only [.car] s (recReadWrite v s) := by
  unfold recReadWrite
  repeat' first
    | with_reducible exact Only.refl
    | with_reducible assumption
    | (extract_lets +onlyGivenNames x; have ht := x.busRead; clear ht; refine Only.cut (x := x) ?_ (fun hx => ?_); (on_goal 1 => subst x); (on_goal 2 => clear_value x))
    | extract_lets +onlyGivenNames x
    | ((with_reducible apply Only.foldl); on_goal 1 => intro x t ht)
    | split
    | ((with_reducible apply Only.step modRec_only); on_goal 1 => decide)
    | ((with_reducible apply Only.lit); intro p hp; cases p <;> first | exact absurd (by decide) hp | (have hq := (‹Only _ _ _›).same _ hp; exact hq) | exact rfl)

theorem recReleaseWrite_only {v : Nat} {s : State} :
    Only [.car, .free] s (recReleaseWrite v s) := by
  unfold recReleaseWrite
  repeat' first
    | with_reducible exact Only.refl
    | with_reducible assumption
    | (extract_lets +onlyGivenNames x; have ht := x.busRead; clear ht; refine Only.cut (x := x) ?_ (fun hx => ?_); (on_goal 1 => subst x); (on_goal 2 => clear_value x))
    | extract_lets +onlyGivenNames x
    | ((with_reducible apply Only.foldl); on_goal 1 => intro x t ht)
    | split
    | ((with_reducible apply Only.step modSeg_only); on_goal 1 => decide)
    | ((with_reducible apply Only.step rearm_only); on_goal 1 => decide)
    | ((with_reducible apply Only.lit); intro p hp; cases p <;> first | exact absurd (by decide) hp | (have hq := (‹Only _ _ _›).same _ hp; exact hq) | exact rfl)

theorem recRearmWrite_only {v : Nat} {s : State} :
    Only [.car, .free] s (recRearmWrite v s) := by
  unfold recRearmWrite
  repeat' first
    | with_reducible exact Only.refl
    | with_reducible assumption
    | (extract_lets +onlyGivenNames x; have ht := x.busRead; clear ht; refine Only.cut (x := x) ?_ (fun hx => ?_); (on_goal 1 => subst x); (on_goal 2 => clear_value x))
    | extract_lets +onlyGivenNames x
    | ((with_reducible apply Only.foldl); on_goal 1 => intro x t ht)
    | split
    | ((with_reducible apply Only.step rearmFree_only); on_goal 1 => decide)
    | ((with_reducible apply Only.lit); intro p hp; cases p <;> first | exact absurd (by decide) hp | (have hq := (‹Only _ _ _›).same _ hp; exact hq) | exact rfl)

theorem recMissedClrWrite_only {v : Nat} {s : State} :
    Only [.car] s (recMissedClrWrite v s) := by
  unfold recMissedClrWrite
  repeat' first
    | with_reducible exact Only.refl
    | with_reducible assumption
    | (extract_lets +onlyGivenNames x; have ht := x.busRead; clear ht; refine Only.cut (x := x) ?_ (fun hx => ?_); (on_goal 1 => subst x); (on_goal 2 => clear_value x))
    | extract_lets +onlyGivenNames x
    | ((with_reducible apply Only.foldl); on_goal 1 => intro x t ht)
    | split
    | ((with_reducible apply Only.step modStr_only); on_goal 1 => decide)
    | ((with_reducible apply Only.lit); intro p hp; cases p <;> first | exact absurd (by decide) hp | (have hq := (‹Only _ _ _›).same _ hp; exact hq) | exact rfl)

theorem hardStop_only {t64 : BitVec 64} {s : State} :
    Only [.car] s (hardStop t64 s) := by
  unfold hardStop
  repeat' first
    | with_reducible exact Only.refl
    | with_reducible assumption
    | (extract_lets +onlyGivenNames x; have ht := x.busRead; clear ht; refine Only.cut (x := x) ?_ (fun hx => ?_); (on_goal 1 => subst x); (on_goal 2 => clear_value x))
    | extract_lets +onlyGivenNames x
    | ((with_reducible apply Only.foldl); on_goal 1 => intro x t ht)
    | split
    | ((with_reducible apply Only.step modStr_only); on_goal 1 => decide)
    | ((with_reducible apply Only.step sealSeg_only); on_goal 1 => decide)
    | ((with_reducible apply Only.lit); intro p hp; cases p <;> first | exact absurd (by decide) hp | (have hq := (‹Only _ _ _›).same _ hp; exact hq) | exact rfl)

theorem maskViolated_only {k inst q : Nat} {t64 : BitVec 64} {value : Int} {s : State} :
    Only [.car, .eic, .log, .pci, .slk, .out] s (maskViolated k inst q t64 value s) := by
  unfold maskViolated
  repeat' first
    | with_reducible exact Only.refl
    | with_reducible assumption
    | (extract_lets +onlyGivenNames x; have ht := x.busRead; clear ht; refine Only.cut (x := x) ?_ (fun hx => ?_); (on_goal 1 => subst x); (on_goal 2 => clear_value x))
    | extract_lets +onlyGivenNames x
    | ((with_reducible apply Only.foldl); on_goal 1 => intro x t ht)
    | split
    | ((with_reducible apply Only.step recItem_only); on_goal 1 => decide)
    | ((with_reducible apply Only.step modRec_only); on_goal 1 => decide)
    | ((with_reducible apply Only.step logNow_only); on_goal 1 => decide)
    | ((with_reducible apply Only.step recTrigger_only); on_goal 1 => decide)
    | ((with_reducible apply Only.step hardStop_only); on_goal 1 => decide)
    | ((with_reducible apply Only.lit); intro p hp; cases p <;> first | exact absurd (by decide) hp | (have hq := (‹Only _ _ _›).same _ hp; exact hq) | exact rfl)

theorem maskSample_only {k inst q : Nat} {out : Bool} {t64 : BitVec 64} {value : Int} {s : State} :
    Only [.car, .eic, .log, .pci, .slk, .out] s (maskSample k inst q out t64 value s) := by
  unfold maskSample
  repeat' first
    | with_reducible exact Only.refl
    | with_reducible assumption
    | (extract_lets +onlyGivenNames x; have ht := x.busRead; clear ht; refine Only.cut (x := x) ?_ (fun hx => ?_); (on_goal 1 => subst x); (on_goal 2 => clear_value x))
    | extract_lets +onlyGivenNames x
    | ((with_reducible apply Only.foldl); on_goal 1 => intro x t ht)
    | split
    | ((with_reducible apply Only.step modRec_only); on_goal 1 => decide)
    | ((with_reducible apply Only.step maskViolated_only); on_goal 1 => decide)
    | ((with_reducible apply Only.lit); intro p hp; cases p <;> first | exact absurd (by decide) hp | (have hq := (‹Only _ _ _›).same _ hp; exact hq) | exact rfl)

end Sys2Proof
end

