-- ==== Sys2Proof/Laws/Effects.lean ====
section
/-!
SUPPORT. What the shared operations do: the log's staging queue, SAFE causes, inhibits, rings and requests, stated once for
the proofs that cite them.
-/
namespace Sys2Proof.Machine

open Sys2Proof

/-! ## The error log -/

theorem eicEdge_log (n : Nat) (s : State) : (eicEdge n s).log = s.log := eicEdge_only.same .log (by decide)

theorem logEntry_staging {e : LogE} {s : State} (h : s.log.staging.length < 16) :
    (logEntry e s).log.staging = s.log.staging ++ [e] := by
  unfold logEntry
  extract_lets c l0 u
  have hu : u.log.staging = s.log.staging := by
    simp only [u]
    split
    · simp only [eicEdge_log, l0]
    · rfl
  rw [if_pos (by rw [hu]; exact h)]
  simp [hu]

/-- An entry logged now is the newest in a staging queue with room. -/
theorem logNow_staging {code src data : Nat} {s : State} (h : s.log.staging.length < 16) :
    (logNow code src data s).log.staging = s.log.staging ++
      [{ t := t64Now s, code := BitVec.ofNat 16 code, src := BitVec.ofNat 16 src, data := BitVec.ofNat 32 data }] :=
  logEntry_staging h

theorem logged_settle_logNow {code src data : Nat} {s : State} (h : s.log.staging.length < 16) :
    Logged s (settle (logNow code src data s)) code src data := by
  refine ⟨{ t := t64Now s, code := BitVec.ofNat 16 code, src := BitVec.ofNat 16 src, data := BitVec.ofNat 32 data },
    ?_, rfl, rfl, rfl⟩
  rw [settle_log, logNow_staging h, List.drop_left]
  exact List.mem_singleton_self _

/-! ## Device states, causes and inhibits -/

theorem recTrigger_dev (k : Nat) (t : BitVec 64) (s : State) : (recTrigger k t s).dev = s.dev :=
  recTrigger_only.same .dev (by decide)

theorem evalOutputs_dev (s : State) : (evalOutputs s).dev = s.dev := evalOutputs_only.same .dev (by decide)

theorem balls_dev (s : State) : (balls s).dev = s.dev := balls_only.same .dev (by decide)

theorem loopsFollow_dev (s : State) : (loopsFollow s).dev = s.dev := loopsFollow_only.same .dev (by decide)

theorem logNow_dev (c a b : Nat) (s : State) : (logNow c a b s).dev = s.dev := logNow_only.same .dev (by decide)

/-- Entry to a state ends in that state. -/
theorem setState_dev (new : DevState) (ep cmd : Nat) (s : State) : (setState new ep cmd s).dev = new := by
  unfold setState
  split
  · assumption
  · extract_lets old u v r w
    have hv : v.dev = new := by simp only [v, u, balls_dev, evalOutputs_dev, loopsFollow_dev, logNow_dev]
    have hw : w.dev = v.dev := by subst w; with_reducible rfl
    clear_value w
    split
    · rw [recTrigger_dev, hw]; exact hv
    · rw [hw]; exact hv

/-- A cause for SAFE takes a device in RUN to SAFE (R20). -/
theorem safeCause_dev_run {c : SafeCause} {s : State} (h : s.dev = .run) : (safeCause c s).dev = .safe := by
  unfold safeCause
  extract_lets u
  rw [if_pos (by simp only [u, modSaf_dev]; exact h), setState_dev]

theorem safeCause_dev_safe {c : SafeCause} {s : State} (h : s.dev = .safe) : (safeCause c s).dev = .safe := by
  unfold safeCause
  extract_lets u
  rw [if_neg (by simp only [u, modSaf_dev, h]; decide)]
  exact h

/-- Outside RUN a cause leaves the state (R20). -/
theorem safeCause_dev_other {c : SafeCause} {s : State} (h : s.dev ≠ .run) : (safeCause c s).dev = s.dev := by
  unfold safeCause
  extract_lets u
  rw [if_neg (by simp only [u, modSaf_dev]; exact h)]
  rfl

/-- A change of state leaves the inhibits (R19). -/
theorem setState_inhibits (new : DevState) (ep cmd : Nat) (s : State) :
    (setState new ep cmd s).rm.inhibits = s.rm.inhibits := by
  unfold setState
  split
  · rfl
  · extract_lets old u v r w
    have hu : u.rm = s.rm := logNow_only.same .rm (by decide)
    have hv : v.rm = u.rm := (balls_only.same .rm (by decide)).trans
      ((evalOutputs_only.same .rm (by decide)).trans (loopsFollow_only.same .rm (by decide)))
    have hw : w.rm.inhibits = v.rm.inhibits := by subst w; with_reducible rfl
    clear_value w
    split
    · rw [show (recTrigger 1 (t64Now w) w).rm = w.rm from recTrigger_only.same .rm (by decide), hw, hv, hu]
    · rw [hw, hv, hu]

/-- A cause for SAFE leaves the inhibits. -/
theorem safeCause_inhibits (c : SafeCause) (s : State) : (safeCause c s).rm.inhibits = s.rm.inhibits := by
  unfold safeCause
  extract_lets u
  split
  · rw [setState_inhibits]; rfl
  · rfl

theorem logNow_rm (c a b : Nat) (s : State) : (logNow c a b s).rm = s.rm := logNow_only.same .rm (by decide)

theorem logNow_fld (c a b : Nat) (s : State) : (logNow c a b s).fld = s.fld := logNow_only.same .fld (by decide)

theorem inhibit_mem (w : Inhibit) (s : State) : w ∈ (inhibit w s).rm.inhibits := by
  simp only [inhibit, modRm_rm]
  split
  · next h => simpa using h
  · simp

theorem uninhibit_mem (w : Inhibit) (s : State) : w ∉ (uninhibit w s).rm.inhibits := by
  simp [uninhibit]

end Sys2Proof.Machine
end

