-- ==== Sys2Proof/Laws/Memory.lean ====
section
/-!
SUPPORT. The mailbox window: every operation keeps the canonical form, a read after a write gives what was written, and
a write leaves every other byte alone.
-/
namespace Sys2Proof.Machine

theorem wfFrom_mono {m : Memory} {a b : Nat} (h : a ≤ b) (w : Memory.wfFrom b m = true) : Memory.wfFrom a m = true := by
  cases m with
  | nil => rfl
  | cons x r =>
    obtain ⟨k, v⟩ := x
    simp only [Memory.wfFrom, Bool.and_eq_true, decide_eq_true_eq] at w ⊢
    exact ⟨⟨by omega, w.1.2⟩, w.2⟩

theorem wfFrom_write {m : Memory} {lo k : Nat} {v : Byte} (hk : lo ≤ k) (w : Memory.wfFrom lo m = true) :
    Memory.wfFrom lo (Memory.write m k v) = true := by
  induction m generalizing lo with
  | nil =>
    simp only [Memory.write]
    split
    · rfl
    · next h =>
      simp only [Memory.wfFrom, Bool.and_eq_true, decide_eq_true_eq, and_true]
      exact ⟨hk, bne_iff_ne.2 h⟩
  | cons x r ih =>
    obtain ⟨a, y⟩ := x
    simp only [Memory.wfFrom, Bool.and_eq_true, decide_eq_true_eq] at w
    obtain ⟨⟨w1, w2⟩, w3⟩ := w
    simp only [Memory.write]
    split
    · next e =>
      subst e
      split
      · exact wfFrom_mono (by omega) w3
      · next h =>
        simp only [Memory.wfFrom, Bool.and_eq_true, decide_eq_true_eq]
        exact ⟨⟨w1, bne_iff_ne.2 h⟩, w3⟩
    · split
      · split
        · simp only [Memory.wfFrom, Bool.and_eq_true, decide_eq_true_eq]
          exact ⟨⟨w1, w2⟩, w3⟩
        · next h1 h2 h3 =>
          simp only [Memory.wfFrom, Bool.and_eq_true, decide_eq_true_eq]
          exact ⟨⟨hk, bne_iff_ne.2 h3⟩, ⟨by omega, w2⟩, w3⟩
      · simp only [Memory.wfFrom, Bool.and_eq_true, decide_eq_true_eq]
        exact ⟨⟨w1, w2⟩, ih (by omega) w3⟩

theorem Memory.wf_write {m : Memory} {k : Nat} {v : Byte} (w : m.wf = true) : (m.write k v).wf = true :=
  wfFrom_write (Nat.zero_le k) w

theorem Memory.wf_writeBytes {m : Memory} {a : Nat} {l : List Byte} (w : m.wf = true) : (m.writeBytes a l).wf = true := by
  induction l generalizing m a with
  | nil => exact w
  | cons b r ih => exact ih (Memory.wf_write w)

theorem read_below {m : Memory} {lo k : Nat} (h : k < lo) (w : Memory.wfFrom lo m = true) : m.read k = Memory.blank := by
  cases m with
  | nil => rfl
  | cons x r =>
    obtain ⟨a, y⟩ := x
    simp only [Memory.wfFrom, Bool.and_eq_true, decide_eq_true_eq] at w
    simp [Memory.read, show a ≠ k by omega, show k < a by omega]

theorem read_write {m : Memory} {lo k : Nat} {v : Byte} (w : Memory.wfFrom lo m = true) : (m.write k v).read k = v := by
  induction m generalizing lo with
  | nil =>
    simp only [Memory.write]
    split
    · next h => simp [Memory.read, h]
    · simp [Memory.read]
  | cons x r ih =>
    obtain ⟨a, y⟩ := x
    simp only [Memory.wfFrom, Bool.and_eq_true, decide_eq_true_eq] at w
    simp only [Memory.write]
    split
    · next e =>
      subst e
      split
      · next h => rw [read_below (Nat.lt_succ_self _) w.2, h]
      · simp [Memory.read]
    · split
      · next h1 h2 =>
        split
        · next h => simp [Memory.read, h1, h2, h]
        · simp [Memory.read]
      · next h1 h2 => simpa [Memory.read, h1, h2] using ih w.2

/-- A byte just written reads as written. -/
theorem Memory.read_write_self {m : Memory} {k : Nat} {v : Byte} (w : m.wf = true) : (m.write k v).read k = v :=
  read_write w

theorem read_write_other {m : Memory} {lo k i : Nat} {v : Byte} (h : i ≠ k) (w : Memory.wfFrom lo m = true) :
    (m.write k v).read i = m.read i := by
  induction m generalizing lo with
  | nil =>
    simp only [Memory.write]
    split
    · rfl
    · simp [Memory.read]; omega
  | cons x r ih =>
    obtain ⟨a, y⟩ := x
    simp only [Memory.wfFrom, Bool.and_eq_true, decide_eq_true_eq] at w
    simp only [Memory.write]
    split
    · next e =>
      subst e
      split
      · simp only [Memory.read, if_neg (Ne.symm h)]
        split
        · exact read_below (by omega) w.2
        · rfl
      · simp [Memory.read, Ne.symm h]
    · split
      · split
        · rfl
        · next h1 h2 h3 =>
          simp only [Memory.read, if_neg (Ne.symm h)]
          split
          · simp [show a ≠ i by omega, show i < a by omega]
          · rfl
      · simp only [Memory.read]
        split
        · rfl
        · split
          · rfl
          · exact ih w.2

/-- Every other byte reads as before. -/
theorem Memory.read_write_ne {m : Memory} {k i : Nat} {v : Byte} (h : i ≠ k) (w : m.wf = true) :
    (m.write k v).read i = m.read i := read_write_other h w

theorem Memory.read_writeBytes_ne {m : Memory} {a i : Nat} {l : List Byte} (h : i < a ∨ a + l.length ≤ i)
    (w : m.wf = true) : (m.writeBytes a l).read i = m.read i := by
  induction l generalizing m a with
  | nil => rfl
  | cons b r ih =>
    simp only [List.length_cons] at h
    simp only [Memory.writeBytes]
    rw [ih (by omega) (Memory.wf_write w), Memory.read_write_ne (by omega) w]

end Sys2Proof.Machine
end

