-- ==== Sys2Proof/Laws/OnlyField.lean ====
section
/-!
SUPPORT. Frames: what the operations of the field side, the converters, the safety inputs, the timebase and the mirror change.
-/
namespace Sys2Proof

open Sys2Proof.Machine

set_option linter.unusedTactic false
set_option linter.unreachableTactic false
set_option linter.tactic.unusedName false

theorem modChan_only {c : Nat} {f : ChanS → ChanS} {s : State} :
    Only [.chan] s (modChan c f s) := by
  unfold modChan
  repeat' first
    | with_reducible exact Only.refl
    | with_reducible assumption
    | (extract_lets +onlyGivenNames x; have ht := x.busRead; clear ht; refine Only.cut (x := x) ?_ (fun hx => ?_); (on_goal 1 => subst x); (on_goal 2 => clear_value x))
    | extract_lets +onlyGivenNames x
    | ((with_reducible apply Only.foldl); on_goal 1 => intro x t ht)
    | split
    | ((with_reducible apply Only.lit); intro p hp; cases p <;> first | exact absurd (by decide) hp | (have hq := (‹Only _ _ _›).same _ hp; exact hq) | exact rfl)

theorem modLce_only {f : LceS → LceS} {s : State} :
    Only [.lce] s (modLce f s) := by
  unfold modLce
  repeat' first
    | with_reducible exact Only.refl
    | with_reducible assumption
    | (extract_lets +onlyGivenNames x; have ht := x.busRead; clear ht; refine Only.cut (x := x) ?_ (fun hx => ?_); (on_goal 1 => subst x); (on_goal 2 => clear_value x))
    | extract_lets +onlyGivenNames x
    | ((with_reducible apply Only.foldl); on_goal 1 => intro x t ht)
    | split
    | ((with_reducible apply Only.lit); intro p hp; cases p <;> first | exact absurd (by decide) hp | (have hq := (‹Only _ _ _›).same _ hp; exact hq) | exact rfl)

theorem modEe_only {f : EeS → EeS} {s : State} :
    Only [.ee] s (modEe f s) := by
  unfold modEe
  repeat' first
    | with_reducible exact Only.refl
    | with_reducible assumption
    | (extract_lets +onlyGivenNames x; have ht := x.busRead; clear ht; refine Only.cut (x := x) ?_ (fun hx => ?_); (on_goal 1 => subst x); (on_goal 2 => clear_value x))
    | extract_lets +onlyGivenNames x
    | ((with_reducible apply Only.foldl); on_goal 1 => intro x t ht)
    | split
    | ((with_reducible apply Only.lit); intro p hp; cases p <;> first | exact absurd (by decide) hp | (have hq := (‹Only _ _ _›).same _ hp; exact hq) | exact rfl)

theorem modRj_only {f : RjS → RjS} {s : State} :
    Only [.rj] s (modRj f s) := by
  unfold modRj
  repeat' first
    | with_reducible exact Only.refl
    | with_reducible assumption
    | (extract_lets +onlyGivenNames x; have ht := x.busRead; clear ht; refine Only.cut (x := x) ?_ (fun hx => ?_); (on_goal 1 => subst x); (on_goal 2 => clear_value x))
    | extract_lets +onlyGivenNames x
    | ((with_reducible apply Only.foldl); on_goal 1 => intro x t ht)
    | split
    | ((with_reducible apply Only.lit); intro p hp; cases p <;> first | exact absurd (by decide) hp | (have hq := (‹Only _ _ _›).same _ hp; exact hq) | exact rfl)

theorem modTs_only {f : TsS → TsS} {s : State} :
    Only [.ts] s (modTs f s) := by
  unfold modTs
  repeat' first
    | with_reducible exact Only.refl
    | with_reducible assumption
    | (extract_lets +onlyGivenNames x; have ht := x.busRead; clear ht; refine Only.cut (x := x) ?_ (fun hx => ?_); (on_goal 1 => subst x); (on_goal 2 => clear_value x))
    | extract_lets +onlyGivenNames x
    | ((with_reducible apply Only.foldl); on_goal 1 => intro x t ht)
    | split
    | ((with_reducible apply Only.lit); intro p hp; cases p <;> first | exact absurd (by decide) hp | (have hq := (‹Only _ _ _›).same _ hp; exact hq) | exact rfl)

theorem modAdc_only {f : AdcS → AdcS} {s : State} :
    Only [.adc] s (modAdc f s) := by
  unfold modAdc
  repeat' first
    | with_reducible exact Only.refl
    | with_reducible assumption
    | (extract_lets +onlyGivenNames x; have ht := x.busRead; clear ht; refine Only.cut (x := x) ?_ (fun hx => ?_); (on_goal 1 => subst x); (on_goal 2 => clear_value x))
    | extract_lets +onlyGivenNames x
    | ((with_reducible apply Only.foldl); on_goal 1 => intro x t ht)
    | split
    | ((with_reducible apply Only.lit); intro p hp; cases p <;> first | exact absurd (by decide) hp | (have hq := (‹Only _ _ _›).same _ hp; exact hq) | exact rfl)

theorem eyeSlots_only {s : State} :
    Only [.rm] s (eyeSlots s) := by
  unfold eyeSlots
  repeat' first
    | with_reducible exact Only.refl
    | with_reducible assumption
    | (extract_lets +onlyGivenNames x; have ht := x.busRead; clear ht; refine Only.cut (x := x) ?_ (fun hx => ?_); (on_goal 1 => subst x); (on_goal 2 => clear_value x))
    | extract_lets +onlyGivenNames x
    | ((with_reducible apply Only.foldl); on_goal 1 => intro x t ht)
    | split
    | ((with_reducible apply Only.step modRm_only); on_goal 1 => decide)
    | ((with_reducible apply Only.lit); intro p hp; cases p <;> first | exact absurd (by decide) hp | (have hq := (‹Only _ _ _›).same _ hp; exact hq) | exact rfl)

theorem marginsTake_only {s : State} :
    Only [.rm] s (marginsTake s) := by
  unfold marginsTake
  repeat' first
    | with_reducible exact Only.refl
    | with_reducible assumption
    | (extract_lets +onlyGivenNames x; have ht := x.busRead; clear ht; refine Only.cut (x := x) ?_ (fun hx => ?_); (on_goal 1 => subst x); (on_goal 2 => clear_value x))
    | extract_lets +onlyGivenNames x
    | ((with_reducible apply Only.foldl); on_goal 1 => intro x t ht)
    | split
    | ((with_reducible apply Only.step modRm_only); on_goal 1 => decide)
    | ((with_reducible apply Only.lit); intro p hp; cases p <;> first | exact absurd (by decide) hp | (have hq := (‹Only _ _ _›).same _ hp; exact hq) | exact rfl)

theorem eyeCharge_only {e : Nat} {bins : List Nat} {pj : Nat} {s : State} :
    Only [.rm] s (eyeCharge e bins pj s) := by
  unfold eyeCharge
  repeat' first
    | with_reducible exact Only.refl
    | with_reducible assumption
    | (extract_lets +onlyGivenNames x; have ht := x.busRead; clear ht; refine Only.cut (x := x) ?_ (fun hx => ?_); (on_goal 1 => subst x); (on_goal 2 => clear_value x))
    | extract_lets +onlyGivenNames x
    | ((with_reducible apply Only.foldl); on_goal 1 => intro x t ht)
    | split
    | ((with_reducible apply Only.step modRm_only); on_goal 1 => decide)
    | ((with_reducible apply Only.lit); intro p hp; cases p <;> first | exact absurd (by decide) hp | (have hq := (‹Only _ _ _›).same _ hp; exact hq) | exact rfl)

theorem eyeGrid_only {s : State} :
    Only [.rm] s (eyeGrid s) := by
  unfold eyeGrid
  repeat' first
    | with_reducible exact Only.refl
    | with_reducible assumption
    | (extract_lets +onlyGivenNames x; have ht := x.busRead; clear ht; refine Only.cut (x := x) ?_ (fun hx => ?_); (on_goal 1 => subst x); (on_goal 2 => clear_value x))
    | extract_lets +onlyGivenNames x
    | ((with_reducible apply Only.foldl); on_goal 1 => intro x t ht)
    | split
    | ((with_reducible apply Only.step modRm_only); on_goal 1 => decide)
    | ((with_reducible apply Only.step marginsTake_only); on_goal 1 => decide)
    | ((with_reducible apply Only.lit); intro p hp; cases p <;> first | exact absurd (by decide) hp | (have hq := (‹Only _ _ _›).same _ hp; exact hq) | exact rfl)

theorem addResult_only {r : ResE} {s : State} :
    Only [.pt] s (addResult r s) := by
  unfold addResult
  repeat' first
    | with_reducible exact Only.refl
    | with_reducible assumption
    | (extract_lets +onlyGivenNames x; have ht := x.busRead; clear ht; refine Only.cut (x := x) ?_ (fun hx => ?_); (on_goal 1 => subst x); (on_goal 2 => clear_value x))
    | extract_lets +onlyGivenNames x
    | ((with_reducible apply Only.foldl); on_goal 1 => intro x t ht)
    | split
    | ((with_reducible apply Only.step modPt_only); on_goal 1 => decide)
    | ((with_reducible apply Only.lit); intro p hp; cases p <;> first | exact absurd (by decide) hp | (have hq := (‹Only _ _ _›).same _ hp; exact hq) | exact rfl)

theorem missRecords_only {sh : Shot} {cause tofs : Nat} {az : Int} {s : State} :
    Only [.pt] s (missRecords sh cause tofs az s) := by
  unfold missRecords
  repeat' first
    | with_reducible exact Only.refl
    | with_reducible assumption
    | (extract_lets +onlyGivenNames x; have ht := x.busRead; clear ht; refine Only.cut (x := x) ?_ (fun hx => ?_); (on_goal 1 => subst x); (on_goal 2 => clear_value x))
    | extract_lets +onlyGivenNames x
    | ((with_reducible apply Only.foldl); on_goal 1 => intro x t ht)
    | split
    | ((with_reducible apply Only.step modPt_only); on_goal 1 => decide)
    | ((with_reducible apply Only.step addResult_only); on_goal 1 => decide)
    | ((with_reducible apply Only.lit); intro p hp; cases p <;> first | exact absurd (by decide) hp | (have hq := (‹Only _ _ _›).same _ hp; exact hq) | exact rfl)

theorem releaseMiss_only {f : Nat × Nat × ResE → Bool} {s : State} :
    Only [.pt] s (releaseMiss f s) := by
  unfold releaseMiss
  repeat' first
    | with_reducible exact Only.refl
    | with_reducible assumption
    | (extract_lets +onlyGivenNames x; have ht := x.busRead; clear ht; refine Only.cut (x := x) ?_ (fun hx => ?_); (on_goal 1 => subst x); (on_goal 2 => clear_value x))
    | extract_lets +onlyGivenNames x
    | ((with_reducible apply Only.foldl); on_goal 1 => intro x t ht)
    | split
    | ((with_reducible apply Only.step addResult_only); on_goal 1 => decide)
    | ((with_reducible apply Only.step modPt_only); on_goal 1 => decide)
    | ((with_reducible apply Only.lit); intro p hp; cases p <;> first | exact absurd (by decide) hp | (have hq := (‹Only _ _ _›).same _ hp; exact hq) | exact rfl)

theorem skipShot_only {sh : Shot} {cause : Nat} {s : State} :
    Only [.rm, .pt] s (skipShot sh cause s) := by
  unfold skipShot
  repeat' first
    | with_reducible exact Only.refl
    | with_reducible assumption
    | (extract_lets +onlyGivenNames x; have ht := x.busRead; clear ht; refine Only.cut (x := x) ?_ (fun hx => ?_); (on_goal 1 => subst x); (on_goal 2 => clear_value x))
    | extract_lets +onlyGivenNames x
    | ((with_reducible apply Only.foldl); on_goal 1 => intro x t ht)
    | split
    | ((with_reducible apply Only.step modRm_only); on_goal 1 => decide)
    | ((with_reducible apply Only.step missRecords_only); on_goal 1 => decide)
    | ((with_reducible apply Only.lit); intro p hp; cases p <;> first | exact absurd (by decide) hp | (have hq := (‹Only _ _ _›).same _ hp; exact hq) | exact rfl)

theorem markGated_only {sh : Shot} {s : State} :
    Only [.rm] s (markGated sh s) := by
  unfold markGated
  repeat' first
    | with_reducible exact Only.refl
    | with_reducible assumption
    | (extract_lets +onlyGivenNames x; have ht := x.busRead; clear ht; refine Only.cut (x := x) ?_ (fun hx => ?_); (on_goal 1 => subst x); (on_goal 2 => clear_value x))
    | extract_lets +onlyGivenNames x
    | ((with_reducible apply Only.foldl); on_goal 1 => intro x t ht)
    | split
    | ((with_reducible apply Only.step modRm_only); on_goal 1 => decide)
    | ((with_reducible apply Only.lit); intro p hp; cases p <;> first | exact absurd (by decide) hp | (have hq := (‹Only _ _ _›).same _ hp; exact hq) | exact rfl)

theorem markSkip_only {sh : Shot} {cause : Nat} {s : State} :
    Only [.rm] s (markSkip sh cause s) := by
  unfold markSkip
  repeat' first
    | with_reducible exact Only.refl
    | with_reducible assumption
    | (extract_lets +onlyGivenNames x; have ht := x.busRead; clear ht; refine Only.cut (x := x) ?_ (fun hx => ?_); (on_goal 1 => subst x); (on_goal 2 => clear_value x))
    | extract_lets +onlyGivenNames x
    | ((with_reducible apply Only.foldl); on_goal 1 => intro x t ht)
    | split
    | ((with_reducible apply Only.step modRm_only); on_goal 1 => decide)
    | ((with_reducible apply Only.lit); intro p hp; cases p <;> first | exact absurd (by decide) hp | (have hq := (‹Only _ _ _›).same _ hp; exact hq) | exact rfl)

theorem cancelShots_only {cause : Nat} {s : State} :
    Only [.rm, .fld, .pt] s (cancelShots cause s) := by
  unfold cancelShots
  repeat' first
    | with_reducible exact Only.refl
    | with_reducible assumption
    | (extract_lets +onlyGivenNames x; have ht := x.busRead; clear ht; refine Only.cut (x := x) ?_ (fun hx => ?_); (on_goal 1 => subst x); (on_goal 2 => clear_value x))
    | extract_lets +onlyGivenNames x
    | ((with_reducible apply Only.foldl); on_goal 1 => intro x t ht)
    | split
    | ((with_reducible apply Only.step skipShot_only); on_goal 1 => decide)
    | ((with_reducible apply Only.step markSkip_only); on_goal 1 => decide)
    | ((with_reducible apply Only.step modRm_only); on_goal 1 => decide)
    | ((with_reducible apply Only.step modFld_only); on_goal 1 => decide)
    | ((with_reducible apply Only.lit); intro p hp; cases p <;> first | exact absurd (by decide) hp | (have hq := (‹Only _ _ _›).same _ hp; exact hq) | exact rfl)

theorem canFrame_only {d : List Byte} {s : State} :
    Only [.xi, .out] s (canFrame d s) := by
  unfold canFrame
  repeat' first
    | with_reducible exact Only.refl
    | with_reducible assumption
    | (extract_lets +onlyGivenNames x; have ht := x.busRead; clear ht; refine Only.cut (x := x) ?_ (fun hx => ?_); (on_goal 1 => subst x); (on_goal 2 => clear_value x))
    | extract_lets +onlyGivenNames x
    | ((with_reducible apply Only.foldl); on_goal 1 => intro x t ht)
    | split
    | ((with_reducible apply Only.step canQueue_only); on_goal 1 => decide)
    | ((with_reducible apply Only.lit); intro p hp; cases p <;> first | exact absurd (by decide) hp | (have hq := (‹Only _ _ _›).same _ hp; exact hq) | exact rfl)

theorem canTx_only {k : Nat} {s : State} :
    Only [.xi, .out] s (canTx k s) := by
  induction k generalizing s with
  | zero =>
    unfold canTx
    repeat' first
      | with_reducible exact Only.refl
      | with_reducible assumption
      | (extract_lets +onlyGivenNames x; have ht := x.busRead; clear ht; refine Only.cut (x := x) ?_ (fun hx => ?_); (on_goal 1 => subst x); (on_goal 2 => clear_value x))
      | extract_lets +onlyGivenNames x
      | ((with_reducible apply Only.foldl); on_goal 1 => intro x t ht)
      | split
      | ((with_reducible apply Only.step modSess_only); on_goal 1 => decide)
      | ((with_reducible apply Only.step canFrame_only); on_goal 1 => decide)
      | ((with_reducible apply Only.lit); intro p hp; cases p <;> first | exact absurd (by decide) hp | (have hq := (‹Only _ _ _›).same _ hp; exact hq) | exact rfl)
  | succ k ih =>
    unfold canTx
    repeat' first
      | with_reducible exact Only.refl
      | with_reducible assumption
      | (extract_lets +onlyGivenNames x; have ht := x.busRead; clear ht; refine Only.cut (x := x) ?_ (fun hx => ?_); (on_goal 1 => subst x); (on_goal 2 => clear_value x))
      | extract_lets +onlyGivenNames x
      | ((with_reducible apply Only.foldl); on_goal 1 => intro x t ht)
      | split
      | ((with_reducible apply Only.step modSess_only); on_goal 1 => decide)
      | ((with_reducible apply Only.step canFrame_only); on_goal 1 => decide)
      | ((with_reducible apply Only.step ih); on_goal 1 => decide)
      | ((with_reducible apply Only.lit); intro p hp; cases p <;> first | exact absurd (by decide) hp | (have hq := (‹Only _ _ _›).same _ hp; exact hq) | exact rfl)

theorem canRespond_only {m : List Byte} {s : State} :
    Only [.xi, .out] s (canRespond m s) := by
  unfold canRespond
  repeat' first
    | with_reducible exact Only.refl
    | with_reducible assumption
    | (extract_lets +onlyGivenNames x; have ht := x.busRead; clear ht; refine Only.cut (x := x) ?_ (fun hx => ?_); (on_goal 1 => subst x); (on_goal 2 => clear_value x))
    | extract_lets +onlyGivenNames x
    | ((with_reducible apply Only.foldl); on_goal 1 => intro x t ht)
    | split
    | ((with_reducible apply Only.step canFrame_only); on_goal 1 => decide)
    | ((with_reducible apply Only.step canTx_only); on_goal 1 => decide)
    | ((with_reducible apply Only.step modSess_only); on_goal 1 => decide)
    | ((with_reducible apply Only.lit); intro p hp; cases p <;> first | exact absurd (by decide) hp | (have hq := (‹Only _ _ _›).same _ hp; exact hq) | exact rfl)

theorem mbxPlace_only {first : Bool} {s : State} :
    Only [.eic, .pci, .xi, .slk, .out] s (mbxPlace first s) := by
  unfold mbxPlace
  repeat' first
    | with_reducible exact Only.refl
    | with_reducible assumption
    | (extract_lets +onlyGivenNames x; have ht := x.busRead; clear ht; refine Only.cut (x := x) ?_ (fun hx => ?_); (on_goal 1 => subst x); (on_goal 2 => clear_value x))
    | extract_lets +onlyGivenNames x
    | ((with_reducible apply Only.foldl); on_goal 1 => intro x t ht)
    | split
    | ((with_reducible apply Only.step eicEdge_only); on_goal 1 => decide)
    | ((with_reducible apply Only.step modXi_only); on_goal 1 => decide)
    | ((with_reducible apply Only.lit); intro p hp; cases p <;> first | exact absurd (by decide) hp | (have hq := (‹Only _ _ _›).same _ hp; exact hq) | exact rfl)

theorem mbxRespond_only {m : List Byte} {s : State} :
    Only [.eic, .pci, .xi, .slk, .out] s (mbxRespond m s) := by
  unfold mbxRespond
  repeat' first
    | with_reducible exact Only.refl
    | with_reducible assumption
    | (extract_lets +onlyGivenNames x; have ht := x.busRead; clear ht; refine Only.cut (x := x) ?_ (fun hx => ?_); (on_goal 1 => subst x); (on_goal 2 => clear_value x))
    | extract_lets +onlyGivenNames x
    | ((with_reducible apply Only.foldl); on_goal 1 => intro x t ht)
    | split
    | ((with_reducible apply Only.step mbxPlace_only); on_goal 1 => decide)
    | ((with_reducible apply Only.step modXi_only); on_goal 1 => decide)
    | ((with_reducible apply Only.lit); intro p hp; cases p <;> first | exact absurd (by decide) hp | (have hq := (‹Only _ _ _›).same _ hp; exact hq) | exact rfl)

theorem slkRespond_only {n k : Nat} {f : Bool} {m : List Byte} {s : State} :
    Only [.slk, .out] s (slkRespond n k f m s) := by
  induction k generalizing f m s with
  | zero =>
    unfold slkRespond
    repeat' first
      | with_reducible exact Only.refl
      | with_reducible assumption
      | (extract_lets +onlyGivenNames x; have ht := x.busRead; clear ht; refine Only.cut (x := x) ?_ (fun hx => ?_); (on_goal 1 => subst x); (on_goal 2 => clear_value x))
      | extract_lets +onlyGivenNames x
      | ((with_reducible apply Only.foldl); on_goal 1 => intro x t ht)
      | split
      | ((with_reducible apply Only.step slkQueue_only); on_goal 1 => decide)
      | ((with_reducible apply Only.lit); intro p hp; cases p <;> first | exact absurd (by decide) hp | (have hq := (‹Only _ _ _›).same _ hp; exact hq) | exact rfl)
  | succ k ih =>
    unfold slkRespond
    repeat' first
      | with_reducible exact Only.refl
      | with_reducible assumption
      | (extract_lets +onlyGivenNames x; have ht := x.busRead; clear ht; refine Only.cut (x := x) ?_ (fun hx => ?_); (on_goal 1 => subst x); (on_goal 2 => clear_value x))
      | extract_lets +onlyGivenNames x
      | ((with_reducible apply Only.foldl); on_goal 1 => intro x t ht)
      | split
      | ((with_reducible apply Only.step slkQueue_only); on_goal 1 => decide)
      | ((with_reducible apply Only.step ih); on_goal 1 => decide)
      | ((with_reducible apply Only.lit); intro p hp; cases p <;> first | exact absurd (by decide) hp | (have hq := (‹Only _ _ _›).same _ hp; exact hq) | exact rfl)

theorem respond_only {ep : Nat} {m : List Byte} {s : State} :
    Only [.eic, .pci, .xi, .slk, .out] s (respond ep m s) := by
  unfold respond
  repeat' first
    | with_reducible exact Only.refl
    | with_reducible assumption
    | (extract_lets +onlyGivenNames x; have ht := x.busRead; clear ht; refine Only.cut (x := x) ?_ (fun hx => ?_); (on_goal 1 => subst x); (on_goal 2 => clear_value x))
    | extract_lets +onlyGivenNames x
    | ((with_reducible apply Only.foldl); on_goal 1 => intro x t ht)
    | split
    | ((with_reducible apply Only.step emit_only); on_goal 1 => decide)
    | ((with_reducible apply Only.step canRespond_only); on_goal 1 => decide)
    | ((with_reducible apply Only.step mbxRespond_only); on_goal 1 => decide)
    | ((with_reducible apply Only.step slkRespond_only); on_goal 1 => decide)
    | ((with_reducible apply Only.lit); intro p hp; cases p <;> first | exact absurd (by decide) hp | (have hq := (‹Only _ _ _›).same _ hp; exact hq) | exact rfl)

theorem owe_only {k ep : Nat} {m : List Byte} {s : State} :
    Only [.xi] s (owe k ep m s) := by
  unfold owe
  repeat' first
    | with_reducible exact Only.refl
    | with_reducible assumption
    | (extract_lets +onlyGivenNames x; have ht := x.busRead; clear ht; refine Only.cut (x := x) ?_ (fun hx => ?_); (on_goal 1 => subst x); (on_goal 2 => clear_value x))
    | extract_lets +onlyGivenNames x
    | ((with_reducible apply Only.foldl); on_goal 1 => intro x t ht)
    | split
    | ((with_reducible apply Only.step modXi_only); on_goal 1 => decide)
    | ((with_reducible apply Only.lit); intro p hp; cases p <;> first | exact absurd (by decide) hp | (have hq := (‹Only _ _ _›).same _ hp; exact hq) | exact rfl)

theorem ackOwed_only {k : Nat} {s : State} :
    Only [.eic, .pci, .xi, .slk, .out] s (ackOwed k s) := by
  unfold ackOwed
  repeat' first
    | with_reducible exact Only.refl
    | with_reducible assumption
    | (extract_lets +onlyGivenNames x; have ht := x.busRead; clear ht; refine Only.cut (x := x) ?_ (fun hx => ?_); (on_goal 1 => subst x); (on_goal 2 => clear_value x))
    | extract_lets +onlyGivenNames x
    | ((with_reducible apply Only.foldl); on_goal 1 => intro x t ht)
    | split
    | ((with_reducible apply Only.step respond_only); on_goal 1 => decide)
    | ((with_reducible apply Only.step modXi_only); on_goal 1 => decide)
    | ((with_reducible apply Only.lit); intro p hp; cases p <;> first | exact absurd (by decide) hp | (have hq := (‹Only _ _ _›).same _ hp; exact hq) | exact rfl)

theorem modLch_only {g : Nat} {f : LchS → LchS} {s : State} :
    Only [.adc] s (modLch g f s) := by
  unfold modLch
  repeat' first
    | with_reducible exact Only.refl
    | with_reducible assumption
    | (extract_lets +onlyGivenNames x; have ht := x.busRead; clear ht; refine Only.cut (x := x) ?_ (fun hx => ?_); (on_goal 1 => subst x); (on_goal 2 => clear_value x))
    | extract_lets +onlyGivenNames x
    | ((with_reducible apply Only.foldl); on_goal 1 => intro x t ht)
    | split
    | ((with_reducible apply Only.step modAdc_only); on_goal 1 => decide)
    | ((with_reducible apply Only.lit); intro p hp; cases p <;> first | exact absurd (by decide) hp | (have hq := (‹Only _ _ _›).same _ hp; exact hq) | exact rfl)

theorem modMeas_only {m : Nat} {f : MeasS → MeasS} {s : State} :
    Only [.adc] s (modMeas m f s) := by
  unfold modMeas
  repeat' first
    | with_reducible exact Only.refl
    | with_reducible assumption
    | (extract_lets +onlyGivenNames x; have ht := x.busRead; clear ht; refine Only.cut (x := x) ?_ (fun hx => ?_); (on_goal 1 => subst x); (on_goal 2 => clear_value x))
    | extract_lets +onlyGivenNames x
    | ((with_reducible apply Only.foldl); on_goal 1 => intro x t ht)
    | split
    | ((with_reducible apply Only.step modAdc_only); on_goal 1 => decide)
    | ((with_reducible apply Only.lit); intro p hp; cases p <;> first | exact absurd (by decide) hp | (have hq := (‹Only _ _ _›).same _ hp; exact hq) | exact rfl)

theorem seqCommit_only {n : Nat} {s : State} :
    Only [.adc] s (seqCommit n s) := by
  unfold seqCommit
  repeat' first
    | with_reducible exact Only.refl
    | with_reducible assumption
    | (extract_lets +onlyGivenNames x; have ht := x.busRead; clear ht; refine Only.cut (x := x) ?_ (fun hx => ?_); (on_goal 1 => subst x); (on_goal 2 => clear_value x))
    | extract_lets +onlyGivenNames x
    | ((with_reducible apply Only.foldl); on_goal 1 => intro x t ht)
    | split
    | ((with_reducible apply Only.step modAdc_only); on_goal 1 => decide)
    | ((with_reducible apply Only.lit); intro p hp; cases p <;> first | exact absurd (by decide) hp | (have hq := (‹Only _ _ _›).same _ hp; exact hq) | exact rfl)

theorem settleStart_only {g reason : Nat} {s : State} :
    Only [.adc] s (settleStart g reason s) := by
  unfold settleStart
  repeat' first
    | with_reducible exact Only.refl
    | with_reducible assumption
    | (extract_lets +onlyGivenNames x; have ht := x.busRead; clear ht; refine Only.cut (x := x) ?_ (fun hx => ?_); (on_goal 1 => subst x); (on_goal 2 => clear_value x))
    | extract_lets +onlyGivenNames x
    | ((with_reducible apply Only.foldl); on_goal 1 => intro x t ht)
    | split
    | ((with_reducible apply Only.step modLch_only); on_goal 1 => decide)
    | ((with_reducible apply Only.lit); intro p hp; cases p <;> first | exact absurd (by decide) hp | (have hq := (‹Only _ _ _›).same _ hp; exact hq) | exact rfl)

theorem excChange_only {n : Nat} {s : State} :
    Only [.adc] s (excChange n s) := by
  unfold excChange
  repeat' first
    | with_reducible exact Only.refl
    | with_reducible assumption
    | (extract_lets +onlyGivenNames x; have ht := x.busRead; clear ht; refine Only.cut (x := x) ?_ (fun hx => ?_); (on_goal 1 => subst x); (on_goal 2 => clear_value x))
    | extract_lets +onlyGivenNames x
    | ((with_reducible apply Only.foldl); on_goal 1 => intro x t ht)
    | split
    | ((with_reducible apply Only.step modAdc_only); on_goal 1 => decide)
    | ((with_reducible apply Only.step modLch_only); on_goal 1 => decide)
    | ((with_reducible apply Only.lit); intro p hp; cases p <;> first | exact absurd (by decide) hp | (have hq := (‹Only _ _ _›).same _ hp; exact hq) | exact rfl)

theorem excFollow_only {s : State} :
    Only [.adc] s (excFollow s) := by
  unfold excFollow
  repeat' first
    | with_reducible exact Only.refl
    | with_reducible assumption
    | (extract_lets +onlyGivenNames x; have ht := x.busRead; clear ht; refine Only.cut (x := x) ?_ (fun hx => ?_); (on_goal 1 => subst x); (on_goal 2 => clear_value x))
    | extract_lets +onlyGivenNames x
    | ((with_reducible apply Only.foldl); on_goal 1 => intro x t ht)
    | split
    | ((with_reducible apply Only.step excChange_only); on_goal 1 => decide)
    | ((with_reducible apply Only.step modAdc_only); on_goal 1 => decide)
    | ((with_reducible apply Only.lit); intro p hp; cases p <;> first | exact absurd (by decide) hp | (have hq := (‹Only _ _ _›).same _ hp; exact hq) | exact rfl)

theorem bankRequest_only {g b : Nat} {s : State} :
    Only [.adc] s (bankRequest g b s) := by
  unfold bankRequest
  repeat' first
    | with_reducible exact Only.refl
    | with_reducible assumption
    | (extract_lets +onlyGivenNames x; have ht := x.busRead; clear ht; refine Only.cut (x := x) ?_ (fun hx => ?_); (on_goal 1 => subst x); (on_goal 2 => clear_value x))
    | extract_lets +onlyGivenNames x
    | ((with_reducible apply Only.foldl); on_goal 1 => intro x t ht)
    | split
    | ((with_reducible apply Only.step modLch_only); on_goal 1 => decide)
    | ((with_reducible apply Only.lit); intro p hp; cases p <;> first | exact absurd (by decide) hp | (have hq := (‹Only _ _ _›).same _ hp; exact hq) | exact rfl)

theorem skipBank_only {b : Nat} {s : State} :
    Only [.rm, .pt] s (skipBank b s) := by
  unfold skipBank
  repeat' first
    | with_reducible exact Only.refl
    | with_reducible assumption
    | (extract_lets +onlyGivenNames x; have ht := x.busRead; clear ht; refine Only.cut (x := x) ?_ (fun hx => ?_); (on_goal 1 => subst x); (on_goal 2 => clear_value x))
    | extract_lets +onlyGivenNames x
    | ((with_reducible apply Only.foldl); on_goal 1 => intro x t ht)
    | split
    | ((with_reducible apply Only.step skipShot_only); on_goal 1 => decide)
    | ((with_reducible apply Only.step markSkip_only); on_goal 1 => decide)
    | ((with_reducible apply Only.step modRm_only); on_goal 1 => decide)
    | ((with_reducible apply Only.lit); intro p hp; cases p <;> first | exact absurd (by decide) hp | (have hq := (‹Only _ _ _›).same _ hp; exact hq) | exact rfl)

theorem windowCheck_only {s : State} {b : Nat} :
    Only [.rm, .fld, .pt] s (windowCheck s b) := by
  unfold windowCheck
  repeat' first
    | with_reducible exact Only.refl
    | with_reducible assumption
    | (extract_lets +onlyGivenNames x; have ht := x.busRead; clear ht; refine Only.cut (x := x) ?_ (fun hx => ?_); (on_goal 1 => subst x); (on_goal 2 => clear_value x))
    | extract_lets +onlyGivenNames x
    | ((with_reducible apply Only.foldl); on_goal 1 => intro x t ht)
    | split
    | ((with_reducible apply Only.step modFld_only); on_goal 1 => decide)
    | ((with_reducible apply Only.step modBank_only); on_goal 1 => decide)
    | ((with_reducible apply Only.step skipBank_only); on_goal 1 => decide)
    | ((with_reducible apply Only.lit); intro p hp; cases p <;> first | exact absurd (by decide) hp | (have hq := (‹Only _ _ _›).same _ hp; exact hq) | exact rfl)

theorem windowChecks_only {s : State} :
    Only [.rm, .fld, .pt] s (windowChecks s) := by
  unfold windowChecks
  repeat' first
    | with_reducible exact Only.refl
    | with_reducible assumption
    | (extract_lets +onlyGivenNames x; have ht := x.busRead; clear ht; refine Only.cut (x := x) ?_ (fun hx => ?_); (on_goal 1 => subst x); (on_goal 2 => clear_value x))
    | extract_lets +onlyGivenNames x
    | ((with_reducible apply Only.foldl); on_goal 1 => intro x t ht)
    | split
    | ((with_reducible apply Only.step windowCheck_only); on_goal 1 => decide)
    | ((with_reducible apply Only.lit); intro p hp; cases p <;> first | exact absurd (by decide) hp | (have hq := (‹Only _ _ _›).same _ hp; exact hq) | exact rfl)

theorem slowRecord_only {m : Nat} {output : Bool} {s : State} :
    Only [.car] s (slowRecord m output s) := by
  unfold slowRecord
  repeat' first
    | with_reducible exact Only.refl
    | with_reducible assumption
    | (extract_lets +onlyGivenNames x; have ht := x.busRead; clear ht; refine Only.cut (x := x) ?_ (fun hx => ?_); (on_goal 1 => subst x); (on_goal 2 => clear_value x))
    | extract_lets +onlyGivenNames x
    | ((with_reducible apply Only.foldl); on_goal 1 => intro x t ht)
    | split
    | ((with_reducible apply Only.step recQueueItem_only); on_goal 1 => decide)
    | ((with_reducible apply Only.step modRec_only); on_goal 1 => decide)
    | ((with_reducible apply Only.lit); intro p hp; cases p <;> first | exact absurd (by decide) hp | (have hq := (‹Only _ _ _›).same _ hp; exact hq) | exact rfl)

theorem measUpdate_only {output : Bool} {s : State} {m : Nat} :
    Only [.rm, .fld, .pt, .adc, .car, .eic, .log, .pci, .slk, .out] s (measUpdate output s m) := by
  unfold measUpdate
  repeat' first
    | with_reducible exact Only.refl
    | with_reducible assumption
    | (extract_lets +onlyGivenNames x; have ht := x.busRead; clear ht; refine Only.cut (x := x) ?_ (fun hx => ?_); (on_goal 1 => subst x); (on_goal 2 => clear_value x))
    | extract_lets +onlyGivenNames x
    | ((with_reducible apply Only.foldl); on_goal 1 => intro x t ht)
    | split
    | ((with_reducible apply Only.step modMeas_only); on_goal 1 => decide)
    | ((with_reducible apply Only.step logNow_only); on_goal 1 => decide)
    | ((with_reducible apply Only.step windowChecks_only); on_goal 1 => decide)
    | ((with_reducible apply Only.step slowRecord_only); on_goal 1 => decide)
    | ((with_reducible apply Only.lit); intro p hp; cases p <;> first | exact absurd (by decide) hp | (have hq := (‹Only _ _ _›).same _ hp; exact hq) | exact rfl)

theorem measAll_only {s : State} :
    Only [.rm, .fld, .pt, .adc, .car, .eic, .log, .pci, .slk, .out] s (measAll s) := by
  unfold measAll
  repeat' first
    | with_reducible exact Only.refl
    | with_reducible assumption
    | (extract_lets +onlyGivenNames x; have ht := x.busRead; clear ht; refine Only.cut (x := x) ?_ (fun hx => ?_); (on_goal 1 => subst x); (on_goal 2 => clear_value x))
    | extract_lets +onlyGivenNames x
    | ((with_reducible apply Only.foldl); on_goal 1 => intro x t ht)
    | split
    | ((with_reducible apply Only.step measUpdate_only); on_goal 1 => decide)
    | ((with_reducible apply Only.lit); intro p hp; cases p <;> first | exact absurd (by decide) hp | (have hq := (‹Only _ _ _›).same _ hp; exact hq) | exact rfl)

theorem excApply_only {s : State} :
    Only [.rm, .fld, .pt, .adc, .car, .eic, .log, .pci, .slk, .out] s (excApply s) := by
  unfold excApply
  repeat' first
    | with_reducible exact Only.refl
    | with_reducible assumption
    | (extract_lets +onlyGivenNames x; have ht := x.busRead; clear ht; refine Only.cut (x := x) ?_ (fun hx => ?_); (on_goal 1 => subst x); (on_goal 2 => clear_value x))
    | extract_lets +onlyGivenNames x
    | ((with_reducible apply Only.foldl); on_goal 1 => intro x t ht)
    | split
    | ((with_reducible apply Only.step measAll_only); on_goal 1 => decide)
    | ((with_reducible apply Only.step excFollow_only); on_goal 1 => decide)
    | ((with_reducible apply Only.lit); intro p hp; cases p <;> first | exact absurd (by decide) hp | (have hq := (‹Only _ _ _›).same _ hp; exact hq) | exact rfl)

theorem rawIn_only {g : Nat} {missing valid : Bool} {reason : Nat} {v : Int} {at_ : Nat} {s : State} :
    Only [.adc] s (rawIn g missing valid reason v at_ s) := by
  unfold rawIn
  repeat' first
    | with_reducible exact Only.refl
    | with_reducible assumption
    | (extract_lets +onlyGivenNames x; have ht := x.busRead; clear ht; refine Only.cut (x := x) ?_ (fun hx => ?_); (on_goal 1 => subst x); (on_goal 2 => clear_value x))
    | extract_lets +onlyGivenNames x
    | ((with_reducible apply Only.foldl); on_goal 1 => intro x t ht)
    | split
    | ((with_reducible apply Only.step modLch_only); on_goal 1 => decide)
    | ((with_reducible apply Only.lit); intro p hp; cases p <;> first | exact absurd (by decide) hp | (have hq := (‹Only _ _ _›).same _ hp; exact hq) | exact rfl)

theorem filterOut_only {g : Nat} {missing : Bool} {at_ : Nat} {s : State} :
    Only [.rm, .fld, .pt, .adc, .car, .eic, .log, .pci, .slk, .out] s (filterOut g missing at_ s) := by
  unfold filterOut
  repeat' first
    | with_reducible exact Only.refl
    | with_reducible assumption
    | (extract_lets +onlyGivenNames x; have ht := x.busRead; clear ht; refine Only.cut (x := x) ?_ (fun hx => ?_); (on_goal 1 => subst x); (on_goal 2 => clear_value x))
    | extract_lets +onlyGivenNames x
    | ((with_reducible apply Only.foldl); on_goal 1 => intro x t ht)
    | split
    | ((with_reducible apply Only.step modAdc_only); on_goal 1 => decide)
    | ((with_reducible apply Only.step modLch_only); on_goal 1 => decide)
    | ((with_reducible apply Only.step recItem_only); on_goal 1 => decide)
    | ((with_reducible apply Only.step measUpdate_only); on_goal 1 => decide)
    | ((with_reducible apply Only.lit); intro p hp; cases p <;> first | exact absurd (by decide) hp | (have hq := (‹Only _ _ _›).same _ hp; exact hq) | exact rfl)

theorem sampleIn_only {g : Nat} {missing valid : Bool} {reason : Nat} {v : Int} {at_ : Nat} {s : State} :
    Only [.rm, .fld, .pt, .adc, .car, .eic, .log, .pci, .slk, .out] s (sampleIn g missing valid reason v at_ s) := by
  unfold sampleIn
  repeat' first
    | with_reducible exact Only.refl
    | with_reducible assumption
    | (extract_lets +onlyGivenNames x; have ht := x.busRead; clear ht; refine Only.cut (x := x) ?_ (fun hx => ?_); (on_goal 1 => subst x); (on_goal 2 => clear_value x))
    | extract_lets +onlyGivenNames x
    | ((with_reducible apply Only.foldl); on_goal 1 => intro x t ht)
    | split
    | ((with_reducible apply Only.step filterOut_only); on_goal 1 => decide)
    | ((with_reducible apply Only.step rawIn_only); on_goal 1 => decide)
    | ((with_reducible apply Only.lit); intro p hp; cases p <;> first | exact absurd (by decide) hp | (have hq := (‹Only _ _ _›).same _ hp; exact hq) | exact rfl)

theorem missingIn_only {g at_ k : Nat} {s : State} :
    Only [.rm, .fld, .pt, .adc, .car, .eic, .log, .pci, .slk, .out] s (missingIn g at_ k s) := by
  induction k generalizing s with
  | zero =>
    unfold missingIn
    repeat' first
      | with_reducible exact Only.refl
      | with_reducible assumption
      | (extract_lets +onlyGivenNames x; have ht := x.busRead; clear ht; refine Only.cut (x := x) ?_ (fun hx => ?_); (on_goal 1 => subst x); (on_goal 2 => clear_value x))
      | extract_lets +onlyGivenNames x
      | ((with_reducible apply Only.foldl); on_goal 1 => intro x t ht)
      | split
      | ((with_reducible apply Only.step sampleIn_only); on_goal 1 => decide)
      | ((with_reducible apply Only.lit); intro p hp; cases p <;> first | exact absurd (by decide) hp | (have hq := (‹Only _ _ _›).same _ hp; exact hq) | exact rfl)
  | succ k ih =>
    unfold missingIn
    repeat' first
      | with_reducible exact Only.refl
      | with_reducible assumption
      | (extract_lets +onlyGivenNames x; have ht := x.busRead; clear ht; refine Only.cut (x := x) ?_ (fun hx => ?_); (on_goal 1 => subst x); (on_goal 2 => clear_value x))
      | extract_lets +onlyGivenNames x
      | ((with_reducible apply Only.foldl); on_goal 1 => intro x t ht)
      | split
      | ((with_reducible apply Only.step sampleIn_only); on_goal 1 => decide)
      | ((with_reducible apply Only.step ih); on_goal 1 => decide)
      | ((with_reducible apply Only.lit); intro p hp; cases p <;> first | exact absurd (by decide) hp | (have hq := (‹Only _ _ _›).same _ hp; exact hq) | exact rfl)

theorem seqBegin_only {s : State} {n : Nat} :
    Only [.adc] s (seqBegin s n) := by
  unfold seqBegin
  repeat' first
    | with_reducible exact Only.refl
    | with_reducible assumption
    | (extract_lets +onlyGivenNames x; have ht := x.busRead; clear ht; refine Only.cut (x := x) ?_ (fun hx => ?_); (on_goal 1 => subst x); (on_goal 2 => clear_value x))
    | (extract_lets +onlyGivenNames x; clear_value x)
    | extract_lets +onlyGivenNames x
    | ((with_reducible apply Only.foldl); on_goal 1 => intro x t ht)
    | split
    | ((with_reducible apply Only.step modAdc_only); on_goal 1 => decide)
    | ((with_reducible apply Only.step modLch_only); on_goal 1 => decide)
    | ((with_reducible apply Only.step settleStart_only); on_goal 1 => decide)
    | ((with_reducible apply Only.lit); intro p hp; cases p <;> first | exact absurd (by decide) hp | (have hq := (‹Only _ _ _›).same _ hp; exact hq) | exact rfl)

theorem firFit_only {s : State} :
    Only [.adc] s (firFit s) := by
  unfold firFit
  repeat' first
    | with_reducible exact Only.refl
    | with_reducible assumption
    | (extract_lets +onlyGivenNames x; have ht := x.busRead; clear ht; refine Only.cut (x := x) ?_ (fun hx => ?_); (on_goal 1 => subst x); (on_goal 2 => clear_value x))
    | extract_lets +onlyGivenNames x
    | ((with_reducible apply Only.foldl); on_goal 1 => intro x t ht)
    | split
    | ((with_reducible apply Only.step modLch_only); on_goal 1 => decide)
    | ((with_reducible apply Only.lit); intro p hp; cases p <;> first | exact absurd (by decide) hp | (have hq := (‹Only _ _ _›).same _ hp; exact hq) | exact rfl)

theorem syncRequest_only {s : State} :
    Only [.adc] s (syncRequest s) := by
  unfold syncRequest
  repeat' first
    | with_reducible exact Only.refl
    | with_reducible assumption
    | (extract_lets +onlyGivenNames x; have ht := x.busRead; clear ht; refine Only.cut (x := x) ?_ (fun hx => ?_); (on_goal 1 => subst x); (on_goal 2 => clear_value x))
    | extract_lets +onlyGivenNames x
    | ((with_reducible apply Only.foldl); on_goal 1 => intro x t ht)
    | split
    | ((with_reducible apply Only.step modAdc_only); on_goal 1 => decide)
    | ((with_reducible apply Only.lit); intro p hp; cases p <;> first | exact absurd (by decide) hp | (have hq := (‹Only _ _ _›).same _ hp; exact hq) | exact rfl)

theorem refReadySet_only {b : Bool} {s : State} :
    Only [.rm, .fld, .pt, .adc, .car, .eic, .log, .pci, .slk, .out] s (refReadySet b s) := by
  unfold refReadySet
  repeat' first
    | with_reducible exact Only.refl
    | with_reducible assumption
    | (extract_lets +onlyGivenNames x; have ht := x.busRead; clear ht; refine Only.cut (x := x) ?_ (fun hx => ?_); (on_goal 1 => subst x); (on_goal 2 => clear_value x))
    | extract_lets +onlyGivenNames x
    | ((with_reducible apply Only.foldl); on_goal 1 => intro x t ht)
    | split
    | ((with_reducible apply Only.step excApply_only); on_goal 1 => decide)
    | ((with_reducible apply Only.step modAdc_only); on_goal 1 => decide)
    | ((with_reducible apply Only.lit); intro p hp; cases p <;> first | exact absurd (by decide) hp | (have hq := (‹Only _ _ _›).same _ hp; exact hq) | exact rfl)

theorem refEnable_only {on : Bool} {s : State} :
    Only [.rm, .fld, .pt, .adc, .car, .eic, .log, .pci, .slk, .out] s (refEnable on s) := by
  unfold refEnable
  repeat' first
    | with_reducible exact Only.refl
    | with_reducible assumption
    | (extract_lets +onlyGivenNames x; have ht := x.busRead; clear ht; refine Only.cut (x := x) ?_ (fun hx => ?_); (on_goal 1 => subst x); (on_goal 2 => clear_value x))
    | extract_lets +onlyGivenNames x
    | ((with_reducible apply Only.foldl); on_goal 1 => intro x t ht)
    | split
    | ((with_reducible apply Only.step modAdc_only); on_goal 1 => decide)
    | ((with_reducible apply Only.step refReadySet_only); on_goal 1 => decide)
    | ((with_reducible apply Only.lit); intro p hp; cases p <;> first | exact absurd (by decide) hp | (have hq := (‹Only _ _ _›).same _ hp; exact hq) | exact rfl)

theorem barResend_only {bl : Nat} {s : State} :
    Only [.fld, .out] s (barResend bl s) := by
  unfold barResend
  repeat' first
    | with_reducible exact Only.refl
    | with_reducible assumption
    | (extract_lets +onlyGivenNames x; have ht := x.busRead; clear ht; refine Only.cut (x := x) ?_ (fun hx => ?_); (on_goal 1 => subst x); (on_goal 2 => clear_value x))
    | extract_lets +onlyGivenNames x
    | ((with_reducible apply Only.foldl); on_goal 1 => intro x t ht)
    | split
    | ((with_reducible apply Only.step modFld_only); on_goal 1 => decide)
    | ((with_reducible apply Only.step modLink_only); on_goal 1 => decide)
    | ((with_reducible apply Only.step emit_only); on_goal 1 => decide)
    | ((with_reducible apply Only.lit); intro p hp; cases p <;> first | exact absurd (by decide) hp | (have hq := (‹Only _ _ _›).same _ hp; exact hq) | exact rfl)

theorem barRelease_only {bl : Nat} {seq : BitVec 8} {s : State} :
    Only [.fld] s (barRelease bl seq s) := by
  unfold barRelease
  repeat' first
    | with_reducible exact Only.refl
    | with_reducible assumption
    | (extract_lets +onlyGivenNames x; have ht := x.busRead; clear ht; refine Only.cut (x := x) ?_ (fun hx => ?_); (on_goal 1 => subst x); (on_goal 2 => clear_value x))
    | extract_lets +onlyGivenNames x
    | ((with_reducible apply Only.foldl); on_goal 1 => intro x t ht)
    | split
    | ((with_reducible apply Only.step modLink_only); on_goal 1 => decide)
    | ((with_reducible apply Only.lit); intro p hp; cases p <;> first | exact absurd (by decide) hp | (have hq := (‹Only _ _ _›).same _ hp; exact hq) | exact rfl)

theorem chargeShares_only {s : State} :
    Only [.fld] s (chargeShares s) := by
  unfold chargeShares
  repeat' first
    | with_reducible exact Only.refl
    | with_reducible assumption
    | (extract_lets +onlyGivenNames x; have ht := x.busRead; clear ht; refine Only.cut (x := x) ?_ (fun hx => ?_); (on_goal 1 => subst x); (on_goal 2 => clear_value x))
    | extract_lets +onlyGivenNames x
    | ((with_reducible apply Only.foldl); on_goal 1 => intro x t ht)
    | split
    | ((with_reducible apply Only.step modBank_only); on_goal 1 => decide)
    | ((with_reducible apply Only.lit); intro p hp; cases p <;> first | exact absurd (by decide) hp | (have hq := (‹Only _ _ _›).same _ hp; exact hq) | exact rfl)

theorem modTp_only {n : Nat} {f : TpS → TpS} {s : State} :
    Only [.saf] s (modTp n f s) := by
  unfold modTp
  repeat' first
    | with_reducible exact Only.refl
    | with_reducible assumption
    | (extract_lets +onlyGivenNames x; have ht := x.busRead; clear ht; refine Only.cut (x := x) ?_ (fun hx => ?_); (on_goal 1 => subst x); (on_goal 2 => clear_value x))
    | extract_lets +onlyGivenNames x
    | ((with_reducible apply Only.foldl); on_goal 1 => intro x t ht)
    | split
    | ((with_reducible apply Only.step modSaf_only); on_goal 1 => decide)
    | ((with_reducible apply Only.lit); intro p hp; cases p <;> first | exact absurd (by decide) hp | (have hq := (‹Only _ _ _›).same _ hp; exact hq) | exact rfl)

theorem inputFault_only {i cause foreign : Nat} {s : State} :
    Only [.saf, .eic, .log, .pci, .slk, .out] s (inputFault i cause foreign s) := by
  unfold inputFault
  repeat' first
    | with_reducible exact Only.refl
    | with_reducible assumption
    | (extract_lets +onlyGivenNames x; have ht := x.busRead; clear ht; refine Only.cut (x := x) ?_ (fun hx => ?_); (on_goal 1 => subst x); (on_goal 2 => clear_value x))
    | extract_lets +onlyGivenNames x
    | ((with_reducible apply Only.foldl); on_goal 1 => intro x t ht)
    | split
    | ((with_reducible apply Only.step modIn_only); on_goal 1 => decide)
    | ((with_reducible apply Only.step logNow_only); on_goal 1 => decide)
    | ((with_reducible apply Only.step modSaf_only); on_goal 1 => decide)
    | ((with_reducible apply Only.step modSf_only); on_goal 1 => decide)
    | ((with_reducible apply Only.lit); intro p hp; cases p <;> first | exact absurd (by decide) hp | (have hq := (‹Only _ _ _›).same _ hp; exact hq) | exact rfl)

theorem inputClear_only {i : Nat} {s : State} :
    Only [.saf] s (inputClear i s) := by
  unfold inputClear
  repeat' first
    | with_reducible exact Only.refl
    | with_reducible assumption
    | (extract_lets +onlyGivenNames x; have ht := x.busRead; clear ht; refine Only.cut (x := x) ?_ (fun hx => ?_); (on_goal 1 => subst x); (on_goal 2 => clear_value x))
    | extract_lets +onlyGivenNames x
    | ((with_reducible apply Only.foldl); on_goal 1 => intro x t ht)
    | split
    | ((with_reducible apply Only.step modIn_only); on_goal 1 => decide)
    | ((with_reducible apply Only.lit); intro p hp; cases p <;> first | exact absurd (by decide) hp | (have hq := (‹Only _ _ _›).same _ hp; exact hq) | exact rfl)

theorem tpSample_only {rd : BitVec 8} {s : State} {n : Nat} :
    Only [.saf, .eic, .log, .pci, .slk, .out] s (tpSample rd s n) := by
  unfold tpSample
  repeat' first
    | with_reducible exact Only.refl
    | with_reducible assumption
    | (extract_lets +onlyGivenNames x; have ht := x.busRead; clear ht; refine Only.cut (x := x) ?_ (fun hx => ?_); (on_goal 1 => subst x); (on_goal 2 => clear_value x))
    | extract_lets +onlyGivenNames x
    | ((with_reducible apply Only.foldl); on_goal 1 => intro x t ht)
    | split
    | ((with_reducible apply Only.step inputFault_only); on_goal 1 => decide)
    | ((with_reducible apply Only.step modTp_only); on_goal 1 => decide)
    | ((with_reducible apply Only.lit); intro p hp; cases p <;> first | exact absurd (by decide) hp | (have hq := (‹Only _ _ _›).same _ hp; exact hq) | exact rfl)

theorem inSample_only {raw : BitVec 20} {s : State} {i : Nat} :
    Only [.saf, .eic, .log, .pci, .slk, .out] s (inSample raw s i) := by
  unfold inSample
  repeat' first
    | with_reducible exact Only.refl
    | with_reducible assumption
    | (extract_lets +onlyGivenNames x; have ht := x.busRead; clear ht; refine Only.cut (x := x) ?_ (fun hx => ?_); (on_goal 1 => subst x); (on_goal 2 => clear_value x))
    | (extract_lets +onlyGivenNames x; clear_value x)
    | extract_lets +onlyGivenNames x
    | ((with_reducible apply Only.foldl); on_goal 1 => intro x t ht)
    | split
    | ((with_reducible apply Only.step inputFault_only); on_goal 1 => decide)
    | ((with_reducible apply Only.step inputClear_only); on_goal 1 => decide)
    | ((with_reducible apply Only.step modIn_only); on_goal 1 => decide)
    | ((with_reducible apply Only.lit); intro p hp; cases p <;> first | exact absurd (by decide) hp | (have hq := (‹Only _ _ _›).same _ hp; exact hq) | exact rfl)

theorem sfTrack_only {s : State} {k : Nat} :
    Only [.saf] s (sfTrack s k) := by
  unfold sfTrack
  repeat' first
    | with_reducible exact Only.refl
    | with_reducible assumption
    | (extract_lets +onlyGivenNames x; have ht := x.busRead; clear ht; refine Only.cut (x := x) ?_ (fun hx => ?_); (on_goal 1 => subst x); (on_goal 2 => clear_value x))
    | extract_lets +onlyGivenNames x
    | ((with_reducible apply Only.foldl); on_goal 1 => intro x t ht)
    | split
    | ((with_reducible apply Only.step modSf_only); on_goal 1 => decide)
    | ((with_reducible apply Only.lit); intro p hp; cases p <;> first | exact absurd (by decide) hp | (have hq := (‹Only _ _ _›).same _ hp; exact hq) | exact rfl)

theorem sfEval_only {s : State} {k : Nat} :
    Only [.fld, .saf] s (sfEval s k) := by
  unfold sfEval
  repeat' first
    | with_reducible exact Only.refl
    | with_reducible assumption
    | (extract_lets +onlyGivenNames x; have ht := x.busRead; clear ht; refine Only.cut (x := x) ?_ (fun hx => ?_); (on_goal 1 => subst x); (on_goal 2 => clear_value x))
    | extract_lets +onlyGivenNames x
    | ((with_reducible apply Only.foldl); on_goal 1 => intro x t ht)
    | split
    | ((with_reducible apply Only.step sfTrack_only); on_goal 1 => decide)
    | ((with_reducible apply Only.step modSf_only); on_goal 1 => decide)
    | ((with_reducible apply Only.step modIn_only); on_goal 1 => decide)
    | ((with_reducible apply Only.step modOut_only); on_goal 1 => decide)
    | ((with_reducible apply Only.lit); intro p hp; cases p <;> first | exact absurd (by decide) hp | (have hq := (‹Only _ _ _›).same _ hp; exact hq) | exact rfl)

theorem outClear_only {s : State} {n : Nat} :
    Only [.fld] s (outClear s n) := by
  unfold outClear
  repeat' first
    | with_reducible exact Only.refl
    | with_reducible assumption
    | (extract_lets +onlyGivenNames x; have ht := x.busRead; clear ht; refine Only.cut (x := x) ?_ (fun hx => ?_); (on_goal 1 => subst x); (on_goal 2 => clear_value x))
    | extract_lets +onlyGivenNames x
    | ((with_reducible apply Only.foldl); on_goal 1 => intro x t ht)
    | split
    | ((with_reducible apply Only.step modOut_only); on_goal 1 => decide)
    | ((with_reducible apply Only.lit); intro p hp; cases p <;> first | exact absurd (by decide) hp | (have hq := (‹Only _ _ _›).same _ hp; exact hq) | exact rfl)

theorem evalFunctions_only {s : State} :
    Only [.fld, .saf, .car, .eic, .log, .pci, .slk, .out] s (evalFunctions s) := by
  unfold evalFunctions
  repeat' first
    | with_reducible exact Only.refl
    | with_reducible assumption
    | (extract_lets +onlyGivenNames x; have ht := x.busRead; clear ht; refine Only.cut (x := x) ?_ (fun hx => ?_); (on_goal 1 => subst x); (on_goal 2 => clear_value x))
    | extract_lets +onlyGivenNames x
    | ((with_reducible apply Only.foldl); on_goal 1 => intro x t ht)
    | split
    | ((with_reducible apply Only.step evalOutputs_only); on_goal 1 => decide)
    | ((with_reducible apply Only.step outClear_only); on_goal 1 => decide)
    | ((with_reducible apply Only.step sfEval_only); on_goal 1 => decide)
    | ((with_reducible apply Only.lit); intro p hp; cases p <;> first | exact absurd (by decide) hp | (have hq := (‹Only _ _ _›).same _ hp; exact hq) | exact rfl)

theorem followSelection_only {s : State} :
    Only [.fe] s (followSelection s) := by
  unfold followSelection
  repeat' first
    | with_reducible exact Only.refl
    | with_reducible assumption
    | (extract_lets +onlyGivenNames x; have ht := x.busRead; clear ht; refine Only.cut (x := x) ?_ (fun hx => ?_); (on_goal 1 => subst x); (on_goal 2 => clear_value x))
    | extract_lets +onlyGivenNames x
    | ((with_reducible apply Only.foldl); on_goal 1 => intro x t ht)
    | split
    | ((with_reducible apply Only.lit); intro p hp; cases p <;> first | exact absurd (by decide) hp | (have hq := (‹Only _ _ _›).same _ hp; exact hq) | exact rfl)

theorem outOff_only {n : Nat} {s : State} :
    Only [.fld] s (outOff n s) := by
  unfold outOff
  repeat' first
    | with_reducible exact Only.refl
    | with_reducible assumption
    | (extract_lets +onlyGivenNames x; have ht := x.busRead; clear ht; refine Only.cut (x := x) ?_ (fun hx => ?_); (on_goal 1 => subst x); (on_goal 2 => clear_value x))
    | extract_lets +onlyGivenNames x
    | ((with_reducible apply Only.foldl); on_goal 1 => intro x t ht)
    | split
    | ((with_reducible apply Only.step modOut_only); on_goal 1 => decide)
    | ((with_reducible apply Only.lit); intro p hp; cases p <;> first | exact absurd (by decide) hp | (have hq := (‹Only _ _ _›).same _ hp; exact hq) | exact rfl)

theorem outStateOne_only {req : BitVec 4} {tokens : List Byte} {s : State} {n : Nat} :
    Only [.fld] s (outStateOne req tokens s n) := by
  unfold outStateOne
  repeat' first
    | with_reducible exact Only.refl
    | with_reducible assumption
    | (extract_lets +onlyGivenNames x; have ht := x.busRead; clear ht; refine Only.cut (x := x) ?_ (fun hx => ?_); (on_goal 1 => subst x); (on_goal 2 => clear_value x))
    | extract_lets +onlyGivenNames x
    | ((with_reducible apply Only.foldl); on_goal 1 => intro x t ht)
    | split
    | ((with_reducible apply Only.step modOut_only); on_goal 1 => decide)
    | ((with_reducible apply Only.step outOff_only); on_goal 1 => decide)
    | ((with_reducible apply Only.lit); intro p hp; cases p <;> first | exact absurd (by decide) hp | (have hq := (‹Only _ _ _›).same _ hp; exact hq) | exact rfl)

theorem modTbs_only {f : TbS → TbS} {s : State} :
    Only [.tbs] s (modTbs f s) := by
  unfold modTbs
  repeat' first
    | with_reducible exact Only.refl
    | with_reducible assumption
    | (extract_lets +onlyGivenNames x; have ht := x.busRead; clear ht; refine Only.cut (x := x) ?_ (fun hx => ?_); (on_goal 1 => subst x); (on_goal 2 => clear_value x))
    | extract_lets +onlyGivenNames x
    | ((with_reducible apply Only.foldl); on_goal 1 => intro x t ht)
    | split
    | ((with_reducible apply Only.lit); intro p hp; cases p <;> first | exact absurd (by decide) hp | (have hq := (‹Only _ _ _›).same _ hp; exact hq) | exact rfl)

theorem modFm_only {n : Nat} {f : FmS → FmS} {s : State} :
    Only [.tbs] s (modFm n f s) := by
  unfold modFm
  repeat' first
    | with_reducible exact Only.refl
    | with_reducible assumption
    | (extract_lets +onlyGivenNames x; have ht := x.busRead; clear ht; refine Only.cut (x := x) ?_ (fun hx => ?_); (on_goal 1 => subst x); (on_goal 2 => clear_value x))
    | extract_lets +onlyGivenNames x
    | ((with_reducible apply Only.foldl); on_goal 1 => intro x t ht)
    | split
    | ((with_reducible apply Only.step modTbs_only); on_goal 1 => decide)
    | ((with_reducible apply Only.lit); intro p hp; cases p <;> first | exact absurd (by decide) hp | (have hq := (‹Only _ _ _›).same _ hp; exact hq) | exact rfl)

theorem fmEvent_only {src : Nat} {stamp : BitVec 64} {s : State} :
    Only [.tbs] s (fmEvent src stamp s) := by
  unfold fmEvent
  repeat' first
    | with_reducible exact Only.refl
    | with_reducible assumption
    | (extract_lets +onlyGivenNames x; have ht := x.busRead; clear ht; refine Only.cut (x := x) ?_ (fun hx => ?_); (on_goal 1 => subst x); (on_goal 2 => clear_value x))
    | extract_lets +onlyGivenNames x
    | ((with_reducible apply Only.foldl); on_goal 1 => intro x t ht)
    | split
    | ((with_reducible apply Only.step modFm_only); on_goal 1 => decide)
    | ((with_reducible apply Only.lit); intro p hp; cases p <;> first | exact absurd (by decide) hp | (have hq := (‹Only _ _ _›).same _ hp; exact hq) | exact rfl)

theorem fmStart_only {n : Nat} {s : State} :
    Only [.tbs] s (fmStart n s) := by
  unfold fmStart
  repeat' first
    | with_reducible exact Only.refl
    | with_reducible assumption
    | (extract_lets +onlyGivenNames x; have ht := x.busRead; clear ht; refine Only.cut (x := x) ?_ (fun hx => ?_); (on_goal 1 => subst x); (on_goal 2 => clear_value x))
    | extract_lets +onlyGivenNames x
    | ((with_reducible apply Only.foldl); on_goal 1 => intro x t ht)
    | split
    | ((with_reducible apply Only.step modFm_only); on_goal 1 => decide)
    | ((with_reducible apply Only.lit); intro p hp; cases p <;> first | exact absurd (by decide) hp | (have hq := (‹Only _ _ _›).same _ hp; exact hq) | exact rfl)

theorem t64Load_only {step : BitVec 64} {s : State} :
    Only [.t64Ofs, .rm, .tbs, .ee, .rj, .eic, .log, .pci, .slk, .out] s (t64Load step s) := by
  unfold t64Load
  repeat' first
    | with_reducible exact Only.refl
    | with_reducible assumption
    | (extract_lets +onlyGivenNames x; have ht := x.busRead; clear ht; refine Only.cut (x := x) ?_ (fun hx => ?_); (on_goal 1 => subst x); (on_goal 2 => clear_value x))
    | extract_lets +onlyGivenNames x
    | ((with_reducible apply Only.foldl); on_goal 1 => intro x t ht)
    | split
    | ((with_reducible apply Only.step modTbs_only); on_goal 1 => decide)
    | ((with_reducible apply Only.step modRj_only); on_goal 1 => decide)
    | ((with_reducible apply Only.step modEe_only); on_goal 1 => decide)
    | ((with_reducible apply Only.step modRm_only); on_goal 1 => decide)
    | ((with_reducible apply Only.step logNow_only); on_goal 1 => decide)
    | ((with_reducible apply Only.lit); intro p hp; cases p <;> first | exact absurd (by decide) hp | (have hq := (‹Only _ _ _›).same _ hp; exact hq) | exact rfl)

theorem ppsArmWrite_only {v : Bool} {s : State} :
    Only [.tbs] s (ppsArmWrite v s) := by
  unfold ppsArmWrite
  repeat' first
    | with_reducible exact Only.refl
    | with_reducible assumption
    | (extract_lets +onlyGivenNames x; have ht := x.busRead; clear ht; refine Only.cut (x := x) ?_ (fun hx => ?_); (on_goal 1 => subst x); (on_goal 2 => clear_value x))
    | extract_lets +onlyGivenNames x
    | ((with_reducible apply Only.foldl); on_goal 1 => intro x t ht)
    | split
    | ((with_reducible apply Only.step modTbs_only); on_goal 1 => decide)
    | ((with_reducible apply Only.lit); intro p hp; cases p <;> first | exact absurd (by decide) hp | (have hq := (‹Only _ _ _›).same _ hp; exact hq) | exact rfl)

theorem encAccept_only {n at_ : Nat} {rise : Bool} {s : State} :
    Only [.tbs] s (encAccept n at_ rise s) := by
  unfold encAccept
  repeat' first
    | with_reducible exact Only.refl
    | with_reducible assumption
    | (extract_lets +onlyGivenNames x; have ht := x.busRead; clear ht; refine Only.cut (x := x) ?_ (fun hx => ?_); (on_goal 1 => subst x); (on_goal 2 => clear_value x))
    | extract_lets +onlyGivenNames x
    | ((with_reducible apply Only.foldl); on_goal 1 => intro x t ht)
    | split
    | ((with_reducible apply Only.step fmEvent_only); on_goal 1 => decide)
    | ((with_reducible apply Only.step modTbs_only); on_goal 1 => decide)
    | ((with_reducible apply Only.lit); intro p hp; cases p <;> first | exact absurd (by decide) hp | (have hq := (‹Only _ _ _›).same _ hp; exact hq) | exact rfl)

theorem encSettle_only {s : State} :
    Only [.tbs] s (encSettle s) := by
  unfold encSettle
  repeat' first
    | with_reducible exact Only.refl
    | with_reducible assumption
    | (extract_lets +onlyGivenNames x; have ht := x.busRead; clear ht; refine Only.cut (x := x) ?_ (fun hx => ?_); (on_goal 1 => subst x); (on_goal 2 => clear_value x))
    | extract_lets +onlyGivenNames x
    | ((with_reducible apply Only.foldl); on_goal 1 => intro x t ht)
    | split
    | ((with_reducible apply Only.step modTbs_only); on_goal 1 => decide)
    | ((with_reducible apply Only.step encAccept_only); on_goal 1 => decide)
    | ((with_reducible apply Only.lit); intro p hp; cases p <;> first | exact absurd (by decide) hp | (have hq := (‹Only _ _ _›).same _ hp; exact hq) | exact rfl)

theorem encFrameStart_only {s : State} :
    Only [.tbs] s (encFrameStart s) := by
  unfold encFrameStart
  repeat' first
    | with_reducible exact Only.refl
    | with_reducible assumption
    | (extract_lets +onlyGivenNames x; have ht := x.busRead; clear ht; refine Only.cut (x := x) ?_ (fun hx => ?_); (on_goal 1 => subst x); (on_goal 2 => clear_value x))
    | extract_lets +onlyGivenNames x
    | ((with_reducible apply Only.foldl); on_goal 1 => intro x t ht)
    | split
    | ((with_reducible apply Only.step encSettle_only); on_goal 1 => decide)
    | ((with_reducible apply Only.step modTbs_only); on_goal 1 => decide)
    | ((with_reducible apply Only.lit); intro p hp; cases p <;> first | exact absurd (by decide) hp | (have hq := (‹Only _ _ _›).same _ hp; exact hq) | exact rfl)

theorem injEnd_only {status : Nat} {s : State} :
    Only [.lce] s (injEnd status s) := by
  unfold injEnd
  repeat' first
    | with_reducible exact Only.refl
    | with_reducible assumption
    | (extract_lets +onlyGivenNames x; have ht := x.busRead; clear ht; refine Only.cut (x := x) ?_ (fun hx => ?_); (on_goal 1 => subst x); (on_goal 2 => clear_value x))
    | extract_lets +onlyGivenNames x
    | ((with_reducible apply Only.foldl); on_goal 1 => intro x t ht)
    | split
    | ((with_reducible apply Only.step modLce_only); on_goal 1 => decide)
    | ((with_reducible apply Only.lit); intro p hp; cases p <;> first | exact absurd (by decide) hp | (have hq := (‹Only _ _ _›).same _ hp; exact hq) | exact rfl)

theorem mirMode_only {m : Nat} {s : State} :
    Only [.rm, .lce] s (mirMode m s) := by
  unfold mirMode
  repeat' first
    | with_reducible exact Only.refl
    | with_reducible assumption
    | (extract_lets +onlyGivenNames x; have ht := x.busRead; clear ht; refine Only.cut (x := x) ?_ (fun hx => ?_); (on_goal 1 => subst x); (on_goal 2 => clear_value x))
    | extract_lets +onlyGivenNames x
    | ((with_reducible apply Only.foldl); on_goal 1 => intro x t ht)
    | split
    | ((with_reducible apply Only.step modRm_only); on_goal 1 => decide)
    | ((with_reducible apply Only.step modLce_only); on_goal 1 => decide)
    | ((with_reducible apply Only.lit); intro p hp; cases p <;> first | exact absurd (by decide) hp | (have hq := (‹Only _ _ _›).same _ hp; exact hq) | exact rfl)

theorem bridgeOff_only {s : State} :
    Only [.fld] s (bridgeOff s) := by
  unfold bridgeOff
  repeat' first
    | with_reducible exact Only.refl
    | with_reducible assumption
    | (extract_lets +onlyGivenNames x; have ht := x.busRead; clear ht; refine Only.cut (x := x) ?_ (fun hx => ?_); (on_goal 1 => subst x); (on_goal 2 => clear_value x))
    | extract_lets +onlyGivenNames x
    | ((with_reducible apply Only.foldl); on_goal 1 => intro x t ht)
    | split
    | ((with_reducible apply Only.step modFld_only); on_goal 1 => decide)
    | ((with_reducible apply Only.lit); intro p hp; cases p <;> first | exact absurd (by decide) hp | (have hq := (‹Only _ _ _›).same _ hp; exact hq) | exact rfl)

theorem watchdogTrip_only {s : State} :
    Only [.rm, .fld, .lce, .out] s (watchdogTrip s) := by
  unfold watchdogTrip
  repeat' first
    | with_reducible exact Only.refl
    | with_reducible assumption
    | (extract_lets +onlyGivenNames x; have ht := x.busRead; clear ht; refine Only.cut (x := x) ?_ (fun hx => ?_); (on_goal 1 => subst x); (on_goal 2 => clear_value x))
    | extract_lets +onlyGivenNames x
    | ((with_reducible apply Only.foldl); on_goal 1 => intro x t ht)
    | split
    | ((with_reducible apply Only.step modLce_only); on_goal 1 => decide)
    | ((with_reducible apply Only.step inhibit_only); on_goal 1 => decide)
    | ((with_reducible apply Only.step statSend_only); on_goal 1 => decide)
    | ((with_reducible apply Only.step modFld_only); on_goal 1 => decide)
    | ((with_reducible apply Only.lit); intro p hp; cases p <;> first | exact absurd (by decide) hp | (have hq := (‹Only _ _ _›).same _ hp; exact hq) | exact rfl)

theorem azCount_only {az : Int} {s : State} :
    Only [.lce] s (azCount az s) := by
  unfold azCount
  repeat' first
    | with_reducible exact Only.refl
    | with_reducible assumption
    | (extract_lets +onlyGivenNames x; have ht := x.busRead; clear ht; refine Only.cut (x := x) ?_ (fun hx => ?_); (on_goal 1 => subst x); (on_goal 2 => clear_value x))
    | extract_lets +onlyGivenNames x
    | ((with_reducible apply Only.foldl); on_goal 1 => intro x t ht)
    | split
    | ((with_reducible apply Only.step modLce_only); on_goal 1 => decide)
    | ((with_reducible apply Only.lit); intro p hp; cases p <;> first | exact absurd (by decide) hp | (have hq := (‹Only _ _ _›).same _ hp; exact hq) | exact rfl)

theorem sendRearm_only {s : State} :
    Only [.fld, .out] s (sendRearm s) := by
  unfold sendRearm
  repeat' first
    | with_reducible exact Only.refl
    | with_reducible assumption
    | (extract_lets +onlyGivenNames x; have ht := x.busRead; clear ht; refine Only.cut (x := x) ?_ (fun hx => ?_); (on_goal 1 => subst x); (on_goal 2 => clear_value x))
    | extract_lets +onlyGivenNames x
    | ((with_reducible apply Only.foldl); on_goal 1 => intro x t ht)
    | split
    | ((with_reducible apply Only.step barSend_only); on_goal 1 => decide)
    | ((with_reducible apply Only.lit); intro p hp; cases p <;> first | exact absurd (by decide) hp | (have hq := (‹Only _ _ _›).same _ hp; exact hq) | exact rfl)

theorem closeLoop_only {s : State} :
    Only [.rm, .lce] s (closeLoop s) := by
  unfold closeLoop
  repeat' first
    | with_reducible exact Only.refl
    | with_reducible assumption
    | (extract_lets +onlyGivenNames x; have ht := x.busRead; clear ht; refine Only.cut (x := x) ?_ (fun hx => ?_); (on_goal 1 => subst x); (on_goal 2 => clear_value x))
    | extract_lets +onlyGivenNames x
    | ((with_reducible apply Only.foldl); on_goal 1 => intro x t ht)
    | split
    | ((with_reducible apply Only.step modLce_only); on_goal 1 => decide)
    | ((with_reducible apply Only.step mirMode_only); on_goal 1 => decide)
    | ((with_reducible apply Only.step inhibit_only); on_goal 1 => decide)
    | ((with_reducible apply Only.lit); intro p hp; cases p <;> first | exact absurd (by decide) hp | (have hq := (‹Only _ _ _›).same _ hp; exact hq) | exact rfl)

theorem bridgeStart_only {s : State} :
    Only [.rm, .fld, .lce, .out] s (bridgeStart s) := by
  unfold bridgeStart
  repeat' first
    | with_reducible exact Only.refl
    | with_reducible assumption
    | (extract_lets +onlyGivenNames x; have ht := x.busRead; clear ht; refine Only.cut (x := x) ?_ (fun hx => ?_); (on_goal 1 => subst x); (on_goal 2 => clear_value x))
    | extract_lets +onlyGivenNames x
    | ((with_reducible apply Only.foldl); on_goal 1 => intro x t ht)
    | split
    | ((with_reducible apply Only.step closeLoop_only); on_goal 1 => decide)
    | ((with_reducible apply Only.step sendRearm_only); on_goal 1 => decide)
    | ((with_reducible apply Only.step uninhibit_only); on_goal 1 => decide)
    | ((with_reducible apply Only.lit); intro p hp; cases p <;> first | exact absurd (by decide) hp | (have hq := (‹Only _ _ _›).same _ hp; exact hq) | exact rfl)

theorem bridgeStop_only {s : State} :
    Only [.rm, .fld, .lce] s (bridgeStop s) := by
  unfold bridgeStop
  repeat' first
    | with_reducible exact Only.refl
    | with_reducible assumption
    | (extract_lets +onlyGivenNames x; have ht := x.busRead; clear ht; refine Only.cut (x := x) ?_ (fun hx => ?_); (on_goal 1 => subst x); (on_goal 2 => clear_value x))
    | extract_lets +onlyGivenNames x
    | ((with_reducible apply Only.foldl); on_goal 1 => intro x t ht)
    | split
    | ((with_reducible apply Only.step modLce_only); on_goal 1 => decide)
    | ((with_reducible apply Only.step inhibit_only); on_goal 1 => decide)
    | ((with_reducible apply Only.step bridgeOff_only); on_goal 1 => decide)
    | ((with_reducible apply Only.step mirMode_only); on_goal 1 => decide)
    | ((with_reducible apply Only.lit); intro p hp; cases p <;> first | exact absurd (by decide) hp | (have hq := (‹Only _ _ _›).same _ hp; exact hq) | exact rfl)

theorem mirLive_only {m : Nat} {s : State} :
    Only [.rm, .lce] s (mirLive m s) := by
  unfold mirLive
  repeat' first
    | with_reducible exact Only.refl
    | with_reducible assumption
    | (extract_lets +onlyGivenNames x; have ht := x.busRead; clear ht; refine Only.cut (x := x) ?_ (fun hx => ?_); (on_goal 1 => subst x); (on_goal 2 => clear_value x))
    | extract_lets +onlyGivenNames x
    | ((with_reducible apply Only.foldl); on_goal 1 => intro x t ht)
    | split
    | ((with_reducible apply Only.step mirMode_only); on_goal 1 => decide)
    | ((with_reducible apply Only.lit); intro p hp; cases p <;> first | exact absurd (by decide) hp | (have hq := (‹Only _ _ _›).same _ hp; exact hq) | exact rfl)

theorem noSource_only {s : State} :
    Only [.dev, .rm, .fld, .lce, .adc, .saf, .car, .eic, .log, .pci, .slk, .rst, .out] s (noSource s) := by
  unfold noSource
  repeat' first
    | with_reducible exact Only.refl
    | with_reducible assumption
    | (extract_lets +onlyGivenNames x; have ht := x.busRead; clear ht; refine Only.cut (x := x) ?_ (fun hx => ?_); (on_goal 1 => subst x); (on_goal 2 => clear_value x))
    | extract_lets +onlyGivenNames x
    | ((with_reducible apply Only.foldl); on_goal 1 => intro x t ht)
    | split
    | ((with_reducible apply Only.step modLce_only); on_goal 1 => decide)
    | ((with_reducible apply Only.step logNow_only); on_goal 1 => decide)
    | ((with_reducible apply Only.step safeCause_only); on_goal 1 => decide)
    | ((with_reducible apply Only.step inhibit_only); on_goal 1 => decide)
    | ((with_reducible apply Only.step mirLive_only); on_goal 1 => decide)
    | ((with_reducible apply Only.lit); intro p hp; cases p <;> first | exact absurd (by decide) hp | (have hq := (‹Only _ _ _›).same _ hp; exact hq) | exact rfl)

theorem primaryLost_only {frozen : Bool} {t64 : BitVec 64} {s : State} :
    Only [.dev, .rm, .fld, .pt, .lce, .adc, .saf, .car, .eic, .log, .pci, .slk, .rst, .out] s (primaryLost frozen t64 s) := by
  unfold primaryLost
  repeat' first
    | with_reducible exact Only.refl
    | with_reducible assumption
    | (extract_lets +onlyGivenNames x; have ht := x.busRead; clear ht; refine Only.cut (x := x) ?_ (fun hx => ?_); (on_goal 1 => subst x); (on_goal 2 => clear_value x))
    | extract_lets +onlyGivenNames x
    | ((with_reducible apply Only.foldl); on_goal 1 => intro x t ht)
    | split
    | ((with_reducible apply Only.step injEnd_only); on_goal 1 => decide)
    | ((with_reducible apply Only.step modLce_only); on_goal 1 => decide)
    | ((with_reducible apply Only.step logAt_only); on_goal 1 => decide)
    | ((with_reducible apply Only.step cancelShots_only); on_goal 1 => decide)
    | ((with_reducible apply Only.step noSource_only); on_goal 1 => decide)
    | ((with_reducible apply Only.step mirLive_only); on_goal 1 => decide)
    | ((with_reducible apply Only.lit); intro p hp; cases p <;> first | exact absurd (by decide) hp | (have hq := (‹Only _ _ _›).same _ hp; exact hq) | exact rfl)

theorem secondaryLost_only {s : State} :
    Only [.dev, .rm, .fld, .pt, .lce, .adc, .saf, .car, .eic, .log, .pci, .slk, .rst, .out] s (secondaryLost s) := by
  unfold secondaryLost
  repeat' first
    | with_reducible exact Only.refl
    | with_reducible assumption
    | (extract_lets +onlyGivenNames x; have ht := x.busRead; clear ht; refine Only.cut (x := x) ?_ (fun hx => ?_); (on_goal 1 => subst x); (on_goal 2 => clear_value x))
    | extract_lets +onlyGivenNames x
    | ((with_reducible apply Only.foldl); on_goal 1 => intro x t ht)
    | split
    | ((with_reducible apply Only.step modLce_only); on_goal 1 => decide)
    | ((with_reducible apply Only.step injEnd_only); on_goal 1 => decide)
    | ((with_reducible apply Only.step logNow_only); on_goal 1 => decide)
    | ((with_reducible apply Only.step cancelShots_only); on_goal 1 => decide)
    | ((with_reducible apply Only.step noSource_only); on_goal 1 => decide)
    | ((with_reducible apply Only.lit); intro p hp; cases p <;> first | exact absurd (by decide) hp | (have hq := (‹Only _ _ _›).same _ hp; exact hq) | exact rfl)

theorem retryEnd_only {complete : Bool} {s : State} :
    Only [.rm, .lce, .eic, .log, .pci, .slk, .out] s (retryEnd complete s) := by
  unfold retryEnd
  repeat' first
    | with_reducible exact Only.refl
    | with_reducible assumption
    | (extract_lets +onlyGivenNames x; have ht := x.busRead; clear ht; refine Only.cut (x := x) ?_ (fun hx => ?_); (on_goal 1 => subst x); (on_goal 2 => clear_value x))
    | extract_lets +onlyGivenNames x
    | ((with_reducible apply Only.foldl); on_goal 1 => intro x t ht)
    | split
    | ((with_reducible apply Only.step modLce_only); on_goal 1 => decide)
    | ((with_reducible apply Only.step mirMode_only); on_goal 1 => decide)
    | ((with_reducible apply Only.step logNow_only); on_goal 1 => decide)
    | ((with_reducible apply Only.lit); intro p hp; cases p <;> first | exact absurd (by decide) hp | (have hq := (‹Only _ _ _›).same _ hp; exact hq) | exact rfl)

theorem confirmEnd_only {complete : Bool} {s : State} :
    Only [.rm, .fld, .lce, .saf, .out] s (confirmEnd complete s) := by
  unfold confirmEnd
  repeat' first
    | with_reducible exact Only.refl
    | with_reducible assumption
    | (extract_lets +onlyGivenNames x; have ht := x.busRead; clear ht; refine Only.cut (x := x) ?_ (fun hx => ?_); (on_goal 1 => subst x); (on_goal 2 => clear_value x))
    | extract_lets +onlyGivenNames x
    | ((with_reducible apply Only.foldl); on_goal 1 => intro x t ht)
    | split
    | ((with_reducible apply Only.step sendRearm_only); on_goal 1 => decide)
    | ((with_reducible apply Only.step modLce_only); on_goal 1 => decide)
    | ((with_reducible apply Only.step safeClear_only); on_goal 1 => decide)
    | ((with_reducible apply Only.step uninhibit_only); on_goal 1 => decide)
    | ((with_reducible apply Only.lit); intro p hp; cases p <;> first | exact absurd (by decide) hp | (have hq := (‹Only _ _ _›).same _ hp; exact hq) | exact rfl)

theorem faultEnd_only {complete : Bool} {s : State} :
    Only [.rm, .fld, .lce, .saf, .out] s (faultEnd complete s) := by
  unfold faultEnd
  repeat' first
    | with_reducible exact Only.refl
    | with_reducible assumption
    | (extract_lets +onlyGivenNames x; have ht := x.busRead; clear ht; refine Only.cut (x := x) ?_ (fun hx => ?_); (on_goal 1 => subst x); (on_goal 2 => clear_value x))
    | extract_lets +onlyGivenNames x
    | ((with_reducible apply Only.foldl); on_goal 1 => intro x t ht)
    | split
    | ((with_reducible apply Only.step bridgeStart_only); on_goal 1 => decide)
    | ((with_reducible apply Only.step safeClear_only); on_goal 1 => decide)
    | ((with_reducible apply Only.step modLce_only); on_goal 1 => decide)
    | ((with_reducible apply Only.lit); intro p hp; cases p <;> first | exact absurd (by decide) hp | (have hq := (‹Only _ _ _›).same _ hp; exact hq) | exact rfl)

theorem mirrorFrameEnd_only {complete : Bool} {s : State} :
    Only [.rm, .fld, .lce, .saf, .eic, .log, .pci, .slk, .out] s (mirrorFrameEnd complete s) := by
  unfold mirrorFrameEnd
  repeat' first
    | with_reducible exact Only.refl
    | with_reducible assumption
    | (extract_lets +onlyGivenNames x; have ht := x.busRead; clear ht; refine Only.cut (x := x) ?_ (fun hx => ?_); (on_goal 1 => subst x); (on_goal 2 => clear_value x))
    | extract_lets +onlyGivenNames x
    | ((with_reducible apply Only.foldl); on_goal 1 => intro x t ht)
    | split
    | ((with_reducible apply Only.step confirmEnd_only); on_goal 1 => decide)
    | ((with_reducible apply Only.step faultEnd_only); on_goal 1 => decide)
    | ((with_reducible apply Only.step retryEnd_only); on_goal 1 => decide)
    | ((with_reducible apply Only.step modLce_only); on_goal 1 => decide)
    | ((with_reducible apply Only.lit); intro p hp; cases p <;> first | exact absurd (by decide) hp | (have hq := (‹Only _ _ _›).same _ hp; exact hq) | exact rfl)

theorem mirrorFrameStart_only {f : FrameP} {s : State} :
    Only [.lce, .eic, .log, .pci, .slk, .out] s (mirrorFrameStart f s) := by
  unfold mirrorFrameStart
  repeat' first
    | with_reducible exact Only.refl
    | with_reducible assumption
    | (extract_lets +onlyGivenNames x; have ht := x.busRead; clear ht; refine Only.cut (x := x) ?_ (fun hx => ?_); (on_goal 1 => subst x); (on_goal 2 => clear_value x))
    | extract_lets +onlyGivenNames x
    | ((with_reducible apply Only.foldl); on_goal 1 => intro x t ht)
    | split
    | ((with_reducible apply Only.step modLce_only); on_goal 1 => decide)
    | ((with_reducible apply Only.step logNow_only); on_goal 1 => decide)
    | ((with_reducible apply Only.lit); intro p hp; cases p <;> first | exact absurd (by decide) hp | (have hq := (‹Only _ _ _›).same _ hp; exact hq) | exact rfl)

end Sys2Proof
end

