-- ==== Sys2Proof/Laws/OnlyScan.lean ====
section
/-!
SUPPORT. Frames: what the operations on stamps, engines, interrupts, links, fields and the plan change.
-/
namespace Sys2Proof

open Sys2Proof.Machine

set_option linter.unusedTactic false
set_option linter.unreachableTactic false
set_option linter.tactic.unusedName false

theorem ambientUpdate_only {sh : Shot} {guard : Nat} {s : State} {c : Nat} :
    Only [.chan] s (ambientUpdate sh guard s c) := by
  unfold ambientUpdate
  repeat' first
    | with_reducible exact Only.refl
    | with_reducible assumption
    | (extract_lets +onlyGivenNames x; have ht := x.busRead; clear ht; refine Only.cut (x := x) ?_ (fun hx => ?_); (on_goal 1 => subst x); (on_goal 2 => clear_value x))
    | extract_lets +onlyGivenNames x
    | ((with_reducible apply Only.foldl); on_goal 1 => intro x t ht)
    | split
    | ((with_reducible apply Only.step modChan_only); on_goal 1 => decide)
    | ((with_reducible apply Only.lit); intro p hp; cases p <;> first | exact absurd (by decide) hp | (have hq := (‹Only _ _ _›).same _ hp; exact hq) | exact rfl)

theorem monMask_only {b : Nat} {x : BankS} {t64 : BitVec 64} {s : State} :
    Only [.car, .eic, .log, .pci, .slk, .out] s (monMask b x t64 s) := by
  unfold monMask
  repeat' first
    | with_reducible exact Only.refl
    | with_reducible assumption
    | (extract_lets +onlyGivenNames x; have ht := x.busRead; clear ht; refine Only.cut (x := x) ?_ (fun hx => ?_); (on_goal 1 => subst x); (on_goal 2 => clear_value x))
    | extract_lets +onlyGivenNames x
    | ((with_reducible apply Only.foldl); on_goal 1 => intro x t ht)
    | split
    | ((with_reducible apply Only.step maskSample_only); on_goal 1 => decide)
    | ((with_reducible apply Only.lit); intro p hp; cases p <;> first | exact absurd (by decide) hp | (have hq := (‹Only _ _ _›).same _ hp; exact hq) | exact rfl)

theorem finishShot_only {b : Nat} {s : State} :
    Only [.fld, .chan, .car, .eic, .log, .pci, .slk, .out] s (finishShot b s) := by
  unfold finishShot
  repeat' first
    | with_reducible exact Only.refl
    | with_reducible assumption
    | (extract_lets +onlyGivenNames x; have ht := x.busRead; clear ht; refine Only.cut (x := x) ?_ (fun hx => ?_); (on_goal 1 => subst x); (on_goal 2 => clear_value x))
    | extract_lets +onlyGivenNames x
    | ((with_reducible apply Only.foldl); on_goal 1 => intro x t ht)
    | split
    | ((with_reducible apply Only.step recItem_only); on_goal 1 => decide)
    | ((with_reducible apply Only.step ambientUpdate_only); on_goal 1 => decide)
    | ((with_reducible apply Only.step monMask_only); on_goal 1 => decide)
    | ((with_reducible apply Only.step modBank_only); on_goal 1 => decide)
    | ((with_reducible apply Only.lit); intro p hp; cases p <;> first | exact absurd (by decide) hp | (have hq := (‹Only _ _ _›).same _ hp; exact hq) | exact rfl)

theorem channelMiss_only {sh : Shot} {s : State} {c : Nat} :
    Only [.chan] s (channelMiss sh s c) := by
  unfold channelMiss
  repeat' first
    | with_reducible exact Only.refl
    | with_reducible assumption
    | (extract_lets +onlyGivenNames x; have ht := x.busRead; clear ht; refine Only.cut (x := x) ?_ (fun hx => ?_); (on_goal 1 => subst x); (on_goal 2 => clear_value x))
    | extract_lets +onlyGivenNames x
    | ((with_reducible apply Only.foldl); on_goal 1 => intro x t ht)
    | split
    | ((with_reducible apply Only.step modChan_only); on_goal 1 => decide)
    | ((with_reducible apply Only.lit); intro p hp; cases p <;> first | exact absurd (by decide) hp | (have hq := (‹Only _ _ _›).same _ hp; exact hq) | exact rfl)

theorem channelOpen_only {sh : Shot} {s : State} {c : Nat} :
    Only [.chan] s (channelOpen sh s c) := by
  unfold channelOpen
  repeat' first
    | with_reducible exact Only.refl
    | with_reducible assumption
    | (extract_lets +onlyGivenNames x; have ht := x.busRead; clear ht; refine Only.cut (x := x) ?_ (fun hx => ?_); (on_goal 1 => subst x); (on_goal 2 => clear_value x))
    | extract_lets +onlyGivenNames x
    | ((with_reducible apply Only.foldl); on_goal 1 => intro x t ht)
    | split
    | ((with_reducible apply Only.step modChan_only); on_goal 1 => decide)
    | ((with_reducible apply Only.lit); intro p hp; cases p <;> first | exact absurd (by decide) hp | (have hq := (‹Only _ _ _›).same _ hp; exact hq) | exact rfl)

theorem startStamp_only {b c : Nat} {s : State} :
    Only [.fld, .chan, .lce, .car, .eic, .log, .pci, .slk, .out] s (startStamp b c s) := by
  unfold startStamp
  repeat' first
    | with_reducible exact Only.refl
    | with_reducible assumption
    | (extract_lets +onlyGivenNames x; have ht := x.busRead; clear ht; refine Only.cut (x := x) ?_ (fun hx => ?_); (on_goal 1 => subst x); (on_goal 2 => clear_value x))
    | extract_lets +onlyGivenNames x
    | ((with_reducible apply Only.foldl); on_goal 1 => intro x t ht)
    | split
    | ((with_reducible apply Only.step modBank_only); on_goal 1 => decide)
    | ((with_reducible apply Only.step finishShot_only); on_goal 1 => decide)
    | ((with_reducible apply Only.step azCount_only); on_goal 1 => decide)
    | ((with_reducible apply Only.step channelOpen_only); on_goal 1 => decide)
    | ((with_reducible apply Only.step modFld_only); on_goal 1 => decide)
    | ((with_reducible apply Only.step logNow_only); on_goal 1 => decide)
    | ((with_reducible apply Only.lit); intro p hp; cases p <;> first | exact absurd (by decide) hp | (have hq := (‹Only _ _ _›).same _ hp; exact hq) | exact rfl)

theorem holdEdge_only {b : Nat} {e : EarlyE} {s : State} :
    Only [.fld] s (holdEdge b e s) := by
  unfold holdEdge
  repeat' first
    | with_reducible exact Only.refl
    | with_reducible assumption
    | (extract_lets +onlyGivenNames x; have ht := x.busRead; clear ht; refine Only.cut (x := x) ?_ (fun hx => ?_); (on_goal 1 => subst x); (on_goal 2 => clear_value x))
    | extract_lets +onlyGivenNames x
    | ((with_reducible apply Only.foldl); on_goal 1 => intro x t ht)
    | split
    | ((with_reducible apply Only.step modBank_only); on_goal 1 => decide)
    | ((with_reducible apply Only.lit); intro p hp; cases p <;> first | exact absurd (by decide) hp | (have hq := (‹Only _ _ _›).same _ hp; exact hq) | exact rfl)

theorem lineHit_only {l c : Nat} {s : State} :
    Only [.ts] s (lineHit l c s) := by
  unfold lineHit
  repeat' first
    | with_reducible exact Only.refl
    | with_reducible assumption
    | (extract_lets +onlyGivenNames x; have ht := x.busRead; clear ht; refine Only.cut (x := x) ?_ (fun hx => ?_); (on_goal 1 => subst x); (on_goal 2 => clear_value x))
    | extract_lets +onlyGivenNames x
    | ((with_reducible apply Only.foldl); on_goal 1 => intro x t ht)
    | split
    | ((with_reducible apply Only.step modLine_only); on_goal 1 => decide)
    | ((with_reducible apply Only.lit); intro p hp; cases p <;> first | exact absurd (by decide) hp | (have hq := (‹Only _ _ _›).same _ hp; exact hq) | exact rfl)

theorem lineUnhit_only {l c : Nat} {s : State} :
    Only [.ts] s (lineUnhit l c s) := by
  unfold lineUnhit
  repeat' first
    | with_reducible exact Only.refl
    | with_reducible assumption
    | (extract_lets +onlyGivenNames x; have ht := x.busRead; clear ht; refine Only.cut (x := x) ?_ (fun hx => ?_); (on_goal 1 => subst x); (on_goal 2 => clear_value x))
    | extract_lets +onlyGivenNames x
    | ((with_reducible apply Only.foldl); on_goal 1 => intro x t ht)
    | split
    | ((with_reducible apply Only.step modLine_only); on_goal 1 => decide)
    | ((with_reducible apply Only.lit); intro p hp; cases p <;> first | exact absurd (by decide) hp | (have hq := (‹Only _ _ _›).same _ hp; exact hq) | exact rfl)

theorem startUndo_only {b : Nat} {s : State} :
    Only [.fld, .chan] s (startUndo b s) := by
  unfold startUndo
  repeat' first
    | with_reducible exact Only.refl
    | with_reducible assumption
    | (extract_lets +onlyGivenNames x; have ht := x.busRead; clear ht; refine Only.cut (x := x) ?_ (fun hx => ?_); (on_goal 1 => subst x); (on_goal 2 => clear_value x))
    | extract_lets +onlyGivenNames x
    | ((with_reducible apply Only.foldl); on_goal 1 => intro x t ht)
    | split
    | ((with_reducible apply Only.step modBank_only); on_goal 1 => decide)
    | ((with_reducible apply Only.step modChan_only); on_goal 1 => decide)
    | ((with_reducible apply Only.lit); intro p hp; cases p <;> first | exact absurd (by decide) hp | (have hq := (‹Only _ _ _›).same _ hp; exact hq) | exact rfl)

theorem monUndo_only {b k : Nat} {e : LastE} {s : State} :
    Only [.fld, .chan, .ts] s (monUndo b k e s) := by
  unfold monUndo
  repeat' first
    | with_reducible exact Only.refl
    | with_reducible assumption
    | (extract_lets +onlyGivenNames x; have ht := x.busRead; clear ht; refine Only.cut (x := x) ?_ (fun hx => ?_); (on_goal 1 => subst x); (on_goal 2 => clear_value x))
    | extract_lets +onlyGivenNames x
    | ((with_reducible apply Only.foldl); on_goal 1 => intro x t ht)
    | split
    | ((with_reducible apply Only.step modBank_only); on_goal 1 => decide)
    | ((with_reducible apply Only.step startUndo_only); on_goal 1 => decide)
    | ((with_reducible apply Only.step lineUnhit_only); on_goal 1 => decide)
    | ((with_reducible apply Only.lit); intro p hp; cases p <;> first | exact absurd (by decide) hp | (have hq := (‹Only _ _ _›).same _ hp; exact hq) | exact rfl)

theorem monCrossing_only {b k : Nat} {rise : Bool} {c : Nat} {s : State} :
    Only [.fld, .chan, .ts] s (monCrossing b k rise c s) := by
  unfold monCrossing
  repeat' first
    | with_reducible exact Only.refl
    | with_reducible assumption
    | (extract_lets +onlyGivenNames x; have ht := x.busRead; clear ht; refine Only.cut (x := x) ?_ (fun hx => ?_); (on_goal 1 => subst x); (on_goal 2 => clear_value x))
    | extract_lets +onlyGivenNames x
    | ((with_reducible apply Only.foldl); on_goal 1 => intro x t ht)
    | split
    | ((with_reducible apply Only.step modBank_only); on_goal 1 => decide)
    | ((with_reducible apply Only.step monUndo_only); on_goal 1 => decide)
    | ((with_reducible apply Only.step lineHit_only); on_goal 1 => decide)
    | ((with_reducible apply Only.lit); intro p hp; cases p <;> first | exact absurd (by decide) hp | (have hq := (‹Only _ _ _›).same _ hp; exact hq) | exact rfl)

theorem noteEdge_only {ch k : Nat} {e : LastE} {s : State} :
    Only [.chan] s (noteEdge ch k e s) := by
  unfold noteEdge
  repeat' first
    | with_reducible exact Only.refl
    | with_reducible assumption
    | (extract_lets +onlyGivenNames x; have ht := x.busRead; clear ht; refine Only.cut (x := x) ?_ (fun hx => ?_); (on_goal 1 => subst x); (on_goal 2 => clear_value x))
    | extract_lets +onlyGivenNames x
    | ((with_reducible apply Only.foldl); on_goal 1 => intro x t ht)
    | split
    | ((with_reducible apply Only.step modChan_only); on_goal 1 => decide)
    | ((with_reducible apply Only.lit); intro p hp; cases p <;> first | exact absurd (by decide) hp | (have hq := (‹Only _ _ _›).same _ hp; exact hq) | exact rfl)

theorem inWindow_only {b ch k : Nat} {rise : Bool} {fx : Int} {time : Nat} {s : State} :
    Only [.chan, .rj] s (inWindow b ch k rise fx time s) := by
  unfold inWindow
  repeat' first
    | with_reducible exact Only.refl
    | with_reducible assumption
    | (extract_lets +onlyGivenNames x; have ht := x.busRead; clear ht; refine Only.cut (x := x) ?_ (fun hx => ?_); (on_goal 1 => subst x); (on_goal 2 => clear_value x))
    | extract_lets +onlyGivenNames x
    | ((with_reducible apply Only.foldl); on_goal 1 => intro x t ht)
    | split
    | ((with_reducible apply Only.step noteEdge_only); on_goal 1 => decide)
    | ((with_reducible apply Only.step modChan_only); on_goal 1 => decide)
    | ((with_reducible apply Only.step modRj_only); on_goal 1 => decide)
    | ((with_reducible apply Only.lit); intro p hp; cases p <;> first | exact absurd (by decide) hp | (have hq := (‹Only _ _ _›).same _ hp; exact hq) | exact rfl)

theorem inGuard_only {sh : Shot} {b ch k : Nat} {rise : Bool} {c : Nat} {fx : Int} {time dt : Nat} {s : State} :
    Only [.chan, .rj, .ts] s (inGuard sh b ch k rise c fx time dt s) := by
  unfold inGuard
  repeat' first
    | with_reducible exact Only.refl
    | with_reducible assumption
    | (extract_lets +onlyGivenNames x; have ht := x.busRead; clear ht; refine Only.cut (x := x) ?_ (fun hx => ?_); (on_goal 1 => subst x); (on_goal 2 => clear_value x))
    | extract_lets +onlyGivenNames x
    | ((with_reducible apply Only.foldl); on_goal 1 => intro x t ht)
    | split
    | ((with_reducible apply Only.step noteEdge_only); on_goal 1 => decide)
    | ((with_reducible apply Only.step modRj_only); on_goal 1 => decide)
    | ((with_reducible apply Only.step modChan_only); on_goal 1 => decide)
    | ((with_reducible apply Only.step lineHit_only); on_goal 1 => decide)
    | ((with_reducible apply Only.lit); intro p hp; cases p <;> first | exact absurd (by decide) hp | (have hq := (‹Only _ _ _›).same _ hp; exact hq) | exact rfl)

theorem histAccumulate_only {s : State} {c : Nat} :
    Only [.chan] s (histAccumulate s c) := by
  unfold histAccumulate
  repeat' first
    | with_reducible exact Only.refl
    | with_reducible assumption
    | (extract_lets +onlyGivenNames x; have ht := x.busRead; clear ht; refine Only.cut (x := x) ?_ (fun hx => ?_); (on_goal 1 => subst x); (on_goal 2 => clear_value x))
    | extract_lets +onlyGivenNames x
    | ((with_reducible apply Only.foldl); on_goal 1 => intro x t ht)
    | split
    | ((with_reducible apply Only.step modChan_only); on_goal 1 => decide)
    | ((with_reducible apply Only.lit); intro p hp; cases p <;> first | exact absurd (by decide) hp | (have hq := (‹Only _ _ _›).same _ hp; exact hq) | exact rfl)

theorem histUndo_only {s : State} {c : Nat} :
    Only [.chan] s (histUndo s c) := by
  unfold histUndo
  repeat' first
    | with_reducible exact Only.refl
    | with_reducible assumption
    | (extract_lets +onlyGivenNames x; have ht := x.busRead; clear ht; refine Only.cut (x := x) ?_ (fun hx => ?_); (on_goal 1 => subst x); (on_goal 2 => clear_value x))
    | extract_lets +onlyGivenNames x
    | ((with_reducible apply Only.foldl); on_goal 1 => intro x t ht)
    | split
    | ((with_reducible apply Only.step modChan_only); on_goal 1 => decide)
    | ((with_reducible apply Only.lit); intro p hp; cases p <;> first | exact absurd (by decide) hp | (have hq := (‹Only _ _ _›).same _ hp; exact hq) | exact rfl)

theorem closedUndo_only {sh : Shot} {b ch : Nat} {had : Bool} {s : State} :
    Only [.fld, .chan, .ee] s (closedUndo sh b ch had s) := by
  unfold closedUndo
  repeat' first
    | with_reducible exact Only.refl
    | with_reducible assumption
    | (extract_lets +onlyGivenNames x; have ht := x.busRead; clear ht; refine Only.cut (x := x) ?_ (fun hx => ?_); (on_goal 1 => subst x); (on_goal 2 => clear_value x))
    | extract_lets +onlyGivenNames x
    | ((with_reducible apply Only.foldl); on_goal 1 => intro x t ht)
    | split
    | ((with_reducible apply Only.step modEe_only); on_goal 1 => decide)
    | ((with_reducible apply Only.step modChan_only); on_goal 1 => decide)
    | ((with_reducible apply Only.step histAccumulate_only); on_goal 1 => decide)
    | ((with_reducible apply Only.step histUndo_only); on_goal 1 => decide)
    | ((with_reducible apply Only.step modBank_only); on_goal 1 => decide)
    | ((with_reducible apply Only.lit); intro p hp; cases p <;> first | exact absurd (by decide) hp | (have hq := (‹Only _ _ _›).same _ hp; exact hq) | exact rfl)

theorem edgeUndo_only {b ch k : Nat} {e : LastE} {s : State} :
    Only [.fld, .chan, .ee, .rj, .ts] s (edgeUndo b ch k e s) := by
  unfold edgeUndo
  repeat' first
    | with_reducible exact Only.refl
    | with_reducible assumption
    | (extract_lets +onlyGivenNames x; have ht := x.busRead; clear ht; refine Only.cut (x := x) ?_ (fun hx => ?_); (on_goal 1 => subst x); (on_goal 2 => clear_value x))
    | extract_lets +onlyGivenNames x
    | ((with_reducible apply Only.foldl); on_goal 1 => intro x t ht)
    | split
    | ((with_reducible apply Only.step modChan_only); on_goal 1 => decide)
    | ((with_reducible apply Only.step modRj_only); on_goal 1 => decide)
    | ((with_reducible apply Only.step lineUnhit_only); on_goal 1 => decide)
    | ((with_reducible apply Only.step closedUndo_only); on_goal 1 => decide)
    | ((with_reducible apply Only.lit); intro p hp; cases p <;> first | exact absurd (by decide) hp | (have hq := (‹Only _ _ _›).same _ hp; exact hq) | exact rfl)

theorem crossingAt_only {inp thr : Nat} {rise : Bool} {c : Nat} {s : State} :
    Only [.fld, .chan, .ee, .rj, .ts] s (crossingAt inp thr rise c s) := by
  unfold crossingAt
  repeat' first
    | with_reducible exact Only.refl
    | with_reducible assumption
    | (extract_lets +onlyGivenNames x; have ht := x.busRead; clear ht; refine Only.cut (x := x) ?_ (fun hx => ?_); (on_goal 1 => subst x); (on_goal 2 => clear_value x))
    | extract_lets +onlyGivenNames x
    | ((with_reducible apply Only.foldl); on_goal 1 => intro x t ht)
    | split
    | ((with_reducible apply Only.step monCrossing_only); on_goal 1 => decide)
    | ((with_reducible apply Only.step modChan_only); on_goal 1 => decide)
    | ((with_reducible apply Only.step edgeUndo_only); on_goal 1 => decide)
    | ((with_reducible apply Only.step noteEdge_only); on_goal 1 => decide)
    | ((with_reducible apply Only.step inWindow_only); on_goal 1 => decide)
    | ((with_reducible apply Only.step inGuard_only); on_goal 1 => decide)
    | ((with_reducible apply Only.lit); intro p hp; cases p <;> first | exact absurd (by decide) hp | (have hq := (‹Only _ _ _›).same _ hp; exact hq) | exact rfl)

theorem replayEarly_only {b : Nat} {s : State} :
    Only [.tb, .fld, .chan, .ee, .rj, .ts, .lce, .car, .eic, .log, .pci, .slk, .out] s (replayEarly b s) := by
  unfold replayEarly
  repeat' first
    | with_reducible exact Only.refl
    | with_reducible assumption
    | (extract_lets +onlyGivenNames x; have ht := x.busRead; clear ht; refine Only.cut (x := x) ?_ (fun hx => ?_); (on_goal 1 => subst x); (on_goal 2 => clear_value x))
    | extract_lets +onlyGivenNames x
    | ((with_reducible apply Only.foldl); on_goal 1 => intro x t ht)
    | split
    | ((with_reducible apply Only.step modBank_only); on_goal 1 => decide)
    | ((with_reducible apply Only.step startStamp_only); on_goal 1 => decide)
    | ((with_reducible apply Only.step crossingAt_only); on_goal 1 => decide)
    | ((with_reducible apply Only.lit); intro p hp; cases p <;> first | exact absurd (by decide) hp | (have hq := (‹Only _ _ _›).same _ hp; exact hq) | exact rfl)

theorem closeFrame_only {aborted : Bool} {tEnd : BitVec 64} {s : State} :
    Only [.rm, .rj, .pt] s (closeFrame aborted tEnd s) := by
  unfold closeFrame
  repeat' first
    | with_reducible exact Only.refl
    | with_reducible assumption
    | (extract_lets +onlyGivenNames x; have ht := x.busRead; clear ht; refine Only.cut (x := x) ?_ (fun hx => ?_); (on_goal 1 => subst x); (on_goal 2 => clear_value x))
    | extract_lets +onlyGivenNames x
    | ((with_reducible apply Only.foldl); on_goal 1 => intro x t ht)
    | split
    | ((with_reducible apply Only.step releaseMiss_only); on_goal 1 => decide)
    | ((with_reducible apply Only.step modPt_only); on_goal 1 => decide)
    | ((with_reducible apply Only.step modRj_only); on_goal 1 => decide)
    | ((with_reducible apply Only.step modRm_only); on_goal 1 => decide)
    | ((with_reducible apply Only.lit); intro p hp; cases p <;> first | exact absurd (by decide) hp | (have hq := (‹Only _ _ _›).same _ hp; exact hq) | exact rfl)

theorem endRuns_only {s : State} :
    Only [.fld, .chan, .pt, .lce, .fe] s (endRuns s) := by
  unfold endRuns
  repeat' first
    | with_reducible exact Only.refl
    | with_reducible assumption
    | (extract_lets +onlyGivenNames x; have ht := x.busRead; clear ht; refine Only.cut (x := x) ?_ (fun hx => ?_); (on_goal 1 => subst x); (on_goal 2 => clear_value x))
    | extract_lets +onlyGivenNames x
    | ((with_reducible apply Only.foldl); on_goal 1 => intro x t ht)
    | split
    | ((with_reducible apply Only.step modLce_only); on_goal 1 => decide)
    | ((with_reducible apply Only.lit); intro p hp; cases p <;> first | exact absurd (by decide) hp | (have hq := (‹Only _ _ _›).same _ hp; exact hq) | exact rfl)

theorem moveStart_only {s : State} :
    Only [.lce] s (moveStart s) := by
  unfold moveStart
  repeat' first
    | with_reducible exact Only.refl
    | with_reducible assumption
    | (extract_lets +onlyGivenNames x; have ht := x.busRead; clear ht; refine Only.cut (x := x) ?_ (fun hx => ?_); (on_goal 1 => subst x); (on_goal 2 => clear_value x))
    | extract_lets +onlyGivenNames x
    | ((with_reducible apply Only.foldl); on_goal 1 => intro x t ht)
    | split
    | ((with_reducible apply Only.step modLce_only); on_goal 1 => decide)
    | ((with_reducible apply Only.lit); intro p hp; cases p <;> first | exact absurd (by decide) hp | (have hq := (‹Only _ _ _›).same _ hp; exact hq) | exact rfl)

theorem abortFrame_only {tEnd : BitVec 64} {s : State} :
    Only [.rm, .fld, .chan, .rj, .pt, .lce, .fe] s (abortFrame tEnd s) := by
  unfold abortFrame
  repeat' first
    | with_reducible exact Only.refl
    | with_reducible assumption
    | (extract_lets +onlyGivenNames x; have ht := x.busRead; clear ht; refine Only.cut (x := x) ?_ (fun hx => ?_); (on_goal 1 => subst x); (on_goal 2 => clear_value x))
    | extract_lets +onlyGivenNames x
    | ((with_reducible apply Only.foldl); on_goal 1 => intro x t ht)
    | split
    | ((with_reducible apply Only.step skipShot_only); on_goal 1 => decide)
    | ((with_reducible apply Only.step closeFrame_only); on_goal 1 => decide)
    | ((with_reducible apply Only.step moveStart_only); on_goal 1 => decide)
    | ((with_reducible apply Only.step endRuns_only); on_goal 1 => decide)
    | ((with_reducible apply Only.step modRm_only); on_goal 1 => decide)
    | ((with_reducible apply Only.lit); intro p hp; cases p <;> first | exact absurd (by decide) hp | (have hq := (‹Only _ _ _›).same _ hp; exact hq) | exact rfl)

theorem leavePhases_only {s : State} :
    Only [.rm, .fld, .chan, .rj, .pt, .lce, .fe] s (leavePhases s) := by
  unfold leavePhases
  repeat' first
    | with_reducible exact Only.refl
    | with_reducible assumption
    | (extract_lets +onlyGivenNames x; have ht := x.busRead; clear ht; refine Only.cut (x := x) ?_ (fun hx => ?_); (on_goal 1 => subst x); (on_goal 2 => clear_value x))
    | extract_lets +onlyGivenNames x
    | ((with_reducible apply Only.foldl); on_goal 1 => intro x t ht)
    | split
    | ((with_reducible apply Only.step modRm_only); on_goal 1 => decide)
    | ((with_reducible apply Only.step abortFrame_only); on_goal 1 => decide)
    | ((with_reducible apply Only.lit); intro p hp; cases p <;> first | exact absurd (by decide) hp | (have hq := (‹Only _ _ _›).same _ hp; exact hq) | exact rfl)

theorem stopPhases_only {tEnd : BitVec 64} {s : State} :
    Only [.tb, .rm, .fld, .chan, .ee, .rj, .ts, .pt, .lce, .fe, .car, .eic, .log, .pci, .slk, .out] s (stopPhases tEnd s) := by
  unfold stopPhases
  repeat' first
    | with_reducible exact Only.refl
    | with_reducible assumption
    | (extract_lets +onlyGivenNames x; have ht := x.busRead; clear ht; refine Only.cut (x := x) ?_ (fun hx => ?_); (on_goal 1 => subst x); (on_goal 2 => clear_value x))
    | extract_lets +onlyGivenNames x
    | ((with_reducible apply Only.foldl); on_goal 1 => intro x t ht)
    | split
    | ((with_reducible apply Only.step abortFrame_only); on_goal 1 => decide)
    | ((with_reducible apply Only.step cancelShots_only); on_goal 1 => decide)
    | ((with_reducible apply Only.step replayEarly_only); on_goal 1 => decide)
    | ((with_reducible apply Only.step modRm_only); on_goal 1 => decide)
    | ((with_reducible apply Only.step modFld_only); on_goal 1 => decide)
    | ((with_reducible apply Only.step modRj_only); on_goal 1 => decide)
    | ((with_reducible apply Only.lit); intro p hp; cases p <;> first | exact absurd (by decide) hp | (have hq := (‹Only _ _ _›).same _ hp; exact hq) | exact rfl)

theorem refreshStale_only {s : State} {c : Nat} :
    Only [.chan, .eic, .log, .pci, .slk, .out] s (refreshStale s c) := by
  unfold refreshStale
  repeat' first
    | with_reducible exact Only.refl
    | with_reducible assumption
    | (extract_lets +onlyGivenNames x; have ht := x.busRead; clear ht; refine Only.cut (x := x) ?_ (fun hx => ?_); (on_goal 1 => subst x); (on_goal 2 => clear_value x))
    | extract_lets +onlyGivenNames x
    | ((with_reducible apply Only.foldl); on_goal 1 => intro x t ht)
    | split
    | ((with_reducible apply Only.step modChan_only); on_goal 1 => decide)
    | ((with_reducible apply Only.step logNow_only); on_goal 1 => decide)
    | ((with_reducible apply Only.lit); intro p hp; cases p <;> first | exact absurd (by decide) hp | (have hq := (‹Only _ _ _›).same _ hp; exact hq) | exact rfl)

theorem refreshMon_only {s : State} {b : Nat} :
    Only [.chan, .ts, .eic, .log, .pci, .slk, .out] s (refreshMon s b) := by
  unfold refreshMon
  repeat' first
    | with_reducible exact Only.refl
    | with_reducible assumption
    | (extract_lets +onlyGivenNames x; have ht := x.busRead; clear ht; refine Only.cut (x := x) ?_ (fun hx => ?_); (on_goal 1 => subst x); (on_goal 2 => clear_value x))
    | extract_lets +onlyGivenNames x
    | ((with_reducible apply Only.foldl); on_goal 1 => intro x t ht)
    | split
    | ((with_reducible apply Only.step modTs_only); on_goal 1 => decide)
    | ((with_reducible apply Only.step refreshStale_only); on_goal 1 => decide)
    | ((with_reducible apply Only.lit); intro p hp; cases p <;> first | exact absurd (by decide) hp | (have hq := (‹Only _ _ _›).same _ hp; exact hq) | exact rfl)

theorem refreshLine_only {l : Nat} {s : State} :
    Only [.chan, .ts, .eic, .log, .pci, .slk, .out] s (refreshLine l s) := by
  unfold refreshLine
  repeat' first
    | with_reducible exact Only.refl
    | with_reducible assumption
    | (extract_lets +onlyGivenNames x; have ht := x.busRead; clear ht; refine Only.cut (x := x) ?_ (fun hx => ?_); (on_goal 1 => subst x); (on_goal 2 => clear_value x))
    | extract_lets +onlyGivenNames x
    | ((with_reducible apply Only.foldl); on_goal 1 => intro x t ht)
    | split
    | ((with_reducible apply Only.step refreshStale_only); on_goal 1 => decide)
    | ((with_reducible apply Only.step refreshMon_only); on_goal 1 => decide)
    | ((with_reducible apply Only.lit); intro p hp; cases p <;> first | exact absurd (by decide) hp | (have hq := (‹Only _ _ _›).same _ hp; exact hq) | exact rfl)

theorem buildRestart_only {l : Nat} {s : State} :
    Only [.ts] s (buildRestart l s) := by
  unfold buildRestart
  repeat' first
    | with_reducible exact Only.refl
    | with_reducible assumption
    | (extract_lets +onlyGivenNames x; have ht := x.busRead; clear ht; refine Only.cut (x := x) ?_ (fun hx => ?_); (on_goal 1 => subst x); (on_goal 2 => clear_value x))
    | extract_lets +onlyGivenNames x
    | ((with_reducible apply Only.foldl); on_goal 1 => intro x t ht)
    | split
    | ((with_reducible apply Only.step modLine_only); on_goal 1 => decide)
    | ((with_reducible apply Only.lit); intro p hp; cases p <;> first | exact absurd (by decide) hp | (have hq := (‹Only _ _ _›).same _ hp; exact hq) | exact rfl)

theorem lineSwap_only {s : State} {l : Nat} :
    Only [.chan, .ts, .eic, .log, .pci, .slk, .out] s (lineSwap s l) := by
  unfold lineSwap
  repeat' first
    | with_reducible exact Only.refl
    | with_reducible assumption
    | (extract_lets +onlyGivenNames x; have ht := x.busRead; clear ht; refine Only.cut (x := x) ?_ (fun hx => ?_); (on_goal 1 => subst x); (on_goal 2 => clear_value x))
    | extract_lets +onlyGivenNames x
    | ((with_reducible apply Only.foldl); on_goal 1 => intro x t ht)
    | split
    | ((with_reducible apply Only.step modLine_only); on_goal 1 => decide)
    | ((with_reducible apply Only.step modTs_only); on_goal 1 => decide)
    | ((with_reducible apply Only.step modChan_only); on_goal 1 => decide)
    | ((with_reducible apply Only.step refreshLine_only); on_goal 1 => decide)
    | ((with_reducible apply Only.lit); intro p hp; cases p <;> first | exact absurd (by decide) hp | (have hq := (‹Only _ _ _›).same _ hp; exact hq) | exact rfl)

theorem setSwap_only {s : State} {c : Nat} :
    Only [.chan, .ts, .eic, .log, .pci, .slk, .out] s (setSwap s c) := by
  unfold setSwap
  repeat' first
    | with_reducible exact Only.refl
    | with_reducible assumption
    | (extract_lets +onlyGivenNames x; have ht := x.busRead; clear ht; refine Only.cut (x := x) ?_ (fun hx => ?_); (on_goal 1 => subst x); (on_goal 2 => clear_value x))
    | extract_lets +onlyGivenNames x
    | ((with_reducible apply Only.foldl); on_goal 1 => intro x t ht)
    | split
    | ((with_reducible apply Only.step modChan_only); on_goal 1 => decide)
    | ((with_reducible apply Only.step modTs_only); on_goal 1 => decide)
    | ((with_reducible apply Only.step refreshStale_only); on_goal 1 => decide)
    | ((with_reducible apply Only.lit); intro p hp; cases p <;> first | exact absurd (by decide) hp | (have hq := (‹Only _ _ _›).same _ hp; exact hq) | exact rfl)

theorem monSwap_only {b : Nat} {s : State} :
    Only [.chan, .ts, .eic, .log, .pci, .slk, .out] s (monSwap b s) := by
  unfold monSwap
  repeat' first
    | with_reducible exact Only.refl
    | with_reducible assumption
    | (extract_lets +onlyGivenNames x; have ht := x.busRead; clear ht; refine Only.cut (x := x) ?_ (fun hx => ?_); (on_goal 1 => subst x); (on_goal 2 => clear_value x))
    | extract_lets +onlyGivenNames x
    | ((with_reducible apply Only.foldl); on_goal 1 => intro x t ht)
    | split
    | ((with_reducible apply Only.step lineSwap_only); on_goal 1 => decide)
    | ((with_reducible apply Only.step modTs_only); on_goal 1 => decide)
    | ((with_reducible apply Only.lit); intro p hp; cases p <;> first | exact absurd (by decide) hp | (have hq := (‹Only _ _ _›).same _ hp; exact hq) | exact rfl)

theorem replicaMeasure_only {s : State} {p : Fin 260 × Nat} :
    Only [.chan, .ts, .eic, .log, .pci, .slk, .out] s (replicaMeasure s p) := by
  unfold replicaMeasure
  repeat' first
    | with_reducible exact Only.refl
    | with_reducible assumption
    | (extract_lets +onlyGivenNames x; have ht := x.busRead; clear ht; refine Only.cut (x := x) ?_ (fun hx => ?_); (on_goal 1 => subst x); (on_goal 2 => clear_value x))
    | extract_lets +onlyGivenNames x
    | ((with_reducible apply Only.foldl); on_goal 1 => intro x t ht)
    | split
    | ((with_reducible apply Only.step modChan_only); on_goal 1 => decide)
    | ((with_reducible apply Only.step modTs_only); on_goal 1 => decide)
    | ((with_reducible apply Only.step buildRestart_only); on_goal 1 => decide)
    | ((with_reducible apply Only.step modLine_only); on_goal 1 => decide)
    | ((with_reducible apply Only.step refreshStale_only); on_goal 1 => decide)
    | ((with_reducible apply Only.step refreshMon_only); on_goal 1 => decide)
    | ((with_reducible apply Only.lit); intro p hp; cases p <;> first | exact absurd (by decide) hp | (have hq := (‹Only _ _ _›).same _ hp; exact hq) | exact rfl)

theorem setBuild_only {s : State} {c : Nat} :
    Only [.chan, .ts, .eic, .log, .pci, .slk, .out] s (setBuild s c) := by
  unfold setBuild
  repeat' first
    | with_reducible exact Only.refl
    | with_reducible assumption
    | (extract_lets +onlyGivenNames x; have ht := x.busRead; clear ht; refine Only.cut (x := x) ?_ (fun hx => ?_); (on_goal 1 => subst x); (on_goal 2 => clear_value x))
    | extract_lets +onlyGivenNames x
    | ((with_reducible apply Only.foldl); on_goal 1 => intro x t ht)
    | split
    | ((with_reducible apply Only.step modChan_only); on_goal 1 => decide)
    | ((with_reducible apply Only.step modTs_only); on_goal 1 => decide)
    | ((with_reducible apply Only.step refreshStale_only); on_goal 1 => decide)
    | ((with_reducible apply Only.lit); intro p hp; cases p <;> first | exact absurd (by decide) hp | (have hq := (‹Only _ _ _›).same _ hp; exact hq) | exact rfl)

theorem modeChange_only {hist : Bool} {s : State} :
    Only [.chan, .ee] s (modeChange hist s) := by
  unfold modeChange
  repeat' first
    | with_reducible exact Only.refl
    | with_reducible assumption
    | (extract_lets +onlyGivenNames x; have ht := x.busRead; clear ht; refine Only.cut (x := x) ?_ (fun hx => ?_); (on_goal 1 => subst x); (on_goal 2 => clear_value x))
    | extract_lets +onlyGivenNames x
    | ((with_reducible apply Only.foldl); on_goal 1 => intro x t ht)
    | split
    | ((with_reducible apply Only.step modEe_only); on_goal 1 => decide)
    | ((with_reducible apply Only.step modChan_only); on_goal 1 => decide)
    | ((with_reducible apply Only.lit); intro p hp; cases p <;> first | exact absurd (by decide) hp | (have hq := (‹Only _ _ _›).same _ hp; exact hq) | exact rfl)

theorem rxStarts_only {before : State} {s : State} :
    Only [.chan] s (rxStarts before s) := by
  unfold rxStarts
  repeat' first
    | with_reducible exact Only.refl
    | with_reducible assumption
    | (extract_lets +onlyGivenNames x; have ht := x.busRead; clear ht; refine Only.cut (x := x) ?_ (fun hx => ?_); (on_goal 1 => subst x); (on_goal 2 => clear_value x))
    | extract_lets +onlyGivenNames x
    | ((with_reducible apply Only.foldl); on_goal 1 => intro x t ht)
    | split
    | ((with_reducible apply Only.step modChan_only); on_goal 1 => decide)
    | ((with_reducible apply Only.lit); intro p hp; cases p <;> first | exact absurd (by decide) hp | (have hq := (‹Only _ _ _›).same _ hp; exact hq) | exact rfl)

theorem modEng_only {n : Nat} {f : EngS → EngS} {s : State} :
    Only [.ee] s (modEng n f s) := by
  unfold modEng
  repeat' first
    | with_reducible exact Only.refl
    | with_reducible assumption
    | (extract_lets +onlyGivenNames x; have ht := x.busRead; clear ht; refine Only.cut (x := x) ?_ (fun hx => ?_); (on_goal 1 => subst x); (on_goal 2 => clear_value x))
    | extract_lets +onlyGivenNames x
    | ((with_reducible apply Only.foldl); on_goal 1 => intro x t ht)
    | split
    | ((with_reducible apply Only.step modEe_only); on_goal 1 => decide)
    | ((with_reducible apply Only.lit); intro p hp; cases p <;> first | exact absurd (by decide) hp | (have hq := (‹Only _ _ _›).same _ hp; exact hq) | exact rfl)

theorem zoomedOut_only {n : Nat} {pass : Bool} {s : State} :
    Only [.pt] s (zoomedOut n pass s) := by
  unfold zoomedOut
  repeat' first
    | with_reducible exact Only.refl
    | with_reducible assumption
    | (extract_lets +onlyGivenNames x; have ht := x.busRead; clear ht; refine Only.cut (x := x) ?_ (fun hx => ?_); (on_goal 1 => subst x); (on_goal 2 => clear_value x))
    | extract_lets +onlyGivenNames x
    | ((with_reducible apply Only.foldl); on_goal 1 => intro x t ht)
    | split
    | ((with_reducible apply Only.step modPt_only); on_goal 1 => decide)
    | ((with_reducible apply Only.step addResult_only); on_goal 1 => decide)
    | ((with_reducible apply Only.lit); intro p hp; cases p <;> first | exact absurd (by decide) hp | (have hq := (‹Only _ _ _›).same _ hp; exact hq) | exact rfl)

theorem logDeclared_only {m shots : Nat} {s : State} :
    Only [.ee, .eic, .log, .pci, .slk, .out] s (logDeclared m shots s) := by
  unfold logDeclared
  repeat' first
    | with_reducible exact Only.refl
    | with_reducible assumption
    | (extract_lets +onlyGivenNames x; have ht := x.busRead; clear ht; refine Only.cut (x := x) ?_ (fun hx => ?_); (on_goal 1 => subst x); (on_goal 2 => clear_value x))
    | extract_lets +onlyGivenNames x
    | ((with_reducible apply Only.foldl); on_goal 1 => intro x t ht)
    | split
    | ((with_reducible apply Only.step logNow_only); on_goal 1 => decide)
    | ((with_reducible apply Only.step modEe_only); on_goal 1 => decide)
    | ((with_reducible apply Only.lit); intro p hp; cases p <;> first | exact absurd (by decide) hp | (have hq := (‹Only _ _ _›).same _ hp; exact hq) | exact rfl)

theorem setLost_only {m : Nat} {s : State} :
    Only [.chan, .eic, .log, .pci, .slk, .out] s (setLost m s) := by
  unfold setLost
  repeat' first
    | with_reducible exact Only.refl
    | with_reducible assumption
    | (extract_lets +onlyGivenNames x; have ht := x.busRead; clear ht; refine Only.cut (x := x) ?_ (fun hx => ?_); (on_goal 1 => subst x); (on_goal 2 => clear_value x))
    | extract_lets +onlyGivenNames x
    | ((with_reducible apply Only.foldl); on_goal 1 => intro x t ht)
    | split
    | ((with_reducible apply Only.step modChan_only); on_goal 1 => decide)
    | ((with_reducible apply Only.step logNow_only); on_goal 1 => decide)
    | ((with_reducible apply Only.lit); intro p hp; cases p <;> first | exact absurd (by decide) hp | (have hq := (‹Only _ _ _›).same _ hp; exact hq) | exact rfl)

theorem assignSpare_only {n m suspect : Nat} {s : State} :
    Only [.ee] s (assignSpare n m suspect s) := by
  unfold assignSpare
  repeat' first
    | with_reducible exact Only.refl
    | with_reducible assumption
    | (extract_lets +onlyGivenNames x; have ht := x.busRead; clear ht; refine Only.cut (x := x) ?_ (fun hx => ?_); (on_goal 1 => subst x); (on_goal 2 => clear_value x))
    | extract_lets +onlyGivenNames x
    | ((with_reducible apply Only.foldl); on_goal 1 => intro x t ht)
    | split
    | ((with_reducible apply Only.step modEe_only); on_goal 1 => decide)
    | ((with_reducible apply Only.step modEng_only); on_goal 1 => decide)
    | ((with_reducible apply Only.lit); intro p hp; cases p <;> first | exact absurd (by decide) hp | (have hq := (‹Only _ _ _›).same _ hp; exact hq) | exact rfl)

theorem unResult_only {c at_ : Nat} {s : State} :
    Only [.ee] s (unResult c at_ s) := by
  unfold unResult
  repeat' first
    | with_reducible exact Only.refl
    | with_reducible assumption
    | (extract_lets +onlyGivenNames x; have ht := x.busRead; clear ht; refine Only.cut (x := x) ?_ (fun hx => ?_); (on_goal 1 => subst x); (on_goal 2 => clear_value x))
    | extract_lets +onlyGivenNames x
    | ((with_reducible apply Only.foldl); on_goal 1 => intro x t ht)
    | split
    | ((with_reducible apply Only.step modEe_only); on_goal 1 => decide)
    | ((with_reducible apply Only.lit); intro p hp; cases p <;> first | exact absurd (by decide) hp | (have hq := (‹Only _ _ _›).same _ hp; exact hq) | exact rfl)

theorem unZoomed_only {n m : Nat} {s : State} :
    Only [.chan, .ee] s (unZoomed n m s) := by
  unfold unZoomed
  repeat' first
    | with_reducible exact Only.refl
    | with_reducible assumption
    | (extract_lets +onlyGivenNames x; have ht := x.busRead; clear ht; refine Only.cut (x := x) ?_ (fun hx => ?_); (on_goal 1 => subst x); (on_goal 2 => clear_value x))
    | extract_lets +onlyGivenNames x
    | ((with_reducible apply Only.foldl); on_goal 1 => intro x t ht)
    | split
    | ((with_reducible apply Only.step unResult_only); on_goal 1 => decide)
    | ((with_reducible apply Only.step modChan_only); on_goal 1 => decide)
    | ((with_reducible apply Only.lit); intro p hp; cases p <;> first | exact absurd (by decide) hp | (have hq := (‹Only _ _ _›).same _ hp; exact hq) | exact rfl)

theorem declareFault_only {n cause : Nat} {s : State} :
    Only [.chan, .ee, .pt, .eic, .log, .pci, .slk, .out] s (declareFault n cause s) := by
  unfold declareFault
  repeat' first
    | with_reducible exact Only.refl
    | with_reducible assumption
    | (extract_lets +onlyGivenNames x; have ht := x.busRead; clear ht; refine Only.cut (x := x) ?_ (fun hx => ?_); (on_goal 1 => subst x); (on_goal 2 => clear_value x))
    | extract_lets +onlyGivenNames x
    | ((with_reducible apply Only.foldl); on_goal 1 => intro x t ht)
    | split
    | ((with_reducible apply Only.step zoomedOut_only); on_goal 1 => decide)
    | ((with_reducible apply Only.step unZoomed_only); on_goal 1 => decide)
    | ((with_reducible apply Only.step logDeclared_only); on_goal 1 => decide)
    | ((with_reducible apply Only.step modEng_only); on_goal 1 => decide)
    | ((with_reducible apply Only.step modEe_only); on_goal 1 => decide)
    | ((with_reducible apply Only.step assignSpare_only); on_goal 1 => decide)
    | ((with_reducible apply Only.step setLost_only); on_goal 1 => decide)
    | ((with_reducible apply Only.lit); intro p hp; cases p <;> first | exact absurd (by decide) hp | (have hq := (‹Only _ _ _›).same _ hp; exact hq) | exact rfl)

theorem withdrawSpare_only {n : Nat} {s : State} :
    Only [.ee, .eic, .log, .pci, .slk, .out] s (withdrawSpare n s) := by
  unfold withdrawSpare
  repeat' first
    | with_reducible exact Only.refl
    | with_reducible assumption
    | (extract_lets +onlyGivenNames x; have ht := x.busRead; clear ht; refine Only.cut (x := x) ?_ (fun hx => ?_); (on_goal 1 => subst x); (on_goal 2 => clear_value x))
    | extract_lets +onlyGivenNames x
    | ((with_reducible apply Only.foldl); on_goal 1 => intro x t ht)
    | split
    | ((with_reducible apply Only.step modEe_only); on_goal 1 => decide)
    | ((with_reducible apply Only.step modEng_only); on_goal 1 => decide)
    | ((with_reducible apply Only.step logNow_only); on_goal 1 => decide)
    | ((with_reducible apply Only.lit); intro p hp; cases p <;> first | exact absurd (by decide) hp | (have hq := (‹Only _ _ _›).same _ hp; exact hq) | exact rfl)

theorem engineFails_only {n cause : Nat} {s : State} :
    Only [.chan, .ee, .pt, .eic, .log, .pci, .slk, .out] s (engineFails n cause s) := by
  unfold engineFails
  repeat' first
    | with_reducible exact Only.refl
    | with_reducible assumption
    | (extract_lets +onlyGivenNames x; have ht := x.busRead; clear ht; refine Only.cut (x := x) ?_ (fun hx => ?_); (on_goal 1 => subst x); (on_goal 2 => clear_value x))
    | extract_lets +onlyGivenNames x
    | ((with_reducible apply Only.foldl); on_goal 1 => intro x t ht)
    | split
    | ((with_reducible apply Only.step withdrawSpare_only); on_goal 1 => decide)
    | ((with_reducible apply Only.step declareFault_only); on_goal 1 => decide)
    | ((with_reducible apply Only.lit); intro p hp; cases p <;> first | exact absurd (by decide) hp | (have hq := (‹Only _ _ _›).same _ hp; exact hq) | exact rfl)

theorem replayEnd_only {n : Nat} {s : State} :
    Only [.ee, .eic, .log, .pci, .slk, .out] s (replayEnd n s) := by
  unfold replayEnd
  repeat' first
    | with_reducible exact Only.refl
    | with_reducible assumption
    | (extract_lets +onlyGivenNames x; have ht := x.busRead; clear ht; refine Only.cut (x := x) ?_ (fun hx => ?_); (on_goal 1 => subst x); (on_goal 2 => clear_value x))
    | extract_lets +onlyGivenNames x
    | ((with_reducible apply Only.foldl); on_goal 1 => intro x t ht)
    | split
    | ((with_reducible apply Only.step logDeclared_only); on_goal 1 => decide)
    | ((with_reducible apply Only.lit); intro p hp; cases p <;> first | exact absurd (by decide) hp | (have hq := (‹Only _ _ _›).same _ hp; exact hq) | exact rfl)

theorem sparesLive_only {s : State} :
    Only [.ee, .eic, .log, .pci, .slk, .out] s (sparesLive s) := by
  unfold sparesLive
  repeat' first
    | with_reducible exact Only.refl
    | with_reducible assumption
    | (extract_lets +onlyGivenNames x; have ht := x.busRead; clear ht; refine Only.cut (x := x) ?_ (fun hx => ?_); (on_goal 1 => subst x); (on_goal 2 => clear_value x))
    | extract_lets +onlyGivenNames x
    | ((with_reducible apply Only.foldl); on_goal 1 => intro x t ht)
    | split
    | ((with_reducible apply Only.step logDeclared_only); on_goal 1 => decide)
    | ((with_reducible apply Only.step modEng_only); on_goal 1 => decide)
    | ((with_reducible apply Only.lit); intro p hp; cases p <;> first | exact absurd (by decide) hp | (have hq := (‹Only _ _ _›).same _ hp; exact hq) | exact rfl)

theorem modTrain_only {b k : Nat} {f : Train → Train} {s : State} :
    Only [.rj] s (modTrain b k f s) := by
  unfold modTrain
  repeat' first
    | with_reducible exact Only.refl
    | with_reducible assumption
    | (extract_lets +onlyGivenNames x; have ht := x.busRead; clear ht; refine Only.cut (x := x) ?_ (fun hx => ?_); (on_goal 1 => subst x); (on_goal 2 => clear_value x))
    | extract_lets +onlyGivenNames x
    | ((with_reducible apply Only.foldl); on_goal 1 => intro x t ht)
    | split
    | ((with_reducible apply Only.step modRj_only); on_goal 1 => decide)
    | ((with_reducible apply Only.lit); intro p hp; cases p <;> first | exact absurd (by decide) hp | (have hq := (‹Only _ _ _›).same _ hp; exact hq) | exact rfl)

theorem newCandidate_only {b : Nat} {s : State} {x : Cand} :
    Only [.rj] s (newCandidate b s x) := by
  unfold newCandidate
  repeat' first
    | with_reducible exact Only.refl
    | with_reducible assumption
    | (extract_lets +onlyGivenNames x; have ht := x.busRead; clear ht; refine Only.cut (x := x) ?_ (fun hx => ?_); (on_goal 1 => subst x); (on_goal 2 => clear_value x))
    | extract_lets +onlyGivenNames x
    | ((with_reducible apply Only.foldl); on_goal 1 => intro x t ht)
    | split
    | ((with_reducible apply Only.step modTrain_only); on_goal 1 => decide)
    | ((with_reducible apply Only.step modRj_only); on_goal 1 => decide)
    | ((with_reducible apply Only.lit); intro p hp; cases p <;> first | exact absurd (by decide) hp | (have hq := (‹Only _ _ _›).same _ hp; exact hq) | exact rfl)

theorem flushPulses_only {b shot : Nat} {s : State} :
    Only [.rj] s (flushPulses b shot s) := by
  unfold flushPulses
  repeat' first
    | with_reducible exact Only.refl
    | with_reducible assumption
    | (extract_lets +onlyGivenNames x; have ht := x.busRead; clear ht; refine Only.cut (x := x) ?_ (fun hx => ?_); (on_goal 1 => subst x); (on_goal 2 => clear_value x))
    | extract_lets +onlyGivenNames x
    | ((with_reducible apply Only.foldl); on_goal 1 => intro x t ht)
    | split
    | ((with_reducible apply Only.step newCandidate_only); on_goal 1 => decide)
    | ((with_reducible apply Only.step modRj_only); on_goal 1 => decide)
    | ((with_reducible apply Only.lit); intro p hp; cases p <;> first | exact absurd (by decide) hp | (have hq := (‹Only _ _ _›).same _ hp; exact hq) | exact rfl)

theorem addPulses_only {b shot c : Nat} {ts : List (BitVec 64)} {s : State} :
    Only [.rj] s (addPulses b shot c ts s) := by
  unfold addPulses
  repeat' first
    | with_reducible exact Only.refl
    | with_reducible assumption
    | (extract_lets +onlyGivenNames x; have ht := x.busRead; clear ht; refine Only.cut (x := x) ?_ (fun hx => ?_); (on_goal 1 => subst x); (on_goal 2 => clear_value x))
    | extract_lets +onlyGivenNames x
    | ((with_reducible apply Only.foldl); on_goal 1 => intro x t ht)
    | split
    | ((with_reducible apply Only.step modRj_only); on_goal 1 => decide)
    | ((with_reducible apply Only.lit); intro p hp; cases p <;> first | exact absurd (by decide) hp | (have hq := (‹Only _ _ _›).same _ hp; exact hq) | exact rfl)

theorem unitState_only {s : State} {u : ShUnit} :
    Only [.dict, .chan] s (unitState s u) := by
  unfold unitState
  repeat' first
    | with_reducible exact Only.refl
    | with_reducible assumption
    | (extract_lets +onlyGivenNames x; have ht := x.busRead; clear ht; refine Only.cut (x := x) ?_ (fun hx => ?_); (on_goal 1 => subst x); (on_goal 2 => clear_value x))
    | extract_lets +onlyGivenNames x
    | ((with_reducible apply Only.foldl); on_goal 1 => intro x t ht)
    | split
    | ((with_reducible apply Only.step modChan_only); on_goal 1 => decide)
    | ((with_reducible apply Only.lit); intro p hp; cases p <;> first | exact absurd (by decide) hp | (have hq := (‹Only _ _ _›).same _ hp; exact hq) | exact rfl)

theorem zoneTake_only {u : ShUnit} {h : RecHead} {es : List CEcho} {s : State} {z : Nat} :
    Only [.pt] s (zoneTake u h es s z) := by
  unfold zoneTake
  repeat' first
    | with_reducible exact Only.refl
    | with_reducible assumption
    | (extract_lets +onlyGivenNames x; have ht := x.busRead; clear ht; refine Only.cut (x := x) ?_ (fun hx => ?_); (on_goal 1 => subst x); (on_goal 2 => clear_value x))
    | extract_lets +onlyGivenNames x
    | ((with_reducible apply Only.foldl); on_goal 1 => intro x t ht)
    | split
    | ((with_reducible apply Only.step modPt_only); on_goal 1 => decide)
    | ((with_reducible apply Only.lit); intro p hp; cases p <;> first | exact absurd (by decide) hp | (have hq := (‹Only _ _ _›).same _ hp; exact hq) | exact rfl)

theorem countFrame_only {u : ShUnit} {h : RecHead} {es : List CEcho} {recs : List Rec} {supp : Nat} {s : State} :
    Only [.rm, .chan, .rj] s (countFrame u h es recs supp s) := by
  unfold countFrame
  repeat' first
    | with_reducible exact Only.refl
    | with_reducible assumption
    | (extract_lets +onlyGivenNames x; have ht := x.busRead; clear ht; refine Only.cut (x := x) ?_ (fun hx => ?_); (on_goal 1 => subst x); (on_goal 2 => clear_value x))
    | extract_lets +onlyGivenNames x
    | ((with_reducible apply Only.foldl); on_goal 1 => intro x t ht)
    | split
    | ((with_reducible apply Only.step modRj_only); on_goal 1 => decide)
    | ((with_reducible apply Only.step modChan_only); on_goal 1 => decide)
    | ((with_reducible apply Only.step modRm_only); on_goal 1 => decide)
    | ((with_reducible apply Only.lit); intro p hp; cases p <;> first | exact absurd (by decide) hp | (have hq := (‹Only _ _ _›).same _ hp; exact hq) | exact rfl)

theorem tailTakeBack_only {u : ShUnit} {c : Nat} {now : Bool} {supp : List (Nat × Nat)} {s : State} :
    Only [.chan] s (tailTakeBack u c now supp s) := by
  unfold tailTakeBack
  repeat' first
    | with_reducible exact Only.refl
    | with_reducible assumption
    | (extract_lets +onlyGivenNames x; have ht := x.busRead; clear ht; refine Only.cut (x := x) ?_ (fun hx => ?_); (on_goal 1 => subst x); (on_goal 2 => clear_value x))
    | extract_lets +onlyGivenNames x
    | ((with_reducible apply Only.foldl); on_goal 1 => intro x t ht)
    | split
    | ((with_reducible apply Only.step modChan_only); on_goal 1 => decide)
    | ((with_reducible apply Only.lit); intro p hp; cases p <;> first | exact absurd (by decide) hp | (have hq := (‹Only _ _ _›).same _ hp; exact hq) | exact rfl)

theorem countResult_only {u : ShUnit} {h : RecHead} {all es : List CEcho} {recs : List Rec} {supp : Nat} {s : State} :
    Only [.rm, .chan, .rj, .pt, .car, .eic, .log, .pci, .slk, .out] s (countResult u h all es recs supp s) := by
  unfold countResult
  repeat' first
    | with_reducible exact Only.refl
    | with_reducible assumption
    | (extract_lets +onlyGivenNames x; have ht := x.busRead; clear ht; refine Only.cut (x := x) ?_ (fun hx => ?_); (on_goal 1 => subst x); (on_goal 2 => clear_value x))
    | extract_lets +onlyGivenNames x
    | ((with_reducible apply Only.foldl); on_goal 1 => intro x t ht)
    | split
    | ((with_reducible apply Only.step zoneTake_only); on_goal 1 => decide)
    | ((with_reducible apply Only.step countFrame_only); on_goal 1 => decide)
    | ((with_reducible apply Only.step modChan_only); on_goal 1 => decide)
    | ((with_reducible apply Only.step tailTakeBack_only); on_goal 1 => decide)
    | ((with_reducible apply Only.step addPulses_only); on_goal 1 => decide)
    | ((with_reducible apply Only.step maskSample_only); on_goal 1 => decide)
    | ((with_reducible apply Only.lit); intro p hp; cases p <;> first | exact absurd (by decide) hp | (have hq := (‹Only _ _ _›).same _ hp; exact hq) | exact rfl)

theorem deliver_only {u : ShUnit} {h : RecHead} {recs : List Rec} {closeAt : Nat} {s : State} :
    Only [.pt] s (deliver u h recs closeAt s) := by
  unfold deliver
  repeat' first
    | with_reducible exact Only.refl
    | with_reducible assumption
    | (extract_lets +onlyGivenNames x; have ht := x.busRead; clear ht; refine Only.cut (x := x) ?_ (fun hx => ?_); (on_goal 1 => subst x); (on_goal 2 => clear_value x))
    | extract_lets +onlyGivenNames x
    | ((with_reducible apply Only.foldl); on_goal 1 => intro x t ht)
    | split
    | ((with_reducible apply Only.step addResult_only); on_goal 1 => decide)
    | ((with_reducible apply Only.lit); intro p hp; cases p <;> first | exact absurd (by decide) hp | (have hq := (‹Only _ _ _›).same _ hp; exact hq) | exact rfl)

theorem holdZoomed_only {u : ShUnit} {h : RecHead} {recs : List Rec} {s : State} :
    Only [.pt] s (holdZoomed u h recs s) := by
  unfold holdZoomed
  repeat' first
    | with_reducible exact Only.refl
    | with_reducible assumption
    | (extract_lets +onlyGivenNames x; have ht := x.busRead; clear ht; refine Only.cut (x := x) ?_ (fun hx => ?_); (on_goal 1 => subst x); (on_goal 2 => clear_value x))
    | extract_lets +onlyGivenNames x
    | ((with_reducible apply Only.foldl); on_goal 1 => intro x t ht)
    | split
    | ((with_reducible apply Only.step modPt_only); on_goal 1 => decide)
    | ((with_reducible apply Only.lit); intro p hp; cases p <;> first | exact absurd (by decide) hp | (have hq := (‹Only _ _ _›).same _ hp; exact hq) | exact rfl)

theorem toFields_only {u : ShUnit} {c : Nat} {az : Int} {valid : Bool} {shots : List Int} {es : List CEcho} {s : State} :
    Only [.fe] s (toFields u c az valid shots es s) := by
  unfold toFields
  repeat' first
    | with_reducible exact Only.refl
    | with_reducible assumption
    | (extract_lets +onlyGivenNames x; have ht := x.busRead; clear ht; refine Only.cut (x := x) ?_ (fun hx => ?_); (on_goal 1 => subst x); (on_goal 2 => clear_value x))
    | extract_lets +onlyGivenNames x
    | ((with_reducible apply Only.foldl); on_goal 1 => intro x t ht)
    | split
    | ((with_reducible apply Only.lit); intro p hp; cases p <;> first | exact absurd (by decide) hp | (have hq := (‹Only _ _ _›).same _ hp; exact hq) | exact rfl)

theorem markDone_only {u : ShUnit} {c : Nat} {s : State} :
    Only [.chan, .ee] s (markDone u c s) := by
  unfold markDone
  repeat' first
    | with_reducible exact Only.refl
    | with_reducible assumption
    | (extract_lets +onlyGivenNames x; have ht := x.busRead; clear ht; refine Only.cut (x := x) ?_ (fun hx => ?_); (on_goal 1 => subst x); (on_goal 2 => clear_value x))
    | extract_lets +onlyGivenNames x
    | ((with_reducible apply Only.foldl); on_goal 1 => intro x t ht)
    | split
    | ((with_reducible apply Only.step modEe_only); on_goal 1 => decide)
    | ((with_reducible apply Only.step modChan_only); on_goal 1 => decide)
    | ((with_reducible apply Only.lit); intro p hp; cases p <;> first | exact absurd (by decide) hp | (have hq := (‹Only _ _ _›).same _ hp; exact hq) | exact rfl)

theorem shotDone_only {u : ShUnit} {s : State} :
    Only [.rj] s (shotDone u s) := by
  unfold shotDone
  repeat' first
    | with_reducible exact Only.refl
    | with_reducible assumption
    | (extract_lets +onlyGivenNames x; have ht := x.busRead; clear ht; refine Only.cut (x := x) ?_ (fun hx => ?_); (on_goal 1 => subst x); (on_goal 2 => clear_value x))
    | extract_lets +onlyGivenNames x
    | ((with_reducible apply Only.foldl); on_goal 1 => intro x t ht)
    | split
    | ((with_reducible apply Only.step flushPulses_only); on_goal 1 => decide)
    | ((with_reducible apply Only.lit); intro p hp; cases p <;> first | exact absurd (by decide) hp | (have hq := (‹Only _ _ _›).same _ hp; exact hq) | exact rfl)

theorem echoShot_only {u : ShUnit} {c : Nat} {replayed : Bool} {s : State} :
    Only [.rm, .chan, .ee, .rj, .pt, .fe, .car, .eic, .log, .pci, .slk, .out] s (echoShot u c replayed s) := by
  unfold echoShot
  repeat' first
    | with_reducible exact Only.refl
    | with_reducible assumption
    | (extract_lets +onlyGivenNames x; have ht := x.busRead; clear ht; refine Only.cut (x := x) ?_ (fun hx => ?_); (on_goal 1 => subst x); (on_goal 2 => clear_value x))
    | extract_lets +onlyGivenNames x
    | ((with_reducible apply Only.foldl); on_goal 1 => intro x t ht)
    | split
    | ((with_reducible apply Only.step countResult_only); on_goal 1 => decide)
    | ((with_reducible apply Only.step modChan_only); on_goal 1 => decide)
    | ((with_reducible apply Only.step deliver_only); on_goal 1 => decide)
    | ((with_reducible apply Only.step toFields_only); on_goal 1 => decide)
    | ((with_reducible apply Only.step shotDone_only); on_goal 1 => decide)
    | ((with_reducible apply Only.step markDone_only); on_goal 1 => decide)
    | ((with_reducible apply Only.lit); intro p hp; cases p <;> first | exact absurd (by decide) hp | (have hq := (‹Only _ _ _›).same _ hp; exact hq) | exact rfl)

theorem noMeasure_only {u : ShUnit} {c : Nat} {s : State} :
    Only [.chan, .ee, .rj, .pt, .fe] s (noMeasure u c s) := by
  unfold noMeasure
  repeat' first
    | with_reducible exact Only.refl
    | with_reducible assumption
    | (extract_lets +onlyGivenNames x; have ht := x.busRead; clear ht; refine Only.cut (x := x) ?_ (fun hx => ?_); (on_goal 1 => subst x); (on_goal 2 => clear_value x))
    | extract_lets +onlyGivenNames x
    | ((with_reducible apply Only.foldl); on_goal 1 => intro x t ht)
    | split
    | ((with_reducible apply Only.step deliver_only); on_goal 1 => decide)
    | ((with_reducible apply Only.step toFields_only); on_goal 1 => decide)
    | ((with_reducible apply Only.step shotDone_only); on_goal 1 => decide)
    | ((with_reducible apply Only.step markDone_only); on_goal 1 => decide)
    | ((with_reducible apply Only.lit); intro p hp; cases p <;> first | exact absurd (by decide) hp | (have hq := (‹Only _ _ _›).same _ hp; exact hq) | exact rfl)

theorem groupSupport_only {u : ShUnit} {s : State} :
    Only [.ee] s (groupSupport u s) := by
  unfold groupSupport
  repeat' first
    | with_reducible exact Only.refl
    | with_reducible assumption
    | (extract_lets +onlyGivenNames x; have ht := x.busRead; clear ht; refine Only.cut (x := x) ?_ (fun hx => ?_); (on_goal 1 => subst x); (on_goal 2 => clear_value x))
    | extract_lets +onlyGivenNames x
    | ((with_reducible apply Only.foldl); on_goal 1 => intro x t ht)
    | split
    | ((with_reducible apply Only.step modEe_only); on_goal 1 => decide)
    | ((with_reducible apply Only.lit); intro p hp; cases p <;> first | exact absurd (by decide) hp | (have hq := (‹Only _ _ _›).same _ hp; exact hq) | exact rfl)

theorem snapshotGo_only {u : ShUnit} {c : Nat} {peaks : List (Int × Nat)} {s : State} :
    Only [.chan, .pt, .eic, .log, .pci, .slk, .out] s (snapshotGo u c peaks s) := by
  unfold snapshotGo
  repeat' first
    | with_reducible exact Only.refl
    | with_reducible assumption
    | (extract_lets +onlyGivenNames x; have ht := x.busRead; clear ht; refine Only.cut (x := x) ?_ (fun hx => ?_); (on_goal 1 => subst x); (on_goal 2 => clear_value x))
    | extract_lets +onlyGivenNames x
    | ((with_reducible apply Only.foldl); on_goal 1 => intro x t ht)
    | split
    | ((with_reducible apply Only.step modChan_only); on_goal 1 => decide)
    | ((with_reducible apply Only.step ringSend_only); on_goal 1 => decide)
    | ((with_reducible apply Only.lit); intro p hp; cases p <;> first | exact absurd (by decide) hp | (have hq := (‹Only _ _ _›).same _ hp; exact hq) | exact rfl)

theorem sendSnapshot_only {u : ShUnit} {c : Nat} {zoom : Bool} {s : State} :
    Only [.chan, .ee, .pt, .eic, .log, .pci, .slk, .out] s (sendSnapshot u c zoom s) := by
  unfold sendSnapshot
  repeat' first
    | with_reducible exact Only.refl
    | with_reducible assumption
    | (extract_lets +onlyGivenNames x; have ht := x.busRead; clear ht; refine Only.cut (x := x) ?_ (fun hx => ?_); (on_goal 1 => subst x); (on_goal 2 => clear_value x))
    | extract_lets +onlyGivenNames x
    | ((with_reducible apply Only.foldl); on_goal 1 => intro x t ht)
    | split
    | ((with_reducible apply Only.step modEe_only); on_goal 1 => decide)
    | ((with_reducible apply Only.step modChan_only); on_goal 1 => decide)
    | ((with_reducible apply Only.step snapshotGo_only); on_goal 1 => decide)
    | ((with_reducible apply Only.lit); intro p hp; cases p <;> first | exact absurd (by decide) hp | (have hq := (‹Only _ _ _›).same _ hp; exact hq) | exact rfl)

theorem groupResult_only {u : ShUnit} {c : Nat} {replayed : Bool} {s : State} :
    Only [.rm, .chan, .ee, .rj, .pt, .fe, .car, .eic, .log, .pci, .slk, .out] s (groupResult u c replayed s).1 := by
  unfold groupResult
  repeat' first
    | with_reducible exact Only.refl
    | with_reducible assumption
    | (extract_lets +onlyGivenNames x; have ht := x.busRead; clear ht; refine Only.cut (x := x) ?_ (fun hx => ?_); (on_goal 1 => subst x); (on_goal 2 => clear_value x))
    | extract_lets +onlyGivenNames x
    | ((with_reducible apply Only.foldl); on_goal 1 => intro x t ht)
    | split
    | ((with_reducible apply Only.step shotDone_only); on_goal 1 => decide)
    | ((with_reducible apply Only.step markDone_only); on_goal 1 => decide)
    | ((with_reducible apply Only.step countResult_only); on_goal 1 => decide)
    | ((with_reducible apply Only.step releaseMiss_only); on_goal 1 => decide)
    | ((with_reducible apply Only.step toFields_only); on_goal 1 => decide)
    | ((with_reducible apply Only.lit); intro p hp; cases p <;> first | exact absurd (by decide) hp | (have hq := (‹Only _ _ _›).same _ hp; exact hq) | exact rfl)

theorem replayGroup_only {u : ShUnit} {c : Nat} {s : State} :
    Only [.rm, .chan, .ee, .rj, .pt, .fe, .car, .eic, .log, .pci, .slk, .out] s (replayGroup u c s) := by
  unfold replayGroup
  repeat' first
    | with_reducible exact Only.refl
    | with_reducible assumption
    | (extract_lets +onlyGivenNames x; have ht := x.busRead; clear ht; refine Only.cut (x := x) ?_ (fun hx => ?_); (on_goal 1 => subst x); (on_goal 2 => clear_value x))
    | extract_lets +onlyGivenNames x
    | ((with_reducible apply Only.foldl); on_goal 1 => intro x t ht)
    | split
    | ((with_reducible apply Only.step groupResult_only); on_goal 1 => decide)
    | (refine Only.of_fst (by assumption) ?_; (with_reducible apply Only.step groupResult_only); on_goal 1 => decide)
    | ((with_reducible apply Only.step deliver_only); on_goal 1 => decide)
    | ((with_reducible apply Only.step sendSnapshot_only); on_goal 1 => decide)
    | ((with_reducible apply Only.step snapshotGo_only); on_goal 1 => decide)
    | ((with_reducible apply Only.lit); intro p hp; cases p <;> first | exact absurd (by decide) hp | (have hq := (‹Only _ _ _›).same _ hp; exact hq) | exact rfl)

theorem reply_only {v : Nat} {s : State} :
    Only [.busRead] s (reply v s) := by
  unfold reply
  repeat' first
    | with_reducible exact Only.refl
    | with_reducible assumption
    | (extract_lets +onlyGivenNames x; have ht := x.busRead; clear ht; refine Only.cut (x := x) ?_ (fun hx => ?_); (on_goal 1 => subst x); (on_goal 2 => clear_value x))
    | extract_lets +onlyGivenNames x
    | ((with_reducible apply Only.foldl); on_goal 1 => intro x t ht)
    | split
    | ((with_reducible apply Only.lit); intro p hp; cases p <;> first | exact absurd (by decide) hp | (have hq := (‹Only _ _ _›).same _ hp; exact hq) | exact rfl)

theorem pendClear_only {s : State} {n : Nat} :
    Only [.eic, .pci, .slk, .out] s (pendClear s n) := by
  unfold pendClear
  repeat' first
    | with_reducible exact Only.refl
    | with_reducible assumption
    | (extract_lets +onlyGivenNames x; have ht := x.busRead; clear ht; refine Only.cut (x := x) ?_ (fun hx => ?_); (on_goal 1 => subst x); (on_goal 2 => clear_value x))
    | extract_lets +onlyGivenNames x
    | ((with_reducible apply Only.foldl); on_goal 1 => intro x t ht)
    | split
    | ((with_reducible apply Only.step modEic_only); on_goal 1 => decide)
    | ((with_reducible apply Only.step eicWithdraw_only); on_goal 1 => decide)
    | ((with_reducible apply Only.step setPending_only); on_goal 1 => decide)
    | ((with_reducible apply Only.lit); intro p hp; cases p <;> first | exact absurd (by decide) hp | (have hq := (‹Only _ _ _›).same _ hp; exact hq) | exact rfl)

theorem unmask_only {s : State} {n : Nat} :
    Only [.eic, .pci, .slk, .out] s (unmask s n) := by
  unfold unmask
  repeat' first
    | with_reducible exact Only.refl
    | with_reducible assumption
    | (extract_lets +onlyGivenNames x; have ht := x.busRead; clear ht; refine Only.cut (x := x) ?_ (fun hx => ?_); (on_goal 1 => subst x); (on_goal 2 => clear_value x))
    | extract_lets +onlyGivenNames x
    | ((with_reducible apply Only.foldl); on_goal 1 => intro x t ht)
    | split
    | ((with_reducible apply Only.step modEic_only); on_goal 1 => decide)
    | ((with_reducible apply Only.step arbitrate_only); on_goal 1 => decide)
    | ((with_reducible apply Only.step countEvent_only); on_goal 1 => decide)
    | ((with_reducible apply Only.lit); intro p hp; cases p <;> first | exact absurd (by decide) hp | (have hq := (‹Only _ _ _›).same _ hp; exact hq) | exact rfl)

theorem firstClear_only {s : State} :
    Only [.log] s (firstClear s) := by
  unfold firstClear
  repeat' first
    | with_reducible exact Only.refl
    | with_reducible assumption
    | (extract_lets +onlyGivenNames x; have ht := x.busRead; clear ht; refine Only.cut (x := x) ?_ (fun hx => ?_); (on_goal 1 => subst x); (on_goal 2 => clear_value x))
    | extract_lets +onlyGivenNames x
    | ((with_reducible apply Only.foldl); on_goal 1 => intro x t ht)
    | split
    | ((with_reducible apply Only.lit); intro p hp; cases p <;> first | exact absurd (by decide) hp | (have hq := (‹Only _ _ _›).same _ hp; exact hq) | exact rfl)

theorem fwdRestart_only {n : Nat} {s : State} :
    Only [.slk] s (fwdRestart n s) := by
  unfold fwdRestart
  repeat' first
    | with_reducible exact Only.refl
    | with_reducible assumption
    | (extract_lets +onlyGivenNames x; have ht := x.busRead; clear ht; refine Only.cut (x := x) ?_ (fun hx => ?_); (on_goal 1 => subst x); (on_goal 2 => clear_value x))
    | extract_lets +onlyGivenNames x
    | ((with_reducible apply Only.foldl); on_goal 1 => intro x t ht)
    | split
    | ((with_reducible apply Only.step modLane_only); on_goal 1 => decide)
    | ((with_reducible apply Only.lit); intro p hp; cases p <;> first | exact absurd (by decide) hp | (have hq := (‹Only _ _ _›).same _ hp; exact hq) | exact rfl)

theorem modAer_only {f : Nat} {g : AerS → AerS} {s : State} :
    Only [.pci] s (modAer f g s) := by
  unfold modAer
  repeat' first
    | with_reducible exact Only.refl
    | with_reducible assumption
    | (extract_lets +onlyGivenNames x; have ht := x.busRead; clear ht; refine Only.cut (x := x) ?_ (fun hx => ?_); (on_goal 1 => subst x); (on_goal 2 => clear_value x))
    | extract_lets +onlyGivenNames x
    | ((with_reducible apply Only.foldl); on_goal 1 => intro x t ht)
    | split
    | ((with_reducible apply Only.step modPci_only); on_goal 1 => decide)
    | ((with_reducible apply Only.lit); intro p hp; cases p <;> first | exact absurd (by decide) hp | (have hq := (‹Only _ _ _›).same _ hp; exact hq) | exact rfl)

theorem aerUnc_only {f b : Nat} {s : State} :
    Only [.pci, .out] s (aerUnc f b s) := by
  unfold aerUnc
  repeat' first
    | with_reducible exact Only.refl
    | with_reducible assumption
    | (extract_lets +onlyGivenNames x; have ht := x.busRead; clear ht; refine Only.cut (x := x) ?_ (fun hx => ?_); (on_goal 1 => subst x); (on_goal 2 => clear_value x))
    | extract_lets +onlyGivenNames x
    | ((with_reducible apply Only.foldl); on_goal 1 => intro x t ht)
    | split
    | ((with_reducible apply Only.step modAer_only); on_goal 1 => decide)
    | ((with_reducible apply Only.step emit_only); on_goal 1 => decide)
    | ((with_reducible apply Only.lit); intro p hp; cases p <;> first | exact absurd (by decide) hp | (have hq := (‹Only _ _ _›).same _ hp; exact hq) | exact rfl)

theorem aerCor_only {f b : Nat} {s : State} :
    Only [.pci, .out] s (aerCor f b s) := by
  unfold aerCor
  repeat' first
    | with_reducible exact Only.refl
    | with_reducible assumption
    | (extract_lets +onlyGivenNames x; have ht := x.busRead; clear ht; refine Only.cut (x := x) ?_ (fun hx => ?_); (on_goal 1 => subst x); (on_goal 2 => clear_value x))
    | extract_lets +onlyGivenNames x
    | ((with_reducible apply Only.foldl); on_goal 1 => intro x t ht)
    | split
    | ((with_reducible apply Only.step modAer_only); on_goal 1 => decide)
    | ((with_reducible apply Only.step emit_only); on_goal 1 => decide)
    | ((with_reducible apply Only.lit); intro p hp; cases p <;> first | exact absurd (by decide) hp | (have hq := (‹Only _ _ _›).same _ hp; exact hq) | exact rfl)

theorem laneErrors_only {r : LaneReport} {s : State} :
    Only [.pci, .out] s (laneErrors r s) := by
  unfold laneErrors
  repeat' first
    | with_reducible exact Only.refl
    | with_reducible assumption
    | (extract_lets +onlyGivenNames x; have ht := x.busRead; clear ht; refine Only.cut (x := x) ?_ (fun hx => ?_); (on_goal 1 => subst x); (on_goal 2 => clear_value x))
    | extract_lets +onlyGivenNames x
    | ((with_reducible apply Only.foldl); on_goal 1 => intro x t ht)
    | split
    | ((with_reducible apply Only.step aerCor_only); on_goal 1 => decide)
    | ((with_reducible apply Only.step modPci_only); on_goal 1 => decide)
    | ((with_reducible apply Only.lit); intro p hp; cases p <;> first | exact absurd (by decide) hp | (have hq := (‹Only _ _ _›).same _ hp; exact hq) | exact rfl)

theorem stagedDeliver_only {s : State} {x : Nat × WItem} :
    Only [.pt, .eic, .pci, .slk, .out] s (stagedDeliver s x) := by
  unfold stagedDeliver
  repeat' first
    | with_reducible exact Only.refl
    | with_reducible assumption
    | (extract_lets +onlyGivenNames x; have ht := x.busRead; clear ht; refine Only.cut (x := x) ?_ (fun hx => ?_); (on_goal 1 => subst x); (on_goal 2 => clear_value x))
    | extract_lets +onlyGivenNames x
    | ((with_reducible apply Only.foldl); on_goal 1 => intro x t ht)
    | split
    | ((with_reducible apply Only.step modPci_only); on_goal 1 => decide)
    | ((with_reducible apply Only.step emit_only); on_goal 1 => decide)
    | ((with_reducible apply Only.step ringDrain_only); on_goal 1 => decide)
    | ((with_reducible apply Only.step modRing_only); on_goal 1 => decide)
    | ((with_reducible apply Only.lit); intro p hp; cases p <;> first | exact absurd (by decide) hp | (have hq := (‹Only _ _ _›).same _ hp; exact hq) | exact rfl)

theorem mbxAbort_only {s : State} :
    Only [.xi] s (mbxAbort s) := by
  unfold mbxAbort
  repeat' first
    | with_reducible exact Only.refl
    | with_reducible assumption
    | (extract_lets +onlyGivenNames x; have ht := x.busRead; clear ht; refine Only.cut (x := x) ?_ (fun hx => ?_); (on_goal 1 => subst x); (on_goal 2 => clear_value x))
    | extract_lets +onlyGivenNames x
    | ((with_reducible apply Only.foldl); on_goal 1 => intro x t ht)
    | split
    | ((with_reducible apply Only.lit); intro p hp; cases p <;> first | exact absurd (by decide) hp | (have hq := (‹Only _ _ _›).same _ hp; exact hq) | exact rfl)

theorem flrGo_only {f : Nat} {s : State} :
    Only [.pt, .pci, .xi] s (flrGo f s) := by
  unfold flrGo
  repeat' first
    | with_reducible exact Only.refl
    | with_reducible assumption
    | (extract_lets +onlyGivenNames x; have ht := x.busRead; clear ht; refine Only.cut (x := x) ?_ (fun hx => ?_); (on_goal 1 => subst x); (on_goal 2 => clear_value x))
    | extract_lets +onlyGivenNames x
    | ((with_reducible apply Only.foldl); on_goal 1 => intro x t ht)
    | split
    | ((with_reducible apply Only.step modPci_only); on_goal 1 => decide)
    | ((with_reducible apply Only.step ringEmpty_only); on_goal 1 => decide)
    | ((with_reducible apply Only.step closeSess_only); on_goal 1 => decide)
    | ((with_reducible apply Only.step mbxAbort_only); on_goal 1 => decide)
    | ((with_reducible apply Only.lit); intro p hp; cases p <;> first | exact absurd (by decide) hp | (have hq := (‹Only _ _ _›).same _ hp; exact hq) | exact rfl)

theorem d3Enter_only {f : Nat} {s : State} :
    Only [.pt, .eic, .pci, .slk, .out] s (d3Enter f s) := by
  unfold d3Enter
  repeat' first
    | with_reducible exact Only.refl
    | with_reducible assumption
    | (extract_lets +onlyGivenNames x; have ht := x.busRead; clear ht; refine Only.cut (x := x) ?_ (fun hx => ?_); (on_goal 1 => subst x); (on_goal 2 => clear_value x))
    | extract_lets +onlyGivenNames x
    | ((with_reducible apply Only.foldl); on_goal 1 => intro x t ht)
    | split
    | ((with_reducible apply Only.step modPci_only); on_goal 1 => decide)
    | ((with_reducible apply Only.step ringDisable_only); on_goal 1 => decide)
    | ((with_reducible apply Only.lit); intro p hp; cases p <;> first | exact absurd (by decide) hp | (have hq := (‹Only _ _ _›).same _ hp; exact hq) | exact rfl)

theorem d3Leave_only {f : Nat} {s : State} :
    Only [.eic, .pci, .slk, .out] s (d3Leave f s) := by
  unfold d3Leave
  repeat' first
    | with_reducible exact Only.refl
    | with_reducible assumption
    | (extract_lets +onlyGivenNames x; have ht := x.busRead; clear ht; refine Only.cut (x := x) ?_ (fun hx => ?_); (on_goal 1 => subst x); (on_goal 2 => clear_value x))
    | extract_lets +onlyGivenNames x
    | ((with_reducible apply Only.foldl); on_goal 1 => intro x t ht)
    | split
    | ((with_reducible apply Only.step arbitrate_only); on_goal 1 => decide)
    | ((with_reducible apply Only.step modPci_only); on_goal 1 => decide)
    | ((with_reducible apply Only.lit); intro p hp; cases p <;> first | exact absurd (by decide) hp | (have hq := (‹Only _ _ _›).same _ hp; exact hq) | exact rfl)

theorem irqFinish_only {n : Nat} {gone : List (List Byte)} {s : State} :
    Only [.eic, .pci, .slk, .out] s (irqFinish n gone s) := by
  unfold irqFinish
  repeat' first
    | with_reducible exact Only.refl
    | with_reducible assumption
    | (extract_lets +onlyGivenNames x; have ht := x.busRead; clear ht; refine Only.cut (x := x) ?_ (fun hx => ?_); (on_goal 1 => subst x); (on_goal 2 => clear_value x))
    | extract_lets +onlyGivenNames x
    | ((with_reducible apply Only.foldl); on_goal 1 => intro x t ht)
    | split
    | ((with_reducible apply Only.step modLane_only); on_goal 1 => decide)
    | ((with_reducible apply Only.step eicFinish_only); on_goal 1 => decide)
    | ((with_reducible apply Only.lit); intro p hp; cases p <;> first | exact absurd (by decide) hp | (have hq := (‹Only _ _ _›).same _ hp; exact hq) | exact rfl)

theorem laneLeavesUp_only {n : Nat} {st : Nat} {s : State} :
    Only [.eic, .log, .pci, .xi, .slk, .out] s (laneLeavesUp n st s) := by
  unfold laneLeavesUp
  repeat' first
    | with_reducible exact Only.refl
    | with_reducible assumption
    | (extract_lets +onlyGivenNames x; have ht := x.busRead; clear ht; refine Only.cut (x := x) ?_ (fun hx => ?_); (on_goal 1 => subst x); (on_goal 2 => clear_value x))
    | extract_lets +onlyGivenNames x
    | ((with_reducible apply Only.foldl); on_goal 1 => intro x t ht)
    | split
    | ((with_reducible apply Only.step modLane_only); on_goal 1 => decide)
    | ((with_reducible apply Only.step closeSess_only); on_goal 1 => decide)
    | ((with_reducible apply Only.step irqFinish_only); on_goal 1 => decide)
    | ((with_reducible apply Only.step eicEdge_only); on_goal 1 => decide)
    | ((with_reducible apply Only.step logNow_only); on_goal 1 => decide)
    | ((with_reducible apply Only.lit); intro p hp; cases p <;> first | exact absurd (by decide) hp | (have hq := (‹Only _ _ _›).same _ hp; exact hq) | exact rfl)

theorem laneTo_only {n st : Nat} {s : State} :
    Only [.eic, .log, .pci, .xi, .slk, .out] s (laneTo n st s) := by
  unfold laneTo
  repeat' first
    | with_reducible exact Only.refl
    | with_reducible assumption
    | (extract_lets +onlyGivenNames x; have ht := x.busRead; clear ht; refine Only.cut (x := x) ?_ (fun hx => ?_); (on_goal 1 => subst x); (on_goal 2 => clear_value x))
    | extract_lets +onlyGivenNames x
    | ((with_reducible apply Only.foldl); on_goal 1 => intro x t ht)
    | split
    | ((with_reducible apply Only.step laneLeavesUp_only); on_goal 1 => decide)
    | ((with_reducible apply Only.step modLane_only); on_goal 1 => decide)
    | ((with_reducible apply Only.lit); intro p hp; cases p <;> first | exact absurd (by decide) hp | (have hq := (‹Only _ _ _›).same _ hp; exact hq) | exact rfl)

theorem laneUp_only {n : Nat} {s : State} :
    Only [.eic, .log, .pci, .slk, .out] s (laneUp n s) := by
  unfold laneUp
  repeat' first
    | with_reducible exact Only.refl
    | with_reducible assumption
    | (extract_lets +onlyGivenNames x; have ht := x.busRead; clear ht; refine Only.cut (x := x) ?_ (fun hx => ?_); (on_goal 1 => subst x); (on_goal 2 => clear_value x))
    | extract_lets +onlyGivenNames x
    | ((with_reducible apply Only.foldl); on_goal 1 => intro x t ht)
    | split
    | ((with_reducible apply Only.step modLane_only); on_goal 1 => decide)
    | ((with_reducible apply Only.step eicEdge_only); on_goal 1 => decide)
    | ((with_reducible apply Only.step logNow_only); on_goal 1 => decide)
    | ((with_reducible apply Only.lit); intro p hp; cases p <;> first | exact absurd (by decide) hp | (have hq := (‹Only _ _ _›).same _ hp; exact hq) | exact rfl)

theorem slkRelease_only {n : Nat} {seq : BitVec 8} {s : State} :
    Only [.eic, .pci, .slk, .out] s (slkRelease n seq s) := by
  unfold slkRelease
  repeat' first
    | with_reducible exact Only.refl
    | with_reducible assumption
    | (extract_lets +onlyGivenNames x; have ht := x.busRead; clear ht; refine Only.cut (x := x) ?_ (fun hx => ?_); (on_goal 1 => subst x); (on_goal 2 => clear_value x))
    | extract_lets +onlyGivenNames x
    | ((with_reducible apply Only.foldl); on_goal 1 => intro x t ht)
    | split
    | ((with_reducible apply Only.step modLane_only); on_goal 1 => decide)
    | ((with_reducible apply Only.step irqFinish_only); on_goal 1 => decide)
    | ((with_reducible apply Only.lit); intro p hp; cases p <;> first | exact absurd (by decide) hp | (have hq := (‹Only _ _ _›).same _ hp; exact hq) | exact rfl)

theorem slkResend_only {n : Nat} {s : State} :
    Only [.slk, .out] s (slkResend n s) := by
  unfold slkResend
  repeat' first
    | with_reducible exact Only.refl
    | with_reducible assumption
    | (extract_lets +onlyGivenNames x; have ht := x.busRead; clear ht; refine Only.cut (x := x) ?_ (fun hx => ?_); (on_goal 1 => subst x); (on_goal 2 => clear_value x))
    | extract_lets +onlyGivenNames x
    | ((with_reducible apply Only.foldl); on_goal 1 => intro x t ht)
    | split
    | ((with_reducible apply Only.step emit_only); on_goal 1 => decide)
    | ((with_reducible apply Only.step modLane_only); on_goal 1 => decide)
    | ((with_reducible apply Only.lit); intro p hp; cases p <;> first | exact absurd (by decide) hp | (have hq := (‹Only _ _ _›).same _ hp; exact hq) | exact rfl)

theorem capSend_only {n : Nat} {s : State} :
    Only [.slk, .out] s (capSend n s) := by
  unfold capSend
  repeat' first
    | with_reducible exact Only.refl
    | with_reducible assumption
    | (extract_lets +onlyGivenNames x; have ht := x.busRead; clear ht; refine Only.cut (x := x) ?_ (fun hx => ?_); (on_goal 1 => subst x); (on_goal 2 => clear_value x))
    | extract_lets +onlyGivenNames x
    | ((with_reducible apply Only.foldl); on_goal 1 => intro x t ht)
    | split
    | ((with_reducible apply Only.step modLane_only); on_goal 1 => decide)
    | ((with_reducible apply Only.step slkControl_only); on_goal 1 => decide)
    | ((with_reducible apply Only.lit); intro p hp; cases p <;> first | exact absurd (by decide) hp | (have hq := (‹Only _ _ _›).same _ hp; exact hq) | exact rfl)

theorem slkTake_only {n : Nat} {rx : SlkRx} {s : State} :
    Only [.slk, .out] s (slkTake n rx s).2 := by
  unfold slkTake
  repeat' first
    | with_reducible exact Only.refl
    | with_reducible assumption
    | (extract_lets +onlyGivenNames x; have ht := x.busRead; clear ht; refine Only.cut (x := x) ?_ (fun hx => ?_); (on_goal 1 => subst x); (on_goal 2 => clear_value x))
    | extract_lets +onlyGivenNames x
    | ((with_reducible apply Only.foldl); on_goal 1 => intro x t ht)
    | split
    | ((with_reducible apply Only.step slkControl_only); on_goal 1 => decide)
    | ((with_reducible apply Only.step modLane_only); on_goal 1 => decide)
    | ((with_reducible apply Only.lit); intro p hp; cases p <;> first | exact absurd (by decide) hp | (have hq := (‹Only _ _ _›).same _ hp; exact hq) | exact rfl)

theorem slkTxSleepWrite_only {n : Nat} {v : Bool} {s : State} :
    Only [.slk, .out] s (slkTxSleepWrite n v s) := by
  unfold slkTxSleepWrite
  repeat' first
    | with_reducible exact Only.refl
    | with_reducible assumption
    | (extract_lets +onlyGivenNames x; have ht := x.busRead; clear ht; refine Only.cut (x := x) ?_ (fun hx => ?_); (on_goal 1 => subst x); (on_goal 2 => clear_value x))
    | extract_lets +onlyGivenNames x
    | ((with_reducible apply Only.foldl); on_goal 1 => intro x t ht)
    | split
    | ((with_reducible apply Only.step modLane_only); on_goal 1 => decide)
    | ((with_reducible apply Only.step slkQueue_only); on_goal 1 => decide)
    | ((with_reducible apply Only.step slkDrain_only); on_goal 1 => decide)
    | ((with_reducible apply Only.lit); intro p hp; cases p <;> first | exact absurd (by decide) hp | (have hq := (‹Only _ _ _›).same _ hp; exact hq) | exact rfl)

theorem modFe_only {f : FeS → FeS} {s : State} :
    Only [.fe] s (modFe f s) := by
  unfold modFe
  repeat' first
    | with_reducible exact Only.refl
    | with_reducible assumption
    | (extract_lets +onlyGivenNames x; have ht := x.busRead; clear ht; refine Only.cut (x := x) ?_ (fun hx => ?_); (on_goal 1 => subst x); (on_goal 2 => clear_value x))
    | extract_lets +onlyGivenNames x
    | ((with_reducible apply Only.foldl); on_goal 1 => intro x t ht)
    | split
    | ((with_reducible apply Only.lit); intro p hp; cases p <;> first | exact absurd (by decide) hp | (have hq := (‹Only _ _ _›).same _ hp; exact hq) | exact rfl)

theorem fieldFunctions_only {s : State} :
    Only [.fld, .saf, .car, .eic, .log, .pci, .slk, .out] s (fieldFunctions s) := by
  unfold fieldFunctions
  repeat' first
    | with_reducible exact Only.refl
    | with_reducible assumption
    | (extract_lets +onlyGivenNames x; have ht := x.busRead; clear ht; refine Only.cut (x := x) ?_ (fun hx => ?_); (on_goal 1 => subst x); (on_goal 2 => clear_value x))
    | extract_lets +onlyGivenNames x
    | ((with_reducible apply Only.foldl); on_goal 1 => intro x t ht)
    | split
    | ((with_reducible apply Only.step evalOutputs_only); on_goal 1 => decide)
    | ((with_reducible apply Only.step modSf_only); on_goal 1 => decide)
    | ((with_reducible apply Only.lit); intro p hp; cases p <;> first | exact absurd (by decide) hp | (have hq := (‹Only _ _ _›).same _ hp; exact hq) | exact rfl)

theorem fieldsFrameStart_only {complete : Bool} {s : State} :
    Only [.fe] s (fieldsFrameStart complete s) := by
  unfold fieldsFrameStart
  repeat' first
    | with_reducible exact Only.refl
    | with_reducible assumption
    | (extract_lets +onlyGivenNames x; have ht := x.busRead; clear ht; refine Only.cut (x := x) ?_ (fun hx => ?_); (on_goal 1 => subst x); (on_goal 2 => clear_value x))
    | extract_lets +onlyGivenNames x
    | ((with_reducible apply Only.foldl); on_goal 1 => intro x t ht)
    | split
    | ((with_reducible apply Only.step modFe_only); on_goal 1 => decide)
    | ((with_reducible apply Only.lit); intro p hp; cases p <;> first | exact absurd (by decide) hp | (have hq := (‹Only _ _ _›).same _ hp; exact hq) | exact rfl)

theorem modSlot_only {j : Nat} {f : RxSlot → RxSlot} {s : State} :
    Only [.fe] s (modSlot j f s) := by
  unfold modSlot
  repeat' first
    | with_reducible exact Only.refl
    | with_reducible assumption
    | (extract_lets +onlyGivenNames x; have ht := x.busRead; clear ht; refine Only.cut (x := x) ?_ (fun hx => ?_); (on_goal 1 => subst x); (on_goal 2 => clear_value x))
    | extract_lets +onlyGivenNames x
    | ((with_reducible apply Only.foldl); on_goal 1 => intro x t ht)
    | split
    | ((with_reducible apply Only.step modFe_only); on_goal 1 => decide)
    | ((with_reducible apply Only.lit); intro p hp; cases p <;> first | exact absurd (by decide) hp | (have hq := (‹Only _ _ _›).same _ hp; exact hq) | exact rfl)

theorem pduReject_only {s : State} :
    Only [.fe] s (pduReject s) := by
  unfold pduReject
  repeat' first
    | with_reducible exact Only.refl
    | with_reducible assumption
    | (extract_lets +onlyGivenNames x; have ht := x.busRead; clear ht; refine Only.cut (x := x) ?_ (fun hx => ?_); (on_goal 1 => subst x); (on_goal 2 => clear_value x))
    | extract_lets +onlyGivenNames x
    | ((with_reducible apply Only.foldl); on_goal 1 => intro x t ht)
    | split
    | ((with_reducible apply Only.step modFe_only); on_goal 1 => decide)
    | ((with_reducible apply Only.lit); intro p hp; cases p <;> first | exact absurd (by decide) hp | (have hq := (‹Only _ _ _›).same _ hp; exact hq) | exact rfl)

theorem netClear_only {s : State} :
    Only [.saf, .fe] s (netClear s) := by
  unfold netClear
  repeat' first
    | with_reducible exact Only.refl
    | with_reducible assumption
    | (extract_lets +onlyGivenNames x; have ht := x.busRead; clear ht; refine Only.cut (x := x) ?_ (fun hx => ?_); (on_goal 1 => subst x); (on_goal 2 => clear_value x))
    | extract_lets +onlyGivenNames x
    | ((with_reducible apply Only.foldl); on_goal 1 => intro x t ht)
    | split
    | ((with_reducible apply Only.step safeClear_only); on_goal 1 => decide)
    | ((with_reducible apply Only.step modFe_only); on_goal 1 => decide)
    | ((with_reducible apply Only.lit); intro p hp; cases p <;> first | exact absurd (by decide) hp | (have hq := (‹Only _ _ _›).same _ hp; exact hq) | exact rfl)

theorem followSpeed_only {s : State} :
    Only [.fld, .saf, .fe, .car, .eic, .log, .pci, .slk, .out] s (followSpeed s) := by
  unfold followSpeed
  repeat' first
    | with_reducible exact Only.refl
    | with_reducible assumption
    | (extract_lets +onlyGivenNames x; have ht := x.busRead; clear ht; refine Only.cut (x := x) ?_ (fun hx => ?_); (on_goal 1 => subst x); (on_goal 2 => clear_value x))
    | extract_lets +onlyGivenNames x
    | ((with_reducible apply Only.foldl); on_goal 1 => intro x t ht)
    | split
    | ((with_reducible apply Only.step modFe_only); on_goal 1 => decide)
    | ((with_reducible apply Only.step fieldFunctions_only); on_goal 1 => decide)
    | ((with_reducible apply Only.lit); intro p hp; cases p <;> first | exact absurd (by decide) hp | (have hq := (‹Only _ _ _›).same _ hp; exact hq) | exact rfl)

theorem pduAccept_only {j : Nat} {d : List Byte} {s : State} :
    Only [.dev, .rm, .fld, .adc, .saf, .fe, .car, .eic, .log, .pci, .slk, .rst, .out] s (pduAccept j d s) := by
  unfold pduAccept
  repeat' first
    | with_reducible exact Only.refl
    | with_reducible assumption
    | (extract_lets +onlyGivenNames x; have ht := x.busRead; clear ht; refine Only.cut (x := x) ?_ (fun hx => ?_); (on_goal 1 => subst x); (on_goal 2 => clear_value x))
    | extract_lets +onlyGivenNames x
    | ((with_reducible apply Only.foldl); on_goal 1 => intro x t ht)
    | split
    | ((with_reducible apply Only.step modFe_only); on_goal 1 => decide)
    | ((with_reducible apply Only.step modSlot_only); on_goal 1 => decide)
    | ((with_reducible apply Only.step safeClear_only); on_goal 1 => decide)
    | ((with_reducible apply Only.step netClear_only); on_goal 1 => decide)
    | ((with_reducible apply Only.step safeCause_only); on_goal 1 => decide)
    | ((with_reducible apply Only.step followSpeed_only); on_goal 1 => decide)
    | ((with_reducible apply Only.lit); intro p hp; cases p <;> first | exact absurd (by decide) hp | (have hq := (‹Only _ _ _›).same _ hp; exact hq) | exact rfl)

theorem pduPair_only {j net : Nat} {d : List Byte} {s : State} :
    Only [.dev, .rm, .fld, .adc, .saf, .fe, .car, .eic, .log, .pci, .slk, .rst, .out] s (pduPair j net d s) := by
  unfold pduPair
  repeat' first
    | with_reducible exact Only.refl
    | with_reducible assumption
    | (extract_lets +onlyGivenNames x; have ht := x.busRead; clear ht; refine Only.cut (x := x) ?_ (fun hx => ?_); (on_goal 1 => subst x); (on_goal 2 => clear_value x))
    | (extract_lets +onlyGivenNames x; clear_value x)
    | extract_lets +onlyGivenNames x
    | ((with_reducible apply Only.foldl); on_goal 1 => intro x t ht)
    | split
    | ((with_reducible apply Only.step modSlot_only); on_goal 1 => decide)
    | ((with_reducible apply Only.step modFe_only); on_goal 1 => decide)
    | ((with_reducible apply Only.step safeCause_only); on_goal 1 => decide)
    | ((with_reducible apply Only.step logNow_only); on_goal 1 => decide)
    | ((with_reducible apply Only.step pduAccept_only); on_goal 1 => decide)
    | ((with_reducible apply Only.lit); intro p hp; cases p <;> first | exact absurd (by decide) hp | (have hq := (‹Only _ _ _›).same _ hp; exact hq) | exact rfl)

theorem verComplete_only {s : State} :
    Only [.saf, .fe] s (verComplete s) := by
  unfold verComplete
  repeat' first
    | with_reducible exact Only.refl
    | with_reducible assumption
    | (extract_lets +onlyGivenNames x; have ht := x.busRead; clear ht; refine Only.cut (x := x) ?_ (fun hx => ?_); (on_goal 1 => subst x); (on_goal 2 => clear_value x))
    | extract_lets +onlyGivenNames x
    | ((with_reducible apply Only.foldl); on_goal 1 => intro x t ht)
    | split
    | ((with_reducible apply Only.step modFe_only); on_goal 1 => decide)
    | ((with_reducible apply Only.step safeClear_only); on_goal 1 => decide)
    | ((with_reducible apply Only.step modSlot_only); on_goal 1 => decide)
    | ((with_reducible apply Only.lit); intro p hp; cases p <;> first | exact absurd (by decide) hp | (have hq := (‹Only _ _ _›).same _ hp; exact hq) | exact rfl)

theorem netMissing_only {net : Nat} {s : State} :
    Only [.dev, .rm, .fld, .adc, .saf, .fe, .car, .eic, .log, .pci, .slk, .rst, .out] s (netMissing net s) := by
  unfold netMissing
  repeat' first
    | with_reducible exact Only.refl
    | with_reducible assumption
    | (extract_lets +onlyGivenNames x; have ht := x.busRead; clear ht; refine Only.cut (x := x) ?_ (fun hx => ?_); (on_goal 1 => subst x); (on_goal 2 => clear_value x))
    | extract_lets +onlyGivenNames x
    | ((with_reducible apply Only.foldl); on_goal 1 => intro x t ht)
    | split
    | ((with_reducible apply Only.step safeCause_only); on_goal 1 => decide)
    | ((with_reducible apply Only.step modFe_only); on_goal 1 => decide)
    | ((with_reducible apply Only.lit); intro p hp; cases p <;> first | exact absurd (by decide) hp | (have hq := (‹Only _ _ _›).same _ hp; exact hq) | exact rfl)

theorem pduSend_only {p : List Byte} {ackA ackB : Bool} {s : State} :
    Only [.dev, .rm, .fld, .adc, .saf, .fe, .car, .eic, .log, .pci, .xi, .slk, .rst, .out] s (pduSend p ackA ackB s) := by
  unfold pduSend
  repeat' first
    | with_reducible exact Only.refl
    | with_reducible assumption
    | (extract_lets +onlyGivenNames x; have ht := x.busRead; clear ht; refine Only.cut (x := x) ?_ (fun hx => ?_); (on_goal 1 => subst x); (on_goal 2 => clear_value x))
    | extract_lets +onlyGivenNames x
    | ((with_reducible apply Only.foldl); on_goal 1 => intro x t ht)
    | split
    | ((with_reducible apply Only.step canQueue_only); on_goal 1 => decide)
    | ((with_reducible apply Only.step modFe_only); on_goal 1 => decide)
    | ((with_reducible apply Only.step netMissing_only); on_goal 1 => decide)
    | ((with_reducible apply Only.step netClear_only); on_goal 1 => decide)
    | ((with_reducible apply Only.lit); intro p hp; cases p <;> first | exact absurd (by decide) hp | (have hq := (‹Only _ _ _›).same _ hp; exact hq) | exact rfl)

theorem verAnswer_only {node : Nat} {d : List Byte} {ackA ackB : Bool} {s : State} :
    Only [.dev, .rm, .fld, .adc, .saf, .fe, .car, .eic, .log, .pci, .xi, .slk, .rst, .out] s (verAnswer node d ackA ackB s) := by
  unfold verAnswer
  repeat' first
    | with_reducible exact Only.refl
    | with_reducible assumption
    | (extract_lets +onlyGivenNames x; have ht := x.busRead; clear ht; refine Only.cut (x := x) ?_ (fun hx => ?_); (on_goal 1 => subst x); (on_goal 2 => clear_value x))
    | extract_lets +onlyGivenNames x
    | ((with_reducible apply Only.foldl); on_goal 1 => intro x t ht)
    | split
    | ((with_reducible apply Only.step modSlot_only); on_goal 1 => decide)
    | ((with_reducible apply Only.step verComplete_only); on_goal 1 => decide)
    | ((with_reducible apply Only.step modFe_only); on_goal 1 => decide)
    | ((with_reducible apply Only.step safeCause_only); on_goal 1 => decide)
    | ((with_reducible apply Only.step pduSend_only); on_goal 1 => decide)
    | ((with_reducible apply Only.lit); intro p hp; cases p <;> first | exact absurd (by decide) hp | (have hq := (‹Only _ _ _›).same _ hp; exact hq) | exact rfl)

theorem applyHeld_only {a : DApp} {s : State} :
    Only [.dict, .car] s (applyHeld a s) := by
  unfold applyHeld
  repeat' first
    | with_reducible exact Only.refl
    | with_reducible assumption
    | (extract_lets +onlyGivenNames x; have ht := x.busRead; clear ht; refine Only.cut (x := x) ?_ (fun hx => ?_); (on_goal 1 => subst x); (on_goal 2 => clear_value x))
    | extract_lets +onlyGivenNames x
    | ((with_reducible apply Only.foldl); on_goal 1 => intro x t ht)
    | split
    | ((with_reducible apply Only.step takeHeld_only); on_goal 1 => decide)
    | ((with_reducible apply Only.lit); intro p hp; cases p <;> first | exact absurd (by decide) hp | (have hq := (‹Only _ _ _›).same _ hp; exact hq) | exact rfl)

theorem fixFrame_only {s : State} :
    Only [.dict] s (fixFrame s) := by
  unfold fixFrame
  repeat' first
    | with_reducible exact Only.refl
    | with_reducible assumption
    | (extract_lets +onlyGivenNames x; have ht := x.busRead; clear ht; refine Only.cut (x := x) ?_ (fun hx => ?_); (on_goal 1 => subst x); (on_goal 2 => clear_value x))
    | extract_lets +onlyGivenNames x
    | ((with_reducible apply Only.foldl); on_goal 1 => intro x t ht)
    | split
    | ((with_reducible apply Only.lit); intro p hp; cases p <;> first | exact absurd (by decide) hp | (have hq := (‹Only _ _ _›).same _ hp; exact hq) | exact rfl)

theorem withFixed_only {s : State} :
    Only [.dict] s (withFixed s) := by
  unfold withFixed
  repeat' first
    | with_reducible exact Only.refl
    | with_reducible assumption
    | (extract_lets +onlyGivenNames x; have ht := x.busRead; clear ht; refine Only.cut (x := x) ?_ (fun hx => ?_); (on_goal 1 => subst x); (on_goal 2 => clear_value x))
    | extract_lets +onlyGivenNames x
    | ((with_reducible apply Only.foldl); on_goal 1 => intro x t ht)
    | split
    | ((with_reducible apply Only.lit); intro p hp; cases p <;> first | exact absurd (by decide) hp | (have hq := (‹Only _ _ _›).same _ hp; exact hq) | exact rfl)

theorem ditherLoad_only {s : State} :
    Only [.rm] s (ditherLoad s) := by
  unfold ditherLoad
  repeat' first
    | with_reducible exact Only.refl
    | with_reducible assumption
    | (extract_lets +onlyGivenNames x; have ht := x.busRead; clear ht; refine Only.cut (x := x) ?_ (fun hx => ?_); (on_goal 1 => subst x); (on_goal 2 => clear_value x))
    | extract_lets +onlyGivenNames x
    | ((with_reducible apply Only.foldl); on_goal 1 => intro x t ht)
    | split
    | ((with_reducible apply Only.step modRm_only); on_goal 1 => decide)
    | ((with_reducible apply Only.lit); intro p hp; cases p <;> first | exact absurd (by decide) hp | (have hq := (‹Only _ _ _›).same _ hp; exact hq) | exact rfl)

theorem selectIn_only {t : EyeTable} {k : FX} {bins : List Nat} {ed : Nat} {ee : Nat × Nat} {vth vch v : Nat} {w : Winner} {sh : Shot}
    {s : State} : Only [.rm, .lce] s (selectIn t k bins ed ee vth vch v w sh s).2 := by
  unfold selectIn
  extract_lets e u eMin closed low skip sh'
  have hu : Only [.rm, .lce] s u := modLce_only.mono rfl
  clear_value e u eMin closed low skip sh'
  split
  · exact Only.step eyeCharge_only (by decide) hu
  · exact hu

theorem selectShot_only {sh : Shot} {s : State} : Only [.rm, .lce] s (selectShot sh s).2 := by
  unfold selectShot
  split
  · exact Only.refl
  · with_reducible exact selectIn_only

theorem planShot_only {sh : Shot} {s : State} :
    Only [.rm, .lce] s (planShot sh s).2 := by
  unfold planShot
  repeat' first
    | with_reducible exact Only.refl
    | with_reducible assumption
    | (extract_lets +onlyGivenNames x; have ht := x.busRead; clear ht; refine Only.cut (x := x) ?_ (fun hx => ?_); (on_goal 1 => subst x); (on_goal 2 => clear_value x))
    | extract_lets +onlyGivenNames x
    | ((with_reducible apply Only.foldl); on_goal 1 => intro x t ht)
    | split
    | ((with_reducible apply Only.step selectShot_only); on_goal 1 => decide)
    | (refine Only.of_snd (by assumption) ?_; (with_reducible apply Only.step selectShot_only); on_goal 1 => decide)
    | ((with_reducible apply Only.lit); intro p hp; cases p <;> first | exact absurd (by decide) hp | (have hq := (‹Only _ _ _›).same _ hp; exact hq) | exact rfl)

theorem reopenBanks_only {s : State} :
    Only [.fld] s (reopenBanks s) := by
  unfold reopenBanks
  repeat' first
    | with_reducible exact Only.refl
    | with_reducible assumption
    | (extract_lets +onlyGivenNames x; have ht := x.busRead; clear ht; refine Only.cut (x := x) ?_ (fun hx => ?_); (on_goal 1 => subst x); (on_goal 2 => clear_value x))
    | extract_lets +onlyGivenNames x
    | ((with_reducible apply Only.foldl); on_goal 1 => intro x t ht)
    | split
    | ((with_reducible apply Only.step modBank_only); on_goal 1 => decide)
    | ((with_reducible apply Only.step modFld_only); on_goal 1 => decide)
    | ((with_reducible apply Only.lit); intro p hp; cases p <;> first | exact absurd (by decide) hp | (have hq := (‹Only _ _ _›).same _ hp; exact hq) | exact rfl)

theorem resTargets_only {l : List Shot} {s : State} :
    Only [.fld] s (resTargets l s) := by
  unfold resTargets
  repeat' first
    | with_reducible exact Only.refl
    | with_reducible assumption
    | (extract_lets +onlyGivenNames x; have ht := x.busRead; clear ht; refine Only.cut (x := x) ?_ (fun hx => ?_); (on_goal 1 => subst x); (on_goal 2 => clear_value x))
    | extract_lets +onlyGivenNames x
    | ((with_reducible apply Only.foldl); on_goal 1 => intro x t ht)
    | split
    | ((with_reducible apply Only.step modFld_only); on_goal 1 => decide)
    | ((with_reducible apply Only.step modBank_only); on_goal 1 => decide)
    | ((with_reducible apply Only.lit); intro p hp; cases p <;> first | exact absurd (by decide) hp | (have hq := (‹Only _ _ _›).same _ hp; exact hq) | exact rfl)

theorem commitPhase_only {s : State} :
    Only [.dict, .rm, .fld, .chan, .rj, .lce, .out] s (commitPhase s) := by
  unfold commitPhase
  extract_lets s0 a lf d level u base inh v
  have h0 : Only [.dict, .rm, .fld, .chan, .rj, .lce, .out] s s0 := reopenBanks_only.mono (by decide)
  have hu : Only [.dict, .rm, .fld, .chan, .rj, .lce, .out] s u := Only.step modRm_only (by decide) (Only.step eyeSlots_only (by decide) h0)
  clear_value s0 level u
  have hv : Only [.dict, .rm, .fld, .chan, .rj, .lce, .out] s v := by
    subst v
    split
    · exact Only.step modRm_only (by decide) (Only.step withFixed_only (by decide) hu)
    · exact hu
  clear_value a lf d base inh v
  split
  next l w e =>
  have hw : Only [.dict, .rm, .fld, .chan, .rj, .lce, .out] s w := by
    refine Only.of_snd e (Only.foldlSnd (fun x acc h => ?_) hv)
    extract_lets sh
    clear_value sh
    split
    · split
      next e' => exact Only.of_snd e' (Only.step planShot_only (by decide) (Only.step azCount_only (by decide) h))
    · exact h
  clear e
  extract_lets v1 v2 fired v3 v4
  have h1 : Only [.dict, .rm, .fld, .chan, .rj, .lce, .out] s v1 :=
    Only.foldl (fun x t ht => Only.foldl (fun y r hr => Only.step modChan_only (by decide) hr) ht) hw
  clear_value v1
  have h2 : Only [.dict, .rm, .fld, .chan, .rj, .lce, .out] s v2 := Only.step modRj_only (by decide) h1
  clear_value v2 fired
  have h3 : Only [.dict, .rm, .fld, .chan, .rj, .lce, .out] s v3 := by
    subst v3
    refine ⟨fun p hp => ?_⟩
    have hq := h2.same p hp
    cases p <;> first | exact absurd (by decide) hp | exact hq
  clear_value v3
  have h4 : Only [.dict, .rm, .fld, .chan, .rj, .lce, .out] s v4 := Only.step resTargets_only (by decide) (Only.step modRm_only (by decide) h3)
  clear_value v4
  split
  · exact h4
  · exact Only.step barSend_only (by decide) h4

theorem loadCodes_only {sh : Shot} {s : State} :
    Only [.chan] s (loadCodes sh s) := by
  unfold loadCodes
  repeat' first
    | with_reducible exact Only.refl
    | with_reducible assumption
    | (extract_lets +onlyGivenNames x; have ht := x.busRead; clear ht; refine Only.cut (x := x) ?_ (fun hx => ?_); (on_goal 1 => subst x); (on_goal 2 => clear_value x))
    | extract_lets +onlyGivenNames x
    | ((with_reducible apply Only.foldl); on_goal 1 => intro x t ht)
    | split
    | ((with_reducible apply Only.step modChan_only); on_goal 1 => decide)
    | ((with_reducible apply Only.lit); intro p hp; cases p <;> first | exact absurd (by decide) hp | (have hq := (‹Only _ _ _›).same _ hp; exact hq) | exact rfl)

theorem loadTables_only {sh : Shot} {s : State} :
    Only [.chan, .ts, .eic, .log, .pci, .slk, .out] s (loadTables sh s) := by
  unfold loadTables
  repeat' first
    | with_reducible exact Only.refl
    | with_reducible assumption
    | (extract_lets +onlyGivenNames x; have ht := x.busRead; clear ht; refine Only.cut (x := x) ?_ (fun hx => ?_); (on_goal 1 => subst x); (on_goal 2 => clear_value x))
    | extract_lets +onlyGivenNames x
    | ((with_reducible apply Only.foldl); on_goal 1 => intro x t ht)
    | split
    | ((with_reducible apply Only.step setSwap_only); on_goal 1 => decide)
    | ((with_reducible apply Only.step lineSwap_only); on_goal 1 => decide)
    | ((with_reducible apply Only.step modChan_only); on_goal 1 => decide)
    | ((with_reducible apply Only.lit); intro p hp; cases p <;> first | exact absurd (by decide) hp | (have hq := (‹Only _ _ _›).same _ hp; exact hq) | exact rfl)

theorem fireDiscard_only {frame : List FireBank} {s : State} :
    Only [.rm] s (fireDiscard frame s) := by
  unfold fireDiscard
  repeat' first
    | with_reducible exact Only.refl
    | with_reducible assumption
    | (extract_lets +onlyGivenNames x; have ht := x.busRead; clear ht; refine Only.cut (x := x) ?_ (fun hx => ?_); (on_goal 1 => subst x); (on_goal 2 => clear_value x))
    | extract_lets +onlyGivenNames x
    | ((with_reducible apply Only.foldl); on_goal 1 => intro x t ht)
    | split
    | ((with_reducible apply Only.step modRm_only); on_goal 1 => decide)
    | ((with_reducible apply Only.lit); intro p hp; cases p <;> first | exact absurd (by decide) hp | (have hq := (‹Only _ _ _›).same _ hp; exact hq) | exact rfl)

theorem contamFrame_only {s : State} {p : Nat × ChanS} :
    Only [.chan, .eic, .log, .pci, .slk, .out] s (contamFrame s p) := by
  unfold contamFrame
  repeat' first
    | with_reducible exact Only.refl
    | with_reducible assumption
    | (extract_lets +onlyGivenNames x; have ht := x.busRead; clear ht; refine Only.cut (x := x) ?_ (fun hx => ?_); (on_goal 1 => subst x); (on_goal 2 => clear_value x))
    | extract_lets +onlyGivenNames x
    | ((with_reducible apply Only.foldl); on_goal 1 => intro x t ht)
    | split
    | ((with_reducible apply Only.step modChan_only); on_goal 1 => decide)
    | ((with_reducible apply Only.step logNow_only); on_goal 1 => decide)
    | ((with_reducible apply Only.lit); intro p hp; cases p <;> first | exact absurd (by decide) hp | (have hq := (‹Only _ _ _›).same _ hp; exact hq) | exact rfl)

theorem refCheck_only {s : State} {c : Nat} :
    Only [.chan, .eic, .log, .pci, .slk, .out] s (refCheck s c) := by
  unfold refCheck
  repeat' first
    | with_reducible exact Only.refl
    | with_reducible assumption
    | (extract_lets +onlyGivenNames x; have ht := x.busRead; clear ht; refine Only.cut (x := x) ?_ (fun hx => ?_); (on_goal 1 => subst x); (on_goal 2 => clear_value x))
    | extract_lets +onlyGivenNames x
    | ((with_reducible apply Only.foldl); on_goal 1 => intro x t ht)
    | split
    | ((with_reducible apply Only.step modChan_only); on_goal 1 => decide)
    | ((with_reducible apply Only.step logNow_only); on_goal 1 => decide)
    | ((with_reducible apply Only.lit); intro p hp; cases p <;> first | exact absurd (by decide) hp | (have hq := (‹Only _ _ _›).same _ hp; exact hq) | exact rfl)

theorem adaptUpdate_only {s : State} :
    Only [.rm] s (adaptUpdate s) := by
  unfold adaptUpdate
  repeat' first
    | with_reducible exact Only.refl
    | with_reducible assumption
    | (extract_lets +onlyGivenNames x; have ht := x.busRead; clear ht; refine Only.cut (x := x) ?_ (fun hx => ?_); (on_goal 1 => subst x); (on_goal 2 => clear_value x))
    | extract_lets +onlyGivenNames x
    | ((with_reducible apply Only.foldl); on_goal 1 => intro x t ht)
    | split
    | ((with_reducible apply Only.step modRm_only); on_goal 1 => decide)
    | ((with_reducible apply Only.lit); intro p hp; cases p <;> first | exact absurd (by decide) hp | (have hq := (‹Only _ _ _›).same _ hp; exact hq) | exact rfl)

theorem advanceTrim_only {s : State} {b : Nat} :
    Only [.fld] s (advanceTrim s b) := by
  unfold advanceTrim
  repeat' first
    | with_reducible exact Only.refl
    | with_reducible assumption
    | (extract_lets +onlyGivenNames x; have ht := x.busRead; clear ht; refine Only.cut (x := x) ?_ (fun hx => ?_); (on_goal 1 => subst x); (on_goal 2 => clear_value x))
    | extract_lets +onlyGivenNames x
    | ((with_reducible apply Only.foldl); on_goal 1 => intro x t ht)
    | split
    | ((with_reducible apply Only.step modBank_only); on_goal 1 => decide)
    | ((with_reducible apply Only.lit); intro p hp; cases p <;> first | exact absurd (by decide) hp | (have hq := (‹Only _ _ _›).same _ hp; exact hq) | exact rfl)

theorem zonesEval_only {frame : BitVec 32} {s : State} :
    Only [.pt, .adc] s (zonesEval frame s) := by
  unfold zonesEval
  repeat' first
    | with_reducible exact Only.refl
    | with_reducible assumption
    | (extract_lets +onlyGivenNames x; have ht := x.busRead; clear ht; refine Only.cut (x := x) ?_ (fun hx => ?_); (on_goal 1 => subst x); (on_goal 2 => clear_value x))
    | extract_lets +onlyGivenNames x
    | ((with_reducible apply Only.foldl); on_goal 1 => intro x t ht)
    | split
    | ((with_reducible apply Only.step modAdc_only); on_goal 1 => decide)
    | ((with_reducible apply Only.step modPt_only); on_goal 1 => decide)
    | ((with_reducible apply Only.lit); intro p hp; cases p <;> first | exact absurd (by decide) hp | (have hq := (‹Only _ _ _›).same _ hp; exact hq) | exact rfl)

theorem frameEnds_only {s : State} :
    Only [.rm, .fld, .chan, .rj, .pt, .adc, .eic, .log, .pci, .slk, .out] s (frameEnds s) := by
  unfold frameEnds
  repeat' first
    | with_reducible exact Only.refl
    | with_reducible assumption
    | (extract_lets +onlyGivenNames x; have ht := x.busRead; clear ht; refine Only.cut (x := x) ?_ (fun hx => ?_); (on_goal 1 => subst x); (on_goal 2 => clear_value x))
    | extract_lets +onlyGivenNames x
    | ((with_reducible apply Only.foldl); on_goal 1 => intro x t ht)
    | split
    | ((with_reducible apply Only.step contamFrame_only); on_goal 1 => decide)
    | ((with_reducible apply Only.step refCheck_only); on_goal 1 => decide)
    | ((with_reducible apply Only.step advanceTrim_only); on_goal 1 => decide)
    | ((with_reducible apply Only.step closeFrame_only); on_goal 1 => decide)
    | ((with_reducible apply Only.step modPt_only); on_goal 1 => decide)
    | ((with_reducible apply Only.step zonesEval_only); on_goal 1 => decide)
    | ((with_reducible apply Only.lit); intro p hp; cases p <;> first | exact absurd (by decide) hp | (have hq := (‹Only _ _ _›).same _ hp; exact hq) | exact rfl)

theorem coordDecide_only {s : State} :
    Only [.rm, .rj, .eic, .log, .pci, .slk, .out] s (coordDecide s) := by
  unfold coordDecide
  repeat' first
    | with_reducible exact Only.refl
    | with_reducible assumption
    | (extract_lets +onlyGivenNames x; have ht := x.busRead; clear ht; refine Only.cut (x := x) ?_ (fun hx => ?_); (on_goal 1 => subst x); (on_goal 2 => clear_value x))
    | extract_lets +onlyGivenNames x
    | ((with_reducible apply Only.foldl); on_goal 1 => intro x t ht)
    | split
    | ((with_reducible apply Only.step modRj_only); on_goal 1 => decide)
    | ((with_reducible apply Only.step modRm_only); on_goal 1 => decide)
    | ((with_reducible apply Only.step logNow_only); on_goal 1 => decide)
    | ((with_reducible apply Only.lit); intro p hp; cases p <;> first | exact absurd (by decide) hp | (have hq := (‹Only _ _ _›).same _ hp; exact hq) | exact rfl)

theorem frameApply_only {s : State} :
    Only [.dict, .rm, .fld, .chan, .ee, .rj, .lce, .car, .out] s (frameApply s) := by
  unfold frameApply
  repeat' first
    | with_reducible exact Only.refl
    | with_reducible assumption
    | (extract_lets +onlyGivenNames x; have ht := x.busRead; clear ht; refine Only.cut (x := x) ?_ (fun hx => ?_); (on_goal 1 => subst x); (on_goal 2 => clear_value x))
    | extract_lets +onlyGivenNames x
    | ((with_reducible apply Only.foldl); on_goal 1 => intro x t ht)
    | split
    | ((with_reducible apply Only.step rxStarts_only); on_goal 1 => decide)
    | ((with_reducible apply Only.step putInForce_only); on_goal 1 => decide)
    | ((with_reducible apply Only.step cfgSend_only); on_goal 1 => decide)
    | ((with_reducible apply Only.step ditherLoad_only); on_goal 1 => decide)
    | ((with_reducible apply Only.step modBank_only); on_goal 1 => decide)
    | ((with_reducible apply Only.step modeChange_only); on_goal 1 => decide)
    | ((with_reducible apply Only.step modRj_only); on_goal 1 => decide)
    | ((with_reducible apply Only.step modLce_only); on_goal 1 => decide)
    | ((with_reducible apply Only.lit); intro p hp; cases p <;> first | exact absurd (by decide) hp | (have hq := (‹Only _ _ _›).same _ hp; exact hq) | exact rfl)

theorem streamStart_only {s : State} :
    Only [.pt] s (streamStart s) := by
  unfold streamStart
  repeat' first
    | with_reducible exact Only.refl
    | with_reducible assumption
    | (extract_lets +onlyGivenNames x; have ht := x.busRead; clear ht; refine Only.cut (x := x) ?_ (fun hx => ?_); (on_goal 1 => subst x); (on_goal 2 => clear_value x))
    | extract_lets +onlyGivenNames x
    | ((with_reducible apply Only.foldl); on_goal 1 => intro x t ht)
    | split
    | ((with_reducible apply Only.step modPt_only); on_goal 1 => decide)
    | ((with_reducible apply Only.lit); intro p hp; cases p <;> first | exact absurd (by decide) hp | (have hq := (‹Only _ _ _›).same _ hp; exact hq) | exact rfl)

theorem frameStart_only {f : FrameP} {s : State} :
    Only [.dev, .dict, .rm, .fld, .chan, .tbs, .ee, .rj, .ts, .pt, .lce, .adc, .saf, .fe, .car, .eic, .log, .pci, .slk, .rst, .out] s (frameStart f s) := by
  unfold frameStart
  repeat' first
    | with_reducible exact Only.refl
    | with_reducible assumption
    | (extract_lets +onlyGivenNames x; have ht := x.busRead; clear ht; refine Only.cut (x := x) ?_ (fun hx => ?_); (on_goal 1 => subst x); (on_goal 2 => clear_value x))
    | extract_lets +onlyGivenNames x
    | ((with_reducible apply Only.foldl); on_goal 1 => intro x t ht)
    | split
    | ((with_reducible apply Only.step encFrameStart_only); on_goal 1 => decide)
    | ((with_reducible apply Only.step secondaryLost_only); on_goal 1 => decide)
    | ((with_reducible apply Only.step modLce_only); on_goal 1 => decide)
    | ((with_reducible apply Only.step modTbs_only); on_goal 1 => decide)
    | ((with_reducible apply Only.step adaptUpdate_only); on_goal 1 => decide)
    | ((with_reducible apply Only.step frameEnds_only); on_goal 1 => decide)
    | ((with_reducible apply Only.step mirrorFrameEnd_only); on_goal 1 => decide)
    | ((with_reducible apply Only.step fieldsFrameStart_only); on_goal 1 => decide)
    | ((with_reducible apply Only.step frameApply_only); on_goal 1 => decide)
    | ((with_reducible apply Only.step mirrorFrameStart_only); on_goal 1 => decide)
    | ((with_reducible apply Only.step modRm_only); on_goal 1 => decide)
    | ((with_reducible apply Only.step uninhibit_only); on_goal 1 => decide)
    | ((with_reducible apply Only.step streamStart_only); on_goal 1 => decide)
    | ((with_reducible apply Only.step marginsTake_only); on_goal 1 => decide)
    | ((with_reducible apply Only.step refreshStale_only); on_goal 1 => decide)
    | ((with_reducible apply Only.step setBuild_only); on_goal 1 => decide)
    | ((with_reducible apply Only.step coordDecide_only); on_goal 1 => decide)
    | ((with_reducible apply Only.lit); intro p hp; cases p <;> first | exact absurd (by decide) hp | (have hq := (‹Only _ _ _›).same _ hp; exact hq) | exact rfl)

theorem openShot_only {s : State} {sh : Shot} :
    Only [.rm, .pt] s (openShot s sh) := by
  unfold openShot
  repeat' first
    | with_reducible exact Only.refl
    | with_reducible assumption
    | (extract_lets +onlyGivenNames x; have ht := x.busRead; clear ht; refine Only.cut (x := x) ?_ (fun hx => ?_); (on_goal 1 => subst x); (on_goal 2 => clear_value x))
    | extract_lets +onlyGivenNames x
    | ((with_reducible apply Only.foldl); on_goal 1 => intro x t ht)
    | split
    | ((with_reducible apply Only.step modRm_only); on_goal 1 => decide)
    | ((with_reducible apply Only.step skipShot_only); on_goal 1 => decide)
    | ((with_reducible apply Only.step markSkip_only); on_goal 1 => decide)
    | ((with_reducible apply Only.lit); intro p hp; cases p <;> first | exact absurd (by decide) hp | (have hq := (‹Only _ _ _›).same _ hp; exact hq) | exact rfl)

theorem swapTables_only {s : State} :
    Only [.chan, .ts, .eic, .log, .pci, .slk, .out] s (swapTables s) := by
  unfold swapTables
  repeat' first
    | with_reducible exact Only.refl
    | with_reducible assumption
    | (extract_lets +onlyGivenNames x; have ht := x.busRead; clear ht; refine Only.cut (x := x) ?_ (fun hx => ?_); (on_goal 1 => subst x); (on_goal 2 => clear_value x))
    | extract_lets +onlyGivenNames x
    | ((with_reducible apply Only.foldl); on_goal 1 => intro x t ht)
    | split
    | ((with_reducible apply Only.step loadCodes_only); on_goal 1 => decide)
    | ((with_reducible apply Only.step loadTables_only); on_goal 1 => decide)
    | ((with_reducible apply Only.step monSwap_only); on_goal 1 => decide)
    | ((with_reducible apply Only.step modTs_only); on_goal 1 => decide)
    | ((with_reducible apply Only.lit); intro p hp; cases p <;> first | exact absurd (by decide) hp | (have hq := (‹Only _ _ _›).same _ hp; exact hq) | exact rfl)

theorem openFired_only {before : Nat} {s : State} {b : Nat} :
    Only [.fld] s (openFired before s b) := by
  unfold openFired
  repeat' first
    | with_reducible exact Only.refl
    | with_reducible assumption
    | (extract_lets +onlyGivenNames x; have ht := x.busRead; clear ht; refine Only.cut (x := x) ?_ (fun hx => ?_); (on_goal 1 => subst x); (on_goal 2 => clear_value x))
    | extract_lets +onlyGivenNames x
    | ((with_reducible apply Only.foldl); on_goal 1 => intro x t ht)
    | split
    | ((with_reducible apply Only.step modBank_only); on_goal 1 => decide)
    | ((with_reducible apply Only.lit); intro p hp; cases p <;> first | exact absurd (by decide) hp | (have hq := (‹Only _ _ _›).same _ hp; exact hq) | exact rfl)

theorem openBank_only {s : State} {b : Nat} :
    Only [.fld] s (openBank s b) := by
  unfold openBank
  repeat' first
    | with_reducible exact Only.refl
    | with_reducible assumption
    | (extract_lets +onlyGivenNames x; have ht := x.busRead; clear ht; refine Only.cut (x := x) ?_ (fun hx => ?_); (on_goal 1 => subst x); (on_goal 2 => clear_value x))
    | extract_lets +onlyGivenNames x
    | ((with_reducible apply Only.foldl); on_goal 1 => intro x t ht)
    | split
    | ((with_reducible apply Only.step modBank_only); on_goal 1 => decide)
    | ((with_reducible apply Only.lit); intro p hp; cases p <;> first | exact absurd (by decide) hp | (have hq := (‹Only _ _ _›).same _ hp; exact hq) | exact rfl)

theorem missOver_only {s : State} :
    Only [.pt] s (missOver s) := by
  unfold missOver
  repeat' first
    | with_reducible exact Only.refl
    | with_reducible assumption
    | (extract_lets +onlyGivenNames x; have ht := x.busRead; clear ht; refine Only.cut (x := x) ?_ (fun hx => ?_); (on_goal 1 => subst x); (on_goal 2 => clear_value x))
    | extract_lets +onlyGivenNames x
    | ((with_reducible apply Only.foldl); on_goal 1 => intro x t ht)
    | split
    | ((with_reducible apply Only.step releaseMiss_only); on_goal 1 => decide)
    | ((with_reducible apply Only.lit); intro p hp; cases p <;> first | exact absurd (by decide) hp | (have hq := (‹Only _ _ _›).same _ hp; exact hq) | exact rfl)

theorem thinEnd_only {s : State} :
    Only [.cam] s (thinEnd s) := by
  unfold thinEnd
  repeat' first
    | with_reducible exact Only.refl
    | with_reducible assumption
    | (extract_lets +onlyGivenNames x; have ht := x.busRead; clear ht; refine Only.cut (x := x) ?_ (fun hx => ?_); (on_goal 1 => subst x); (on_goal 2 => clear_value x))
    | extract_lets +onlyGivenNames x
    | ((with_reducible apply Only.foldl); on_goal 1 => intro x t ht)
    | split
    | ((with_reducible apply Only.lit); intro p hp; cases p <;> first | exact absurd (by decide) hp | (have hq := (‹Only _ _ _›).same _ hp; exact hq) | exact rfl)

theorem openPhase_only {s : State} :
    Only [.tb, .rm, .fld, .chan, .ee, .rj, .ts, .pt, .lce, .cam, .car, .eic, .log, .pci, .slk, .out] s (openPhase s) := by
  unfold openPhase
  repeat' first
    | with_reducible exact Only.refl
    | with_reducible assumption
    | (extract_lets +onlyGivenNames x; have ht := x.busRead; clear ht; refine Only.cut (x := x) ?_ (fun hx => ?_); (on_goal 1 => subst x); (on_goal 2 => clear_value x))
    | extract_lets +onlyGivenNames x
    | ((with_reducible apply Only.foldl); on_goal 1 => intro x t ht)
    | split
    | ((with_reducible apply Only.step modRm_only); on_goal 1 => decide)
    | ((with_reducible apply Only.step thinEnd_only); on_goal 1 => decide)
    | ((with_reducible apply Only.step modRj_only); on_goal 1 => decide)
    | ((with_reducible apply Only.step swapTables_only); on_goal 1 => decide)
    | ((with_reducible apply Only.step openBank_only); on_goal 1 => decide)
    | ((with_reducible apply Only.step openFired_only); on_goal 1 => decide)
    | ((with_reducible apply Only.step replayEarly_only); on_goal 1 => decide)
    | ((with_reducible apply Only.step openShot_only); on_goal 1 => decide)
    | ((with_reducible apply Only.step sparesLive_only); on_goal 1 => decide)
    | ((with_reducible apply Only.step missOver_only); on_goal 1 => decide)
    | ((with_reducible apply Only.lit); intro p hp; cases p <;> first | exact absurd (by decide) hp | (have hq := (‹Only _ _ _›).same _ hp; exact hq) | exact rfl)

theorem sendSched_only {s : State} :
    Only [.slk, .out] s (sendSched s) := by
  unfold sendSched
  repeat' first
    | with_reducible exact Only.refl
    | with_reducible assumption
    | (extract_lets +onlyGivenNames x; have ht := x.busRead; clear ht; refine Only.cut (x := x) ?_ (fun hx => ?_); (on_goal 1 => subst x); (on_goal 2 => clear_value x))
    | extract_lets +onlyGivenNames x
    | ((with_reducible apply Only.foldl); on_goal 1 => intro x t ht)
    | split
    | ((with_reducible apply Only.step slkQueue_only); on_goal 1 => decide)
    | ((with_reducible apply Only.lit); intro p hp; cases p <;> first | exact absurd (by decide) hp | (have hq := (‹Only _ _ _›).same _ hp; exact hq) | exact rfl)

theorem cutOff_only {s : State} :
    Only [.dict, .rm] s (cutOff s) := by
  unfold cutOff
  repeat' first
    | with_reducible exact Only.refl
    | with_reducible assumption
    | (extract_lets +onlyGivenNames x; have ht := x.busRead; clear ht; refine Only.cut (x := x) ?_ (fun hx => ?_); (on_goal 1 => subst x); (on_goal 2 => clear_value x))
    | extract_lets +onlyGivenNames x
    | ((with_reducible apply Only.foldl); on_goal 1 => intro x t ht)
    | split
    | ((with_reducible apply Only.step fixFrame_only); on_goal 1 => decide)
    | ((with_reducible apply Only.step modRm_only); on_goal 1 => decide)
    | ((with_reducible apply Only.step withFixed_only); on_goal 1 => decide)
    | ((with_reducible apply Only.lit); intro p hp; cases p <;> first | exact absurd (by decide) hp | (have hq := (‹Only _ _ _›).same _ hp; exact hq) | exact rfl)

theorem phaseApply_only {s : State} :
    Only [.dict, .ts, .car] s (phaseApply s) := by
  unfold phaseApply
  repeat' first
    | with_reducible exact Only.refl
    | with_reducible assumption
    | (extract_lets +onlyGivenNames x; have ht := x.busRead; clear ht; refine Only.cut (x := x) ?_ (fun hx => ?_); (on_goal 1 => subst x); (on_goal 2 => clear_value x))
    | extract_lets +onlyGivenNames x
    | ((with_reducible apply Only.foldl); on_goal 1 => intro x t ht)
    | split
    | ((with_reducible apply Only.step applyHeld_only); on_goal 1 => decide)
    | ((with_reducible apply Only.step modTs_only); on_goal 1 => decide)
    | ((with_reducible apply Only.lit); intro p hp; cases p <;> first | exact absurd (by decide) hp | (have hq := (‹Only _ _ _›).same _ hp; exact hq) | exact rfl)

theorem missedShots_only {s : State} :
    Only [.rm, .pt] s (missedShots s) := by
  unfold missedShots
  repeat' first
    | with_reducible exact Only.refl
    | with_reducible assumption
    | (extract_lets +onlyGivenNames x; have ht := x.busRead; clear ht; refine Only.cut (x := x) ?_ (fun hx => ?_); (on_goal 1 => subst x); (on_goal 2 => clear_value x))
    | extract_lets +onlyGivenNames x
    | ((with_reducible apply Only.foldl); on_goal 1 => intro x t ht)
    | split
    | ((with_reducible apply Only.step skipShot_only); on_goal 1 => decide)
    | ((with_reducible apply Only.step markSkip_only); on_goal 1 => decide)
    | ((with_reducible apply Only.lit); intro p hp; cases p <;> first | exact absurd (by decide) hp | (have hq := (‹Only _ _ _›).same _ hp; exact hq) | exact rfl)

theorem advancePos_only {s : State} :
    Only [.rm] s (advancePos s) := by
  unfold advancePos
  repeat' first
    | with_reducible exact Only.refl
    | with_reducible assumption
    | (extract_lets +onlyGivenNames x; have ht := x.busRead; clear ht; refine Only.cut (x := x) ?_ (fun hx => ?_); (on_goal 1 => subst x); (on_goal 2 => clear_value x))
    | extract_lets +onlyGivenNames x
    | ((with_reducible apply Only.foldl); on_goal 1 => intro x t ht)
    | split
    | ((with_reducible apply Only.step modRm_only); on_goal 1 => decide)
    | ((with_reducible apply Only.lit); intro p hp; cases p <;> first | exact absurd (by decide) hp | (have hq := (‹Only _ _ _›).same _ hp; exact hq) | exact rfl)

end Sys2Proof
end

