-- ==== Sys2Proof/Laws/OnlyHost.lean ====
section
/-!
SUPPORT. Frames: what the operations of the thermal model, flash, control laws, the dictionary, update and requests change.
-/
namespace Sys2Proof

open Sys2Proof.Machine

set_option linter.unusedTactic false
set_option linter.unreachableTactic false
set_option linter.tactic.unusedName false

theorem modThm_only {f : ThmS → ThmS} {s : State} :
    Only [.thm] s (modThm f s) := by
  unfold modThm
  repeat' first
    | with_reducible exact Only.refl
    | with_reducible assumption
    | (extract_lets +onlyGivenNames x; have ht := x.busRead; clear ht; refine Only.cut (x := x) ?_ (fun hx => ?_); (on_goal 1 => subst x); (on_goal 2 => clear_value x))
    | extract_lets +onlyGivenNames x
    | ((with_reducible apply Only.foldl); on_goal 1 => intro x t ht)
    | split
    | ((with_reducible apply Only.lit); intro p hp; cases p <;> first | exact absurd (by decide) hp | (have hq := (‹Only _ _ _›).same _ hp; exact hq) | exact rfl)

theorem modSens_only {k : Nat} {f : SensS → SensS} {s : State} :
    Only [.thm] s (modSens k f s) := by
  unfold modSens
  repeat' first
    | with_reducible exact Only.refl
    | with_reducible assumption
    | (extract_lets +onlyGivenNames x; have ht := x.busRead; clear ht; refine Only.cut (x := x) ?_ (fun hx => ?_); (on_goal 1 => subst x); (on_goal 2 => clear_value x))
    | extract_lets +onlyGivenNames x
    | ((with_reducible apply Only.foldl); on_goal 1 => intro x t ht)
    | split
    | ((with_reducible apply Only.step modThm_only); on_goal 1 => decide)
    | ((with_reducible apply Only.lit); intro p hp; cases p <;> first | exact absurd (by decide) hp | (have hq := (‹Only _ _ _›).same _ hp; exact hq) | exact rfl)

theorem thermalLevels_only {s : State} : Only [.eic, .pci, .slk, .out] s (thermalLevels s) := by
  unfold thermalLevels
  extract_lets lvl
  have k : ∀ (n : Nat) (on : Bool) (u : State), Only [.eic, .pci, .slk, .out] u (lvl n on u) := by
    intro n on u
    show Only _ u (if on == u.eic.level.getLsbD n then u else if on then eicAssert n u else eicDeassert n u)
    split
    · exact Only.refl
    · split
      · exact eicAssert_only
      · exact eicDeassert_only.mono rfl
  clear_value lvl
  exact ((k 448 _ s).trans (k 449 _ _)).trans (k 450 _ _)

theorem sensTest_only {old : Bank Int} {s : State} {k : Nat} :
    Only [.eic, .log, .pci, .slk, .thm, .out] s (sensTest old s k) := by
  unfold sensTest
  repeat' first
    | with_reducible exact Only.refl
    | with_reducible assumption
    | (extract_lets +onlyGivenNames x; have ht := x.busRead; clear ht; refine Only.cut (x := x) ?_ (fun hx => ?_); (on_goal 1 => subst x); (on_goal 2 => clear_value x))
    | extract_lets +onlyGivenNames x
    | ((with_reducible apply Only.foldl); on_goal 1 => intro x t ht)
    | split
    | ((with_reducible apply Only.step modSens_only); on_goal 1 => decide)
    | ((with_reducible apply Only.step logNow_only); on_goal 1 => decide)
    | ((with_reducible apply Only.lit); intro p hp; cases p <;> first | exact absurd (by decide) hp | (have hq := (‹Only _ _ _›).same _ hp; exact hq) | exact rfl)

theorem sensCorrect_only {s : State} {k : Nat} :
    Only [.thm] s (sensCorrect s k) := by
  unfold sensCorrect
  repeat' first
    | with_reducible exact Only.refl
    | with_reducible assumption
    | (extract_lets +onlyGivenNames x; have ht := x.busRead; clear ht; refine Only.cut (x := x) ?_ (fun hx => ?_); (on_goal 1 => subst x); (on_goal 2 => clear_value x))
    | extract_lets +onlyGivenNames x
    | ((with_reducible apply Only.foldl); on_goal 1 => intro x t ht)
    | split
    | ((with_reducible apply Only.step modSens_only); on_goal 1 => decide)
    | ((with_reducible apply Only.step modThm_only); on_goal 1 => decide)
    | ((with_reducible apply Only.lit); intro p hp; cases p <;> first | exact absurd (by decide) hp | (have hq := (‹Only _ _ _›).same _ hp; exact hq) | exact rfl)

theorem shutdown_only {by_ : Bool} {s : State} :
    Only [.dev, .rm, .fld, .adc, .saf, .car, .eic, .log, .pci, .slk, .thm, .rst, .out] s (shutdown by_ s) := by
  unfold shutdown
  repeat' first
    | with_reducible exact Only.refl
    | with_reducible assumption
    | (extract_lets +onlyGivenNames x; have ht := x.busRead; clear ht; refine Only.cut (x := x) ?_ (fun hx => ?_); (on_goal 1 => subst x); (on_goal 2 => clear_value x))
    | extract_lets +onlyGivenNames x
    | ((with_reducible apply Only.foldl); on_goal 1 => intro x t ht)
    | split
    | ((with_reducible apply Only.step modThm_only); on_goal 1 => decide)
    | ((with_reducible apply Only.step modFld_only); on_goal 1 => decide)
    | ((with_reducible apply Only.step inhibit_only); on_goal 1 => decide)
    | ((with_reducible apply Only.step logNow_only); on_goal 1 => decide)
    | ((with_reducible apply Only.step safeCause_only); on_goal 1 => decide)
    | ((with_reducible apply Only.lit); intro p hp; cases p <;> first | exact absurd (by decide) hp | (have hq := (‹Only _ _ _›).same _ hp; exact hq) | exact rfl)

theorem shutdownTest_only {s : State} :
    Only [.dev, .rm, .fld, .adc, .saf, .car, .eic, .log, .pci, .slk, .thm, .rst, .out] s (shutdownTest s) := by
  unfold shutdownTest
  repeat' first
    | with_reducible exact Only.refl
    | with_reducible assumption
    | (extract_lets +onlyGivenNames x; have ht := x.busRead; clear ht; refine Only.cut (x := x) ?_ (fun hx => ?_); (on_goal 1 => subst x); (on_goal 2 => clear_value x))
    | extract_lets +onlyGivenNames x
    | ((with_reducible apply Only.foldl); on_goal 1 => intro x t ht)
    | split
    | ((with_reducible apply Only.step modThm_only); on_goal 1 => decide)
    | ((with_reducible apply Only.step shutdown_only); on_goal 1 => decide)
    | ((with_reducible apply Only.lit); intro p hp; cases p <;> first | exact absurd (by decide) hp | (have hq := (‹Only _ _ _›).same _ hp; exact hq) | exact rfl)

theorem storeStop_only {s : State} :
    Only [.eic, .log, .pci, .xi, .slk, .out] s (storeStop s) := by
  unfold storeStop
  repeat' first
    | with_reducible exact Only.refl
    | with_reducible assumption
    | (extract_lets +onlyGivenNames x; have ht := x.busRead; clear ht; refine Only.cut (x := x) ?_ (fun hx => ?_); (on_goal 1 => subst x); (on_goal 2 => clear_value x))
    | extract_lets +onlyGivenNames x
    | ((with_reducible apply Only.foldl); on_goal 1 => intro x t ht)
    | split
    | ((with_reducible apply Only.step logNow_only); on_goal 1 => decide)
    | ((with_reducible apply Only.lit); intro p hp; cases p <;> first | exact absurd (by decide) hp | (have hq := (‹Only _ _ _›).same _ hp; exact hq) | exact rfl)

theorem modUpd_only {f : UpdS → UpdS} {s : State} :
    Only [.upd] s (modUpd f s) := by
  unfold modUpd
  repeat' first
    | with_reducible exact Only.refl
    | with_reducible assumption
    | (extract_lets +onlyGivenNames x; have ht := x.busRead; clear ht; refine Only.cut (x := x) ?_ (fun hx => ?_); (on_goal 1 => subst x); (on_goal 2 => clear_value x))
    | extract_lets +onlyGivenNames x
    | ((with_reducible apply Only.foldl); on_goal 1 => intro x t ht)
    | split
    | ((with_reducible apply Only.lit); intro p hp; cases p <;> first | exact absurd (by decide) hp | (have hq := (‹Only _ _ _›).same _ hp; exact hq) | exact rfl)

theorem selWrite_only {slot trial : Nat} {s : State} :
    Only [.upd] s (selWrite slot trial s) := by
  unfold selWrite
  repeat' first
    | with_reducible exact Only.refl
    | with_reducible assumption
    | (extract_lets +onlyGivenNames x; have ht := x.busRead; clear ht; refine Only.cut (x := x) ?_ (fun hx => ?_); (on_goal 1 => subst x); (on_goal 2 => clear_value x))
    | extract_lets +onlyGivenNames x
    | ((with_reducible apply Only.foldl); on_goal 1 => intro x t ht)
    | split
    | ((with_reducible apply Only.step modUpd_only); on_goal 1 => decide)
    | ((with_reducible apply Only.lit); intro p hp; cases p <;> first | exact absurd (by decide) hp | (have hq := (‹Only _ _ _›).same _ hp; exact hq) | exact rfl)

theorem raiseCounter_only {ty v : Nat} {s : State} :
    Only [.upd] s (raiseCounter ty v s) := by
  unfold raiseCounter
  repeat' first
    | with_reducible exact Only.refl
    | with_reducible assumption
    | (extract_lets +onlyGivenNames x; have ht := x.busRead; clear ht; refine Only.cut (x := x) ?_ (fun hx => ?_); (on_goal 1 => subst x); (on_goal 2 => clear_value x))
    | extract_lets +onlyGivenNames x
    | ((with_reducible apply Only.foldl); on_goal 1 => intro x t ht)
    | split
    | ((with_reducible apply Only.step modUpd_only); on_goal 1 => decide)
    | ((with_reducible apply Only.lit); intro p hp; cases p <;> first | exact absurd (by decide) hp | (have hq := (‹Only _ _ _›).same _ hp; exact hq) | exact rfl)

theorem eyeAccept_only {t : EyeTable} {s : State} :
    Only [.rm] s (eyeAccept t s) := by
  unfold eyeAccept
  repeat' first
    | with_reducible exact Only.refl
    | with_reducible assumption
    | (extract_lets +onlyGivenNames x; have ht := x.busRead; clear ht; refine Only.cut (x := x) ?_ (fun hx => ?_); (on_goal 1 => subst x); (on_goal 2 => clear_value x))
    | extract_lets +onlyGivenNames x
    | ((with_reducible apply Only.foldl); on_goal 1 => intro x t ht)
    | split
    | ((with_reducible apply Only.step modRm_only); on_goal 1 => decide)
    | ((with_reducible apply Only.step eyeGrid_only); on_goal 1 => decide)
    | ((with_reducible apply Only.lit); intro p hp; cases p <;> first | exact absurd (by decide) hp | (have hq := (‹Only _ _ _›).same _ hp; exact hq) | exact rfl)

theorem modArea_only {a : Nat × Nat} {f : Pkg → Pkg} {s : State} :
    Only [.upd] s (modArea a f s) := by
  unfold modArea
  repeat' first
    | with_reducible exact Only.refl
    | with_reducible assumption
    | (extract_lets +onlyGivenNames x; have ht := x.busRead; clear ht; refine Only.cut (x := x) ?_ (fun hx => ?_); (on_goal 1 => subst x); (on_goal 2 => clear_value x))
    | extract_lets +onlyGivenNames x
    | ((with_reducible apply Only.foldl); on_goal 1 => intro x t ht)
    | split
    | ((with_reducible apply Only.step modUpd_only); on_goal 1 => decide)
    | ((with_reducible apply Only.lit); intro p hp; cases p <;> first | exact absurd (by decide) hp | (have hq := (‹Only _ _ _›).same _ hp; exact hq) | exact rfl)

theorem satCount_only {n : Nat} {s : State} :
    Only [.lce] s (satCount n s) := by
  unfold satCount
  repeat' first
    | with_reducible exact Only.refl
    | with_reducible assumption
    | (extract_lets +onlyGivenNames x; have ht := x.busRead; clear ht; refine Only.cut (x := x) ?_ (fun hx => ?_); (on_goal 1 => subst x); (on_goal 2 => clear_value x))
    | extract_lets +onlyGivenNames x
    | ((with_reducible apply Only.foldl); on_goal 1 => intro x t ht)
    | split
    | ((with_reducible apply Only.step modLce_only); on_goal 1 => decide)
    | ((with_reducible apply Only.lit); intro p hp; cases p <;> first | exact absurd (by decide) hp | (have hq := (‹Only _ _ _›).same _ hp; exact hq) | exact rfl)

theorem modLaw_only {n : Nat} {f : LawS → LawS} {s : State} :
    Only [.lce] s (modLaw n f s) := by
  unfold modLaw
  repeat' first
    | with_reducible exact Only.refl
    | with_reducible assumption
    | (extract_lets +onlyGivenNames x; have ht := x.busRead; clear ht; refine Only.cut (x := x) ?_ (fun hx => ?_); (on_goal 1 => subst x); (on_goal 2 => clear_value x))
    | extract_lets +onlyGivenNames x
    | ((with_reducible apply Only.foldl); on_goal 1 => intro x t ht)
    | split
    | ((with_reducible apply Only.step modLce_only); on_goal 1 => decide)
    | ((with_reducible apply Only.lit); intro p hp; cases p <;> first | exact absurd (by decide) hp | (have hq := (‹Only _ _ _›).same _ hp; exact hq) | exact rfl)

theorem coefSwap_only {s : State} :
    Only [.dict, .lce, .car, .eic, .pci, .xi, .slk, .out] s (coefSwap s) := by
  unfold coefSwap
  repeat' first
    | with_reducible exact Only.refl
    | with_reducible assumption
    | (extract_lets +onlyGivenNames x; have ht := x.busRead; clear ht; refine Only.cut (x := x) ?_ (fun hx => ?_); (on_goal 1 => subst x); (on_goal 2 => clear_value x))
    | extract_lets +onlyGivenNames x
    | ((with_reducible apply Only.foldl); on_goal 1 => intro x t ht)
    | split
    | ((with_reducible apply Only.step takeHeld_only); on_goal 1 => decide)
    | ((with_reducible apply Only.step ackOwed_only); on_goal 1 => decide)
    | ((with_reducible apply Only.step modLaw_only); on_goal 1 => decide)
    | ((with_reducible apply Only.lit); intro p hp; cases p <;> first | exact absurd (by decide) hp | (have hq := (‹Only _ _ _›).same _ hp; exact hq) | exact rfl)

theorem swapsEnd_only {s : State} :
    Only [.lce] s (swapsEnd s) := by
  unfold swapsEnd
  repeat' first
    | with_reducible exact Only.refl
    | with_reducible assumption
    | (extract_lets +onlyGivenNames x; have ht := x.busRead; clear ht; refine Only.cut (x := x) ?_ (fun hx => ?_); (on_goal 1 => subst x); (on_goal 2 => clear_value x))
    | extract_lets +onlyGivenNames x
    | ((with_reducible apply Only.foldl); on_goal 1 => intro x t ht)
    | split
    | ((with_reducible apply Only.step modLce_only); on_goal 1 => decide)
    | ((with_reducible apply Only.lit); intro p hp; cases p <;> first | exact absurd (by decide) hp | (have hq := (‹Only _ _ _›).same _ hp; exact hq) | exact rfl)

theorem injTick_only {s : State} :
    Only [.rm, .lce] s (injTick s) := by
  unfold injTick
  repeat' first
    | with_reducible exact Only.refl
    | with_reducible assumption
    | (extract_lets +onlyGivenNames x; have ht := x.busRead; clear ht; refine Only.cut (x := x) ?_ (fun hx => ?_); (on_goal 1 => subst x); (on_goal 2 => clear_value x))
    | extract_lets +onlyGivenNames x
    | ((with_reducible apply Only.foldl); on_goal 1 => intro x t ht)
    | split
    | ((with_reducible apply Only.step modLce_only); on_goal 1 => decide)
    | ((with_reducible apply Only.step mirMode_only); on_goal 1 => decide)
    | ((with_reducible apply Only.step modLaw_only); on_goal 1 => decide)
    | ((with_reducible apply Only.lit); intro p hp; cases p <;> first | exact absurd (by decide) hp | (have hq := (‹Only _ _ _›).same _ hp; exact hq) | exact rfl)

theorem injCapture_only {s : State} :
    Only [.lce, .car] s (injCapture s) := by
  unfold injCapture
  repeat' first
    | with_reducible exact Only.refl
    | with_reducible assumption
    | (extract_lets +onlyGivenNames x; have ht := x.busRead; clear ht; refine Only.cut (x := x) ?_ (fun hx => ?_); (on_goal 1 => subst x); (on_goal 2 => clear_value x))
    | extract_lets +onlyGivenNames x
    | ((with_reducible apply Only.foldl); on_goal 1 => intro x t ht)
    | split
    | ((with_reducible apply Only.step recItem_only); on_goal 1 => decide)
    | ((with_reducible apply Only.step modLce_only); on_goal 1 => decide)
    | ((with_reducible apply Only.lit); intro p hp; cases p <;> first | exact absurd (by decide) hp | (have hq := (‹Only _ _ _›).same _ hp; exact hq) | exact rfl)

theorem primaryTests_only {s : State} {c : LchS} {th v dth : Int} :
    Only [.lce] s (primaryTests s c th v dth) := by
  unfold primaryTests
  repeat' first
    | with_reducible exact Only.refl
    | with_reducible assumption
    | (extract_lets +onlyGivenNames x; have ht := x.busRead; clear ht; refine Only.cut (x := x) ?_ (fun hx => ?_); (on_goal 1 => subst x); (on_goal 2 => clear_value x))
    | extract_lets +onlyGivenNames x
    | ((with_reducible apply Only.foldl); on_goal 1 => intro x t ht)
    | split
    | ((with_reducible apply Only.step modLce_only); on_goal 1 => decide)
    | ((with_reducible apply Only.lit); intro p hp; cases p <;> first | exact absurd (by decide) hp | (have hq := (‹Only _ _ _›).same _ hp; exact hq) | exact rfl)

theorem secondaryEdge_only {th0 dth : Int} {from_ : Nat} {s : State} {p : Nat × Int} :
    Only [.lce] s (secondaryEdge th0 dth from_ s p) := by
  unfold secondaryEdge
  repeat' first
    | with_reducible exact Only.refl
    | with_reducible assumption
    | (extract_lets +onlyGivenNames x; have ht := x.busRead; clear ht; refine Only.cut (x := x) ?_ (fun hx => ?_); (on_goal 1 => subst x); (on_goal 2 => clear_value x))
    | extract_lets +onlyGivenNames x
    | ((with_reducible apply Only.foldl); on_goal 1 => intro x t ht)
    | split
    | ((with_reducible apply Only.step modLce_only); on_goal 1 => decide)
    | ((with_reducible apply Only.lit); intro p hp; cases p <;> first | exact absurd (by decide) hp | (have hq := (‹Only _ _ _›).same _ hp; exact hq) | exact rfl)

theorem declareLost_only {s : State} :
    Only [.dev, .rm, .fld, .pt, .lce, .adc, .saf, .car, .eic, .log, .pci, .slk, .rst, .out] s (declareLost s) := by
  unfold declareLost
  repeat' first
    | with_reducible exact Only.refl
    | with_reducible assumption
    | (extract_lets +onlyGivenNames x; have ht := x.busRead; clear ht; refine Only.cut (x := x) ?_ (fun hx => ?_); (on_goal 1 => subst x); (on_goal 2 => clear_value x))
    | extract_lets +onlyGivenNames x
    | ((with_reducible apply Only.foldl); on_goal 1 => intro x t ht)
    | split
    | ((with_reducible apply Only.step modLce_only); on_goal 1 => decide)
    | ((with_reducible apply Only.step cancelShots_only); on_goal 1 => decide)
    | ((with_reducible apply Only.step secondaryLost_only); on_goal 1 => decide)
    | ((with_reducible apply Only.step primaryLost_only); on_goal 1 => decide)
    | ((with_reducible apply Only.lit); intro p hp; cases p <;> first | exact absurd (by decide) hp | (have hq := (‹Only _ _ _›).same _ hp; exact hq) | exact rfl)

theorem lawModel_only {from_ : Nat} {s : State} :
    Only [.dev, .rm, .fld, .tbs, .pt, .lce, .adc, .saf, .car, .eic, .log, .pci, .slk, .rst, .out] s (lawModel from_ s) := by
  unfold lawModel
  repeat' first
    | with_reducible exact Only.refl
    | with_reducible assumption
    | (extract_lets +onlyGivenNames x; have ht := x.busRead; clear ht; refine Only.cut (x := x) ?_ (fun hx => ?_); (on_goal 1 => subst x); (on_goal 2 => clear_value x))
    | extract_lets +onlyGivenNames x
    | ((with_reducible apply Only.foldl); on_goal 1 => intro x t ht)
    | split
    | ((with_reducible apply Only.step encSettle_only); on_goal 1 => decide)
    | ((with_reducible apply Only.step primaryTests_only); on_goal 1 => decide)
    | ((with_reducible apply Only.step modLce_only); on_goal 1 => decide)
    | ((with_reducible apply Only.step secondaryEdge_only); on_goal 1 => decide)
    | ((with_reducible apply Only.step declareLost_only); on_goal 1 => decide)
    | ((with_reducible apply Only.step modLch_only); on_goal 1 => decide)
    | ((with_reducible apply Only.step modLaw_only); on_goal 1 => decide)
    | ((with_reducible apply Only.step satCount_only); on_goal 1 => decide)
    | ((with_reducible apply Only.lit); intro p hp; cases p <;> first | exact absurd (by decide) hp | (have hq := (‹Only _ _ _›).same _ hp; exact hq) | exact rfl)

theorem lawPosition_only {s : State} :
    Only [.lce] s (lawPosition s) := by
  unfold lawPosition
  repeat' first
    | with_reducible exact Only.refl
    | with_reducible assumption
    | (extract_lets +onlyGivenNames x; have ht := x.busRead; clear ht; refine Only.cut (x := x) ?_ (fun hx => ?_); (on_goal 1 => subst x); (on_goal 2 => clear_value x))
    | extract_lets +onlyGivenNames x
    | ((with_reducible apply Only.foldl); on_goal 1 => intro x t ht)
    | split
    | ((with_reducible apply Only.step modLaw_only); on_goal 1 => decide)
    | ((with_reducible apply Only.step modLce_only); on_goal 1 => decide)
    | ((with_reducible apply Only.step satCount_only); on_goal 1 => decide)
    | ((with_reducible apply Only.lit); intro p hp; cases p <;> first | exact absurd (by decide) hp | (have hq := (‹Only _ _ _›).same _ hp; exact hq) | exact rfl)

theorem lawCurrent_only {s : State} :
    Only [.lce] s (lawCurrent s) := by
  unfold lawCurrent
  repeat' first
    | with_reducible exact Only.refl
    | with_reducible assumption
    | (extract_lets +onlyGivenNames x; have ht := x.busRead; clear ht; refine Only.cut (x := x) ?_ (fun hx => ?_); (on_goal 1 => subst x); (on_goal 2 => clear_value x))
    | extract_lets +onlyGivenNames x
    | ((with_reducible apply Only.foldl); on_goal 1 => intro x t ht)
    | split
    | ((with_reducible apply Only.step satCount_only); on_goal 1 => decide)
    | ((with_reducible apply Only.step modLce_only); on_goal 1 => decide)
    | ((with_reducible apply Only.step modLaw_only); on_goal 1 => decide)
    | ((with_reducible apply Only.lit); intro p hp; cases p <;> first | exact absurd (by decide) hp | (have hq := (‹Only _ _ _›).same _ hp; exact hq) | exact rfl)

theorem lawBank_only {s : State} {b : Nat} :
    Only [.lce] s (lawBank s b) := by
  unfold lawBank
  repeat' first
    | with_reducible exact Only.refl
    | with_reducible assumption
    | (extract_lets +onlyGivenNames x; have ht := x.busRead; clear ht; refine Only.cut (x := x) ?_ (fun hx => ?_); (on_goal 1 => subst x); (on_goal 2 => clear_value x))
    | extract_lets +onlyGivenNames x
    | ((with_reducible apply Only.foldl); on_goal 1 => intro x t ht)
    | split
    | ((with_reducible apply Only.step modLaw_only); on_goal 1 => decide)
    | ((with_reducible apply Only.step satCount_only); on_goal 1 => decide)
    | ((with_reducible apply Only.step modLce_only); on_goal 1 => decide)
    | ((with_reducible apply Only.lit); intro p hp; cases p <;> first | exact absurd (by decide) hp | (have hq := (‹Only _ _ _›).same _ hp; exact hq) | exact rfl)

theorem lawBias_only {s : State} :
    Only [.fld, .lce] s (lawBias s) := by
  unfold lawBias
  repeat' first
    | with_reducible exact Only.refl
    | with_reducible assumption
    | (extract_lets +onlyGivenNames x; have ht := x.busRead; clear ht; refine Only.cut (x := x) ?_ (fun hx => ?_); (on_goal 1 => subst x); (on_goal 2 => clear_value x))
    | extract_lets +onlyGivenNames x
    | ((with_reducible apply Only.foldl); on_goal 1 => intro x t ht)
    | split
    | ((with_reducible apply Only.step modFld_only); on_goal 1 => decide)
    | ((with_reducible apply Only.step satCount_only); on_goal 1 => decide)
    | ((with_reducible apply Only.step modLce_only); on_goal 1 => decide)
    | ((with_reducible apply Only.step modLaw_only); on_goal 1 => decide)
    | ((with_reducible apply Only.lit); intro p hp; cases p <;> first | exact absurd (by decide) hp | (have hq := (‹Only _ _ _›).same _ hp; exact hq) | exact rfl)

theorem lawHeater_only {s : State} :
    Only [.lce] s (lawHeater s) := by
  unfold lawHeater
  repeat' first
    | with_reducible exact Only.refl
    | with_reducible assumption
    | (extract_lets +onlyGivenNames x; have ht := x.busRead; clear ht; refine Only.cut (x := x) ?_ (fun hx => ?_); (on_goal 1 => subst x); (on_goal 2 => clear_value x))
    | extract_lets +onlyGivenNames x
    | ((with_reducible apply Only.foldl); on_goal 1 => intro x t ht)
    | split
    | ((with_reducible apply Only.step satCount_only); on_goal 1 => decide)
    | ((with_reducible apply Only.step modLce_only); on_goal 1 => decide)
    | ((with_reducible apply Only.step modLaw_only); on_goal 1 => decide)
    | ((with_reducible apply Only.lit); intro p hp; cases p <;> first | exact absurd (by decide) hp | (have hq := (‹Only _ _ _›).same _ hp; exact hq) | exact rfl)

theorem lawLoop_only {s : State} {n : Nat} :
    Only [.lce, .adc] s (lawLoop s n) := by
  unfold lawLoop
  repeat' first
    | with_reducible exact Only.refl
    | with_reducible assumption
    | (extract_lets +onlyGivenNames x; have ht := x.busRead; clear ht; refine Only.cut (x := x) ?_ (fun hx => ?_); (on_goal 1 => subst x); (on_goal 2 => clear_value x))
    | extract_lets +onlyGivenNames x
    | ((with_reducible apply Only.foldl); on_goal 1 => intro x t ht)
    | split
    | ((with_reducible apply Only.step modLce_only); on_goal 1 => decide)
    | ((with_reducible apply Only.step modAdc_only); on_goal 1 => decide)
    | ((with_reducible apply Only.lit); intro p hp; cases p <;> first | exact absurd (by decide) hp | (have hq := (‹Only _ _ _›).same _ hp; exact hq) | exact rfl)

theorem zonesRelease_only {s : State} :
    Only [.adc] s (zonesRelease s) := by
  unfold zonesRelease
  repeat' first
    | with_reducible exact Only.refl
    | with_reducible assumption
    | (extract_lets +onlyGivenNames x; have ht := x.busRead; clear ht; refine Only.cut (x := x) ?_ (fun hx => ?_); (on_goal 1 => subst x); (on_goal 2 => clear_value x))
    | extract_lets +onlyGivenNames x
    | ((with_reducible apply Only.foldl); on_goal 1 => intro x t ht)
    | split
    | ((with_reducible apply Only.step modAdc_only); on_goal 1 => decide)
    | ((with_reducible apply Only.lit); intro p hp; cases p <;> first | exact absurd (by decide) hp | (have hq := (‹Only _ _ _›).same _ hp; exact hq) | exact rfl)

theorem mirrorMask_only {s : State} :
    Only [.car, .eic, .log, .pci, .slk, .out] s (mirrorMask s) := by
  unfold mirrorMask
  repeat' first
    | with_reducible exact Only.refl
    | with_reducible assumption
    | (extract_lets +onlyGivenNames x; have ht := x.busRead; clear ht; refine Only.cut (x := x) ?_ (fun hx => ?_); (on_goal 1 => subst x); (on_goal 2 => clear_value x))
    | extract_lets +onlyGivenNames x
    | ((with_reducible apply Only.foldl); on_goal 1 => intro x t ht)
    | split
    | ((with_reducible apply Only.step maskSample_only); on_goal 1 => decide)
    | ((with_reducible apply Only.lit); intro p hp; cases p <;> first | exact absurd (by decide) hp | (have hq := (‹Only _ _ _›).same _ hp; exact hq) | exact rfl)

theorem coilSums_only {s : State} :
    Only [.lce] s (coilSums s) := by
  unfold coilSums
  repeat' first
    | with_reducible exact Only.refl
    | with_reducible assumption
    | (extract_lets +onlyGivenNames x; have ht := x.busRead; clear ht; refine Only.cut (x := x) ?_ (fun hx => ?_); (on_goal 1 => subst x); (on_goal 2 => clear_value x))
    | extract_lets +onlyGivenNames x
    | ((with_reducible apply Only.foldl); on_goal 1 => intro x t ht)
    | split
    | ((with_reducible apply Only.step modLce_only); on_goal 1 => decide)
    | ((with_reducible apply Only.lit); intro p hp; cases p <;> first | exact absurd (by decide) hp | (have hq := (‹Only _ _ _›).same _ hp; exact hq) | exact rfl)

theorem holdInhibits_only {before : List Inhibit} {s : State} :
    Only [.rm, .lce] s (holdInhibits before s) := by
  unfold holdInhibits
  repeat' first
    | with_reducible exact Only.refl
    | with_reducible assumption
    | (extract_lets +onlyGivenNames x; have ht := x.busRead; clear ht; refine Only.cut (x := x) ?_ (fun hx => ?_); (on_goal 1 => subst x); (on_goal 2 => clear_value x))
    | extract_lets +onlyGivenNames x
    | ((with_reducible apply Only.foldl); on_goal 1 => intro x t ht)
    | split
    | ((with_reducible apply Only.step modLce_only); on_goal 1 => decide)
    | ((with_reducible apply Only.step modRm_only); on_goal 1 => decide)
    | ((with_reducible apply Only.lit); intro p hp; cases p <;> first | exact absurd (by decide) hp | (have hq := (‹Only _ _ _›).same _ hp; exact hq) | exact rfl)

theorem withHeld_only {num sub : Nat} {v : DVal} {s : State} :
    Only [.dict] s (withHeld num sub v s) := by
  unfold withHeld
  repeat' first
    | with_reducible exact Only.refl
    | with_reducible assumption
    | (extract_lets +onlyGivenNames x; have ht := x.busRead; clear ht; refine Only.cut (x := x) ?_ (fun hx => ?_); (on_goal 1 => subst x); (on_goal 2 => clear_value x))
    | extract_lets +onlyGivenNames x
    | ((with_reducible apply Only.foldl); on_goal 1 => intro x t ht)
    | split
    | ((with_reducible apply Only.lit); intro p hp; cases p <;> first | exact absurd (by decide) hp | (have hq := (‹Only _ _ _›).same _ hp; exact hq) | exact rfl)

theorem recEnable_only {on : Bool} {s : State} :
    Only [.car, .free] s (recEnable on s) := by
  unfold recEnable
  repeat' first
    | with_reducible exact Only.refl
    | with_reducible assumption
    | (extract_lets +onlyGivenNames x; have ht := x.busRead; clear ht; refine Only.cut (x := x) ?_ (fun hx => ?_); (on_goal 1 => subst x); (on_goal 2 => clear_value x))
    | extract_lets +onlyGivenNames x
    | ((with_reducible apply Only.foldl); on_goal 1 => intro x t ht)
    | split
    | ((with_reducible apply Only.step rearm_only); on_goal 1 => decide)
    | ((with_reducible apply Only.step modStr_only); on_goal 1 => decide)
    | ((with_reducible apply Only.lit); intro p hp; cases p <;> first | exact absurd (by decide) hp | (have hq := (‹Only _ _ _›).same _ hp; exact hq) | exact rfl)

theorem excMode_only {n mode : Nat} {s : State} :
    Only [.adc] s (excMode n mode s) := by
  unfold excMode
  repeat' first
    | with_reducible exact Only.refl
    | with_reducible assumption
    | (extract_lets +onlyGivenNames x; have ht := x.busRead; clear ht; refine Only.cut (x := x) ?_ (fun hx => ?_); (on_goal 1 => subst x); (on_goal 2 => clear_value x))
    | extract_lets +onlyGivenNames x
    | ((with_reducible apply Only.foldl); on_goal 1 => intro x t ht)
    | split
    | ((with_reducible apply Only.step modAdc_only); on_goal 1 => decide)
    | ((with_reducible apply Only.lit); intro p hp; cases p <;> first | exact absurd (by decide) hp | (have hq := (‹Only _ _ _›).same _ hp; exact hq) | exact rfl)

theorem bridgeEnable_only {on : Bool} {s : State} :
    Only [.rm, .fld, .lce, .out] s (bridgeEnable on s) := by
  unfold bridgeEnable
  repeat' first
    | with_reducible exact Only.refl
    | with_reducible assumption
    | (extract_lets +onlyGivenNames x; have ht := x.busRead; clear ht; refine Only.cut (x := x) ?_ (fun hx => ?_); (on_goal 1 => subst x); (on_goal 2 => clear_value x))
    | extract_lets +onlyGivenNames x
    | ((with_reducible apply Only.foldl); on_goal 1 => intro x t ht)
    | split
    | ((with_reducible apply Only.step bridgeStart_only); on_goal 1 => decide)
    | ((with_reducible apply Only.step bridgeStop_only); on_goal 1 => decide)
    | ((with_reducible apply Only.lit); intro p hp; cases p <;> first | exact absurd (by decide) hp | (have hq := (‹Only _ _ _›).same _ hp; exact hq) | exact rfl)

theorem immApplied_only {num sub : Nat} {s : State} :
    Only [.rm, .fld, .tbs, .pt, .lce, .adc, .car, .eic, .log, .pci, .xi, .slk, .out, .free] s (immApplied num sub s) := by
  unfold immApplied
  repeat' first
    | with_reducible exact Only.refl
    | with_reducible assumption
    | (extract_lets +onlyGivenNames x; have ht := x.busRead; clear ht; refine Only.cut (x := x) ?_ (fun hx => ?_); (on_goal 1 => subst x); (on_goal 2 => clear_value x))
    | extract_lets +onlyGivenNames x
    | ((with_reducible apply Only.foldl); on_goal 1 => intro x t ht)
    | split
    | ((with_reducible apply Only.step cfgSend_only); on_goal 1 => decide)
    | ((with_reducible apply Only.step fmStart_only); on_goal 1 => decide)
    | ((with_reducible apply Only.step modLaw_only); on_goal 1 => decide)
    | ((with_reducible apply Only.step bridgeEnable_only); on_goal 1 => decide)
    | ((with_reducible apply Only.step refEnable_only); on_goal 1 => decide)
    | ((with_reducible apply Only.step excFollow_only); on_goal 1 => decide)
    | ((with_reducible apply Only.step excMode_only); on_goal 1 => decide)
    | ((with_reducible apply Only.step measAll_only); on_goal 1 => decide)
    | ((with_reducible apply Only.step excChange_only); on_goal 1 => decide)
    | ((with_reducible apply Only.step loopsFollow_only); on_goal 1 => decide)
    | ((with_reducible apply Only.step modLch_only); on_goal 1 => decide)
    | ((with_reducible apply Only.step modAdc_only); on_goal 1 => decide)
    | ((with_reducible apply Only.step bankRequest_only); on_goal 1 => decide)
    | ((with_reducible apply Only.step recEnable_only); on_goal 1 => decide)
    | ((with_reducible apply Only.step laneTo_only); on_goal 1 => decide)
    | ((with_reducible apply Only.step slkTxSleepWrite_only); on_goal 1 => decide)
    | ((with_reducible apply Only.step modLane_only); on_goal 1 => decide)
    | ((with_reducible apply Only.lit); intro p hp; cases p <;> first | exact absurd (by decide) hp | (have hq := (‹Only _ _ _›).same _ hp; exact hq) | exact rfl)

theorem acceptValue_only {ep : Nat} {r : DRow} {sub : Nat} {v : DVal} {s : State} :
    Only [.dict, .rm, .fld, .tbs, .pt, .lce, .adc, .car, .eic, .log, .pci, .xi, .slk, .out, .free] s (acceptValue ep r sub v s) := by
  unfold acceptValue
  repeat' first
    | with_reducible exact Only.refl
    | with_reducible assumption
    | (extract_lets +onlyGivenNames x; have ht := x.busRead; clear ht; refine Only.cut (x := x) ?_ (fun hx => ?_); (on_goal 1 => subst x); (on_goal 2 => clear_value x))
    | extract_lets +onlyGivenNames x
    | ((with_reducible apply Only.foldl); on_goal 1 => intro x t ht)
    | split
    | ((with_reducible apply Only.step immApplied_only); on_goal 1 => decide)
    | ((with_reducible apply Only.step dictRecord_only); on_goal 1 => decide)
    | ((with_reducible apply Only.step setPar_only); on_goal 1 => decide)
    | ((with_reducible apply Only.lit); intro p hp; cases p <;> first | exact absurd (by decide) hp | (have hq := (‹Only _ _ _›).same _ hp; exact hq) | exact rfl)

theorem writeValue_only {ep num sub : Nat} {l : List Byte} {s : State} :
    Only [.dict, .rm, .fld, .tbs, .pt, .lce, .adc, .car, .eic, .log, .pci, .xi, .slk, .out, .free] s (writeValue ep num sub l s) := by
  unfold writeValue
  repeat' first
    | with_reducible exact Only.refl
    | with_reducible assumption
    | (extract_lets +onlyGivenNames x; have ht := x.busRead; clear ht; refine Only.cut (x := x) ?_ (fun hx => ?_); (on_goal 1 => subst x); (on_goal 2 => clear_value x))
    | extract_lets +onlyGivenNames x
    | ((with_reducible apply Only.foldl); on_goal 1 => intro x t ht)
    | split
    | ((with_reducible apply Only.step acceptValue_only); on_goal 1 => decide)
    | ((with_reducible apply Only.lit); intro p hp; cases p <;> first | exact absurd (by decide) hp | (have hq := (‹Only _ _ _›).same _ hp; exact hq) | exact rfl)

theorem modRst_only {f : RstS → RstS} {s : State} :
    Only [.rst] s (modRst f s) := by
  unfold modRst
  repeat' first
    | with_reducible exact Only.refl
    | with_reducible assumption
    | (extract_lets +onlyGivenNames x; have ht := x.busRead; clear ht; refine Only.cut (x := x) ?_ (fun hx => ?_); (on_goal 1 => subst x); (on_goal 2 => clear_value x))
    | extract_lets +onlyGivenNames x
    | ((with_reducible apply Only.foldl); on_goal 1 => intro x t ht)
    | split
    | ((with_reducible apply Only.lit); intro p hp; cases p <;> first | exact absurd (by decide) hp | (have hq := (‹Only _ _ _›).same _ hp; exact hq) | exact rfl)

theorem modSlk_only {f : SlkAll → SlkAll} {s : State} :
    Only [.slk] s (modSlk f s) := by
  unfold modSlk
  repeat' first
    | with_reducible exact Only.refl
    | with_reducible assumption
    | (extract_lets +onlyGivenNames x; have ht := x.busRead; clear ht; refine Only.cut (x := x) ?_ (fun hx => ?_); (on_goal 1 => subst x); (on_goal 2 => clear_value x))
    | extract_lets +onlyGivenNames x
    | ((with_reducible apply Only.foldl); on_goal 1 => intro x t ht)
    | split
    | ((with_reducible apply Only.lit); intro p hp; cases p <;> first | exact absurd (by decide) hp | (have hq := (‹Only _ _ _›).same _ hp; exact hq) | exact rfl)

theorem pduRestart_only {s : State} :
    Only [.saf, .fe] s (pduRestart s) := by
  unfold pduRestart
  repeat' first
    | with_reducible exact Only.refl
    | with_reducible assumption
    | (extract_lets +onlyGivenNames x; have ht := x.busRead; clear ht; refine Only.cut (x := x) ?_ (fun hx => ?_); (on_goal 1 => subst x); (on_goal 2 => clear_value x))
    | extract_lets +onlyGivenNames x
    | ((with_reducible apply Only.foldl); on_goal 1 => intro x t ht)
    | split
    | ((with_reducible apply Only.step verComplete_only); on_goal 1 => decide)
    | ((with_reducible apply Only.step modFe_only); on_goal 1 => decide)
    | ((with_reducible apply Only.lit); intro p hp; cases p <;> first | exact absurd (by decide) hp | (have hq := (‹Only _ _ _›).same _ hp; exact hq) | exact rfl)

theorem leaveConfig_only {s : State} :
    Only [.xi, .rst] s (leaveConfig s) := by
  unfold leaveConfig
  repeat' first
    | with_reducible exact Only.refl
    | with_reducible assumption
    | (extract_lets +onlyGivenNames x; have ht := x.busRead; clear ht; refine Only.cut (x := x) ?_ (fun hx => ?_); (on_goal 1 => subst x); (on_goal 2 => clear_value x))
    | extract_lets +onlyGivenNames x
    | ((with_reducible apply Only.foldl); on_goal 1 => intro x t ht)
    | split
    | ((with_reducible apply Only.step modRst_only); on_goal 1 => decide)
    | ((with_reducible apply Only.step modXi_only); on_goal 1 => decide)
    | ((with_reducible apply Only.lit); intro p hp; cases p <;> first | exact absurd (by decide) hp | (have hq := (‹Only _ _ _›).same _ hp; exact hq) | exact rfl)

theorem pointNegotiate_only {s : State} :
    Only [.pt, .eic, .log, .pci, .slk, .out] s (pointNegotiate s) := by
  unfold pointNegotiate
  repeat' first
    | with_reducible exact Only.refl
    | with_reducible assumption
    | (extract_lets +onlyGivenNames x; have ht := x.busRead; clear ht; refine Only.cut (x := x) ?_ (fun hx => ?_); (on_goal 1 => subst x); (on_goal 2 => clear_value x))
    | extract_lets +onlyGivenNames x
    | ((with_reducible apply Only.foldl); on_goal 1 => intro x t ht)
    | split
    | ((with_reducible apply Only.step modPt_only); on_goal 1 => decide)
    | ((with_reducible apply Only.step logNow_only); on_goal 1 => decide)
    | ((with_reducible apply Only.lit); intro p hp; cases p <;> first | exact absurd (by decide) hp | (have hq := (‹Only _ _ _›).same _ hp; exact hq) | exact rfl)

theorem enterRunNow_only {ep : Nat} {s : State} :
    Only [.dev, .rm, .fld, .pt, .adc, .saf, .car, .eic, .log, .pci, .xi, .slk, .rst, .out] s (enterRunNow ep s) := by
  unfold enterRunNow
  repeat' first
    | with_reducible exact Only.refl
    | with_reducible assumption
    | (extract_lets +onlyGivenNames x; have ht := x.busRead; clear ht; refine Only.cut (x := x) ?_ (fun hx => ?_); (on_goal 1 => subst x); (on_goal 2 => clear_value x))
    | extract_lets +onlyGivenNames x
    | ((with_reducible apply Only.foldl); on_goal 1 => intro x t ht)
    | split
    | ((with_reducible apply Only.step pointNegotiate_only); on_goal 1 => decide)
    | ((with_reducible apply Only.step leaveConfig_only); on_goal 1 => decide)
    | ((with_reducible apply Only.step modAdc_only); on_goal 1 => decide)
    | ((with_reducible apply Only.step modSlk_only); on_goal 1 => decide)
    | ((with_reducible apply Only.step modRm_only); on_goal 1 => decide)
    | ((with_reducible apply Only.step safeCause_only); on_goal 1 => decide)
    | ((with_reducible apply Only.step modSaf_only); on_goal 1 => decide)
    | ((with_reducible apply Only.step setState_only); on_goal 1 => decide)
    | ((with_reducible apply Only.lit); intro p hp; cases p <;> first | exact absurd (by decide) hp | (have hq := (‹Only _ _ _›).same _ hp; exact hq) | exact rfl)

theorem enterConfigNow_only {ep : Nat} {s : State} :
    Only [.dev, .rm, .fld, .chan, .rj, .pt, .lce, .adc, .saf, .fe, .car, .eic, .log, .pci, .slk, .rst, .out] s (enterConfigNow ep s) := by
  unfold enterConfigNow
  repeat' first
    | with_reducible exact Only.refl
    | with_reducible assumption
    | (extract_lets +onlyGivenNames x; have ht := x.busRead; clear ht; refine Only.cut (x := x) ?_ (fun hx => ?_); (on_goal 1 => subst x); (on_goal 2 => clear_value x))
    | extract_lets +onlyGivenNames x
    | ((with_reducible apply Only.foldl); on_goal 1 => intro x t ht)
    | split
    | ((with_reducible apply Only.step pduRestart_only); on_goal 1 => decide)
    | ((with_reducible apply Only.step setState_only); on_goal 1 => decide)
    | ((with_reducible apply Only.step modAdc_only); on_goal 1 => decide)
    | ((with_reducible apply Only.step modSlk_only); on_goal 1 => decide)
    | ((with_reducible apply Only.step leavePhases_only); on_goal 1 => decide)
    | ((with_reducible apply Only.lit); intro p hp; cases p <;> first | exact absurd (by decide) hp | (have hq := (‹Only _ _ _›).same _ hp; exact hq) | exact rfl)

theorem storeStart_only {s : State} :
    Only [.xi] s (storeStart s) := by
  unfold storeStart
  repeat' first
    | with_reducible exact Only.refl
    | with_reducible assumption
    | (extract_lets +onlyGivenNames x; have ht := x.busRead; clear ht; refine Only.cut (x := x) ?_ (fun hx => ?_); (on_goal 1 => subst x); (on_goal 2 => clear_value x))
    | extract_lets +onlyGivenNames x
    | ((with_reducible apply Only.foldl); on_goal 1 => intro x t ht)
    | split
    | ((with_reducible apply Only.step modXi_only); on_goal 1 => decide)
    | ((with_reducible apply Only.lit); intro p hp; cases p <;> first | exact absurd (by decide) hp | (have hq := (‹Only _ _ _›).same _ hp; exact hq) | exact rfl)

theorem restoreDefaults_only {ep : Nat} {s : State} :
    Only [.dict, .rm, .fld, .tbs, .pt, .lce, .adc, .car, .eic, .log, .pci, .xi, .slk, .out, .free] s (restoreDefaults ep s) := by
  unfold restoreDefaults
  repeat' first
    | with_reducible exact Only.refl
    | with_reducible assumption
    | (extract_lets +onlyGivenNames x; have ht := x.busRead; clear ht; refine Only.cut (x := x) ?_ (fun hx => ?_); (on_goal 1 => subst x); (on_goal 2 => clear_value x))
    | extract_lets +onlyGivenNames x
    | ((with_reducible apply Only.foldl); on_goal 1 => intro x t ht)
    | split
    | ((with_reducible apply Only.step acceptValue_only); on_goal 1 => decide)
    | ((with_reducible apply Only.lit); intro p hp; cases p <;> first | exact absurd (by decide) hp | (have hq := (‹Only _ _ _›).same _ hp; exact hq) | exact rfl)

theorem sealSet_only {s : State} :
    Only [.eic, .log, .pci, .xi, .slk, .upd, .out, .free] s (sealSet s).1 := by
  unfold sealSet
  repeat' first
    | with_reducible exact Only.refl
    | with_reducible assumption
    | (extract_lets +onlyGivenNames x; have ht := x.busRead; clear ht; refine Only.cut (x := x) ?_ (fun hx => ?_); (on_goal 1 => subst x); (on_goal 2 => clear_value x))
    | extract_lets +onlyGivenNames x
    | ((with_reducible apply Only.foldl); on_goal 1 => intro x t ht)
    | split
    | ((with_reducible apply Only.step freeBits_only); on_goal 1 => decide)
    | (refine Only.of_snd (by assumption) ?_; (with_reducible apply Only.step freeBits_only); on_goal 1 => decide)
    | ((with_reducible apply Only.step modArea_only); on_goal 1 => decide)
    | ((with_reducible apply Only.step logNow_only); on_goal 1 => decide)
    | ((with_reducible apply Only.step modXi_only); on_goal 1 => decide)
    | ((with_reducible apply Only.lit); intro p hp; cases p <;> first | exact absurd (by decide) hp | (have hq := (‹Only _ _ _›).same _ hp; exact hq) | exact rfl)

theorem cmdRefuse_only {ep code why : Nat} {s : State} :
    Only [.eic, .log, .pci, .xi, .slk, .out] s (cmdRefuse ep code why s).2.2 := by
  unfold cmdRefuse
  repeat' first
    | with_reducible exact Only.refl
    | with_reducible assumption
    | (extract_lets +onlyGivenNames x; have ht := x.busRead; clear ht; refine Only.cut (x := x) ?_ (fun hx => ?_); (on_goal 1 => subst x); (on_goal 2 => clear_value x))
    | extract_lets +onlyGivenNames x
    | ((with_reducible apply Only.foldl); on_goal 1 => intro x t ht)
    | split
    | ((with_reducible apply Only.step logNow_only); on_goal 1 => decide)
    | ((with_reducible apply Only.step modXi_only); on_goal 1 => decide)
    | ((with_reducible apply Only.lit); intro p hp; cases p <;> first | exact absurd (by decide) hp | (have hq := (‹Only _ _ _›).same _ hp; exact hq) | exact rfl)

theorem cmdDone_only {s : State} :
    Only [.xi] s (cmdDone s).2.2 := by
  unfold cmdDone
  repeat' first
    | with_reducible exact Only.refl
    | with_reducible assumption
    | (extract_lets +onlyGivenNames x; have ht := x.busRead; clear ht; refine Only.cut (x := x) ?_ (fun hx => ?_); (on_goal 1 => subst x); (on_goal 2 => clear_value x))
    | extract_lets +onlyGivenNames x
    | ((with_reducible apply Only.foldl); on_goal 1 => intro x t ht)
    | split
    | ((with_reducible apply Only.step modXi_only); on_goal 1 => decide)
    | ((with_reducible apply Only.lit); intro p hp; cases p <;> first | exact absurd (by decide) hp | (have hq := (‹Only _ _ _›).same _ hp; exact hq) | exact rfl)

theorem cmdEffect_only {ep code : Nat} {s : State} :
    Only [.dev, .dict, .rm, .fld, .chan, .tbs, .rj, .pt, .lce, .adc, .saf, .fe, .car, .eic, .log, .pci, .xi, .slk, .upd, .rst, .out, .free] s (cmdEffect ep code s).2.2 := by
  unfold cmdEffect
  repeat' first
    | with_reducible exact Only.refl
    | with_reducible assumption
    | (extract_lets +onlyGivenNames x; have ht := x.busRead; clear ht; refine Only.cut (x := x) ?_ (fun hx => ?_); (on_goal 1 => subst x); (on_goal 2 => clear_value x))
    | extract_lets +onlyGivenNames x
    | ((with_reducible apply Only.foldl); on_goal 1 => intro x t ht)
    | split
    | ((with_reducible apply Only.step cmdDone_only); on_goal 1 => decide)
    | (refine Only.of_snd (by assumption) ?_; (with_reducible apply Only.step cmdDone_only); on_goal 1 => decide)
    | ((with_reducible apply Only.step enterConfigNow_only); on_goal 1 => decide)
    | ((with_reducible apply Only.step enterRunNow_only); on_goal 1 => decide)
    | ((with_reducible apply Only.step setState_only); on_goal 1 => decide)
    | ((with_reducible apply Only.step modXi_only); on_goal 1 => decide)
    | ((with_reducible apply Only.step storeStart_only); on_goal 1 => decide)
    | ((with_reducible apply Only.step restoreDefaults_only); on_goal 1 => decide)
    | ((with_reducible apply Only.step sealSet_only); on_goal 1 => decide)
    | (refine Only.of_fst (by assumption) ?_; (with_reducible apply Only.step sealSet_only); on_goal 1 => decide)
    | ((with_reducible apply Only.lit); intro p hp; cases p <;> first | exact absurd (by decide) hp | (have hq := (‹Only _ _ _›).same _ hp; exact hq) | exact rfl)

theorem deviceCmd_only {ep code : Nat} {s : State} :
    Only [.dev, .dict, .rm, .fld, .chan, .tbs, .rj, .pt, .lce, .adc, .saf, .fe, .car, .eic, .log, .pci, .xi, .slk, .upd, .rst, .out, .free] s (deviceCmd ep code s).2.2 := by
  unfold deviceCmd
  repeat' first
    | with_reducible exact Only.refl
    | with_reducible assumption
    | (extract_lets +onlyGivenNames x; have ht := x.busRead; clear ht; refine Only.cut (x := x) ?_ (fun hx => ?_); (on_goal 1 => subst x); (on_goal 2 => clear_value x))
    | extract_lets +onlyGivenNames x
    | ((with_reducible apply Only.foldl); on_goal 1 => intro x t ht)
    | split
    | ((with_reducible apply Only.step cmdRefuse_only); on_goal 1 => decide)
    | (refine Only.of_snd (by assumption) ?_; (with_reducible apply Only.step cmdRefuse_only); on_goal 1 => decide)
    | ((with_reducible apply Only.step cmdEffect_only); on_goal 1 => decide)
    | (refine Only.of_snd (by assumption) ?_; (with_reducible apply Only.step cmdEffect_only); on_goal 1 => decide)
    | ((with_reducible apply Only.lit); intro p hp; cases p <;> first | exact absurd (by decide) hp | (have hq := (‹Only _ _ _›).same _ hp; exact hq) | exact rfl)

theorem rspOk_only {s : State} :
    Only [] s (rspOk s).2.2 := by
  unfold rspOk
  repeat' first
    | with_reducible exact Only.refl
    | with_reducible assumption
    | (extract_lets +onlyGivenNames x; have ht := x.busRead; clear ht; refine Only.cut (x := x) ?_ (fun hx => ?_); (on_goal 1 => subst x); (on_goal 2 => clear_value x))
    | extract_lets +onlyGivenNames x
    | ((with_reducible apply Only.foldl); on_goal 1 => intro x t ht)
    | split
    | ((with_reducible apply Only.lit); intro p hp; cases p <;> first | exact absurd (by decide) hp | (have hq := (‹Only _ _ _›).same _ hp; exact hq) | exact rfl)

theorem updRefuse_only {status reason : Nat} {s : State} :
    Only [.upd] s (updRefuse status reason s).2.2 := by
  unfold updRefuse
  repeat' first
    | with_reducible exact Only.refl
    | with_reducible assumption
    | (extract_lets +onlyGivenNames x; have ht := x.busRead; clear ht; refine Only.cut (x := x) ?_ (fun hx => ?_); (on_goal 1 => subst x); (on_goal 2 => clear_value x))
    | extract_lets +onlyGivenNames x
    | ((with_reducible apply Only.foldl); on_goal 1 => intro x t ht)
    | split
    | ((with_reducible apply Only.step modUpd_only); on_goal 1 => decide)
    | ((with_reducible apply Only.lit); intro p hp; cases p <;> first | exact absurd (by decide) hp | (have hq := (‹Only _ _ _›).same _ hp; exact hq) | exact rfl)

theorem updState_only {s : State} :
    Only [.upd] s (updState s).2.2 := by
  unfold updState
  repeat' first
    | with_reducible exact Only.refl
    | with_reducible assumption
    | (extract_lets +onlyGivenNames x; have ht := x.busRead; clear ht; refine Only.cut (x := x) ?_ (fun hx => ?_); (on_goal 1 => subst x); (on_goal 2 => clear_value x))
    | extract_lets +onlyGivenNames x
    | ((with_reducible apply Only.foldl); on_goal 1 => intro x t ht)
    | split
    | ((with_reducible apply Only.step updRefuse_only); on_goal 1 => decide)
    | (refine Only.of_snd (by assumption) ?_; (with_reducible apply Only.step updRefuse_only); on_goal 1 => decide)
    | ((with_reducible apply Only.lit); intro p hp; cases p <;> first | exact absurd (by decide) hp | (have hq := (‹Only _ _ _›).same _ hp; exact hq) | exact rfl)

theorem lockTouch_only {s : State} :
    Only [.upd] s (lockTouch s) := by
  unfold lockTouch
  repeat' first
    | with_reducible exact Only.refl
    | with_reducible assumption
    | (extract_lets +onlyGivenNames x; have ht := x.busRead; clear ht; refine Only.cut (x := x) ?_ (fun hx => ?_); (on_goal 1 => subst x); (on_goal 2 => clear_value x))
    | extract_lets +onlyGivenNames x
    | ((with_reducible apply Only.foldl); on_goal 1 => intro x t ht)
    | split
    | ((with_reducible apply Only.step modUpd_only); on_goal 1 => decide)
    | ((with_reducible apply Only.lit); intro p hp; cases p <;> first | exact absurd (by decide) hp | (have hq := (‹Only _ _ _›).same _ hp; exact hq) | exact rfl)

theorem lockKeep_only {ep : Nat} {s : State} :
    Only [.upd] s (lockKeep ep s) := by
  unfold lockKeep
  repeat' first
    | with_reducible exact Only.refl
    | with_reducible assumption
    | (extract_lets +onlyGivenNames x; have ht := x.busRead; clear ht; refine Only.cut (x := x) ?_ (fun hx => ?_); (on_goal 1 => subst x); (on_goal 2 => clear_value x))
    | extract_lets +onlyGivenNames x
    | ((with_reducible apply Only.foldl); on_goal 1 => intro x t ht)
    | split
    | ((with_reducible apply Only.step lockTouch_only); on_goal 1 => decide)
    | ((with_reducible apply Only.lit); intro p hp; cases p <;> first | exact absurd (by decide) hp | (have hq := (‹Only _ _ _›).same _ hp; exact hq) | exact rfl)

theorem updRelease_only {s : State} :
    Only [.upd] s (updRelease s) := by
  unfold updRelease
  repeat' first
    | with_reducible exact Only.refl
    | with_reducible assumption
    | (extract_lets +onlyGivenNames x; have ht := x.busRead; clear ht; refine Only.cut (x := x) ?_ (fun hx => ?_); (on_goal 1 => subst x); (on_goal 2 => clear_value x))
    | extract_lets +onlyGivenNames x
    | ((with_reducible apply Only.foldl); on_goal 1 => intro x t ht)
    | split
    | ((with_reducible apply Only.step modArea_only); on_goal 1 => decide)
    | ((with_reducible apply Only.step modUpd_only); on_goal 1 => decide)
    | ((with_reducible apply Only.lit); intro p hp; cases p <;> first | exact absurd (by decide) hp | (have hq := (‹Only _ _ _›).same _ hp; exact hq) | exact rfl)

theorem updOpen_only {ep : Nat} {s : State} :
    Only [.upd] s (updOpen ep s).2.2 := by
  unfold updOpen
  repeat' first
    | with_reducible exact Only.refl
    | with_reducible assumption
    | (extract_lets +onlyGivenNames x; have ht := x.busRead; clear ht; refine Only.cut (x := x) ?_ (fun hx => ?_); (on_goal 1 => subst x); (on_goal 2 => clear_value x))
    | extract_lets +onlyGivenNames x
    | ((with_reducible apply Only.foldl); on_goal 1 => intro x t ht)
    | split
    | ((with_reducible apply Only.step updState_only); on_goal 1 => decide)
    | (refine Only.of_snd (by assumption) ?_; (with_reducible apply Only.step updState_only); on_goal 1 => decide)
    | ((with_reducible apply Only.step rspOk_only); on_goal 1 => decide)
    | (refine Only.of_snd (by assumption) ?_; (with_reducible apply Only.step rspOk_only); on_goal 1 => decide)
    | ((with_reducible apply Only.step lockTouch_only); on_goal 1 => decide)
    | ((with_reducible apply Only.step modUpd_only); on_goal 1 => decide)
    | ((with_reducible apply Only.lit); intro p hp; cases p <;> first | exact absurd (by decide) hp | (have hq := (‹Only _ _ _›).same _ hp; exact hq) | exact rfl)

theorem updReceived_only {ep : Nat} {a : Nat × Nat} {s : State} :
    Only [.eic, .log, .pci, .slk, .upd, .out] s (updReceived ep a s) := by
  unfold updReceived
  repeat' first
    | with_reducible exact Only.refl
    | with_reducible assumption
    | (extract_lets +onlyGivenNames x; have ht := x.busRead; clear ht; refine Only.cut (x := x) ?_ (fun hx => ?_); (on_goal 1 => subst x); (on_goal 2 => clear_value x))
    | extract_lets +onlyGivenNames x
    | ((with_reducible apply Only.foldl); on_goal 1 => intro x t ht)
    | split
    | ((with_reducible apply Only.step logNow_only); on_goal 1 => decide)
    | ((with_reducible apply Only.step modUpd_only); on_goal 1 => decide)
    | ((with_reducible apply Only.step modArea_only); on_goal 1 => decide)
    | ((with_reducible apply Only.lit); intro p hp; cases p <;> first | exact absurd (by decide) hp | (have hq := (‹Only _ _ _›).same _ hp; exact hq) | exact rfl)

theorem updHeader_only {ep : Nat} {all : List Byte} {s : State} :
    Only [.eic, .log, .pci, .slk, .upd, .out] s (updHeader ep all s).2.2 := by
  unfold updHeader
  repeat' first
    | with_reducible exact Only.refl
    | with_reducible assumption
    | (extract_lets +onlyGivenNames x; have ht := x.busRead; clear ht; refine Only.cut (x := x) ?_ (fun hx => ?_); (on_goal 1 => subst x); (on_goal 2 => clear_value x))
    | extract_lets +onlyGivenNames x
    | ((with_reducible apply Only.foldl); on_goal 1 => intro x t ht)
    | split
    | ((with_reducible apply Only.step lockTouch_only); on_goal 1 => decide)
    | ((with_reducible apply Only.step modUpd_only); on_goal 1 => decide)
    | ((with_reducible apply Only.step rspOk_only); on_goal 1 => decide)
    | (refine Only.of_snd (by assumption) ?_; (with_reducible apply Only.step rspOk_only); on_goal 1 => decide)
    | ((with_reducible apply Only.step updState_only); on_goal 1 => decide)
    | (refine Only.of_snd (by assumption) ?_; (with_reducible apply Only.step updState_only); on_goal 1 => decide)
    | ((with_reducible apply Only.step modArea_only); on_goal 1 => decide)
    | ((with_reducible apply Only.step updReceived_only); on_goal 1 => decide)
    | ((with_reducible apply Only.lit); intro p hp; cases p <;> first | exact absurd (by decide) hp | (have hq := (‹Only _ _ _›).same _ hp; exact hq) | exact rfl)

theorem updBody_only {ep : Nat} {a : Nat × Nat} {d : List Byte} {s : State} :
    Only [.eic, .log, .pci, .slk, .upd, .out] s (updBody ep a d s).2.2 := by
  unfold updBody
  repeat' first
    | with_reducible exact Only.refl
    | with_reducible assumption
    | (extract_lets +onlyGivenNames x; have ht := x.busRead; clear ht; refine Only.cut (x := x) ?_ (fun hx => ?_); (on_goal 1 => subst x); (on_goal 2 => clear_value x))
    | extract_lets +onlyGivenNames x
    | ((with_reducible apply Only.foldl); on_goal 1 => intro x t ht)
    | split
    | ((with_reducible apply Only.step modArea_only); on_goal 1 => decide)
    | ((with_reducible apply Only.step lockTouch_only); on_goal 1 => decide)
    | ((with_reducible apply Only.step modUpd_only); on_goal 1 => decide)
    | ((with_reducible apply Only.step rspOk_only); on_goal 1 => decide)
    | (refine Only.of_snd (by assumption) ?_; (with_reducible apply Only.step rspOk_only); on_goal 1 => decide)
    | ((with_reducible apply Only.step updReceived_only); on_goal 1 => decide)
    | ((with_reducible apply Only.lit); intro p hp; cases p <;> first | exact absurd (by decide) hp | (have hq := (‹Only _ _ _›).same _ hp; exact hq) | exact rfl)

theorem updData_only {ep : Nat} {v : List Byte} {s : State} :
    Only [.eic, .log, .pci, .slk, .upd, .out] s (updData ep v s).2.2 := by
  unfold updData
  repeat' first
    | with_reducible exact Only.refl
    | with_reducible assumption
    | (extract_lets +onlyGivenNames x; have ht := x.busRead; clear ht; refine Only.cut (x := x) ?_ (fun hx => ?_); (on_goal 1 => subst x); (on_goal 2 => clear_value x))
    | extract_lets +onlyGivenNames x
    | ((with_reducible apply Only.foldl); on_goal 1 => intro x t ht)
    | split
    | ((with_reducible apply Only.step updState_only); on_goal 1 => decide)
    | (refine Only.of_snd (by assumption) ?_; (with_reducible apply Only.step updState_only); on_goal 1 => decide)
    | ((with_reducible apply Only.step updBody_only); on_goal 1 => decide)
    | (refine Only.of_snd (by assumption) ?_; (with_reducible apply Only.step updBody_only); on_goal 1 => decide)
    | ((with_reducible apply Only.step updHeader_only); on_goal 1 => decide)
    | (refine Only.of_snd (by assumption) ?_; (with_reducible apply Only.step updHeader_only); on_goal 1 => decide)
    | ((with_reducible apply Only.lit); intro p hp; cases p <;> first | exact absurd (by decide) hp | (have hq := (‹Only _ _ _›).same _ hp; exact hq) | exact rfl)

theorem updVerify_only {ep : Nat} {s : State} :
    Only [.upd] s (updVerify ep s).2.2 := by
  unfold updVerify
  repeat' first
    | with_reducible exact Only.refl
    | with_reducible assumption
    | (extract_lets +onlyGivenNames x; have ht := x.busRead; clear ht; refine Only.cut (x := x) ?_ (fun hx => ?_); (on_goal 1 => subst x); (on_goal 2 => clear_value x))
    | extract_lets +onlyGivenNames x
    | ((with_reducible apply Only.foldl); on_goal 1 => intro x t ht)
    | split
    | ((with_reducible apply Only.step updState_only); on_goal 1 => decide)
    | (refine Only.of_snd (by assumption) ?_; (with_reducible apply Only.step updState_only); on_goal 1 => decide)
    | ((with_reducible apply Only.step rspOk_only); on_goal 1 => decide)
    | (refine Only.of_snd (by assumption) ?_; (with_reducible apply Only.step rspOk_only); on_goal 1 => decide)
    | ((with_reducible apply Only.step lockTouch_only); on_goal 1 => decide)
    | ((with_reducible apply Only.step modUpd_only); on_goal 1 => decide)
    | ((with_reducible apply Only.lit); intro p hp; cases p <;> first | exact absurd (by decide) hp | (have hq := (‹Only _ _ _›).same _ hp; exact hq) | exact rfl)

theorem activate_only {a : Nat × Nat} {s : State} :
    Only [.rm, .upd] s (activate a s) := by
  unfold activate
  repeat' first
    | with_reducible exact Only.refl
    | with_reducible assumption
    | (extract_lets +onlyGivenNames x; have ht := x.busRead; clear ht; refine Only.cut (x := x) ?_ (fun hx => ?_); (on_goal 1 => subst x); (on_goal 2 => clear_value x))
    | extract_lets +onlyGivenNames x
    | ((with_reducible apply Only.foldl); on_goal 1 => intro x t ht)
    | split
    | ((with_reducible apply Only.step selWrite_only); on_goal 1 => decide)
    | ((with_reducible apply Only.step raiseCounter_only); on_goal 1 => decide)
    | ((with_reducible apply Only.step modArea_only); on_goal 1 => decide)
    | ((with_reducible apply Only.step eyeAccept_only); on_goal 1 => decide)
    | ((with_reducible apply Only.lit); intro p hp; cases p <;> first | exact absurd (by decide) hp | (have hq := (‹Only _ _ _›).same _ hp; exact hq) | exact rfl)

theorem updActivate_only {ep : Nat} {s : State} :
    Only [.rm, .eic, .log, .pci, .slk, .upd, .out] s (updActivate ep s).2.2 := by
  unfold updActivate
  repeat' first
    | with_reducible exact Only.refl
    | with_reducible assumption
    | (extract_lets +onlyGivenNames x; have ht := x.busRead; clear ht; refine Only.cut (x := x) ?_ (fun hx => ?_); (on_goal 1 => subst x); (on_goal 2 => clear_value x))
    | extract_lets +onlyGivenNames x
    | ((with_reducible apply Only.foldl); on_goal 1 => intro x t ht)
    | split
    | ((with_reducible apply Only.step updState_only); on_goal 1 => decide)
    | (refine Only.of_snd (by assumption) ?_; (with_reducible apply Only.step updState_only); on_goal 1 => decide)
    | ((with_reducible apply Only.step updRefuse_only); on_goal 1 => decide)
    | (refine Only.of_snd (by assumption) ?_; (with_reducible apply Only.step updRefuse_only); on_goal 1 => decide)
    | ((with_reducible apply Only.step rspOk_only); on_goal 1 => decide)
    | (refine Only.of_snd (by assumption) ?_; (with_reducible apply Only.step rspOk_only); on_goal 1 => decide)
    | ((with_reducible apply Only.step logNow_only); on_goal 1 => decide)
    | ((with_reducible apply Only.step lockTouch_only); on_goal 1 => decide)
    | ((with_reducible apply Only.step modUpd_only); on_goal 1 => decide)
    | ((with_reducible apply Only.step activate_only); on_goal 1 => decide)
    | ((with_reducible apply Only.lit); intro p hp; cases p <;> first | exact absurd (by decide) hp | (have hq := (‹Only _ _ _›).same _ hp; exact hq) | exact rfl)

theorem updEnd_only {ep : Nat} {s : State} :
    Only [.upd] s (updEnd ep s).2.2 := by
  unfold updEnd
  repeat' first
    | with_reducible exact Only.refl
    | with_reducible assumption
    | (extract_lets +onlyGivenNames x; have ht := x.busRead; clear ht; refine Only.cut (x := x) ?_ (fun hx => ?_); (on_goal 1 => subst x); (on_goal 2 => clear_value x))
    | extract_lets +onlyGivenNames x
    | ((with_reducible apply Only.foldl); on_goal 1 => intro x t ht)
    | split
    | ((with_reducible apply Only.step updState_only); on_goal 1 => decide)
    | (refine Only.of_snd (by assumption) ?_; (with_reducible apply Only.step updState_only); on_goal 1 => decide)
    | ((with_reducible apply Only.step rspOk_only); on_goal 1 => decide)
    | (refine Only.of_snd (by assumption) ?_; (with_reducible apply Only.step rspOk_only); on_goal 1 => decide)
    | ((with_reducible apply Only.step updRelease_only); on_goal 1 => decide)
    | ((with_reducible apply Only.lit); intro p hp; cases p <;> first | exact absurd (by decide) hp | (have hq := (‹Only _ _ _›).same _ hp; exact hq) | exact rfl)

theorem updConfirm_only {ep : Nat} {s : State} :
    Only [.upd] s (updConfirm ep s).2.2 := by
  unfold updConfirm
  repeat' first
    | with_reducible exact Only.refl
    | with_reducible assumption
    | (extract_lets +onlyGivenNames x; have ht := x.busRead; clear ht; refine Only.cut (x := x) ?_ (fun hx => ?_); (on_goal 1 => subst x); (on_goal 2 => clear_value x))
    | extract_lets +onlyGivenNames x
    | ((with_reducible apply Only.foldl); on_goal 1 => intro x t ht)
    | split
    | ((with_reducible apply Only.step lockTouch_only); on_goal 1 => decide)
    | ((with_reducible apply Only.step rspOk_only); on_goal 1 => decide)
    | (refine Only.of_snd (by assumption) ?_; (with_reducible apply Only.step rspOk_only); on_goal 1 => decide)
    | ((with_reducible apply Only.step modUpd_only); on_goal 1 => decide)
    | ((with_reducible apply Only.lit); intro p hp; cases p <;> first | exact absurd (by decide) hp | (have hq := (‹Only _ _ _›).same _ hp; exact hq) | exact rfl)

theorem updCmd_only {ep code : Nat} {s : State} :
    Only [.rm, .eic, .log, .pci, .slk, .upd, .out] s (updCmd ep code s).2.2 := by
  unfold updCmd
  repeat' first
    | with_reducible exact Only.refl
    | with_reducible assumption
    | (extract_lets +onlyGivenNames x; have ht := x.busRead; clear ht; refine Only.cut (x := x) ?_ (fun hx => ?_); (on_goal 1 => subst x); (on_goal 2 => clear_value x))
    | extract_lets +onlyGivenNames x
    | ((with_reducible apply Only.foldl); on_goal 1 => intro x t ht)
    | split
    | ((with_reducible apply Only.step updOpen_only); on_goal 1 => decide)
    | (refine Only.of_snd (by assumption) ?_; (with_reducible apply Only.step updOpen_only); on_goal 1 => decide)
    | ((with_reducible apply Only.step updVerify_only); on_goal 1 => decide)
    | (refine Only.of_snd (by assumption) ?_; (with_reducible apply Only.step updVerify_only); on_goal 1 => decide)
    | ((with_reducible apply Only.step updActivate_only); on_goal 1 => decide)
    | (refine Only.of_snd (by assumption) ?_; (with_reducible apply Only.step updActivate_only); on_goal 1 => decide)
    | ((with_reducible apply Only.step updEnd_only); on_goal 1 => decide)
    | (refine Only.of_snd (by assumption) ?_; (with_reducible apply Only.step updEnd_only); on_goal 1 => decide)
    | ((with_reducible apply Only.step updConfirm_only); on_goal 1 => decide)
    | (refine Only.of_snd (by assumption) ?_; (with_reducible apply Only.step updConfirm_only); on_goal 1 => decide)
    | ((with_reducible apply Only.lit); intro p hp; cases p <;> first | exact absurd (by decide) hp | (have hq := (‹Only _ _ _›).same _ hp; exact hq) | exact rfl)

theorem authChallenge_only {ep : Nat} {s : State} :
    Only [.xi, .free] s (authChallenge ep s).2 := by
  unfold authChallenge
  repeat' first
    | with_reducible exact Only.refl
    | with_reducible assumption
    | (extract_lets +onlyGivenNames x; have ht := x.busRead; clear ht; refine Only.cut (x := x) ?_ (fun hx => ?_); (on_goal 1 => subst x); (on_goal 2 => clear_value x))
    | extract_lets +onlyGivenNames x
    | ((with_reducible apply Only.foldl); on_goal 1 => intro x t ht)
    | split
    | ((with_reducible apply Only.step freeBits_only); on_goal 1 => decide)
    | (refine Only.of_snd (by assumption) ?_; (with_reducible apply Only.step freeBits_only); on_goal 1 => decide)
    | ((with_reducible apply Only.step modSess_only); on_goal 1 => decide)
    | ((with_reducible apply Only.lit); intro p hp; cases p <;> first | exact absurd (by decide) hp | (have hq := (‹Only _ _ _›).same _ hp; exact hq) | exact rfl)

theorem authRefuse_only {ep status : Nat} {s : State} :
    Only [.eic, .log, .pci, .xi, .slk, .out] s (authRefuse ep status s).2.2 := by
  unfold authRefuse
  repeat' first
    | with_reducible exact Only.refl
    | with_reducible assumption
    | (extract_lets +onlyGivenNames x; have ht := x.busRead; clear ht; refine Only.cut (x := x) ?_ (fun hx => ?_); (on_goal 1 => subst x); (on_goal 2 => clear_value x))
    | extract_lets +onlyGivenNames x
    | ((with_reducible apply Only.foldl); on_goal 1 => intro x t ht)
    | split
    | ((with_reducible apply Only.step logNow_only); on_goal 1 => decide)
    | ((with_reducible apply Only.step modSess_only); on_goal 1 => decide)
    | ((with_reducible apply Only.lit); intro p hp; cases p <;> first | exact absurd (by decide) hp | (have hq := (‹Only _ _ _›).same _ hp; exact hq) | exact rfl)

theorem authResponse_only {ep : Nat} {v : List Byte} {s : State} :
    Only [.eic, .log, .pci, .xi, .slk, .out] s (authResponse ep v s).2.2 := by
  unfold authResponse
  repeat' first
    | with_reducible exact Only.refl
    | with_reducible assumption
    | (extract_lets +onlyGivenNames x; have ht := x.busRead; clear ht; refine Only.cut (x := x) ?_ (fun hx => ?_); (on_goal 1 => subst x); (on_goal 2 => clear_value x))
    | extract_lets +onlyGivenNames x
    | ((with_reducible apply Only.foldl); on_goal 1 => intro x t ht)
    | split
    | ((with_reducible apply Only.step modSess_only); on_goal 1 => decide)
    | ((with_reducible apply Only.step authRefuse_only); on_goal 1 => decide)
    | (refine Only.of_snd (by assumption) ?_; (with_reducible apply Only.step authRefuse_only); on_goal 1 => decide)
    | ((with_reducible apply Only.step rspOk_only); on_goal 1 => decide)
    | (refine Only.of_snd (by assumption) ?_; (with_reducible apply Only.step rspOk_only); on_goal 1 => decide)
    | ((with_reducible apply Only.lit); intro p hp; cases p <;> first | exact absurd (by decide) hp | (have hq := (‹Only _ _ _›).same _ hp; exact hq) | exact rfl)

theorem sigRevoke_only {ep v : Nat} {s : State} :
    Only [.upd] s (sigRevoke ep v s).2.2 := by
  unfold sigRevoke
  repeat' first
    | with_reducible exact Only.refl
    | with_reducible assumption
    | (extract_lets +onlyGivenNames x; have ht := x.busRead; clear ht; refine Only.cut (x := x) ?_ (fun hx => ?_); (on_goal 1 => subst x); (on_goal 2 => clear_value x))
    | extract_lets +onlyGivenNames x
    | ((with_reducible apply Only.foldl); on_goal 1 => intro x t ht)
    | split
    | ((with_reducible apply Only.step rspOk_only); on_goal 1 => decide)
    | (refine Only.of_snd (by assumption) ?_; (with_reducible apply Only.step rspOk_only); on_goal 1 => decide)
    | ((with_reducible apply Only.step modUpd_only); on_goal 1 => decide)
    | ((with_reducible apply Only.lit); intro p hp; cases p <;> first | exact absurd (by decide) hp | (have hq := (‹Only _ _ _›).same _ hp; exact hq) | exact rfl)

theorem snapArm_only {s : State} :
    Only [.ee] s (snapArm s) := by
  unfold snapArm
  repeat' first
    | with_reducible exact Only.refl
    | with_reducible assumption
    | (extract_lets +onlyGivenNames x; have ht := x.busRead; clear ht; refine Only.cut (x := x) ?_ (fun hx => ?_); (on_goal 1 => subst x); (on_goal 2 => clear_value x))
    | extract_lets +onlyGivenNames x
    | ((with_reducible apply Only.foldl); on_goal 1 => intro x t ht)
    | split
    | ((with_reducible apply Only.lit); intro p hp; cases p <;> first | exact absurd (by decide) hp | (have hq := (‹Only _ _ _›).same _ hp; exact hq) | exact rfl)

theorem calSnap_only {s : State} :
    Only [.dict] s (calSnap s) := by
  unfold calSnap
  repeat' first
    | with_reducible exact Only.refl
    | with_reducible assumption
    | (extract_lets +onlyGivenNames x; have ht := x.busRead; clear ht; refine Only.cut (x := x) ?_ (fun hx => ?_); (on_goal 1 => subst x); (on_goal 2 => clear_value x))
    | extract_lets +onlyGivenNames x
    | ((with_reducible apply Only.foldl); on_goal 1 => intro x t ht)
    | split
    | ((with_reducible apply Only.step setPar_only); on_goal 1 => decide)
    | ((with_reducible apply Only.lit); intro p hp; cases p <;> first | exact absurd (by decide) hp | (have hq := (‹Only _ _ _›).same _ hp; exact hq) | exact rfl)

theorem priRetry_only {s : State} :
    Only [.lce] s (priRetry s).2.2 := by
  unfold priRetry
  repeat' first
    | with_reducible exact Only.refl
    | with_reducible assumption
    | (extract_lets +onlyGivenNames x; have ht := x.busRead; clear ht; refine Only.cut (x := x) ?_ (fun hx => ?_); (on_goal 1 => subst x); (on_goal 2 => clear_value x))
    | extract_lets +onlyGivenNames x
    | ((with_reducible apply Only.foldl); on_goal 1 => intro x t ht)
    | split
    | ((with_reducible apply Only.step rspOk_only); on_goal 1 => decide)
    | (refine Only.of_snd (by assumption) ?_; (with_reducible apply Only.step rspOk_only); on_goal 1 => decide)
    | ((with_reducible apply Only.step modLce_only); on_goal 1 => decide)
    | ((with_reducible apply Only.lit); intro p hp; cases p <;> first | exact absurd (by decide) hp | (have hq := (‹Only _ _ _›).same _ hp; exact hq) | exact rfl)

theorem mirRestart_only {s : State} :
    Only [.rm, .fld, .lce, .out] s (mirRestart s) := by
  unfold mirRestart
  repeat' first
    | with_reducible exact Only.refl
    | with_reducible assumption
    | (extract_lets +onlyGivenNames x; have ht := x.busRead; clear ht; refine Only.cut (x := x) ?_ (fun hx => ?_); (on_goal 1 => subst x); (on_goal 2 => clear_value x))
    | extract_lets +onlyGivenNames x
    | ((with_reducible apply Only.foldl); on_goal 1 => intro x t ht)
    | split
    | ((with_reducible apply Only.step bridgeStart_only); on_goal 1 => decide)
    | ((with_reducible apply Only.step modLce_only); on_goal 1 => decide)
    | ((with_reducible apply Only.step closeLoop_only); on_goal 1 => decide)
    | ((with_reducible apply Only.lit); intro p hp; cases p <;> first | exact absurd (by decide) hp | (have hq := (‹Only _ _ _›).same _ hp; exact hq) | exact rfl)

theorem injStart_only {s : State} :
    Only [.lce] s (injStart s).2.2 := by
  unfold injStart
  repeat' first
    | with_reducible exact Only.refl
    | with_reducible assumption
    | (extract_lets +onlyGivenNames x; have ht := x.busRead; clear ht; refine Only.cut (x := x) ?_ (fun hx => ?_); (on_goal 1 => subst x); (on_goal 2 => clear_value x))
    | extract_lets +onlyGivenNames x
    | ((with_reducible apply Only.foldl); on_goal 1 => intro x t ht)
    | split
    | ((with_reducible apply Only.step rspOk_only); on_goal 1 => decide)
    | (refine Only.of_snd (by assumption) ?_; (with_reducible apply Only.step rspOk_only); on_goal 1 => decide)
    | ((with_reducible apply Only.step modLce_only); on_goal 1 => decide)
    | ((with_reducible apply Only.lit); intro p hp; cases p <;> first | exact absurd (by decide) hp | (have hq := (‹Only _ _ _›).same _ hp; exact hq) | exact rfl)

theorem adcCommit_only {n : Nat} {s : State} :
    Only [.adc] s (adcCommit n s).2.2 := by
  unfold adcCommit
  repeat' first
    | with_reducible exact Only.refl
    | with_reducible assumption
    | (extract_lets +onlyGivenNames x; have ht := x.busRead; clear ht; refine Only.cut (x := x) ?_ (fun hx => ?_); (on_goal 1 => subst x); (on_goal 2 => clear_value x))
    | extract_lets +onlyGivenNames x
    | ((with_reducible apply Only.foldl); on_goal 1 => intro x t ht)
    | split
    | ((with_reducible apply Only.step seqCommit_only); on_goal 1 => decide)
    | ((with_reducible apply Only.lit); intro p hp; cases p <;> first | exact absurd (by decide) hp | (have hq := (‹Only _ _ _›).same _ hp; exact hq) | exact rfl)

theorem recRead_only {v : Nat} {s : State} :
    Only [.car] s (recRead v s).2.2 := by
  unfold recRead
  repeat' first
    | with_reducible exact Only.refl
    | with_reducible assumption
    | (extract_lets +onlyGivenNames x; have ht := x.busRead; clear ht; refine Only.cut (x := x) ?_ (fun hx => ?_); (on_goal 1 => subst x); (on_goal 2 => clear_value x))
    | extract_lets +onlyGivenNames x
    | ((with_reducible apply Only.foldl); on_goal 1 => intro x t ht)
    | split
    | ((with_reducible apply Only.step rspOk_only); on_goal 1 => decide)
    | (refine Only.of_snd (by assumption) ?_; (with_reducible apply Only.step rspOk_only); on_goal 1 => decide)
    | ((with_reducible apply Only.step recReadWrite_only); on_goal 1 => decide)
    | ((with_reducible apply Only.step modRec_only); on_goal 1 => decide)
    | ((with_reducible apply Only.lit); intro p hp; cases p <;> first | exact absurd (by decide) hp | (have hq := (‹Only _ _ _›).same _ hp; exact hq) | exact rfl)

theorem woWrite_only {ep num sub : Nat} {l : List Byte} {s : State} :
    Only [.dev, .dict, .rm, .fld, .chan, .tbs, .ee, .rj, .pt, .lce, .adc, .saf, .fe, .car, .eic, .log, .pci, .xi, .slk, .upd, .rst, .out, .free] s (woWrite ep num sub l s).2.2 := by
  unfold woWrite
  repeat' first
    | with_reducible exact Only.refl
    | with_reducible assumption
    | (extract_lets +onlyGivenNames x; have ht := x.busRead; clear ht; refine Only.cut (x := x) ?_ (fun hx => ?_); (on_goal 1 => subst x); (on_goal 2 => clear_value x))
    | extract_lets +onlyGivenNames x
    | ((with_reducible apply Only.foldl); on_goal 1 => intro x t ht)
    | split
    | ((with_reducible apply Only.step deviceCmd_only); on_goal 1 => decide)
    | (refine Only.of_snd (by assumption) ?_; (with_reducible apply Only.step deviceCmd_only); on_goal 1 => decide)
    | ((with_reducible apply Only.step updCmd_only); on_goal 1 => decide)
    | (refine Only.of_snd (by assumption) ?_; (with_reducible apply Only.step updCmd_only); on_goal 1 => decide)
    | ((with_reducible apply Only.step lockKeep_only); on_goal 1 => decide)
    | ((with_reducible apply Only.step updData_only); on_goal 1 => decide)
    | (refine Only.of_snd (by assumption) ?_; (with_reducible apply Only.step updData_only); on_goal 1 => decide)
    | ((with_reducible apply Only.step authResponse_only); on_goal 1 => decide)
    | (refine Only.of_snd (by assumption) ?_; (with_reducible apply Only.step authResponse_only); on_goal 1 => decide)
    | ((with_reducible apply Only.step sigRevoke_only); on_goal 1 => decide)
    | (refine Only.of_snd (by assumption) ?_; (with_reducible apply Only.step sigRevoke_only); on_goal 1 => decide)
    | ((with_reducible apply Only.step rspOk_only); on_goal 1 => decide)
    | (refine Only.of_snd (by assumption) ?_; (with_reducible apply Only.step rspOk_only); on_goal 1 => decide)
    | ((with_reducible apply Only.step recRearmWrite_only); on_goal 1 => decide)
    | ((with_reducible apply Only.step recReleaseWrite_only); on_goal 1 => decide)
    | ((with_reducible apply Only.step recRead_only); on_goal 1 => decide)
    | (refine Only.of_snd (by assumption) ?_; (with_reducible apply Only.step recRead_only); on_goal 1 => decide)
    | ((with_reducible apply Only.step recMissedClrWrite_only); on_goal 1 => decide)
    | ((with_reducible apply Only.step ppsArmWrite_only); on_goal 1 => decide)
    | ((with_reducible apply Only.step snapArm_only); on_goal 1 => decide)
    | ((with_reducible apply Only.step calSnap_only); on_goal 1 => decide)
    | ((with_reducible apply Only.step priRetry_only); on_goal 1 => decide)
    | (refine Only.of_snd (by assumption) ?_; (with_reducible apply Only.step priRetry_only); on_goal 1 => decide)
    | ((with_reducible apply Only.step mirRestart_only); on_goal 1 => decide)
    | ((with_reducible apply Only.step injStart_only); on_goal 1 => decide)
    | (refine Only.of_snd (by assumption) ?_; (with_reducible apply Only.step injStart_only); on_goal 1 => decide)
    | ((with_reducible apply Only.step injEnd_only); on_goal 1 => decide)
    | ((with_reducible apply Only.step adcCommit_only); on_goal 1 => decide)
    | (refine Only.of_snd (by assumption) ?_; (with_reducible apply Only.step adcCommit_only); on_goal 1 => decide)
    | ((with_reducible apply Only.step syncRequest_only); on_goal 1 => decide)
    | ((with_reducible apply Only.step recTrigger_only); on_goal 1 => decide)
    | ((with_reducible apply Only.step firstClear_only); on_goal 1 => decide)
    | ((with_reducible apply Only.lit); intro p hp; cases p <;> first | exact absurd (by decide) hp | (have hq := (‹Only _ _ _›).same _ hp; exact hq) | exact rfl)

theorem xiWrite_only {ep : Nat} {r : Req} {s : State} :
    Only [.dev, .dict, .rm, .fld, .chan, .tbs, .ee, .rj, .pt, .lce, .adc, .saf, .fe, .car, .eic, .log, .pci, .xi, .slk, .upd, .rst, .out, .free] s (xiWrite ep r s).2.2 := by
  unfold xiWrite
  repeat' first
    | with_reducible exact Only.refl
    | with_reducible assumption
    | (extract_lets +onlyGivenNames x; have ht := x.busRead; clear ht; refine Only.cut (x := x) ?_ (fun hx => ?_); (on_goal 1 => subst x); (on_goal 2 => clear_value x))
    | extract_lets +onlyGivenNames x
    | ((with_reducible apply Only.foldl); on_goal 1 => intro x t ht)
    | split
    | ((with_reducible apply Only.step woWrite_only); on_goal 1 => decide)
    | (refine Only.of_snd (by assumption) ?_; (with_reducible apply Only.step woWrite_only); on_goal 1 => decide)
    | ((with_reducible apply Only.step dictRecord_only); on_goal 1 => decide)
    | ((with_reducible apply Only.step rspOk_only); on_goal 1 => decide)
    | (refine Only.of_snd (by assumption) ?_; (with_reducible apply Only.step rspOk_only); on_goal 1 => decide)
    | ((with_reducible apply Only.step writeValue_only); on_goal 1 => decide)
    | ((with_reducible apply Only.lit); intro p hp; cases p <;> first | exact absurd (by decide) hp | (have hq := (‹Only _ _ _›).same _ hp; exact hq) | exact rfl)

theorem xiRead_only {ep : Nat} {r : Req} {s : State} :
    Only [.chan, .xi, .free] s (xiRead ep r s).2.2 := by
  unfold xiRead
  repeat' first
    | with_reducible exact Only.refl
    | with_reducible assumption
    | (extract_lets +onlyGivenNames x; have ht := x.busRead; clear ht; refine Only.cut (x := x) ?_ (fun hx => ?_); (on_goal 1 => subst x); (on_goal 2 => clear_value x))
    | extract_lets +onlyGivenNames x
    | ((with_reducible apply Only.foldl); on_goal 1 => intro x t ht)
    | split
    | ((with_reducible apply Only.step authChallenge_only); on_goal 1 => decide)
    | (refine Only.of_snd (by assumption) ?_; (with_reducible apply Only.step authChallenge_only); on_goal 1 => decide)
    | ((with_reducible apply Only.step modChan_only); on_goal 1 => decide)
    | ((with_reducible apply Only.lit); intro p hp; cases p <;> first | exact absurd (by decide) hp | (have hq := (‹Only _ _ _›).same _ hp; exact hq) | exact rfl)

theorem xiDescribe_only {r : Req} {s : State} :
    Only [] s (xiDescribe r s).2.2 := by
  unfold xiDescribe
  repeat' first
    | with_reducible exact Only.refl
    | with_reducible assumption
    | (extract_lets +onlyGivenNames x; have ht := x.busRead; clear ht; refine Only.cut (x := x) ?_ (fun hx => ?_); (on_goal 1 => subst x); (on_goal 2 => clear_value x))
    | extract_lets +onlyGivenNames x
    | ((with_reducible apply Only.foldl); on_goal 1 => intro x t ht)
    | split
    | ((with_reducible apply Only.lit); intro p hp; cases p <;> first | exact absurd (by decide) hp | (have hq := (‹Only _ _ _›).same _ hp; exact hq) | exact rfl)

theorem xiOpen_only {ep : Nat} {r : Req} {s : State} :
    Only [.xi] s (xiOpen ep r s).2.2 := by
  unfold xiOpen
  repeat' first
    | with_reducible exact Only.refl
    | with_reducible assumption
    | (extract_lets +onlyGivenNames x; have ht := x.busRead; clear ht; refine Only.cut (x := x) ?_ (fun hx => ?_); (on_goal 1 => subst x); (on_goal 2 => clear_value x))
    | extract_lets +onlyGivenNames x
    | ((with_reducible apply Only.foldl); on_goal 1 => intro x t ht)
    | split
    | ((with_reducible apply Only.step closeSess_only); on_goal 1 => decide)
    | ((with_reducible apply Only.step modSess_only); on_goal 1 => decide)
    | ((with_reducible apply Only.lit); intro p hp; cases p <;> first | exact absurd (by decide) hp | (have hq := (‹Only _ _ _›).same _ hp; exact hq) | exact rfl)

theorem xiExec_only {ep : Nat} {r : Req} {s : State} :
    Only [.dev, .dict, .rm, .fld, .chan, .tbs, .ee, .rj, .pt, .lce, .adc, .saf, .fe, .car, .eic, .log, .pci, .xi, .slk, .upd, .rst, .out, .free] s (xiExec ep r s).2.2 := by
  unfold xiExec
  repeat' first
    | with_reducible exact Only.refl
    | with_reducible assumption
    | (extract_lets +onlyGivenNames x; have ht := x.busRead; clear ht; refine Only.cut (x := x) ?_ (fun hx => ?_); (on_goal 1 => subst x); (on_goal 2 => clear_value x))
    | extract_lets +onlyGivenNames x
    | ((with_reducible apply Only.foldl); on_goal 1 => intro x t ht)
    | split
    | ((with_reducible apply Only.step xiOpen_only); on_goal 1 => decide)
    | (refine Only.of_snd (by assumption) ?_; (with_reducible apply Only.step xiOpen_only); on_goal 1 => decide)
    | ((with_reducible apply Only.step rspOk_only); on_goal 1 => decide)
    | (refine Only.of_snd (by assumption) ?_; (with_reducible apply Only.step rspOk_only); on_goal 1 => decide)
    | ((with_reducible apply Only.step closeSess_only); on_goal 1 => decide)
    | ((with_reducible apply Only.step xiRead_only); on_goal 1 => decide)
    | (refine Only.of_snd (by assumption) ?_; (with_reducible apply Only.step xiRead_only); on_goal 1 => decide)
    | ((with_reducible apply Only.step xiWrite_only); on_goal 1 => decide)
    | (refine Only.of_snd (by assumption) ?_; (with_reducible apply Only.step xiWrite_only); on_goal 1 => decide)
    | ((with_reducible apply Only.step xiDescribe_only); on_goal 1 => decide)
    | (refine Only.of_snd (by assumption) ?_; (with_reducible apply Only.step xiDescribe_only); on_goal 1 => decide)
    | ((with_reducible apply Only.lit); intro p hp; cases p <;> first | exact absurd (by decide) hp | (have hq := (‹Only _ _ _›).same _ hp; exact hq) | exact rfl)

theorem remember_only {ep : Nat} {r : Req} {m : List Byte} {s : State} :
    Only [.xi] s (remember ep r m s) := by
  unfold remember
  repeat' first
    | with_reducible exact Only.refl
    | with_reducible assumption
    | (extract_lets +onlyGivenNames x; have ht := x.busRead; clear ht; refine Only.cut (x := x) ?_ (fun hx => ?_); (on_goal 1 => subst x); (on_goal 2 => clear_value x))
    | extract_lets +onlyGivenNames x
    | ((with_reducible apply Only.foldl); on_goal 1 => intro x t ht)
    | split
    | ((with_reducible apply Only.step modXi_only); on_goal 1 => decide)
    | ((with_reducible apply Only.step modSess_only); on_goal 1 => decide)
    | ((with_reducible apply Only.lit); intro p hp; cases p <;> first | exact absurd (by decide) hp | (have hq := (‹Only _ _ _›).same _ hp; exact hq) | exact rfl)

theorem serve_only {ep : Nat} {r : Req} {s : State} :
    Only [.dev, .dict, .rm, .fld, .chan, .tbs, .ee, .rj, .pt, .lce, .adc, .saf, .fe, .car, .eic, .log, .pci, .xi, .slk, .upd, .rst, .out, .free] s (serve ep r s) := by
  unfold serve
  repeat' first
    | with_reducible exact Only.refl
    | with_reducible assumption
    | (extract_lets +onlyGivenNames x; have ht := x.busRead; clear ht; refine Only.cut (x := x) ?_ (fun hx => ?_); (on_goal 1 => subst x); (on_goal 2 => clear_value x))
    | extract_lets +onlyGivenNames x
    | ((with_reducible apply Only.foldl); on_goal 1 => intro x t ht)
    | split
    | ((with_reducible apply Only.step modXi_only); on_goal 1 => decide)
    | ((with_reducible apply Only.step respond_only); on_goal 1 => decide)
    | ((with_reducible apply Only.step modSess_only); on_goal 1 => decide)
    | ((with_reducible apply Only.step xiExec_only); on_goal 1 => decide)
    | (refine Only.of_snd (by assumption) ?_; (with_reducible apply Only.step xiExec_only); on_goal 1 => decide)
    | ((with_reducible apply Only.step owe_only); on_goal 1 => decide)
    | ((with_reducible apply Only.step remember_only); on_goal 1 => decide)
    | ((with_reducible apply Only.lit); intro p hp; cases p <;> first | exact absurd (by decide) hp | (have hq := (‹Only _ _ _›).same _ hp; exact hq) | exact rfl)

theorem serveWrite_only {ep : Nat} {tag : Byte} {num sub : Nat} {val : List Byte} {s : State} :
    Only [.dev, .dict, .rm, .fld, .chan, .tbs, .ee, .rj, .pt, .lce, .adc, .saf, .fe, .car, .eic, .log, .pci, .xi, .slk, .upd, .rst, .out, .free] s (serveWrite ep tag num sub val s) := by
  unfold serveWrite
  repeat' first
    | with_reducible exact Only.refl
    | with_reducible assumption
    | (extract_lets +onlyGivenNames x; have ht := x.busRead; clear ht; refine Only.cut (x := x) ?_ (fun hx => ?_); (on_goal 1 => subst x); (on_goal 2 => clear_value x))
    | extract_lets +onlyGivenNames x
    | ((with_reducible apply Only.foldl); on_goal 1 => intro x t ht)
    | split
    | ((with_reducible apply Only.step serve_only); on_goal 1 => decide)
    | ((with_reducible apply Only.lit); intro p hp; cases p <;> first | exact absurd (by decide) hp | (have hq := (‹Only _ _ _›).same _ hp; exact hq) | exact rfl)

end Sys2Proof
end

