-- ==== Sys2Proof/Laws/OnlyReset.lean ====
section
/-!
SUPPORT. Frames: what the operations of reset, boot, point streams, cameras and registers change.
-/
namespace Sys2Proof

open Sys2Proof.Machine

set_option linter.unusedTactic false
set_option linter.unreachableTactic false
set_option linter.tactic.unusedName false

theorem requestReset_only {level : ResetLevel} {cause : Nat} {s : State} :
    Only [.rst] s (requestReset level cause s) := by
  unfold requestReset
  repeat' first
    | with_reducible exact Only.refl
    | with_reducible assumption
    | (extract_lets +onlyGivenNames x; have ht := x.busRead; clear ht; refine Only.cut (x := x) ?_ (fun hx => ?_); (on_goal 1 => subst x); (on_goal 2 => clear_value x))
    | extract_lets +onlyGivenNames x
    | ((with_reducible apply Only.foldl); on_goal 1 => intro x t ht)
    | split
    | ((with_reducible apply Only.step modRst_only); on_goal 1 => decide)
    | ((with_reducible apply Only.lit); intro p hp; cases p <;> first | exact absurd (by decide) hp | (have hq := (‹Only _ _ _›).same _ hp; exact hq) | exact rfl)

theorem safetyFatal_only {s : State} :
    Only [.fld, .eic, .log, .pci, .slk, .upd, .rst, .out] s (safetyFatal s) := by
  unfold safetyFatal
  repeat' first
    | with_reducible exact Only.refl
    | with_reducible assumption
    | (extract_lets +onlyGivenNames x; have ht := x.busRead; clear ht; refine Only.cut (x := x) ?_ (fun hx => ?_); (on_goal 1 => subst x); (on_goal 2 => clear_value x))
    | extract_lets +onlyGivenNames x
    | ((with_reducible apply Only.foldl); on_goal 1 => intro x t ht)
    | split
    | ((with_reducible apply Only.step fastOff_only); on_goal 1 => decide)
    | ((with_reducible apply Only.step modOut_only); on_goal 1 => decide)
    | ((with_reducible apply Only.step requestReset_only); on_goal 1 => decide)
    | ((with_reducible apply Only.step logNow_only); on_goal 1 => decide)
    | ((with_reducible apply Only.step modUpd_only); on_goal 1 => decide)
    | ((with_reducible apply Only.lit); intro p hp; cases p <;> first | exact absurd (by decide) hp | (have hq := (‹Only _ _ _›).same _ hp; exact hq) | exact rfl)

theorem coldState_only {level : ResetLevel} {cause : Nat} {s : State} :
    Only [.tb, .t64Ofs, .dev, .dict, .rm, .fld, .chan, .tbs, .ee, .rj, .ts, .pt, .lce, .adc, .cam, .saf, .fe, .car, .eic, .log, .pci, .xi, .slk, .thm, .upd, .rst, .arb, .out, .busRead, .free, .pending] s (coldState level cause s) := by
  unfold coldState
  repeat' first
    | with_reducible exact Only.refl
    | with_reducible assumption
    | (extract_lets +onlyGivenNames x; have ht := x.busRead; clear ht; refine Only.cut (x := x) ?_ (fun hx => ?_); (on_goal 1 => subst x); (on_goal 2 => clear_value x))
    | extract_lets +onlyGivenNames x
    | ((with_reducible apply Only.foldl); on_goal 1 => intro x t ht)
    | split
    | ((with_reducible apply Only.step State.reset_only); on_goal 1 => decide)
    | ((with_reducible apply Only.lit); intro p hp; cases p <;> first | exact absurd (by decide) hp | (have hq := (‹Only _ _ _›).same _ hp; exact hq) | exact rfl)

theorem resetBalls_only {s : State} :
    Only [.out] s (resetBalls s) := by
  unfold resetBalls
  repeat' first
    | with_reducible exact Only.refl
    | with_reducible assumption
    | (extract_lets +onlyGivenNames x; have ht := x.busRead; clear ht; refine Only.cut (x := x) ?_ (fun hx => ?_); (on_goal 1 => subst x); (on_goal 2 => clear_value x))
    | extract_lets +onlyGivenNames x
    | ((with_reducible apply Only.foldl); on_goal 1 => intro x t ht)
    | split
    | ((with_reducible apply Only.step emit_only); on_goal 1 => decide)
    | ((with_reducible apply Only.lit); intro p hp; cases p <;> first | exact absurd (by decide) hp | (have hq := (‹Only _ _ _›).same _ hp; exact hq) | exact rfl)

theorem beginReset_only {level : ResetLevel} {cause ep cmd : Nat} {s : State} :
    Only [.tb, .t64Ofs, .dev, .dict, .rm, .fld, .chan, .tbs, .ee, .rj, .ts, .pt, .lce, .adc, .cam, .saf, .fe, .car, .eic, .log, .pci, .xi, .slk, .thm, .upd, .rst, .arb, .out, .busRead, .free, .pending] s (beginReset level cause ep cmd s) := by
  unfold beginReset
  repeat' first
    | with_reducible exact Only.refl
    | with_reducible assumption
    | (extract_lets +onlyGivenNames x; have ht := x.busRead; clear ht; refine Only.cut (x := x) ?_ (fun hx => ?_); (on_goal 1 => subst x); (on_goal 2 => clear_value x))
    | extract_lets +onlyGivenNames x
    | ((with_reducible apply Only.foldl); on_goal 1 => intro x t ht)
    | split
    | ((with_reducible apply Only.step logNow_only); on_goal 1 => decide)
    | ((with_reducible apply Only.step coldState_only); on_goal 1 => decide)
    | ((with_reducible apply Only.step resetBalls_only); on_goal 1 => decide)
    | ((with_reducible apply Only.step flushPoints_only); on_goal 1 => decide)
    | ((with_reducible apply Only.lit); intro p hp; cases p <;> first | exact absurd (by decide) hp | (have hq := (‹Only _ _ _›).same _ hp; exact hq) | exact rfl)

theorem wakeReset_only {src : Nat} {s : State} :
    Only [.tb, .t64Ofs, .dev, .dict, .rm, .fld, .chan, .tbs, .ee, .rj, .ts, .pt, .lce, .adc, .cam, .saf, .fe, .car, .eic, .log, .pci, .xi, .slk, .thm, .upd, .rst, .arb, .out, .busRead, .free, .pending] s (wakeReset src s) := by
  unfold wakeReset
  repeat' first
    | with_reducible exact Only.refl
    | with_reducible assumption
    | (extract_lets +onlyGivenNames x; have ht := x.busRead; clear ht; refine Only.cut (x := x) ?_ (fun hx => ?_); (on_goal 1 => subst x); (on_goal 2 => clear_value x))
    | extract_lets +onlyGivenNames x
    | ((with_reducible apply Only.foldl); on_goal 1 => intro x t ht)
    | split
    | ((with_reducible apply Only.step emit_only); on_goal 1 => decide)
    | ((with_reducible apply Only.step beginReset_only); on_goal 1 => decide)
    | ((with_reducible apply Only.step modRst_only); on_goal 1 => decide)
    | ((with_reducible apply Only.step modThm_only); on_goal 1 => decide)
    | ((with_reducible apply Only.lit); intro p hp; cases p <;> first | exact absurd (by decide) hp | (have hq := (‹Only _ _ _›).same _ hp; exact hq) | exact rfl)

theorem resetDue_only {level : ResetLevel} {s : State} :
    Only [.tb, .t64Ofs, .dev, .dict, .rm, .fld, .chan, .tbs, .ee, .rj, .ts, .pt, .lce, .adc, .cam, .saf, .fe, .car, .eic, .log, .pci, .xi, .slk, .thm, .upd, .rst, .arb, .out, .busRead, .free, .pending] s (resetDue level s) := by
  unfold resetDue
  repeat' first
    | with_reducible exact Only.refl
    | with_reducible assumption
    | (extract_lets +onlyGivenNames x; have ht := x.busRead; clear ht; refine Only.cut (x := x) ?_ (fun hx => ?_); (on_goal 1 => subst x); (on_goal 2 => clear_value x))
    | extract_lets +onlyGivenNames x
    | ((with_reducible apply Only.foldl); on_goal 1 => intro x t ht)
    | split
    | ((with_reducible apply Only.step beginReset_only); on_goal 1 => decide)
    | ((with_reducible apply Only.step wakeReset_only); on_goal 1 => decide)
    | ((with_reducible apply Only.lit); intro p hp; cases p <;> first | exact absurd (by decide) hp | (have hq := (‹Only _ _ _›).same _ hp; exact hq) | exact rfl)

theorem resetRow_only {level : ResetLevel} {s : State} :
    Only [.tb, .t64Ofs, .dev, .dict, .rm, .fld, .chan, .tbs, .ee, .rj, .ts, .pt, .lce, .adc, .cam, .saf, .fe, .car, .eic, .log, .pci, .xi, .slk, .thm, .upd, .rst, .arb, .out, .busRead, .free, .pending] s (resetRow level s) := by
  unfold resetRow
  repeat' first
    | with_reducible exact Only.refl
    | with_reducible assumption
    | (extract_lets +onlyGivenNames x; have ht := x.busRead; clear ht; refine Only.cut (x := x) ?_ (fun hx => ?_); (on_goal 1 => subst x); (on_goal 2 => clear_value x))
    | extract_lets +onlyGivenNames x
    | ((with_reducible apply Only.foldl); on_goal 1 => intro x t ht)
    | split
    | ((with_reducible apply Only.step beginReset_only); on_goal 1 => decide)
    | ((with_reducible apply Only.step resetDue_only); on_goal 1 => decide)
    | ((with_reducible apply Only.lit); intro p hp; cases p <;> first | exact absurd (by decide) hp | (have hq := (‹Only _ _ _›).same _ hp; exact hq) | exact rfl)

theorem hostFinish_only {s : State} :
    Only [.eic, .pci, .slk, .out] s (hostFinish s) := by
  unfold hostFinish
  repeat' first
    | with_reducible exact Only.refl
    | with_reducible assumption
    | (extract_lets +onlyGivenNames x; have ht := x.busRead; clear ht; refine Only.cut (x := x) ?_ (fun hx => ?_); (on_goal 1 => subst x); (on_goal 2 => clear_value x))
    | extract_lets +onlyGivenNames x
    | ((with_reducible apply Only.foldl); on_goal 1 => intro x t ht)
    | split
    | ((with_reducible apply Only.step eicFinish_only); on_goal 1 => decide)
    | ((with_reducible apply Only.lit); intro p hp; cases p <;> first | exact absurd (by decide) hp | (have hq := (‹Only _ _ _›).same _ hp; exact hq) | exact rfl)

theorem releaseBalls_only {s : State} :
    Only [.out] s (releaseBalls s) := by
  unfold releaseBalls
  repeat' first
    | with_reducible exact Only.refl
    | with_reducible assumption
    | (extract_lets +onlyGivenNames x; have ht := x.busRead; clear ht; refine Only.cut (x := x) ?_ (fun hx => ?_); (on_goal 1 => subst x); (on_goal 2 => clear_value x))
    | extract_lets +onlyGivenNames x
    | ((with_reducible apply Only.foldl); on_goal 1 => intro x t ht)
    | split
    | ((with_reducible apply Only.step emit_only); on_goal 1 => decide)
    | ((with_reducible apply Only.lit); intro p hp; cases p <;> first | exact absurd (by decide) hp | (have hq := (‹Only _ _ _›).same _ hp; exact hq) | exact rfl)

theorem journalLog_only {s : State} :
    Only [.eic, .log, .pci, .xi, .slk, .out] s (journalLog s) := by
  unfold journalLog
  repeat' first
    | with_reducible exact Only.refl
    | with_reducible assumption
    | (extract_lets +onlyGivenNames x; have ht := x.busRead; clear ht; refine Only.cut (x := x) ?_ (fun hx => ?_); (on_goal 1 => subst x); (on_goal 2 => clear_value x))
    | extract_lets +onlyGivenNames x
    | ((with_reducible apply Only.foldl); on_goal 1 => intro x t ht)
    | split
    | ((with_reducible apply Only.step logNow_only); on_goal 1 => decide)
    | ((with_reducible apply Only.step modXi_only); on_goal 1 => decide)
    | ((with_reducible apply Only.lit); intro p hp; cases p <;> first | exact absurd (by decide) hp | (have hq := (‹Only _ _ _›).same _ hp; exact hq) | exact rfl)

theorem loadValues_only {l : List (Nat × DVal)} {s : State} :
    Only [.dict] s (loadValues l s) := by
  unfold loadValues
  repeat' first
    | with_reducible exact Only.refl
    | with_reducible assumption
    | (extract_lets +onlyGivenNames x; have ht := x.busRead; clear ht; refine Only.cut (x := x) ?_ (fun hx => ?_); (on_goal 1 => subst x); (on_goal 2 => clear_value x))
    | extract_lets +onlyGivenNames x
    | ((with_reducible apply Only.foldl); on_goal 1 => intro x t ht)
    | split
    | ((with_reducible apply Only.step setPar_only); on_goal 1 => decide)
    | ((with_reducible apply Only.lit); intro p hp; cases p <;> first | exact absurd (by decide) hp | (have hq := (‹Only _ _ _›).same _ hp; exact hq) | exact rfl)

theorem loadCalSets_only {l : List (Nat × DVal)} {s : State} :
    Only [.chan] s (loadCalSets l s) := by
  unfold loadCalSets
  repeat' first
    | with_reducible exact Only.refl
    | with_reducible assumption
    | (extract_lets +onlyGivenNames x; have ht := x.busRead; clear ht; refine Only.cut (x := x) ?_ (fun hx => ?_); (on_goal 1 => subst x); (on_goal 2 => clear_value x))
    | extract_lets +onlyGivenNames x
    | ((with_reducible apply Only.foldl); on_goal 1 => intro x t ht)
    | split
    | ((with_reducible apply Only.step modChan_only); on_goal 1 => decide)
    | ((with_reducible apply Only.lit); intro p hp; cases p <;> first | exact absurd (by decide) hp | (have hq := (‹Only _ _ _›).same _ hp; exact hq) | exact rfl)

theorem staleInit_only {s : State} :
    Only [.chan, .eic, .log, .pci, .slk, .out] s (staleInit s) := by
  unfold staleInit
  repeat' first
    | with_reducible exact Only.refl
    | with_reducible assumption
    | (extract_lets +onlyGivenNames x; have ht := x.busRead; clear ht; refine Only.cut (x := x) ?_ (fun hx => ?_); (on_goal 1 => subst x); (on_goal 2 => clear_value x))
    | extract_lets +onlyGivenNames x
    | ((with_reducible apply Only.foldl); on_goal 1 => intro x t ht)
    | split
    | ((with_reducible apply Only.step refreshStale_only); on_goal 1 => decide)
    | ((with_reducible apply Only.lit); intro p hp; cases p <;> first | exact absurd (by decide) hp | (have hq := (‹Only _ _ _›).same _ hp; exact hq) | exact rfl)

theorem enterRecovery_only {cause : Nat} {s : State} :
    Only [.dev, .rm, .fld, .adc, .car, .eic, .log, .pci, .xi, .slk, .upd, .rst, .out] s (enterRecovery cause s) := by
  unfold enterRecovery
  repeat' first
    | with_reducible exact Only.refl
    | with_reducible assumption
    | (extract_lets +onlyGivenNames x; have ht := x.busRead; clear ht; refine Only.cut (x := x) ?_ (fun hx => ?_); (on_goal 1 => subst x); (on_goal 2 => clear_value x))
    | extract_lets +onlyGivenNames x
    | ((with_reducible apply Only.foldl); on_goal 1 => intro x t ht)
    | split
    | ((with_reducible apply Only.step modUpd_only); on_goal 1 => decide)
    | ((with_reducible apply Only.step logNow_only); on_goal 1 => decide)
    | ((with_reducible apply Only.step setState_only); on_goal 1 => decide)
    | ((with_reducible apply Only.step modXi_only); on_goal 1 => decide)
    | ((with_reducible apply Only.lit); intro p hp; cases p <;> first | exact absurd (by decide) hp | (have hq := (‹Only _ _ _›).same _ hp; exact hq) | exact rfl)

theorem runImage_only {k : Nat} {s : State} :
    Only [.upd] s (runImage k s) := by
  unfold runImage
  repeat' first
    | with_reducible exact Only.refl
    | with_reducible assumption
    | (extract_lets +onlyGivenNames x; have ht := x.busRead; clear ht; refine Only.cut (x := x) ?_ (fun hx => ?_); (on_goal 1 => subst x); (on_goal 2 => clear_value x))
    | extract_lets +onlyGivenNames x
    | ((with_reducible apply Only.foldl); on_goal 1 => intro x t ht)
    | split
    | ((with_reducible apply Only.step modUpd_only); on_goal 1 => decide)
    | ((with_reducible apply Only.lit); intro p hp; cases p <;> first | exact absurd (by decide) hp | (have hq := (‹Only _ _ _›).same _ hp; exact hq) | exact rfl)

theorem revertFrom_only {k : Nat} {s : State} :
    Only [.dev, .rm, .fld, .adc, .car, .eic, .log, .pci, .xi, .slk, .upd, .rst, .out] s (revertFrom k s) := by
  unfold revertFrom
  repeat' first
    | with_reducible exact Only.refl
    | with_reducible assumption
    | (extract_lets +onlyGivenNames x; have ht := x.busRead; clear ht; refine Only.cut (x := x) ?_ (fun hx => ?_); (on_goal 1 => subst x); (on_goal 2 => clear_value x))
    | extract_lets +onlyGivenNames x
    | ((with_reducible apply Only.foldl); on_goal 1 => intro x t ht)
    | split
    | ((with_reducible apply Only.step runImage_only); on_goal 1 => decide)
    | ((with_reducible apply Only.step selWrite_only); on_goal 1 => decide)
    | ((with_reducible apply Only.step logNow_only); on_goal 1 => decide)
    | ((with_reducible apply Only.step enterRecovery_only); on_goal 1 => decide)
    | ((with_reducible apply Only.lit); intro p hp; cases p <;> first | exact absurd (by decide) hp | (have hq := (‹Only _ _ _›).same _ hp; exact hq) | exact rfl)

theorem bootImage_only {s : State} :
    Only [.dev, .rm, .fld, .adc, .car, .eic, .log, .pci, .xi, .slk, .upd, .rst, .out] s (bootImage s) := by
  unfold bootImage
  repeat' first
    | with_reducible exact Only.refl
    | with_reducible assumption
    | (extract_lets +onlyGivenNames x; have ht := x.busRead; clear ht; refine Only.cut (x := x) ?_ (fun hx => ?_); (on_goal 1 => subst x); (on_goal 2 => clear_value x))
    | extract_lets +onlyGivenNames x
    | ((with_reducible apply Only.foldl); on_goal 1 => intro x t ht)
    | split
    | ((with_reducible apply Only.step enterRecovery_only); on_goal 1 => decide)
    | ((with_reducible apply Only.step revertFrom_only); on_goal 1 => decide)
    | ((with_reducible apply Only.step runImage_only); on_goal 1 => decide)
    | ((with_reducible apply Only.step modUpd_only); on_goal 1 => decide)
    | ((with_reducible apply Only.step selWrite_only); on_goal 1 => decide)
    | ((with_reducible apply Only.lit); intro p hp; cases p <;> first | exact absurd (by decide) hp | (have hq := (‹Only _ _ _›).same _ hp; exact hq) | exact rfl)

theorem stagingBoot_only {s : State} {a : Nat × Nat} :
    Only [.eic, .log, .pci, .slk, .upd, .out] s (stagingBoot s a) := by
  unfold stagingBoot
  repeat' first
    | with_reducible exact Only.refl
    | with_reducible assumption
    | (extract_lets +onlyGivenNames x; have ht := x.busRead; clear ht; refine Only.cut (x := x) ?_ (fun hx => ?_); (on_goal 1 => subst x); (on_goal 2 => clear_value x))
    | extract_lets +onlyGivenNames x
    | ((with_reducible apply Only.foldl); on_goal 1 => intro x t ht)
    | split
    | ((with_reducible apply Only.step logNow_only); on_goal 1 => decide)
    | ((with_reducible apply Only.step modArea_only); on_goal 1 => decide)
    | ((with_reducible apply Only.step modUpd_only); on_goal 1 => decide)
    | ((with_reducible apply Only.lit); intro p hp; cases p <;> first | exact absurd (by decide) hp | (have hq := (‹Only _ _ _›).same _ hp; exact hq) | exact rfl)

theorem nodesStart_only {die : List (Fin 8 × Int)} {s : State} :
    Only [.thm, .free] s (nodesStart die s) := by
  unfold nodesStart
  repeat' first
    | with_reducible exact Only.refl
    | with_reducible assumption
    | (extract_lets +onlyGivenNames x; have ht := x.busRead; clear ht; refine Only.cut (x := x) ?_ (fun hx => ?_); (on_goal 1 => subst x); (on_goal 2 => clear_value x))
    | extract_lets +onlyGivenNames x
    | ((with_reducible apply Only.foldl); on_goal 1 => intro x t ht)
    | split
    | ((with_reducible apply Only.step freeBits_only); on_goal 1 => decide)
    | (refine Only.of_snd (by assumption) ?_; (with_reducible apply Only.step freeBits_only); on_goal 1 => decide)
    | ((with_reducible apply Only.step modThm_only); on_goal 1 => decide)
    | ((with_reducible apply Only.step modSens_only); on_goal 1 => decide)
    | ((with_reducible apply Only.lit); intro p hp; cases p <;> first | exact absurd (by decide) hp | (have hq := (‹Only _ _ _›).same _ hp; exact hq) | exact rfl)

theorem endReset_only {die : List (Fin 8 × Int)} {s : State} :
    Only [.t64Ofs, .dev, .rm, .fld, .chan, .tbs, .pt, .adc, .saf, .car, .eic, .log, .pci, .xi, .slk, .thm, .upd, .rst, .out, .free] s (endReset die s) := by
  unfold endReset
  repeat' first
    | with_reducible exact Only.refl
    | with_reducible assumption
    | (extract_lets +onlyGivenNames x; have ht := x.busRead; clear ht; refine Only.cut (x := x) ?_ (fun hx => ?_); (on_goal 1 => subst x); (on_goal 2 => clear_value x))
    | extract_lets +onlyGivenNames x
    | ((with_reducible apply Only.foldl); on_goal 1 => intro x t ht)
    | split
    | ((with_reducible apply Only.step modTbs_only); on_goal 1 => decide)
    | ((with_reducible apply Only.step modRec_only); on_goal 1 => decide)
    | ((with_reducible apply Only.step logNow_only); on_goal 1 => decide)
    | ((with_reducible apply Only.step modRst_only); on_goal 1 => decide)
    | ((with_reducible apply Only.step eicEdge_only); on_goal 1 => decide)
    | ((with_reducible apply Only.step raiseCounter_only); on_goal 1 => decide)
    | ((with_reducible apply Only.step modUpd_only); on_goal 1 => decide)
    | ((with_reducible apply Only.step nodesStart_only); on_goal 1 => decide)
    | ((with_reducible apply Only.step eyeGrid_only); on_goal 1 => decide)
    | ((with_reducible apply Only.step modRm_only); on_goal 1 => decide)
    | ((with_reducible apply Only.step staleInit_only); on_goal 1 => decide)
    | ((with_reducible apply Only.step loadCalSets_only); on_goal 1 => decide)
    | ((with_reducible apply Only.step windowChecks_only); on_goal 1 => decide)
    | ((with_reducible apply Only.step ditherLoad_only); on_goal 1 => decide)
    | ((with_reducible apply Only.step safeCause_only); on_goal 1 => decide)
    | ((with_reducible apply Only.step bootImage_only); on_goal 1 => decide)
    | ((with_reducible apply Only.step enterRecovery_only); on_goal 1 => decide)
    | ((with_reducible apply Only.step stagingBoot_only); on_goal 1 => decide)
    | ((with_reducible apply Only.lit); intro p hp; cases p <;> first | exact absurd (by decide) hp | (have hq := (‹Only _ _ _›).same _ hp; exact hq) | exact rfl)

theorem setFails_only {pins : BitVec 8} {s : State} :
    Only [.dev, .rm, .fld, .adc, .saf, .car, .eic, .log, .pci, .slk, .rst, .out] s (setFails pins s) := by
  unfold setFails
  repeat' first
    | with_reducible exact Only.refl
    | with_reducible assumption
    | (extract_lets +onlyGivenNames x; have ht := x.busRead; clear ht; refine Only.cut (x := x) ?_ (fun hx => ?_); (on_goal 1 => subst x); (on_goal 2 => clear_value x))
    | extract_lets +onlyGivenNames x
    | ((with_reducible apply Only.foldl); on_goal 1 => intro x t ht)
    | split
    | ((with_reducible apply Only.step safeCause_only); on_goal 1 => decide)
    | ((with_reducible apply Only.step logNow_only); on_goal 1 => decide)
    | ((with_reducible apply Only.lit); intro p hp; cases p <;> first | exact absurd (by decide) hp | (have hq := (‹Only _ _ _›).same _ hp; exact hq) | exact rfl)

theorem safecfgBoot_only {pins : BitVec 8} {v s : State} :
    Only [.dev, .dict, .rm, .fld, .adc, .saf, .car, .eic, .log, .pci, .slk, .rst, .out] s (safecfgBoot pins v s) := by
  unfold safecfgBoot
  repeat' first
    | with_reducible exact Only.refl
    | with_reducible assumption
    | (extract_lets +onlyGivenNames x; have ht := x.busRead; clear ht; refine Only.cut (x := x) ?_ (fun hx => ?_); (on_goal 1 => subst x); (on_goal 2 => clear_value x))
    | extract_lets +onlyGivenNames x
    | ((with_reducible apply Only.foldl); on_goal 1 => intro x t ht)
    | split
    | ((with_reducible apply Only.step modSaf_only); on_goal 1 => decide)
    | ((with_reducible apply Only.step setFails_only); on_goal 1 => decide)
    | ((with_reducible apply Only.step logNow_only); on_goal 1 => decide)
    | ((with_reducible apply Only.step loadValues_only); on_goal 1 => decide)
    | ((with_reducible apply Only.lit); intro p hp; cases p <;> first | exact absurd (by decide) hp | (have hq := (‹Only _ _ _›).same _ hp; exact hq) | exact rfl)

theorem katBoot_only {kat : BitVec 18} {s : State} :
    Only [.chan, .ee, .pt, .eic, .log, .pci, .slk, .out] s (katBoot kat s) := by
  unfold katBoot
  repeat' first
    | with_reducible exact Only.refl
    | with_reducible assumption
    | (extract_lets +onlyGivenNames x; have ht := x.busRead; clear ht; refine Only.cut (x := x) ?_ (fun hx => ?_); (on_goal 1 => subst x); (on_goal 2 => clear_value x))
    | extract_lets +onlyGivenNames x
    | ((with_reducible apply Only.foldl); on_goal 1 => intro x t ht)
    | split
    | ((with_reducible apply Only.step engineFails_only); on_goal 1 => decide)
    | ((with_reducible apply Only.step modEe_only); on_goal 1 => decide)
    | ((with_reducible apply Only.step modEng_only); on_goal 1 => decide)
    | ((with_reducible apply Only.step logDeclared_only); on_goal 1 => decide)
    | ((with_reducible apply Only.lit); intro p hp; cases p <;> first | exact absurd (by decide) hp | (have hq := (‹Only _ _ _›).same _ hp; exact hq) | exact rfl)

theorem recAllocate_only {q : List Nat} {k : Nat} {s : State} :
    Only [.car, .eic, .log, .pci, .slk, .out] s (recAllocate q k s) := by
  induction q generalizing k s with
  | nil =>
    unfold recAllocate
    repeat' first
      | with_reducible exact Only.refl
      | with_reducible assumption
      | (extract_lets +onlyGivenNames x; have ht := x.busRead; clear ht; refine Only.cut (x := x) ?_ (fun hx => ?_); (on_goal 1 => subst x); (on_goal 2 => clear_value x))
      | extract_lets +onlyGivenNames x
      | ((with_reducible apply Only.foldl); on_goal 1 => intro x t ht)
      | split
      | ((with_reducible apply Only.step modStr_only); on_goal 1 => decide)
      | ((with_reducible apply Only.step logNow_only); on_goal 1 => decide)
      | ((with_reducible apply Only.lit); intro p hp; cases p <;> first | exact absurd (by decide) hp | (have hq := (‹Only _ _ _›).same _ hp; exact hq) | exact rfl)
  | cons x q ih =>
    unfold recAllocate
    repeat' first
      | with_reducible exact Only.refl
      | with_reducible assumption
      | (extract_lets +onlyGivenNames x; have ht := x.busRead; clear ht; refine Only.cut (x := x) ?_ (fun hx => ?_); (on_goal 1 => subst x); (on_goal 2 => clear_value x))
      | extract_lets +onlyGivenNames x
      | ((with_reducible apply Only.foldl); on_goal 1 => intro x t ht)
      | split
      | ((with_reducible apply Only.step modStr_only); on_goal 1 => decide)
      | ((with_reducible apply Only.step logNow_only); on_goal 1 => decide)
      | ((with_reducible apply Only.step ih); on_goal 1 => decide)
      | ((with_reducible apply Only.lit); intro p hp; cases p <;> first | exact absurd (by decide) hp | (have hq := (‹Only _ _ _›).same _ hp; exact hq) | exact rfl)

theorem recBoot_only {cap : Nat} {s : State} :
    Only [.car, .eic, .log, .pci, .slk, .out] s (recBoot cap s) := by
  unfold recBoot
  repeat' first
    | with_reducible exact Only.refl
    | with_reducible assumption
    | (extract_lets +onlyGivenNames x; have ht := x.busRead; clear ht; refine Only.cut (x := x) ?_ (fun hx => ?_); (on_goal 1 => subst x); (on_goal 2 => clear_value x))
    | extract_lets +onlyGivenNames x
    | ((with_reducible apply Only.foldl); on_goal 1 => intro x t ht)
    | split
    | ((with_reducible apply Only.step modRec_only); on_goal 1 => decide)
    | ((with_reducible apply Only.step sealSeg_only); on_goal 1 => decide)
    | ((with_reducible apply Only.step modStr_only); on_goal 1 => decide)
    | ((with_reducible apply Only.step recAllocate_only); on_goal 1 => decide)
    | ((with_reducible apply Only.lit); intro p hp; cases p <;> first | exact absurd (by decide) hp | (have hq := (‹Only _ _ _›).same _ hp; exact hq) | exact rfl)

theorem vcoreBoot_only {s : State} :
    Only [.eic, .pci, .slk, .thm, .out] s (vcoreBoot s) := by
  unfold vcoreBoot
  repeat' first
    | with_reducible exact Only.refl
    | with_reducible assumption
    | (extract_lets +onlyGivenNames x; have ht := x.busRead; clear ht; refine Only.cut (x := x) ?_ (fun hx => ?_); (on_goal 1 => subst x); (on_goal 2 => clear_value x))
    | extract_lets +onlyGivenNames x
    | ((with_reducible apply Only.foldl); on_goal 1 => intro x t ht)
    | split
    | ((with_reducible apply Only.step eicEdge_only); on_goal 1 => decide)
    | ((with_reducible apply Only.step emit_only); on_goal 1 => decide)
    | ((with_reducible apply Only.step modThm_only); on_goal 1 => decide)
    | ((with_reducible apply Only.lit); intro p hp; cases p <;> first | exact absurd (by decide) hp | (have hq := (‹Only _ _ _›).same _ hp; exact hq) | exact rfl)

theorem configStart_only {late : List (Nat × DVal)} {s : State} :
    Only [.dict, .rm, .fld, .chan, .tbs, .pt, .lce, .adc, .saf, .fe, .car, .eic, .log, .pci, .xi, .slk, .out, .free] s (configStart late s) := by
  unfold configStart
  repeat' first
    | with_reducible exact Only.refl
    | with_reducible assumption
    | (extract_lets +onlyGivenNames x; have ht := x.busRead; clear ht; refine Only.cut (x := x) ?_ (fun hx => ?_); (on_goal 1 => subst x); (on_goal 2 => clear_value x))
    | extract_lets +onlyGivenNames x
    | ((with_reducible apply Only.foldl); on_goal 1 => intro x t ht)
    | split
    | ((with_reducible apply Only.step inhibit_only); on_goal 1 => decide)
    | ((with_reducible apply Only.step ditherLoad_only); on_goal 1 => decide)
    | ((with_reducible apply Only.step loadValues_only); on_goal 1 => decide)
    | ((with_reducible apply Only.step cfgSend_only); on_goal 1 => decide)
    | ((with_reducible apply Only.step modBank_only); on_goal 1 => decide)
    | ((with_reducible apply Only.step immApplied_only); on_goal 1 => decide)
    | ((with_reducible apply Only.step seqCommit_only); on_goal 1 => decide)
    | ((with_reducible apply Only.step modLch_only); on_goal 1 => decide)
    | ((with_reducible apply Only.step rearmFree_only); on_goal 1 => decide)
    | ((with_reducible apply Only.step followSpeed_only); on_goal 1 => decide)
    | ((with_reducible apply Only.step armFastOff_only); on_goal 1 => decide)
    | ((with_reducible apply Only.step pduRestart_only); on_goal 1 => decide)
    | ((with_reducible apply Only.step followSelection_only); on_goal 1 => decide)
    | ((with_reducible apply Only.step staleInit_only); on_goal 1 => decide)
    | ((with_reducible apply Only.step excApply_only); on_goal 1 => decide)
    | ((with_reducible apply Only.step loopsFollow_only); on_goal 1 => decide)
    | ((with_reducible apply Only.lit); intro p hp; cases p <;> first | exact absurd (by decide) hp | (have hq := (‹Only _ _ _›).same _ hp; exact hq) | exact rfl)

theorem fwdHeaders_only {n : Nat} {q : List (List Byte)} {s : State} :
    Only [.pt, .eic, .log, .pci, .slk, .out] s (fwdHeaders n q s) := by
  induction q generalizing s with
  | nil =>
    unfold fwdHeaders
    repeat' first
      | with_reducible exact Only.refl
      | with_reducible assumption
      | (extract_lets +onlyGivenNames x; have ht := x.busRead; clear ht; refine Only.cut (x := x) ?_ (fun hx => ?_); (on_goal 1 => subst x); (on_goal 2 => clear_value x))
      | extract_lets +onlyGivenNames x
      | ((with_reducible apply Only.foldl); on_goal 1 => intro x t ht)
      | split
      | ((with_reducible apply Only.step modLane_only); on_goal 1 => decide)
      | ((with_reducible apply Only.step ringItem_only); on_goal 1 => decide)
      | ((with_reducible apply Only.lit); intro p hp; cases p <;> first | exact absurd (by decide) hp | (have hq := (‹Only _ _ _›).same _ hp; exact hq) | exact rfl)
  | cons x q ih =>
    unfold fwdHeaders
    repeat' first
      | with_reducible exact Only.refl
      | with_reducible assumption
      | (extract_lets +onlyGivenNames x; have ht := x.busRead; clear ht; refine Only.cut (x := x) ?_ (fun hx => ?_); (on_goal 1 => subst x); (on_goal 2 => clear_value x))
      | extract_lets +onlyGivenNames x
      | ((with_reducible apply Only.foldl); on_goal 1 => intro x t ht)
      | split
      | ((with_reducible apply Only.step modLane_only); on_goal 1 => decide)
      | ((with_reducible apply Only.step ringItem_only); on_goal 1 => decide)
      | ((with_reducible apply Only.step ih); on_goal 1 => decide)
      | ((with_reducible apply Only.lit); intro p hp; cases p <;> first | exact absurd (by decide) hp | (have hq := (‹Only _ _ _›).same _ hp; exact hq) | exact rfl)

theorem fwdItems_only {n : Nat} {q : List (Bool × List Byte × Nat)} {s : State} :
    Only [.pt, .eic, .log, .pci, .slk, .out] s (fwdItems n q s) := by
  induction q generalizing s with
  | nil =>
    unfold fwdItems
    repeat' first
      | with_reducible exact Only.refl
      | with_reducible assumption
      | (extract_lets +onlyGivenNames x; have ht := x.busRead; clear ht; refine Only.cut (x := x) ?_ (fun hx => ?_); (on_goal 1 => subst x); (on_goal 2 => clear_value x))
      | extract_lets +onlyGivenNames x
      | ((with_reducible apply Only.foldl); on_goal 1 => intro x t ht)
      | split
      | ((with_reducible apply Only.step modLane_only); on_goal 1 => decide)
      | ((with_reducible apply Only.step fwdHeaders_only); on_goal 1 => decide)
      | ((with_reducible apply Only.step ringItem_only); on_goal 1 => decide)
      | ((with_reducible apply Only.lit); intro p hp; cases p <;> first | exact absurd (by decide) hp | (have hq := (‹Only _ _ _›).same _ hp; exact hq) | exact rfl)
  | cons x q ih =>
    unfold fwdItems
    repeat' first
      | with_reducible exact Only.refl
      | with_reducible assumption
      | (extract_lets +onlyGivenNames x; have ht := x.busRead; clear ht; refine Only.cut (x := x) ?_ (fun hx => ?_); (on_goal 1 => subst x); (on_goal 2 => clear_value x))
      | extract_lets +onlyGivenNames x
      | ((with_reducible apply Only.foldl); on_goal 1 => intro x t ht)
      | split
      | ((with_reducible apply Only.step modLane_only); on_goal 1 => decide)
      | ((with_reducible apply Only.step fwdHeaders_only); on_goal 1 => decide)
      | ((with_reducible apply Only.step ringItem_only); on_goal 1 => decide)
      | ((with_reducible apply Only.step ih); on_goal 1 => decide)
      | ((with_reducible apply Only.lit); intro p hp; cases p <;> first | exact absurd (by decide) hp | (have hq := (‹Only _ _ _›).same _ hp; exact hq) | exact rfl)

theorem fwdDrain_only {n : Nat} {s : State} :
    Only [.pt, .eic, .log, .pci, .slk, .out] s (fwdDrain n s) := by
  unfold fwdDrain
  repeat' first
    | with_reducible exact Only.refl
    | with_reducible assumption
    | (extract_lets +onlyGivenNames x; have ht := x.busRead; clear ht; refine Only.cut (x := x) ?_ (fun hx => ?_); (on_goal 1 => subst x); (on_goal 2 => clear_value x))
    | extract_lets +onlyGivenNames x
    | ((with_reducible apply Only.foldl); on_goal 1 => intro x t ht)
    | split
    | ((with_reducible apply Only.step fwdHeaders_only); on_goal 1 => decide)
    | ((with_reducible apply Only.step fwdItems_only); on_goal 1 => decide)
    | ((with_reducible apply Only.lit); intro p hp; cases p <;> first | exact absurd (by decide) hp | (have hq := (‹Only _ _ _›).same _ hp; exact hq) | exact rfl)

theorem fwdUnwritten_only {n : Nat} {s : State} :
    Only [.pci, .slk] s (fwdUnwritten n s) := by
  unfold fwdUnwritten
  repeat' first
    | with_reducible exact Only.refl
    | with_reducible assumption
    | (extract_lets +onlyGivenNames x; have ht := x.busRead; clear ht; refine Only.cut (x := x) ?_ (fun hx => ?_); (on_goal 1 => subst x); (on_goal 2 => clear_value x))
    | extract_lets +onlyGivenNames x
    | ((with_reducible apply Only.foldl); on_goal 1 => intro x t ht)
    | split
    | ((with_reducible apply Only.step modLane_only); on_goal 1 => decide)
    | ((with_reducible apply Only.step modRing_only); on_goal 1 => decide)
    | ((with_reducible apply Only.lit); intro p hp; cases p <;> first | exact absurd (by decide) hp | (have hq := (‹Only _ _ _›).same _ hp; exact hq) | exact rfl)

theorem fwdExpiry_only {n : Nat} {s : State} :
    Only [.pt, .eic, .log, .pci, .slk, .out] s (fwdExpiry n s) := by
  unfold fwdExpiry
  repeat' first
    | with_reducible exact Only.refl
    | with_reducible assumption
    | (extract_lets +onlyGivenNames x; have ht := x.busRead; clear ht; refine Only.cut (x := x) ?_ (fun hx => ?_); (on_goal 1 => subst x); (on_goal 2 => clear_value x))
    | extract_lets +onlyGivenNames x
    | ((with_reducible apply Only.foldl); on_goal 1 => intro x t ht)
    | split
    | ((with_reducible apply Only.step fwdUnwritten_only); on_goal 1 => decide)
    | ((with_reducible apply Only.step fwdDrain_only); on_goal 1 => decide)
    | ((with_reducible apply Only.step modLane_only); on_goal 1 => decide)
    | ((with_reducible apply Only.lit); intro p hp; cases p <;> first | exact absurd (by decide) hp | (have hq := (‹Only _ _ _›).same _ hp; exact hq) | exact rfl)

theorem fwdTake_only {n : Nat} {hdr : Bool} {d : List Byte} {s : State} :
    Only [.pt, .eic, .log, .pci, .slk, .out] s (fwdTake n hdr d s) := by
  unfold fwdTake
  repeat' first
    | with_reducible exact Only.refl
    | with_reducible assumption
    | (extract_lets +onlyGivenNames x; have ht := x.busRead; clear ht; refine Only.cut (x := x) ?_ (fun hx => ?_); (on_goal 1 => subst x); (on_goal 2 => clear_value x))
    | extract_lets +onlyGivenNames x
    | ((with_reducible apply Only.foldl); on_goal 1 => intro x t ht)
    | split
    | ((with_reducible apply Only.step fwdDrain_only); on_goal 1 => decide)
    | ((with_reducible apply Only.step modLane_only); on_goal 1 => decide)
    | ((with_reducible apply Only.lit); intro p hp; cases p <;> first | exact absurd (by decide) hp | (have hq := (‹Only _ _ _›).same _ hp; exact hq) | exact rfl)

theorem formResult_only {r : ResE} {s : State} :
    Only [.pt, .car] s (formResult r s) := by
  unfold formResult
  repeat' first
    | with_reducible exact Only.refl
    | with_reducible assumption
    | (extract_lets +onlyGivenNames x; have ht := x.busRead; clear ht; refine Only.cut (x := x) ?_ (fun hx => ?_); (on_goal 1 => subst x); (on_goal 2 => clear_value x))
    | extract_lets +onlyGivenNames x
    | ((with_reducible apply Only.foldl); on_goal 1 => intro x t ht)
    | split
    | ((with_reducible apply Only.step modPt_only); on_goal 1 => decide)
    | ((with_reducible apply Only.step recItemT_only); on_goal 1 => decide)
    | ((with_reducible apply Only.step dropRecords_only); on_goal 1 => decide)
    | ((with_reducible apply Only.lit); intro p hp; cases p <;> first | exact absurd (by decide) hp | (have hq := (‹Only _ _ _›).same _ hp; exact hq) | exact rfl)

theorem forward_only {ty n : Nat} {data : List Byte} {s : State} :
    Only [.slk, .out] s (forward ty n data s) := by
  unfold forward
  repeat' first
    | with_reducible exact Only.refl
    | with_reducible assumption
    | (extract_lets +onlyGivenNames x; have ht := x.busRead; clear ht; refine Only.cut (x := x) ?_ (fun hx => ?_); (on_goal 1 => subst x); (on_goal 2 => clear_value x))
    | extract_lets +onlyGivenNames x
    | ((with_reducible apply Only.foldl); on_goal 1 => intro x t ht)
    | split
    | ((with_reducible apply Only.step slkQueue_only); on_goal 1 => decide)
    | ((with_reducible apply Only.lit); intro p hp; cases p <;> first | exact absurd (by decide) hp | (have hq := (‹Only _ _ _›).same _ hp; exact hq) | exact rfl)

theorem recordOut_only {r : Rec} {closeAt : Nat} {more : Bool} {s : State} :
    Only [.pt, .eic, .log, .pci, .slk, .out] s (recordOut r closeAt more s) := by
  unfold recordOut
  repeat' first
    | with_reducible exact Only.refl
    | with_reducible assumption
    | (extract_lets +onlyGivenNames x; have ht := x.busRead; clear ht; refine Only.cut (x := x) ?_ (fun hx => ?_); (on_goal 1 => subst x); (on_goal 2 => clear_value x))
    | extract_lets +onlyGivenNames x
    | ((with_reducible apply Only.foldl); on_goal 1 => intro x t ht)
    | split
    | ((with_reducible apply Only.step ringItemOf_only); on_goal 1 => decide)
    | ((with_reducible apply Only.step modPt_only); on_goal 1 => decide)
    | ((with_reducible apply Only.lit); intro p hp; cases p <;> first | exact absurd (by decide) hp | (have hq := (‹Only _ _ _›).same _ hp; exact hq) | exact rfl)

theorem burstFlush_only {s : State} :
    Only [.pt, .eic, .pci, .slk, .out] s (burstFlush s) := by
  unfold burstFlush
  repeat' first
    | with_reducible exact Only.refl
    | with_reducible assumption
    | (extract_lets +onlyGivenNames x; have ht := x.busRead; clear ht; refine Only.cut (x := x) ?_ (fun hx => ?_); (on_goal 1 => subst x); (on_goal 2 => clear_value x))
    | extract_lets +onlyGivenNames x
    | ((with_reducible apply Only.foldl); on_goal 1 => intro x t ht)
    | split
    | ((with_reducible apply Only.step ringFlush_only); on_goal 1 => decide)
    | ((with_reducible apply Only.lit); intro p hp; cases p <;> first | exact absurd (by decide) hp | (have hq := (‹Only _ _ _›).same _ hp; exact hq) | exact rfl)

theorem heldOut_only {k : Nat} {q : List (Rec × Nat)} {s : State} :
    Only [.pt, .eic, .log, .pci, .slk, .out] s (heldOut k q s) := by
  induction q generalizing k s with
  | nil =>
    unfold heldOut
    repeat' first
      | with_reducible exact Only.refl
      | with_reducible assumption
      | (extract_lets +onlyGivenNames x; have ht := x.busRead; clear ht; refine Only.cut (x := x) ?_ (fun hx => ?_); (on_goal 1 => subst x); (on_goal 2 => clear_value x))
      | extract_lets +onlyGivenNames x
      | ((with_reducible apply Only.foldl); on_goal 1 => intro x t ht)
      | split
      | ((with_reducible apply Only.step burstFlush_only); on_goal 1 => decide)
      | ((with_reducible apply Only.step modPt_only); on_goal 1 => decide)
      | ((with_reducible apply Only.step heldSince_only); on_goal 1 => decide)
      | ((with_reducible apply Only.step recordOut_only); on_goal 1 => decide)
      | ((with_reducible apply Only.lit); intro p hp; cases p <;> first | exact absurd (by decide) hp | (have hq := (‹Only _ _ _›).same _ hp; exact hq) | exact rfl)
  | cons x q ih =>
    unfold heldOut
    repeat' first
      | with_reducible exact Only.refl
      | with_reducible assumption
      | (extract_lets +onlyGivenNames x; have ht := x.busRead; clear ht; refine Only.cut (x := x) ?_ (fun hx => ?_); (on_goal 1 => subst x); (on_goal 2 => clear_value x))
      | extract_lets +onlyGivenNames x
      | ((with_reducible apply Only.foldl); on_goal 1 => intro x t ht)
      | split
      | ((with_reducible apply Only.step burstFlush_only); on_goal 1 => decide)
      | ((with_reducible apply Only.step modPt_only); on_goal 1 => decide)
      | ((with_reducible apply Only.step heldSince_only); on_goal 1 => decide)
      | ((with_reducible apply Only.step recordOut_only); on_goal 1 => decide)
      | ((with_reducible apply Only.step ih); on_goal 1 => decide)
      | ((with_reducible apply Only.lit); intro p hp; cases p <;> first | exact absurd (by decide) hp | (have hq := (‹Only _ _ _›).same _ hp; exact hq) | exact rfl)

theorem burstOut_only {q : List (Rec × Nat × Nat × Nat)} {s : State} :
    Only [.pt, .eic, .log, .pci, .slk, .out] s (burstOut q s) := by
  induction q generalizing s with
  | nil =>
    unfold burstOut
    repeat' first
      | with_reducible exact Only.refl
      | with_reducible assumption
      | (extract_lets +onlyGivenNames x; have ht := x.busRead; clear ht; refine Only.cut (x := x) ?_ (fun hx => ?_); (on_goal 1 => subst x); (on_goal 2 => clear_value x))
      | extract_lets +onlyGivenNames x
      | ((with_reducible apply Only.foldl); on_goal 1 => intro x t ht)
      | split
      | ((with_reducible apply Only.step burstFlush_only); on_goal 1 => decide)
      | ((with_reducible apply Only.step recordOut_only); on_goal 1 => decide)
      | ((with_reducible apply Only.step modPt_only); on_goal 1 => decide)
      | ((with_reducible apply Only.lit); intro p hp; cases p <;> first | exact absurd (by decide) hp | (have hq := (‹Only _ _ _›).same _ hp; exact hq) | exact rfl)
  | cons x q ih =>
    unfold burstOut
    repeat' first
      | with_reducible exact Only.refl
      | with_reducible assumption
      | (extract_lets +onlyGivenNames x; have ht := x.busRead; clear ht; refine Only.cut (x := x) ?_ (fun hx => ?_); (on_goal 1 => subst x); (on_goal 2 => clear_value x))
      | extract_lets +onlyGivenNames x
      | ((with_reducible apply Only.foldl); on_goal 1 => intro x t ht)
      | split
      | ((with_reducible apply Only.step burstFlush_only); on_goal 1 => decide)
      | ((with_reducible apply Only.step recordOut_only); on_goal 1 => decide)
      | ((with_reducible apply Only.step modPt_only); on_goal 1 => decide)
      | ((with_reducible apply Only.step ih); on_goal 1 => decide)
      | ((with_reducible apply Only.lit); intro p hp; cases p <;> first | exact absurd (by decide) hp | (have hq := (‹Only _ _ _›).same _ hp; exact hq) | exact rfl)

theorem burstGo_only {b : List (Rec × Nat × Nat × Nat)} {s : State} :
    Only [.pt, .eic, .log, .pci, .slk, .out] s (burstGo b s) := by
  unfold burstGo
  repeat' first
    | with_reducible exact Only.refl
    | with_reducible assumption
    | (extract_lets +onlyGivenNames x; have ht := x.busRead; clear ht; refine Only.cut (x := x) ?_ (fun hx => ?_); (on_goal 1 => subst x); (on_goal 2 => clear_value x))
    | extract_lets +onlyGivenNames x
    | ((with_reducible apply Only.foldl); on_goal 1 => intro x t ht)
    | split
    | ((with_reducible apply Only.step burstOut_only); on_goal 1 => decide)
    | ((with_reducible apply Only.step modPt_only); on_goal 1 => decide)
    | ((with_reducible apply Only.step forward_only); on_goal 1 => decide)
    | ((with_reducible apply Only.lit); intro p hp; cases p <;> first | exact absurd (by decide) hp | (have hq := (‹Only _ _ _›).same _ hp; exact hq) | exact rfl)

theorem waitExpiry_only {s : State} {n : Nat} :
    Only [.pci] s (waitExpiry s n) := by
  unfold waitExpiry
  repeat' first
    | with_reducible exact Only.refl
    | with_reducible assumption
    | (extract_lets +onlyGivenNames x; have ht := x.busRead; clear ht; refine Only.cut (x := x) ?_ (fun hx => ?_); (on_goal 1 => subst x); (on_goal 2 => clear_value x))
    | extract_lets +onlyGivenNames x
    | ((with_reducible apply Only.foldl); on_goal 1 => intro x t ht)
    | split
    | ((with_reducible apply Only.step modRing_only); on_goal 1 => decide)
    | ((with_reducible apply Only.lit); intro p hp; cases p <;> first | exact absurd (by decide) hp | (have hq := (‹Only _ _ _›).same _ hp; exact hq) | exact rfl)

theorem waitingOut_only {s : State} :
    Only [.pt, .pci] s (waitingOut s) := by
  unfold waitingOut
  repeat' first
    | with_reducible exact Only.refl
    | with_reducible assumption
    | (extract_lets +onlyGivenNames x; have ht := x.busRead; clear ht; refine Only.cut (x := x) ?_ (fun hx => ?_); (on_goal 1 => subst x); (on_goal 2 => clear_value x))
    | extract_lets +onlyGivenNames x
    | ((with_reducible apply Only.foldl); on_goal 1 => intro x t ht)
    | split
    | ((with_reducible apply Only.step unwritten_only); on_goal 1 => decide)
    | ((with_reducible apply Only.step modRing_only); on_goal 1 => decide)
    | ((with_reducible apply Only.lit); intro p hp; cases p <;> first | exact absurd (by decide) hp | (have hq := (‹Only _ _ _›).same _ hp; exact hq) | exact rfl)

theorem lateExpiry_only {s : State} :
    Only [.pt] s (lateExpiry s) := by
  unfold lateExpiry
  repeat' first
    | with_reducible exact Only.refl
    | with_reducible assumption
    | (extract_lets +onlyGivenNames x; have ht := x.busRead; clear ht; refine Only.cut (x := x) ?_ (fun hx => ?_); (on_goal 1 => subst x); (on_goal 2 => clear_value x))
    | extract_lets +onlyGivenNames x
    | ((with_reducible apply Only.foldl); on_goal 1 => intro x t ht)
    | split
    | ((with_reducible apply Only.step heldSince_only); on_goal 1 => decide)
    | ((with_reducible apply Only.step modPt_only); on_goal 1 => decide)
    | ((with_reducible apply Only.lit); intro p hp; cases p <;> first | exact absurd (by decide) hp | (have hq := (‹Only _ _ _›).same _ hp; exact hq) | exact rfl)

theorem headersOut_only {q : List (List (BitVec 32))} {s : State} :
    Only [.pt, .eic, .log, .pci, .slk, .out] s (headersOut q s) := by
  induction q generalizing s with
  | nil =>
    unfold headersOut
    repeat' first
      | with_reducible exact Only.refl
      | with_reducible assumption
      | (extract_lets +onlyGivenNames x; have ht := x.busRead; clear ht; refine Only.cut (x := x) ?_ (fun hx => ?_); (on_goal 1 => subst x); (on_goal 2 => clear_value x))
      | extract_lets +onlyGivenNames x
      | ((with_reducible apply Only.foldl); on_goal 1 => intro x t ht)
      | split
      | ((with_reducible apply Only.step modPt_only); on_goal 1 => decide)
      | ((with_reducible apply Only.step ringItemOf_only); on_goal 1 => decide)
      | ((with_reducible apply Only.lit); intro p hp; cases p <;> first | exact absurd (by decide) hp | (have hq := (‹Only _ _ _›).same _ hp; exact hq) | exact rfl)
  | cons x q ih =>
    unfold headersOut
    repeat' first
      | with_reducible exact Only.refl
      | with_reducible assumption
      | (extract_lets +onlyGivenNames x; have ht := x.busRead; clear ht; refine Only.cut (x := x) ?_ (fun hx => ?_); (on_goal 1 => subst x); (on_goal 2 => clear_value x))
      | extract_lets +onlyGivenNames x
      | ((with_reducible apply Only.foldl); on_goal 1 => intro x t ht)
      | split
      | ((with_reducible apply Only.step modPt_only); on_goal 1 => decide)
      | ((with_reducible apply Only.step ringItemOf_only); on_goal 1 => decide)
      | ((with_reducible apply Only.step ih); on_goal 1 => decide)
      | ((with_reducible apply Only.lit); intro p hp; cases p <;> first | exact absurd (by decide) hp | (have hq := (‹Only _ _ _›).same _ hp; exact hq) | exact rfl)

theorem headerGo_only {s : State} :
    Only [.pt, .car, .eic, .log, .pci, .slk, .out] s (headerGo s) := by
  unfold headerGo
  repeat' first
    | with_reducible exact Only.refl
    | with_reducible assumption
    | (extract_lets +onlyGivenNames x; have ht := x.busRead; clear ht; refine Only.cut (x := x) ?_ (fun hx => ?_); (on_goal 1 => subst x); (on_goal 2 => clear_value x))
    | extract_lets +onlyGivenNames x
    | ((with_reducible apply Only.foldl); on_goal 1 => intro x t ht)
    | split
    | ((with_reducible apply Only.step modPt_only); on_goal 1 => decide)
    | ((with_reducible apply Only.step recItem_only); on_goal 1 => decide)
    | ((with_reducible apply Only.step forward_only); on_goal 1 => decide)
    | ((with_reducible apply Only.step headersOut_only); on_goal 1 => decide)
    | ((with_reducible apply Only.lit); intro p hp; cases p <;> first | exact absurd (by decide) hp | (have hq := (‹Only _ _ _›).same _ hp; exact hq) | exact rfl)

theorem flushFrame_only {s : State} :
    Only [.pt, .car, .eic, .log, .pci, .slk, .out] s (flushFrame s) := by
  unfold flushFrame
  repeat' first
    | with_reducible exact Only.refl
    | with_reducible assumption
    | (extract_lets +onlyGivenNames x; have ht := x.busRead; clear ht; refine Only.cut (x := x) ?_ (fun hx => ?_); (on_goal 1 => subst x); (on_goal 2 => clear_value x))
    | extract_lets +onlyGivenNames x
    | ((with_reducible apply Only.foldl); on_goal 1 => intro x t ht)
    | split
    | ((with_reducible apply Only.step formResult_only); on_goal 1 => decide)
    | ((with_reducible apply Only.step burstGo_only); on_goal 1 => decide)
    | ((with_reducible apply Only.step headerGo_only); on_goal 1 => decide)
    | ((with_reducible apply Only.lit); intro p hp; cases p <;> first | exact absurd (by decide) hp | (have hq := (‹Only _ _ _›).same _ hp; exact hq) | exact rfl)

theorem flushPoints_only {s : State} :
    Only [.tb, .rm, .fld, .chan, .ee, .rj, .ts, .pt, .lce, .fe, .car, .eic, .log, .pci, .slk, .out] s (flushPoints s) := by
  unfold flushPoints
  repeat' first
    | with_reducible exact Only.refl
    | with_reducible assumption
    | (extract_lets +onlyGivenNames x; have ht := x.busRead; clear ht; refine Only.cut (x := x) ?_ (fun hx => ?_); (on_goal 1 => subst x); (on_goal 2 => clear_value x))
    | extract_lets +onlyGivenNames x
    | ((with_reducible apply Only.foldl); on_goal 1 => intro x t ht)
    | split
    | ((with_reducible apply Only.step stopPhases_only); on_goal 1 => decide)
    | ((with_reducible apply Only.step flushFrame_only); on_goal 1 => decide)
    | ((with_reducible apply Only.lit); intro p hp; cases p <;> first | exact absurd (by decide) hp | (have hq := (‹Only _ _ _›).same _ hp; exact hq) | exact rfl)

theorem modCam_only {f : CamS → CamS} {s : State} :
    Only [.cam] s (modCam f s) := by
  unfold modCam
  repeat' first
    | with_reducible exact Only.refl
    | with_reducible assumption
    | (extract_lets +onlyGivenNames x; have ht := x.busRead; clear ht; refine Only.cut (x := x) ?_ (fun hx => ?_); (on_goal 1 => subst x); (on_goal 2 => clear_value x))
    | extract_lets +onlyGivenNames x
    | ((with_reducible apply Only.foldl); on_goal 1 => intro x t ht)
    | split
    | ((with_reducible apply Only.lit); intro p hp; cases p <;> first | exact absurd (by decide) hp | (have hq := (‹Only _ _ _›).same _ hp; exact hq) | exact rfl)

theorem modCtx_only {c : Nat} {f : CtxS → CtxS} {s : State} :
    Only [.cam] s (modCtx c f s) := by
  unfold modCtx
  repeat' first
    | with_reducible exact Only.refl
    | with_reducible assumption
    | (extract_lets +onlyGivenNames x; have ht := x.busRead; clear ht; refine Only.cut (x := x) ?_ (fun hx => ?_); (on_goal 1 => subst x); (on_goal 2 => clear_value x))
    | extract_lets +onlyGivenNames x
    | ((with_reducible apply Only.foldl); on_goal 1 => intro x t ht)
    | split
    | ((with_reducible apply Only.step modCam_only); on_goal 1 => decide)
    | ((with_reducible apply Only.lit); intro p hp; cases p <;> first | exact absurd (by decide) hp | (have hq := (‹Only _ _ _›).same _ hp; exact hq) | exact rfl)

theorem applyCtx_only {c : Nat} {s : State} :
    Only [.dict, .car] s (applyCtx c s) := by
  unfold applyCtx
  repeat' first
    | with_reducible exact Only.refl
    | with_reducible assumption
    | (extract_lets +onlyGivenNames x; have ht := x.busRead; clear ht; refine Only.cut (x := x) ?_ (fun hx => ?_); (on_goal 1 => subst x); (on_goal 2 => clear_value x))
    | extract_lets +onlyGivenNames x
    | ((with_reducible apply Only.foldl); on_goal 1 => intro x t ht)
    | split
    | ((with_reducible apply Only.step takeHeld_only); on_goal 1 => decide)
    | ((with_reducible apply Only.lit); intro p hp; cases p <;> first | exact absurd (by decide) hp | (have hq := (‹Only _ _ _›).same _ hp; exact hq) | exact rfl)

theorem portSeen_only {port : Nat} {hdr : PktHdr} {s : State} :
    Only [.cam] s (portSeen port hdr s) := by
  unfold portSeen
  repeat' first
    | with_reducible exact Only.refl
    | with_reducible assumption
    | (extract_lets +onlyGivenNames x; have ht := x.busRead; clear ht; refine Only.cut (x := x) ?_ (fun hx => ?_); (on_goal 1 => subst x); (on_goal 2 => clear_value x))
    | extract_lets +onlyGivenNames x
    | ((with_reducible apply Only.foldl); on_goal 1 => intro x t ht)
    | split
    | ((with_reducible apply Only.step modCam_only); on_goal 1 => decide)
    | ((with_reducible apply Only.lit); intro p hp; cases p <;> first | exact absurd (by decide) hp | (have hq := (‹Only _ _ _›).same _ hp; exact hq) | exact rfl)

theorem mapSwap_only {c : Nat} {f : CamF} {s : State} :
    Only [.cam] s (mapSwap c f s) := by
  unfold mapSwap
  repeat' first
    | with_reducible exact Only.refl
    | with_reducible assumption
    | (extract_lets +onlyGivenNames x; have ht := x.busRead; clear ht; refine Only.cut (x := x) ?_ (fun hx => ?_); (on_goal 1 => subst x); (on_goal 2 => clear_value x))
    | extract_lets +onlyGivenNames x
    | ((with_reducible apply Only.foldl); on_goal 1 => intro x t ht)
    | split
    | ((with_reducible apply Only.step modCtx_only); on_goal 1 => decide)
    | ((with_reducible apply Only.lit); intro p hp; cases p <;> first | exact absurd (by decide) hp | (have hq := (‹Only _ _ _›).same _ hp; exact hq) | exact rfl)

theorem frameClosure_only {c : Nat} {end_ : Bool} {s : State} :
    Only [.cam] s (frameClosure c end_ s) := by
  unfold frameClosure
  repeat' first
    | with_reducible exact Only.refl
    | with_reducible assumption
    | (extract_lets +onlyGivenNames x; have ht := x.busRead; clear ht; refine Only.cut (x := x) ?_ (fun hx => ?_); (on_goal 1 => subst x); (on_goal 2 => clear_value x))
    | extract_lets +onlyGivenNames x
    | ((with_reducible apply Only.foldl); on_goal 1 => intro x t ht)
    | split
    | ((with_reducible apply Only.step modCam_only); on_goal 1 => decide)
    | ((with_reducible apply Only.step modCtx_only); on_goal 1 => decide)
    | ((with_reducible apply Only.step mapSwap_only); on_goal 1 => decide)
    | ((with_reducible apply Only.lit); intro p hp; cases p <;> first | exact absurd (by decide) hp | (have hq := (‹Only _ _ _›).same _ hp; exact hq) | exact rfl)

theorem openFrame_only {c : Nat} {s : State} :
    Only [.dict, .cam, .car] s (openFrame c s) := by
  unfold openFrame
  repeat' first
    | with_reducible exact Only.refl
    | with_reducible assumption
    | (extract_lets +onlyGivenNames x; have ht := x.busRead; clear ht; refine Only.cut (x := x) ?_ (fun hx => ?_); (on_goal 1 => subst x); (on_goal 2 => clear_value x))
    | extract_lets +onlyGivenNames x
    | ((with_reducible apply Only.foldl); on_goal 1 => intro x t ht)
    | split
    | ((with_reducible apply Only.step frameClosure_only); on_goal 1 => decide)
    | ((with_reducible apply Only.step applyCtx_only); on_goal 1 => decide)
    | ((with_reducible apply Only.step modCtx_only); on_goal 1 => decide)
    | ((with_reducible apply Only.step modCam_only); on_goal 1 => decide)
    | ((with_reducible apply Only.lit); intro p hp; cases p <;> first | exact absurd (by decide) hp | (have hq := (‹Only _ _ _›).same _ hp; exact hq) | exact rfl)

theorem imageOut_only {c : Nat} {f : CamF} {s : State} :
    Only [.pt, .cam, .car, .eic, .log, .pci, .slk, .out] s (imageOut c f s) := by
  unfold imageOut
  repeat' first
    | with_reducible exact Only.refl
    | with_reducible assumption
    | (extract_lets +onlyGivenNames x; have ht := x.busRead; clear ht; refine Only.cut (x := x) ?_ (fun hx => ?_); (on_goal 1 => subst x); (on_goal 2 => clear_value x))
    | extract_lets +onlyGivenNames x
    | ((with_reducible apply Only.foldl); on_goal 1 => intro x t ht)
    | split
    | ((with_reducible apply Only.step recItem_only); on_goal 1 => decide)
    | ((with_reducible apply Only.step modCtx_only); on_goal 1 => decide)
    | ((with_reducible apply Only.step ringItem_only); on_goal 1 => decide)
    | ((with_reducible apply Only.lit); intro p hp; cases p <;> first | exact absurd (by decide) hp | (have hq := (‹Only _ _ _›).same _ hp; exact hq) | exact rfl)

theorem camContam_only {c : Nat} {many : Bool} {s : State} :
    Only [.cam, .eic, .log, .pci, .slk, .out] s (camContam c many s) := by
  unfold camContam
  repeat' first
    | with_reducible exact Only.refl
    | with_reducible assumption
    | (extract_lets +onlyGivenNames x; have ht := x.busRead; clear ht; refine Only.cut (x := x) ?_ (fun hx => ?_); (on_goal 1 => subst x); (on_goal 2 => clear_value x))
    | extract_lets +onlyGivenNames x
    | ((with_reducible apply Only.foldl); on_goal 1 => intro x t ht)
    | split
    | ((with_reducible apply Only.step modCtx_only); on_goal 1 => decide)
    | ((with_reducible apply Only.step logNow_only); on_goal 1 => decide)
    | ((with_reducible apply Only.step modCam_only); on_goal 1 => decide)
    | ((with_reducible apply Only.lit); intro p hp; cases p <;> first | exact absurd (by decide) hp | (have hq := (‹Only _ _ _›).same _ hp; exact hq) | exact rfl)

theorem statsOut_only {c : Nat} {f : CamF} {s : State} :
    Only [.pt, .cam, .eic, .log, .pci, .slk, .out] s (statsOut c f s) := by
  unfold statsOut
  repeat' first
    | with_reducible exact Only.refl
    | with_reducible assumption
    | (extract_lets +onlyGivenNames x; have ht := x.busRead; clear ht; refine Only.cut (x := x) ?_ (fun hx => ?_); (on_goal 1 => subst x); (on_goal 2 => clear_value x))
    | extract_lets +onlyGivenNames x
    | ((with_reducible apply Only.foldl); on_goal 1 => intro x t ht)
    | split
    | ((with_reducible apply Only.step modCtx_only); on_goal 1 => decide)
    | ((with_reducible apply Only.step camContam_only); on_goal 1 => decide)
    | ((with_reducible apply Only.step ringSend_only); on_goal 1 => decide)
    | ((with_reducible apply Only.lit); intro p hp; cases p <;> first | exact absurd (by decide) hp | (have hq := (‹Only _ _ _›).same _ hp; exact hq) | exact rfl)

theorem pipeNext_only {p : Nat} {s : State} :
    Only [.cam] s (pipeNext p s) := by
  unfold pipeNext
  repeat' first
    | with_reducible exact Only.refl
    | with_reducible assumption
    | (extract_lets +onlyGivenNames x; have ht := x.busRead; clear ht; refine Only.cut (x := x) ?_ (fun hx => ?_); (on_goal 1 => subst x); (on_goal 2 => clear_value x))
    | extract_lets +onlyGivenNames x
    | ((with_reducible apply Only.foldl); on_goal 1 => intro x t ht)
    | split
    | ((with_reducible apply Only.step modCam_only); on_goal 1 => decide)
    | ((with_reducible apply Only.step mapSwap_only); on_goal 1 => decide)
    | ((with_reducible apply Only.step modCtx_only); on_goal 1 => decide)
    | ((with_reducible apply Only.lit); intro p hp; cases p <;> first | exact absurd (by decide) hp | (have hq := (‹Only _ _ _›).same _ hp; exact hq) | exact rfl)

theorem regClear0_only {o : Nat} {s : State} :
    Only [.rm, .ee, .rj, .ts, .pt, .lce, .cam, .saf, .car, .pci] s (regClear0 o s) := by
  unfold regClear0
  repeat' first
    | with_reducible exact Only.refl
    | with_reducible assumption
    | (extract_lets +onlyGivenNames x; have ht := x.busRead; clear ht; refine Only.cut (x := x) ?_ (fun hx => ?_); (on_goal 1 => subst x); (on_goal 2 => clear_value x))
    | extract_lets +onlyGivenNames x
    | ((with_reducible apply Only.foldl); on_goal 1 => intro x t ht)
    | split
    | ((with_reducible apply Only.step modEe_only); on_goal 1 => decide)
    | ((with_reducible apply Only.step modRj_only); on_goal 1 => decide)
    | ((with_reducible apply Only.step modTs_only); on_goal 1 => decide)
    | ((with_reducible apply Only.step modPt_only); on_goal 1 => decide)
    | ((with_reducible apply Only.step modLce_only); on_goal 1 => decide)
    | ((with_reducible apply Only.step modSaf_only); on_goal 1 => decide)
    | ((with_reducible apply Only.step modRec_only); on_goal 1 => decide)
    | ((with_reducible apply Only.step modRm_only); on_goal 1 => decide)
    | ((with_reducible apply Only.step modRing_only); on_goal 1 => decide)
    | ((with_reducible apply Only.lit); intro p hp; cases p <;> first | exact absurd (by decide) hp | (have hq := (‹Only _ _ _›).same _ hp; exact hq) | exact rfl)

theorem regClear_only {f o : Nat} {s : State} :
    Only [.rm, .ee, .rj, .ts, .pt, .lce, .cam, .saf, .car, .eic, .pci] s (regClear f o s) := by
  unfold regClear
  repeat' first
    | with_reducible exact Only.refl
    | with_reducible assumption
    | (extract_lets +onlyGivenNames x; have ht := x.busRead; clear ht; refine Only.cut (x := x) ?_ (fun hx => ?_); (on_goal 1 => subst x); (on_goal 2 => clear_value x))
    | extract_lets +onlyGivenNames x
    | ((with_reducible apply Only.foldl); on_goal 1 => intro x t ht)
    | split
    | ((with_reducible apply Only.step modPci_only); on_goal 1 => decide)
    | ((with_reducible apply Only.step modEic_only); on_goal 1 => decide)
    | ((with_reducible apply Only.step regClear0_only); on_goal 1 => decide)
    | ((with_reducible apply Only.lit); intro p hp; cases p <;> first | exact absurd (by decide) hp | (have hq := (‹Only _ _ _›).same _ hp; exact hq) | exact rfl)

theorem groupReroute_only {g : Nat} {s : State} :
    Only [.eic, .pci, .slk, .out] s (groupReroute g s) := by
  unfold groupReroute
  repeat' first
    | with_reducible exact Only.refl
    | with_reducible assumption
    | (extract_lets +onlyGivenNames x; have ht := x.busRead; clear ht; refine Only.cut (x := x) ?_ (fun hx => ?_); (on_goal 1 => subst x); (on_goal 2 => clear_value x))
    | extract_lets +onlyGivenNames x
    | ((with_reducible apply Only.foldl); on_goal 1 => intro x t ht)
    | split
    | ((with_reducible apply Only.step reroute_only); on_goal 1 => decide)
    | ((with_reducible apply Only.lit); intro p hp; cases p <;> first | exact absurd (by decide) hp | (have hq := (‹Only _ _ _›).same _ hp; exact hq) | exact rfl)

theorem writeGrpCfg_only {g v : Nat} {s : State} :
    Only [.eic, .pci, .slk, .out] s (writeGrpCfg g v s) := by
  unfold writeGrpCfg
  repeat' first
    | with_reducible exact Only.refl
    | with_reducible assumption
    | (extract_lets +onlyGivenNames x; have ht := x.busRead; clear ht; refine Only.cut (x := x) ?_ (fun hx => ?_); (on_goal 1 => subst x); (on_goal 2 => clear_value x))
    | extract_lets +onlyGivenNames x
    | ((with_reducible apply Only.foldl); on_goal 1 => intro x t ht)
    | split
    | ((with_reducible apply Only.step modGrp_only); on_goal 1 => decide)
    | ((with_reducible apply Only.step groupReroute_only); on_goal 1 => decide)
    | ((with_reducible apply Only.lit); intro p hp; cases p <;> first | exact absurd (by decide) hp | (have hq := (‹Only _ _ _›).same _ hp; exact hq) | exact rfl)

theorem writeGrpVec_only {g v : Nat} {s : State} :
    Only [.eic, .pci, .slk, .out] s (writeGrpVec g v s) := by
  unfold writeGrpVec
  repeat' first
    | with_reducible exact Only.refl
    | with_reducible assumption
    | (extract_lets +onlyGivenNames x; have ht := x.busRead; clear ht; refine Only.cut (x := x) ?_ (fun hx => ?_); (on_goal 1 => subst x); (on_goal 2 => clear_value x))
    | extract_lets +onlyGivenNames x
    | ((with_reducible apply Only.foldl); on_goal 1 => intro x t ht)
    | split
    | ((with_reducible apply Only.step modGrp_only); on_goal 1 => decide)
    | ((with_reducible apply Only.step groupReroute_only); on_goal 1 => decide)
    | ((with_reducible apply Only.lit); intro p hp; cases p <;> first | exact absurd (by decide) hp | (have hq := (‹Only _ _ _›).same _ hp; exact hq) | exact rfl)

theorem writeRoute_only {n v : Nat} {s : State} :
    Only [.eic, .pci, .slk, .out] s (writeRoute n v s) := by
  unfold writeRoute
  repeat' first
    | with_reducible exact Only.refl
    | with_reducible assumption
    | (extract_lets +onlyGivenNames x; have ht := x.busRead; clear ht; refine Only.cut (x := x) ?_ (fun hx => ?_); (on_goal 1 => subst x); (on_goal 2 => clear_value x))
    | extract_lets +onlyGivenNames x
    | ((with_reducible apply Only.foldl); on_goal 1 => intro x t ht)
    | split
    | ((with_reducible apply Only.step reroute_only); on_goal 1 => decide)
    | ((with_reducible apply Only.step modEic_only); on_goal 1 => decide)
    | ((with_reducible apply Only.step uncount_only); on_goal 1 => decide)
    | ((with_reducible apply Only.lit); intro p hp; cases p <;> first | exact absurd (by decide) hp | (have hq := (‹Only _ _ _›).same _ hp; exact hq) | exact rfl)

theorem writeEic_only {f o v : Nat} {s : State} :
    Only [.eic, .pci, .slk, .out] s (writeEic f o v s) := by
  unfold writeEic
  repeat' first
    | with_reducible exact Only.refl
    | with_reducible assumption
    | (extract_lets +onlyGivenNames x; have ht := x.busRead; clear ht; refine Only.cut (x := x) ?_ (fun hx => ?_); (on_goal 1 => subst x); (on_goal 2 => clear_value x))
    | extract_lets +onlyGivenNames x
    | ((with_reducible apply Only.foldl); on_goal 1 => intro x t ht)
    | split
    | ((with_reducible apply Only.step modEic_only); on_goal 1 => decide)
    | ((with_reducible apply Only.step writeGrpCfg_only); on_goal 1 => decide)
    | ((with_reducible apply Only.step writeGrpVec_only); on_goal 1 => decide)
    | ((with_reducible apply Only.step writeRoute_only); on_goal 1 => decide)
    | ((with_reducible apply Only.lit); intro p hp; cases p <;> first | exact absurd (by decide) hp | (have hq := (‹Only _ _ _›).same _ hp; exact hq) | exact rfl)

theorem writeRing_only {n o v : Nat} {s : State} : Only [.pci, .out] s (writeRing n o v s) := by
  unfold writeRing
  extract_lets set
  have k : ∀ f, Only [.pci, .out] s (set f) := by
    intro f
    show Only _ s (if (ringOf s n).enable then s else modRing n f s)
    split
    · exact Only.refl
    · exact modRing_only.mono rfl
  clear_value set
  split
  iterate 3 exact k _
  · exact Only.step ringKick_only (by decide) (modRing_only.mono rfl)
  iterate 2 exact k _
  · exact Only.refl

theorem writeMsix_only {f o v : Nat} {s : State} :
    Only [.pci, .out] s (writeMsix f o v s) := by
  unfold writeMsix
  repeat' first
    | with_reducible exact Only.refl
    | with_reducible assumption
    | (extract_lets +onlyGivenNames x; have ht := x.busRead; clear ht; refine Only.cut (x := x) ?_ (fun hx => ?_); (on_goal 1 => subst x); (on_goal 2 => clear_value x))
    | extract_lets +onlyGivenNames x
    | ((with_reducible apply Only.foldl); on_goal 1 => intro x t ht)
    | split
    | ((with_reducible apply Only.step modPci_only); on_goal 1 => decide)
    | ((with_reducible apply Only.step hostMsix_only); on_goal 1 => decide)
    | ((with_reducible apply Only.lit); intro p hp; cases p <;> first | exact absurd (by decide) hp | (have hq := (‹Only _ _ _›).same _ hp; exact hq) | exact rfl)

theorem regWrite_only {f o v : Nat} {s : State} :
    Only [.tbs, .eic, .log, .pci, .xi, .slk, .out] s (regWrite f o v s) := by
  unfold regWrite
  repeat' first
    | with_reducible exact Only.refl
    | with_reducible assumption
    | (extract_lets +onlyGivenNames x; have ht := x.busRead; clear ht; refine Only.cut (x := x) ?_ (fun hx => ?_); (on_goal 1 => subst x); (on_goal 2 => clear_value x))
    | extract_lets +onlyGivenNames x
    | ((with_reducible apply Only.foldl); on_goal 1 => intro x t ht)
    | split
    | ((with_reducible apply Only.step modPci_only); on_goal 1 => decide)
    | ((with_reducible apply Only.step modTbs_only); on_goal 1 => decide)
    | ((with_reducible apply Only.step writeRing_only); on_goal 1 => decide)
    | ((with_reducible apply Only.step writeEic_only); on_goal 1 => decide)
    | ((with_reducible apply Only.step writeMsix_only); on_goal 1 => decide)
    | ((with_reducible apply Only.step firstClear_only); on_goal 1 => decide)
    | ((with_reducible apply Only.lit); intro p hp; cases p <;> first | exact absurd (by decide) hp | (have hq := (‹Only _ _ _›).same _ hp; exact hq) | exact rfl)

theorem busMasterOff_only {s : State} :
    Only [.pt, .eic, .log, .pci, .slk, .out] s (busMasterOff s) := by
  unfold busMasterOff
  repeat' first
    | with_reducible exact Only.refl
    | with_reducible assumption
    | (extract_lets +onlyGivenNames x; have ht := x.busRead; clear ht; refine Only.cut (x := x) ?_ (fun hx => ?_); (on_goal 1 => subst x); (on_goal 2 => clear_value x))
    | extract_lets +onlyGivenNames x
    | ((with_reducible apply Only.foldl); on_goal 1 => intro x t ht)
    | split
    | ((with_reducible apply Only.step ringStop_only); on_goal 1 => decide)
    | ((with_reducible apply Only.step modPci_only); on_goal 1 => decide)
    | ((with_reducible apply Only.lit); intro p hp; cases p <;> first | exact absurd (by decide) hp | (have hq := (‹Only _ _ _›).same _ hp; exact hq) | exact rfl)

theorem writeCfg_only {f : Nat} {r : CfgReg} {v : BitVec 32} {s : State} :
    Only [.pt, .eic, .log, .pci, .xi, .slk, .out] s (writeCfg f r v s) := by
  unfold writeCfg
  repeat' first
    | with_reducible exact Only.refl
    | with_reducible assumption
    | (extract_lets +onlyGivenNames x; have ht := x.busRead; clear ht; refine Only.cut (x := x) ?_ (fun hx => ?_); (on_goal 1 => subst x); (on_goal 2 => clear_value x))
    | extract_lets +onlyGivenNames x
    | ((with_reducible apply Only.foldl); on_goal 1 => intro x t ht)
    | split
    | ((with_reducible apply Only.step flrGo_only); on_goal 1 => decide)
    | ((with_reducible apply Only.step modAer_only); on_goal 1 => decide)
    | ((with_reducible apply Only.step d3Enter_only); on_goal 1 => decide)
    | ((with_reducible apply Only.step d3Leave_only); on_goal 1 => decide)
    | ((with_reducible apply Only.step modPci_only); on_goal 1 => decide)
    | ((with_reducible apply Only.step busMasterOff_only); on_goal 1 => decide)
    | ((with_reducible apply Only.step arbitrate_only); on_goal 1 => decide)
    | ((with_reducible apply Only.lit); intro p hp; cases p <;> first | exact absurd (by decide) hp | (have hq := (‹Only _ _ _›).same _ hp; exact hq) | exact rfl)

theorem canDiscard_only {s : State} :
    Only [.xi] s (canDiscard s) := by
  unfold canDiscard
  repeat' first
    | with_reducible exact Only.refl
    | with_reducible assumption
    | (extract_lets +onlyGivenNames x; have ht := x.busRead; clear ht; refine Only.cut (x := x) ?_ (fun hx => ?_); (on_goal 1 => subst x); (on_goal 2 => clear_value x))
    | extract_lets +onlyGivenNames x
    | ((with_reducible apply Only.foldl); on_goal 1 => intro x t ht)
    | split
    | ((with_reducible apply Only.step modSess_only); on_goal 1 => decide)
    | ((with_reducible apply Only.lit); intro p hp; cases p <;> first | exact absurd (by decide) hp | (have hq := (‹Only _ _ _›).same _ hp; exact hq) | exact rfl)

theorem canFlow_only {abort : Bool} {tag : Byte} {s : State} :
    Only [.xi, .out] s (canFlow abort tag s) := by
  unfold canFlow
  repeat' first
    | with_reducible exact Only.refl
    | with_reducible assumption
    | (extract_lets +onlyGivenNames x; have ht := x.busRead; clear ht; refine Only.cut (x := x) ?_ (fun hx => ?_); (on_goal 1 => subst x); (on_goal 2 => clear_value x))
    | extract_lets +onlyGivenNames x
    | ((with_reducible apply Only.foldl); on_goal 1 => intro x t ht)
    | split
    | ((with_reducible apply Only.step modSess_only); on_goal 1 => decide)
    | ((with_reducible apply Only.step canTx_only); on_goal 1 => decide)
    | ((with_reducible apply Only.lit); intro p hp; cases p <;> first | exact absurd (by decide) hp | (have hq := (‹Only _ _ _›).same _ hp; exact hq) | exact rfl)

theorem canTake_only {m : List Byte} {c : Nat} {s : State} :
    Only [.dev, .dict, .rm, .fld, .chan, .tbs, .ee, .rj, .pt, .lce, .adc, .saf, .fe, .car, .eic, .log, .pci, .xi, .slk, .upd, .rst, .out, .free] s (canTake m c s) := by
  unfold canTake
  repeat' first
    | with_reducible exact Only.refl
    | with_reducible assumption
    | (extract_lets +onlyGivenNames x; have ht := x.busRead; clear ht; refine Only.cut (x := x) ?_ (fun hx => ?_); (on_goal 1 => subst x); (on_goal 2 => clear_value x))
    | extract_lets +onlyGivenNames x
    | ((with_reducible apply Only.foldl); on_goal 1 => intro x t ht)
    | split
    | ((with_reducible apply Only.step serve_only); on_goal 1 => decide)
    | ((with_reducible apply Only.step canDiscard_only); on_goal 1 => decide)
    | ((with_reducible apply Only.step modSess_only); on_goal 1 => decide)
    | ((with_reducible apply Only.step canFrame_only); on_goal 1 => decide)
    | ((with_reducible apply Only.lit); intro p hp; cases p <;> first | exact absurd (by decide) hp | (have hq := (‹Only _ _ _›).same _ hp; exact hq) | exact rfl)

theorem modMbx_only {f : MbxS → MbxS} {s : State} :
    Only [.xi] s (modMbx f s) := by
  unfold modMbx
  repeat' first
    | with_reducible exact Only.refl
    | with_reducible assumption
    | (extract_lets +onlyGivenNames x; have ht := x.busRead; clear ht; refine Only.cut (x := x) ?_ (fun hx => ?_); (on_goal 1 => subst x); (on_goal 2 => clear_value x))
    | extract_lets +onlyGivenNames x
    | ((with_reducible apply Only.foldl); on_goal 1 => intro x t ht)
    | split
    | ((with_reducible apply Only.step modXi_only); on_goal 1 => decide)
    | ((with_reducible apply Only.lit); intro p hp; cases p <;> first | exact absurd (by decide) hp | (have hq := (‹Only _ _ _›).same _ hp; exact hq) | exact rfl)

end Sys2Proof
end

