-- ==== Sys2Proof/Tests/Slice0.lean ====
section
/-!
SUPPORT. The model's own tests: worked examples of the spec, terms that the well-formedness check refuses, and for every
statement with hypotheses a state and operands that meet them (wit_).
-/
set_option linter.unusedVariables false

namespace Sys2Proof.Tests

open Sys2Proof
open Sys2Proof.Machine

/-- The state after reset with the device in RUN. -/
abbrev run0 : State := { State.reset with dev := .run }
/-- The device past its reset, with the mailbox session open. -/
abbrev served (s : State) : State :=
  modSess 1 (fun e => { e with open_ := true }) { s with rst := { s.rst with phase := .none } }
/-- RUN with every channel of the fourth group enabled. -/
abbrev capt0 : State := setPar 0x2801 7 (.int 0xFFFFFFFF) run0
/-- How a good packet arrives. -/
abbrev rx0 : SlkRx := { seq := 0, good := true }

/-! ## Terms that the well-formedness check refuses -/

theorem test_wf_fire :
    Instr.wf (.fire 0 (List.replicate 5 { bank := 0, em := 0, offset := 0, width := 0, target := 0, lim := 0, min := 0 })) = false := by
  simp only [Instr.wf, List.length_replicate]; decide

theorem test_wf_foArm :
    Instr.wf (.foArm 0 [0, 0, 0]) = false := by
  decide

theorem test_wf_outState :
    Instr.wf (.outState 0 0 [0]) = false := by
  decide

theorem test_wf_lceOut :
    Instr.wf (.lceOut 0 2048 0 [0, 0, 0, 0] 0 0) = false := by
  decide

theorem test_wf_fieldIo :
    Instr.wf (.fieldIo 0 (List.replicate 33 0)) = false := by
  simp only [Instr.wf, List.length_replicate]; decide

theorem test_wf_cfgReq :
    Instr.wf (.cfgReq 0 (List.replicate 33 0)) = false := by
  simp only [Instr.wf, List.length_replicate]; decide

theorem test_wf_cfgRsp :
    Instr.wf (.cfgRsp 0 (List.replicate 33 0)) = false := by
  simp only [Instr.wf, List.length_replicate]; decide

theorem test_wf_fieldStat :
    Instr.wf (.fieldStat 0
      { vres := [0], iin := 0, coilI := 0, velocity := 0, dieT := [0, 0], power := 0, apdV := 0, apdI := 0
        vshot := [0, 0, 0, 0], wdg := false, vBridge := 0 }) = false := by
  decide

theorem test_wf_linePacket :
    Instr.wf (.linePacket 0 0 0 0 ⟨false, true⟩ true [16384]) = false := by
  decide

theorem test_wf_safetyPdu :
    Instr.wf (.safetyPdu ⟨0, true, true⟩ 0 0 (List.replicate 65 0)) = false := by
  simp only [Instr.wf, List.length_replicate]; decide

theorem test_wf_linkActive :
    Instr.wf (.linkActive 0 4 3) = false := by
  decide

theorem test_wf_xiestWrite :
    Instr.wf (.xiestWrite 0 0 0 true 0 0 (List.replicate 65536 0)) = false := by
  simp only [Instr.wf, List.length_replicate]; decide

theorem test_wf_canSegment :
    Instr.wf (.canSegment 0 0 0 (List.replicate 65 0)) = false := by
  simp only [Instr.wf, List.length_replicate]; decide

theorem test_wf_cap :
    Instr.wf (.cap 0 0 (List.replicate 4097 0)) = false := by
  simp only [Instr.wf, List.length_replicate]; decide

theorem test_wf_time :
    Instr.wf (.time 0 0 rx0 (List.replicate 4097 0)) = false := by
  simp only [Instr.wf, List.length_replicate]; decide

theorem test_wf_sched :
    Instr.wf (.sched 0 0 rx0 (List.replicate 4097 0)) = false := by
  simp only [Instr.wf, List.length_replicate]; decide

theorem test_wf_trig :
    Instr.wf (.trig 0 0 rx0 (List.replicate 4097 0)) = false := by
  simp only [Instr.wf, List.length_replicate]; decide

theorem test_wf_irq :
    Instr.wf (.irq 0 0 rx0 (List.replicate 4097 0)) = false := by
  simp only [Instr.wf, List.length_replicate]; decide

theorem test_wf_xiestSegment :
    Instr.wf (.xiestSegment 0 0 rx0 true true (List.replicate 4097 0)) = false := by
  simp only [Instr.wf, List.length_replicate]; decide

theorem test_wf_ptRec :
    Instr.wf (.ptRec 0 0 rx0 (List.replicate 15 0)) = false := by
  simp only [Instr.wf, List.length_replicate]; decide

theorem test_wf_ptHdr :
    Instr.wf (.ptHdr 0 0 rx0 []) = false := by
  decide

theorem test_wf_updData :
    Instr.wf (.updData 0 0 0 0 (List.replicate 65532 0)) = false := by
  simp only [Instr.wf, List.length_replicate]; decide

theorem test_wf_updAuthResponse :
    Instr.wf (.updAuthResponse 0 0 0 [] (List.replicate 65536 0)) = false := by
  simp only [Instr.wf, List.length_replicate]; decide

theorem test_wf_xiestUnknownOp :
    Instr.wf (.xiestUnknownOp 0 0 0 true 0x11 0 0 []) = false := by
  decide

/-! ## Worked examples of the spec -/

/-- The point record of the example after R258. -/
abbrev rec42 : Rec :=
  { valid := true, chan := 42, range := 249852, intens := 520, az := -2468, tofs := 192901, camctx := 2, sigma := 14
    conf := 63, rgb := 0xA50A }

/-- The four words of the example after R258. -/
theorem test_recWords : recWords rec42 = [0x8543CFFC, 0x0208F65C, 0x0002F185, 0x23BFA50A] := by decide

/-- Its bytes in host memory. -/
theorem test_recBytes : recBytes rec42 =
    [0xFC, 0xCF, 0x43, 0x85, 0x5C, 0xF6, 0x08, 0x02, 0x85, 0xF1, 0x02, 0x00, 0x0A, 0xA5, 0xBF, 0x23] := by decide

/-- The stamp word of the example before R142. -/
theorem test_stampWord : stampWord { chan := 137, rise := true, thr := 1, time := 85392 } = 0x22694D90 := by decide

/-- INTENS of the example after R258: A = 160 mV at 10 kΩ, 62.463 m, RFL_K 0.0025, 300.0 nJ. -/
theorem test_intens : intensOf (setPar 0x2C11 0 (.fx 1374389535 39) State.reset) 0 (2 * 160 * 65536)
    (65536 * tiaHalf State.reset 0) 249852 300000 = 520 := by decide

/-- K_E = 0.025 nJ/V² at 300 nJ: target 3,739 (example after R92). -/
theorem test_targetCode : targetCode { m := 838861, s := 25 } 300000 = 3739 := by decide

/-- The limit code of the same example, V_TOL 2 percent. -/
theorem test_limitCode : limitCode { m := 838861, s := 25 } 20 (300000, 1) = 3813 := by decide

/-- Its charged energy, 312.12 nJ. -/
theorem test_chargedPj : chargedPj 20 (300000, 1) = 312120 := by decide

/-- The proportional term of the example after R286, and its conversion to Q15. -/
theorem test_lceTerm : term { m := -2013265920, s := 29 } 3277 = -402677760 := by decide

/-- See test_lceTerm. -/
theorem test_lceConversion : accQ15 (-402677760, 0) = (-12289, 0) := by decide

/-- 20 Hz at a period of 1,828 ns gives 3,419 cycles (example after R64). -/
theorem test_cyclesOf : cyclesOf 20000 1828 = 3419 := by decide

/-- The die at 119.0 degrees gives the level 180 (example after R605). -/
theorem test_throttleTarget :
    throttleTarget { State.reset with thm := { State.reset.thm with node := [(5, 119000)] } } = 180 := by decide

/-- The offset and delay of the example after R583. -/
theorem test_thetaDelta : thetaDelta 3200001850 1000000000 1000101850 3200100000 = (2200000000, 1850) := by decide

/-- The head of the XIEST message in the CAN example after R557. -/
theorem test_xiHead : xiHead 0x11 0x2A 0x4804 0 0 268 = [0x11, 0x2A, 0x04, 0x48, 0x00, 0x00, 0x0C, 0x01] := by decide

/-- The status register of Ringmaster after reset. -/
theorem test_rmStatus : regRead State.reset 0 0x1000 = 0x00FF0000 := by decide

/-- A well-formed command is one that its frame can carry: the largest and the smallest bridge demand pass. -/
theorem test_wf_lceOutBounds :
    Instr.wf (.lceOut 0 2047 0 [0, 0, 0, 0] 0 0) = true ∧ Instr.wf (.lceOut 0 (-2048) 0 [0, 0, 0, 0] 0 0) = true := by
  decide

/-! ## The statements' hypotheses can be met -/

set_option maxRecDepth 8000 in
theorem wit_FireAndGatePulse :
    (∃ (t : Nat) (frame : List FireBank) (s : State),
      (∀ f ∈ frame, fireAllowed (s.start t) frame f = true)) ∧
    (∃ (t : Nat) (frame : List FireBank) (s : State),
      (∃ f ∈ frame, fireAllowed (s.start t) frame f = false) ∧ s.dev = .run) ∧
    (∃ (t : Nat) (b : Fin 4) (v : BitVec 12) (s : State) (f : FireS),
      (bankOf s b).fires = [f] ∧ f.edge ≤ instant s t + 20 * nsU ∧ instant s t ≤ f.edge ∧ (linkOf s 1).switchUntil = none ∧ s.lce.mode ≠ 4 ∧ s.rm.inhibits = [] ∧ s.fld.gateHold = false ∧ s.fld.wdgTripped = false ∧ (s.dev = .run ∨ s.dev = .safe) ∧ (bankOf s b).windowClosed = false ∧ f.min ≤ v.toNat ∧ v.toNat ≤ f.lim ∧ ((committedShot s f.em).isSome = true ∨ s.rm.framing = false)) ∧
    (∃ (t : Nat) (b : Fin 4) (v : BitVec 12) (s : State) (f : FireS),
      (bankOf s b).fires = [f] ∧ f.edge ≤ instant s t + 20 * nsU ∧ instant s t ≤ f.edge ∧ (f.lim < v.toNat ∨ v.toNat < f.min)) ∧
    (∃ (t : Nat) (b : Fin 4) (v : BitVec 12) (s : State) (f : FireS),
      (bankOf s b).fires = [f] ∧ f.edge < instant s t) :=
  ⟨⟨0, [{ bank := 0, em := 3, offset := 0, width := 1, target := 400, lim := 410, min := 390 }], run0, by decide⟩,
    ⟨0, [{ bank := 0, em := 3, offset := 0, width := 1, target := 400, lim := 410, min := 390 }], modBank 0 (fun b => { b with markerUsed := true }) run0, by decide⟩,
    ⟨9, 1, 400, modLce (fun l => { l with mode := 0 }) <| modBank 1 (fun b => { b with fires := [{ em := 9, edge := 100, width := 64, target := 400, lim := 400, min := 400 }] }) run0, { em := 9, edge := 100, width := 64, target := 400, lim := 400, min := 400 }, by decide⟩,
    ⟨9, 1, 401, modRm (fun r => { r with current := [{ em := 9, bank := 1, edge := 100 }] }) (modBank 1 (fun b => { b with fires := [{ em := 9, edge := 100, width := 64, target := 400, lim := 400, min := 400 }] }) run0), { em := 9, edge := 100, width := 64, target := 400, lim := 400, min := 400 }, by decide⟩,
    ⟨101, 1, 401, modBank 1 (fun b => { b with fires := [{ em := 9, edge := 100, width := 64, target := 400, lim := 400, min := 400 }] }) run0, { em := 9, edge := 100, width := 64, target := 400, lim := 400, min := 400 }, by decide⟩⟩

set_option maxRecDepth 8000 in
theorem wit_GateFaultAndUnplannedEmission :
    (∃ (t : Nat) (em : Fin 32) (s : State),
      s.dev = .run) ∧
    (∃ (t : Nat) (b : Fin 4) (s : State),
      monInterval (s.start t) (bankOf s b) = false ∧ s.dev = .run) ∧
    (∃ (t : Nat) (b : Fin 4) (s : State),
      monInterval (s.start t) (bankOf s b) = true) :=
  ⟨⟨5, 31, run0, by decide⟩,
    ⟨5, 3, run0, by decide⟩,
    ⟨5, 3, modBank 3 (fun b => { b with shot := some { em := 24, bank := 3, edge := 5 } }) run0, by decide⟩⟩

set_option maxRecDepth 8000 in
theorem wit_ChargingAndBias :
    (∃ (t : Nat) (b : Fin 4) (s : State),
      (bankOf s b).topHold = false ∧ (bankOf s b).windowClosed = false ∧ s.fld.wdgTripped = false ∧ (bankOf s b).gateUntil + 50 * nsU ≤ instant s t) ∧
    (∃ (t : Nat) (b : Fin 4) (s : State),
      s.fld.wdgTripped = true) ∧
    (∃ (t : Nat) (b : Fin 4) (s : State) (f : Nat),
      (bankOf s b).windowOkAt = some f ∧ (bankOf s b).windowClosed = true ∧ f + 100 * msU ≤ instant s t) ∧
    (∃ (t : Nat) (em : Fin 32) (s : State),
      parN s 0x2406 0 ≤ bget 0 s.fld.monMiss em ∧ s.fld.monFailed.getLsbD em = false ∧ LogRoom s 1) ∧
    (∃ (t : Nat) (s : State) (f : Nat),
      s.fld.apdBadFrom = some f ∧ f + msU < instant s t ∧ s.fld.apdBad = false ∧ 0 < s.fld.apdTarget ∧ LogRoom s 1) :=
  ⟨⟨6400, 0, setPar 0x2410 0 (.int 0) run0, by decide⟩,
    ⟨6400, 0, modFld (fun c => { c with wdgTripped := true }) run0, by decide⟩,
    ⟨12800000000, 2, modBank 2 (fun b => { b with windowClosed := true, windowOkAt := some 0 }) run0, 0, by decide⟩,
    ⟨1, 31, modFld (fun c => { c with monMiss := [(31, 65535)] }) run0, by decide⟩,
    ⟨200000000, modFld (fun c => { c with apdTarget := 1, apdBadFrom := some 5 }) run0, 5, by decide⟩⟩

set_option maxRecDepth 8000 in
theorem wit_MirrorBridgeAndWatchdog :
    (∃ (t : Nat) (oc : Bool) (uv : Bool) (s : State),
      (oc || uv) = true ∧ s.fld.bridgeOn = true) ∧
    (∃ (t : Nat) (v : Int) (c : Int) (s : State),
      s.fld.bemfAt + usU ≤ instant s t) ∧
    (∃ (t : Nat) (s : State),
      s.fld.wdgTripped = false ∧ (8 ≤ s.fld.bemfRun ∨ 2 ≤ s.fld.lceMissed)) ∧
    (∃ (t : Nat) (duty : Int) (vel : Int) (vch : List Nat) (bias : Nat) (htr : Nat) (s : State),
      -2048 ≤ duty ∧ duty ≤ 2047) :=
  ⟨⟨1, true, false, modFld (fun c => { c with bridgeOn := true }) run0, by decide⟩,
    ⟨128000, 5, 40000, run0, by decide⟩,
    ⟨1, modFld (fun c => { c with bemfRun := 8 }) run0, by decide⟩,
    ⟨1, -2048, 5, [7], 9, 11, run0, by decide⟩⟩

set_option maxRecDepth 8000 in
theorem wit_BarrierLinksAndPayloads :
    (∃ (t : Nat) (bl : Fin 12) (s : State),
      (linkOf s bl).failed = false ∧ bl.val < 10 ∧ dirFailed s bl = false ∧ LogRoom s 1) ∧
    (∃ (t : Nat) (bl : Fin 12) (s : State),
      (linkOf s bl).failed = false ∧ dirFailed s bl = true ∧ s.dev = .run) ∧
    (∃ (t : Nat) (bl : Fin 12) (s : State),
      (linkOf s bl).switchUntil.isSome = true) ∧
    (∃ (t : Nat) (bl : Fin 12) (s : State),
      barUp s (barPair (barTraffic s bl)) = true) ∧
    (∃ (t : Nat) (bl : Fin 12) (seq : BitVec 8) (s : State),
      (linkOf s (barTraffic s bl)).crcRun = 0 ∧ barUp s (barPair (barTraffic s bl)) = true) ∧
    (∃ (t : Nat) (bl : Fin 12) (seq : BitVec 8) (s : State),
      1 ≤ (linkOf s (barTraffic s bl)).crcRun) ∧
    (∃ (t : Nat) (bl : Fin 12) (seq : BitVec 8) (s : State),
      barUp s bl = true ∧ (linkOf s bl).failed = false) ∧
    (∃ (t : Nat) (bl : Fin 12) (s : State) (f : Nat),
      (linkOf s bl).waitFrom = some f ∧ f + 2 * usU ≤ instant s t ∧ barUp s bl = true ∧ (linkOf s bl).failed = false) ∧
    (∃ (t : Nat) (pl : List Byte) (s : State),
      pl.length ≤ 32) ∧
    (∃ (t : Nat) (pl : List Byte) (s : State),
      pl.length ≤ 32) ∧
    (∃ (t : Nat) (pl : List Byte) (s : State),
      pl.length ≤ 32) ∧
    (∃ (t : Nat) (r : Fin 5) (reqs : List (Fin 6 × Fin 132)) (s : State) (p : Fin 6) (i : Fin 132),
      (bget {} s.arb r).waiting = [] ∧ reqs = [(p, i)] ∧ usesRes r p = true) ∧
    (∃ (t : Nat) (r : Fin 5) (s : State),
      (bget {} s.arb r).waiting = []) :=
  ⟨⟨1, 9, run0, by decide⟩,
    ⟨1, 9, modLink 8 (fun l => { l with failed := true }) run0, by decide⟩,
    ⟨1, 0, modLink 0 (fun l => { l with switchUntil := some 0, failed := true }) run0, by decide⟩,
    ⟨1, 11, run0, by decide⟩,
    ⟨1, 11, 0, run0, by decide⟩,
    ⟨1, 9, 0, modLink 9 (fun l => { l with crcRun := 1 }) run0, by decide⟩,
    ⟨1, 4, 5, barSend 4 3 [1] (barSend 4 3 [] run0), by decide⟩,
    ⟨256000, 4, barSend 4 3 [1] (barSend 4 3 [] run0), 0, by decide⟩,
    ⟨1, [1], run0, by decide⟩,
    ⟨1, [1], run0, by decide⟩,
    ⟨1, [1], run0, by decide⟩,
    ⟨1, 0, [(0, 5)], run0, 0, 5, by decide⟩,
    ⟨1, 0, run0, by decide⟩⟩

set_option maxRecDepth 8000 in
theorem wit_OutputSwitching :
    (∃ (t : Nat) (s : State),
      (linkOf s 0).crcRun = 0) ∧
    (∃ (t : Nat) (k : Fin 4) (n : Fin 4) (s : State),
      bit (bget 0 s.fld.foMask k) n = true) ∧
    (∃ (t : Nat) (k : Fin 4) (n : Fin 4) (s : State),
      bit (bget 0 s.fld.foMask k) n = false) ∧
    (∃ (t : Nat) (req : BitVec 4) (tokens : List Byte) (n : Fin 4) (s : State),
      req.getLsbD n = false) ∧
    (∃ (t : Nat) (req : BitVec 4) (tokens : List Byte) (n : Fin 4) (s : State),
      req.getLsbD n = true ∧ (outOf s n).on = false ∧ (outOf s n).reqRun = 0) ∧
    (∃ (t : Nat) (req : BitVec 4) (tokens : List Byte) (n : Fin 4) (s : State),
      req.getLsbD n = true ∧ (outOf s n).on = false ∧ 1 ≤ (outOf s n).reqRun ∧ tokens.getD n 0 ≠ (outOf s n).token) ∧
    (∃ (t : Nat) (req : BitVec 4) (tokens : List Byte) (n : Fin 4) (s : State),
      (outOf s n).wdgOff = true ∧ (outOf s n).on = false ∧ tokens.getD n 0 = (outOf s n).token) ∧
    (∃ (t : Nat) (n : Fin 4) (s : State),
      (outOf s n).wdgFrom + msU ≤ instant s t) :=
  ⟨⟨5, modOut 2 (fun o => { o with on := true }) run0, by decide⟩,
    ⟨5, 3, 2, modOut 2 (fun o => { o with on := true }) (modFld (fun c => { c with foMask := [(3, 4)] }) run0), by decide⟩,
    ⟨5, 3, 2, modOut 2 (fun o => { o with on := true }) (modFld (fun c => { c with foMask := [(3, 11)] }) run0), by decide⟩,
    ⟨5, 14, [1, 1, 1, 1], 0, modOut 0 (fun o => { o with on := true }) run0, by decide⟩,
    ⟨5, 1, [1, 1, 1, 1], 0, run0, by decide⟩,
    ⟨5, 1, [1, 1, 1, 1], 0, modOut 0 (fun o => { o with reqRun := 1, wdgOff := true }) run0, by decide⟩,
    ⟨5, 1, [0, 1, 1, 1], 0, modOut 0 (fun o => { o with reqRun := 1, wdgOff := true }) run0, by decide⟩,
    ⟨128000000, 3, modOut 3 (fun o => { o with on := true }) run0, by decide⟩⟩

set_option maxRecDepth 8000 in
theorem wit_DarkTestsAndReadback :
    (∃ (t : Nat) (n : Fin 4) (s : State),
      (outOf s n).on = true ∧ (∀ k : Fin 4, (outOf s k).dark = false) ∧ (outOf s n).onAt + secU ≤ instant s t ∧ (outOf s n).lastDark < (outOf s n).onAt) ∧
    (∃ (t : Nat) (n : Fin 4) (s : State),
      (outOf s n).dark = true ∧ (outOf s n).darkVoid = false ∧ (outOf s n).darkFrom + parN s 0x6040 n * usU ≤ instant s t) ∧
    (∃ (t : Nat) (n : Fin 4) (returned : Bool) (s : State),
      (outOf s n).dark = true ∧ (outOf s n).darkVoid = false ∧ (outOf s n).darkFrom + parN s 0x6040 n * usU ≤ instant s t ∧ s.dev = .run ∧ ((outOf s n).fault = 0 ∨ 3 < (outOf s n).fault)) ∧
    (∃ (t : Nat) (n : Fin 4) (s : State) (a : Nat),
      (outOf s n).badFrom = some a ∧ a + msU < instant s t ∧ (outOf s n).dark = false ∧ (outOf s n).on = false ∧ (outOf s n).readback = true ∧ (outOf s n).fault = 0 ∧ s.dev = .run) ∧
    (∃ (t : Nat) (n : Fin 4) (s : State) (a : Nat),
      (outOf s n).badFrom = some a ∧ a + msU < instant s t ∧ (outOf s n).dark = false ∧ (outOf s n).on = true ∧ (outOf s n).readback = false ∧ (outOf s n).fault = 0) ∧
    (∃ (t : Nat) (n : Fin 4) (s : State),
      (outOf s n).on = true ∧ ((outOf s n).fault = 0 ∨ 3 < (outOf s n).fault)) ∧
    (∃ (t : Nat) (n : Fin 4) (s : State),
      (outOf s n).on = true ∧ 1 ≤ (outOf s n).fault ∧ (outOf s n).fault ≤ 3) ∧
    (∃ (t : Nat) (n : Fin 4) (s : State) (a : Nat),
      ((outOf s n).fault = 0 ∨ 3 < (outOf s n).fault) ∧ (outOf s n).edmPending = some a ∧ parN s 0x6042 n = 1 ∧ a + parN s 0x6043 n * msU ≤ instant s t ∧ (inOf s (16 + n)).sc = (outOf s n).on) ∧
    (∃ (t : Nat) (s : State),
      periodDue s.saf.outAt (50 * usU) (instant s t) = true ∧ barUp s 0 = true) :=
  ⟨⟨128000000001, 2, modOut 2 (fun o => { o with on := true, onAt := 1 }) run0, by decide⟩,
    ⟨128000000000, 2, modOut 2 (fun o => { o with on := true, dark := true }) run0, by decide⟩,
    ⟨128000000000, 2, true, modOut 2 (fun o => { o with on := true, dark := true, darkB := true }) run0, by decide⟩,
    ⟨128000001, 2, modOut 2 (fun o => { o with readback := true, badFrom := some 0 }) run0, 0, by decide⟩,
    ⟨128000001, 2, modOut 2 (fun o => { o with on := true, badFrom := some 0 }) run0, 0, by decide⟩,
    ⟨5, 1, modOut 1 (fun o => { o with on := true, request := true }) run0, by decide⟩,
    ⟨5, 1, modOut 1 (fun o => { o with on := true, fault := 3 }) run0, by decide⟩,
    ⟨128000000000, 1, setPar 0x6042 1 (.int 1) (modOut 1 (fun o => { o with edmPending := some 0 }) run0), 0, by decide⟩,
    ⟨5, run0, by decide⟩⟩

set_option maxRecDepth 8000 in
theorem wit_SafetyInputs :
    (∃ (t : Nat) (raw : BitVec 20) (tpRead : BitVec 8) (soRead : BitVec 4) (i : Fin 20) (s : State),
      periodDue s.saf.siAt (10 * usU) (instant s t) = true) ∧
    (∃ (t : Nat) (n : Fin 8) (s : State),
      s.saf.srcOn = true ∧ bit (parN s 0x6023 0) n = true ∧ (tpOf s n).pulse = false ∧ tpDue (s.start t) n = true) ∧
    (∃ (t : Nat) (k : Fin 12) (s : State) (a : Nat),
      (sfOf s k).discFrom = some a ∧ sfUsed s k = true ∧ (sfOf s k).st ≠ 4 ∧ (discrepant s k).1 = true ∧ a + parN s 0x6033 k * msU ≤ instant s t) ∧
    (∃ (t : Nat) (k : Fin 12) (s : State) (a : Nat),
      (sfOf s k).discFrom2 = some a ∧ sfUsed s k = true ∧ (sfOf s k).st ≠ 4 ∧ (discrepant s k).2 = true ∧ a + parN s 0x6033 k * msU ≤ instant s t) ∧
    (∃ (t : Nat) (pins : BitVec 8) (s : State),
      s.saf.pinsAt = none ∧ Operating s) ∧
    (∃ (t : Nat) (pins : BitVec 8) (s : State),
      s.saf.pinsAt.isSome = true ∧ (pins ≠ s.saf.pinsBoot ∨ pinsValid pins = false) ∧ s.dev = .run ∧ periodDue s.saf.pinsAt (100 * msU) (instant s t) = true) ∧
    (∃ (t : Nat) (s : State),
      pinsValid s.saf.pinsBoot = true ∧ s.saf.pinsAt.isSome = true ∧ Operating s ∧ periodDue s.saf.pinsAt (100 * msU) (instant s t) = true) :=
  ⟨⟨5, 3, 0, 0, 1, run0, by decide⟩,
    ⟨35 * msU, 7, setPar 0x6023 0 (.int 128) (modSaf (fun f => { f with srcOn := true }) run0), by decide⟩,
    ⟨1280000000000, 0, setPar 0x6030 0 (.int 1) (setPar 0x6031 0 (.int 256) (modSf 0 (fun f => { f with discFrom := some 0 }) (modIn 0 (fun x => { x with sc := true }) run0))), 0, by decide⟩,
    ⟨1280000000000, 0, setPar 0x6030 0 (.int 6) (setPar 0x6031 0 (.int 0x03020100) (modSf 0 (fun f => { f with discFrom2 := some 0 }) (modIn 0 (fun x => { x with sc := true }) run0))), 0, by decide⟩,
    ⟨5, 0x1E, run0, by decide⟩,
    ⟨12800000000, 0x1E, modSaf (fun f => { f with pinsAt := some 0 }) run0, by decide⟩,
    ⟨12800000000, modSaf (fun f => { f with pinsBoot := 0x1E, pinsAt := some 0 }) run0, by decide⟩⟩

set_option maxRecDepth 8000 in
theorem wit_FieldEvaluator :
    (∃ (t : Nat) (r : Fin 256) (s : State) (x : FieldShot),
      s.fe.queue.find? (fun y => y.chan == r) = some x ∧ s.saf.setNo ≠ 0) ∧
    (∃ (t : Nat) (r : Fin 256) (k : Fin 12) (s : State) (x : FieldShot),
      s.fe.queue.find? (fun y => y.chan == r) = some x ∧ s.saf.setNo ≠ 0 ∧ parN s 0x6030 k = 8 ∧ s.saf.srcOn = true ∧ (sfOf s k).st ≠ 4) ∧
    (∃ (t : Nat) (r : Fin 256) (s : State),
      s.saf.setNo = 0) ∧
    (∃ (t : Nat) (k : Fin 12) (s : State) (a : Nat),
      s.fe.selBadFrom = some a ∧ parN s 0x6110 0 = 1 ∧ a + parN s 0x6114 0 * msU ≤ instant s t ∧ parN s 0x6030 k = 8 ∧ s.saf.srcOn = true ∧ (sfOf s k).st ≠ 4) ∧
    (∃ (t : Nat) (s : State),
      s.rm.inFrame = true ∧ s.rm.nAct ≤ s.rm.cycle ∧ s.dev = .run ∧ LogRoom s 2) ∧
    (∃ (t : Nat) (s : State),
      s.rm.inFrame = true ∧ s.rm.nAct ≤ s.rm.cycle) :=
  ⟨⟨5, 7, modSaf (fun f => { f with srcOn := true, setNo := 1 }) (modFe (fun e => { e with queue := [{ chan := 7, az := 0, valid := true, active := true, last := false, theta := 0, shots := [0], frame := 0, echoes := [] }] }) run0), { chan := 7, az := 0, valid := true, active := true, last := false, theta := 0, shots := [0], frame := 0, echoes := [] }, by decide⟩,
    ⟨5, 7, 11, setPar 0x6030 11 (.int 8) (modSaf (fun f => { f with srcOn := true, setNo := 1 }) (modFe (fun e => { e with queue := [{ chan := 7, az := 0, valid := true, active := true, last := false, theta := 0, shots := [0], frame := 0, echoes := [] }] }) run0)), { chan := 7, az := 0, valid := true, active := true, last := false, theta := 0, shots := [0], frame := 0, echoes := [] }, by decide⟩,
    ⟨5, 7, run0, by decide⟩,
    ⟨1280000000000, 3, setPar 0x6110 0 (.int 1) (setPar 0x6030 3 (.int 8) (modSaf (fun f => { f with srcOn := true }) (modFe (fun e => { e with selBadFrom := some 0 }) run0))), 0, by decide⟩,
    ⟨5, modRm (fun r => { r with inFrame := true, nAct := 3, cycle := 3 }) run0, by decide⟩,
    ⟨5, modRm (fun r => { r with inFrame := true, nAct := 3, cycle := 3 }) run0, by decide⟩⟩

set_option maxRecDepth 8000 in
theorem wit_SafetyPdus :
    (∃ (tx : TxAt) (net : Fin 2) (ident : BitVec 11) (data : List Byte) (s : State) (j : Fin 4),
      rxSlotUsed s j = true ∧ parN s 0x6124 j = ident.toNat ∧ Operating s ∧ (data.length ≠ 16 ∨ fbN data 12 4 ≠ (pduCrc s data).toNat)) ∧
    (∃ (tx : TxAt) (net : Fin 2) (ident : BitVec 11) (data : List Byte) (s : State) (j : Nat) (a : Nat),
      pduSlot s ident data = some j ∧ Operating s ∧ data.length = 16 ∧ fbN data 12 4 = (pduCrc s data).toNat ∧ fbN data 0 1 / 16 = 2 ∧ s.fe.verDone = true ∧ pduGood (s.start tx.t) j data = true ∧ (slotOf s j).wait = [(1 - net.val, a, data)] ∧ instant s tx.t ≤ a + 10 * msU) ∧
    (∃ (tx : TxAt) (net : Fin 2) (ident : BitVec 11) (data : List Byte) (s : State) (j : Nat),
      pduSlot s ident data = some j ∧ Operating s ∧ data.length = 16 ∧ fbN data 12 4 = (pduCrc s data).toNat ∧ fbN data 0 1 / 16 = 2 ∧ s.fe.verDone = true ∧ pduGood (s.start tx.t) j data = true ∧ (slotOf s j).wait = []) ∧
    (∃ (tx : TxAt) (net : Fin 2) (ident : BitVec 11) (data : List Byte) (s : State) (j : Nat) (a : Nat) (e : List Byte),
      pduSlot s ident data = some j ∧ Operating s ∧ data.length = 16 ∧ fbN data 12 4 = (pduCrc s data).toNat ∧ fbN data 0 1 / 16 = 2 ∧ s.fe.verDone = true ∧ pduGood (s.start tx.t) j data = true ∧ (slotOf s j).wait = [(1 - net.val, a, e)] ∧ e.getD 1 0 = data.getD 1 0 ∧ e ≠ data ∧ instant s tx.t ≤ a + 10 * msU ∧ s.dev = .run) ∧
    (∃ (t : Nat) (j : Fin 4) (s : State) (a : Nat) (d : List Byte),
      (slotOf s j).wait = [(0, a, d)] ∧ a + 10 * msU < instant s t ∧ s.dev = .run) ∧
    (∃ (t : Nat) (j : Fin 4) (s : State),
      rxSlotUsed s j = true ∧ s.fe.verDone = true ∧ (slotOf s j).timedOut = false ∧ (slotOf s j).accAt + parN s 0x6127 j * msU ≤ instant s t ∧ s.dev = .run) ∧
    (∃ (t : Nat) (j : Fin 4) (s : State),
      rxSlotUsed s j = true ∧ s.fe.verDone = true ∧ (slotOf s j).data.isSome = true ∧ (slotOf s j).accAt + parN s 0x6127 j * msU ≤ instant s t ∧ s.dev = .run) ∧
    (∃ (t : Nat) (ackA : Bool) (ackB : Bool) (s : State),
      s.fe.verDone = true ∧ Operating s ∧ periodDue s.fe.txAt (parN s 0x6123 0 * msU) (instant s t) = true ∧ CanIdle s t 0 ∧ CanIdle s t 1) ∧
    (∃ (tx : TxAt) (s : State),
      s.fe.verDone = false ∧ Operating s ∧ periodDue s.fe.verAt (100 * msU) (instant s tx.t) = true ∧ (∀ j : Fin 4, (slotOf s j).verRange = (0, 0)) ∧ CanIdle s tx.t 0 ∧ CanIdle s tx.t 1) :=
  ⟨⟨⟨5, true, true⟩, 0, 0x100, [0], setPar 0x6124 3 (.int 256) run0, 3, by decide⟩,
    ⟨⟨5, true, true⟩, 0, 0x100, pduOf run0 2 7 0x1234 9, setPar 0x6124 0 (.int 256) (setPar 0x6125 0 (.int 2) (modSlot 0 (fun x => { x with wait := [(1, 0, pduOf run0 2 7 0x1234 9)] }) (modFe (fun e => { e with verDone := true }) run0))), 0, 0, by decide⟩,
    ⟨⟨5, true, true⟩, 1, 0x100, pduOf run0 2 7 0x1234 9, setPar 0x6124 0 (.int 256) (setPar 0x6125 0 (.int 2) (modFe (fun e => { e with verDone := true }) run0)), 0, by decide⟩,
    ⟨⟨5, true, true⟩, 0, 0x100, pduOf run0 2 7 0x1234 9, setPar 0x6124 0 (.int 256) (setPar 0x6125 0 (.int 2) (modSlot 0 (fun x => { x with wait := [(1, 0, pduOf run0 2 7 0x1235 9)] }) (modFe (fun e => { e with verDone := true }) run0))), 0, 0, pduOf run0 2 7 0x1235 9, by decide⟩,
    ⟨1280000001, 3, modSlot 3 (fun x => { x with wait := [(0, 0, [])] }) run0, 0, [], by decide⟩,
    ⟨12800000000000, 3, setPar 0x6124 3 (.int 256) (modFe (fun e => { e with verDone := true }) run0), by decide⟩,
    ⟨12800000000000, 3, modSlot 3 (fun x => { x with timedOut := true, data := some 1, pairs := 5 }) (setPar 0x6124 3 (.int 256) (modFe (fun e => { e with verDone := true }) run0)), by decide⟩,
    ⟨5, true, false, modCan 0 (fun c => { c with joined := true }) (modCan 1 (fun c => { c with joined := true }) (modFe (fun e => { e with verDone := true }) run0)), by decide⟩,
    ⟨⟨5, true, false⟩, modCan 0 (fun c => { c with joined := true }) (modCan 1 (fun c => { c with joined := true }) run0), by decide⟩⟩

set_option maxRecDepth 8000 in
theorem wit_EicEvents :
    (∃ (t : Nat) (src : Fin 512) (s : State),
      src.val < 480 ∧ isHostSrc src = true ∧ s.eic.active.getLsbD src = false) ∧
    (∃ (t : Nat) (src : Fin 512) (s : State),
      src.val < 480 ∧ isHostSrc src = true ∧ s.eic.active.getLsbD src = false ∧ s.eic.pend.getLsbD src = false ∧ s.eic.mask.getLsbD src = false ∧ bget 0 s.eic.asleepFrom src = 0 ∧ (grpOf s (groupOf s src)).n + 1 < (grpOf s (groupOf s src)).count) ∧
    (∃ (t : Nat) (src : Fin 512) (s : State),
      src.val < 480 ∧ isHostSrc src = true ∧ s.eic.active.getLsbD src = false ∧ s.eic.pend.getLsbD src = false ∧ s.eic.mask.getLsbD src = false ∧ bget 0 s.eic.asleepFrom src = 0 ∧ (grpOf s (groupOf s src)).count ≤ (grpOf s (groupOf s src)).n + 1 ∧ targetOf s (groupOf s src) < 6) ∧
    (∃ (t : Nat) (src : Fin 512) (s : State),
      src.val < 480 ∧ s.eic.active.getLsbD src = true) ∧
    (∃ (t : Nat) (src : Fin 512) (s : State),
      s.eic.pend.getLsbD src = true ∧ s.eic.level.getLsbD src = true ∧ s.eic.active.getLsbD src = false) ∧
    (∃ (t : Nat) (src : Fin 512) (s : State),
      s.eic.level.getLsbD src = false) ∧
    (∃ (t : Nat) (src : Fin 512) (s : State),
      s.eic.active.getLsbD src = true ∧ s.eic.level.getLsbD src = true) ∧
    (∃ (t : Nat) (g : Fin 32) (s : State) (a : Nat),
      (grpOf s g).since = some a ∧ a + (grpOf s g).time * 250 * nsU ≤ instant s t) :=
  ⟨⟨5, 288, run0, by decide⟩,
    ⟨5, 288, modGrp 8 (fun c => { c with count := 3, n := 1, since := some 2 }) (modEic (fun e => { e with mask := 0 }) run0), by decide⟩,
    ⟨5, 288, modGrp 8 (fun c => { c with count := 2, n := 1, since := some 2, target := 5 }) (modEic (fun e => { e with mask := 0 }) run0), by decide⟩,
    ⟨5, 288, modEic (fun e => { e with active := srcBit 288 }) run0, by decide⟩,
    ⟨5, 448, modEic (fun e => { e with pend := srcBit 448, level := srcBit 448 }) run0, by decide⟩,
    ⟨5, 448, modEic (fun e => { e with pend := srcBit 448 }) run0, by decide⟩,
    ⟨5, 450, modEic (fun e => { e with active := srcBit 450, level := srcBit 450 }) run0, by decide⟩,
    ⟨32000, 31, modGrp 31 (fun c => { c with n := 3, since := some 0, time := 1 }) run0, 0, by decide⟩⟩

set_option maxRecDepth 8000 in
theorem wit_EicServiceAndArrays :
    (∃ (t : Nat) (who : Claimant) (n : Fin 512) (s : State),
      claimable s who n = true ∧ (∀ m < n.val, claimable s who m = false)) ∧
    (∃ (t : Nat) (who : Claimant) (s : State),
      (∀ m : Fin 512, claimable s who m = false)) ∧
    (∃ (t : Nat) (who : Claimant) (src : Fin 512) (s : State),
      s.eic.active.getLsbD src = true ∧ bget 0 s.eic.owner src = ownerOf who ∧ targetOf s (groupOf s src) ≠ 7) ∧
    (∃ (t : Nat) (f : Fin 2) (src : Fin 512) (s : State),
      s.eic.active.getLsbD src = false) ∧
    (∃ (t : Nat) (j : Fin 16) (w : BitVec 32) (i : Fin 32) (s : State),
      w.getLsbD i = true ∧ isHostSrc (32 * j + i) = true) ∧
    (∃ (t : Nat) (j : Fin 16) (w : BitVec 32) (i : Fin 32) (s : State),
      w.getLsbD i = true ∧ isHostSrc (32 * j + i) = true ∧ s.eic.level.getLsbD (32 * j + i) = false) ∧
    (∃ (t : Nat) (j : Fin 16) (w : BitVec 32) (i : Fin 32) (s : State),
      w.getLsbD i = true ∧ isHostSrc (32 * j + i) = true) ∧
    (∃ (t : Nat) (j : Fin 16) (w : BitVec 32) (i : Fin 32) (s : State),
      w.getLsbD i = true ∧ isHostSrc (32 * j + i) = true) ∧
    (∃ (t : Nat) (j : Fin 16) (w : BitVec 32) (n : Fin 512) (s : State),
      isHostSrc n = false) ∧
    (∃ (t : Nat) (j : Fin 16) (w : BitVec 32) (n : Fin 512) (s : State),
      isHostSrc n = false) :=
  ⟨⟨5, .pf 1, 100, modEic (fun e => { e with pend := srcBit 100 ||| srcBit 101, mask := 0 }) run0, by decide⟩,
    ⟨5, .core 3, run0, by decide⟩,
    ⟨5, .pf 1, 288, modEic (fun e => { e with active := srcBit 288, owner := [(288, 14)] }) run0, by decide⟩,
    ⟨5, 1, 288, run0, by decide⟩,
    ⟨5, 9, 1, 0, run0, by decide⟩,
    ⟨5, 9, 1, 0, modEic (fun e => { e with pend := srcBit 288 }) run0, by decide⟩,
    ⟨5, 9, 1, 0, run0, by decide⟩,
    ⟨5, 9, 1, 0, modEic (fun e => { e with mask := srcBit 288 }) run0, by decide⟩,
    ⟨5, 0, 0xFFFFFFFF, 0, run0, by decide⟩,
    ⟨5, 0, 0xFFFFFFFF, 0, modEic (fun e => { e with mask := srcBit 0 }) run0, by decide⟩⟩

set_option maxRecDepth 8000 in
theorem wit_EicAsleepAndLog :
    (∃ (t : Nat) (n : Fin 512) (s : State),
      (eicReady s).getLsbD n = true ∧ s.eic.moved.getLsbD n = false ∧ targetOf s (groupOf s n) = 6 ∧ hostAwake s (grpOf s (groupOf s n)).func = false ∧ bget 0 s.eic.asleepFrom n = 0) ∧
    (∃ (t : Nat) (n : Fin 512) (s : State),
      (eicReady s).getLsbD n = true ∧ s.eic.moved.getLsbD n = false ∧ targetOf s (groupOf s n) < 6 ∧ s.dev = .run ∧ bget 0 s.eic.asleepFrom n ≠ 0) ∧
    (∃ (t : Nat) (src : Fin 512) (s : State),
      bget 0 s.eic.wakeReq src ≠ 0 ∧ targetAsleep s src = true ∧ bget 0 s.eic.wakeReq src - 1 + parN s 0x7402 0 * msU ≤ instant s t) ∧
    (∃ (t : Nat) (src : Fin 512) (s : State),
      bget 0 s.eic.asleepFrom src ≠ 0 ∧ (eicReady s).getLsbD src = true ∧ s.eic.moved.getLsbD src = false ∧ targetAsleep s src = true ∧ s.eic.noWake.getLsbD src = true ∧ bget 0 s.eic.asleepFrom src - 1 + parN s 0x7401 0 * usU ≤ instant s t ∧ LogRoom s 1) ∧
    (∃ (t : Nat) (s : State) (e : LogE) (r : List LogE),
      s.log.staging = e :: r ∧ periodDue s.log.wroteAt (250 * nsU) (instant s t) = true) ∧
    (∃ (t : Nat) (ep : Fin 10) (tag : BitVec 8) (s : State),
      Accepts s t ep tag 0x7414 0 [1]) :=
  ⟨⟨5, 288, modEic (fun e => { e with pend := srcBit 288, mask := 0 }) run0, by decide⟩,
    ⟨5, 288, modGrp 8 (fun c => { c with target := 5 }) (modEic (fun e => { e with pend := srcBit 288, mask := 0, asleepFrom := [(288, 1)] }) run0), by decide⟩,
    ⟨12800000000000, 288, modEic (fun e => { e with wakeReq := [(288, 1)] }) run0, by decide⟩,
    ⟨12800000000000, 288, modEic (fun e => { e with asleepFrom := [(288, 1)], pend := srcBit 288, mask := 0, noWake := srcBit 288 }) run0, by decide⟩,
    ⟨5, { State.reset with log := { State.reset.log with staging := [{ code := 0x4B07 }], next := 254 } }, { code := 0x4B07 }, [], by decide⟩,
    ⟨5, 1, 9, served run0, by decide⟩⟩

set_option maxRecDepth 8000 in
theorem wit_PcieRings :
    (∃ (t : Nat) (v : BitVec 32) (s : State),
      v.getLsbD 0 = true ∧ (∀ p ∈ s.pci.rings, p.2.enable = false) ∧ negotiate verDev verDev (s.pci.verHost.toNat % 65536) (s.pci.verHost.toNat / 65536) ≠ 0) ∧
    (∃ (t : Nat) (v : BitVec 32) (s : State),
      v.getLsbD 0 = true ∧ (∀ p ∈ s.pci.rings, p.2.enable = false) ∧ negotiate verDev verDev (s.pci.verHost.toNat % 65536) (s.pci.verHost.toNat / 65536) = 0 ∧ LogRoom s 1) ∧
    (∃ (t : Nat) (n : Fin 32) (s : State),
      (ringOf s n).enable = false ∧ s.pci.neg = 1 ∧ s.pci.bme = true ∧ ringConfigOk (ringOf s n) = true) ∧
    (∃ (t : Nat) (n : Fin 32) (s : State),
      (s.pci.neg ≠ 1 ∨ s.pci.bme = false ∨ ringConfigOk (ringOf s n) = false)) ∧
    (∃ (t : Nat) (n : Fin 32) (s : State),
      (ringOf s n).enable = true ∧ n.val ≠ parN s 0x3801 0 ∧ (∀ i ∈ (ringOf s n).waiting, i.hdr = [])) ∧
    (∃ (t : Nat) (n : Fin 32) (s : State),
      (ringOf s n).enable = true) ∧
    (∃ (t : Nat) (n : Fin 32) (addr : BitVec 64) (len : BitVec 32) (w3 : BitVec 32) (s : State),
      ringRunning (ringOf s n) = true ∧ (ringOf s n).fetch ≠ 0 ∧ (ringOf s n).waiting = [] ∧ descOk addr len w3 = true) ∧
    (∃ (t : Nat) (n : Fin 32) (addr : BitVec 64) (len : BitVec 32) (w3 : BitVec 32) (ok : Cpl) (s : State),
      ringRunning (ringOf s n) = true ∧ (ringOf s n).fetch ≠ 0 ∧ (ok ≠ .good ∨ descOk addr len w3 = false) ∧ LogRoom s 1) ∧
    (∃ (t : Nat) (n : Fin 32) (s : State),
      ringRunning (ringOf s n) = true ∧ (ringOf s n).fetch ≠ 0 ∧ (ringOf s n).fetchAt + 50 * msU ≤ instant s t) :=
  ⟨⟨5, 1, modPci (fun p => { p with verHost := 0x01000100 }) run0, by decide⟩,
    ⟨5, 1, modPci (fun p => { p with verHost := 0x02000101 }) run0, by decide⟩,
    ⟨5, 31, modRing 31 (fun r => { r with size := 8, base := 64, tail := 1 }) (modPci (fun p => { p with neg := 1, bme := true }) run0), by decide⟩,
    ⟨5, 31, run0, by decide⟩,
    ⟨5, 31, modRing 31 (fun r => { r with enable := true, waiting := [{ data := [1] }] }) run0, by decide⟩,
    ⟨5, 31, modRing 31 (fun r => { r with enable := true }) run0, by decide⟩,
    ⟨5, 31, 64, 4096, 0, modRing 31 (fun r => { r with enable := true, fetch := 1 }) run0, by decide⟩,
    ⟨5, 31, 32, 4096, 0, .poisoned, modRing 31 (fun r => { r with enable := true, fetch := 1 }) run0, by decide⟩,
    ⟨6400000000, 31, modRing 31 (fun r => { r with enable := true, fetch := 3 }) run0, by decide⟩⟩

set_option maxRecDepth 8000 in
theorem wit_PcieLink :
    (∃ (t : Nat) (lane : LaneReport) (reversal : Bool) (s : State),
      lane.lost = false ∧ lane.errs ≤ parN s 0x7804 0 ∧ lane.errs ≠ 0) ∧
    (∃ (t : Nat) (lane : LaneReport) (reversal : Bool) (s : State),
      s.pci.dlUp = true ∧ s.pci.retraining = false ∧ s.pci.failed.getLsbD lane.lane = false ∧ (lane.lost = true ∨ parN s 0x7804 0 < lane.errs) ∧ (narrowed (s.pci.failed ||| BitVec.ofNat 4 (2 ^ lane.lane.val)) reversal).1 ≠ 0 ∧ LogRoom s 1) ∧
    (∃ (t : Nat) (lane : LaneReport) (reversal : Bool) (s : State),
      s.pci.dlUp = true ∧ s.pci.failed.getLsbD lane.lane = false ∧ (lane.lost = true ∨ parN s 0x7804 0 < lane.errs) ∧ (narrowed (s.pci.failed ||| BitVec.ofNat 4 (2 ^ lane.lane.val)) reversal).1 = 0) ∧
    (∃ (t : Nat) (speed : Fin 5) (width : Fin 5) (s : State) (it : WItem),
      s.pci.perst = false ∧ s.pci.dlUp = false ∧ s.pci.retraining = true ∧ s.pci.staged = [(33, it)]) ∧
    (∃ (t : Nat) (speed : Fin 5) (width : Fin 5) (s : State),
      s.pci.perst = false ∧ s.pci.dlUp = false ∧ s.pci.retraining = true) ∧
    (∃ (t : Nat) (speed : Fin 5) (width : Fin 5) (s : State),
      s.pci.perst = false ∧ s.pci.dlUp = false ∧ s.pci.retraining = false) ∧
    (∃ (t : Nat) (s : State),
      s.pci.retraining = true ∧ s.pci.retrainAt + parN s 0x7803 0 * msU ≤ instant s t) ∧
    (∃ (t : Nat) (v : BitVec 32) (s : State),
      v.getLsbD 0 = true ∧ s.pci.failed = 0 ∧ s.pci.dlUp = true) ∧
    (∃ (t : Nat) (f : Fin 2) (n : Fin 512) (s : State),
      (eicReady s).getLsbD n = true ∧ s.eic.moved.getLsbD n = false ∧ targetOf s (groupOf s n) = 6 ∧ (grpOf s (groupOf s n)).func = f ∧ hostAwake (modPci (fun p => { p with d3 := bset p.d3 f false }) s) f = true ∧ bget 0 s.eic.asleepFrom n ≠ 0) ∧
    (∃ (t : Nat) (s : State),
      s.pci.perst = false) ∧
    (∃ (t : Nat) (s : State),
      s.pci.perst = true ∧ s.rst.phase = .none ∧ LogRoom s 1) ∧
    (∃ (t : Nat) (s : State),
      s.pci.perst = true ∧ s.rst.phase ≠ .none) :=
  ⟨⟨5, { lane := 3, errs := 1, lost := false }, true, modPci (fun p => { p with dlUp := true, trained := 4 }) run0, by decide⟩,
    ⟨5, { lane := 3, errs := 0, lost := true }, true, modPci (fun p => { p with dlUp := true, trained := 4 }) run0, by decide⟩,
    ⟨5, { lane := 3, errs := 0, lost := true }, false, modPci (fun p => { p with dlUp := true, trained := 4, failed := 1 }) run0, by decide⟩,
    ⟨5, 3, 4, modPci (fun p => { p with retraining := true, width := 2, staged := [(33, { data := [7] })] }) run0, { data := [7] }, by decide⟩,
    ⟨5, 3, 4, modPci (fun p => { p with retraining := true, width := 2 }) run0, by decide⟩,
    ⟨5, 3, 4, run0, by decide⟩,
    ⟨128000000000000, modPci (fun p => { p with retraining := true }) run0, by decide⟩,
    ⟨5, 1, modPci (fun p => { p with dlUp := true }) run0, by decide⟩,
    ⟨5, 1, 288, modGrp 8 (fun c => { c with target := 6, func := 1 }) (modEic (fun e => { e with pend := srcBit 288, mask := 0, asleepFrom := [(288, 1)] }) (modPci (fun p => { p with d3 := [(1, true)], msixOn := [(1, true)], dlUp := true }) run0)), by decide⟩,
    ⟨5, run0, by decide⟩,
    ⟨5, modRst (fun r => { r with phase := .none }) (modPci (fun p => { p with perst := true }) run0), by decide⟩,
    ⟨5, modPci (fun p => { p with perst := true }) run0, by decide⟩⟩

set_option maxRecDepth 8000 in
theorem wit_RegisterAccess :
    (∃ (t : Nat) (f : Fin 2) (ofs : BitVec 18) (s : State),
      readRowed f (ofs.toNat / 4 * 4) = false) ∧
    (∃ (t : Nat) (n : Fin 32) (v : BitVec 32) (s : State),
      (ringOf s n).enable = false) ∧
    (∃ (t : Nat) (n : Fin 32) (v : BitVec 32) (s : State),
      (ringOf s n).enable = true) ∧
    (∃ (t : Nat) (v : BitVec 32) (s : State),
      v.getLsbD 2 = true) ∧
    (∃ (t : Nat) (f : Fin 2) (v : BitVec 32) (s : State),
      v.getLsbD 15 = false) ∧
    (∃ (t : Nat) (f : Fin 2) (v : BitVec 32) (s : State),
      bget false s.pci.d3 f = false ∧ v.toNat % 4 = 3) ∧
    (∃ (t : Nat) (v : BitVec 32) (s : State),
      v.getLsbD 31 = true) :=
  ⟨⟨5, 0, 0x14, modPci (fun p => { p with maxHold := 7 }) run0, by decide⟩,
    ⟨5, 31, 64, run0, by decide⟩,
    ⟨5, 31, 64, modRing 31 (fun r => { r with enable := true }) run0, by decide⟩,
    ⟨5, 4, run0, by decide⟩,
    ⟨5, 1, 0x20, run0, by decide⟩,
    ⟨5, 1, 3, run0, by decide⟩,
    ⟨5, 0x80000000, { run0 with log := { run0.log with first := some {} } }, by decide⟩⟩

set_option maxRecDepth 8000 in
theorem wit_ScanLinkReplay :
    (∃ (t : Nat) (lane : Fin 8) (seq : BitVec 8) (s : State),
      (laneOf s lane).st = 4 ∧ (laneOf s lane).rxSleep = false ∧ (laneOf s lane).queue = [] ∧ (∀ p ∈ (laneOf s lane).replay, p.2.1 ≠ tyIrq)) ∧
    (∃ (t : Nat) (lane : Fin 8) (seq : BitVec 8) (s : State),
      (laneOf s lane).st = 3 ∧ (laneOf s lane).capSame = true ∧ (laneOf s lane).tryRate = none ∧ (laneOf s lane).rxSleep = false ∧ LogRoom s 1) ∧
    (∃ (t : Nat) (lane : Fin 8) (seq : BitVec 8) (s : State),
      (laneOf s lane).st = 4 ∧ (laneOf s lane).rxSleep = false ∧ (laneOf s lane).txSleep = false ∧ (laneOf s lane).sleepAck = none ∧ (laneOf s lane).queue = [] ∧ (∀ p ∈ (laneOf s lane).replay, p.2.1 ≠ tyIrq)) ∧
    (∃ (t : Nat) (lane : Fin 8) (s : State) (a : Nat),
      (laneOf s lane).sleepAck = none ∧ (laneOf s lane).waitFrom = some a ∧ (laneOf s lane).st = 4 ∧ (laneOf s lane).txSleep = false ∧ a + 20 * usU ≤ instant s t) ∧
    (∃ (t : Nat) (lane : Fin 8) (s : State) (a : Nat),
      (laneOf s lane).sleepAck = some a ∧ a + 100 * usU ≤ instant s t) :=
  ⟨⟨5, 7, 1, modLane 7 (fun l => { l with st := 4, replay := [(0, tyTime, []), (1, tyTime, []), (2, tyTime, [])] }) run0, by decide⟩,
    ⟨5, 7, 1, modLane 7 (fun l => { l with st := 3, capSame := true }) run0, by decide⟩,
    ⟨5, 7, 1, modLane 7 (fun l => { l with st := 4, replay := [(0, tyTime, []), (1, tyTime, []), (2, tyTime, [])] }) run0, by decide⟩,
    ⟨2560000, 7, modLane 7 (fun l => { l with st := 4, waitFrom := some 0, replay := [(0, tyTime, []), (1, tyTime, []), (2, tyTime, [])] }) run0, 0, by decide⟩,
    ⟨12800000, 7, modLane 7 (fun l => { l with st := 4, sleepAck := some 0 }) run0, 0, by decide⟩⟩

set_option maxRecDepth 8000 in
theorem wit_ScanLinkNegotiation :
    (∃ (t : Nat) (lane : Fin 8) (payload : List Byte) (s : State),
      ((laneOf s lane).st = 2 ∨ (laneOf s lane).st = 3 ∨ (laneOf s lane).st = 5) ∧ negotiate verDev verDev (ofLe (payload.take 2)) (ofLe ((payload.drop 2).take 2)) ≠ 0 ∧ (laneOf s lane).rxSleep = false) ∧
    (∃ (t : Nat) (lane : Fin 8) (payload : List Byte) (s : State),
      ((laneOf s lane).st = 2 ∨ (laneOf s lane).st = 3) ∧ negotiate verDev verDev (ofLe (payload.take 2)) (ofLe ((payload.drop 2).take 2)) = 0 ∧ LogRoom s 1 ∧ (laneOf s lane).rxSleep = false) ∧
    (∃ (t : Nat) (lane : Fin 8) (s : State),
      (laneOf s lane).st = 3 ∧ periodDue (laneOf s lane).capAt (100 * usU) (instant s t) = true ∨
        (laneOf s lane).st = 5 ∧ periodDue (laneOf s lane).capAt secU (instant s t) = true ∨
        (laneOf s lane).st = 4 ∧ (laneOf s lane).capVer ≠ s.pt.ver ∧ (laneOf s lane).txSleep = false) ∧
    (∃ (t : Nat) (lane : Fin 8) (s : State),
      (laneOf s lane).st = 2 ∧ periodDue (laneOf s lane).capAt (100 * usU) (instant s t) = true ∧ (laneOf s lane).txSleep = false) ∧
    (∃ (t : Nat) (lane : Fin 8) (s : State) (r : Nat),
      (laneOf s lane).tryRate = some r ∧ (laneOf s lane).tryAt + 10 * msU ≤ instant s t) ∧
    (∃ (t : Nat) (lane : Fin 8) (s : State),
      (laneOf s lane).st = 1 ∧ (laneOf s lane).rxSleep = false) ∧
    (∃ (t : Nat) (lane : Fin 8) (s : State) (r : Nat),
      (laneOf s lane).st = 3 ∧ (laneOf s lane).tryRate = some r ∧ (laneOf s lane).txSleep = false ∧ (laneOf s lane).rxSleep = false) ∧
    (∃ (t : Nat) (lane : Fin 8) (errs : Nat) (s : State),
      2 ≤ (laneOf s lane).st ∧ (laneOf s lane).st ≤ 5 ∧ (laneOf s lane).rxSleep = false) ∧
    (∃ (t : Nat) (lane : Fin 8) (errs : Nat) (s : State),
      (laneOf s lane).rxSleep = true) :=
  ⟨⟨5, 7, [0, 1, 0, 1, 0, 1, 7, 0], modLane 7 (fun l => { l with st := 2 }) run0, by decide⟩,
    ⟨5, 7, [0, 2, 0, 3, 0, 1, 7, 0], modLane 7 (fun l => { l with st := 2 }) run0, by decide⟩,
    ⟨5, 7, modLane 7 (fun l => { l with st := 5 }) run0, by decide⟩,
    ⟨5, 7, modLane 7 (fun l => { l with st := 2 }) run0, by decide⟩,
    ⟨1280000000, 7, modLane 7 (fun l => { l with st := 3, tryRate := some 2, partnerRates := 3 }) run0, 2, by decide⟩,
    ⟨5, 7, modLane 7 (fun l => { l with st := 1 }) run0, by decide⟩,
    ⟨5, 7, modLane 7 (fun l => { l with st := 3, tryRate := some 2 }) run0, 2, by decide⟩,
    ⟨5, 7, 16, modLane 7 (fun l => { l with st := 4, rate := 2, replay := [(0, tyTime, [])] }) run0, by decide⟩,
    ⟨5, 7, 16, modLane 7 (fun l => { l with st := 4, rxSleep := true }) run0, by decide⟩⟩

set_option maxRecDepth 8000 in
theorem wit_ScanLinkReceive :
    (∃ (t : Nat) (lane : Fin 8) (rx : SlkRx) (s : State),
      TakesSlk s lane rx) ∧
    (∃ (t : Nat) (lane : Fin 8) (rx : SlkRx) (payload : List Byte) (s : State),
      TakesSlk s lane rx ∧ (laneOf s lane).ofsValid = false) ∧
    (∃ (t : Nat) (lane : Fin 8) (rx : SlkRx) (payload : List Byte) (n : Fin 16) (s : State),
      TakesSlk s lane rx ∧ (laneOf s lane).ofsValid = true ∧ bit (parN s 0x681C 0) lane = true ∧ bit (parN s 0x6816 n) 4 = true ∧ strState (s.start t) n = 1) ∧
    (∃ (t : Nat) (lane : Fin 8) (rx : SlkRx) (payload : List Byte) (s : State),
      TakesSlk s lane rx ∧ s.eic.active.getLsbD (384 + lane) = false) ∧
    (∃ (t : Nat) (lane : Fin 8) (rx : SlkRx) (data : List Byte) (s : State),
      TakesSlk s lane rx) ∧
    (∃ (t : Nat) (lane : Fin 8) (rx : SlkRx) (data : List Byte) (s : State),
      TakesSlk s lane rx ∧ (laneOf s lane).xopen = true ∧ delivers s (2 + lane) = true ∧ (parseReq ((laneOf s lane).xmsg ++ data)).good = false) ∧
    (∃ (lane : Fin 8) (rx : SlkRx) (s : State), BadSlk s lane rx) :=
  ⟨⟨5, 7, { seq := 0, good := true }, modLane 7 (fun l => { l with st := 4 }) run0, by decide⟩,
    ⟨5, 7, { seq := 0, good := true }, [], modLane 7 (fun l => { l with st := 4 }) run0, by decide⟩,
    ⟨5, 7, { seq := 0, good := true }, [1, 2, 3, 4, 5, 6, 7, 8], 15, setPar 0x681C 0 (.int 255) (setPar 0x6816 15 (.int 16) (modStr 15 (fun x => { x with st := 1 }) (modLane 7 (fun l => { l with st := 4, ofsValid := true }) run0))), by decide⟩,
    ⟨5, 7, { seq := 0, good := true }, [1, 2, 3, 4, 5, 6, 7, 8], modLane 7 (fun l => { l with st := 4, ofsValid := true }) run0, by decide⟩,
    ⟨5, 7, { seq := 0, good := true }, [1, 2, 3, 4, 5, 6, 7, 8], modLane 7 (fun l => { l with st := 4, ofsValid := true }) run0, by decide⟩,
    ⟨5, 7, { seq := 0, good := true }, [1, 2, 3, 4, 5, 6, 7, 8], served (modLane 7 (fun l => { l with st := 4, xopen := true }) run0), by decide⟩,
    ⟨7, { seq := 1, good := true }, modLane 7 (fun l => { l with st := 4 }) run0, by decide⟩⟩

set_option maxRecDepth 8000 in
theorem wit_ScanLinkTime :
    (∃ (t : Nat) (lane : Fin 8) (s : State),
      (laneOf s lane).rxSleep = false) ∧
    (∃ (t : Nat) (lane : Fin 8) (s : State),
      (laneOf s lane).st = 4 ∧ (laneOf s lane).txSleep = false ∧ markerDue (s.start t) lane = true) ∧
    (∃ (t : Nat) (lane : Fin 8) (rx : SlkRx) (payload : List Byte) (s : State) (r : BitVec 64) (p : BitVec 16 × BitVec 64),
      TakesSlk s lane rx ∧ (laneOf s lane).partnerLoads = some (BitVec.ofNat 16 (ofLe ((payload.drop 20).take 2))) ∧ (laneOf s lane).markIn = some r ∧ (laneOf s lane).markSent.find? (fun p => p.1.toNat == ofLe ((payload.drop 18).take 2)) = some p) ∧
    (∃ (t : Nat) (lane : Fin 8) (rx : SlkRx) (payload : List Byte) (s : State) (a : BitVec 16),
      TakesSlk s lane rx ∧ (laneOf s lane).partnerLoads = some a ∧ a ≠ BitVec.ofNat 16 (ofLe ((payload.drop 20).take 2))) ∧
    (∃ (t : Nat) (lane : Fin 8) (s : State),
      (laneOf s lane).ofsValid = true ∧ (laneOf s lane).pairAt + 10 * msU ≤ instant s t ∧ LogRoom s 1) ∧
    (∃ (t : Nat) (lane : Fin 8) (rx : SlkRx) (payload : List Byte) (s : State),
      TakesSlk s lane rx ∧ payload.length = 20 ∧ (laneOf s lane).ofsValid = true) ∧
    (∃ (t : Nat) (s : State) (e : Nat),
      s.slk.syncFrom = some e ∧ e + secU ≤ instant s t) :=
  ⟨⟨5, 7, run0, by decide⟩,
    ⟨5, 7, modLane 7 (fun l => { l with st := 4 }) run0, by decide⟩,
    ⟨5, 7, { seq := 0, good := true }, leBytes 8 1000 ++ leBytes 8 900 ++ leBytes 2 1 ++ leBytes 2 1 ++ leBytes 2 3, modLane 7 (fun l => { l with st := 4, markSent := [(1, 800)], markIn := some 1200, partnerLoads := some 3 }) run0, 1200, (1, 800), by decide⟩,
    ⟨5, 7, { seq := 0, good := true }, leBytes 8 1000 ++ leBytes 8 900 ++ leBytes 2 1 ++ leBytes 2 1 ++ leBytes 2 3, modLane 7 (fun l => { l with st := 4, ofsValid := true, thetas := [5, 6], markSent := [(1, 800)], markIn := some 1200, partnerLoads := some 2 }) run0, 2, by decide⟩,
    ⟨1280000000, 7, modLane 7 (fun l => { l with st := 4, ofsValid := true }) run0, by decide⟩,
    ⟨5, 7, { seq := 0, good := true }, leBytes 20 1000, modLane 7 (fun l => { l with st := 4, ofsValid := true }) run0, by decide⟩,
    ⟨128000000000, { run0 with slk := { run0.slk with syncFrom := some 0 } }, 0, by decide⟩⟩

set_option maxRecDepth 8000 in
theorem wit_ScanLinkForwardAndSleep :
    (∃ (t : Nat) (lane : Fin 8) (rx : SlkRx) (data : List Byte) (s : State),
      TakesSlk s lane rx ∧ ringTakes s (fwdPtRing s lane) = true ∧ (laneOf s lane).fwdQ = [] ∧ (laneOf s lane).fwdHdrs = [] ∧ (laneOf s lane).fwdTrunc = false ∧ data.length = 16) ∧
    (∃ (t : Nat) (lane : Fin 8) (rx : SlkRx) (data : List Byte) (s : State),
      TakesSlk s lane rx ∧ ringTakes s (fwdHdrRing s lane) = true ∧ (ringOf s (fwdPtRing s lane)).waiting = [] ∧ (laneOf s lane).fwdQ = [] ∧ (laneOf s lane).fwdHdrs = []) ∧
    (∃ (t : Nat) (ep : Fin 10) (tag : BitVec 8) (lane : Fin 8) (s : State),
      Accepts s t ep tag 0x7C18 lane [1] ∧ (laneOf s lane).st = 4 ∧ (laneOf s lane).txSleep = false ∧ (laneOf s lane).sleepAck = none) ∧
    (∃ (t : Nat) (ep : Fin 10) (tag : BitVec 8) (lane : Fin 8) (s : State),
      Accepts s t ep tag 0x7C18 lane [0]) ∧
    (∃ (t : Nat) (lane : Fin 8) (s : State),
      (laneOf s lane).txSleep = true ∧ parB s 0x7C1A lane = true ∧ (laneOf s lane).queue ≠ []) :=
  ⟨⟨5, 7, { seq := 0, good := true }, leBytes 16 7, modRing 5 (fun r => { r with enable := true, tail := 1, buf := some { addr := 0, len := 4096 } }) (setPar 0x7C12 7 (.int 5) (modLane 7 (fun l => { l with st := 4, ofsValid := true }) run0)), by decide⟩,
    ⟨5, 7, { seq := 0, good := true }, leBytes 64 7, modRing 6 (fun r => { r with enable := true, tail := 1, buf := some { addr := 0, len := 4096 } }) (setPar 0x7C13 7 (.int 6) (modLane 7 (fun l => { l with st := 4, ofsValid := true }) run0)), by decide⟩,
    ⟨5, 1, 3, 7, served (modLane 7 (fun l => { l with st := 4, ofsValid := true }) run0), by decide⟩,
    ⟨5, 1, 3, 7, served (modLane 7 (fun l => { l with st := 4, txSleep := true }) run0), by decide⟩,
    ⟨5, 7, setPar 0x7C1A 7 (.int 1) (modLane 7 (fun l => { l with st := 4, txSleep := true, queue := [(tyTime, [])] }) run0), by decide⟩⟩

set_option maxRecDepth 8000 in
theorem wit_RecorderStreams :
    (∃ (t : Nat) (n : Fin 16) (s : State) (i : Item) (q : List Item),
      (strOf s n).queue = i :: q ∧ (strState (s.start t) n = 1 ∨ strState (s.start t) n = 2) ∧ parB s 0x6800 0 = true ∧ ((strOf s n).st = 2 → (strOf s n).postBytes < postMax s n) ∧ i.data.length ≤ blockBytes ∧ (segOf s n (strOf s n).seg).used < blockBytes ∧ (segOf s n (strOf s n).seg).data.length = blockBytes * (segOf s n (strOf s n).seg).index.length + (segOf s n (strOf s n).seg).used) ∧
    (∃ (t : Nat) (n : Fin 16) (s : State),
      strState (s.start t) n = 1 ∧ bit (parN s 0x6816 n) 5 = true ∧ (strOf s n).armAt + parN s 0x681A 0 * msU ≤ instant s t) ∧
    (∃ (t : Nat) (n : Fin 16) (s : State) (g : Nat),
      (strOf s n).st = 2 ∧ postMax s n ≤ (strOf s n).postBytes ∧ (upto (segCount s n)).find? (fun g => g != (strOf s n).seg && (segOf s n g).sealRec.isNone) = some g) ∧
    (∃ (t : Nat) (n : Fin 16) (s : State),
      (strOf s n).st = 2 ∧ postMax s n ≤ (strOf s n).postBytes ∧ (∀ g < segCount s n, g ≠ (strOf s n).seg → (segOf s n g).sealRec.isSome = true) ∧ parB s 0x6817 n = false) ∧
    (∃ (t : Nat) (n : Fin 16) (s : State),
      ((strOf s n).st = 1 ∨ (strOf s n).st = 2) ∧ parB s 0x6800 0 = true ∧ (strOf s n).keyAt + parN s 0x6819 0 * msU ≤ instant s t) ∧
    (∃ (t : Nat) (g : Fin 8) (n : Fin 16) (s : State),
      periodDue s.car.groupsAt (10 * usU) (instant s t) = true ∧ bget 0 s.car.groups g ≠ groupValue (s.start t) g ∧ (∀ k : Fin 8, k ≠ g → bget 0 s.car.groups k = groupValue (s.start t) k) ∧ recTakes s n 7 g = true ∧ recQueued s n + 256 ≤ recQueueMax) ∧
    (∃ (t : Nat) (ch : Fin 4) (n : Fin 16) (s : State),
      s.car.chOos.getLsbD ch = false ∧ ((strOf s n).st = 0 ∨ (strOf s n).st = 4 ∨ (strOf s n).st = 5)) ∧
    (∃ (t : Nat) (ch : Fin 4) (s : State),
      s.car.chOos.getLsbD ch = false ∧ LogRoom s 1) :=
  ⟨⟨5, 15, setPar 0x6800 0 (.int 1) (modStr 15 (fun x => { x with st := 1, queue := [{ t := 1, data := [1, 2] }] }) run0), { t := 1, data := [1, 2] }, [], by decide⟩,
    ⟨12800000000000, 15, setPar 0x6816 15 (.int 32) (modStr 15 (fun x => { x with st := 1 }) run0), by decide⟩,
    ⟨5, 15, setPar 0x6813 15 (.int 2) (modStr 15 (fun x => { x with st := 2, postBytes := 1048576000 }) run0), 1, by decide⟩,
    ⟨5, 15, setPar 0x6813 15 (.int 1) (setPar 0x6817 15 (.int 0) (modStr 15 (fun x => { x with st := 2, postBytes := 1048576000 }) run0)), by decide⟩,
    ⟨12800000000000, 15, setPar 0x6811 15 (.int 0x81) (setPar 0x6800 0 (.int 1) (modStr 15 (fun x => { x with st := 1, source := 7 }) run0)), by decide⟩,
    ⟨5, 3, 15, setPar 0x6811 15 (.int 255) (setPar 0x6800 0 (.int 1) (modStr 15 (fun x => { x with st := 1, source := 7 }) (modRec (fun c => { c with groups := (upto 8).map fun k => (k, if k = 3 then 9999 else groupValue run0 k) }) run0))), by decide⟩,
    ⟨5, 3, 15, modStr 15 (fun x => { x with st := 5 }) run0, by decide⟩,
    ⟨5, 3, modRec (fun c => { c with capMiB := 4096 }) run0, by decide⟩⟩

set_option maxRecDepth 8000 in
theorem wit_RecorderHost :
    (∃ (t : Nat) (ep : Fin 10) (tag : BitVec 8) (n : Fin 16) (s : State),
      Accepts s t ep tag 0x681F 0 [1] ∧ bit (parN s 0x6816 n) 0 = true ∧ strState (s.start t) n = 1) ∧
    (∃ (t : Nat) (ep : Fin 10) (tag : BitVec 8) (v : BitVec 16) (s : State),
      Accepts s t ep tag 0x6822 0 (leBytes 2 v.toNat) ∧ v.toNat / 256 < 32 ∧ (ringKinds s (v.toNat / 256)).all (· == 5) = true ∧ (segOf s (bits v.toNat 7 4) (bits v.toNat 2 0)).sealRec.isSome = true) ∧
    (∃ (t : Nat) (ep : Fin 10) (tag : BitVec 8) (v : BitVec 16) (s : State),
      Accepts s t ep tag 0x6822 0 (leBytes 2 v.toNat) ∧ (segOf s (bits v.toNat 7 4) (bits v.toNat 2 0)).sealRec = none) ∧
    (∃ (t : Nat) (s : State) (ring : Nat) (n : Nat) (g : Nat) (k : Nat) (r : List (BitVec 32)),
      s.car.read = some (ring, n, g, k) ∧ ringTakes s ring = true ∧ s.car.readFirst = false ∧ (segOf s n g).index[k]? = some r) ∧
    (∃ (t : Nat) (s : State) (ring : Nat) (n : Nat) (g : Nat) (k : Nat),
      s.car.read = some (ring, n, g, k) ∧ ringTakes s ring = true ∧ s.car.readFirst = true) ∧
    (∃ (t : Nat) (s : State) (ring : Nat) (n : Nat) (g : Nat) (k : Nat),
      s.car.read = some (ring, n, g, k) ∧ ringTakes s ring = true ∧ s.car.readFirst = false ∧ (segOf s n g).index[k]? = none) ∧
    (∃ (t : Nat) (ep : Fin 10) (tag : BitVec 8) (v : BitVec 8) (s : State),
      Accepts s t ep tag 0x6821 0 (leBytes 1 v.toNat) ∧ (strOf s (bits v.toNat 7 4)).st ≠ 4) ∧
    (∃ (t : Nat) (ep : Fin 10) (tag : BitVec 8) (v : BitVec 16) (n : Fin 16) (s : State),
      Accepts s t ep tag 0x6820 0 (leBytes 2 v.toNat) ∧ v.getLsbD n = true ∧ (strOf s n).st = 5 ∧ (segOf s n 0).sealRec = none) ∧
    (∃ (t : Nat) (ep : Fin 10) (tag : BitVec 8) (v : BitVec 16) (n : Fin 16) (s : State),
      Accepts s t ep tag 0x6824 0 (leBytes 2 v.toNat) ∧ v.getLsbD n = true) :=
  ⟨⟨5, 1, 3, 15, served (setPar 0x6816 15 (.int 1) (modStr 15 (fun x => { x with st := 1 }) run0)), by decide⟩,
    ⟨5, 1, 3, 0x1FF0, served (modSeg 15 0 (fun x => { x with sealRec := some [] }) run0), by decide⟩,
    ⟨5, 1, 3, 0x1FF0, served run0, by decide⟩,
    ⟨5, modRing 3 (fun r => { r with enable := true, tail := 1 }) (modSeg 15 0 (fun x => { x with index := [[]] }) (modRec (fun c => { c with read := some (3, 15, 0, 0) }) run0)), 3, 15, 0, 0, [], by decide⟩,
    ⟨5, modRing 3 (fun r => { r with enable := true, tail := 1 }) (modRec (fun c => { c with read := some (3, 15, 0, 0), readFirst := true }) run0), 3, 15, 0, 0, by decide⟩,
    ⟨5, modRing 3 (fun r => { r with enable := true, tail := 1 }) (modRec (fun c => { c with read := some (3, 15, 0, 0) }) run0), 3, 15, 0, 0, by decide⟩,
    ⟨5, 1, 3, 0xF0, served (modSeg 15 0 (fun x => { x with sealRec := some [] }) run0), by decide⟩,
    ⟨5, 1, 3, 0x8000, 15, served (modStr 15 (fun x => { x with st := 5 }) run0), by decide⟩,
    ⟨5, 1, 3, 0x8000, 15, served (modStr 15 (fun x => { x with missed := 5 }) run0), by decide⟩⟩

set_option maxRecDepth 8000 in
theorem wit_TimeOfDayAndTimebase :
    (∃ (t : Nat) (rise : Bool) (s : State),
      parB s 0x2820 0 = true ∧ rise = (parN s 0x2821 0 == 0) ∧ (∀ a ∈ s.tbs.ppsLastAt, a + 800 * msU ≤ instant s t) ∧ s.tbs.armed = false) ∧
    (∃ (t : Nat) (rise : Bool) (s : State) (a : Nat),
      parB s 0x2820 0 = true ∧ rise = (parN s 0x2821 0 == 0) ∧ s.tbs.ppsLastAt = some a ∧ instant s t < a + 800 * msU) ∧
    (∃ (t : Nat) (rise : Bool) (s : State),
      parB s 0x2820 0 = true ∧ rise = (parN s 0x2821 0 == 0) ∧ s.tbs.ppsLastAt = none ∧ s.tbs.armed = true ∧ s.tbs.armedAt + msU ≤ instant s t ∧ LogRoom s 1) ∧
    (∃ (t : Nat) (ep : Fin 10) (tag : BitVec 8) (s : State),
      Accepts s t ep tag 0x2825 0 [1]) ∧
    (∃ (t : Nat) (s : State) (a : Nat),
      s.tbs.ppsOk = true ∧ s.tbs.ppsLastAt = some a ∧ a + 1200 * msU ≤ instant s t ∧ LogRoom s 1) ∧
    (∃ (t : Nat) (s : State) (a : Nat) (l : Nat) (f : Fit),
      s.tbs.ppsGateFrom = some a ∧ a + parN s 0x2823 0 * secU ≤ instant s t ∧ s.tbs.ppsLastAt = some l ∧ l < a + parN s 0x2823 0 * secU ∧ f = fmFit s.tbs.ppsGate 1000000000000000) ∧
    (∃ (t : Nat) (s : State),
      s.tbs.freqAt + 600 * secU ≤ instant s t) ∧
    (∃ (t : Nat) (s : State),
      parB s 0x282A 0 = true ∧ (t64Now (s.start t)).toNat % secU = 0 ∧ s.tbs.ppsOutAt = none) ∧
    (∃ (t : Nat) (n : Fin 8) (s : State) (f : Fit),
      parN s 0x2830 n ≠ 0 ∧ fmGateEnd s n ≤ instant s t ∧ f = fmFit ((fmOf (encSettle (s.start t)) n).events.filter fun e => decide ((e - t64At (s.start t) (fmGateEnd s n)).toInt < 0)) ((fmOf s n).est.getD (parN s 0x2832 n))) ∧
    (∃ (t : Nat) (n : Fin 4) (rise : Bool) (s : State),
      s.tbs.encPend = [] ∧ 0 < parN s 0x2841 0) ∧
    (∃ (t : Nat) (n : Fin 4) (m : Fin 4) (rise : Bool) (s : State) (a : Nat) (r : Bool),
      s.tbs.encPend = [(m.val, a, r)] ∧ 0 < parN s 0x2841 0 ∧ a + encStable s ≤ instant s t ∧ bget false s.tbs.encLevel m ≠ r ∧ encRole s m = 1) ∧
    (∃ (t : Nat) (n : Fin 4) (rise : Bool) (s : State),
      s.tbs.encPend = [] ∧ parN s 0x2841 0 = 0 ∧ bget false s.tbs.encLevel n ≠ rise ∧ encRole s n ≠ 1 ∧ encRole s n ≠ 3) ∧
    (∃ (t : Nat) (n : Fin 4) (rise : Bool) (s : State),
      s.tbs.encPend = [] ∧ parN s 0x2841 0 = 0 ∧ bget false s.tbs.encLevel n ≠ rise ∧ encRole s n = 1) ∧
    (∃ (t : Nat) (n : Fin 4) (rise : Bool) (s : State),
      s.tbs.encPend = [] ∧ parN s 0x2841 0 = 0 ∧ bget false s.tbs.encLevel n ≠ rise ∧ encRole s n = 3) ∧
    (∃ (t : Nat) (ref : Bool) (s : State),
      s.dev = .run) ∧
    (∃ (t : Nat) (s : State),
      s.tbs.lock = true ∧ s.tbs.lockAt + secU ≤ instant s t) :=
  ⟨⟨102400000000, true, setPar 0x2820 0 (.int 1) (modTbs (fun c => { c with ppsLastAt := some 0 }) run0), by decide⟩,
    ⟨102399999999, true, setPar 0x2820 0 (.int 1) (modTbs (fun c => { c with ppsLastAt := some 0 }) run0), 0, by decide⟩,
    ⟨128000000, true, setPar 0x2820 0 (.int 1) (setPar 0x2824 0 (.int 12345) (modTbs (fun c => { c with armed := true }) run0)), by decide⟩,
    ⟨5, 1, 3, served { State.reset with dev := .config }, by decide⟩,
    ⟨153600000000, modTbs (fun c => { c with ppsOk := true, ppsLastAt := some 0 }) run0, 0, by decide⟩,
    ⟨512000000000, setPar 0x2823 0 (.int 4) (modTbs (fun c => { c with ppsOk := true, ppsGateFrom := some 0, ppsLastAt := some 256000000000, ppsGate := [0, 128000000000, 256000000000] }) run0), 0, 256000000000, fmFit [0, 128000000000, 256000000000] 1000000000000000, by decide⟩,
    ⟨76800000000000, modTbs (fun c => { c with freqOk := true }) run0, by decide⟩,
    ⟨256000000000, setPar 0x282A 0 (.int 1) run0, by decide⟩,
    ⟨12800000000000, 7, setPar 0x2830 7 (.int 5) (modFm 7 (fun x => { x with events := [0, 128000, 256000, 384000] }) run0), fmFit [0, 128000, 256000, 384000] (parN run0 0x2832 7), by decide⟩,
    ⟨5, 3, true, setPar 0x2841 0 (.int 10) run0, by decide⟩,
    ⟨128000, 3, 2, true, setPar 0x2841 0 (.int 1) (setPar 0x2840 2 (.int 1) (modTbs (fun c => { c with encPend := [(2, 5, true)] }) run0)), 5, true, by decide⟩,
    ⟨5, 3, true, setPar 0x2840 3 (.int 2) (setPar 0x2841 0 (.int 0) run0), by decide⟩,
    ⟨5, 3, true, setPar 0x2841 0 (.int 0) (setPar 0x2840 3 (.int 1) (modTbs (fun c => { c with encCount := 32767 }) run0)), by decide⟩,
    ⟨5, 3, true, setPar 0x2841 0 (.int 0) (setPar 0x2840 3 (.int 3) (setPar 0x2843 0 (.int (-5)) run0)), by decide⟩,
    ⟨5, true, modTbs (fun c => { c with lock := true, refOk := true }) run0, by decide⟩,
    ⟨128000000000, modTbs (fun c => { c with lock := true }) (inhibit .tbLoss (safeCause .tbLoss run0)), by decide⟩⟩

set_option maxRecDepth 8000 in
theorem wit_StampCapture :
    (∃ (t : Nat) (b : Fin 4) (c : Fin 32) (s : State) (sh : Shot),
      (bankOf s b).fired = some sh ∧ isEarly b (s.start t) = false ∧ sh.edge ≤ instant s t + 20 * nsU ∧ instant s t ≤ sh.edge + monTimeout s ∧ tooClose (bankOf s b).lastM 1 (stampFx s (769 + 3 * b) (instant s t) c) = none) ∧
    (∃ (t : Nat) (b : Fin 4) (c : Fin 32) (s : State),
      isEarly b (s.start t) = true) ∧
    (∃ (t : Nat) (b : Fin 4) (s : State) (sh : Shot),
      (bankOf s b).fired = some sh ∧ sh.edge + monTimeout s ≤ instant s t) ∧
    (∃ (t : Nat) (inp : Fin 260) (thr : Fin 3) (rise : Bool) (c : Fin 32) (s : State) (sh : Shot) (d : Nat),
      inp.val < 256 ∧ crossingEarly inp (s.start t) = false ∧ (bankOf s (inp / 64)).shot = some sh ∧ (bankOf s (inp / 64)).tStart.isSome = true ∧ sh.em = inp / 8 ∧ (bankOf s (inp / 64)).monMissed = false ∧ (bankOf s (inp / 64)).winOpen = true ∧ (bankOf s (inp / 64)).guardOpen = false ∧ rxEnabled s inp = true ∧ (chanOf s inp).lastE = [] ∧ (d : Int) = rdiv (stampFx s (3 * inp + thr) (instant s t) c - (bankOf s (inp / 64)).tStartF) 4096 ∧ d < shotWin sh ∧ (chanOf s inp).stamps = []) ∧
    (∃ (t : Nat) (inp : Fin 260) (thr : Fin 3) (rise : Bool) (c : Fin 32) (s : State) (e : LastE),
      inp.val < 256 ∧ crossingEarly inp (s.start t) = false ∧ (bankOf s (inp / 64)).shot = none ∧ (bankOf s (inp / 64)).guardOpen = false ∧ tooClose (chanOf s inp).lastE thr (stampFx s (3 * inp + thr) (instant s t) c) = some e) ∧
    (∃ (t : Nat) (inp : Fin 260) (thr : Fin 3) (rise : Bool) (c : Fin 32) (s : State),
      inp.val < 256 ∧ crossingEarly inp (s.start t) = false ∧ (bankOf s (inp / 64)).shot = none ∧ (chanOf s inp).lastE = []) ∧
    (∃ (t : Nat) (b : Fin 4) (s : State) (sh : Shot) (a : Nat),
      (bankOf s b).shot = some sh ∧ (bankOf s b).tStart = some a ∧ (bankOf s b).winOpen = true ∧ a + shotWin sh ≤ instant s t) ∧
    (∃ (t : Nat) (chan : Fin 256) (s : State),
      64 ≤ (chanOf s chan).blindRun ∧ (chanOf s chan).failed = false ∧ LogRoom s 1) ∧
    (∃ (t : Nat) (chan : Fin 256) (s : State),
      64 ≤ (chanOf s chan).clearRun ∧ (chanOf s chan).failed = true ∧ LogRoom s 1) :=
  ⟨⟨12800, 3, 5, modBank 3 (fun x => { x with fired := some { em := 24, bank := 3, edge := 12800 } }) run0, { em := 24, bank := 3, edge := 12800 }, by decide⟩,
    ⟨12800, 3, 5, modRm (fun r => { r with framing := true }) (modBank 3 (fun x => { x with fired := some { em := 24, bank := 3, edge := 12800, boundary := 99999 } }) run0), by decide⟩,
    ⟨12800000, 3, modBank 3 (fun x => { x with fired := some { em := 24, bank := 3, edge := 12800 } }) run0, { em := 24, bank := 3, edge := 12800 }, by decide⟩,
    ⟨12800, 255, 2, true, 0, modBank 3 (fun x => { x with winOpen := true, tStart := some 0, tStartF := 52553728, shot := some { em := 31, bank := 3, w := 100 } }) (modChan 255 (fun c => { c with span := 1000, spanUse := 1000 }) (modLine 767 (fun x => { x with table := some { w := List.replicate 32 2048, len := 1000 } }) capt0)), { em := 31, bank := 3, w := 100 }, 1, by decide⟩,
    ⟨12800, 255, 2, true, 0, modChan 255 (fun c => { c with lastE := [(2, { fx := 100000000, kept := true })], stamps := [{ chan := 255, thr := 2 }], span := 1000, spanUse := 1000 }) (modLine 767 (fun x => { x with table := some { w := List.replicate 32 2048, len := 1000 } }) run0), { fx := 100000000, kept := true }, by decide⟩,
    ⟨12800, 255, 2, true, 0, run0, by decide⟩,
    ⟨12800000, 3, modBank 3 (fun x => { x with winOpen := true, tStart := some 5, shot := some { em := 24, bank := 3, edge := 0 } }) run0, { em := 24, bank := 3, edge := 0 }, 5, by decide⟩,
    ⟨5, 255, modChan 255 (fun c => { c with blindRun := 64 }) run0, by decide⟩,
    ⟨5, 255, modChan 255 (fun c => { c with clearRun := 64, failed := true }) run0, by decide⟩⟩

set_option maxRecDepth 8000 in
theorem wit_EchoResults :
    (∃ (t : Nat) (chan : Fin 256) (s : State) (x : ShUnit),
      unitDue s chan = some x ∧ (chanOf s chan).lost = false ∧ (chanOf s chan).failed = false ∧ setLive s (chan / 16) = true ∧ s.ee.hist = false ∧ tooLate (s.start t) x = false) ∧
    (∃ (t : Nat) (chan : Fin 256) (s : State) (x : ShUnit),
      (unitsOf s (chan / 8)).find? (fun y => rxEnabled s chan && decide ((chanOf s chan).doneAt < y.tStart + 1)) = some x ∧ ((chanOf s chan).lost = true ∨ (chanOf s chan).failed = true)) ∧
    (∃ (t : Nat) (chan : Fin 256) (s : State) (x : ShUnit),
      unitReady s chan = some x ∧ (chanOf s chan).lost = false ∧ (chanOf s chan).failed = false ∧ setLive s (chan / 16) = true ∧ s.ee.hist = true ∧ tooLate (s.start t) x = false) ∧
    (∃ (t : Nat) (chan : Fin 256) (s : State) (x : ShUnit),
      (unitsOf s (chan / 8)).find? (fun y => (chanOf s chan).histDue == some y.tStart) = some x ∧ setLive s (chan / 16) = true ∧ engineIdle s (engineOf s (chan / 16)) = true ∧ testDone s (engineOf s (chan / 16)) = false) ∧
    (∃ (t : Nat) (ep : Fin 10) (tag : BitVec 8) (s : State),
      Accepts s t ep tag 0x2C19 0 [1]) ∧
    (∃ (t : Nat) (b : Fin 4) (k : Fin 8) (s : State) (x : Train) (f : Fit),
      (trainOf s b k).st ≠ 0 ∧ msU ≤ (t64Now (s.start t) - (trainOf s b k).gateFrom).toInt ∧ gateDue (s.start t) b ((trainOf s b k).gateFrom + BitVec.ofNat 64 msU) = true ∧ x = trainOf (((pendOf (s.start t) b).filter fun p => decide ((t64At (s.start t) p.1 - ((trainOf s b k).gateFrom + BitVec.ofNat 64 msU)).toInt < 0)).foldl (fun v p => flushPulses b p.1 v) (s.start t)) b k ∧ f = fmFit ((sortBy (fun (p : BitVec 64 × List Nat) => (p.1 - x.gateFrom).toInt)
        (x.capt.filter fun p => decide (0 ≤ (p.1 - x.gateFrom).toInt) && decide ((p.1 - x.gateFrom).toInt < msU))).map (·.1)) x.tp) :=
  ⟨⟨5, 255, setPar 0x2801 7 (.int 0xFFFFFFFF) (modSaf (fun f => { f with setNo := 1 }) (modEe (fun e => { e with shadow := [(31, [{ em := 31, shot := some { em := 31, bank := 3 }, tStart := 5 }])] }) run0)), { em := 31, shot := some { em := 31, bank := 3 }, tStart := 5 }, by decide⟩,
    ⟨5, 255, setPar 0x2801 7 (.int 0xFFFFFFFF) (modChan 255 (fun c => { c with lost := true }) (modEe (fun e => { e with shadow := [(31, [{ em := 31, shot := some { em := 31, bank := 3 }, tStart := 5 }])] }) run0)), { em := 31, shot := some { em := 31, bank := 3 }, tStart := 5 }, by decide⟩,
    ⟨5, 255, setPar 0x2801 7 (.int 0xFFFFFFFF) (modSaf (fun f => { f with setNo := 1 }) (modEe (fun e => { e with hist := true, shadow := [(31, [{ em := 31, shot := some { em := 31, bank := 3, flyback := true }, tStart := 5 }])] }) run0)), { em := 31, shot := some { em := 31, bank := 3, flyback := true }, tStart := 5 }, by decide⟩,
    ⟨5, 255, modRm (fun r => { r with framing := true }) (modChan 255 (fun c => { c with histPeaks := [(5, 0)], histDue := some 5, doneAt := 6 }) (modEe (fun e => { e with hist := true, shadow := [(31, [{ em := 31, shot := some { em := 31, bank := 3, flyback := true }, tStart := 5 }])] }) run0)), { em := 31, shot := some { em := 31, bank := 3, flyback := true }, tStart := 5 }, by decide⟩,
    ⟨5, 1, 3, served run0, by decide⟩,
    ⟨128000000, 3, 7, modTrain 3 7 (fun x => { x with st := 2, rejected := true, tp := 1000000 }) run0, { st := 2, rejected := true, tp := 1000000 }, fmFit [] 1000000, by decide⟩⟩

set_option maxRecDepth 8000 in
theorem wit_EngineFailures :
    (∃ (t : Nat) (n : Fin 18) (s : State),
      (engOf s n).retired = false ∧ engineIdle s n = true ∧ testDone s n = false ∧ zoomOwed s n = false) ∧
    (∃ (t : Nat) (n : Fin 18) (s : State) (r : ResE),
      (engOf s n).retired = false ∧ engineIdle s n = true ∧ testDone s n = false ∧ zoomOwed s n = false ∧ s.pt.zoomed = [(n.val, r)] ∧ s.pt.results = []) ∧
    (∃ (t : Nat) (n : Fin 16) (s : State),
      (engOf s n).retired = false ∧ engineIdle s n = true ∧ testDone s n = false ∧ zoomOwed s n = false ∧ spareFree s 16 = true) ∧
    (∃ (t : Nat) (n : Fin 16) (s : State),
      (engOf s n).retired = false ∧ pastDeadline (s.start t) n = true ∧ spareFree s 16 = true) ∧
    (∃ (t : Nat) (n : Fin 16) (i : Fin 16) (s : State),
      (engOf s n).retired = false ∧ spareFree s 16 = false ∧ spareFree s 17 = false ∧ LogRoom s (2 + s.ee.declPend.length)) ∧
    (∃ (t : Nat) (k : Fin 2) (s : State),
      (engOf s (16 + k)).retired = false ∧ (engOf s (16 + k)).serves.isSome = true ∧ (engOf s (16 + k)).replayFrom.isSome = true ∧ (engOf s (16 + k)).ready = false) ∧
    (∃ (t : Nat) (chan : Fin 256) (s : State) (n : Nat) (x : ShUnit) (r : List ShUnit),
      spareFor s (chan / 16) = some n ∧ (engOf s n).ready = true ∧ (engOf s n).live = false ∧ rxEnabled s chan = true ∧ replayUnits s n chan = x :: r ∧ replayFirst s n (chan / 16) x = true) :=
  ⟨⟨5, 17, modRm (fun r => { r with framing := true }) run0, by decide⟩,
    ⟨5, 17, modRm (fun r => { r with framing := true }) (modPt (fun p => { p with zoomed := [(17, {})] }) run0), {}, by decide⟩,
    ⟨5, 15, modRm (fun r => { r with framing := true }) run0, by decide⟩,
    ⟨19205, 15, setPar 0x2801 7 (.int 0xFFFFFFFF) (modEe (fun e => { e with shadow := [(31, [{ em := 31, shot := some { em := 31, bank := 3 }, tStart := 5 }])] }) run0), by decide⟩,
    ⟨5, 15, 15, modEng 16 (fun e => { e with retired := true }) (modEng 17 (fun e => { e with retired := true }) run0), by decide⟩,
    ⟨5, 1, modEng 17 (fun e => { e with serves := some 3, replayFrom := some 2 }) run0, by decide⟩,
    ⟨5, 255, modEng 17 (fun e => { e with serves := some 15, ready := true }) (setPar 0x2801 7 (.int 0xFFFFFFFF) (modEe (fun e => { e with shadow := [(31, [{ em := 31, shot := some { em := 31, bank := 3 }, tStart := 5 }])] }) run0)), 17, { em := 31, shot := some { em := 31, bank := 3 }, tStart := 5 }, [], by decide⟩⟩

set_option maxRecDepth 8000 in
theorem wit_SelfTuning :
    (∃ (t : Nat) (l : Fin 780) (s : State),
      262144 ≤ (lineOf s l).hits ∧ parB s 0x3400 0 = true) ∧
    (∃ (t : Nat) (l : Fin 780) (s : State) (b : List Nat × Nat),
      parB s 0x3400 0 = true ∧ (lineOf s l).done = some b ∧ (lineOf s l).first = none) ∧
    (∃ (t : Nat) (l : Fin 780) (s : State) (a : List Nat × Nat) (b : List Nat × Nat),
      parB s 0x3400 0 = true ∧ (lineOf s l).done = some b ∧ (lineOf s l).first = some a ∧ buildsAgree a b = true) ∧
    (∃ (t : Nat) (l : Fin 780) (s : State) (a : List Nat × Nat) (b : List Nat × Nat),
      parB s 0x3400 0 = true ∧ (lineOf s l).done = some b ∧ (lineOf s l).first = some a ∧ buildsAgree a b = false) ∧
    (∃ (t : Nat) (chan : Fin 256) (s : State),
      rxEnabled s chan = true ∧ (calOf s.ee.hist (chanOf s chan)).from_ + parN s 0x3413 0 ≤ framesDone s ∧ LogRoom s 1) ∧
    (∃ (t : Nat) (ep : Fin 10) (tag : BitVec 8) (s : State),
      Accepts s t ep tag 0x3420 0 [1]) :=
  ⟨⟨5, 779, setPar 0x3400 0 (.int 1) (modLine 779 (fun x => { x with hits := 262144, h := [(31, 262144)] }) run0), by decide⟩,
    ⟨5, 779, setPar 0x3400 0 (.int 1) (modLine 779 (fun x => { x with done := some ([1], 2) }) run0), ([1], 2), by decide⟩,
    ⟨5, 779, setPar 0x3400 0 (.int 1) (modLine 779 (fun x => { x with done := some ([1], 2), first := some ([1], 2) }) run0), ([1], 2), ([1], 2), by decide⟩,
    ⟨5, 779, setPar 0x3400 0 (.int 1) (modLine 779 (fun x => { x with done := some ([1, 3], 2), first := some ([1, 0], 2) }) run0), ([1, 0], 2), ([1, 3], 2), by decide⟩,
    ⟨5, 255, setPar 0x2801 7 (.int 0xFFFFFFFF) (modRm (fun r => { r with framesStarted := 1000000 }) run0), by decide⟩,
    ⟨5, 1, 3, served { State.reset with dev := .config }, by decide⟩⟩

set_option maxRecDepth 8000 in
theorem wit_LceTick :
    (∃ (t : Nat) (late : Bool) (s : State),
      instant s t % (4 * usU) = 0 ∧ s.lce.tickAt < instant s t) ∧
    (∃ (t : Nat) (compute : Nat) (s : State),
      s.lce.tickNo ≠ 0 ∧ instant s t = s.lce.tickAt + 2 * usU ∧ s.lce.outReady = true ∧ s.fld.lceSeen = true) ∧
    (∃ (t : Nat) (compute : Nat) (s : State),
      s.lce.tickNo ≠ 0 ∧ instant s t = s.lce.tickAt + 2 * usU ∧ s.fld.lceSeen = false) ∧
    (∃ (t : Nat) (s : State),
      s.lce.lateTick = true ∧ s.lce.tickAt + 1900 * nsU ≤ instant s t ∧ s.lce.overrunRun = 0 ∧ LogRoom s 1) ∧
    (∃ (t : Nat) (s : State),
      s.lce.lateTick = true ∧ s.lce.tickAt + 1900 * nsU ≤ instant s t ∧ s.lce.overrunRun = 1 ∧ s.dev = .run) ∧
    (∃ (t : Nat) (s : State),
      250 ≤ s.lce.coilN ∧ (s.lce.coilIsum * 3000).natAbs ≤ 100 * 32768 * s.lce.coilN) ∧
    (∃ (t : Nat) (s : State),
      250 ≤ s.lce.coilN ∧ 100 * 32768 * s.lce.coilN < (s.lce.coilIsum * 3000).natAbs) ∧
    (∃ (t : Nat) (s : State),
      s.lce.injRun = true ∧ parN s 0x4037 0 ≤ s.lce.injK) :=
  ⟨⟨512000, false, run0, by decide⟩,
    ⟨768000, 1800, modLce (fun l => { l with outReady := true, tickNo := 7, tickAt := 512000, inhOut := [.bothFeedback] }) (modFld (fun c => { c with lceSeen := true, dutyNext := 5 }) run0), by decide⟩,
    ⟨768000, 1800, modLce (fun l => { l with tickNo := 7, tickAt := 512000 }) (modFld (fun c => { c with lceMissed := 1 }) run0), by decide⟩,
    ⟨243200, modLce (fun l => { l with lateTick := true }) run0, by decide⟩,
    ⟨243200, modLce (fun l => { l with lateTick := true, overrunRun := 1 }) run0, by decide⟩,
    ⟨5, modLce (fun l => { l with coilN := 1000, coilIsum := 5 }) run0, by decide⟩,
    ⟨5, modLce (fun l => { l with coilN := 1000, coilIsum := 16384000, coilVsum := 3000000 }) run0, by decide⟩,
    ⟨5, modLce (fun l => { l with injRun := true, injK := 1000000 }) run0, by decide⟩⟩

set_option maxRecDepth 8000 in
theorem wit_MirrorHost :
    (∃ (t : Nat) (ep : Fin 10) (tag : BitVec 8) (s : State),
      Accepts s t ep tag 0x4022 0 [1] ∧ s.lce.inUse = 1 ∧ s.lce.priOos = true ∧ s.lce.retry = false ∧ s.lce.mode ≠ 2 ∧ s.lce.mode ≠ 4) ∧
    (∃ (t : Nat) (ep : Fin 10) (tag : BitVec 8) (s : State),
      Accepts s t ep tag 0x4022 0 [1] ∧ (s.lce.inUse ≠ 1 ∨ s.lce.priOos = false ∨ s.lce.mode = 2 ∨ s.lce.mode = 4)) ∧
    (∃ (t : Nat) (ep : Fin 10) (tag : BitVec 8) (s : State),
      Accepts s t ep tag 0x4023 0 [1] ∧ s.lce.latched = true ∧ s.lce.mode ≠ 4 ∧ s.lce.priFail = false) ∧
    (∃ (t : Nat) (ep : Fin 10) (tag : BitVec 8) (s : State),
      Accepts s t ep tag 0x4024 0 [0] ∧ parB s 0x4024 0 = true) ∧
    (∃ (t : Nat) (ep : Fin 10) (tag : BitVec 8) (s : State),
      Accepts s t ep tag 0x4024 0 [1] ∧ (s.dev = .config ∨ s.dev = .run ∨ s.dev = .safe) ∧ s.fld.bridgeOn = false ∧ s.lce.latched = false ∧ s.lce.lceFault = false ∧ s.lce.priFail = false) ∧
    (∃ (t : Nat) (s : State),
      s.fld.brgRePend = true ∧ s.fld.brgTripAt + 10 * msU ≤ instant s t ∧ bridgeAllowed s = true ∧ s.lce.priFail = false) ∧
    (∃ (t : Nat) (ep : Fin 10) (tag : BitVec 8) (s : State),
      Accepts s t ep tag 0x403A 0 [1] ∧ s.lce.injRun = false ∧ s.lce.injWait = false ∧ parN s 0x4038 0 ≠ 1) ∧
    (∃ (t : Nat) (ep : Fin 10) (tag : BitVec 8) (s : State),
      Accepts s t ep tag 0x403A 0 [1] ∧ (s.lce.injRun = true ∨ s.lce.injWait = true)) ∧
    (∃ (t : Nat) (ep : Fin 10) (tag : BitVec 8) (s : State),
      Accepts s t ep tag 0x403B 0 [1] ∧ s.lce.injRun = true) :=
  ⟨⟨5, 1, 3, served (modLce (fun l => { l with inUse := 1, priOos := true, mode := 1 }) run0), by decide⟩,
    ⟨5, 1, 3, served run0, by decide⟩,
    ⟨5, 1, 3, served (modLce (fun l => { l with latched := true, mode := 2 }) run0), by decide⟩,
    ⟨5, 1, 3, served (setPar 0x4024 0 (.int 1) { State.reset with dev := .config }), by decide⟩,
    ⟨5, 1, 3, served (setPar 0x4024 0 (.int 0) { State.reset with dev := .config }), by decide⟩,
    ⟨1280000000, setPar 0x4024 0 (.int 1) (modFld (fun c => { c with brgRePend := true }) run0), by decide⟩,
    ⟨5, 1, 3, served run0, by decide⟩,
    ⟨5, 1, 3, served (modLce (fun l => { l with injWait := true }) run0), by decide⟩,
    ⟨5, 1, 3, served (modLce (fun l => { l with injRun := true }) run0), by decide⟩⟩

set_option maxRecDepth 8000 in
theorem wit_ConvertersAndExcitation :
    (∃ (t : Nat) (n : Fin 4) (s : State),
      instant s t % (32 * usU) = 0 ∧ (s.adc.seqNo = 0 ∨ s.adc.seqStart ≠ instant s t)) ∧
    (∃ (t : Nat) (ep : Fin 10) (m : List Byte) (s : State),
      instant s t % (32 * usU) = 0 ∧ (s.adc.seqNo = 0 ∨ s.adc.seqStart ≠ instant s t) ∧ (1, ep.val, m) ∈ s.xi.owed) ∧
    (∃ (t : Nat) (n : Fin 4) (s : State) (slots : List Nat) (src : List Nat),
      instant s t % (32 * usU) = 0 ∧ (s.adc.seqNo = 0 ∨ s.adc.seqStart ≠ instant s t) ∧ (s.adc.commit.find? fun p => p.1 == n.val).map (·.2) = some (slots, src)) ∧
    (∃ (t : Nat) (n : Fin 4) (code : Int) (s : State),
      bget false s.adc.running n = true ∧ bget 0 s.adc.slot n < 32 ∧ s.adc.seqStart + bget 0 s.adc.slot n * usU + 200 * nsU ≤ instant s t) ∧
    (∃ (t : Nat) (n : Fin 4) (code : Int) (s : State) (k : Nat) (g : Nat),
      bget false s.adc.running n = true ∧ k = bget 0 s.adc.slot n ∧ k < 32 ∧ s.adc.seqStart + k * usU + 200 * nsU ≤ instant s t ∧ slotUsed ((bget [] s.adc.seq n).getD k 0) = true ∧ g = 16 * n.val + slotCh ((bget [] s.adc.seq n).getD k 0) ∧ (lchOf s g).gainMark = 0 ∧ parB s 0x440A g = false ∧ (16 ≤ (lchOf s g).src ∨ (lchOf s g).gain = parN s 0x4409 g) ∧ barUp s (if n.val < 2 then 6 else 7) = true) ∧
    (∃ (t : Nat) (ep : Fin 10) (tag : BitVec 8) (n : Fin 4) (s : State),
      Accepts s t ep tag 0x4404 n [1] ∧ seqValid (stagedSlots s n) = true) ∧
    (∃ (t : Nat) (ep : Fin 10) (tag : BitVec 8) (n : Fin 4) (s : State),
      Accepts s t ep tag 0x4404 n [1] ∧ seqValid (stagedSlots s n) = false) ∧
    (∃ (t : Nat) (w : BitVec 32) (g : Nat) (s : State),
      g = bits w.toNat 23 16 ∧ g < 64 ∧ (lchOf s g).m ≠ 0 ∧ bget false s.adc.running (g / 16) = true) ∧
    (∃ (t : Nat) (uV : Nat) (s : State),
      s.adc.refOn = true ∧ periodDue s.adc.refCheckAt (100 * usU) (instant s t) = true ∧ 25000 < ((uV : Int) - 2500000).natAbs) ∧
    (∃ (t : Nat) (uV : Nat) (s : State) (a : Nat),
      s.adc.refOn = true ∧ periodDue s.adc.refCheckAt (100 * usU) (instant s t) = true ∧ ((uV : Int) - 2500000).natAbs ≤ 12500 ∧ s.adc.refWaitGood = false ∧ s.adc.refFrom = some a ∧ a + 5 * msU ≤ instant s t) ∧
    (∃ (t : Nat) (n : Fin 8) (s : State),
      (excOf s n).settleEnd ≤ instant s t) ∧
    (∃ (t : Nat) (ep : Fin 10) (tag : BitVec 8) (s : State),
      Accepts s t ep tag 0x480A 0 [1]) ∧
    (∃ (t : Nat) (rise : Bool) (s : State),
      parN s 0x480B 0 = (if rise then 1 else 2)) ∧
    (∃ (t : Nat) (n : Fin 2) (uA : Nat) (s : State) (a : Nat),
      (s.dev ≠ .run ∨ parN s 0x4430 n ≠ 0) ∧ 200 < ((uA : Int) - (bget ({} : LoopS) s.adc.loops n).uA).natAbs ∧ (bget ({} : LoopS) s.adc.loops n).devFrom = some a ∧ a + 10 * msU ≤ instant s t) ∧
    (∃ (t : Nat) (s : State) (r : Nat) (m : Fin 32),
      s.adc.runAt = some r ∧ r + 2 * secU ≤ instant s t ∧ (measOf s m).pending = true) :=
  ⟨⟨4096000, 3, modAdc (fun a => { a with syncReq := some 0, slot := [(3, 5)] }) run0, by decide⟩,
    ⟨4096000, 1, [7], modXi (fun x => { x with owed := [(1, 1, [7])] }) run0, by decide⟩,
    ⟨4096000, 3, modAdc (fun a => { a with commit := [(3, ([1], []))] }) run0, [1], [], by decide⟩,
    ⟨4096000, 3, 2047, modAdc (fun a => { a with running := [(3, true)], slot := [(3, 31)], seq := [(3, List.replicate 32 (0x85))] }) run0, by decide⟩,
    ⟨4096000, 3, 2047, modAdc (fun a => { a with running := [(3, true)], slot := [(3, 31)], seq := [(3, List.replicate 32 (0x85))] }) run0, 31, 53, by decide⟩,
    ⟨5, 1, 3, 3, served (setPar 0x4403 96 (.int 0x80) { State.reset with dev := .config }), by decide⟩,
    ⟨5, 1, 3, 3, served (setPar 0x4403 96 (.int 0x40) { State.reset with dev := .config }), by decide⟩,
    ⟨5, 0x383F8001, 63, modAdc (fun a => { a with running := [(3, true)] }) (modLch 63 (fun c => { c with m := 1, slots := [0], rxSeq := some 3 }) run0), by decide⟩,
    ⟨5, 2525001, modAdc (fun a => { a with refOn := true, refReady := true }) run0, by decide⟩,
    ⟨640000000, 2512500, modAdc (fun a => { a with refOn := true, refFrom := some 0 }) run0, 0, by decide⟩,
    ⟨5, 7, modAdc (fun a => { a with exc := [(7, { on := true, settling := true, settleEnd := 5 })] }) run0, by decide⟩,
    ⟨5, 1, 3, served run0, by decide⟩,
    ⟨5, true, setPar 0x480B 0 (.int 1) run0, by decide⟩,
    ⟨1280000000, 1, 201, modAdc (fun a => { a with loops := [(1, { uA := 0, devFrom := some 0 })] }) { run0 with dev := .safe }, 0, by decide⟩,
    ⟨256000000000, modMeas 31 (fun x => { x with pending := true }) (modAdc (fun a => { a with runAt := some 0 }) run0), 0, 31, by decide⟩⟩

set_option maxRecDepth 8000 in
theorem wit_Cameras :
    (∃ (t : Nat) (port : Fin 4) (vc : Fin 16) (hdr : PktHdr) (s : State) (k : Nat),
      hdr.ok = true ∧ parN s 0x5000 port ≠ 0 ∧ s.dict.held = [] ∧ ctxByVc s port vc = some k ∧ (ctxOf s k).frame = none ∧ thinned s k = false ∧ s.thm.shutdown = false) ∧
    (∃ (t : Nat) (port : Fin 4) (vc : Fin 16) (hdr : PktHdr) (s : State) (k : Nat),
      hdr.ok = true ∧ parN s 0x5000 port ≠ 0 ∧ ([2 * port.val, 2 * port.val + 1].find? fun c => parB (applyCtx c (portSeen port hdr (s.start t))) 0x5008 c && parN (applyCtx c (portSeen port hdr (s.start t))) 0x5009 c == vc.val) = some k ∧ (ctxOf s k).frame = none) ∧
    (∃ (t : Nat) (port : Fin 4) (vc : Fin 16) (dt : Fin 64) (hdr : PktHdr) (pix : List Nat) (s : State) (k : Nat) (f : CamF),
      hdr.ok = true ∧ parN s 0x5000 port ≠ 0 ∧ [2 * port.val, 2 * port.val + 1].find? (fun c => (ctxOf s c).frame.isSome && parB s 0x5008 c && parN s 0x5009 c == vc.val) = some k ∧ (ctxOf s k).frame = some f ∧ f.live = true ∧ dt.val = 0x2B + framePar f 0x500A k ∧ pix.length = camW f k ∧ f.rx < camH f k) ∧
    (∃ (t : Nat) (port : Fin 4) (vc : Fin 16) (hdr : PktHdr) (s : State) (k : Nat) (f : CamF),
      hdr.ok = true ∧ parN s 0x5000 port ≠ 0 ∧ ctxByVc s port vc = some k ∧ (ctxOf s k).frame = some f) ∧
    (∃ (t : Nat) (k : Fin 8) (s : State) (f : CamF),
      (ctxOf s k).frame = some f ∧ f.startAt + framePar f 0x500D k * 3 * usU / 2 ≤ instant s t) ∧
    (∃ (t : Nat) (pipe : Fin 4) (s : State) (f : CamF),
      (s.cam.job.find? fun j => j.1 == pipe.val) = some (pipe.val, f) ∧ nextCtx s pipe = none) ∧
    (∃ (t : Nat) (pipe : Fin 4) (s : State) (f : CamF) (k : Nat),
      (s.cam.job.find? fun j => j.1 == pipe.val) = some (pipe.val, f) ∧ nextCtx s pipe = some k) ∧
    (∃ (port : Fin 4) (s : State), parN s 0x5000 port = 0) ∧
    (∃ (port : Fin 4) (s : State), parN s 0x5000 port ≠ 0) :=
  ⟨⟨5, 3, 2, ⟨true, true⟩, setPar 0x5000 3 (.int 1) (setPar 0x5008 7 (.int 1) (setPar 0x5009 7 (.int 2) run0)), 7, by decide⟩,
    ⟨5, 3, 2, ⟨false, true⟩, setPar 0x5000 3 (.int 1) (setPar 0x5008 7 (.int 1) (setPar 0x5009 7 (.int 1) { run0 with dict := { run0.dict with held := [(dkey 0x5009 7, .int 2)] } })), 7, by decide⟩,
    ⟨5, 3, 2, 0x2B, ⟨true, true⟩, [7, 8], setPar 0x5000 3 (.int 1) (setPar 0x5008 7 (.int 1) (setPar 0x5009 7 (.int 2) (modCtx 7 (fun x => { x with frame := some { live := true, pars := [(dkey 0x500B 7, .int 131074), (dkey 0x500A 7, .int 0)] } }) run0))), 7, { live := true, pars := [(dkey 0x500B 7, .int 131074), (dkey 0x500A 7, .int 0)] }, by decide⟩,
    ⟨5, 3, 2, ⟨true, true⟩, setPar 0x5000 3 (.int 1) (setPar 0x5008 7 (.int 1) (setPar 0x5009 7 (.int 2) (modCtx 7 (fun x => { x with frame := some {} }) run0))), 7, {}, by decide⟩,
    ⟨128000000000000, 7, modCtx 7 (fun x => { x with frame := some { live := true } }) run0, { live := true }, by decide⟩,
    ⟨5, 3, modCam (fun m => { m with job := [(3, { short := true })], busy := [(3, 7)] }) run0, { short := true }, by decide⟩,
    ⟨5, 3, modCtx 6 (fun x => { x with wait := [{ short := true }] }) (modCam (fun m => { m with job := [(3, { short := true })], busy := [(3, 7)] }) run0), { short := true }, 6, by decide⟩,
    ⟨3, setPar 0x5000 3 (.int 0) run0, by decide⟩,
    ⟨3, setPar 0x5000 3 (.int 1) run0, by decide⟩⟩

set_option maxRecDepth 8000 in
theorem wit_PhaseBoundaries :
    (∃ (t : Nat) (replica : List (Fin 260 × Nat)) (s : State),
      boundaryDue (s.start t) = true ∧ phasesRun s = true ∧ s.rm.framing = true ∧ s.rm.stopNext = false ∧ s.rm.nextFrame = none ∧ barUp s 1 = true) ∧
    (∃ (t : Nat) (replica : List (Fin 260 × Nat)) (s : State) (f : FrameP),
      boundaryDue (s.start t) = true ∧ phasesRun s = true ∧ s.rm.framing = true ∧ s.rm.stopNext = false ∧ s.rm.nextFrame = some f) ∧
    (∃ (t : Nat) (replica : List (Fin 260 × Nat)) (s : State),
      boundaryDue (s.start t) = true ∧ phasesRun s = true ∧ s.rm.framing = false) ∧
    (∃ (t : Nat) (replica : List (Fin 260 × Nat)) (s : State),
      boundaryDue (s.start t) = false) ∧
    (∃ (t : Nat) (replica : List (Fin 260 × Nat)) (s : State),
      boundaryDue (s.start t) = true ∧ (s.dev = .config ∨ s.rm.stopNext = true) ∧ s.rm.framing = true) ∧
    (∃ (t : Nat) (long : Bool) (s : State) (tab : EyeTable),
      s.rm.table = some tab ∧ (if long then slotLenB tab else slotLenA tab) ≠ 0 ∧ (instant s t - s.rm.gridAt) % (if long then slotLenB tab else slotLenA tab) = 0) ∧
    (∃ (t : Nat) (s : State),
      s.dev = .run) :=
  ⟨⟨200000, [], modRm (fun r => { r with framing := true, inFrame := true, pNs := 1500, nCyc := 9, pos := 7, cycle := 2, planned := [{ em := 3 }] }) (modTbs (fun c => { c with lock := true }) run0), by decide⟩,
    ⟨200000, [], modRm (fun r => { r with framing := true, pNs := 1500, nextFrame := some { p := 1500, w := 1000, nCyc := 9, nAct := 7 } }) (modTbs (fun c => { c with lock := true }) run0), { p := 1500, w := 1000, nCyc := 9, nAct := 7 }, by decide⟩,
    ⟨5, [], modTbs (fun c => { c with lock := true }) run0, by decide⟩,
    ⟨5, [], modRm (fun r => { r with framing := true, pNs := 1500 }) (modTbs (fun c => { c with lock := true }) run0), by decide⟩,
    ⟨200000, [], modRm (fun r => { r with framing := true, pNs := 1500, planned := [{ em := 3 }], current := [{ em := 4 }] }) { run0 with dev := .config }, by decide⟩,
    ⟨16000000, true, modRm (fun r => { r with table := some { tA := 100, tB := 2 } }) run0, { tA := 100, tB := 2 }, by decide⟩,
    ⟨5, run0, by decide⟩⟩

set_option maxRecDepth 8000 in
theorem wit_PointStream :
    (∃ (t : Nat) (s : State) (r : ResE),
      nextResult s = some r ∧ mustWait (s.start t) r = false ∧ frameWrites s = true ∧ s.pt.truncated = false ∧ r.gone = false) ∧
    (∃ (t : Nat) (s : State) (r : ResE),
      nextResult s = some r ∧ mustWait (s.start t) r = false ∧ frameWrites s = true ∧ (s.pt.truncated = true ∨ r.gone = true)) ∧
    (∃ (t : Nat) (s : State) (r : ResE),
      nextResult s = some r ∧ mustWait (s.start t) r = false ∧ frameWrites s = false) ∧
    (∃ (t : Nat) (s : State) (b : List (Rec × Nat × Nat × Nat)),
      ownRings s = false ∧ s.pt.held = [] ∧ b = burstReady (s.start t)) ∧
    (∃ (t : Nat) (s : State) (b : List (Rec × Nat × Nat × Nat)),
      ownRings s = true ∧ s.pt.held = [] ∧ pointRoom s = false ∧ (∀ n ∈ upto 8, (laneOf s n).fwdQ = [] ∧ (laneOf s n).fwdHdrs = []) ∧ b = burstReady (s.start t)) ∧
    (∃ (t : Nat) (s : State) (x : Rec × Nat × Nat × Nat) (b : Buf),
      ownRings s = true ∧ s.pt.held = [] ∧ pointRoom s = true ∧ (∀ n ∈ upto 8, (laneOf s n).fwdQ = [] ∧ (laneOf s n).fwdHdrs = []) ∧ burstReady (s.start t) = [x] ∧ s.pci.retraining = false ∧ s.pci.staged = [] ∧ (ringOf s (parN s 0x3801 0)).waiting = [] ∧ (ringOf s (parN s 0x3801 0)).buf = some b ∧ b.used + 16 ≤ b.len) ∧
    (∃ (t : Nat) (s : State) (x : Rec × Nat) (rest : List (Rec × Nat)),
      s.pt.held = x :: rest ∧ (ringOf s (parN s 0x3801 0)).waiting = [] ∧ (∀ n ∈ upto 8, (laneOf s n).fwdQ = []) ∧ x.2 + parN s 0x3806 0 * msU < instant s t) ∧
    (∃ (t : Nat) (s : State) (x : WItem) (rest : List WItem),
      (ringOf s (parN s 0x3801 0)).waiting = x :: rest ∧ ringTakes s (parN s 0x3801 0) = false ∧ (∀ n ∈ upto 8, (laneOf s n).fwdQ = [] ∧ fwdPtRing s n ≠ parN s 0x3801 0) ∧ (parN s 0x3801 0 ∉ parN s 0x2C1A 0 :: (upto 8).map fun c => parN s 0x5019 c) ∧ x.at_ + parN s 0x3806 0 * msU < instant s t) ∧
    (∃ (t : Nat) (s : State) (r : ResE) (f : BitVec 32) (w : Bool),
      dueFrame s = some (f, w) ∧ pointRoom s = false ∧ (∀ n ∈ upto 8, (laneOf s n).fwdQ = []) ∧ s.pt.held = [] ∧ s.pt.burst = [] ∧ (ringOf s (parN s 0x3801 0)).waiting = [] ∧ s.pt.results = [r] ∧ r.frame ≠ f ∧ r.at_ + parN s 0x3806 0 * msU < instant s t) ∧
    (∃ (t : Nat) (s : State) (h : List (BitVec 32)) (w : Bool),
      s.pt.hdrDue.head? = some (h, w) ∧ frameComplete (s.start t) (h.getD 2 0) = true ∧ s.pt.hdrHeld = [] ∧ (w = false ∨ ownRings s = false ∨ headersHeld s < 64)) ∧
    (∃ (t : Nat) (s : State) (h : List (BitVec 32)) (b : Buf),
      s.pt.hdrDue.head? = some (h, true) ∧ frameComplete (s.start t) (h.getD 2 0) = true ∧ s.pt.hdrHeld = [] ∧ ownRings s = true ∧ headersHeld s < 64 ∧ ringRunning (ringOf s (parN s 0x3802 0)) = true ∧ s.pci.retraining = false ∧ s.pci.staged = [] ∧ (ringOf s (parN s 0x3802 0)).waiting = [] ∧ (ringOf s (parN s 0x3802 0)).buf = some b ∧ b.used + 4 * h.length ≤ b.len) ∧
    (∃ (t : Nat) (s : State),
      s.pt.replayHold = true ∧ replayPending (s.start t) (s.rm.frameNo - 1) = false) :=
  ⟨⟨5, modPt (fun p => { p with streaming := true, results := [{ recs := [{ chan := 5 }] }] }) (setPar 0x3800 0 (.int 1) run0), { recs := [{ chan := 5 }] }, by decide⟩,
    ⟨5, modPt (fun p => { p with streaming := true, truncated := true, results := [{ recs := [{ chan := 5 }] }] }) (setPar 0x3800 0 (.int 1) run0), { recs := [{ chan := 5 }] }, by decide⟩,
    ⟨5, modPt (fun p => { p with results := [{ recs := [{ chan := 5 }] }] }) run0, { recs := [{ chan := 5 }] }, by decide⟩,
    ⟨5, modPt (fun p => { p with burst := [({ chan := 5 }, 0, 0, 0)] }) (setPar 0x7C10 0 (.int 1) run0), [({ chan := 5 }, 0, 0, 0)], by decide⟩,
    ⟨5, modPt (fun p => { p with burst := [({ chan := 5 }, 0, 0, 0)] }) run0, [({ chan := 5 }, 0, 0, 0)], by decide⟩,
    ⟨5, modRing 3 (fun r => { r with enable := true, buf := some { addr := 4096, len := 4096 } }) (setPar 0x3801 0 (.int 3) (modPt (fun p => { p with burst := [({ chan := 5 }, 0, 0, 0)] }) run0)), ({ chan := 5 }, 0, 0, 0), { addr := 4096, len := 4096 }, by decide⟩,
    ⟨200000000000, modPt (fun p => { p with held := [({ chan := 5 }, 0)], burst := [({ chan := 6 }, 0, 0, 0)] }) run0, ({ chan := 5 }, 0), [], by decide⟩,
    ⟨200000000000, modRing 30 (fun r => { r with waiting := [{ data := [1] }] }) (setPar 0x3801 0 (.int 30) (modPt (fun p => { p with index := 7 }) run0)), { data := [1] }, [], by decide⟩,
    ⟨200000000000, modPt (fun p => { p with hdrDue := [([1, 2, 3], true)], results := [{ recs := [{ chan := 5 }], frame := 9 }] }) run0, { recs := [{ chan := 5 }], frame := 9 }, 3, true, by decide⟩,
    ⟨5, modPt (fun p => { p with hdrDue := [([1, 2, 3], true)], pointCount := 7 }) run0, [1, 2, 3], true, by decide⟩,
    ⟨5, modRing 3 (fun r => { r with enable := true, buf := some { addr := 4096, len := 4096 } }) (setPar 0x3802 0 (.int 3) (modPt (fun p => { p with hdrDue := [([1, 2, 3], true)], pointCount := 7 }) run0)), [1, 2, 3], { addr := 4096, len := 4096 }, by decide⟩,
    ⟨5, modPt (fun p => { p with replayHold := true, results := [{ recs := [{ chan := 5 }] }] }) run0, by decide⟩⟩

set_option maxRecDepth 8000 in
theorem wit_RequestRepeatedOrDamaged :
    (∃ (t : Nat) (ep : Fin 10) (tag : BitVec 8) (num : BitVec 16) (sub : BitVec 8) (val : List Byte) (s : State),
      delivers s ep = true) ∧
    (∃ (t : Nat) (ep : Fin 10) (tag : BitVec 8) (num : BitVec 16) (sub : BitVec 8) (val : List Byte) (s : State),
      delivers s ep = true ∧ s.dev ≠ .boot ∧ (sessOf s ep).open_ = true ∧ (sessOf s ep).lastTag = some (tag, (wreq tag num.toNat sub.toNat val).crc) ∧ instant s t ≤ (sessOf s ep).lastAt + secU ∧ s.xi.owed = []) ∧
    (∃ (t : Nat) (ep : Fin 10) (tag : BitVec 8) (num : BitVec 16) (sub : BitVec 8) (val : List Byte) (s : State) (row : DRow),
      Accepts s t ep tag num.toNat sub.toNat val ∧ dictFind num.toNat sub.toNat = some row ∧ row.acc = .rw ∧ row.app = .frame) :=
  ⟨⟨5, 1, 3, 0x2400, 0, [1], served run0, by decide⟩,
    ⟨5, 1, 3, 0x2400, 0, [1], modSess 1 (fun e => { e with lastTag := some (3, 2176817882), lastRsp := [1, 2] }) (served run0), by decide⟩,
    ⟨5, 1, 3, 0x2010, 0, [0xE8, 3], served run0, (dictFind 0x2010 0).get (by decide), by decide⟩⟩

set_option maxRecDepth 8000 in
theorem wit_XiestOperations :
    (∃ (t : Nat) (ep : Fin 10) (tag : BitVec 8) (lo : BitVec 16) (hi : BitVec 16) (s : State),
      delivers s ep = true ∧ s.dev ≠ .boot ∧ isRepeat ep (mkReq 0x01 tag 0 0 (leBytes 2 lo.toNat ++ leBytes 2 hi.toNat) true) (s.start t) = false ∧ lo.toNat ≤ 0x0100 ∧ 0x0100 ≤ hi.toNat) ∧
    (∃ (t : Nat) (ep : Fin 10) (tag : BitVec 8) (lo : BitVec 16) (hi : BitVec 16) (s : State),
      delivers s ep = true ∧ s.dev ≠ .boot ∧ isRepeat ep (mkReq 0x01 tag 0 0 (leBytes 2 lo.toNat ++ leBytes 2 hi.toNat) true) (s.start t) = false ∧ (0x0100 < lo.toNat ∨ hi.toNat < 0x0100)) ∧
    (∃ (t : Nat) (ep : Fin 10) (tag : BitVec 8) (s : State),
      Serves (s.start t) ep (mkReq 0x02 tag 0 0 [] true)) ∧
    (∃ (t : Nat) (ep : Fin 10) (tag : BitVec 8) (num : BitVec 16) (sub : BitVec 8) (s : State) (row : DRow),
      Serves (s.start t) ep (mkReq 0x10 tag num.toNat sub.toNat [] true) ∧ readStatus num.toNat sub.toNat s = 0 ∧ dictFind num.toNat sub.toNat = some row ∧ row.acc ≠ .rc ∧ num ≠ 0x8006) ∧
    (∃ (t : Nat) (ep : Fin 10) (tag : BitVec 8) (num : BitVec 16) (sub : BitVec 8) (val : List Byte) (s : State),
      Serves (s.start t) ep (wreq tag num.toNat sub.toNat val) ∧ writeStatus ep num.toNat sub.toNat val (s.start t) ≠ 0) ∧
    (∃ (t : Nat) (ep : Fin 10) (tag : BitVec 8) (num : BitVec 16) (sub : BitVec 8) (s : State) (row : DRow),
      Serves (s.start t) ep (mkReq 0x12 tag num.toNat sub.toNat [] true) ∧ s.dev ≠ .recovery ∧ dictFind num.toNat sub.toNat = some row) ∧
    (∃ (t : Nat) (ep : Fin 10) (tag : BitVec 8) (op : BitVec 8) (num : BitVec 16) (sub : BitVec 8) (val : List Byte) (s : State),
      Serves (s.start t) ep (mkReq op tag num.toNat sub.toNat val true) ∧ op.toNat ∉ [1, 2, 0x10, 0x11, 0x12]) ∧
    (∃ (t : Nat) (ep : Fin 10) (tag : BitVec 8) (num : BitVec 16) (sub : BitVec 8) (s : State),
      delivers s ep = true ∧ s.dev ≠ .boot ∧ (sessOf s ep).open_ = false) ∧
    (∃ (t : Nat) (ep : Fin 10) (tag : BitVec 8) (lo : BitVec 16) (hi : BitVec 16) (s : State),
      delivers s ep = true ∧ s.dev = .boot) ∧
    (∃ (t : Nat) (ep : Fin 10) (s : State),
      (sessOf s ep).lastAt + parN s 0x1031 0 * secU ≤ instant s t) :=
  ⟨⟨5, 1, 3, 0x0100, 0x0100, served run0, by decide⟩,
    ⟨5, 1, 3, 0x0101, 0x0100, served run0, by decide⟩,
    ⟨5, 1, 3, served run0, by decide⟩,
    ⟨5, 1, 3, 0x2010, 0, served run0, (dictFind 0x2010 0).get (by decide), by decide⟩,
    ⟨5, 1, 3, 0x2010, 0, [0xE8], served run0, by decide⟩,
    ⟨5, 1, 3, 0x2010, 0, served run0, (dictFind 0x2010 0).get (by decide), by decide⟩,
    ⟨5, 1, 3, 0x20, 0x2010, 0, [], served run0, by decide⟩,
    ⟨5, 1, 3, 0x2010, 0, { run0 with rst := { run0.rst with phase := .none } }, by decide⟩,
    ⟨5, 1, 3, 0x0100, 0x0100, served State.reset, by decide⟩,
    ⟨128000000000000, 1, served run0, by decide⟩⟩

set_option maxRecDepth 8000 in
theorem wit_CanSegments :
    (∃ (t : Nat) (net : Fin 2) (ident : BitVec 11) (data : List Byte) (s : State),
      delivers s 0 = true ∧ net.val = xiNet s ∧ ident.toNat = parN s 0x1044 0 ∧ (canOf s (xiNet s)).txq = [] ∧ (data.getD 0 0).toNat / 64 = 1 ∧ data.length = 64 ∧ 63 < xiLen (data.drop 1)) ∧
    (∃ (t : Nat) (net : Fin 2) (ident : BitVec 11) (data : List Byte) (s : State),
      delivers s 0 = true ∧ net.val = xiNet s ∧ ident.toNat = parN s 0x1044 0 ∧ (canOf s (xiNet s)).txq = [] ∧ data ≠ [] ∧ (data.getD 0 0).toNat / 64 = 0 ∧ (sessOf s 0).rxNext ≠ some ((data.getD 0 0).toNat % 64)) ∧
    (∃ (t : Nat) (net : Fin 2) (ident : BitVec 11) (data : List Byte) (s : State),
      delivers s 0 = true ∧ net.val = xiNet s ∧ ident.toNat = parN s 0x1044 0 ∧ (canOf s (xiNet s)).txq = [] ∧ (data.getD 0 0).toNat / 64 = 3 ∧ (parseReq (data.drop 1)).good = false) ∧
    (∃ (t : Nat) (net : Fin 2) (ident : BitVec 11) (data : List Byte) (s : State) (k : Nat),
      delivers s 0 = true ∧ net.val = xiNet s ∧ ident.toNat = parN s 0x1044 0 ∧ (canOf s (xiNet s)).txq = [] ∧ data ≠ [] ∧ (data.getD 0 0).toNat = k ∧ k < 64 ∧ (sessOf s 0).rxNext = some k ∧ ((sessOf s 0).rx ++ data.drop 1).length < xiLen ((sessOf s 0).rx ++ data.drop 1)) ∧
    (∃ (t : Nat) (net : Fin 2) (ident : BitVec 11) (data : List Byte) (s : State),
      delivers s 0 = true ∧ net.val = xiNet s ∧ ident.toNat = parN s 0x1044 0 ∧ (data.getD 0 0).toNat / 64 = 3 ∧ (parseReq (data.drop 1)).good = true ∧ (parseReq (data.drop 1)).op ≠ 1 ∧ s.dev ≠ .boot ∧ (sessOf s 0).open_ = false) ∧
    (∃ (t : Nat) (tag : BitVec 8) (s : State) (c : BitVec 32) (a : Nat),
      delivers s 0 = true ∧ (sessOf s 0).txWait = some a ∧ (sessOf s 0).lastTag = some (tag, c) ∧ (canOf s (xiNet s)).txq = []) ∧
    (∃ (t : Nat) (tag : BitVec 8) (s : State) (c : BitVec 32) (a : Nat),
      delivers s 0 = true ∧ (sessOf s 0).txWait = some a ∧ (sessOf s 0).lastTag = some (tag, c) ∧ (sessOf s 0).tx ≠ [] ∧ (sessOf s 0).tx.length ≤ 63 ∧ CanIdle s t (xiNet s)) ∧
    (∃ (t : Nat) (s : State) (k : Nat),
      (sessOf s 0).rxNext = some k ∧ (sessOf s 0).rxAt + 50 * msU ≤ instant s t) ∧
    (∃ (t : Nat) (s : State) (a : Nat),
      (sessOf s 0).txWait = some a ∧ a + 50 * msU ≤ instant s t) ∧
    (∃ (t : Nat) (net : Fin 2) (s : State),
      (canOf s net).joined = true ∧ (canOf s net).busOff = false ∧ LogRoom s 1) ∧
    (∃ (t : Nat) (net : Fin 2) (s : State),
      (canOf s net).busOff = true ∧ LogRoom s 1) :=
  ⟨⟨5, 0, 0x610, (0x40 :: List.replicate 63 0xFF), modCan 0 (fun c => { c with joined := true }) (setPar 0x1043 0 (.int 0) (setPar 0x1044 0 (.int 0x610) (served run0))), by decide⟩,
    ⟨5, 0, 0x610, [2, 7], modSess 0 (fun e => { e with rx := [5], rxNext := some 1 }) (modCan 0 (fun c => { c with joined := true }) (setPar 0x1043 0 (.int 0) (setPar 0x1044 0 (.int 0x610) (served run0)))), by decide⟩,
    ⟨5, 0, 0x610, [0xC0, 7], modCan 0 (fun c => { c with joined := true }) (setPar 0x1043 0 (.int 0) (setPar 0x1044 0 (.int 0x610) (served run0))), by decide⟩,
    ⟨5, 0, 0x610, [15, 7], modSess 0 (fun e => { e with rx := [5, 6, 0, 0, 0, 0, 100, 0], rxNext := some 15 }) (modCan 0 (fun c => { c with joined := true }) (setPar 0x1043 0 (.int 0) (setPar 0x1044 0 (.int 0x610) (served run0)))), 15, by decide⟩,
    ⟨5, 0, 0x610, 0xC0 :: xiMsg 2 3 0 0 0 [], modSess 0 (fun e => { e with open_ := false }) (modCan 0 (fun c => { c with joined := true }) (setPar 0x1043 0 (.int 0) (setPar 0x1044 0 (.int 0x610) (served run0)))), by decide⟩,
    ⟨5, 3, modSess 0 (fun e => { e with tx := [5], txWait := some 0, lastTag := some (3, 7) }) (modCan 0 (fun c => { c with joined := true }) (setPar 0x1043 0 (.int 0) (served run0))), 7, 0, by decide⟩,
    ⟨5, 3, modSess 0 (fun e => { e with tx := [5], txWait := some 0, lastTag := some (3, 7) }) (modCan 0 (fun c => { c with joined := true }) (setPar 0x1043 0 (.int 0) (served run0))), 7, 0, by decide⟩,
    ⟨6400000000, modSess 0 (fun e => { e with rx := [5], rxNext := some 1 }) run0, 1, by decide⟩,
    ⟨6400000000, modSess 0 (fun e => { e with tx := [5], txWait := some 0 }) run0, 0, by decide⟩,
    ⟨5, 1, modCan 1 (fun c => { c with joined := true }) run0, by decide⟩,
    ⟨5, 1, modCan 1 (fun c => { c with joined := true, busOff := true }) run0, by decide⟩⟩

set_option maxRecDepth 8000 in
theorem wit_Mailbox :
    (∃ (t : Nat) (v : BitVec 32) (s : State),
      s.pci.perst = false ∧ s.xi.mbx.reqFree = true ∧ v.getLsbD 31 = true ∧ v.getLsbD 30 = false ∧ 1 ≤ v.toNat % 8192 ∧ v.toNat % 8192 ≤ 4096) ∧
    (∃ (t : Nat) (v : BitVec 32) (s : State),
      s.pci.perst = false ∧ s.xi.mbx.reqFree = true ∧ v.getLsbD 31 = true ∧ v.getLsbD 30 = true ∧ 1 ≤ v.toNat % 8192 ∧ v.toNat % 8192 ≤ 4096 ∧ delivers s 1 = true ∧ (parseReq (Memory.readBytes s.xi.mbx.req 0 (v.toNat % 8192))).good = false) ∧
    (∃ (t : Nat) (v : BitVec 32) (s : State) (r : Req),
      s.pci.perst = false ∧ s.xi.mbx.reqFree = true ∧ v.getLsbD 31 = true ∧ v.getLsbD 30 = true ∧ 1 ≤ v.toNat % 8192 ∧ v.toNat % 8192 ≤ 4096 ∧ delivers s 1 = true ∧ s.dev = .boot ∧ r = parseReq (Memory.readBytes s.xi.mbx.req 0 (v.toNat % 8192)) ∧ r.good = true) ∧
    (∃ (t : Nat) (v : BitVec 32) (s : State),
      s.pci.perst = false ∧ s.xi.mbx.reqFree = false) ∧
    (∃ (t : Nat) (v : BitVec 32) (s : State) (a : Nat),
      v.getLsbD 0 = true ∧ s.xi.mbx.rspReady = true ∧ s.xi.mbx.out ≠ [] ∧ a < (s.xi.mbx.out.take 4096).length ∧ Memory.wf s.xi.mbx.rsp = true) ∧
    (∃ (t : Nat) (v : BitVec 32) (s : State),
      v.getLsbD 0 = true ∧ s.xi.mbx.rspReady = true ∧ s.xi.mbx.out = []) ∧
    (∃ (t : Nat) (v : BitVec 32) (s : State),
      v.getLsbD 0 = true) ∧
    (∃ (t : Nat) (k : Fin 1024) (i : Fin 4) (v : BitVec 32) (s : State),
      Memory.wf s.xi.mbx.req = true) :=
  ⟨⟨5, 0x80000004, modMbx (fun m => { m with req := [(0, 9)] }) run0, by decide⟩,
    ⟨5, 0xC0000004, served (modMbx (fun m => { m with req := [(0, 9)] }) run0), by decide⟩,
    ⟨5, 0xC000000C, served (modMbx (fun m => { m with req := Memory.writeBytes [] 0 (xiMsg 2 3 0 0 0 []) }) State.reset), parseReq (xiMsg 2 3 0 0 0 []), by decide⟩,
    ⟨5, 0xC0000004, modMbx (fun m => { m with reqFree := false }) run0, by decide⟩,
    ⟨5, 1, modMbx (fun m => { m with rspReady := true, out := [1, 2, 3] }) run0, 2, by decide⟩,
    ⟨5, 1, modMbx (fun m => { m with rspReady := true }) run0, by decide⟩,
    ⟨5, 1, modMbx (fun m => { m with rspReady := true, msg := [1] }) run0, by decide⟩,
    ⟨5, 1023, 3, 0x01020304, run0, by decide⟩⟩

set_option maxRecDepth 8000 in
theorem wit_DeviceStates :
    (∃ (t : Nat) (ep : Fin 10) (tag : BitVec 8) (s : State),
      Accepts s t ep tag 0x1012 0 [1] ∧ (s.dev = .run ∨ s.dev = .safe) ∧ bit (parN s 0x1013 0) ep = true) ∧
    (∃ (t : Nat) (ep : Fin 10) (tag : BitVec 8) (s : State),
      Accepts s t ep tag 0x1012 0 [2] ∧ s.dev = .config ∧ bit (parN s 0x1013 0) ep = true ∧ runRefused s = 0 ∧ s.saf.causes = [] ∧ s.saf.latched = [] ∧ s.fe.verDone = true) ∧
    (∃ (t : Nat) (ep : Fin 10) (tag : BitVec 8) (s : State),
      Accepts s t ep tag 0x1012 0 [2] ∧ s.dev = .config ∧ bit (parN s 0x1013 0) ep = true ∧ runRefused s = 0 ∧ (s.saf.causes ≠ [] ∨ s.saf.latched ≠ [] ∨ s.fe.verDone = false)) ∧
    (∃ (t : Nat) (ep : Fin 10) (tag : BitVec 8) (s : State),
      Accepts s t ep tag 0x1012 0 [2] ∧ s.dev = .config ∧ bit (parN s 0x1013 0) ep = true ∧ runRefused s ≠ 0 ∧ LogRoom s 1) ∧
    (∃ (t : Nat) (ep : Fin 10) (tag : BitVec 8) (s : State),
      Accepts s t ep tag 0x1012 0 [3] ∧ s.dev = .safe ∧ bit (parN s 0x1013 0) ep = true ∧ s.saf.causes = [] ∧ s.saf.latched = []) ∧
    (∃ (t : Nat) (ep : Fin 10) (tag : BitVec 8) (s : State),
      Accepts s t ep tag 0x1012 0 [3] ∧ s.dev = .safe ∧ bit (parN s 0x1013 0) ep = true ∧ (s.saf.causes ≠ [] ∨ s.saf.latched ≠ [])) ∧
    (∃ (t : Nat) (ep : Fin 10) (tag : BitVec 8) (s : State), delivers s ep = true ∧ s.dev ≠ .boot ∧ (sessOf s ep).open_ = true ∧
      bit (parN s 0x1013 0) ep = false ∧ (∀ n ∈ upto 11, isRepeat ep (wreq tag 0x1012 0 [BitVec.ofNat 8 n]) (s.start t) = false)) :=
  ⟨⟨5, 1, 3, served run0, by decide⟩,
    ⟨5, 1, 3, served (setPar 0x4800 0 (.int 2) (modFe (fun f => { f with verDone := true }) (modAdc (fun a => { a with seq := [(0, List.replicate 32 0x80)] }) (modRm (fun r => { r with table := some {} }) { State.reset with dev := .config })))), by decide⟩,
    ⟨5, 1, 3, served (setPar 0x4800 0 (.int 2) (modAdc (fun a => { a with seq := [(0, List.replicate 32 0x80)] }) (modRm (fun r => { r with table := some {} }) { State.reset with dev := .config }))), by decide⟩,
    ⟨5, 1, 3, served { State.reset with dev := .config }, by decide⟩,
    ⟨5, 1, 3, served { State.reset with dev := .safe }, by decide⟩,
    ⟨5, 1, 3, served { State.reset with dev := .safe, saf := { State.reset.saf with causes := [.shutdown] } }, by decide⟩,
    ⟨5, 1, 3, setPar 0x1013 0 (.int 0) (served run0), by decide⟩⟩

set_option maxRecDepth 8000 in
theorem wit_CommandedResetsAndDormant :
    (∃ (t : Nat) (ep : Fin 10) (tag : BitVec 8) (s : State),
      Accepts s t ep tag 0x1012 0 [5] ∧ s.dev ≠ .off ∧ s.dev ≠ .dormant ∧ bit (parN s 0x1013 0) ep = true ∧ s.xi.resetAt = none) ∧
    (∃ (t : Nat) (ep : Fin 10) (tag : BitVec 8) (s : State),
      Accepts s t ep tag 0x1012 0 [6] ∧ s.dev ≠ .off ∧ s.dev ≠ .dormant ∧ bit (parN s 0x1013 0) ep = true ∧ s.xi.resetAt.map (·.1) ≠ some .full) ∧
    (∃ (t : Nat) (ep : Fin 10) (tag : BitVec 8) (s : State),
      Accepts s t ep tag 0x1012 0 [4] ∧ s.dev = .config ∧ bit (parN s 0x1013 0) ep = true) ∧
    (∃ (t : Nat) (ep : Fin 10) (s : State) (a : Nat) (e : Nat),
      s.xi.dormantAt = some (a, e) ∧ s.dev = .config ∧ a + 10 * msU ≤ instant s t) ∧
    (∃ (t : Nat) (src : Fin 4) (s : State),
      s.dev = .dormant ∧ bit s.thm.wakeEn src = true ∧ s.thm.wakePend = none ∧ (src.val = 3 → s.thm.wakeTime ≠ 0 ∧ s.thm.wakeTime ≤ Config.rtcSeconds (instant s t - s.thm.dormantFrom))) ∧
    (∃ (t : Nat) (s : State) (a : Nat) (k : Nat),
      s.dev = .dormant ∧ s.thm.wakePend = some (k, a) ∧ a + 100 * msU ≤ instant s t) :=
  ⟨⟨5, 1, 3, served run0, by decide⟩,
    ⟨5, 1, 3, served run0, by decide⟩,
    ⟨5, 1, 3, served { State.reset with dev := .config }, by decide⟩,
    ⟨1280000005, 1, served { State.reset with dev := .config, xi := { State.reset.xi with dormantAt := some (5, 1) } }, 5, 1, by decide⟩,
    ⟨5, 2, modThm (fun x => { x with wakeEn := 4 }) { State.reset with dev := .dormant }, by decide⟩,
    ⟨12800000000, modThm (fun x => { x with wakePend := some (3, 0) }) { State.reset with dev := .dormant }, 0, 3, by decide⟩⟩

set_option maxRecDepth 8000 in
theorem wit_StoreAndSeal :
    (∃ (t : Nat) (ep : Fin 10) (tag : BitVec 8) (s : State),
      Accepts s t ep tag 0x1012 0 [7] ∧ (s.dev = .config ∨ s.dev = .run ∨ s.dev = .safe) ∧ bit (parN s 0x1013 0) ep = true ∧ s.xi.storing = none ∧ flashWindow s = true) ∧
    (∃ (t : Nat) (ep : Fin 10) (tag : BitVec 8) (s : State),
      Accepts s t ep tag 0x1012 0 [7] ∧ (s.dev = .config ∨ s.dev = .run ∨ s.dev = .safe) ∧ bit (parN s 0x1013 0) ep = true ∧ (s.xi.storing ≠ none ∨ flashWindow s = false)) ∧
    (∃ (t : Nat) (s : State) (l : List (Nat × DVal)),
      s.xi.storing = some l ∧ LogRoom s 1) ∧
    (∃ (t : Nat) (ep : Fin 10) (tag : BitVec 8) (s : State) (k : Nat) (v : DVal) (row : DRow),
      Accepts s t ep tag 0x1012 0 [8] ∧ s.dev = .config ∧ bit (parN s 0x1013 0) ep = true ∧ (k, v) ∈ s.dict.inForce ∧ keyStored k = true ∧ dictFind (k / 256) (k % 256) = some row ∧ (row.app = .frame ∨ row.app = .phase)) ∧
    (∃ (t : Nat) (ep : Fin 10) (tag : BitVec 8) (s : State),
      Accepts s t ep tag 0x1012 0 [9] ∧ s.dev = .config ∧ bit (parN s 0x1013 0) ep = true ∧ isSafety s ep = true ∧ s.xi.storing = none ∧ flashWindow s = true ∧ pinsForSet s = true ∧ setRules412 (workCopy s) = true ∧ setRules432 s (workCopy s) = true) ∧
    (∃ (t : Nat) (ep : Fin 10) (tag : BitVec 8) (s : State),
      Accepts s t ep tag 0x1012 0 [10] ∧ s.dev = .config ∧ bit (parN s 0x1013 0) ep = true ∧ isSafety s ep = true) ∧
    (∃ (t : Nat) (s : State),
      s.dev = .config ∧ s.rst.autoWait = true ∧ s.rst.configAt + parN s 0x1016 0 * msU ≤ instant s t ∧ runRefused s = 0) ∧
    (∃ (t : Nat) (s : State),
      s.dev = .config ∧ s.rst.autoWait = true ∧ ((s.adc.refReady = true ∧ measPending s = 0) ∨ s.rst.configAt + parN s 0x1016 0 * msU ≤ instant s t) ∧ runRefused s ≠ 0 ∧ LogRoom s 1) :=
  ⟨⟨5, 1, 3, served run0, by decide⟩,
    ⟨5, 1, 3, modXi (fun x => { x with storing := some [] }) (served run0), by decide⟩,
    ⟨5, modXi (fun x => { x with storing := some [(5, .int 6)] }) run0, [(5, .int 6)], by decide⟩,
    ⟨5, 1, 3, served (setPar 0x2010 0 (.int 800) { State.reset with dev := .config }), dkey 0x2010 0, .int 800, (dictFind 0x2010 0).get (by decide), by decide⟩,
    ⟨5, 1, 3, modSess 1 (fun e => { e with priv := true }) (served (modXi (fun x => { x with work := some [] }) { State.reset with dev := .config, saf := { State.reset.saf with pins := 0xE1, pinsBoot := 0xE1 } })), by decide⟩,
    ⟨5, 1, 3, modSess 1 (fun e => { e with priv := true }) (served (modXi (fun x => { x with work := some [] }) { State.reset with dev := .config })), by decide⟩,
    ⟨12800000000000, setPar 0x4800 0 (.int 2) (modAdc (fun a => { a with seq := [(0, List.replicate 32 0x80)] }) (modRm (fun r => { r with table := some {} }) { State.reset with dev := .config, rst := { State.reset.rst with autoWait := true } })), by decide⟩,
    ⟨12800000000000, { State.reset with dev := .config, rst := { State.reset.rst with autoWait := true } }, by decide⟩⟩

set_option maxRecDepth 8000 in
theorem wit_ThermalEvents :
    (∃ (t : Nat) (s : State),
      s.thm.stepAt + 40 * usU ≤ instant s t) ∧
    (∃ (t : Nat) (s : State),
      instant s t < s.thm.stepAt + 40 * usU) ∧
    (∃ (t : Nat) (k : Fin 10) (s : State) (a : Nat),
      (sensOf s k).broken = true ∧ (sensOf s k).okFrom = some a ∧ a + secU ≤ instant s t ∧ LogRoom s 1) ∧
    (∃ (t : Nat) (s : State) (a : Nat),
      s.thm.shutdown = true ∧ s.thm.coolFrom = some a ∧ a + 10 * secU ≤ instant s t ∧ LogRoom s 1) ∧
    (∃ (t : Nat) (s : State),
      parN s 0x7010 0 = 0 ∧ s.thm.vidAt + 100 * usU ≤ instant s t ∧ s.thm.vid < 15) ∧
    (∃ (t : Nat) (s : State),
      parN s 0x7010 0 = 0 ∧ s.thm.vidAt + 100 * usU ≤ instant s t ∧ 0 < s.thm.vid) ∧
    (∃ (t : Nat) (full : Bool) (idle : Bool) (s : State),
      (parN s 0x7010 0 ≠ 0 ∨ instant s t < s.thm.vidAt + 100 * usU ∨ (full = false ∧ idle = false))) ∧
    (∃ (t : Nat) (die : List (Fin 6 × Int)) (counts : List (Fin 132 × Nat)) (s : State),
      periodDue s.thm.modelAt (100 * usU) (instant s t) = true) :=
  ⟨⟨5120000, modThm (fun x => { x with node := [(3, 119000)] }) run0, by decide⟩,
    ⟨5119999, run0, by decide⟩,
    ⟨128000000000, 9, modSens 9 (fun x => { x with broken := true, okFrom := some 0 }) run0, 0, by decide⟩,
    ⟨1280000000000, modThm (fun x => { x with shutdown := true, coolFrom := some 0 }) run0, 0, by decide⟩,
    ⟨12800000, modThm (fun x => { x with vid := 14 }) (setPar 0x7010 0 (.int 0) run0), by decide⟩,
    ⟨12800000, modThm (fun x => { x with vid := 1 }) (setPar 0x7010 0 (.int 0) run0), by decide⟩,
    ⟨5, true, false, run0, by decide⟩,
    ⟨5, [(5, 20000)], [(131, 7)], run0, by decide⟩⟩

set_option maxRecDepth 8000 in
theorem wit_SuppliesAndResetRequests :
    (∃ (t : Nat) (v : Nat) (n : Fin 4) (s : State),
      v < 800 ∧ s.thm.vmachLow = false ∧ s.dev = .run) ∧
    (∃ (t : Nat) (v : Nat) (s : State),
      850 ≤ v ∧ s.thm.vmachLow = true ∧ LogRoom s 1) ∧
    (∃ (t : Nat) (v : Nat) (s : State),
      v < 1000 ∧ s.thm.vhvLow = false ∧ LogRoom s 1) ∧
    (∃ (t : Nat) (v : Nat) (s : State),
      1050 ≤ v ∧ s.thm.vhvLow = true ∧ LogRoom s 1) ∧
    (∃ (t : Nat) (s : State),
      s.rst.request.map (·.1) ≠ some .full) ∧
    (∃ (t : Nat) (s : State) (c : Nat),
      s.rst.request = some (.full, c)) ∧
    (∃ (t : Nat) (supply : Fin 8) (s : State),
      s.rst.request.map (·.1) ≠ some .full ∧ (s.dev ≠ .dormant ∨ supply = 0)) ∧
    (∃ (t : Nat) (core : Fin 4) (s : State),
      s.dev ≠ .off ∧ s.dev ≠ .dormant ∧ s.rst.request = none ∧ (∀ a ∈ s.rst.wdgAt, a + 60 * secU < instant s t) ∧ LogRoom s 1) ∧
    (∃ (t : Nat) (core : Fin 4) (s : State) (a : Nat),
      s.dev ≠ .off ∧ s.dev ≠ .dormant ∧ s.rst.request.map (·.1) ≠ some .full ∧ (∀ r ∈ s.rst.request, r.2 ≠ 2) ∧ s.rst.wdgAt = some a ∧ instant s t ≤ a + 60 * secU) ∧
    (∃ (t : Nat) (n : Fin 4) (s : State),
      s.dev ≠ .off ∧ s.dev ≠ .dormant ∧ s.rst.request.map (·.1) ≠ some .full ∧ LogRoom s 1) ∧
    (∃ (t : Nat) (n : Fin 4) (s : State),
      s.dev ≠ .off ∧ s.dev ≠ .dormant ∧ s.rst.request.map (·.1) ≠ some .full ∧ LogRoom s 1) :=
  ⟨⟨5, 799, 3, modOut 3 (fun o => { o with on := true, request := true }) run0, by decide⟩,
    ⟨5, 850, modThm (fun x => { x with vmachLow := true }) run0, by decide⟩,
    ⟨5, 999, run0, by decide⟩,
    ⟨5, 1050, modThm (fun x => { x with vhvLow := true }) run0, by decide⟩,
    ⟨5, { run0 with rst := { run0.rst with request := some (.warm, 2) } }, by decide⟩,
    ⟨5, { run0 with rst := { run0.rst with request := some (.full, 2) } }, 2, by decide⟩,
    ⟨5, 7, run0, by decide⟩,
    ⟨5, 3, run0, by decide⟩,
    ⟨7680000000000, 3, { run0 with rst := { run0.rst with wdgAt := some 0 } }, 0, by decide⟩,
    ⟨5, 3, modOut 3 (fun o => { o with request := true }) run0, by decide⟩,
    ⟨5, 3, modOut 3 (fun o => { o with request := true }) run0, by decide⟩⟩

set_option maxRecDepth 8000 in
theorem wit_ResetBegin :
    (∃ (t : Nat) (ep : Fin 10) (em : Fin 32) (s : State) (c : Nat),
      s.rst.request = some (.full, c) ∧ s.rst.phase = .none) ∧
    (∃ (t : Nat) (ep : Fin 10) (s : State) (a : Nat) (e : Nat),
      s.rst.request = none ∧ s.rst.phase = .none ∧ s.xi.resetAt = some (.full, a, e) ∧ a + 10 * msU ≤ instant s t) ∧
    (∃ (t : Nat) (ep : Fin 10) (em : Fin 32) (s : State) (c : Nat),
      s.rst.request = some (.warm, c) ∧ s.rst.phase = .none) ∧
    (∃ (t : Nat) (s : State),
      s.rst.request = none ∧ s.xi.resetAt = none ∧ s.thm.wakePend = none) ∧
    (∃ (t : Nat) (bootsel : Bool) (s : State),
      s.rst.phase = .held) :=
  ⟨⟨5, 1, 31, setPar 0x2010 0 (.int 5) (served { run0 with rst := { run0.rst with request := some (.full, 2) } }), 2, by decide⟩,
    ⟨1280000005, 1, modXi (fun x => { x with resetAt := some (.full, 5, 1) }) (served run0), 5, 1, by decide⟩,
    ⟨5, 1, 31, setPar 0x2010 0 (.int 5) (served { run0 with rst := { run0.rst with request := some (.warm, 2) }, saf := { run0.saf with causes := [.shutdown, .gateFault] } }), 2, by decide⟩,
    ⟨5, run0, by decide⟩,
    ⟨5, true, State.reset, by decide⟩⟩

set_option maxRecDepth 8000 in
theorem wit_StartUp :
    (∃ (t : Nat) (die : List (Fin 8 × Int)) (s : State),
      s.rst.phase = .released ∧ LogRoom s 1) ∧
    (∃ (t : Nat) (die : List (Fin 8 × Int)) (s : State),
      s.rst.phase = .none ∧ s.tbs.lock = false ∧ s.dev ≠ .dormant ∧ s.dev ≠ .off) ∧
    (∃ (t : Nat) (pins : BitVec 8) (cap : Nat) (kat : BitVec 18) (n : Fin 2) (s : State),
      s.dev = .boot ∧ s.rst.phase = .none ∧ s.tbs.lock = true) ∧
    (∃ (t : Nat) (s : State),
      s.dev = .boot ∧ s.rst.phase ≠ .held ∧ s.rst.releasedAt + secU ≤ instant s t ∧ s.rst.notReady = false ∧ LogRoom s 1) ∧
    (∃ (t : Nat) (vfld : Bool) (exc : Bool) (links : Bool) (s : State),
      s.dev = .boot ∧ s.rst.phase ≠ .held ∧ s.rst.releasedAt + secU ≤ instant s t ∧ s.rst.notReady = true ∧ (vfld = false ∨ exc = false ∨ links = false)) :=
  ⟨⟨5, [(3, 41000)], { State.reset with rst := { State.reset.rst with phase := .released } }, by decide⟩,
    ⟨5, [], { run0 with rst := { State.reset.rst with phase := .none } }, by decide⟩,
    ⟨5, 0xF0, 1024, 0, 1, modTbs (fun c => { c with lock := true }) { State.reset with rst := { State.reset.rst with phase := .none } }, by decide⟩,
    ⟨128000000000, { State.reset with rst := { State.reset.rst with phase := .none } }, by decide⟩,
    ⟨128000000000, true, true, false, { State.reset with rst := { State.reset.rst with phase := .none, notReady := true } }, by decide⟩⟩

set_option maxRecDepth 8000 in
theorem wit_UpdateLock :
    (∃ (t : Nat) (ep : Fin 10) (tag : BitVec 8) (s : State),
      Accepts s t ep tag 0x8000 0 [1] ∧ (s.upd.lock = none ∨ s.upd.lock = some ep.val) ∧ (sessOf s ep).priv = true ∧ s.upd.st = 0) ∧
    (∃ (t : Nat) (ep : Fin 10) (tag : BitVec 8) (s : State),
      Accepts s t ep tag 0x8000 0 [1] ∧ (s.upd.lock = none ∨ s.upd.lock = some ep.val) ∧ (sessOf s ep).priv = false) ∧
    (∃ (t : Nat) (ep : Fin 10) (tag : BitVec 8) (s : State) (e : Nat), s.upd.lock = some e ∧ e ≠ ep.val ∧
      (∀ n ∈ [1, 2, 3, 4, 5, 6], Accepts s t ep tag 0x8000 0 [BitVec.ofNat 8 n])) ∧
    (∃ (t : Nat) (ep : Fin 10) (tag : BitVec 8) (ofs : BitVec 32) (data : List Byte) (s : State) (e : Nat),
      Accepts s t ep tag 0x8002 0 (leBytes 4 ofs.toNat ++ data) ∧ s.upd.lock = some e ∧ e ≠ ep.val) ∧
    (∃ (t : Nat) (ep : Fin 10) (tag : BitVec 8) (s : State), s.upd.lock = some ep.val ∧
      (∀ n ∈ [1, 2, 3, 6], Accepts s t ep tag 0x8000 0 [BitVec.ofNat 8 n])) ∧
    (∃ (t : Nat) (ep : Fin 10) (tag : BitVec 8) (ofs : BitVec 32) (data : List Byte) (s : State),
      Accepts s t ep tag 0x8002 0 (leBytes 4 ofs.toNat ++ data) ∧ s.upd.lock = some ep.val) :=
  ⟨⟨5, 1, 3, modSess 1 (fun e => { e with priv := true }) (served run0), by decide⟩,
    ⟨5, 1, 3, served run0, by decide⟩,
    ⟨5, 1, 3, modUpd (fun u => { u with lock := some 0 }) (served run0), 0, by decide⟩,
    ⟨5, 1, 3, 0, [7], modUpd (fun u => { u with lock := some 0 }) (served run0), 0, by decide⟩,
    ⟨5, 1, 3, modUpd (fun u => { u with lock := some 1 }) (served run0), by decide⟩,
    ⟨5, 1, 3, 9, [7], modUpd (fun u => { u with lock := some 1 }) (served run0), by decide⟩⟩

set_option maxRecDepth 8000 in
theorem wit_UpdatePackage :
    (∃ (t : Nat) (ep : Fin 10) (tag : BitVec 8) (ofs : BitVec 32) (data : List Byte) (s : State),
      Accepts s t ep tag 0x8002 0 (leBytes 4 ofs.toNat ++ data) ∧ s.upd.lock = some ep.val ∧ (s.upd.st = 1 ∨ s.upd.st = 2) ∧ ofs.toNat = s.upd.received ∧ s.xi.storing = none ∧ flashWindow s = true ∧ s.upd.area = none ∧ s.upd.buf.length + data.length < 512) ∧
    (∃ (t : Nat) (ep : Fin 10) (tag : BitVec 8) (ofs : BitVec 32) (data : List Byte) (s : State) (a : Nat × Nat),
      Accepts s t ep tag 0x8002 0 (leBytes 4 ofs.toNat ++ data) ∧ s.upd.lock = some ep.val ∧ (s.upd.st = 1 ∨ s.upd.st = 2) ∧ ofs.toNat = s.upd.received ∧ s.xi.storing = none ∧ flashWindow s = true ∧ s.upd.area = some a ∧ s.upd.received + data.length < 512 + hdrLen (areaPkg s a).head) ∧
    (∃ (t : Nat) (ep : Fin 10) (tag : BitVec 8) (s : State),
      Accepts s t ep tag 0x8000 0 [2] ∧ s.upd.lock = some ep.val ∧ s.upd.st = 3) ∧
    (∃ (t : Nat) (s : State) (a : Nat × Nat),
      s.upd.area = some a ∧ s.upd.st = 4) ∧
    (∃ (t : Nat) (ep : Fin 10) (tag : BitVec 8) (s : State) (k : Fin 2),
      Accepts s t ep tag 0x8000 0 [3] ∧ s.upd.lock = some ep.val ∧ s.upd.area = some (1, k.val) ∧ s.upd.st = 5 ∧ (s.dev = .config ∨ s.dev = .recovery) ∧ s.xi.storing = none ∧ flashWindow s = true) ∧
    (∃ (t : Nat) (ep : Fin 10) (tag : BitVec 8) (s : State) (a : Nat × Nat),
      Accepts s t ep tag 0x8000 0 [4] ∧ s.upd.lock = some ep.val ∧ s.upd.area = some a ∧ 2 ≤ s.upd.st ∧ s.upd.st ≤ 5) ∧
    (∃ (t : Nat) (ep : Fin 10) (tag : BitVec 8) (s : State) (a : Nat × Nat),
      Accepts s t ep tag 0x8000 0 [5] ∧ s.upd.lock = some ep.val ∧ s.upd.area = some a ∧ s.upd.st = 6) ∧
    (∃ (t : Nat) (s : State) (ep : Nat),
      s.upd.lock = some ep ∧ s.upd.lockAt + 30 * secU ≤ instant s t ∧ LogRoom s 1) ∧
    (∃ (t : Nat) (ep : Fin 10) (tag : BitVec 8) (s : State),
      Accepts s t ep tag 0x8000 0 [6] ∧ (s.upd.lock = none ∨ s.upd.lock = some ep.val) ∧ s.upd.trialFrom.isSome = true) ∧
    (∃ (t : Nat) (s : State) (a : Nat),
      s.upd.trialFrom = some a ∧ confirmOk s = true ∧ instant s t < a + 60 * secU ∧ s.upd.running ≤ 1 ∧ LogRoom s 1) ∧
    (∃ (t : Nat) (s : State) (a : Nat),
      s.upd.trialFrom = some a ∧ a + 60 * secU ≤ instant s t ∧ s.rst.request.map (·.1) ≠ some .full ∧ LogRoom s 1) :=
  ⟨⟨5, 1, 3, 0, [7], modUpd (fun u => { u with lock := some 1, st := 1 }) (served run0), by decide⟩,
    ⟨5, 1, 3, 512, [7], modArea (1, 1) (fun p => { p with head := List.replicate 24 0 ++ [9, 0, 0, 0] }) (modUpd (fun u => { u with lock := some 1, st := 2, received := 512, area := some (1, 1) }) (served run0)), (1, 1), by decide⟩,
    ⟨5, 1, 3, modUpd (fun u => { u with lock := some 1, st := 3 }) (served run0), by decide⟩,
    ⟨5, modUpd (fun u => { u with st := 4, area := some (1, 1) }) run0, (1, 1), by decide⟩,
    ⟨5, 1, 3, modUpd (fun u => { u with lock := some 1, st := 5, area := some (1, 1) }) (served { State.reset with dev := .config }), 1, by decide⟩,
    ⟨5, 1, 3, modArea (1, 1) (fun p => { p with body := [5] }) (modUpd (fun u => { u with lock := some 1, st := 2, area := some (1, 1) }) (served run0)), (1, 1), by decide⟩,
    ⟨5, 1, 3, modArea (1, 1) (fun p => { p with body := [5] }) (modUpd (fun u => { u with lock := some 1, st := 6, area := some (1, 1) }) (served run0)), (1, 1), by decide⟩,
    ⟨3840000000000, modUpd (fun u => { u with lock := some 1, st := 2 }) run0, 1, by decide⟩,
    ⟨5, 1, 3, modUpd (fun u => { u with trialFrom := some 0 }) (served run0), by decide⟩,
    ⟨5, modUpd (fun u => { u with trialFrom := some 0, running := 1, hostConfirm := true }) (modTbs (fun c => { c with lock := true }) { run0 with rst := { run0.rst with linksTrained := true } }), 0, by decide⟩,
    ⟨7680000000000, modUpd (fun u => { u with trialFrom := some 0 }) run0, 0, by decide⟩⟩

set_option maxRecDepth 8000 in
theorem wit_UpdateAuthentication :
    (∃ (t : Nat) (ep : Fin 10) (k : Fin 10) (tag : BitVec 8) (key : List Byte) (sig : List Byte) (s : State),
      Accepts s t ep tag 0x8007 0 (key ++ sig) ∧ (sessOf s ep).lockout = none ∧ k ≠ ep ∧ (sessOf s k).open_ = true ∧ (sessOf s k).priv = true ∧ (sessOf s ep).refusals < 2) ∧
    (∃ (t : Nat) (ep : Fin 10) (tag : BitVec 8) (key : List Byte) (sig : List Byte) (s : State),
      Accepts s t ep tag 0x8007 0 (key ++ sig) ∧ (sessOf s ep).lockout = none ∧ ((sessOf s ep).chal = none ∨ ∃ k : Fin 10, k ≠ ep ∧ (sessOf s k).open_ = true ∧ (sessOf s k).priv = true) ∧ (sessOf s ep).refusals = 2 ∧ LogRoom s 1) ∧
    (∃ (t : Nat) (ep : Fin 10) (tag : BitVec 8) (key : List Byte) (sig : List Byte) (s : State),
      Accepts s t ep tag 0x8007 0 (key ++ sig) ∧ (sessOf s ep).lockout.isSome = true) ∧
    (∃ (t : Nat) (ep : Fin 10) (tag : BitVec 8) (key : List Byte) (sig : List Byte) (s : State) (c : List Byte),
      Accepts s t ep tag 0x8007 0 (key ++ sig) ∧ (sessOf s ep).lockout = none ∧ (∀ k : Fin 10, k ≠ ep → ¬((sessOf s k).open_ = true ∧ (sessOf s k).priv = true)) ∧ (sessOf s ep).chal = some c ∧ key.length = 97) ∧
    (∃ (t : Nat) (ep : Fin 10) (tag : BitVec 8) (s : State),
      Serves (s.start t) ep (mkReq 0x10 tag 0x8006 0 [] true) ∧ readStatus 0x8006 0 s = 0) ∧
    (∃ (t : Nat) (ep : Fin 10) (s : State) (a : Nat),
      (sessOf s ep).lockout = some a) ∧
    (∃ (t : Nat) (ep : Fin 10) (tag : BitVec 8) (s : State),
      Serves (s.start t) ep (mkReq 0x02 tag 0 0 [] true)) :=
  ⟨⟨5, 1, 2, 3, List.replicate 97 0, List.replicate 96 0, modSess 2 (fun e => { e with open_ := true, priv := true }) (served run0), by decide⟩,
    ⟨5, 1, 3, List.replicate 97 0, List.replicate 96 0, modSess 1 (fun e => { e with refusals := 2 }) (served run0), by decide⟩,
    ⟨5, 1, 3, List.replicate 97 0, List.replicate 96 0, modSess 1 (fun e => { e with lockout := some 0 }) (served run0), by decide⟩,
    ⟨5, 1, 3, List.replicate 97 0, List.replicate 96 0, modSess 1 (fun e => { e with chal := some [1, 2] }) (served run0), [1, 2], by decide⟩,
    ⟨5, 1, 3, served run0, by decide⟩,
    ⟨7680000000000, 1, modSess 1 (fun e => { e with lockout := some 0 }) run0, 0, by decide⟩,
    ⟨5, 1, 3, modSess 1 (fun e => { e with priv := true }) (served run0), by decide⟩⟩

set_option maxRecDepth 8000 in
theorem wit_KeyRevocation :
    (∃ (s : State) (h : List Byte), 4 ≤ hdrKey h ∨ s.upd.revoked.getLsbD (hdrKey h) = true) ∧
    (∃ (t : Nat) (ep : Fin 10) (tag : BitVec 8) (v : BitVec 8) (k : Fin 4) (s : State),
      Accepts s t ep tag 0x800D 0 [v] ∧ (sessOf s ep).priv = true ∧ (slotPkg s s.upd.running).head ≠ []) :=
  ⟨⟨modUpd (fun u => { u with revoked := 8 }) run0, List.replicate 28 0 ++ [3, 0, 0, 0], by decide⟩,
    ⟨5, 1, 3, 15, 2, modUpd (fun u => { u with slots := [(0, { head := List.replicate 28 0 ++ [2, 0, 0, 0] })] }) (modSess 1 (fun e => { e with priv := true }) (served run0)), by decide⟩⟩

set_option maxRecDepth 8000 in
theorem wit_QueueStep :
    (∃ s : State, s.pending = []) :=
  ⟨State.reset, by decide⟩

set_option maxRecDepth 8000 in
theorem wit_EveryCommandCompletes :
    (∃ c : Instr, (∀ t a v, c ≠ .registerWrite t a v) ∧ (∀ t, c ≠ .fullReset t) ∧ (∀ t, c ≠ .warmReset t)) :=
  ⟨.porn 5, fun _ _ _ h => Instr.noConfusion h, fun _ h => Instr.noConfusion h, fun _ h => Instr.noConfusion h⟩

set_option maxRecDepth 8000 in
theorem wit_InvariantKept :
    (∃ s u : State, BlockInv s ∧ step s = .next u) :=
  ⟨State.reset, State.reset, ⟨by unfold DegradeInv; decide, by decide, by decide⟩, rfl⟩

end Sys2Proof.Tests
end

section
/-!
The isolation barrier: what the senders, the output logic and SAFE causes leave of a link, what a failed link, a damaged
frame and a retransmission do, and the commands of R28 to R43 and R115 to R122 assembled from these.
-/
namespace Sys2Proof.Barrier

open Sys2Proof Sys2Proof.Machine

/-! ## What sending leaves of the links

The output logic and the entry to SAFE send frames on BL0, which moves sequence numbers and replay buffers. No link
fails by it, no receiver advances and no CRC error is counted. -/

/-- Failed links, the receivers' sequence numbers and the CRC error count are the same. -/
structure ReceiversKept (s u : State) : Prop where
  crcErr : u.fld.crcErr = s.fld.crcErr
  failed : ∀ k, (linkOf u k).failed = (linkOf s k).failed
  rxSeq : ∀ k, (linkOf u k).rxSeq = (linkOf s k).rxSeq

theorem ReceiversKept.trans {s t u : State} (h : ReceiversKept s t) (g : ReceiversKept t u) : ReceiversKept s u :=
  ⟨g.crcErr.trans h.crcErr, fun k => (g.failed k).trans (h.failed k), fun k => (g.rxSeq k).trans (h.rxSeq k)⟩

theorem linkOf_of_fld {s u : State} (h : u.fld = s.fld) (k : Nat) : linkOf u k = linkOf s k := by
  unfold linkOf; rw [h]

theorem ReceiversKept.of_fld {s u : State} (h : u.fld = s.fld) : ReceiversKept s u :=
  ⟨by rw [h], fun k => by rw [linkOf_of_fld h], fun k => by rw [linkOf_of_fld h]⟩

theorem ReceiversKept.refl (s : State) : ReceiversKept s s := .of_fld rfl

/-- A field that f keeps is the same in every link after one link is changed by f. -/
theorem linkOf_modLink_keeps {α : Type} (g : LinkS → α) {f : LinkS → LinkS} (h : ∀ l, g (f l) = g l) (b : Nat)
    (s : State) (k : Nat) : g (linkOf (modLink b f s) k) = g (linkOf s k) := by
  by_cases hk : k = b
  · subst hk; rw [linkOf_modLink, h]
  · rw [linkOf_modLink_ne f s hk]

theorem barSend_receiversKept (bl ty : Nat) (pl : List Byte) (s : State) : ReceiversKept s (barSend bl ty pl s) := by
  unfold barSend
  extract_lets l u
  have hu : ReceiversKept s u :=
    ⟨rfl, linkOf_modLink_keeps LinkS.failed (fun _ => by rfl) bl s,
      linkOf_modLink_keeps LinkS.rxSeq (fun _ => by rfl) bl s⟩
  split
  · exact hu.trans (.of_fld rfl)
  · exact hu

theorem fastOff_receiversKept (n : Nat) (s : State) : ReceiversKept s (fastOff n s) :=
  (ReceiversKept.of_fld (barSymbol_only.same .fld (by decide))).trans (barSend_receiversKept ..)

theorem modOut_receiversKept (n : Nat) (f : OutS → OutS) (s : State) : ReceiversKept s (modOut n f s) :=
  ⟨rfl, fun _ => rfl, fun _ => rfl⟩

theorem outFaultSet_receiversKept (n code : Nat) (s : State) : ReceiversKept s (outFaultSet n code s) :=
  (modOut_receiversKept ..).trans (.of_fld (logNow_fld ..))

theorem recTrigger_fld (k : Nat) (t : BitVec 64) (s : State) : (recTrigger k t s).fld = s.fld :=
  recTrigger_only.same .fld (by decide)

theorem evalOutput_receiversKept (s : State) (n : Nat) : ReceiversKept s (evalOutput s n) := by
  unfold evalOutput
  extract_lets o want demand u v
  have hv : ReceiversKept s v := (modOut_receiversKept ..).trans (fastOff_receiversKept ..)
  split
  · split
    · exact hv.trans (.of_fld (recTrigger_fld ..))
    · exact hv
  · split
    · split
      · exact outFaultSet_receiversKept ..
      · exact modOut_receiversKept ..
    · exact .refl s

theorem evalOutputs_receiversKept (s : State) : ReceiversKept s (evalOutputs s) := by
  unfold evalOutputs
  generalize upto 4 = l
  induction l generalizing s with
  | nil => exact .refl s
  | cons n r ih => exact (evalOutput_receiversKept s n).trans (ih _)

theorem setState_receiversKept (new : DevState) (ep cmd : Nat) (s : State) :
    ReceiversKept s (setState new ep cmd s) := by
  unfold setState
  split
  · exact .refl s
  · extract_lets old u v r w
    have hu : ReceiversKept s u := .of_fld (logNow_fld ..)
    have hl : ReceiversKept u (loopsFollow u) := .of_fld (loopsFollow_only.same .fld (by decide))
    have hb : ReceiversKept (evalOutputs (loopsFollow u)) v := .of_fld (balls_only.same .fld (by decide))
    have hv : ReceiversKept s v := ((hu.trans hl).trans (evalOutputs_receiversKept _)).trans hb
    have hw : ReceiversKept s w := hv.trans (.of_fld (by subst w; with_reducible rfl))
    split
    · exact hw.trans (.of_fld (recTrigger_fld ..))
    · exact hw

theorem safeCause_receiversKept (c : SafeCause) (s : State) : ReceiversKept s (safeCause c s) := by
  unfold safeCause
  extract_lets u
  have hu : ReceiversKept s u := .of_fld rfl
  split
  · exact hu.trans (setState_receiversKept ..)
  · exact hu

/-! ## Which link carries the traffic (R30, R31, R34) -/

/-- Failed links, running switchovers and the spares' assignment are the same. -/
structure RoutesKept (s u : State) : Prop where
  failed : ∀ k, (linkOf u k).failed = (linkOf s k).failed
  switching : ∀ k, (linkOf u k).switchUntil = (linkOf s k).switchUntil
  map10 : u.fld.spareMap10 = s.fld.spareMap10
  map11 : u.fld.spareMap11 = s.fld.spareMap11

theorem RoutesKept.barCarrier_eq {s u : State} (h : RoutesKept s u) (k : Nat) : barCarrier u k = barCarrier s k := by
  simp only [barCarrier, h.failed, h.map10, h.map11]

theorem RoutesKept.barUp_eq {s u : State} (h : RoutesKept s u) (k : Nat) : barUp u k = barUp s k := by
  simp only [barUp, h.failed, h.switching, h.barCarrier_eq]

/-- A change of one link that leaves its failure and its switchover leaves every route. -/
theorem modLink_routesKept {f : LinkS → LinkS} (hf : ∀ l, (f l).failed = l.failed)
    (hs : ∀ l, (f l).switchUntil = l.switchUntil) (b : Nat) (s : State) : RoutesKept s (modLink b f s) :=
  ⟨linkOf_modLink_keeps LinkS.failed hf b s, linkOf_modLink_keeps LinkS.switchUntil hs b s, rfl, rfl⟩

theorem barCarrier_of_working {s : State} {bl : Nat} (h : (linkOf s bl).failed = false) : barCarrier s bl = bl := by
  simp [barCarrier, h]

/-! ## Control frames and retransmission (R115, R116) -/

theorem barControl_fld (bl ty : Nat) (seq : BitVec 8) (s : State) : (barControl bl ty seq s).fld = s.fld :=
  barControl_only.same .fld (by decide)

theorem barControl_emits {bl ty : Nat} {seq : BitVec 8} {s : State} (h : barUp s bl = true) :
    Out.barrier (barCarrier s bl) (barFrame ty 0 [seq]) ∈ (barControl bl ty seq s).out := by
  simp [barControl, h]

/-- The frames of link bl's replay buffer as they are put on physical link c. -/
def replayFrames (c : Nat) (l : List (BitVec 8 × BitVec 8 × List Byte)) : List Out :=
  l.map fun p => .barrier c (barFrame p.2.1.toNat p.1 p.2.2)

/-- One frame of the replay buffer of link bl sent again. -/
def resendFrame (bl : Nat) (s : State) (p : BitVec 8 × BitVec 8 × List Byte) : State :=
  emit (.barrier (barCarrier s bl) (barFrame p.2.1.toNat p.1 p.2.2)) s

theorem foldl_resendFrame_fld (bl : Nat) (l : List (BitVec 8 × BitVec 8 × List Byte)) (s : State) :
    (l.foldl (resendFrame bl) s).fld = s.fld := by
  induction l generalizing s with
  | nil => rfl
  | cons p r ih => rw [List.foldl_cons, ih]; rfl

theorem foldl_resendFrame_out (bl : Nat) (l : List (BitVec 8 × BitVec 8 × List Byte)) (s : State) :
    (l.foldl (resendFrame bl) s).out = s.out ++ replayFrames (barCarrier s bl) l := by
  induction l generalizing s with
  | nil => simp [replayFrames]
  | cons p r ih =>
    have hc : barCarrier (resendFrame bl s p) bl = barCarrier s bl := rfl
    rw [List.foldl_cons, ih, hc]
    simp [resendFrame, replayFrames]

/-- Nothing to send again, or no link to send it on. -/
theorem barResend_idle {bl : Nat} {s : State} (h : (linkOf s bl).replay = [] ∨ barUp s bl = false) :
    barResend bl s = s := by
  unfold barResend
  exact if_pos (by simpa using h)

/-- Link bl as a retransmission starts: its frames counted, and the 2 µs of R116 starting anew. -/
def resendStart (bl : Nat) (s : State) : State :=
  modFld (fun c => { c with retx := satAdd c.retx (linkOf s bl).replay.length }) (modLink bl (fun l => { l with
    waitFrom := some s.tb, sent := (linkOf s bl).replay.map fun _ => s.tb }) s)

theorem linkOf_resendStart_keeps {α : Type} {g : LinkS → α}
    (hg : ∀ l w x, g { l with waitFrom := w, sent := x } = g l) (bl : Nat) (s : State) (k : Nat) :
    g (linkOf (resendStart bl s) k) = g (linkOf s k) :=
  linkOf_modLink_keeps g (f := fun l => { l with
    waitFrom := some s.tb, sent := (linkOf s bl).replay.map fun _ => s.tb }) (fun l => hg l _ _) bl s k

theorem resendStart_routesKept (bl : Nat) (s : State) : RoutesKept s (resendStart bl s) :=
  ⟨linkOf_resendStart_keeps (fun _ _ _ => rfl) bl s, linkOf_resendStart_keeps (fun _ _ _ => rfl) bl s, rfl, rfl⟩

theorem barResend_sends {bl : Nat} {s : State} (hr : (linkOf s bl).replay ≠ []) (hu : barUp s bl = true) :
    barResend bl s = (linkOf s bl).replay.foldl (resendFrame bl) (resendStart bl s) := by
  unfold barResend
  exact if_neg (by simp [hr, hu])

/-- A retransmission keeps every field of a link but the instants of R116, and the maps of the spares. -/
theorem barResend_keeps (bl : Nat) (s : State) :
    (∀ {α : Type} (g : LinkS → α), (∀ l w x, g { l with waitFrom := w, sent := x } = g l) →
      ∀ k, g (linkOf (barResend bl s) k) = g (linkOf s k)) ∧
    (barResend bl s).fld = { s.fld with links := (barResend bl s).fld.links, retx := (barResend bl s).fld.retx } := by
  by_cases h : (linkOf s bl).replay = [] ∨ barUp s bl = false
  · rw [barResend_idle h]
    exact ⟨fun _ _ _ => rfl, rfl⟩
  · obtain ⟨hr, hu⟩ := not_or.mp h
    have hfld := foldl_resendFrame_fld bl (linkOf s bl).replay
    rw [barResend_sends hr (by simpa using hu)]
    refine ⟨fun g hg k => ?_, ?_⟩
    · rw [linkOf_of_fld (hfld _)]
      exact linkOf_resendStart_keeps hg bl s k
    · rw [hfld]; rfl

theorem barResend_routesKept (bl : Nat) (s : State) : RoutesKept s (barResend bl s) := by
  obtain ⟨hl, hf⟩ := barResend_keeps bl s
  exact ⟨hl LinkS.failed fun _ _ _ => rfl, hl LinkS.switchUntil fun _ _ _ => rfl, by rw [hf], by rw [hf]⟩

/-- On a link that carries traffic the whole replay buffer is sent again, oldest frame first. -/
theorem barResend_out {bl : Nat} {s : State} (hu : barUp s bl = true) :
    (barResend bl s).out = s.out ++ replayFrames (barCarrier s bl) (linkOf s bl).replay := by
  by_cases hr : (linkOf s bl).replay = []
  · rw [barResend_idle (.inl hr), hr]; simp [replayFrames]
  · rw [barResend_sends hr hu, foldl_resendFrame_out, (resendStart_routesKept bl s).barCarrier_eq]
    rfl

theorem barRelease_replay (bl : Nat) (seq : BitVec 8) (s : State) :
    (linkOf (barRelease bl seq s) bl).replay = barAckLeft seq (linkOf s bl).replay := by
  simp [barRelease]

theorem barRelease_routesKept (bl : Nat) (seq : BitVec 8) (s : State) : RoutesKept s (barRelease bl seq s) :=
  modLink_routesKept (fun _ => by rfl) (fun _ => by rfl) bl s

/-- A frame sent on link bl takes the link's next sequence number. -/
theorem barSend_txSeq (bl ty : Nat) (pl : List Byte) (s : State) :
    (linkOf (barSend bl ty pl s) bl).txSeq = (linkOf s bl).txSeq + 1 := by
  unfold barSend
  extract_lets l u
  have hu : (linkOf u bl).txSeq = (linkOf s bl).txSeq + 1 := by simp [u]
  split
  · exact hu
  · exact hu

theorem barSend_cfgLast (bl ty : Nat) (pl : List Byte) (s : State) :
    (barSend bl ty pl s).fld.cfgLast = s.fld.cfgLast := by
  unfold barSend
  extract_lets l u
  split <;> rfl

/-! ## Failed links and damaged frames (R30, R33, R116) -/

/-- Link b declared failed, the switchover of its traffic starting now. -/
def switchStarted (b : Nat) (s : State) : State :=
  modLink b (fun l => { l with switchUntil := some s.tb }) (modLink b (fun l => { l with failed := true }) s)

theorem linkOf_switchStarted (b : Nat) (s : State) :
    linkOf (switchStarted b s) b = { linkOf s b with failed := true, switchUntil := some s.tb } := by
  simp [switchStarted]

/-- The first failure of a direction starts a switchover (R30, R31). -/
theorem linkFail_first {b : Nat} {s : State} (hf : (linkOf s b).failed = false) (hb : b < 10)
    (hd : dirFailed s b = false) :
    linkFail b s = logNow 0x4201 b 0 (switchStarted b s) := by
  simp [linkFail, switchStarted, hf, hd, show ¬ 10 ≤ b by omega]

/-- The second failure of a direction inhibits firing and is a cause for SAFE (R33). -/
theorem linkFail_second {b : Nat} {s : State} (hf : (linkOf s b).failed = false) (hd : dirFailed s b = true) :
    linkFail b s = logNow 0x3202 b 0 (safeCause .secondLink (inhibit .secondLink
      (modLink b (fun l => { l with failed := true }) s))) := by
  simp [linkFail, hf, hd]

/-- However a link fails, it ends failed; receivers' sequence numbers and the CRC error count stay. -/
theorem linkFail_spec (b : Nat) (s : State) :
    (linkOf (linkFail b s) b).failed = true ∧ (∀ k, (linkOf (linkFail b s) k).rxSeq = (linkOf s k).rxSeq) ∧
      (linkFail b s).fld.crcErr = s.fld.crcErr := by
  unfold linkFail
  split
  · next h => exact ⟨h, fun _ => rfl, rfl⟩
  · extract_lets alone s1
    have hf : (linkOf s1 b).failed = true := by simp [s1]
    have hr : ∀ k, (linkOf s1 k).rxSeq = (linkOf s k).rxSeq :=
      linkOf_modLink_keeps LinkS.rxSeq (fun _ => by rfl) b s
    have via {u : State} (h : ReceiversKept s1 u) : (linkOf u b).failed = true ∧
        (∀ k, (linkOf u k).rxSeq = (linkOf s k).rxSeq) ∧ u.fld.crcErr = s.fld.crcErr :=
      ⟨(h.failed b).trans hf, fun k => (h.rxSeq k).trans (hr k), h.crcErr⟩
    split
    · exact via (.of_fld (logNow_fld ..))
    · split
      · have hm : ReceiversKept s1 (modLink b (fun l => { l with switchUntil := some s.tb }) s1) :=
          ⟨rfl, linkOf_modLink_keeps LinkS.failed (fun _ => by rfl) b s1,
            linkOf_modLink_keeps LinkS.rxSeq (fun _ => by rfl) b s1⟩
        exact via (hm.trans (.of_fld (logNow_fld ..)))
      · have hi : ReceiversKept s1 (inhibit .secondLink s1) := .of_fld rfl
        exact via ((hi.trans (safeCause_receiversKept ..)).trans (.of_fld (logNow_fld ..)))

/-- A CRC error counted in the traffic of link b. -/
def crcCount (b : Nat) (s : State) : State :=
  modFld (fun c => { c with crcErr := satInc c.crcErr }) (modLink b (fun l => { l with crcRun := l.crcRun + 1 }) s)

theorem crcCount_crcRun (b : Nat) (s : State) : (linkOf (crcCount b s) b).crcRun = (linkOf s b).crcRun + 1 :=
  congrArg LinkS.crcRun (linkOf_modLink b (fun l => { l with crcRun := l.crcRun + 1 }) s)

theorem crcCount_rxSeq (b : Nat) (s : State) (k : Nat) : (linkOf (crcCount b s) k).rxSeq = (linkOf s k).rxSeq :=
  linkOf_modLink_keeps LinkS.rxSeq (f := fun l => { l with crcRun := l.crcRun + 1 }) (fun _ => rfl) b s k

theorem crcCount_crcErr (b : Nat) (s : State) : (crcCount b s).fld.crcErr = satInc s.fld.crcErr := rfl

theorem crcCount_routesKept (b : Nat) (s : State) : RoutesKept s (crcCount b s) := by
  have h : RoutesKept s (modLink b (fun l => { l with crcRun := l.crcRun + 1 }) s) :=
    modLink_routesKept (fun _ => by rfl) (fun _ => by rfl) b s
  exact ⟨h.failed, h.switching, rfl, rfl⟩

theorem crcError_eq (b : Nat) (s : State) :
    crcError b s = if 2 ≤ (linkOf s b).crcRun + 1 then linkFail (barCarrier s b) (crcCount b s) else crcCount b s := by
  rw [← crcCount_crcRun, ← (crcCount_routesKept b s).barCarrier_eq]
  rfl

theorem crcError_single {b : Nat} {s : State} (h : (linkOf s b).crcRun = 0) : crcError b s = crcCount b s := by
  rw [crcError_eq, if_neg (by omega)]

/-- The second CRC error in a row fails the link that carries the traffic. -/
theorem crcError_second {b : Nat} {s : State} (h : 1 ≤ (linkOf s b).crcRun) :
    crcError b s = linkFail (barCarrier s b) (crcCount b s) := by
  rw [crcError_eq, if_pos (by omega)]

theorem crcError_receiver (b : Nat) (s : State) :
    (∀ k, (linkOf (crcError b s) k).rxSeq = (linkOf s k).rxSeq) ∧
      (crcError b s).fld.crcErr = satInc s.fld.crcErr := by
  rw [crcError_eq]
  split
  · obtain ⟨-, hr, he⟩ := linkFail_spec (barCarrier s b) (crcCount b s)
    exact ⟨fun k => (hr k).trans (crcCount_rxSeq b s k), he.trans (crcCount_crcErr b s)⟩
  · exact ⟨crcCount_rxSeq b s, crcCount_crcErr b s⟩

/-! ## LINK_FAILED and SPARE_LINK_SWITCHOVER -/

theorem exec_linkFailed_first (t : Nat) (bl : Fin 12) (s : State) (hf : (linkOf s bl).failed = false)
    (hb : bl.val < 10) (hd : dirFailed s bl = false) (hroom : LogRoom s 1) :
    ∃ u, exec (.linkFailed t bl) s = .next u ∧ (linkOf u bl).failed = true ∧
      (linkOf u bl).switchUntil = some (instant s t) ∧
      Logged s u 0x4201 bl 0 ∧
      u.rm.inhibits = s.rm.inhibits := by
  have he : linkFail bl (s.start t) = _ := linkFail_first hf hb hd
  have hlink : linkOf (settle (logNow 0x4201 bl 0 (switchStarted bl (s.start t)))) bl = _ :=
    (linkOf_of_fld ((settle_fld _).trans (logNow_fld ..)) bl).trans (linkOf_switchStarted bl (s.start t))
  have hlog : Logged (switchStarted bl (s.start t)) (settle (logNow 0x4201 bl 0 (switchStarted bl (s.start t))))
      0x4201 bl 0 := logged_settle_logNow hroom
  refine ⟨_, congrArg done he, ?_, ?_, hlog, ?_⟩
  · rw [hlink]
  · rw [hlink]; rfl
  · simp only [settle_rm, logNow_rm]; rfl

theorem exec_linkFailed_second (t : Nat) (bl : Fin 12) (s : State) (hf : (linkOf s bl).failed = false)
    (hd : dirFailed s bl = true) (hrun : s.dev = .run) :
    ∃ u, exec (.linkFailed t bl) s = .next u ∧ (linkOf u bl).failed = true ∧
      .secondLink ∈ u.rm.inhibits ∧
      u.dev = .safe := by
  have he : linkFail bl (s.start t) = _ := linkFail_second hf hd
  have hfail := (linkFail_spec bl (s.start t)).1
  rw [he] at hfail
  refine ⟨_, congrArg done he, hfail, ?_, ?_⟩
  · simp only [settle_rm, logNow_rm, safeCause_inhibits]
    exact inhibit_mem ..
  · rw [settle_dev, logNow_dev]
    exact safeCause_dev_run hrun

/-- The state in which the spare of link b has taken over and the replay buffer is still to be sent. -/
def spareTaken (b : Nat) (s : State) : State :=
  modFld (fun c => { c with
    switchCount := satInc c.switchCount
    spareMap10 := if spareOf b = 10 then b else c.spareMap10
    spareMap11 := if spareOf b = 11 then b else c.spareMap11 })
    (modLink b (fun l => { l with switchUntil := none, crcRun := 0 }) s)

theorem linkOf_spareTaken (b : Nat) (s : State) :
    linkOf (spareTaken b s) b = { linkOf s b with switchUntil := none, crcRun := 0 } :=
  linkOf_modLink b (fun l => { l with switchUntil := none, crcRun := 0 }) s

theorem exec_spareLinkSwitchover {t : Nat} {bl : Fin 12} {s : State} (h : (linkOf s bl).switchUntil.isSome = true) :
    exec (.spareLinkSwitchover t bl) s = done (barResend bl (spareTaken bl (s.start t))) := by
  change execSpareLinkSwitchover t bl s = _
  unfold execSpareLinkSwitchover
  refine if_neg ?_
  change ¬ (linkOf s bl).switchUntil.isNone = true
  simpa [Option.isSome_iff_ne_none] using h

theorem exec_spareLinkSwitchover_replays (t : Nat) (bl : Fin 12) (s : State)
    (h : (linkOf s bl).switchUntil.isSome = true) :
    ∃ u, exec (.spareLinkSwitchover t bl) s = .next u ∧ (linkOf u bl).switchUntil = none ∧
      (if bl.val ≤ 4 ∨ bl.val = 10 then u.fld.spareMap10 = bl.val else u.fld.spareMap11 = bl.val) ∧
      u.fld.switchCount = satInc s.fld.switchCount ∧
      (barUp u bl = true → u.out = (linkOf s bl).replay.map fun p =>
        .barrier (barCarrier u bl) (barFrame p.2.1.toNat p.1 p.2.2)) := by
  set v := spareTaken bl (s.start t) with hv
  have hlink : linkOf v bl = { linkOf s bl with switchUntil := none, crcRun := 0 } := linkOf_spareTaken bl (s.start t)
  have hroute : RoutesKept v (settle (barResend bl v)) :=
    ⟨(barResend_routesKept bl v).failed, (barResend_routesKept bl v).switching, (barResend_routesKept bl v).map10,
      (barResend_routesKept bl v).map11⟩
  refine ⟨_, exec_spareLinkSwitchover h, ?_, ?_, ?_, fun hup => ?_⟩
  · rw [hroute.switching, hlink]
  · split
    · next hc => rw [hroute.map10]; simp [hv, spareTaken, spareOf, hc]
    · next hc => rw [hroute.map11]; simp [hv, spareTaken, spareOf, hc]
  · rw [settle_fld, (barResend_keeps bl v).2]; rfl
  · rw [hroute.barUp_eq] at hup
    rw [hroute.barCarrier_eq, settle_out, barResend_out hup, hlink]
    rfl

/-! ## BARRIER_CONTROL_FRAME -/

/-- The receiver of link b after a frame in order. -/
def frameTaken (b : Nat) (s : State) : State := modLink b (fun l => { l with rxSeq := l.rxSeq + 1, crcRun := 0 }) s

theorem exec_barrierControlFrame_inOrder (t : Nat) (bl : Fin 12) (s : State) :
    exec (.barrierControlFrame t bl (linkOf s (barTraffic s bl)).rxSeq true) s =
      done (barControl (barPair (barTraffic s bl)) 0x01 (linkOf s (barTraffic s bl)).rxSeq
        (frameTaken (barTraffic s bl) (s.start t))) := by
  change execBarrierControlFrame t bl _ true s = _
  unfold execBarrierControlFrame
  refine if_pos ?_
  change (true && (linkOf s (barTraffic s bl)).rxSeq == (linkOf s (barTraffic s bl)).rxSeq) = true
  simp

theorem exec_barrierControlFrame_bad (t : Nat) (bl : Fin 12) (seq : BitVec 8) (s : State) :
    exec (.barrierControlFrame t bl seq false) s =
      done (barControl (barPair (barTraffic s bl)) 0x02 ((linkOf s (barTraffic s bl)).rxSeq - 1)
        (crcError (barTraffic s bl) (s.start t))) := rfl

theorem linkOf_settle_barControl (k bl ty : Nat) (seq : BitVec 8) (s : State) :
    linkOf (settle (barControl bl ty seq s)) k = linkOf s k :=
  linkOf_of_fld ((settle_fld _).trans (barControl_fld ..)) k

theorem exec_barrierControlFrame_acks (t : Nat) (bl : Fin 12) (s : State)
    (hup : barUp s (barPair (barTraffic s bl)) = true) :
    ∃ u, exec (.barrierControlFrame t bl (linkOf s (barTraffic s bl)).rxSeq true) s = .next u ∧
      Emits u (.barrier (barCarrier s (barPair (barTraffic s bl)))
        (barFrame 0x01 0 [(linkOf s (barTraffic s bl)).rxSeq])) := by
  have hroute : RoutesKept (s.start t) (frameTaken (barTraffic s bl) (s.start t)) :=
    modLink_routesKept (fun _ => by rfl) (fun _ => by rfl) ..
  refine ⟨_, exec_barrierControlFrame_inOrder t bl s, ?_⟩
  have he := barControl_emits (ty := 0x01) (seq := (linkOf s (barTraffic s bl)).rxSeq)
    ((hroute.barUp_eq (barPair (barTraffic s bl))).trans hup)
  rwa [hroute.barCarrier_eq] at he

theorem exec_barrierControlFrame_advances (t : Nat) (bl : Fin 12) (s : State) :
    ∃ u, exec (.barrierControlFrame t bl (linkOf s (barTraffic s bl)).rxSeq true) s = .next u ∧
      (linkOf u (barTraffic s bl)).rxSeq = (linkOf s (barTraffic s bl)).rxSeq + 1 := by
  refine ⟨_, exec_barrierControlFrame_inOrder t bl s, ?_⟩
  rw [linkOf_settle_barControl, frameTaken, linkOf_modLink]
  rfl

theorem exec_barrierControlFrame_naks (t : Nat) (bl : Fin 12) (seq : BitVec 8) (s : State)
    (hrun : (linkOf s (barTraffic s bl)).crcRun = 0) (hup : barUp s (barPair (barTraffic s bl)) = true) :
    ∃ u, exec (.barrierControlFrame t bl seq false) s = .next u ∧ (linkOf u bl).failed = (linkOf s bl).failed ∧
      (linkOf u (barTraffic s bl)).crcRun = 1 ∧
      Emits u (.barrier (barCarrier s (barPair (barTraffic s bl)))
        (barFrame 0x02 0 [(linkOf s (barTraffic s bl)).rxSeq - 1])) := by
  have hroute := crcCount_routesKept (barTraffic s bl) (s.start t)
  have hcrc : crcError (barTraffic s bl) (s.start t) = _ := crcError_single hrun
  refine ⟨_, exec_barrierControlFrame_bad t bl seq s, ?_, ?_, ?_⟩
  · rw [linkOf_settle_barControl, hcrc, hroute.failed]; rfl
  · rw [linkOf_settle_barControl, hcrc, crcCount_crcRun]
    exact congrArg (· + 1) hrun
  · have he := barControl_emits (ty := 0x02) (seq := (linkOf s (barTraffic s bl)).rxSeq - 1)
      ((hroute.barUp_eq (barPair (barTraffic s bl))).trans hup)
    rwa [hroute.barCarrier_eq, ← hcrc] at he

theorem exec_barrierControlFrame_fails (t : Nat) (bl : Fin 12) (seq : BitVec 8) (s : State)
    (hrun : 1 ≤ (linkOf s (barTraffic s bl)).crcRun) :
    ∃ u, exec (.barrierControlFrame t bl seq false) s = .next u ∧
      (linkOf u (barCarrier s (barTraffic s bl))).failed = true := by
  have hcrc : crcError (barTraffic s bl) (s.start t) = _ := crcError_second hrun
  refine ⟨_, exec_barrierControlFrame_bad t bl seq s, ?_⟩
  rw [linkOf_settle_barControl, hcrc]
  exact (linkFail_spec (barCarrier s (barTraffic s bl)) _).1

theorem exec_barrierControlFrame_discards (t : Nat) (bl : Fin 12) (seq : BitVec 8) (s : State) :
    ∃ u, exec (.barrierControlFrame t bl seq false) s = .next u ∧
      (linkOf u (barTraffic s bl)).rxSeq = (linkOf s (barTraffic s bl)).rxSeq ∧
      u.fld.crcErr = satInc s.fld.crcErr := by
  obtain ⟨hr, he⟩ := crcError_receiver (barTraffic s bl) (s.start t)
  refine ⟨_, exec_barrierControlFrame_bad t bl seq s, ?_, ?_⟩
  · rw [linkOf_settle_barControl, hr]; rfl
  · rw [settle_fld, barControl_fld, he]; rfl

/-! ## BARRIER_ACK, BARRIER_NAK and BARRIER_ACK_TIMEOUT -/

theorem exec_barrierAck_releases (t : Nat) (bl : Fin 12) (seq : BitVec 8) (s : State) :
    ∃ u, exec (.barrierAck t bl seq) s = .next u ∧ (linkOf u bl).replay = barAckLeft seq (linkOf s bl).replay :=
  ⟨_, rfl, barRelease_replay bl seq (s.start t)⟩

theorem exec_barrierNak_resends (t : Nat) (bl : Fin 12) (seq : BitVec 8) (s : State) (hup : barUp s bl = true)
    (hf : (linkOf s bl).failed = false) :
    ∃ u, exec (.barrierNak t bl seq) s = .next u ∧ (linkOf u bl).replay = barAckLeft seq (linkOf s bl).replay ∧
      (u.out = (linkOf u bl).replay.map fun p => .barrier bl (barFrame p.2.1.toNat p.1 p.2.2)) := by
  set v := barRelease bl seq (s.start t)
  have hroute : RoutesKept (s.start t) v := barRelease_routesKept bl seq (s.start t)
  have hreplay : (linkOf (settle (barResend bl v)) bl).replay = (linkOf v bl).replay :=
    (barResend_keeps bl v).1 LinkS.replay (fun _ _ _ => rfl) bl
  refine ⟨settle (barResend bl v), rfl, hreplay.trans (barRelease_replay bl seq (s.start t)), ?_⟩
  have hcarrier : barCarrier v bl = bl := (hroute.barCarrier_eq bl).trans (barCarrier_of_working hf)
  rw [hreplay, settle_out, barResend_out ((hroute.barUp_eq bl).trans hup), hcarrier]
  rfl

theorem exec_barrierAckTimeout_resends (t : Nat) (bl : Fin 12) (s : State) (f : Nat)
    (hw : (linkOf s bl).waitFrom = some f) (ht : f + 2 * usU ≤ instant s t) (hup : barUp s bl = true)
    (hf : (linkOf s bl).failed = false) :
    ∃ u, exec (.barrierAckTimeout t bl) s = .next u ∧
      (u.out = (linkOf s bl).replay.map fun p => .barrier bl (barFrame p.2.1.toNat p.1 p.2.2)) := by
  have he : exec (.barrierAckTimeout t bl) s = done (barResend bl (s.start t)) := by
    have hw' : (linkOf (s.start t) bl).waitFrom = some f := hw
    change execBarrierAckTimeout t bl s = _
    unfold execBarrierAckTimeout
    simp only [hw', start_tb]
    exact if_pos ht
  refine ⟨_, he, ?_⟩
  rw [settle_out, barResend_out (show barUp (s.start t) bl = true from hup),
    barCarrier_of_working (show (linkOf (s.start t) bl).failed = false from hf)]
  rfl

/-! ## Payloads on BL3, BL4 and BL9 (R28, R115) -/

theorem exec_fieldIo_keeps (t : Nat) (pl : List Byte) (s : State) (h : pl.length ≤ 32) :
    ∃ u, exec (.fieldIo t pl) s = .next u ∧ u.fld.fieldIo = pl :=
  ⟨_, rfl, List.take_of_length_le h⟩

theorem exec_cfgRsp_keeps (t : Nat) (pl : List Byte) (s : State) (h : pl.length ≤ 32) :
    ∃ u, exec (.cfgRsp t pl) s = .next u ∧ u.fld.rspLast = pl :=
  ⟨_, rfl, List.take_of_length_le h⟩

theorem exec_cfgReq_answers (t : Nat) (pl : List Byte) (s : State) (h : pl.length ≤ 32) :
    ∃ u, exec (.cfgReq t pl) s = .next u ∧ u.fld.cfgLast = pl ∧
      u.free = s.free + 1 ∧
      (linkOf u 9).txSeq = (linkOf s 9).txSeq + 1 := by
  refine ⟨_, rfl, ?_, ?_, ?_⟩
  · rw [settle_fld, barSend_cfgLast]
    exact List.take_of_length_le h
  · rw [settle_free, show (barSend ..).free = _ from barSend_only.same .free (by decide)]
    rfl
  · exact barSend_txSeq ..

/-! ## FIELD_STAT (R94, R107, R122) -/

/-- Bank after bank changed, each by what g gives for the state then. -/
def modBanks (g : State → Nat → BankS → BankS) (l : List Nat) (s : State) : State :=
  l.foldl (fun s b => modBank b (g s b) s) s

/-- Nothing but the banks differs. -/
structure BanksOnly (s u : State) : Prop where
  dict : u.dict = s.dict
  fld : u.fld = { s.fld with bankS := u.fld.bankS }

theorem BanksOnly.trans {s t u : State} (h : BanksOnly s t) (g : BanksOnly t u) : BanksOnly s u :=
  ⟨g.dict.trans h.dict, by rw [g.fld, h.fld]⟩

theorem modBanks_banksOnly (g : State → Nat → BankS → BankS) (l : List Nat) (s : State) :
    BanksOnly s (modBanks g l s) := by
  induction l generalizing s with
  | nil => exact ⟨rfl, rfl⟩
  | cons b r ih =>
    have hb : BanksOnly s (modBank b (g s b) s) := ⟨rfl, rfl⟩
    exact hb.trans (ih _)

/-- What the change makes of the reservoir voltage is seen at each bank listed, and at no other. -/
theorem modBanks_vRes {g : State → Nat → BankS → BankS} {v : Nat → Nat → Nat}
    (hg : ∀ s b x, (g s b x).vRes = v b x.vRes) {l : List Nat} (hl : l.Nodup) (s : State) (b : Nat) :
    (bankOf (modBanks g l s) b).vRes = if b ∈ l then v b (bankOf s b).vRes else (bankOf s b).vRes := by
  induction l generalizing s with
  | nil => rfl
  | cons k r ih =>
    obtain ⟨hk, hr⟩ := List.nodup_cons.mp hl
    have hstep : modBanks g (k :: r) s = modBanks g r (modBank k (g s k) s) := rfl
    rw [hstep, ih hr]
    by_cases hb : b = k
    · subst hb; simp [hk, hg]
    · simp [bankOf_modBank_ne _ _ hb, hb]

theorem chargeShares_banksOnly (s : State) : BanksOnly s (chargeShares s) := modBanks_banksOnly ..

theorem chargeShares_vRes (s : State) (b : Nat) : (bankOf (chargeShares s) b).vRes = (bankOf s b).vRes := by
  refine (modBanks_vRes (v := fun _ r => r) ?_ (by decide : (upto 4).Nodup) s b).trans (ite_self _)
  exact fun _ _ _ => rfl

/-- What FIELD_STAT makes of bank b. -/
def bankStat (st : FieldStat) (s : State) (b : Nat) (x : BankS) : BankS :=
  { x with vRes := st.vres.getD b x.vRes, chgOn := chargerRuns s b }

theorem bankStat_vRes (st : FieldStat) (s : State) (b : Fin 4) :
    (bankOf (modBanks (bankStat st) (upto 4) s) b).vRes = st.vres.getD b (bankOf s b).vRes := by
  refine (modBanks_vRes (g := bankStat st) (v := fun k r => st.vres.getD k r) (fun _ _ _ => rfl)
    (by decide : (upto 4).Nodup) s b).trans (if_pos ?_)
  revert b; decide

theorem exec_fieldStat_updates (t : Nat) (st : FieldStat) (s : State) :
    ∃ u, exec (.fieldStat t st) s = .next u ∧ u.fld.iin = st.iin ∧
      (∀ b : Fin 4, (bankOf u b).vRes = st.vres.getD b (bankOf s b).vRes) ∧
      u.fld.repI = coil12 st.coilI ∧
      u.fld.repV = st.vBridge ∧
      u.fld.vEst = st.velocity ∧
      u.fld.wdgRep = st.wdg ∧
      u.fld.fldPower = st.power ∧
      u.fld.apdVmeas = st.apdV ∧
      u.fld.apdI = min st.apdI (parN s 0x2425 0) ∧
      u.fld.apdBad = (s.fld.apdBad && !apdWithin s st.apdV) ∧
      (u.fld.apdReg = (decide (0 < s.fld.apdTarget) && apdWithin s st.apdV)) := by
  change ∃ u, execFieldStat t st s = .next u ∧ _
  unfold execFieldStat
  extract_lets s0 s1 sens s2 s3 on inside
  have h0 : BanksOnly s s0 := ⟨rfl, rfl⟩
  have h1 : BanksOnly s0 s1 := modBanks_banksOnly (bankStat st) (upto 4) s0
  have h2 : BanksOnly s1 s2 := ⟨rfl, rfl⟩
  have h3 : BanksOnly s2 s3 := chargeShares_banksOnly s2
  obtain ⟨hdict, hfld⟩ := ((h0.trans h1).trans h2).trans h3
  have hres (b : Fin 4) : (bankOf s3 b).vRes = st.vres.getD b (bankOf s b).vRes :=
    (chargeShares_vRes s2 b).trans (bankStat_vRes st s0 b)
  have hpar : parN s3 0x2425 0 = parN s 0x2425 0 := by simp only [parN, parI, par, hdict]
  have htarget : s3.fld.apdTarget = s.fld.apdTarget := by rw [hfld]
  have hbad : s3.fld.apdBad = s.fld.apdBad := by rw [hfld]
  have hin : inside = apdWithin s st.apdV := by
    change apdWithin s3 st.apdV = _
    rw [apdWithin, hfld]
    rfl
  refine ⟨_, rfl, rfl, hres, rfl, rfl, rfl, rfl, rfl, rfl, ?_, ?_, ?_⟩
  · exact congrArg (min st.apdI) hpar
  · exact congrArg₂ (fun a w => a && !w) hbad hin
  · exact congrArg₂ (fun a w => decide (0 < a) && w) htarget hin

/-! ## RESOURCE_GRANT (R39, R40) -/

theorem roundRobin_single (last i : Nat) : roundRobin last [i] = some i := by
  simp only [roundRobin, sortBy, List.foldl_cons, List.foldl_nil, insertBy, List.find?_cons, List.find?_nil]
  split
  · next h => split at h <;> simp_all
  · rfl

/-- The only class with a request is found. -/
theorem find_class (p : Fin 6) (i : Nat) :
    ((upto 6).find? fun k => [(p.val, i)].any fun q => q.1 == k) = some p.val := by
  simp only [List.any_cons, List.any_nil, Bool.or_false]
  revert p; decide

theorem exec_resourceGrant_grants (t : Nat) (r : Fin 5) (reqs : List (Fin 6 × Fin 132)) (s : State) (p : Fin 6)
    (i : Fin 132) (hw : (bget {} s.arb r).waiting = []) (hreqs : reqs = [(p, i)]) (huses : usesRes r p = true) :
    ∃ u, exec (.resourceGrant t r reqs) s = .next u ∧ (bget {} u.arb r).busy = some (p.val, i.val) ∧
      (bget {} u.arb r).waiting = [] := by
  subst hreqs
  refine ⟨_, rfl, ?_⟩
  simp only [settle_arb, bget_bset_self, start_arb, hw, List.nil_append, List.filter_cons, huses, if_true,
    List.filter_nil, List.map_cons, List.map_nil, find_class, beq_self_eq_true, roundRobin_single,
    List.erase_cons_head, and_self]

theorem exec_resourceGrant_frees (t : Nat) (r : Fin 5) (s : State) (hw : (bget {} s.arb r).waiting = []) :
    ∃ u, exec (.resourceGrant t r []) s = .next u ∧ (bget {} u.arb r).busy = none := by
  have hnone : ((upto 6).find? fun k => ([] : List (Nat × Nat)).any fun q => q.1 == k) = none := by decide
  refine ⟨_, rfl, ?_⟩
  simp only [settle_arb, bget_bset_self, start_arb, hw, List.filter_nil, List.map_nil, List.append_nil, hnone]

/-- Settles O5: each clause is the lemma above about its command. -/
theorem barrierLinksAndPayloads : Obligations.BarrierLinksAndPayloads :=
  ⟨exec_linkFailed_first, exec_linkFailed_second, exec_spareLinkSwitchover_replays, exec_barrierControlFrame_acks,
    exec_barrierControlFrame_naks, exec_barrierControlFrame_fails, exec_barrierControlFrame_advances,
    exec_barrierControlFrame_discards, exec_barrierAck_releases, exec_barrierNak_resends,
    exec_barrierAckTimeout_resends, exec_fieldIo_keeps, exec_cfgReq_answers, exec_cfgRsp_keeps,
    exec_fieldStat_updates, exec_resourceGrant_grants, exec_resourceGrant_frees⟩

end Sys2Proof.Barrier
end

section
/-!
Phase boundaries: what the operations of a boundary leave of the position in the frame, and the position that
PHASE_BOUNDARY opens (R49, R52, R55, R85).
-/
namespace Sys2Proof.Phases

open Sys2Proof Sys2Proof.Machine

/-! ## The place in the frame -/

/-- Whether phases run, the position in the frame and the frame prepared are the same (R52, R54, R85). -/
structure PlaceKept (s u : State) : Prop where
  framing : u.rm.framing = s.rm.framing
  pos : u.rm.pos = s.rm.pos
  nextFrame : u.rm.nextFrame = s.rm.nextFrame

theorem PlaceKept.trans {s t u : State} (h : PlaceKept s t) (g : PlaceKept t u) : PlaceKept s u :=
  ⟨g.framing.trans h.framing, g.pos.trans h.pos, g.nextFrame.trans h.nextFrame⟩

theorem PlaceKept.of_rm {s u : State} (h : u.rm = s.rm) : PlaceKept s u := ⟨by rw [h], by rw [h], by rw [h]⟩

theorem PlaceKept.foldl {α : Type} {f : State → α → State} (h : ∀ s x, PlaceKept s (f s x)) (l : List α) (s : State) :
    PlaceKept s (l.foldl f s) := by
  induction l generalizing s with
  | nil => exact .of_rm rfl
  | cons x r ih => exact (h s x).trans (ih (f s x))

/-- The same for a fold that carries a value beside the state. -/
theorem PlaceKept.foldl_snd {α β : Type} {f : β × State → α → β × State} (h : ∀ p x, PlaceKept p.2 (f p x).2)
    (l : List α) (p : β × State) : PlaceKept p.2 (l.foldl f p).2 := by
  induction l generalizing p with
  | nil => exact .of_rm rfl
  | cons x r ih => exact (h p x).trans (ih (f p x))

theorem PlaceKept.of_snd {β : Type} {s u : State} {p : β × State} {b : β} (e : p = (b, u)) (h : PlaceKept s p.2) :
    PlaceKept s u := by
  subst e; exact h

theorem modRm_placeKept {f : RmS → RmS} (hframing : ∀ r, (f r).framing = r.framing) (hpos : ∀ r, (f r).pos = r.pos)
    (hnext : ∀ r, (f r).nextFrame = r.nextFrame) (s : State) : PlaceKept s (modRm f s) :=
  ⟨hframing s.rm, hpos s.rm, hnext s.rm⟩

/-! ## Skipped shots -/

theorem markSkip_placeKept (sh : Shot) (cause : Nat) (s : State) : PlaceKept s (markSkip sh cause s) := ⟨rfl, rfl, rfl⟩

theorem skipShot_placeKept (sh : Shot) (cause : Nat) (s : State) : PlaceKept s (skipShot sh cause s) := by
  unfold skipShot
  extract_lets u
  have hu : PlaceKept s u := ⟨rfl, rfl, rfl⟩
  split
  · exact hu
  · exact hu.trans (.of_rm (missRecords_only.same .rm (by decide)))

theorem missedShots_placeKept (s : State) : PlaceKept s (missedShots s) :=
  .foldl (fun _ _ => (markSkip_placeKept ..).trans (skipShot_placeKept ..)) _ s

theorem openShot_placeKept (s : State) (sh : Shot) : PlaceKept s (openShot s sh) := by
  unfold openShot
  extract_lets u
  have hu : PlaceKept s u := by
    subst u
    split
    · exact ⟨rfl, rfl, rfl⟩
    · exact .of_rm rfl
  split
  · exact hu.trans (skipShot_placeKept ..)
  · split
    · exact hu.trans ((markSkip_placeKept ..).trans (skipShot_placeKept ..))
    · exact hu

/-! ## A phase opens -/

theorem openPhase_placeKept (s : State) : PlaceKept s (openPhase s) := by
  unfold openPhase
  extract_lets before s1 s2 opens s3 s4 s5 s6 s7 s8
  have h1 : PlaceKept s s1 := modRm_placeKept (fun _ => by rfl) (fun _ => by rfl) (fun _ => by rfl) _
  have h2 : PlaceKept s1 s2 := by
    subst s2
    split
    · exact .of_rm rfl
    · exact .of_rm (thinEnd_only.same .rm (by decide))
  have h3 : PlaceKept s2 s3 := .of_rm rfl
  have hbanks : PlaceKept s3 ((upto 4).foldl openBank s3) :=
    .foldl (fun _ _ => .of_rm (openBank_only.same .rm (by decide))) ..
  have h4 : PlaceKept ((upto 4).foldl openBank s3) s4 := .of_rm (swapTables_only.same .rm (by decide))
  have h5 : PlaceKept s4 s5 := .foldl (fun _ _ => .of_rm (openFired_only.same .rm (by decide))) ..
  have h6 : PlaceKept s5 s6 := modRm_placeKept (fun _ => by rfl) (fun _ => by rfl) (fun _ => by rfl) _
  have h7 : PlaceKept s6 s7 := .foldl (fun _ _ => .of_rm (replayEarly_only.same .rm (by decide))) ..
  have h8 : PlaceKept s7 s8 := .foldl openShot_placeKept ..
  have h9 : PlaceKept s8 (missOver s8) := .of_rm (missOver_only.same .rm (by decide))
  have h10 : PlaceKept (missOver s8) (sparesLive (missOver s8)) := .of_rm (sparesLive_only.same .rm (by decide))
  exact h1.trans <| h2.trans <| h3.trans <| hbanks.trans <| h4.trans <| h5.trans <| h6.trans <| h7.trans <|
    h8.trans <| h9.trans h10

/-! ## The next phase is committed -/

theorem eyeSlots_placeKept (s : State) : PlaceKept s (eyeSlots s) := by
  unfold eyeSlots
  split
  · exact .of_rm rfl
  · extract_lets a b
    split <;> exact ⟨rfl, rfl, rfl⟩

theorem eyeCharge_placeKept (e : Nat) (bins : List Nat) (pj : Nat) (s : State) :
    PlaceKept s (eyeCharge e bins pj s) := by
  unfold eyeCharge
  split
  · exact .of_rm rfl
  · refine .foldl (fun u bin => ?_) bins s
    split
    next qa qb _ =>
    extract_lets v x
    have hv : PlaceKept u v := modRm_placeKept (fun _ => by rfl) (fun _ => by rfl) (fun _ => by rfl) _
    exact hv.trans (modRm_placeKept (fun _ => by rfl) (fun _ => by rfl) (fun _ => by rfl) _)

theorem selectShot_placeKept (sh : Shot) (s : State) : PlaceKept s (selectShot sh s).2 := by
  unfold selectShot
  split
  · exact .of_rm rfl
  · unfold selectIn
    extract_lets k bins ed ee vth vch x e u eMin closed low skip sh'
    have hu : PlaceKept s u := .of_rm rfl
    clear_value u
    dsimp only
    split
    · exact hu.trans (eyeCharge_placeKept ..)
    · exact hu

theorem planShot_placeKept (sh : Shot) (s : State) : PlaceKept s (planShot sh s).2 := by
  unfold planShot
  extract_lets closed
  split
  · exact .of_rm rfl
  · split
    · exact .of_rm rfl
    · split
      · exact .of_rm rfl
      · exact selectShot_placeKept ..

theorem commitPhase_placeKept (s : State) : PlaceKept s (commitPhase s) := by
  unfold commitPhase
  extract_lets s0 a lf d level s1 base inh v
  have h0 : PlaceKept s s0 := .of_rm (reopenBanks_only.same .rm (by decide))
  have h1 : PlaceKept (eyeSlots s0) s1 := ⟨rfl, rfl, rfl⟩
  have hv : PlaceKept s1 v := by
    subst v
    split <;> exact ⟨rfl, rfl, rfl⟩
  split
  next l w he =>
  have hw : PlaceKept v w := by
    refine .of_snd he (.foldl_snd (fun acc b => ?_) (upto 4) ([], v))
    extract_lets sh
    split
    · split
      next hp =>
      have haz := azCount_only (az := predictAz acc.2 a.f a.f0 sh.edge) (s := acc.2)
      exact .of_snd hp (PlaceKept.trans (.of_rm (haz.same .rm (by decide))) (planShot_placeKept ..))
    · exact .of_rm rfl
  clear he
  extract_lets w1 w2 fired s2 s3
  have hw1 : PlaceKept w w1 := by
    refine .foldl (fun u sh => ?_) l w
    refine .foldl (fun _ _ => ?_) (emChans u sh.em) u
    exact .of_rm (modChan_rm ..)
  have h2 : PlaceKept w1 s2 := .of_rm rfl
  have hplanned : PlaceKept s2 (modRm (fun r => { r with planned := l, inhibits := inh }) s2) :=
    modRm_placeKept (fun _ => by rfl) (fun _ => by rfl) (fun _ => by rfl) _
  have htargets : PlaceKept _ s3 := .of_rm (resTargets_only.same .rm (by decide))
  have h3 : PlaceKept s s3 := h0.trans <| (eyeSlots_placeKept s0).trans <| h1.trans <| hv.trans <| hw.trans <|
    hw1.trans <| h2.trans <| hplanned.trans htargets
  split
  · exact h3
  · exact h3.trans (.of_rm (barSend_only.same .rm (by decide)))

/-! ## PHASE_BOUNDARY -/

/-- What a boundary does before its phase opens: marker, missed shots, PHASE values and replicas (R49, R80, R227). -/
def boundaryStart (replica : List (Fin 260 × Nat)) (s : State) : State :=
  replica.foldl replicaMeasure (phaseApply (missedShots (encSettle
    ((upto 4).foldl (fun s b => modBank b (fun x => { x with markerUsed := false }) s) (barSymbol 1 1 s)))))

theorem boundaryStart_placeKept (replica : List (Fin 260 × Nat)) (s : State) :
    PlaceKept s (boundaryStart replica s) := by
  have h1 : PlaceKept s (barSymbol 1 1 s) := .of_rm (barSymbol_only.same .rm (by decide))
  have h2 (u : State) :
      PlaceKept u ((upto 4).foldl (fun s b => modBank b (fun x => { x with markerUsed := false }) s) u) :=
    .foldl (fun _ _ => .of_rm (modBank_only.same .rm (by decide))) _ u
  have h3 (u : State) : PlaceKept u (encSettle u) := .of_rm (encSettle_only.same .rm (by decide))
  have h4 (u : State) : PlaceKept u (phaseApply u) := .of_rm (phaseApply_only.same .rm (by decide))
  have h5 (u : State) : PlaceKept u (replica.foldl replicaMeasure u) :=
    .foldl (fun _ _ => .of_rm (replicaMeasure_only.same .rm (by decide))) replica u
  exact h1.trans <| (h2 _).trans <| (h3 _).trans <| (missedShots_placeKept _).trans <| (h4 _).trans (h5 _)

/-- The cut-off in a frame's last phase, with its schedule packet (R54, R206). -/
def prepareFrame (s : State) : State :=
  if s.rm.cycle + 1 == s.rm.nCyc && s.rm.pos == 7 then sendSched (cutOff s) else s

theorem prepareFrame_pos (s : State) : (prepareFrame s).rm.pos = s.rm.pos := by
  unfold prepareFrame
  split
  · have hsend : (sendSched (cutOff s)).rm = (cutOff s).rm := sendSched_only.same .rm (by decide)
    rw [hsend]
    rfl
  · rfl

/-- A due boundary with no frame prepared opens the next position (R49, R52). -/
theorem exec_phaseBoundary_advances {t : Nat} {s : State} (replica : List (Fin 260 × Nat))
    (hdue : boundaryDue (s.start t) = true) (hrun : phasesRun s = true) (hframing : s.rm.framing = true)
    (hstop : s.rm.stopNext = false) (hnext : s.rm.nextFrame = none) :
    exec (.phaseBoundary t replica) s =
      done (commitPhase (prepareFrame (openPhase (advancePos (boundaryStart replica (s.start t)))))) := by
  obtain ⟨hf, -, hn⟩ := boundaryStart_placeKept replica (s.start t)
  have hconfig : s.dev ≠ .config := by
    intro hc
    simp [phasesRun, hc] at hrun
  change execPhaseBoundary t replica s = _
  unfold execPhaseBoundary
  extract_lets s0 s1 s2 s3 s4 s5 s6 s7
  have hrun0 : phasesRun s0 = true := hrun
  have hgoes : (s0.rm.framing && (s0.dev == .config || s0.rm.stopNext)) = false := by
    simp [s0, hconfig, hstop]
  have hframing3 : s3.rm.framing = true := hf.trans hframing
  have h5 : s5 = advancePos s3 := by
    have hn3 : s3.rm.nextFrame = none := hn.trans hnext
    subst s5
    split
    · next hsome => cases hsome.symm.trans hn3
    · rfl
  have h7 : s7 = prepareFrame (openPhase s5) := by
    rw [prepareFrame]
  simp only [hdue, hgoes, hrun0, hframing3, h7, h5, Bool.not_true, Bool.false_eq_true, if_false, s0]
  rfl

/-- The position moves on by one, but from 7 to 0 (R55, R85). -/
theorem exec_phaseBoundary_pos {t : Nat} {s u : State} {replica : List (Fin 260 × Nat)}
    (hdue : boundaryDue (s.start t) = true) (hrun : phasesRun s = true) (hframing : s.rm.framing = true)
    (hstop : s.rm.stopNext = false) (hnext : s.rm.nextFrame = none)
    (hu : exec (.phaseBoundary t replica) s = .next u) :
    u.rm.pos = if s.rm.pos = 7 then 0 else s.rm.pos + 1 := by
  rw [exec_phaseBoundary_advances replica hdue hrun hframing hstop hnext] at hu
  obtain rfl := Host.Outcome.next.inj hu
  set v := boundaryStart replica (s.start t)
  have hv : v.rm.pos = s.rm.pos := (boundaryStart_placeKept replica (s.start t)).pos
  have hcommit := (commitPhase_placeKept (prepareFrame (openPhase (advancePos v)))).pos
  calc (commitPhase (prepareFrame (openPhase (advancePos v)))).rm.pos
      = (advancePos v).rm.pos := by rw [hcommit, prepareFrame_pos, (openPhase_placeKept _).pos]
    _ = if v.rm.pos = 7 then 0 else v.rm.pos + 1 := by
      rw [advancePos, modRm_rm]
      split <;> rfl
    _ = _ := by rw [hv]

/-- RUN with phases that run at position 8, which no boundary opens: R85 has the positions 0 to 7. -/
def pastLastPos : State :=
  modRm (fun r => { r with framing := true, pos := 8 }) (modTbs (fun c => { c with lock := true })
    { State.reset with dev := .run })

/-- Refutes O33: its first clause has the boundary open position (pos + 1) mod 8 whatever the old position is. A boundary
opens position 0 only after 7 (R55, R85), so that after a position past 7, which the clause does not exclude, it opens
no position below 8. -/
theorem not_phaseBoundaries : ¬ Obligations.PhaseBoundaries := by
  unfold Obligations.PhaseBoundaries
  rintro ⟨hopens, -⟩
  have hdue : boundaryDue (pastLastPos.start 0) = true := by decide
  have hrun : phasesRun pastLastPos = true := by decide
  obtain ⟨u, hu, -, hpos, -⟩ := hopens 0 [] pastLastPos hdue hrun rfl rfl rfl (by decide)
  have hnine : u.rm.pos = 9 := exec_phaseBoundary_pos hdue hrun rfl rfl rfl hu
  have hone : u.rm.pos = 1 := hpos
  omega

end Sys2Proof.Phases
end

section
/-!
What the barrier's senders, the output logic and a cause for SAFE leave of Calliope, and the commands of R89 to R113:
gate faults, emission outside every shot, charging, bias, and the mirror's bridge and watchdog.
-/
namespace Sys2Proof.Calliope

open Sys2Proof Sys2Proof.Machine

/-! ## What sending leaves of Calliope -/

/-- Calliope is the same but for its barrier links and safety outputs. -/
def FieldKept (s u : State) : Prop := u.fld = { s.fld with links := u.fld.links, outs := u.fld.outs }

theorem FieldKept.of_fld {s u : State} (h : u.fld = s.fld) : FieldKept s u := by rw [FieldKept, h]

theorem FieldKept.refl (s : State) : FieldKept s s := .of_fld rfl

theorem FieldKept.trans {s t u : State} (h : FieldKept s t) (g : FieldKept t u) : FieldKept s u := by
  rw [FieldKept] at *; rw [g, h]

/-- A reading of Calliope that looks at no link and no safety output is the same. -/
theorem FieldKept.eq {s u : State} (h : FieldKept s u) {α : Type} (g : FldS → α)
    (hg : ∀ c l o, g { c with links := l, outs := o } = g c) : g u.fld = g s.fld := by
  rw [h, hg]

theorem FieldKept.bankOf_eq {s u : State} (h : FieldKept s u) (b : Nat) : bankOf u b = bankOf s b :=
  h.eq (fun c => bget ({} : BankS) c.bankS b) fun _ _ _ => rfl

theorem bankOf_of_fld {s u : State} (h : u.fld = s.fld) (b : Nat) : bankOf u b = bankOf s b :=
  (FieldKept.of_fld h).bankOf_eq b

theorem barSend_fieldKept (bl ty : Nat) (pl : List Byte) (s : State) : FieldKept s (barSend bl ty pl s) := by
  unfold barSend
  extract_lets l u
  split <;> rfl

theorem statSend_fieldKept (s : State) : FieldKept s (statSend s) := barSend_fieldKept ..

theorem fastOff_fieldKept (n : Nat) (s : State) : FieldKept s (fastOff n s) :=
  (FieldKept.of_fld (barSymbol_only.same .fld (by decide))).trans (barSend_fieldKept ..)

theorem outFaultSet_fieldKept (n code : Nat) (s : State) : FieldKept s (outFaultSet n code s) :=
  FieldKept.trans (t := modOut n _ s) rfl (.of_fld (logNow_fld ..))

theorem recTrigger_fieldKept (k : Nat) (t : BitVec 64) (s : State) : FieldKept s (recTrigger k t s) :=
  .of_fld (recTrigger_only.same .fld (by decide))

theorem evalOutput_fieldKept (s : State) (n : Nat) : FieldKept s (evalOutput s n) := by
  unfold evalOutput
  extract_lets o want demand u v
  have hv : FieldKept s v := FieldKept.trans (t := u) rfl (fastOff_fieldKept ..)
  split
  · split
    · exact hv.trans (recTrigger_fieldKept ..)
    · exact hv
  · split
    · split
      · exact outFaultSet_fieldKept ..
      · rfl
    · exact .refl s

theorem FieldKept.foldl {α : Type} {f : State → α → State} (h : ∀ s x, FieldKept s (f s x)) (l : List α) (s : State) :
    FieldKept s (l.foldl f s) := by
  induction l generalizing s with
  | nil => exact .refl s
  | cons x r ih => exact (h s x).trans (ih _)

theorem setState_fieldKept (new : DevState) (ep cmd : Nat) (s : State) : FieldKept s (setState new ep cmd s) := by
  unfold setState
  split
  · exact .refl s
  · extract_lets old u v r w
    have hu : FieldKept s u := .of_fld (logNow_fld ..)
    have hl : FieldKept u (loopsFollow u) := .of_fld (loopsFollow_only.same .fld (by decide))
    have he : FieldKept (loopsFollow u) (evalOutputs (loopsFollow u)) := .foldl evalOutput_fieldKept ..
    have hb : FieldKept (evalOutputs (loopsFollow u)) v := .of_fld (balls_only.same .fld (by decide))
    have hw : FieldKept v w := .of_fld (by subst w; with_reducible rfl)
    have h : FieldKept s w := hu.trans <| hl.trans <| he.trans <| hb.trans hw
    split
    · exact h.trans (recTrigger_fieldKept ..)
    · exact h

theorem safeCause_fieldKept (c : SafeCause) (s : State) : FieldKept s (safeCause c s) := by
  unfold safeCause
  extract_lets u
  split
  · exact FieldKept.trans (t := u) rfl (setState_fieldKept ..)
  · rfl

theorem bankOf_settle (s : State) (b : Nat) : bankOf (settle s) b = bankOf s b := rfl

theorem settle_inhibits (s : State) : (settle s).rm.inhibits = s.rm.inhibits := rfl

/-! ## Firing stops (R80, R89, R102) -/

/-- Firing inhibited for w, with the cause c for SAFE. -/
def stopFiring (w : Inhibit) (c : SafeCause) (s : State) : State := safeCause c (inhibit w s)

theorem stopFiring_fieldKept (w : Inhibit) (c : SafeCause) (s : State) : FieldKept s (stopFiring w c s) :=
  safeCause_fieldKept c (inhibit w s)

theorem mem_stopFiring_inhibits (w : Inhibit) (c : SafeCause) (s : State) : w ∈ (stopFiring w c s).rm.inhibits := by
  rw [stopFiring, safeCause_inhibits]
  exact inhibit_mem w s

theorem stopFiring_dev_run (w : Inhibit) (c : SafeCause) {s : State} (h : s.dev = .run) :
    (stopFiring w c s).dev = .safe := safeCause_dev_run h

/-- A command that ends in stopped firing and perhaps a log entry: firing is inhibited, a device in RUN goes to SAFE, and
Calliope stays. -/
theorem stopFiring_settled (w : Inhibit) (c : SafeCause) {s v : State} (h : s.dev = .run)
    (hv : Only [.eic, .log, .pci, .slk, .out] (stopFiring w c s) v) :
    FieldKept s (settle v) ∧ w ∈ (settle v).rm.inhibits ∧ (settle v).dev = .safe := by
  have hrm : v.rm = (stopFiring w c s).rm := hv.same .rm (by decide)
  have hdev : v.dev = (stopFiring w c s).dev := hv.same .dev (by decide)
  have hfld : FieldKept (stopFiring w c s) v := .of_fld (hv.same .fld (by decide))
  refine ⟨(stopFiring_fieldKept w c s).trans hfld, ?_, ?_⟩
  · rw [settle_inhibits, hrm]
    exact mem_stopFiring_inhibits w c s
  · rw [settle_dev, hdev, stopFiring_dev_run w c h]

/-! ## GATE_FAULT and UNPLANNED_EMISSION (R89, R102) -/

/-- Every gate held low, with the charger and the top-up of emitter em's bank stopped. -/
def holdGates (em : Fin 32) (s : State) : State :=
  modFld (fun c => { c with gateHold := true })
    (modBank (em.val / 8) (fun b => { b with chargerHold := true, topHold := true }) s)

theorem bankOf_holdGates (em : Fin 32) (s : State) :
    bankOf (holdGates em s) (em.val / 8) = { bankOf s (em.val / 8) with chargerHold := true, topHold := true } :=
  bankOf_modBank (em.val / 8) (fun b => { b with chargerHold := true, topHold := true }) s

theorem exec_gateFault (t : Nat) (em : Fin 32) (s : State) :
    exec (.gateFault t em) s = done (logNow 0x4204 (dieF + em) 0
      (stopFiring .gateFault .gateFault (statSend (holdGates em (s.start t))))) := rfl

theorem exec_gateFault_stops (t : Nat) (em : Fin 32) (s : State) (hrun : s.dev = .run) :
    ∃ u, exec (.gateFault t em) s = .next u ∧ u.fld.gateHold = true ∧
      (bankOf u (em.val / 8)).chargerHold = true ∧
      (bankOf u (em.val / 8)).topHold = true ∧
      .gateFault ∈ u.rm.inhibits ∧
      u.dev = .safe := by
  have hdev : (statSend (holdGates em (s.start t))).dev = .run :=
    (statSend_only.same .dev (by decide)).trans hrun
  obtain ⟨hfld, hin, hsafe⟩ := stopFiring_settled .gateFault .gateFault hdev
    (logNow_only (code := 0x4204) (src := dieF + em) (data := 0))
  have h := (statSend_fieldKept (holdGates em (s.start t))).trans hfld
  refine ⟨_, exec_gateFault t em s, h.eq FldS.gateHold fun _ _ _ => rfl, ?_, ?_, hin, hsafe⟩
  · rw [h.bankOf_eq, bankOf_holdGates]
  · rw [h.bankOf_eq, bankOf_holdGates]

/-- The charger of bank b stopped by an emission that no shot explains. -/
def holdCharger (b : Nat) (s : State) : State :=
  modBank b (fun x => { x with chargerHold := true, unplannedLogged := true }) s

theorem exec_unplannedEmission_stops (t : Nat) (b : Fin 4) (s : State)
    (hout : monInterval (s.start t) (bankOf s b) = false) (hrun : s.dev = .run) :
    ∃ u, exec (.unplannedEmission t b) s = .next u ∧ (bankOf u b).chargerHold = true ∧
      .unplanned ∈ u.rm.inhibits ∧
      u.dev = .safe := by
  set v := stopFiring .unplanned .unplanned (holdCharger b (s.start t))
  set w := if (bankOf s b).unplannedLogged then v else logNow 0x4205 b 0 v with hw
  have he : exec (.unplannedEmission t b) s = done w := by
    change execUnplannedEmission t b s = _
    unfold execUnplannedEmission
    exact if_neg (Bool.eq_false_iff.mp hout)
  have hlog : Only [.eic, .log, .pci, .slk, .out] v w := by
    rw [hw]
    split
    · exact .refl
    · exact logNow_only
  have hdev : (holdCharger b (s.start t)).dev = .run := hrun
  obtain ⟨hfld, hin, hsafe⟩ := stopFiring_settled .unplanned .unplanned hdev hlog
  refine ⟨_, he, ?_, hin, hsafe⟩
  rw [hfld.bankOf_eq, holdCharger, bankOf_modBank]

theorem exec_unplannedEmission_planned (t : Nat) (b : Fin 4) (s : State)
    (hin : monInterval (s.start t) (bankOf s b) = true) :
    ∃ u, exec (.unplannedEmission t b) s = .next u ∧ u.dev = s.dev ∧ u.rm.inhibits = s.rm.inhibits := by
  refine ⟨settle (s.start t), ?_, rfl, rfl⟩
  change execUnplannedEmission t b s = _
  unfold execUnplannedEmission
  exact if_pos hin

/-- Settles O2: each clause is the lemma above about its command. -/
theorem gateFaultAndUnplannedEmission : Obligations.GateFaultAndUnplannedEmission :=
  ⟨exec_gateFault_stops, exec_unplannedEmission_stops, exec_unplannedEmission_planned⟩

/-! ## Charging (R93, R97, R101, R107) -/

theorem exec_topUp_starts (t : Nat) (b : Fin 4) (s : State) (hhold : (bankOf s b).topHold = false)
    (hopen : (bankOf s b).windowClosed = false) (hwdg : s.fld.wdgTripped = false)
    (hdue : (bankOf s b).gateUntil + 50 * nsU ≤ instant s t) :
    ∃ u, exec (.topUp t b) s = .next u ∧ (bankOf u b).topUpAt = instant s t ∧ Emits u (.ball "TOPDRV" b) := by
  set v := modBank b (fun x => { x with topUpAt := (s.start t).tb }) (s.start t) with hv
  have he : exec (.topUp t b) s = done (emit (.ball "TOPDRV" b) v) := by
    have hruns : topUpRuns (s.start t) b = true := by
      have hb : bankOf (s.start t) b = bankOf s b := rfl
      simp [topUpRuns, hb, hhold, hopen, hwdg]
    change execTopUp t b s = _
    unfold execTopUp
    exact if_pos (by rw [hruns]; exact decide_eq_true hdue)
  refine ⟨_, he, ?_, ?_⟩
  · have hb : bankOf v b = { bankOf s b with topUpAt := instant s t } := bankOf_modBank ..
    exact congrArg BankS.topUpAt hb
  · rw [Emits, settle_out, emit_out]
    exact List.mem_append_right _ (List.mem_singleton_self _)

theorem exec_topUp_latched (t : Nat) (b : Fin 4) (s : State) (hwdg : s.fld.wdgTripped = true) :
    ∃ u, exec (.topUp t b) s = .next u ∧ bankOf u b = bankOf s b ∧ u.out = [] := by
  refine ⟨settle (s.start t), ?_, rfl, rfl⟩
  have hstopped : topUpRuns (s.start t) b = false := by simp [topUpRuns, hwdg]
  change execTopUp t b s = _
  unfold execTopUp
  exact if_neg (by rw [hstopped]; simp)

theorem exec_chargingWindowReopen_reopens (t : Nat) (b : Fin 4) (s : State) (f : Nat)
    (hok : (bankOf s b).windowOkAt = some f) (hclosed : (bankOf s b).windowClosed = true)
    (hdue : f + 100 * msU ≤ instant s t) :
    ∃ u, exec (.chargingWindowReopen t b) s = .next u ∧ (bankOf u b).reopen = true := by
  have he : exec (.chargingWindowReopen t b) s = done (modBank b (fun x => { x with reopen := true }) (s.start t)) := by
    have hb : bankOf (s.start t) b = bankOf s b := rfl
    change execChargingWindowReopen t b s = _
    unfold execChargingWindowReopen
    simp only [hb, hok, hclosed, Bool.true_and]
    exact if_pos (decide_eq_true hdue)
  exact ⟨_, he, congrArg BankS.reopen (bankOf_modBank b _ (s.start t))⟩

/-- Bit k of a word is set by its mask. -/
theorem getLsbD_or_twoPow (m : BitVec 32) (k : Fin 32) : (m ||| BitVec.ofNat 32 (2 ^ k.val)).getLsbD k = true := by
  rw [BitVec.getLsbD_or, BitVec.getLsbD_ofNat, Nat.testBit_two_pow_self, decide_eq_true k.isLt]
  simp

theorem exec_emitterFailed_fails (t : Nat) (em : Fin 32) (s : State) (hmiss : parN s 0x2406 0 ≤ bget 0 s.fld.monMiss em)
    (hok : s.fld.monFailed.getLsbD em = false) (hroom : LogRoom s 1) :
    ∃ u, exec (.emitterFailed t em) s = .next u ∧ u.fld.monFailed.getLsbD em = true ∧
      Logged s u 0x2206 em 0 := by
  set v := modFld (fun c => { c with monFailed := c.monFailed ||| BitVec.ofNat 32 (2 ^ em.val) }) (s.start t) with hv
  have he : exec (.emitterFailed t em) s = done (logNow 0x2206 em 0 v) := by
    change execEmitterFailed t em s = _
    unfold execEmitterFailed
    refine if_pos ?_
    change (decide (parN s 0x2406 0 ≤ bget 0 s.fld.monMiss em) && !s.fld.monFailed.getLsbD em) = true
    rw [hok, decide_eq_true hmiss]; rfl
  have hlog : Logged v (settle (logNow 0x2206 em 0 v)) 0x2206 em 0 := logged_settle_logNow hroom
  refine ⟨_, he, ?_, hlog⟩
  rw [settle_fld, logNow_fld]
  exact getLsbD_or_twoPow ..

theorem exec_apdOutOfRegulation_marks (t : Nat) (s : State) (f : Nat) (hfrom : s.fld.apdBadFrom = some f)
    (hlate : f + msU < instant s t) (hok : s.fld.apdBad = false) (htarget : 0 < s.fld.apdTarget) (hroom : LogRoom s 1) :
    ∃ u, exec (.apdOutOfRegulation t) s = .next u ∧ u.fld.apdBad = true ∧ Logged s u 0x2208 noSrc 0 := by
  set v := modFld (fun c => { c with apdBad := true, apdReg := false }) (s.start t) with hv
  have he : exec (.apdOutOfRegulation t) s = done (logNow 0x2208 noSrc 0 v) := by
    change execApdOutOfRegulation t s = _
    unfold execApdOutOfRegulation
    simp only [start_fld, hfrom]
    refine if_neg (Bool.eq_false_iff.mp ?_)
    change (s.fld.apdBad || decide (s.fld.apdTarget ≤ 0) || decide (instant s t ≤ f + msU)) = false
    simp only [hok, decide_eq_false (Int.not_le.mpr htarget), decide_eq_false (Nat.not_le.mpr hlate), Bool.or_self]
  have hlog : Logged v (settle (logNow 0x2208 noSrc 0 v)) 0x2208 noSrc 0 := logged_settle_logNow hroom
  refine ⟨_, he, ?_, hlog⟩
  rw [settle_fld, logNow_fld]
  rfl

/-- Settles O3: each clause is the lemma above about its command. -/
theorem chargingAndBias : Obligations.ChargingAndBias :=
  ⟨exec_topUp_starts, exec_topUp_latched, exec_chargingWindowReopen_reopens, exec_emitterFailed_fails,
    exec_apdOutOfRegulation_marks⟩

/-! ## Mirror bridge and watchdog (R109 to R113, R312, R313) -/

theorem statSend_lce (s : State) : (statSend s).lce = s.lce := statSend_only.same .lce (by decide)

theorem injEnd_fld (k : Nat) (s : State) : (injEnd k s).fld = s.fld := injEnd_only.same .fld (by decide)

theorem exec_bridgeTrip_trips (t : Nat) (oc uv : Bool) (s : State) (htrip : (oc || uv) = true)
    (hon : s.fld.bridgeOn = true) :
    ∃ u, exec (.bridgeTrip t oc uv) s = .next u ∧ u.fld.bridgeOn = false ∧
      u.lce.mode = 4 ∧
      .bridge ∈ u.rm.inhibits ∧
      u.fld.bridgeOc = (s.fld.bridgeOc || oc) ∧
      u.fld.bridgeUv = (s.fld.bridgeUv || uv) := by
  change ∃ u, execBridgeTrip t oc uv s = .next u ∧ _
  unfold execBridgeTrip
  extract_lets s0 s1 second s2 s3 s4
  have hgo : (!(oc || uv) || !s0.fld.bridgeOn) = false := by simp [htrip, s0, hon]
  have h2 : FieldKept (bridgeOff (injEnd 3 s1)) s2 := statSend_fieldKept _
  have hin : .bridge ∈ s3.rm.inhibits := inhibit_mem .bridge s2
  have hoc : s2.fld.bridgeOc = (s.fld.bridgeOc || oc) := by
    rw [h2.eq FldS.bridgeOc fun _ _ _ => rfl, bridgeOff, modFld_fld, injEnd_fld]; rfl
  have huv : s2.fld.bridgeUv = (s.fld.bridgeUv || uv) := by
    rw [h2.eq FldS.bridgeUv fun _ _ _ => rfl, bridgeOff, modFld_fld, injEnd_fld]; rfl
  exact ⟨_, if_neg (Bool.eq_false_iff.mp hgo), h2.eq FldS.bridgeOn fun _ _ _ => rfl, rfl, hin, hoc, huv⟩

theorem exec_backEmfEstimate_estimates (t : Nat) (v c : Int) (s : State) (hdue : s.fld.bemfAt + usU ≤ instant s t) :
    ∃ u, exec (.backEmfEstimate t v c) s = .next u ∧ u.fld.vEst = bemfVelocity s v (coil12 c) s.fld.coilI ∧
      u.fld.coilI = coil12 c ∧
      u.fld.bemfAt = instant s t ∧
      u.fld.bemfRun =
        (if parN s 0x2444 0 < (u.fld.vEst - s.fld.vPred).natAbs then s.fld.bemfRun + 1 else 0) := by
  change ∃ u, execBackEmfEstimate t v c s = .next u ∧ _
  unfold execBackEmfEstimate
  extract_lets s0 i w far
  set s1 := modFld (fun c => { c with
    coilIprev := c.coilI, coilI := i, vBridge := v, vEst := w
    bemfAt := s0.tb, bemfRun := if far then c.bemfRun + 1 else 0 }) s0
  have h1 : FieldKept s1 (settle (statSend s1)) := statSend_fieldKept s1
  have hvel : (settle (statSend s1)).fld.vEst = bemfVelocity s v (coil12 c) s.fld.coilI :=
    h1.eq FldS.vEst fun _ _ _ => rfl
  have hrun : (settle (statSend s1)).fld.bemfRun = if far then s.fld.bemfRun + 1 else 0 :=
    h1.eq FldS.bemfRun fun _ _ _ => rfl
  refine ⟨_, if_neg (Nat.not_lt.mpr hdue), hvel, h1.eq FldS.coilI fun _ _ _ => rfl,
    h1.eq FldS.bemfAt fun _ _ _ => rfl, ?_⟩
  rw [hrun, hvel]
  exact if_congr decide_eq_true_iff rfl rfl

/-- The watchdog as it trips. -/
theorem watchdogTrip_trips {s : State} (h : s.fld.wdgTripped = false) :
    watchdogTrip s = modLce (fun l => { l with wdgFrame := false }) (inhibit .watchdog
      (statSend (modFld (fun c => { c with wdgTripped := true }) s))) := if_neg (by simp [h])

theorem watchdogTrip_latched {s : State} (h : s.fld.wdgTripped = true) : watchdogTrip s = s := if_pos h

/-- However it stood, the watchdog has tripped, and Calliope is the same but for that. -/
theorem watchdogTrip_fieldKept (s : State) :
    FieldKept (modFld (fun c => { c with wdgTripped := true }) s) (watchdogTrip s) := by
  by_cases h : s.fld.wdgTripped = true
  · rw [watchdogTrip_latched h]
    refine .of_fld ?_
    rw [modFld_fld, ← h]
  · rw [watchdogTrip_trips (by simpa using h)]
    exact statSend_fieldKept _

theorem watchdogTrip_wdgTripped (s : State) : (watchdogTrip s).fld.wdgTripped = true :=
  (watchdogTrip_fieldKept s).eq FldS.wdgTripped fun _ _ _ => rfl

theorem exec_mirrorWatchdogTrip_trips (t : Nat) (s : State) (harmed : s.fld.wdgTripped = false)
    (hdue : 8 ≤ s.fld.bemfRun ∨ 2 ≤ s.fld.lceMissed) :
    ∃ u, exec (.mirrorWatchdogTrip t) s = .next u ∧ u.fld.wdgTripped = true ∧
      .watchdog ∈ u.rm.inhibits ∧
      u.lce.mode = s.lce.mode := by
  have he : exec (.mirrorWatchdogTrip t) s = done (watchdogTrip (s.start t)) := by
    change execMirrorWatchdogTrip t s = _
    unfold execMirrorWatchdogTrip
    refine if_pos ?_
    change (decide (8 ≤ s.fld.bemfRun) || decide (2 ≤ s.fld.lceMissed)) = true
    simpa using hdue
  have htrip := watchdogTrip_trips (s := s.start t) harmed
  refine ⟨_, he, watchdogTrip_wdgTripped _, ?_, ?_⟩
  · rw [htrip]
    exact inhibit_mem .watchdog _
  · rw [htrip]
    rw [settle_lce, modLce_lce, inhibit, modRm_lce, statSend_lce]
    rfl

theorem exec_lceRearm_rearms (t : Nat) (s : State) :
    ∃ u, exec (.lceRearm t) s = .next u ∧
      u.fld.bridgeOn =
        (parB s 0x4024 0 && (s.dev == .config || s.dev == .run || s.dev == .safe) && s.lce.mode != 4) ∧
      u.fld.bridgeOc = false ∧
      u.fld.bridgeUv = false ∧
      u.fld.wdgTripped = false ∧
      .watchdog ∉ u.rm.inhibits ∧
      u.fld.bemfRun = 0 ∧
      u.fld.lceMissed = 0 := by
  change ∃ u, execLceRearm t s = .next u ∧ _
  unfold execLceRearm
  extract_lets s0 on
  set s1 := modFld (fun c => { c with
    bridgeOn := on, bridgeOc := false, bridgeUv := false, wdgTripped := false, bemfRun := 0, lceMissed := 0 }) s0
  have h : FieldKept s1 (settle (uninhibit .watchdog (statSend s1))) := statSend_fieldKept s1
  exact ⟨_, rfl, h.eq FldS.bridgeOn fun _ _ _ => rfl, h.eq FldS.bridgeOc fun _ _ _ => rfl,
    h.eq FldS.bridgeUv fun _ _ _ => rfl, h.eq FldS.wdgTripped fun _ _ _ => rfl, uninhibit_mem .watchdog _,
    h.eq FldS.bemfRun fun _ _ _ => rfl, h.eq FldS.lceMissed fun _ _ _ => rfl⟩

theorem clampI_of_mem {lo hi v : Int} (hlo : lo ≤ v) (hhi : v ≤ hi) : clampI lo hi v = v := by
  rw [clampI, if_neg (Int.not_lt.mpr hlo), if_neg (Int.not_lt.mpr hhi)]

theorem exec_lceOut_waits (t : Nat) (duty vel : Int) (vch : List Nat) (bias htr : Nat) (s : State)
    (hlo : -2048 ≤ duty) (hhi : duty ≤ 2047) :
    ∃ u, exec (.lceOut t duty vel vch bias htr) s = .next u ∧ u.fld.dutyNext = duty ∧
      u.fld.duty = s.fld.duty ∧
      u.fld.vPredNext = vel ∧
      u.fld.vPred = s.fld.vPred ∧
      u.fld.vchNext = vch ∧
      u.fld.biasNext = bias ∧
      u.fld.htrNext = htr ∧
      u.fld.vch = s.fld.vch ∧
      u.fld.bias = s.fld.bias ∧
      u.fld.htrDuty = s.fld.htrDuty ∧
      u.fld.lceSeen = true :=
  ⟨_, rfl, clampI_of_mem hlo hhi, rfl, rfl, rfl, rfl, rfl, rfl, rfl, rfl, rfl, rfl⟩

/-- Settles O4: each clause is the lemma above about its command. -/
theorem mirrorBridgeAndWatchdog : Obligations.MirrorBridgeAndWatchdog :=
  ⟨exec_bridgeTrip_trips, exec_backEmfEstimate_estimates, exec_mirrorWatchdogTrip_trips, exec_lceRearm_rearms,
    exec_lceOut_waits⟩

end Sys2Proof.Calliope
end

section
/-!
FIRE frames and gate pulses: what a FIRE entry leaves in its bank, what Calliope samples at a gate edge, and when it drives
the gate or skips the shot (R80, R88 to R93).
-/
namespace Sys2Proof.Gates

open Sys2Proof Sys2Proof.Machine Sys2Proof.Calliope

/-! ## FIRE (R88, R91) -/

/-- What a FIRE entry commands its bank to do, counted from the last phase marker. -/
def fireOf (boundary : Nat) (f : FireBank) : FireS :=
  { em := f.em, edge := boundary + 32 * f.offset, width := 32 * f.width, target := f.target.toNat, lim := f.lim.toNat
    min := f.min.toNat }

/-- A bank with a FIRE entry armed. -/
def armed (boundary : Nat) (x : BankS) (f : FireBank) : BankS :=
  { x with markerUsed := true, fires := x.fires ++ [fireOf boundary f] }

/-- A FIRE entry armed in its bank. -/
def armFire (s : State) (f : FireBank) : State := modBank f.bank (fun x => armed s.rm.boundary x f) s

theorem foldl_armFire_only (l : List FireBank) (s : State) : Only [.fld] s (l.foldl armFire s) :=
  .foldl (fun _ _ h => .step modBank_only (by decide) h) .refl

/-- A bank takes the entries that are for it. -/
theorem bankOf_foldl_armFire (l : List FireBank) (s : State) (b : Fin 4) :
    bankOf (l.foldl armFire s) b = (l.filter fun f => f.bank == b).foldl (armed s.rm.boundary) (bankOf s b) := by
  induction l generalizing s with
  | nil => rfl
  | cons f r ih =>
    have hrm : (armFire s f).rm = s.rm := rfl
    rw [List.foldl_cons, ih, hrm, List.filter_cons]
    by_cases hb : f.bank = b
    · subst hb
      rw [armFire, bankOf_modBank, if_pos (beq_self_eq_true _), List.foldl_cons]
    · rw [armFire, bankOf_modBank_ne _ _ fun h => hb (Fin.ext h.symm), if_neg (by simpa using hb)]

/-- The only entry for its bank in a frame is left alone there by a choice that takes it. -/
theorem filter_bank_of_single {frame : List FireBank} {f : FireBank} (hf : f ∈ frame)
    (hone : (frame.filter fun g => g.bank == f.bank).length = 1) {p : FireBank → Bool} (hp : p f = true) :
    ((frame.filter p).filter fun g => g.bank == f.bank) = [f] := by
  obtain ⟨g, hg⟩ := List.length_eq_one_iff.mp hone
  have hfg : f ∈ [g] := hg ▸ List.mem_filter.mpr ⟨hf, beq_self_eq_true _⟩
  obtain rfl := List.mem_singleton.mp hfg
  rw [List.filter_comm, hg]
  simp [hp]

theorem single_of_fireAllowed {s : State} {frame : List FireBank} {f : FireBank} (h : fireAllowed s frame f = true) :
    (frame.filter fun g => g.bank == f.bank).length = 1 := by
  simp only [fireAllowed, Bool.and_eq_true, beq_iff_eq] at h
  exact h.1.1.2

/-- The entries of a frame that are executed. -/
def executed (s : State) (frame : List FireBank) : List FireBank := frame.filter fun f => fireAccepted f && !fireLate s f

theorem exec_fire_taken {t : Nat} {frame : List FireBank} {s : State}
    (h : ∀ f ∈ frame, fireAllowed (s.start t) frame f = true) :
    exec (.fire t frame) s = done ((executed s frame).foldl armFire (s.start t)) := by
  have hnone : frame.find? (fun f => !fireAllowed (s.start t) frame f) = none :=
    List.find?_eq_none.mpr fun f hf => by simp [h f hf]
  change execFire t frame s = _
  unfold execFire
  simp only [hnone]
  rfl

theorem exec_fire_arms (t : Nat) (frame : List FireBank) (s : State)
    (h : ∀ f ∈ frame, fireAllowed (s.start t) frame f = true) :
    ∃ u, exec (.fire t frame) s = .next u ∧ u.rm.inhibits = s.rm.inhibits ∧
      u.dev = s.dev ∧
      (∀ f ∈ frame, fireAccepted f = true → fireLate s f = false → (bankOf u f.bank).markerUsed = true ∧
        (bankOf u f.bank).fires = (bankOf s f.bank).fires ++ [{
          em := f.em, edge := s.rm.boundary + 32 * f.offset, width := 32 * f.width, target := f.target.toNat, lim := f.lim.toNat
          min := f.min.toNat }]) := by
  have honly := foldl_armFire_only (executed s frame) (s.start t)
  have hrm : ((executed s frame).foldl armFire (s.start t)).rm = s.rm := honly.same .rm (by decide)
  refine ⟨_, exec_fire_taken h, (settle_inhibits _).trans (congrArg RmS.inhibits hrm),
    honly.same .dev (by decide), fun f hf hacc hlate => ?_⟩
  · have hsingle := filter_bank_of_single hf (single_of_fireAllowed (h f hf))
      (p := fun f => fireAccepted f && !fireLate s f) (by simp [hacc, hlate])
    have hb : bankOf (settle ((executed s frame).foldl armFire (s.start t))) f.bank =
        armed s.rm.boundary (bankOf s f.bank) f := by
      refine (bankOf_foldl_armFire (executed s frame) (s.start t) f.bank).trans ?_
      rw [executed, hsingle]
      rfl
    rw [hb]
    exact ⟨rfl, rfl⟩

/-- A frame that breaks a rule is discarded, with a message to the core die. -/
def frameRefused (frame : List FireBank) (b : Nat) (s : State) : State :=
  fireDiscard frame (barSend 9 0x21 [BitVec.ofNat 8 b] s)

theorem exec_fire_discarded {t : Nat} {frame : List FireBank} {s : State} {f : FireBank}
    (h : frame.find? (fun f => !fireAllowed (s.start t) frame f) = some f) :
    exec (.fire t frame) s = done (logNow 0x3203 (dieF + f.bank) 0
      (stopFiring .fireRule .fireRule (frameRefused frame f.bank (s.start t)))) := by
  change execFire t frame s = _
  unfold execFire
  simp only [h]
  rfl

theorem exec_fire_refuses (t : Nat) (frame : List FireBank) (s : State)
    (h : ∃ f ∈ frame, fireAllowed (s.start t) frame f = false) (hrun : s.dev = .run) :
    ∃ u, exec (.fire t frame) s = .next u ∧ .fireRule ∈ u.rm.inhibits ∧
      u.dev = .safe ∧
      (∀ b, bankOf u b = bankOf s b) := by
  have hsome : (frame.find? fun f => !fireAllowed (s.start t) frame f).isSome = true := by
    simpa [List.find?_isSome] using h
  obtain ⟨f, hf⟩ := Option.isSome_iff_exists.mp hsome
  have hsend : FieldKept (s.start t) (frameRefused frame f.bank (s.start t)) := barSend_fieldKept ..
  have hdev : (frameRefused frame f.bank (s.start t)).dev = .run :=
    (show (barSend _ _ _ (s.start t)).dev = _ from barSend_only.same .dev (by decide)).trans hrun
  obtain ⟨hfld, hin, hsafe⟩ := stopFiring_settled .fireRule .fireRule hdev
    (logNow_only (code := 0x3203) (src := dieF + f.bank) (data := 0))
  exact ⟨_, exec_fire_discarded hf, hin, hsafe, fun b => (hsend.trans hfld).bankOf_eq b⟩

/-! ## What a gate edge finds (R49, R93) -/

/-- The shot voltage sampled for bank b; entries whose edge has passed are gone. -/
def sampleShot (b : Nat) (v : BitVec 12) (s : State) : State :=
  modBank b (fun x => { x with vShot := v.toNat, fires := x.fires.filter fun f => decide (s.tb ≤ f.edge) }) s

/-- Entry f taken out of bank b. -/
def takeFire (b : Nat) (f : FireS) (s : State) : State := modBank b (fun x => { x with fires := x.fires.erase f }) s

theorem sampleShot_passed {b : Nat} {v : BitVec 12} {s : State} {f : FireS} (hf : (bankOf s b).fires = [f])
    (hpast : f.edge < s.tb) : bankOf (sampleShot b v s) b = { bankOf s b with vShot := v.toNat, fires := [] } := by
  rw [sampleShot, bankOf_modBank, hf, List.filter_cons_of_neg (by simpa using hpast), List.filter_nil]

theorem sampleShot_waiting {b : Nat} {v : BitVec 12} {s : State} {f : FireS} (hf : (bankOf s b).fires = [f])
    (hahead : s.tb ≤ f.edge) : bankOf (sampleShot b v s) b = { bankOf s b with vShot := v.toNat, fires := [f] } := by
  rw [sampleShot, bankOf_modBank, hf, List.filter_cons_of_pos (by simpa using hahead), List.filter_nil]

/-- Bank b with its only entry sampled and taken. -/
theorem bankOf_takeFire_sampleShot {b : Nat} {v : BitVec 12} {s : State} {f : FireS} (hf : (bankOf s b).fires = [f])
    (hahead : s.tb ≤ f.edge) :
    bankOf (takeFire b f (sampleShot b v s)) b = { bankOf s b with vShot := v.toNat, fires := [] } := by
  rw [takeFire, bankOf_modBank, sampleShot_waiting hf hahead]
  simp

theorem bankOf_takeFire_sampleShot_ne (b : Nat) (v : BitVec 12) (s : State) (f : FireS) {c : Nat} (hc : c ≠ b) :
    bankOf (takeFire b f (sampleShot b v s)) c = bankOf s c := by
  rw [takeFire, bankOf_modBank_ne _ _ hc, sampleShot, bankOf_modBank_ne _ _ hc]

/-- The sampling point finds the only entry that waits. -/
theorem find_fireDue {b : Nat} {v : BitVec 12} {s : State} {f : FireS} (hf : (bankOf s b).fires = [f])
    (hdue : f.edge ≤ s.tb + 20 * nsU) (hahead : s.tb ≤ f.edge) :
    (bankOf (sampleShot b v s) b).fires.find? (fireDue (sampleShot b v s)) = some f := by
  have hfire : fireDue (sampleShot b v s) f = true := by
    change (decide (f.edge ≤ s.tb + 20 * nsU) && decide (s.tb ≤ f.edge)) = true
    simp only [decide_eq_true hdue, decide_eq_true hahead, Bool.and_self]
  rw [sampleShot_waiting hf hahead]
  simp [hfire]

/-- The committed shot of an emitter is a shot of that emitter. -/
theorem committedShot_em {s : State} {e : Nat} {x : Shot} (h : committedShot s e = some x) : x.em = e := by
  have := List.find?_some h
  simp only [Bool.and_eq_true, beq_iff_eq] at this
  exact this.1.1

theorem shotOfFire_em (s : State) (b : Nat) (f : FireS) : (shotOfFire s b f).em = f.em := by
  unfold shotOfFire
  cases h : committedShot s f.em with
  | none => rfl
  | some x => exact committedShot_em h

/-- A sample between the codes with nothing holding firing drives the gate (R93). -/
theorem gateCause_clear {s : State} {x : BankS} {f : FireS} {v : Nat} (hlink : (linkOf s 1).switchUntil = none)
    (hmode : s.lce.mode ≠ 4) (hin : s.rm.inhibits = []) (hhold : s.fld.gateHold = false)
    (hwdg : s.fld.wdgTripped = false) (hdev : s.dev = .run ∨ s.dev = .safe) (hopen : x.windowClosed = false)
    (hmin : f.min ≤ v) (hlim : v ≤ f.lim) : gateCause s x f v = 0 := by
  have hdev' : (s.dev != .run && s.dev != .safe) = false := by
    obtain h | h := hdev <;> simp [h]
  simp [gateCause, hlink, hmode, hin, hhold, hwdg, hdev', hopen, Nat.not_lt.mpr hmin, Nat.not_lt.mpr hlim]

/-- A sample above the limit or below the minimum code is a cause to skip, whatever else holds (R93). -/
theorem gateCause_outside {s : State} {x : BankS} {f : FireS} {v : Nat} (h : f.lim < v ∨ v < f.min) :
    gateCause s x f v ≠ 0 := by
  unfold gateCause
  split_ifs <;> omega

/-! ## The gate is driven (R88, R93) -/

/-- The shot as the gate edge fires it. -/
def firedShot (b : Nat) (f : FireS) (v : BitVec 12) (s : State) : Shot :=
  { shotOfFire s b f with vCode := v.toNat, apdBad := s.fld.apdBad }

/-- The gate of entry f driven for its width. -/
def driveGate (b : Nat) (f : FireS) (v : BitVec 12) (s : State) : State :=
  let sh := firedShot b f v s
  let s := markGated sh s
  let s := if s.rm.boundary < sh.boundary then loadCodes sh s else s
  modBank b (fun x => { x with
    gateUntil := f.edge + f.width, fired := some sh, firedEdges := []
    vShotLast := 12000 * v.toNat / 4096, eFired := codePj (kEof s f.em) v.toNat }) s

theorem bankOf_driveGate (b : Nat) (f : FireS) (v : BitVec 12) (s : State) :
    ∃ e, bankOf (driveGate b f v s) b = { bankOf s b with
      gateUntil := f.edge + f.width, fired := some (firedShot b f v s), firedEdges := []
      vShotLast := 12000 * v.toNat / 4096, eFired := e } ∧
    ∀ c, c ≠ b → bankOf (driveGate b f v s) c = bankOf s c := by
  unfold driveGate
  extract_lets sh s1 s2
  have hfld : s2.fld = s1.fld := by
    subst s2
    split
    · exact loadCodes_only.same .fld (by decide)
    · rfl
  have hbank (c : Nat) : bankOf s2 c = bankOf s c := bankOf_of_fld hfld c
  refine ⟨codePj (kEof s2 f.em) v.toNat, ?_, fun c hc => ?_⟩
  · rw [bankOf_modBank, hbank]
  · rw [bankOf_modBank_ne _ _ hc, hbank]

/-- The gate driven, and Calliope's report of it. -/
def pulse (b : Nat) (f : FireS) (v : BitVec 12) (s : State) : State :=
  statSend (emit (.gate f.em false) (emit (.gate f.em true) (driveGate b f v s)))

theorem pulse_fieldKept (b : Nat) (f : FireS) (v : BitVec 12) (s : State) :
    FieldKept (driveGate b f v s) (settle (pulse b f v s)) := by
  have hemit : (emit (.gate f.em false) (emit (.gate f.em true) (driveGate b f v s))).fld = (driveGate b f v s).fld := rfl
  exact (FieldKept.of_fld hemit).trans ((statSend_fieldKept _).trans (.of_fld (settle_fld _)))

theorem mem_barSend_out {o : Out} {s : State} (h : o ∈ s.out) (bl ty : Nat) (pl : List Byte) :
    o ∈ (barSend bl ty pl s).out := by
  unfold barSend
  extract_lets l u
  split
  · exact List.mem_append_left _ h
  · exact h

theorem pulse_emits (b : Nat) (f : FireS) (v : BitVec 12) (s : State) (h : Bool) :
    Emits (settle (pulse b f v s)) (.gate f.em h) := by
  rw [Emits, settle_out]
  refine mem_barSend_out ?_ ..
  simp only [emit_out, List.mem_append, List.mem_singleton]
  cases h
  · exact .inr rfl
  · exact .inl (.inr rfl)

/-- Entry f not fired for a cause: its committed shot counts, that of the next phase when its phase opens (R80). -/
def skipFire (b : Nat) (f : FireS) (cause : Nat) (s : State) : State :=
  let sh := shotOfFire s b f
  if !(committedShot s f.em).isSome then s
  else if s.rm.boundary < sh.boundary then markSkip sh cause s
  else skipShot sh cause (markSkip sh cause s)

/-- What becomes of entry f at its sampling point. -/
def gateAct (b : Nat) (f : FireS) (v : BitVec 12) (s : State) : Host.Outcome State Fault Refusal :=
  match gateCause s (bankOf s b) f v.toNat with
  | 0 => if !(committedShot s f.em).isSome && s.rm.framing then done s else done (pulse b f v s)
  | cause => done (skipFire b f cause s)

theorem gateAct_fires {b : Nat} {f : FireS} {v : BitVec 12} {s : State}
    (hcause : gateCause s (bankOf s b) f v.toNat = 0)
    (hknown : (committedShot s f.em).isSome = true ∨ s.rm.framing = false) : gateAct b f v s = done (pulse b f v s) := by
  have hlive : (!(committedShot s f.em).isSome && s.rm.framing) = false := by
    obtain h | h := hknown <;> simp [h]
  simp only [gateAct, hcause, hlive, Bool.false_eq_true, if_false]

theorem gateAct_skips {b : Nat} {f : FireS} {v : BitVec 12} {s : State}
    (hcause : gateCause s (bankOf s b) f v.toNat ≠ 0) : ∃ c, gateAct b f v s = done (skipFire b f c s) := by
  obtain ⟨k, hk⟩ := Nat.exists_eq_succ_of_ne_zero hcause
  exact ⟨k + 1, by simp only [gateAct, hk]⟩

theorem exec_gatePulse_due {t : Nat} {b : Fin 4} {v : BitVec 12} {s : State} {f : FireS}
    (hf : (bankOf s b).fires = [f]) (hdue : f.edge ≤ instant s t + 20 * nsU) (hahead : instant s t ≤ f.edge) :
    exec (.gatePulse t b v) s = gateAct b f v (takeFire b f (sampleShot b v (s.start t))) := by
  have hfind := find_fireDue (b := b) (v := v) (s := s.start t) hf hdue hahead
  change execGatePulse t b v s = _
  unfold execGatePulse
  extract_lets s0 s1
  rw [show (bankOf s1 b).fires.find? (fireDue s1) = some f from hfind]
  rfl

/-! ## GATE_PULSE -/

theorem exec_gatePulse_drives (t : Nat) (b : Fin 4) (v : BitVec 12) (s : State) (f : FireS)
    (hf : (bankOf s b).fires = [f]) (hdue : f.edge ≤ instant s t + 20 * nsU) (hahead : instant s t ≤ f.edge)
    (hlink : (linkOf s 1).switchUntil = none) (hmode : s.lce.mode ≠ 4) (hin : s.rm.inhibits = [])
    (hhold : s.fld.gateHold = false) (hwdg : s.fld.wdgTripped = false) (hdev : s.dev = .run ∨ s.dev = .safe)
    (hopen : (bankOf s b).windowClosed = false) (hmin : f.min ≤ v.toNat) (hlim : v.toNat ≤ f.lim)
    (hknown : (committedShot s f.em).isSome = true ∨ s.rm.framing = false) :
    ∃ u, exec (.gatePulse t b v) s = .next u ∧ Emits u (.gate f.em true) ∧
      Emits u (.gate f.em false) ∧
      (bankOf u b).gateUntil = f.edge + f.width ∧
      (bankOf u b).fires = [] ∧
      (∃ sh, (bankOf u b).fired = some sh ∧ sh.em = f.em ∧ sh.vCode = v.toNat) ∧
      (bankOf u b).vShot = v.toNat ∧
      (∀ c, c ≠ b.val → bankOf u c = bankOf s c) := by
  set w := takeFire b f (sampleShot b v (s.start t)) with hw
  have hwb : bankOf w b = { bankOf s b with vShot := v.toNat, fires := [] } :=
    bankOf_takeFire_sampleShot (s := s.start t) hf hahead
  have hcause : gateCause w (bankOf w b) f v.toNat = 0 :=
    gateCause_clear hlink hmode hin hhold hwdg hdev (by rw [hwb]; exact hopen) hmin hlim
  have he : exec (.gatePulse t b v) s = done (pulse b f v w) :=
    (exec_gatePulse_due hf hdue hahead).trans (gateAct_fires hcause hknown)
  have hkept := pulse_fieldKept b f v w
  obtain ⟨e, hb, hne⟩ := bankOf_driveGate b f v w
  have hu := (hkept.bankOf_eq b).trans hb
  refine ⟨_, he, pulse_emits b f v w true, pulse_emits b f v w false, ?_, ?_,
    ⟨firedShot b f v w, ?_, shotOfFire_em w b f, rfl⟩, ?_, fun c hc => ?_⟩
  · rw [hu]
  · rw [hu, hwb]
  · rw [hu]
  · rw [hu, hwb]
  · rw [hkept.bankOf_eq, hne c hc]
    exact bankOf_takeFire_sampleShot_ne b v (s.start t) f hc

/-- A shot not fired is counted, and only Ringmaster and the point formatter change (R80 to R83). -/
theorem skipShot_skipCount (sh : Shot) (cause : Nat) (s : State) :
    (skipShot sh cause s).rm.skipCount = s.rm.skipCount + 1 := by
  unfold skipShot
  extract_lets u
  split
  · rfl
  · exact congrArg RmS.skipCount (show (missRecords _ _ _ _ u).rm = u.rm from missRecords_only.same .rm (by decide))

theorem skipFire_only (b : Nat) (f : FireS) (cause : Nat) (s : State) : Only [.rm, .pt] s (skipFire b f cause s) := by
  unfold skipFire
  extract_lets sh
  split
  · exact .refl
  · split
    · exact markSkip_only.mono (by decide)
    · exact .step skipShot_only (by decide) (markSkip_only.mono (by decide))

theorem skipFire_unknown {b : Nat} {f : FireS} {cause : Nat} {s : State} (h : committedShot s f.em = none) :
    skipFire b f cause s = s := by
  simp [skipFire, h]

/-- The committed shot counts now, or when its phase opens. -/
theorem skipFire_known {b : Nat} {f : FireS} {cause : Nat} {s : State} {x : Shot} (h : committedShot s f.em = some x) :
    (skipFire b f cause s).rm.skipCount = s.rm.skipCount + (if s.rm.boundary < x.boundary then 0 else 1) := by
  have hsh : shotOfFire s b f = x := by rw [shotOfFire, h]; rfl
  simp only [skipFire, hsh, h, Option.isSome_some, Bool.not_true, Bool.false_eq_true, if_false]
  split
  · rfl
  · exact skipShot_skipCount ..

theorem exec_gatePulse_skips (t : Nat) (b : Fin 4) (v : BitVec 12) (s : State) (f : FireS)
    (hf : (bankOf s b).fires = [f]) (hdue : f.edge ≤ instant s t + 20 * nsU) (hahead : instant s t ≤ f.edge)
    (hout : f.lim < v.toNat ∨ v.toNat < f.min) :
    ∃ u, exec (.gatePulse t b v) s = .next u ∧ (bankOf u b).fires = [] ∧
      (bankOf u b).vShot = v.toNat ∧
      (∀ x, committedShot s f.em = some x →
        u.rm.skipCount = s.rm.skipCount + (if s.rm.boundary < x.boundary then 0 else 1)) ∧
      (committedShot s f.em = none → u.rm.skipCount = s.rm.skipCount) ∧
      (∀ em h, ¬ Emits u (.gate em h)) := by
  set w := takeFire b f (sampleShot b v (s.start t)) with hw
  have hwb : bankOf w b = { bankOf s b with vShot := v.toNat, fires := [] } :=
    bankOf_takeFire_sampleShot (s := s.start t) hf hahead
  obtain ⟨c, hc⟩ := gateAct_skips (b := b) (f := f) (v := v) (s := w) (gateCause_outside hout)
  have honly := skipFire_only b f c w
  have hub : bankOf (settle (skipFire b f c w)) b = bankOf w b :=
    bankOf_of_fld (s := w) (u := settle (skipFire b f c w)) (honly.same .fld (by decide)) b
  have hquiet : (settle (skipFire b f c w)).out = [] := (settle_out _).trans (honly.same .out (by decide))
  refine ⟨_, (exec_gatePulse_due hf hdue hahead).trans hc, ?_, ?_, fun x hx => skipFire_known hx, fun hx => ?_,
    fun em h he => ?_⟩
  · rw [hub, hwb]
  · rw [hub, hwb]
  · rw [skipFire_unknown (s := w) hx]
    rfl
  · rw [Emits, hquiet] at he
    exact List.not_mem_nil he

theorem exec_gatePulse_late (t : Nat) (b : Fin 4) (v : BitVec 12) (s : State) (f : FireS)
    (hf : (bankOf s b).fires = [f]) (hpast : f.edge < instant s t) :
    ∃ u, exec (.gatePulse t b v) s = .next u ∧ (bankOf u b).fires = [] ∧
      u.rm.skipCount = s.rm.skipCount ∧
      (∀ em h, ¬ Emits u (.gate em h)) := by
  have hb := sampleShot_passed (b := b) (v := v) (s := s.start t) hf hpast
  have he : exec (.gatePulse t b v) s = done (sampleShot b v (s.start t)) := by
    change execGatePulse t b v s = _
    unfold execGatePulse
    extract_lets s0 s1
    rw [show (bankOf s1 b).fires = [] from congrArg BankS.fires hb]
    rfl
  exact ⟨_, he, congrArg BankS.fires hb, rfl, fun em h => List.not_mem_nil⟩

/-- Settles O1: each clause is the lemma above about its command. -/
theorem fireAndGatePulse : Obligations.FireAndGatePulse :=
  ⟨exec_fire_arms, exec_fire_refuses, exec_gatePulse_drives, exec_gatePulse_skips, exec_gatePulse_late⟩

end Sys2Proof.Gates
end

section
/-!
Start stamps, crossings, window close and failed channels: what each does to the bank, the channel and the shadow buffer
(R99 to R101, R127 to R146, R184).
-/
namespace Sys2Proof.Stamps

open Sys2Proof Sys2Proof.Machine Sys2Proof.Calliope

/-! ## Start stamps (R99, R101, R137) -/

/-- The window of bank b opened by a start stamp, which ends the misses of emitter em. -/
structure WindowOpened (b em : Nat) (s u : State) : Prop where
  winOpen : (bankOf u b).winOpen = true
  fired : (bankOf u b).fired = none
  monMissed : (bankOf u b).monMissed = false
  stamped : (bankOf u b).tStart.isSome = true
  startT64 : (bankOf u b).tStart.map (t64At s ·) = some (bankOf u b).startT64
  misses : bget 0 u.fld.monMiss em = 0

theorem bankOf_of_bankS {s u : State} (h : u.fld.bankS = s.fld.bankS) (b : Nat) : bankOf u b = bankOf s b :=
  congrArg (bget ({} : BankS) · b) h

theorem WindowOpened.of_fld {b em : Nat} {s u v : State} (h : WindowOpened b em s u)
    (hbank : v.fld.bankS = u.fld.bankS) (hmiss : v.fld.monMiss = u.fld.monMiss) : WindowOpened b em s v := by
  have hb := bankOf_of_bankS hbank b
  obtain ⟨hopen, hfired, hmissed, hstamped, hstart, hmisses⟩ := h
  rw [← hb] at hopen hfired hmissed hstamped hstart
  exact ⟨hopen, hfired, hmissed, hstamped, hstart, hmiss ▸ hmisses⟩

theorem foldl_channelOpen_fld (sh : Shot) (l : List Nat) (s : State) :
    (l.foldl (fun s k => channelOpen sh s (8 * sh.em + k)) s).fld = s.fld :=
  (Only.foldl (l := [.chan]) (fun _ _ h => .step channelOpen_only (by decide) h) .refl).same .fld (by decide)

theorem startStamp_opens {b c : Nat} {s : State} {sh : Shot} (hf : (bankOf s b).fired = some sh)
    (hfrom : sh.edge ≤ s.tb + 20 * nsU) (hto : s.tb ≤ sh.edge + monTimeout s)
    (hclear : tooClose (bankOf s b).lastM 1 (stampFx s (769 + 3 * b) s.tb c) = none) :
    WindowOpened b sh.em s (startStamp b c s) := by
  have hin : (!(decide (sh.edge ≤ s.tb + 20 * nsU) && decide (s.tb ≤ sh.edge + monTimeout s))) = false := by
    rw [decide_eq_true hfrom, decide_eq_true hto]; rfl
  unfold startStamp
  extract_lets x s1 fx a
  rw [show x.fired = some sh from hf]
  change WindowOpened b sh.em s (if _ then _ else _)
  rw [if_neg (Bool.eq_false_iff.mp hin), if_neg (by rw [hclear]; exact Bool.false_ne_true)]
  extract_lets s2 s3 s4
  have hofs : s1.t64Ofs = s.t64Ofs := finishShot_only.same .t64Ofs (by decide)
  have hfld : s3.fld = s2.fld := foldl_channelOpen_fld sh (upto 8) s2
  have hb3 : bankOf s3 b = bankOf s2 b := bankOf_of_fld hfld b
  clear_value s3
  have hb : bankOf s4 b = bankOf s2 b := (bankOf_of_bankS rfl b : bankOf s4 b = bankOf s3 b).trans hb3
  have h4 : WindowOpened b sh.em s s4 := by
    rw [bankOf_modBank] at hb
    refine ⟨by rw [hb], by rw [hb], by rw [hb], by rw [hb]; rfl, ?_, bget_bset_self ..⟩
    rw [hb]
    exact congrArg (fun o => some (BitVec.ofNat 64 a + o)) hofs.symm
  split
  · exact h4.of_fld (by rw [logNow_fld]; rfl) (by rw [logNow_fld]; rfl)
  · exact h4

theorem exec_startStamp_opens (t : Nat) (b : Fin 4) (c : Fin 32) (s : State) (sh : Shot)
    (hf : (bankOf s b).fired = some sh) (hearly : isEarly b (s.start t) = false)
    (hfrom : sh.edge ≤ instant s t + 20 * nsU) (hto : instant s t ≤ sh.edge + monTimeout s)
    (hclear : tooClose (bankOf s b).lastM 1 (stampFx s (769 + 3 * b) (instant s t) c) = none) :
    ∃ u, exec (.startStamp t b c) s = .next u ∧ (bankOf u b).winOpen = true ∧
      (bankOf u b).fired = none ∧
      (bankOf u b).monMissed = false ∧
      (bankOf u b).tStart.isSome = true ∧
      (bankOf u b).tStart.map (t64At s ·) = some (bankOf u b).startT64 ∧
      bget 0 u.fld.monMiss sh.em = 0 := by
  have he : exec (.startStamp t b c) s = done (startStamp b c (s.start t)) := by
    change execStartStamp t b c s = _
    unfold execStartStamp
    exact if_neg (Bool.eq_false_iff.mp hearly)
  obtain ⟨hopen, hfired, hmissed, hstamped, hstart, hmisses⟩ :=
    (startStamp_opens (s := s.start t) hf hfrom hto hclear).of_fld (v := settle (startStamp b c (s.start t))) rfl rfl
  exact ⟨_, he, hopen, hfired, hmissed, hstamped, hstart, hmisses⟩

theorem exec_startStamp_waits (t : Nat) (b : Fin 4) (c : Fin 32) (s : State) (hearly : isEarly b (s.start t) = true) :
    ∃ u, exec (.startStamp t b c) s = .next u ∧
      (bankOf u b).early = (bankOf s b).early ++ [{ at_ := instant s t, start := true, c := c }] ∧
      (bankOf u b).winOpen = (bankOf s b).winOpen ∧
      (bankOf u b).fired = (bankOf s b).fired := by
  have he : exec (.startStamp t b c) s = done (holdEdge b { at_ := instant s t, start := true, c := c } (s.start t)) := by
    change execStartStamp t b c s = _
    unfold execStartStamp
    exact if_pos hearly
  refine ⟨_, he, ?_, ?_, ?_⟩ <;> rw [bankOf_settle, holdEdge, bankOf_modBank] <;> rfl

/-! ## MONITOR_MISS (R100, R146) -/

theorem foldl_ambientUpdate_fld (sh : Shot) (guard : Nat) (l : List Nat) (s : State) :
    (l.foldl (ambientUpdate sh guard) s).fld = s.fld :=
  (Only.foldl (l := [.chan]) (fun _ _ h => .step ambientUpdate_only (by decide) h) .refl).same .fld (by decide)

theorem monMask_fld (b : Nat) (x : BankS) (t64 : BitVec 64) (s : State) : (monMask b x t64 s).fld = s.fld :=
  monMask_only.same .fld (by decide)

theorem recItem_fld (src sel : Nat) (t64 : BitVec 64) (d : List Byte) (s : State) : (recItem src sel t64 d s).fld = s.fld :=
  recItem_only.same .fld (by decide)

theorem modBank_monMiss (b : Nat) (f : BankS → BankS) (s : State) : (modBank b f s).fld.monMiss = s.fld.monMiss := rfl

/-- The end of a guard interval counts no miss. -/
theorem finishShot_monMiss (b : Nat) (s : State) : (finishShot b s).fld.monMiss = s.fld.monMiss := by
  unfold finishShot
  extract_lets +onlyGivenNames x
  split
  · rfl
  · split
    · rfl
    · extract_lets cs guard stamps coded s1 s2 s3
      have h1 : s1.fld = s.fld := recItem_fld ..
      have h2 : s2.fld = s1.fld := by
        subst s2
        split
        · exact foldl_ambientUpdate_fld ..
        · rfl
      have h3 : s3.fld = s2.fld := monMask_fld ..
      exact (modBank_monMiss ..).trans (congrArg FldS.monMiss (h3.trans (h2.trans h1)))

theorem foldl_channelMiss_fld (sh : Shot) (l : List Nat) (s : State) :
    (l.foldl (fun s k => channelMiss sh s (8 * sh.em + k)) s).fld = s.fld :=
  (Only.foldl (l := [.chan]) (fun _ _ h => .step channelMiss_only (by decide) h) .refl).same .fld (by decide)

theorem exec_monitorMiss_counts (t : Nat) (b : Fin 4) (s : State) (sh : Shot) (hf : (bankOf s b).fired = some sh)
    (hdue : sh.edge + monTimeout s ≤ instant s t) :
    ∃ u, exec (.monitorMiss t b) s = .next u ∧ (bankOf u b).monMissed = true ∧
      (bankOf u b).fired = none ∧
      (bankOf u b).tStart = none ∧
      bget 0 u.fld.monMiss sh.em = bget 0 s.fld.monMiss sh.em + 1 := by
  change ∃ u, execMonitorMiss t b s = .next u ∧ _
  unfold execMonitorMiss
  extract_lets +onlyGivenNames s0
  rw [show (bankOf s0 b).fired = some sh from hf]
  change ∃ u, (if decide (sh.edge + monTimeout s0 ≤ s0.tb) = true then _ else _) = Host.Outcome.next u ∧ _
  rw [if_pos (show decide (sh.edge + monTimeout s0 ≤ s0.tb) = true from decide_eq_true hdue)]
  extract_lets s1 s2 s3 s4 s5 s6
  have h3 : s3.fld = s2.fld := recItem_fld ..
  have h4 : s4.fld = s3.fld := monMask_fld ..
  have hb4 : bankOf s4 b = bankOf s2 b := bankOf_of_fld (h4.trans h3) b
  have hmiss : s4.fld.monMiss = s.fld.monMiss :=
    (congrArg FldS.monMiss (h4.trans h3)).trans (finishShot_monMiss b s0)
  clear_value s4
  have h6 : s6.fld = s5.fld := foldl_channelMiss_fld sh (upto 8) s5
  have hrec : (missRecords sh 0 (tofsOf sh sh.edge) sh.theta s6).fld = s6.fld := missRecords_only.same .fld (by decide)
  set u := settle (missRecords sh 0 (tofsOf sh sh.edge) sh.theta s6) with hu
  have hfld : u.fld = s5.fld := (settle_fld _).trans (hrec.trans h6)
  have hb45 : bankOf s5 b = bankOf s4 b := bankOf_of_bankS rfl b
  have hb : bankOf u b = bankOf s2 b := (bankOf_of_fld hfld b).trans (hb45.trans hb4)
  rw [bankOf_modBank] at hb
  refine ⟨u, rfl, by rw [hb], by rw [hb], by rw [hb], ?_⟩
  rw [hfld, ← hmiss]
  exact bget_bmod_self ..

/-! ## Crossings of a channel (R131, R137 to R143) -/

theorem chanOf_of_chan {s u : State} (h : u.chan = s.chan) (k : Nat) : chanOf u k = chanOf s k := by
  unfold chanOf; rw [h]

/-- A crossing of the low threshold gives the level of the low comparator (R132). -/
def levelSeen (inp thr : Nat) (rise : Bool) (s : State) : State :=
  if thr = 0 then modChan inp (fun x => { x with lowHigh := rise }) s else s

theorem levelSeen_fld (inp thr : Nat) (rise : Bool) (s : State) : (levelSeen inp thr rise s).fld = s.fld := by
  unfold levelSeen; split <;> rfl

/-- A reading of a channel that does not look at that level is the same. -/
theorem levelSeen_chan {α : Type} (g : ChanS → α) (hg : ∀ x h, g { x with lowHigh := h } = g x) (inp thr : Nat)
    (rise : Bool) (s : State) (k : Nat) : g (chanOf (levelSeen inp thr rise s) k) = g (chanOf s k) := by
  unfold levelSeen
  split
  · by_cases hk : k = inp
    · subst hk; rw [chanOf_modChan, hg]
    · rw [chanOf_modChan_ne _ _ hk]
  · rfl

/-- The time of an edge does not depend on the level. -/
theorem levelSeen_stampFx (inp thr : Nat) (rise : Bool) (s : State) (l t c : Nat) :
    stampFx (levelSeen inp thr rise s) l t c = stampFx s l t c := by
  have hts : (levelSeen inp thr rise s).ts = s.ts := by unfold levelSeen; split <;> rfl
  have hspan : spanUsed (levelSeen inp thr rise s) l = spanUsed s l := by
    rw [spanUsed, spanUsed, hts, levelSeen_chan ChanS.spanUse (fun _ _ => rfl)]
  simp only [stampFx, hspan, tapW, tapLen, lineOf, hts]

/-- The time of an edge of channel inp, on the line of its threshold, or in a guard-coded interval on the line that takes the low
comparator's edges (R130, R137). -/
def edgeTime (inp thr c : Nat) (s : State) : Int :=
  stampFx s (3 * inp + if thr = 0 && (chanOf s inp).guardCode.isSome && (bankOf s (inp / 64)).guardOpen then
    (chanOf s inp).rotor else thr) s.tb c

theorem edgeTime_of_guardShut {inp thr c : Nat} {s : State} (h : (bankOf s (inp / 64)).guardOpen = false) :
    edgeTime inp thr c s = stampFx s (3 * inp + thr) s.tb c := by
  simp [edgeTime, h]

/-- What an edge of a channel does that has no partner (R137 to R146). -/
def routeEdge (inp thr : Nat) (rise : Bool) (c : Nat) (fx : Int) (s : State) : State :=
  let x := bankOf s (inp / 64)
  let out := noteEdge inp thr { fx := fx, rise := rise } s
  match x.shot, x.tStart with
  | some sh, some _ =>
    if sh.em != inp / 8 || x.monMissed || !rxEnabled s inp then out
    else
      let d := rdiv (fx - x.tStartF) 4096
      if d < 0 then out
      else if x.winOpen && d < shotWin sh then inWindow (inp / 64) inp thr rise fx d.toNat s
      else if x.guardOpen && shotWin sh ≤ d then
        inGuard sh (inp / 64) inp thr rise c fx (min d.toNat 524287) (d.toNat - shotWin sh) s
      else out
  | _, _ => out

/-- An edge of a channel removes its partner with itself, or else is routed (R131). -/
theorem crossingAt_channel {inp : Nat} (h : inp < 256) (thr : Nat) (rise : Bool) (c : Nat) (s : State) :
    crossingAt inp thr rise c s =
      match tooClose (chanOf s inp).lastE thr (edgeTime inp thr c s) with
      | some e => edgeUndo (inp / 64) inp thr e (levelSeen inp thr rise s)
      | none => routeEdge inp thr rise c (edgeTime inp thr c s) (levelSeen inp thr rise s) := by
  have hbank : bankOf (levelSeen inp thr rise s) (inp / 64) = bankOf s (inp / 64) := bankOf_of_fld (levelSeen_fld ..) _
  have hlast := levelSeen_chan ChanS.lastE (fun _ _ => rfl) inp thr rise s inp
  have htime : edgeTime inp thr c (levelSeen inp thr rise s) = edgeTime inp thr c s := by
    have htb : (levelSeen inp thr rise s).tb = s.tb := by unfold levelSeen; split <;> rfl
    rw [edgeTime, levelSeen_stampFx, hbank, htb, levelSeen_chan (fun x => x.guardCode) (fun _ _ => rfl),
      levelSeen_chan ChanS.rotor (fun _ _ => rfl)]
    rfl
  rw [← hlast, ← htime]
  unfold crossingAt
  rw [if_neg (Nat.not_le.mpr h)]
  rfl

theorem chanOf_noteEdge (ch k : Nat) (e : LastE) (s : State) :
    chanOf (noteEdge ch k e s) ch = { chanOf s ch with lastE := bset (chanOf s ch).lastE k e } := chanOf_modChan ..

/-- An in-window crossing of a channel with room is its newest stamp (R140, R143). -/
theorem inWindow_stamps {b ch k : Nat} {rise : Bool} {fx : Int} {time : Nat} {s : State}
    (hroom : (chanOf s ch).stamps.length < 96) :
    ∃ e, (chanOf (inWindow b ch k rise fx time s) ch).stamps = (chanOf s ch).stamps ++ [e] ∧
      (e.chan, e.thr, e.rise, e.time) = (ch, k, rise, time) := by
  unfold inWindow
  extract_lets x bl e1 s1 e2
  rw [if_neg (Nat.not_le.mpr hroom)]
  have hs1 : chanOf s1 ch = chanOf s ch := by subst s1; split <;> rfl
  refine ⟨stampOf ch k e2, ?_, rfl⟩
  rw [chanOf_noteEdge, chanOf_modChan, hs1]

/-- In the window of its bank's shot an edge of the emitter's enabled channel is an in-window crossing. -/
theorem routeEdge_inWindow {inp thr c : Nat} {rise : Bool} {fx : Int} {s : State} {sh : Shot} {a d : Nat}
    (hshot : (bankOf s (inp / 64)).shot = some sh) (hstart : (bankOf s (inp / 64)).tStart = some a)
    (hem : sh.em = inp / 8) (hmon : (bankOf s (inp / 64)).monMissed = false)
    (hopen : (bankOf s (inp / 64)).winOpen = true) (hrx : rxEnabled s inp = true)
    (hd : (d : Int) = rdiv (fx - (bankOf s (inp / 64)).tStartF) 4096) (hwin : d < shotWin sh) :
    routeEdge inp thr rise c fx s = inWindow (inp / 64) inp thr rise fx d s := by
  have hour : (sh.em != inp / 8 || (bankOf s (inp / 64)).monMissed || !rxEnabled s inp) = false := by
    simp [hem, hmon, hrx]
  have hwin' : ((d : Int) < shotWin sh) := by exact_mod_cast hwin
  unfold routeEdge
  extract_lets x out q
  have hq : q = d := hd.symm
  have hin : (x.winOpen && decide (q < shotWin sh)) = true := by rw [hopen, hq, decide_eq_true hwin']; rfl
  rw [show x.shot = some sh from hshot, show x.tStart = some a from hstart]
  change (if (sh.em != inp / 8 || x.monMissed || !rxEnabled s inp) = true then _ else if q < 0 then _ else _) = _
  rw [if_neg (Bool.eq_false_iff.mp hour), if_neg (by rw [hq]; omega), if_pos hin, hq]
  rfl

/-- Without a shot in its bank an edge is captured nowhere. -/
theorem routeEdge_noShot {inp thr c : Nat} {rise : Bool} {fx : Int} {s : State}
    (hshot : (bankOf s (inp / 64)).shot = none) :
    routeEdge inp thr rise c fx s = noteEdge inp thr { fx := fx, rise := rise } s := by
  unfold routeEdge
  extract_lets x out
  rw [show x.shot = none from hshot]

/-- Without a shot in its bank the removal of an edge undoes what it did to its channel, and no more. -/
theorem edgeUndo_noShot {b ch k : Nat} {e : LastE} {s : State} (hshot : (bankOf s b).shot = none) :
    (chanOf (edgeUndo b ch k e s) ch).stamps =
      (if (e.kept || e.drop) && !e.guard then
        (stampOut (stampOf ch k e) (chanOf s ch).stamps (chanOf s ch).spill).1 else (chanOf s ch).stamps) ∧
    (chanOf (edgeUndo b ch k e s) ch).guards =
      (if e.guard then (stampOut (stampOf ch k e) (chanOf s ch).guards (chanOf s ch).spillG).1
        else (chanOf s ch).guards) ∧
    (chanOf (edgeUndo b ch k e s) ch).lastE = bdel (chanOf s ch).lastE k := by
  unfold edgeUndo
  extract_lets x y win st l g back s1 s2 s3 s4
  have h2 : chanOf s2 ch = chanOf s1 ch := by subst s2; split <;> rfl
  have h3 : chanOf s3 ch = chanOf s2 ch := by subst s3; split <;> rfl
  have h4 : chanOf s4 ch = chanOf s3 ch := by
    subst s4
    split
    · exact chanOf_of_chan (lineUnhit_only.same .chan (by decide)) ch
    · rfl
  have h : chanOf s4 ch = chanOf s1 ch := h4.trans (h3.trans h2)
  clear_value s4
  simp only [x, hshot]
  rw [h, chanOf_modChan]
  exact ⟨apply_ite Prod.fst .., apply_ite Prod.fst .., rfl⟩

/-! ## THRESHOLD_CROSSING -/

theorem tooClose_nil (k : Nat) (fx : Int) : tooClose [] k fx = none := rfl

theorem exec_thresholdCrossing_now {t : Nat} {inp : Fin 260} {thr : Fin 3} {rise : Bool} {c : Fin 32} {s : State}
    (h : crossingEarly inp (s.start t) = false) :
    exec (.thresholdCrossing t inp thr rise c) s = done (crossingAt inp thr rise c (s.start t)) := by
  change execThresholdCrossing t inp thr rise c s = _
  unfold execThresholdCrossing
  exact if_neg (Bool.eq_false_iff.mp h)

theorem exec_thresholdCrossing_keeps (t : Nat) (inp : Fin 260) (thr : Fin 3) (rise : Bool) (c : Fin 32) (s : State)
    (sh : Shot) (d : Nat) (hinp : inp.val < 256) (hnow : crossingEarly inp (s.start t) = false)
    (hshot : (bankOf s (inp / 64)).shot = some sh) (hstart : (bankOf s (inp / 64)).tStart.isSome = true)
    (hem : sh.em = inp / 8) (hmon : (bankOf s (inp / 64)).monMissed = false)
    (hopen : (bankOf s (inp / 64)).winOpen = true) (hguard : (bankOf s (inp / 64)).guardOpen = false)
    (hrx : rxEnabled s inp = true) (hlast : (chanOf s inp).lastE = [])
    (hd : (d : Int) = rdiv (stampFx s (3 * inp + thr) (instant s t) c - (bankOf s (inp / 64)).tStartF) 4096)
    (hwin : d < shotWin sh) (hstamps : (chanOf s inp).stamps = []) :
    ∃ u, exec (.thresholdCrossing t inp thr rise c) s = .next u ∧
      (chanOf u inp).stamps.map (fun e => (e.chan, e.thr, e.rise, e.time)) = [(inp.val, thr.val, rise, d)] := by
  obtain ⟨a, ha⟩ := Option.isSome_iff_exists.mp hstart
  set v := levelSeen inp thr rise (s.start t) with hv
  have hbank (b : Nat) : bankOf v b = bankOf s b := bankOf_of_fld (levelSeen_fld ..) b
  have htime : edgeTime inp thr c (s.start t) = stampFx s (3 * inp + thr) (instant s t) c :=
    edgeTime_of_guardShut (s := s.start t) hguard
  have hdict : v.dict = s.dict := by rw [hv]; unfold levelSeen; split <;> rfl
  have hrx' : rxEnabled v inp = true := by simpa only [rxEnabled, parN, parI, par, hdict] using hrx
  have hroute := routeEdge_inWindow (thr := thr) (c := c) (rise := rise) (s := v)
    (by rw [hbank]; exact hshot) (by rw [hbank]; exact ha) hem (by rw [hbank]; exact hmon) (by rw [hbank]; exact hopen)
    hrx' (by rw [hbank]; exact hd) hwin
  have hcross : crossingAt inp thr rise c (s.start t) = inWindow (inp / 64) inp thr rise
      (stampFx s (3 * inp + thr) (instant s t) c) d v := by
    rw [crossingAt_channel hinp, show (chanOf (s.start t) inp).lastE = [] from hlast, tooClose_nil, htime, ← hroute]
  have hnone : (chanOf v inp).stamps = [] :=
    (levelSeen_chan ChanS.stamps (fun _ _ => rfl) inp thr rise (s.start t) inp).trans hstamps
  obtain ⟨e, he, hval⟩ := inWindow_stamps (b := inp / 64) (k := thr) (rise := rise)
    (fx := stampFx s (3 * inp + thr) (instant s t) c) (time := d) (s := v) (ch := inp) (by rw [hnone]; decide)
  refine ⟨_, exec_thresholdCrossing_now hnow, ?_⟩
  rw [hcross, chanOf_of_chan (settle_chan _), he, hnone]
  exact congrArg ([·]) hval

theorem exec_thresholdCrossing_undoes (t : Nat) (inp : Fin 260) (thr : Fin 3) (rise : Bool) (c : Fin 32) (s : State)
    (e : LastE) (hinp : inp.val < 256) (hnow : crossingEarly inp (s.start t) = false)
    (hshot : (bankOf s (inp / 64)).shot = none) (hguard : (bankOf s (inp / 64)).guardOpen = false)
    (hclose : tooClose (chanOf s inp).lastE thr (stampFx s (3 * inp + thr) (instant s t) c) = some e) :
    ∃ u, exec (.thresholdCrossing t inp thr rise c) s = .next u ∧
      (chanOf u inp).stamps = (if (e.kept || e.drop) && !e.guard then
        (stampOut (stampOf inp thr e) (chanOf s inp).stamps (chanOf s inp).spill).1 else (chanOf s inp).stamps) ∧
      (chanOf u inp).guards = (if e.guard then
        (stampOut (stampOf inp thr e) (chanOf s inp).guards (chanOf s inp).spillG).1 else (chanOf s inp).guards) ∧
      (chanOf u inp).lastE = bdel (chanOf s inp).lastE thr := by
  set v := levelSeen inp thr rise (s.start t) with hv
  have hbank : bankOf v (inp / 64) = bankOf s (inp / 64) := bankOf_of_fld (levelSeen_fld ..) _
  have htime : edgeTime inp thr c (s.start t) = stampFx s (3 * inp + thr) (instant s t) c :=
    edgeTime_of_guardShut (s := s.start t) hguard
  have hcross : crossingAt inp thr rise c (s.start t) = edgeUndo (inp / 64) inp thr e v := by
    rw [crossingAt_channel hinp, htime, show tooClose (chanOf (s.start t) inp).lastE thr _ = some e from hclose]
  have hkeep {α : Type} (g : ChanS → α) (hg : ∀ x h, g { x with lowHigh := h } = g x) :
      g (chanOf v inp) = g (chanOf s inp) := levelSeen_chan g hg inp thr rise (s.start t) inp
  have hundo := edgeUndo_noShot (ch := inp) (k := thr) (e := e) (s := v) (by rw [hbank]; exact hshot)
  rw [hkeep ChanS.stamps fun _ _ => rfl, hkeep ChanS.spill fun _ _ => rfl, hkeep ChanS.guards fun _ _ => rfl,
    hkeep ChanS.spillG fun _ _ => rfl, hkeep ChanS.lastE fun _ _ => rfl] at hundo
  refine ⟨_, exec_thresholdCrossing_now hnow, ?_⟩
  rw [hcross, chanOf_of_chan (settle_chan _)]
  exact hundo

theorem exec_thresholdCrossing_ignores (t : Nat) (inp : Fin 260) (thr : Fin 3) (rise : Bool) (c : Fin 32) (s : State)
    (hinp : inp.val < 256) (hnow : crossingEarly inp (s.start t) = false)
    (hshot : (bankOf s (inp / 64)).shot = none) (hlast : (chanOf s inp).lastE = []) :
    ∃ u, exec (.thresholdCrossing t inp thr rise c) s = .next u ∧ (chanOf u inp).stamps = (chanOf s inp).stamps ∧
      (chanOf u inp).guards = (chanOf s inp).guards ∧
      u.fld = s.fld := by
  set v := levelSeen inp thr rise (s.start t) with hv
  have hbank : bankOf v (inp / 64) = bankOf s (inp / 64) := bankOf_of_fld (levelSeen_fld ..) _
  have hcross : crossingAt inp thr rise c (s.start t) = noteEdge inp thr
      { fx := edgeTime inp thr c (s.start t), rise := rise } v := by
    rw [crossingAt_channel hinp, show (chanOf (s.start t) inp).lastE = [] from hlast, tooClose_nil]
    exact routeEdge_noShot (by rw [hbank]; exact hshot)
  have hkeep {α : Type} (g : ChanS → α) (hg : ∀ x h, g { x with lowHigh := h } = g x) :
      g (chanOf v inp) = g (chanOf s inp) := levelSeen_chan g hg inp thr rise (s.start t) inp
  refine ⟨_, exec_thresholdCrossing_now hnow, ?_, ?_, ?_⟩
  · rw [hcross, chanOf_of_chan (settle_chan _), chanOf_noteEdge]
    exact hkeep ChanS.stamps fun _ _ => rfl
  · rw [hcross, chanOf_of_chan (settle_chan _), chanOf_noteEdge]
    exact hkeep ChanS.guards fun _ _ => rfl
  · rw [hcross]
    exact levelSeen_fld ..

/-! ## WINDOW_CLOSE (R59, R184) -/

/-- The shadow buffer keeps an emitter's newest unit last. -/
theorem shadowKeep_getLast (s : State) (l : List ShUnit) (u : ShUnit) :
    (shadowKeep s (l ++ [u])).getLast? = some u := by
  unfold shadowKeep
  split
  · extract_lets keys
    have hkey : keys.contains (groupKey u) = true := by
      simp [keys, List.eraseDups_cons]
    simp only [List.filter_append, List.filter_cons, hkey, if_true, List.filter_nil, List.getLast?_concat]
  · rw [List.drop_append_of_le_length (by simp)]
    simp

/-- The support test's ranges join the newest unit. -/
theorem groupSupport_getLast (u : ShUnit) (s : State) :
    (bget [] (groupSupport u s).ee.shadow u.em).getLast?.map (·.tStart) = some u.tStart := by
  simp [groupSupport]

theorem exec_windowClose_closes (t : Nat) (b : Fin 4) (s : State) (sh : Shot) (a : Nat)
    (hshot : (bankOf s b).shot = some sh) (hstart : (bankOf s b).tStart = some a) (hopen : (bankOf s b).winOpen = true)
    (hdue : a + shotWin sh ≤ instant s t) :
    ∃ u, exec (.windowClose t b) s = .next u ∧ (bankOf u b).winOpen = false ∧
      (bankOf u b).guardOpen = true ∧
      (bankOf u b).guardFrom = a + shotWin sh ∧
      (bget [] u.ee.shadow sh.em).getLast?.map (·.tStart) = some a := by
  change ∃ u, execWindowClose t b s = .next u ∧ _
  unfold execWindowClose
  extract_lets +onlyGivenNames s0 x
  rw [show x.shot = some sh from hshot, show x.tStart = some a from hstart]
  have hgo : (!x.winOpen || decide (s0.tb < a + shotWin sh)) = false := by
    have hlate : decide (s0.tb < a + shotWin sh) = false := decide_eq_false (Nat.not_lt.mpr hdue)
    rw [show x.winOpen = true from hopen, hlate]; rfl
  change ∃ u, (if (!x.winOpen || decide (s0.tb < a + shotWin sh)) = true then _ else _) = Host.Outcome.next u ∧ _
  rw [if_neg (Bool.eq_false_iff.mp hgo)]
  extract_lets cs wEnd s1 unit s2 s3
  clear_value s1
  have h2 : (bget [] s2.ee.shadow sh.em).getLast? = some unit := by
    have hs : bget [] s2.ee.shadow sh.em = shadowKeep s1 (bget [] s1.ee.shadow sh.em ++ [unit]) :=
      bget_bmod_self [] s1.ee.shadow sh.em fun l => shadowKeep s1 (l ++ [unit])
    rw [hs, shadowKeep_getLast]
  have h3 : (bget [] s3.ee.shadow sh.em).getLast?.map (·.tStart) = some a := by
    subst s3
    split
    · exact groupSupport_getLast unit s2
    · rw [h2]; rfl
  clear_value s3
  set g : BankS → BankS := fun x => { x with winOpen := false, guardOpen := true, guardFrom := a + shotWin sh }
  have hb : bankOf (settle (modBank b g s3)) b = g (bankOf s3 b) := bankOf_modBank b g s3
  exact ⟨settle (modBank b g s3), rfl, congrArg BankS.winOpen hb, congrArg BankS.guardOpen hb,
    congrArg BankS.guardFrom hb, h3⟩

/-! ## Failed channels (R132) -/

theorem exec_rxChannelFailed_fails (t : Nat) (chan : Fin 256) (s : State) (hrun : 64 ≤ (chanOf s chan).blindRun)
    (hok : (chanOf s chan).failed = false) (hroom : LogRoom s 1) :
    ∃ u, exec (.rxChannelFailed t chan) s = .next u ∧ (chanOf u chan).failed = true ∧ Logged s u 0x2301 chan 0 := by
  set v := modChan chan (fun x => { x with failed := true }) (s.start t) with hv
  have he : exec (.rxChannelFailed t chan) s = done (logNow 0x2301 chan 0 v) := by
    change execRxChannelFailed t chan s = _
    unfold execRxChannelFailed
    refine if_pos ?_
    change (decide (64 ≤ (chanOf s chan).blindRun) && !(chanOf s chan).failed) = true
    rw [hok, decide_eq_true hrun]; rfl
  have hlog : Logged v (settle (logNow 0x2301 chan 0 v)) 0x2301 chan 0 := logged_settle_logNow hroom
  refine ⟨_, he, ?_, hlog⟩
  rw [chanOf_of_chan (settle_chan _), chanOf_of_chan (logNow_only.same .chan (by decide)), hv, chanOf_modChan]

theorem exec_rxChannelRestored_restores (t : Nat) (chan : Fin 256) (s : State) (hrun : 64 ≤ (chanOf s chan).clearRun)
    (hbad : (chanOf s chan).failed = true) (hroom : LogRoom s 1) :
    ∃ u, exec (.rxChannelRestored t chan) s = .next u ∧ (chanOf u chan).failed = false ∧ Logged s u 0x0302 chan 0 := by
  set v := modChan chan (fun x => { x with failed := false }) (s.start t) with hv
  have he : exec (.rxChannelRestored t chan) s = done (logNow 0x0302 chan 0 v) := by
    change execRxChannelRestored t chan s = _
    unfold execRxChannelRestored
    refine if_pos ?_
    change (decide (64 ≤ (chanOf s chan).clearRun) && (chanOf s chan).failed) = true
    rw [hbad, decide_eq_true hrun]; rfl
  have hlog : Logged v (settle (logNow 0x0302 chan 0 v)) 0x0302 chan 0 := logged_settle_logNow hroom
  refine ⟨_, he, ?_, hlog⟩
  rw [chanOf_of_chan (settle_chan _), chanOf_of_chan (logNow_only.same .chan (by decide)), hv, chanOf_modChan]

/-- Settles O25: each clause is the lemma above about its command. -/
theorem stampCapture : Obligations.StampCapture :=
  ⟨exec_startStamp_opens, exec_startStamp_waits, exec_monitorMiss_counts, exec_thresholdCrossing_keeps,
    exec_thresholdCrossing_undoes, exec_thresholdCrossing_ignores, exec_windowClose_closes, exec_rxChannelFailed_fails,
    exec_rxChannelRestored_restores⟩

end Sys2Proof.Stamps
end

section
/-!
The LCE's period: what the laws leave of the sample tick, the frames that a tick sends, the release of its outputs, overruns,
the coil estimate and the end of an injection (R110, R112, R287 to R290, R304, R316).
-/
namespace Sys2Proof.Lce

open Sys2Proof Sys2Proof.Machine Sys2Proof.Calliope

/-! ## The laws leave the tick (R287, R291) -/

/-- The sample tick is the same: its instant and its number. -/
structure TickKept (s u : State) : Prop where
  tickAt : u.lce.tickAt = s.lce.tickAt
  tickNo : u.lce.tickNo = s.lce.tickNo

theorem TickKept.of_lce {s u : State} (h : u.lce = s.lce) : TickKept s u := ⟨by rw [h], by rw [h]⟩

theorem TickKept.refl (s : State) : TickKept s s := ⟨rfl, rfl⟩

theorem TickKept.trans {s t u : State} (h : TickKept s t) (g : TickKept t u) : TickKept s u :=
  ⟨g.tickAt.trans h.tickAt, g.tickNo.trans h.tickNo⟩

theorem TickKept.foldl {α : Type} {f : State → α → State} (h : ∀ s x, TickKept s (f s x)) (l : List α) (s : State) :
    TickKept s (l.foldl f s) := by
  induction l generalizing s with
  | nil => exact .refl s
  | cons x r ih => exact (h s x).trans (ih _)

theorem modLaw_tickKept (n : Nat) (f : LawS → LawS) (s : State) : TickKept s (modLaw n f s) := ⟨rfl, rfl⟩

theorem satCount_tickKept (n : Nat) (s : State) : TickKept s (satCount n s) := by
  unfold satCount
  split
  · exact .refl s
  · exact ⟨rfl, rfl⟩

theorem injEnd_tickKept (k : Nat) (s : State) : TickKept s (injEnd k s) := by
  unfold injEnd
  split
  · exact ⟨rfl, rfl⟩
  · exact .refl s

theorem mirMode_tickKept (m : Nat) (s : State) : TickKept s (mirMode m s) := ⟨rfl, rfl⟩

theorem mirLive_tickKept (m : Nat) (s : State) : TickKept s (mirLive m s) := by
  unfold mirLive
  split
  · exact .refl s
  · exact mirMode_tickKept m s

theorem logAt_tickKept (t64 : BitVec 64) (code src data : Nat) (s : State) : TickKept s (logAt t64 code src data s) :=
  .of_lce (logAt_only.same .lce (by decide))

theorem logNow_tickKept (code src data : Nat) (s : State) : TickKept s (logNow code src data s) := logAt_tickKept ..

theorem cancelShots_tickKept (cause : Nat) (s : State) : TickKept s (cancelShots cause s) :=
  .of_lce (cancelShots_only.same .lce (by decide))

theorem safeCause_lce (c : SafeCause) (s : State) : (safeCause c s).lce = s.lce := safeCause_only.same .lce (by decide)

theorem noSource_tickKept (s : State) : TickKept s (noSource s) := by
  unfold noSource
  extract_lets u
  have hu : TickKept s u := ⟨rfl, rfl⟩
  have hm : TickKept u (mirLive 2 u) := mirLive_tickKept 2 u
  have hi : TickKept (mirLive 2 u) (inhibit .bothFeedback (mirLive 2 u)) := ⟨rfl, rfl⟩
  have hs := TickKept.of_lce (safeCause_lce .bothFeedback (inhibit .bothFeedback (mirLive 2 u)))
  exact hu.trans <| hm.trans <| hi.trans <| hs.trans <| logNow_tickKept ..

theorem primaryLost_tickKept (frozen : Bool) (t64 : BitVec 64) (s : State) : TickKept s (primaryLost frozen t64 s) := by
  unfold primaryLost
  split
  · exact .refl s
  · extract_lets u v none_ w
    have hu : TickKept s u := TickKept.trans (t := modLce _ s) ⟨rfl, rfl⟩ (injEnd_tickKept ..)
    have hv : TickKept s v := hu.trans (logAt_tickKept ..)
    have hw : TickKept s w := hv.trans (cancelShots_tickKept ..)
    split
    · exact hv
    · split
      · exact hw.trans (noSource_tickKept w)
      · refine hw.trans (TickKept.trans ?_ (mirLive_tickKept 1 _))
        exact ⟨rfl, rfl⟩

theorem secondaryLost_tickKept (s : State) : TickKept s (secondaryLost s) := by
  unfold secondaryLost
  split
  · exact ⟨rfl, rfl⟩
  · extract_lets u
    have hu : TickKept s u := TickKept.trans (t := modLce _ s) ⟨rfl, rfl⟩ (injEnd_tickKept ..)
    split
    · exact hu.trans ((cancelShots_tickKept 2 u).trans (logNow_tickKept ..))
    · split
      · exact hu.trans ((cancelShots_tickKept 1 u).trans (noSource_tickKept _))
      · exact hu

theorem declareLost_tickKept (s : State) : TickKept s (declareLost s) := by
  unfold declareLost
  extract_lets l pf sf u frozen t64 fresh v w
  have hu : TickKept s u := ⟨rfl, rfl⟩
  have hv : TickKept u v := by
    subst v
    split
    · exact cancelShots_tickKept 1 u
    · exact .refl u
  have hw : TickKept v w := by
    subst w
    split
    · exact secondaryLost_tickKept v
    · exact .refl v
  split
  · exact (hu.trans (hv.trans hw)).trans (primaryLost_tickKept ..)
  · exact hu.trans (hv.trans hw)

theorem primaryTests_tickKept (s : State) (c : LchS) (th v dth : Int) : TickKept s (primaryTests s c th v dth) := by
  unfold primaryTests
  split <;> exact ⟨rfl, rfl⟩

theorem secondaryEdge_tickKept (th0 dth : Int) (from_ : Nat) (s : State) (p : Nat × Int) :
    TickKept s (secondaryEdge th0 dth from_ s p) := ⟨rfl, rfl⟩

theorem lawModel_tickKept (from_ : Nat) (s : State) : TickKept s (lawModel from_ s) := by
  unfold lawModel
  extract_lets +onlyGivenNames s0 th0
  split
  next th v _ =>
  extract_lets +onlyGivenNames dth c ok due edges src s1 s2 s3 s4
  have h0 : TickKept s s0 := .of_lce (encSettle_only.same .lce (by decide))
  have h1 : TickKept s0 s1 := ⟨rfl, rfl⟩
  have h2 : TickKept s1 s2 := primaryTests_tickKept ..
  have h3 : TickKept s2 s3 := by
    subst s3
    split
    · exact ⟨rfl, rfl⟩
    · exact .foldl (secondaryEdge_tickKept th0 dth from_) edges s2
  have hl : TickKept s3 s4 := TickKept.trans (t := modLch _ _ s3) ⟨rfl, rfl⟩ (declareLost_tickKept _)
  have h4 : TickKept s s4 := h0.trans <| h1.trans <| h2.trans <| h3.trans hl
  clear_value s4
  refine h4.trans ?_
  split
  next thN vN _ =>
  extract_lets est s5
  refine TickKept.trans ?_ (satCount_tickKept ..)
  exact ⟨rfl, rfl⟩

theorem lawPosition_tickKept (s : State) : TickKept s (lawPosition s) := by
  unfold lawPosition
  extract_lets +onlyGivenNames ref vel acc s1 e0 e
  have h1 : TickKept s s1 := ⟨rfl, rfl⟩
  clear_value s1
  split
  next y w k _ =>
  extract_lets +onlyGivenNames dem0 dem ilim et w4
  split
  next i4 k4 _ =>
  extract_lets +onlyGivenNames fall ict mag
  split
  next n4 j4 _ =>
  extract_lets +onlyGivenNames s2 cmd lim i s3 c
  have h2 : TickKept s1 s2 := ⟨rfl, rfl⟩
  clear_value s2
  have h3 : TickKept s2 s3 := ⟨rfl, rfl⟩
  clear_value s3
  refine (h1.trans (h2.trans (h3.trans ?_))).trans (satCount_tickKept ..)
  exact ⟨rfl, rfl⟩

theorem lawCurrent_tickKept (s : State) : TickKept s (lawCurrent s) := by
  unfold lawCurrent
  extract_lets e0 e v d
  refine TickKept.trans ?_ (satCount_tickKept ..)
  exact ⟨rfl, rfl⟩

theorem lawBank_tickKept (s : State) (b : Nat) : TickKept s (lawBank s b) := by
  unfold lawBank
  extract_lets +onlyGivenNames sel et
  split
  next vt it nt _ =>
  extract_lets +onlyGivenNames ec
  split
  next vc ic nc _ =>
  extract_lets s1
  have h1 : TickKept s s1 := by
    subst s1
    split
    · exact ⟨rfl, rfl⟩
    · exact .refl s
  refine (h1.trans ?_).trans (satCount_tickKept ..)
  exact ⟨rfl, rfl⟩

theorem lawBias_tickKept (s : State) : TickKept s (lawBias s) := by
  unfold lawBias
  extract_lets m td on target step v raw code s1
  refine TickKept.trans ?_ (satCount_tickKept ..)
  exact ⟨rfl, rfl⟩

theorem lawHeater_tickKept (s : State) : TickKept s (lawHeater s) := by
  unfold lawHeater
  extract_lets m e0 e v c d
  refine TickKept.trans ?_ (satCount_tickKept ..)
  exact ⟨rfl, rfl⟩

theorem lawLoop_tickKept (s : State) (n : Nat) : TickKept s (lawLoop s n) := by
  unfold lawLoop
  extract_lets +onlyGivenNames l
  split
  · exact ⟨rfl, rfl⟩
  · split
    · exact ⟨rfl, rfl⟩
    · split
      exact ⟨rfl, rfl⟩

/-! ## The rest of a period -/

theorem coefSwap_tickKept (s : State) : TickKept s (coefSwap s) := by
  unfold coefSwap
  extract_lets s1
  have h1 : TickKept s s1 := .of_lce (takeHeld_only.same .lce (by decide))
  refine (h1.trans ?_).trans (.of_lce (ackOwed_only.same .lce (by decide)))
  refine .foldl (fun s n => ?_) _ s1
  split
  · exact .refl s
  · exact modLaw_tickKept ..

theorem injTick_tickKept (s : State) : TickKept s (injTick s) := by
  unfold injTick
  extract_lets s1 s2 v
  have h1 : TickKept s s1 := by
    subst s1
    split
    · exact ⟨rfl, rfl⟩
    · exact .refl s
  have h2 : TickKept s1 s2 := by
    subst s2
    split
    · exact mirMode_tickKept 3 s1
    · exact .refl s1
  exact (h1.trans h2).trans (modLaw_tickKept ..)

theorem recItem_tickKept (src sel : Nat) (t64 : BitVec 64) (d : List Byte) (s : State) :
    TickKept s (recItem src sel t64 d s) := .of_lce (recItem_only.same .lce (by decide))

theorem injCapture_tickKept (s : State) : TickKept s (injCapture s) := by
  unfold injCapture
  extract_lets +onlyGivenNames t64 q s1
  have h1 : TickKept s s1 := .foldl (fun _ _ => recItem_tickKept ..) ..
  clear_value s1
  split
  · exact h1
  · extract_lets w s2 chip step
    have h2 : TickKept s1 s2 := by
      subst s2
      split
      · exact recItem_tickKept ..
      · split
        · exact ⟨rfl, rfl⟩
        · exact .refl s1
    clear_value s2
    refine (h1.trans h2).trans ?_
    exact ⟨rfl, rfl⟩

theorem mirrorMask_tickKept (s : State) : TickKept s (mirrorMask s) := .of_lce (mirrorMask_only.same .lce (by decide))

theorem swapsEnd_tickKept (s : State) : TickKept s (swapsEnd s) := ⟨rfl, rfl⟩

theorem holdInhibits_tickKept (before : List Inhibit) (s : State) : TickKept s (holdInhibits before s) := ⟨rfl, rfl⟩

theorem coilSums_tickKept (s : State) : TickKept s (coilSums s) := ⟨rfl, rfl⟩

theorem zonesRelease_tickKept (s : State) : TickKept s (zonesRelease s) := ⟨rfl, rfl⟩

/-! ## The frames of a period (R115, R116, R289) -/

/-- A frame sent is the newest of its link's replay buffer, under the link's last sequence number. -/
theorem barSend_newest (bl ty : Nat) (pl : List Byte) (s : State) :
    (linkOf (barSend bl ty pl s) bl).replay.getLast? =
      some ((linkOf (barSend bl ty pl s) bl).txSeq - 1, BitVec.ofNat 8 ty, pl) := by
  unfold barSend
  extract_lets l u
  have hu : (linkOf u bl).replay.getLast? = some ((linkOf u bl).txSeq - 1, BitVec.ofNat 8 ty, pl) := by
    simp only [u, linkOf_modLink]
    rw [List.drop_append_of_le_length (by omega), List.getLast?_concat, BitVec.add_sub_cancel]
  split
  · exact hu
  · exact hu

theorem barSend_linkOf_ne {bl k : Nat} (h : k ≠ bl) (ty : Nat) (pl : List Byte) (s : State) :
    linkOf (barSend bl ty pl s) k = linkOf s k := by
  unfold barSend
  extract_lets l u
  have hu : linkOf u k = linkOf s k := linkOf_modLink_ne _ _ h
  split
  · exact hu
  · exact hu

/-- LCE_OUT and FIELD_IO sent in their slots. -/
def periodSent (s : State) : State := barSend 3 0x18 (fieldIoPayload s) (barSend 2 0x10 (lceOutPayload s) s)

theorem periodSent_only (s : State) : Only [.fld, .out] s (periodSent s) :=
  .step barSend_only (by decide) barSend_only

theorem lceOutPayload_of_lce {s u : State} (h : u.lce = s.lce) : lceOutPayload u = lceOutPayload s := by
  simp only [lceOutPayload, h]

theorem fieldIoPayload_of_same {s u : State} (hlce : u.lce = s.lce) (hadc : u.adc = s.adc) (hdict : u.dict = s.dict) :
    fieldIoPayload u = fieldIoPayload s := by
  have hpar (n k : Nat) : parN u n k = parN s n k := by simp only [parN, parI, par, hdict]
  simp only [fieldIoPayload, hlce, hadc, hpar]

theorem periodSent_lceOut (s : State) :
    (linkOf (settle (periodSent s)) 2).replay.getLast? =
      some ((linkOf (settle (periodSent s)) 2).txSeq - 1, 0x10, lceOutPayload (settle (periodSent s))) := by
  have hpl : lceOutPayload (settle (periodSent s)) = lceOutPayload s :=
    lceOutPayload_of_lce ((periodSent_only s).same .lce (by decide))
  have hlink : linkOf (settle (periodSent s)) 2 = linkOf (barSend 2 0x10 (lceOutPayload s) s) 2 :=
    (Barrier.linkOf_of_fld (settle_fld _) 2).trans (barSend_linkOf_ne (by decide) ..)
  rw [hlink, hpl]
  exact barSend_newest ..

theorem periodSent_fieldIo (s : State) :
    (linkOf (settle (periodSent s)) 3).replay.getLast? =
      some ((linkOf (settle (periodSent s)) 3).txSeq - 1, 0x18, fieldIoPayload (settle (periodSent s))) := by
  have hpl : fieldIoPayload (settle (periodSent s)) = fieldIoPayload s :=
    fieldIoPayload_of_same ((periodSent_only s).same .lce (by decide)) ((periodSent_only s).same .adc (by decide))
      ((periodSent_only s).same .dict (by decide))
  rw [Barrier.linkOf_of_fld (settle_fld _) 3, hpl]
  exact barSend_newest ..

/-! ## LCE_SAMPLE_TICK (R287, R289) -/

theorem exec_lceSampleTick_ticks (t : Nat) (late : Bool) (s : State) (hgrid : instant s t % (4 * usU) = 0)
    (hnew : s.lce.tickAt < instant s t) :
    ∃ u, exec (.lceSampleTick t late) s = .next u ∧ u.lce.tickAt = instant s t ∧
      u.lce.tickNo = s.lce.tickNo + 1 ∧
      u.lce.outReady = !late ∧
      u.lce.lateTick = late ∧
      (late = false → (linkOf u 2).replay.getLast? = some ((linkOf u 2).txSeq - 1, 0x10, lceOutPayload u)) ∧
      (late = false → (linkOf u 3).replay.getLast? = some ((linkOf u 3).txSeq - 1, 0x18, fieldIoPayload u)) := by
  have hdue : (!tickDue (s.start t)) = false := by
    change (!(instant s t % (4 * usU) == 0 && decide (s.lce.tickAt < instant s t))) = false
    rw [hgrid, decide_eq_true hnew]
    rfl
  change ∃ u, execLceSampleTick t late s = .next u ∧ _
  unfold execLceSampleTick
  extract_lets +onlyGivenNames s0
  rw [if_neg (Bool.eq_false_iff.mp hdue)]
  extract_lets s1 from_ s2 before s3 s4 s5 s6 s7 s8 s9
  have hlink : Only [.xi, .out] s0 s1 := .step canRun_only (by decide) (.step canRun_only (by decide)
    (barSymbol_only.mono (by decide)))
  have htb : s1.tb = instant s t := hlink.same .tb (by decide)
  have hlce : s1.lce = s.lce := hlink.same .lce (by decide)
  have hat : s2.lce.tickAt = instant s t := htb
  have hno : s2.lce.tickNo = s.lce.tickNo + 1 := congrArg (fun l => l.tickNo + 1) hlce
  clear_value s2
  have h3 : TickKept s2 s3 := (coilSums_tickKept s2).trans <| (coefSwap_tickKept _).trans <|
    (zonesRelease_tickKept _).trans (injTick_tickKept _)
  clear_value s3
  have h4 : TickKept s3 s4 := (lawModel_tickKept from_ s3).trans <| (lawPosition_tickKept _).trans (lawCurrent_tickKept _)
  clear_value s4
  have h5 : TickKept s4 s5 := (TickKept.foldl lawBank_tickKept (upto 4) s4).trans <|
    (lawBias_tickKept _).trans (lawHeater_tickKept _)
  clear_value s5
  have h6 : TickKept s5 s6 := (lawLoop_tickKept s5 0).trans (lawLoop_tickKept _ 1)
  clear_value s6
  have h7 : TickKept s6 s7 := modLaw_tickKept ..
  clear_value s7
  have h8 : TickKept s7 s8 := (injCapture_tickKept s7).trans <| (mirrorMask_tickKept _).trans <|
    (swapsEnd_tickKept _).trans (holdInhibits_tickKept before _)
  clear_value s8
  have h9 : TickKept s8 s9 := ⟨rfl, rfl⟩
  have hready : s9.lce.outReady = !late := rfl
  have hlate : s9.lce.lateTick = late := rfl
  have hkept : TickKept s2 s9 := h3.trans <| h4.trans <| h5.trans <| h6.trans <| h7.trans <| h8.trans h9
  clear_value s9
  have hat9 := hkept.tickAt.trans hat
  have hno9 := hkept.tickNo.trans hno
  cases late with
  | true => exact ⟨settle s9, rfl, hat9, hno9, hready, hlate, nofun, nofun⟩
  | false =>
    have hsent : (settle (periodSent s9)).lce = s9.lce := (periodSent_only s9).same .lce (by decide)
    refine ⟨settle (periodSent s9), rfl, ?_, ?_, ?_, ?_, fun _ => periodSent_lceOut s9, fun _ => periodSent_fieldIo s9⟩ <;>
      rw [hsent] <;> assumption

/-! ## LCE_OUTPUT_RELEASE (R110, R112, R289) -/

theorem inhibit_keeps {v : Inhibit} {s : State} (w : Inhibit) (h : v ∈ s.rm.inhibits) : v ∈ (inhibit w s).rm.inhibits := by
  simp only [inhibit, modRm_rm]
  split
  · exact h
  · exact List.mem_append_left _ h

/-- The inhibits of a list raised, one after the other. -/
def inhibitAll (l : List Inhibit) (s : State) : State := l.foldl (fun s w => inhibit w s) s

theorem inhibitAll_only (l : List Inhibit) (s : State) : Only [.rm] s (inhibitAll l s) :=
  Only.foldl (fun _ _ h => h.trans inhibit_only) .refl

theorem inhibitAll_keeps {v : Inhibit} (l : List Inhibit) {s : State} (h : v ∈ s.rm.inhibits) :
    v ∈ (inhibitAll l s).rm.inhibits := by
  induction l generalizing s with
  | nil => exact h
  | cons w r ih => exact ih (inhibit_keeps w h)

theorem mem_inhibitAll {v : Inhibit} {l : List Inhibit} (h : v ∈ l) (s : State) : v ∈ (inhibitAll l s).rm.inhibits := by
  induction l generalizing s with
  | nil => exact absurd h List.not_mem_nil
  | cons w r ih =>
    rcases List.mem_cons.mp h with rfl | hr
    · exact inhibitAll_keeps r (inhibit_mem v s)
    · exact ih hr _

/-- Both loops at the currents of the period (R320, R349). -/
def loopsReleased (out : Bank Nat) (b : Bank LoopS) : Bank LoopS :=
  (upto 2).foldl (fun b n => bmod {} b n fun x => { x with uA := bget 0 out n }) b

theorem loopsReleased_uA (out : Bank Nat) (b : Bank LoopS) (n : Fin 2) :
    (bget ({} : LoopS) (loopsReleased out b) n).uA = bget 0 out n := by
  simp only [loopsReleased, show upto 2 = [0, 1] from rfl, List.foldl_cons, List.foldl_nil]
  match n with
  | 0 => rw [bget_bmod_ne _ _ _ (by decide)]; simp only [Fin.val_zero, bget_bmod_self]
  | 1 => simp only [Fin.val_one, bget_bmod_self]

/-- A release raises the inhibits held for it and counts the period's compute time. -/
def coreCounted (compute : Nat) (s : State) : State :=
  modLce (fun l => { l with computeMax := BitVec.ofNat 16 (max l.computeMax.toNat (min compute 65535)) })
    (modLce (fun l => { l with inhOut := [] }) (inhibitAll s.lce.inhOut s))

/-- What the LCE planned for a release takes effect: the loops only in RUN. -/
def coreEffective (s : State) : State :=
  let s := modLce (fun l => { l with vTh := l.vThN, vCh := l.vChN, rel := l.relN }) s
  if s.dev != .run then s else modAdc (fun a => { a with loops := loopsReleased s.lce.outLoop a.loops }) s

/-- A release in the core die. -/
def coreReleased (compute : Nat) (s : State) : State :=
  if (coreCounted compute s).lce.outReady then coreEffective (coreCounted compute s) else coreCounted compute s

/-- The outputs of Calliope at a release that found a frame (R110). -/
def fieldReleased (c : FldS) : FldS :=
  { c with
    duty := if c.bridgeOn then c.dutyNext else 0, htrDuty := c.htrNext, vPred := c.vPredNext, vch := c.vchNext
    bias := c.biasNext, lceMissed := 0, lceSeen := false }

/-- A release of Calliope without a frame: its outputs stay (R112). -/
def frameMissed (c : FldS) : FldS := { c with lceMissed := c.lceMissed + 1 }

theorem exec_lceOutputRelease {s : State} {t : Nat} (compute : Nat) (htick : s.lce.tickNo ≠ 0)
    (hdue : instant s t = s.lce.tickAt + 2 * usU) :
    exec (.lceOutputRelease t compute) s =
      if (coreReleased compute (s.start t)).fld.lceSeen then done (modFld fieldReleased (coreReleased compute (s.start t)))
      else done (if 2 ≤ (coreReleased compute (s.start t)).fld.lceMissed + 1
        then watchdogTrip (modFld frameMissed (coreReleased compute (s.start t)))
        else modFld frameMissed (coreReleased compute (s.start t))) := by
  have hgo : ((s.start t).lce.tickNo = 0 || (s.start t).tb != (s.start t).lce.tickAt + 2 * usU) = false := by
    change (decide (s.lce.tickNo = 0) || instant s t != s.lce.tickAt + 2 * usU) = false
    simp [htick, hdue]
  exact if_neg (Bool.eq_false_iff.mp hgo)

theorem inhibitAll_lce (l : List Inhibit) (s : State) : (inhibitAll l s).lce = s.lce :=
  (inhibitAll_only l s).same .lce (by decide)

theorem coreCounted_only (compute : Nat) (s : State) : Only [.rm, .lce] s (coreCounted compute s) :=
  .step modLce_only (by decide) (.step modLce_only (by decide) ((inhibitAll_only _ s).mono (by decide)))

theorem coreCounted_lce (compute : Nat) (s : State) : (coreCounted compute s).lce = { s.lce with
    inhOut := [], computeMax := BitVec.ofNat 16 (max s.lce.computeMax.toNat (min compute 65535)) } := by
  simp only [coreCounted, modLce_lce, inhibitAll_lce]

theorem coreCounted_inhibits (compute : Nat) {w : Inhibit} {s : State} (h : w ∈ s.lce.inhOut) :
    w ∈ (coreCounted compute s).rm.inhibits := mem_inhibitAll h s

theorem coreEffective_only (s : State) : Only [.lce, .adc] s (coreEffective s) := by
  unfold coreEffective
  extract_lets u
  have hu : Only [.lce, .adc] s u := modLce_only.mono (by decide)
  split
  · exact hu
  · exact .step modAdc_only (by decide) hu

theorem coreEffective_lce (s : State) :
    (coreEffective s).lce = { s.lce with vTh := s.lce.vThN, vCh := s.lce.vChN, rel := s.lce.relN } := by
  unfold coreEffective
  extract_lets u
  split <;> rfl

theorem coreEffective_loops {s : State} (h : s.dev = .run) :
    (coreEffective s).adc.loops = loopsReleased s.lce.outLoop s.adc.loops := by
  unfold coreEffective
  extract_lets u
  rw [if_neg (by rw [show u.dev = .run from h]; decide)]
  rfl

theorem coreEffective_adc {s : State} (h : s.dev ≠ .run) : (coreEffective s).adc = s.adc := by
  unfold coreEffective
  extract_lets u
  rw [if_pos (show (u.dev != .run) = true from bne_iff_ne.mpr h)]
  rfl

theorem coreReleased_of_ready (compute : Nat) {s : State} (h : s.lce.outReady = true) :
    coreReleased compute s = coreEffective (coreCounted compute s) :=
  if_pos (by rw [coreCounted_lce]; exact h)

theorem coreReleased_only (compute : Nat) (s : State) : Only [.rm, .lce, .adc] s (coreReleased compute s) := by
  have hc : Only [.rm, .lce, .adc] s (coreCounted compute s) := (coreCounted_only compute s).mono (by decide)
  unfold coreReleased
  split
  · exact .step (coreEffective_only _) (by decide) hc
  · exact hc

theorem coreReleased_fld (compute : Nat) (s : State) : (coreReleased compute s).fld = s.fld :=
  (coreReleased_only compute s).same .fld (by decide)

/-- What a release of ready outputs does in the core die. -/
structure CoreReleased (compute : Nat) (s u : State) : Prop where
  inhibits : ∀ w ∈ s.lce.inhOut, w ∈ u.rm.inhibits
  computeMax : u.lce.computeMax = BitVec.ofNat 16 (max s.lce.computeMax.toNat (min compute 65535))
  rel : u.lce.rel = s.lce.relN
  loops : s.dev = .run → ∀ n : Fin 2, (bget ({} : LoopS) u.adc.loops n).uA = bget 0 s.lce.outLoop n
  loopsKept : s.dev ≠ .run → u.adc.loops = s.adc.loops
  vTh : u.lce.vTh = s.lce.vThN
  vCh : u.lce.vCh = s.lce.vChN

theorem coreReleased_releases (compute : Nat) {s : State} (hready : s.lce.outReady = true) :
    CoreReleased compute s (coreReleased compute s) := by
  have hcount := coreCounted_lce compute s
  have hdev : (coreCounted compute s).dev = s.dev := (coreCounted_only compute s).same .dev (by decide)
  have hadc : (coreCounted compute s).adc = s.adc := (coreCounted_only compute s).same .adc (by decide)
  have hinh (w) (hw : w ∈ s.lce.inhOut) := coreCounted_inhibits compute hw
  rw [coreReleased_of_ready compute hready]
  generalize coreCounted compute s = v at hcount hdev hadc hinh
  have hrm : (coreEffective v).rm = v.rm := (coreEffective_only v).same .rm (by decide)
  have hlce := coreEffective_lce v
  rw [hcount] at hlce
  refine ⟨fun w hw => ?_, ?_, ?_, fun hrun n => ?_, fun hrun => ?_, ?_, ?_⟩
  · rw [hrm]; exact hinh w hw
  · rw [hlce]
  · rw [hlce]
  · rw [coreEffective_loops (hdev.trans hrun), hcount]; exact loopsReleased_uA ..
  · rw [coreEffective_adc (hdev ▸ hrun), hadc]
  · rw [hlce]
  · rw [hlce]

theorem exec_lceOutputRelease_releases (t compute : Nat) (s : State) (htick : s.lce.tickNo ≠ 0)
    (hdue : instant s t = s.lce.tickAt + 2 * usU) (hready : s.lce.outReady = true) (hseen : s.fld.lceSeen = true) :
    ∃ u, exec (.lceOutputRelease t compute) s = .next u ∧ (∀ w ∈ s.lce.inhOut, w ∈ u.rm.inhibits) ∧
      u.lce.computeMax = BitVec.ofNat 16 (max s.lce.computeMax.toNat (min compute 65535)) ∧
      u.lce.rel = s.lce.relN ∧
      (s.dev = .run → ∀ n : Fin 2, (bget ({} : LoopS) u.adc.loops n).uA = bget 0 s.lce.outLoop n) ∧
      (s.dev ≠ .run → u.adc.loops = s.adc.loops) ∧
      u.fld.vPred = s.fld.vPredNext ∧
      u.lce.vTh = s.lce.vThN ∧
      u.lce.vCh = s.lce.vChN ∧
      u.fld.duty = (if s.fld.bridgeOn then s.fld.dutyNext else 0) ∧
      u.fld.htrDuty = s.fld.htrNext ∧
      u.fld.vch = s.fld.vchNext ∧
      u.fld.bias = s.fld.biasNext ∧
      u.fld.lceMissed = 0 ∧
      u.fld.lceSeen = false ∧
      u.fld.wdgTripped = s.fld.wdgTripped := by
  have hcore : CoreReleased compute (s.start t) (coreReleased compute (s.start t)) := coreReleased_releases compute hready
  have hfld : (coreReleased compute (s.start t)).fld = s.fld := coreReleased_fld ..
  have he := exec_lceOutputRelease compute htick hdue
  rw [if_pos (by rw [hfld]; exact hseen)] at he
  generalize coreReleased compute (s.start t) = v at hcore hfld he
  obtain ⟨hinh, hmax, hrel, hloops, hkept, hth, hch⟩ := hcore
  have hu : (settle (modFld fieldReleased v)).fld = fieldReleased s.fld := congrArg fieldReleased hfld
  refine ⟨settle (modFld fieldReleased v), he, hinh, hmax, hrel, hloops, hkept, ?_⟩
  rw [hu]
  exact ⟨rfl, hth, hch, rfl, rfl, rfl, rfl, rfl, rfl, rfl⟩

theorem exec_lceOutputRelease_missed (t compute : Nat) (s : State) (htick : s.lce.tickNo ≠ 0)
    (hdue : instant s t = s.lce.tickAt + 2 * usU) (hseen : s.fld.lceSeen = false) :
    ∃ u, exec (.lceOutputRelease t compute) s = .next u ∧ u.fld.duty = s.fld.duty ∧
      u.fld.lceMissed = s.fld.lceMissed + 1 ∧
      (1 ≤ s.fld.lceMissed → u.fld.wdgTripped = true) := by
  have hfld : (coreReleased compute (s.start t)).fld = s.fld := coreReleased_fld ..
  have he := exec_lceOutputRelease compute htick hdue
  rw [if_neg (by rw [hfld, hseen]; decide), hfld] at he
  have hv : (modFld frameMissed (coreReleased compute (s.start t))).fld = frameMissed s.fld := congrArg frameMissed hfld
  generalize modFld frameMissed (coreReleased compute (s.start t)) = v at hv he
  by_cases hm : 1 ≤ s.fld.lceMissed
  · rw [if_pos (Nat.succ_le_succ hm)] at he
    have hkept := watchdogTrip_fieldKept v
    have hduty := hkept.eq FldS.duty fun _ _ _ => rfl
    have hmissed := hkept.eq FldS.lceMissed fun _ _ _ => rfl
    rw [modFld_fld, hv] at hduty hmissed
    exact ⟨_, he, hduty, hmissed, fun _ => watchdogTrip_wdgTripped v⟩
  · rw [if_neg (by omega)] at he
    refine ⟨_, he, ?_, ?_, fun h => absurd h hm⟩ <;> rw [settle_fld, hv]
    · rfl
    · rfl

/-! ## LCE_OVERRUN (R290) -/

/-- An overrun counted. -/
def overrunCounted (s : State) : State :=
  modLce (fun l => { l with
    lateTick := false, overrun := satInc l.overrun, overrunRun := l.overrunRun + 1, frameOverrun := true }) s

/-- An overrun counted and logged. -/
def overrunLogged (s : State) : State := logNow 0x1801 noSrc 0 (overrunCounted s)

/-- An LCE fault: firing inhibited, the bridge off in mirror mode 4. -/
def lceFaulted (s : State) : State :=
  mirMode 4 (bridgeOff (inhibit .lceFault (modLce (fun l => { l with
    lceFault := true, restartWait := false, restartFrame := false }) s)))

theorem overrunLogged_lce (s : State) : (overrunLogged s).lce = { s.lce with
    lateTick := false, overrun := satInc s.lce.overrun, overrunRun := s.lce.overrunRun + 1, frameOverrun := true } :=
  logNow_only.same .lce (by decide)

theorem exec_lceOverrun {s : State} {t : Nat} (hlate : s.lce.lateTick = true)
    (hdue : s.lce.tickAt + 1900 * nsU ≤ instant s t) :
    exec (.lceOverrun t) s = if (overrunLogged (s.start t)).lce.overrunRun = 2
      then done (logNow 0x3802 noSrc 0 (safeCause .lceFault (lceFaulted (overrunLogged (s.start t)))))
      else done (overrunLogged (s.start t)) := by
  have hgo : (!(s.start t).lce.lateTick || decide ((s.start t).tb < (s.start t).lce.tickAt + 1900 * nsU)) = false := by
    change (!s.lce.lateTick || decide (instant s t < s.lce.tickAt + 1900 * nsU)) = false
    rw [hlate, decide_eq_false (Nat.not_lt.mpr hdue)]
    rfl
  exact if_neg (Bool.eq_false_iff.mp hgo)

theorem exec_lceOverrun_first (t : Nat) (s : State) (hlate : s.lce.lateTick = true)
    (hdue : s.lce.tickAt + 1900 * nsU ≤ instant s t) (hrun : s.lce.overrunRun = 0) (hroom : LogRoom s 1) :
    ∃ u, exec (.lceOverrun t) s = .next u ∧ u.lce.overrun = satInc s.lce.overrun ∧
      u.lce.overrunRun = 1 ∧
      Logged s u 0x1801 noSrc 0 ∧
      u.dev = s.dev := by
  have he := exec_lceOverrun hlate hdue
  have hl := overrunLogged_lce (s.start t)
  have hone : (overrunLogged (s.start t)).lce.overrunRun = 1 := by rw [hl, start_lce]; exact congrArg (· + 1) hrun
  rw [if_neg (by rw [hone]; decide)] at he
  have hlog : Logged s (settle (overrunLogged (s.start t))) 0x1801 noSrc 0 :=
    logged_settle_logNow (s := overrunCounted (s.start t)) (Nat.lt_of_succ_le hroom)
  refine ⟨_, he, ?_, hone, hlog, logNow_dev ..⟩
  exact congrArg LceS.overrun hl

theorem exec_lceOverrun_second (t : Nat) (s : State) (hlate : s.lce.lateTick = true)
    (hdue : s.lce.tickAt + 1900 * nsU ≤ instant s t) (hrun : s.lce.overrunRun = 1) (hdev : s.dev = .run) :
    ∃ u, exec (.lceOverrun t) s = .next u ∧ u.lce.lceFault = true ∧
      u.lce.mode = 4 ∧
      u.fld.bridgeOn = false ∧
      .lceFault ∈ u.rm.inhibits ∧
      u.dev = .safe := by
  have he := exec_lceOverrun hlate hdue
  have htwo : (overrunLogged (s.start t)).lce.overrunRun = 2 := by
    rw [overrunLogged_lce, start_lce]; exact congrArg (· + 1) hrun
  rw [if_pos htwo] at he
  have hrun1 : (overrunLogged (s.start t)).dev = .run := (logNow_dev ..).trans hdev
  generalize overrunLogged (s.start t) = s1 at he hrun1
  have hmem : .lceFault ∈ (lceFaulted s1).rm.inhibits := inhibit_mem .lceFault _
  have hlce : (lceFaulted s1).lce.lceFault = true ∧ (lceFaulted s1).lce.mode = 4 := ⟨rfl, rfl⟩
  have hoff : (lceFaulted s1).fld.bridgeOn = false := rfl
  have hrun2 : (lceFaulted s1).dev = .run := hrun1
  generalize lceFaulted s1 = s2 at *
  have hlce3 : (logNow 0x3802 noSrc 0 (safeCause .lceFault s2)).lce = s2.lce :=
    (logNow_only.same .lce (by decide)).trans (safeCause_lce ..)
  have hfld3 : FieldKept s2 (logNow 0x3802 noSrc 0 (safeCause .lceFault s2)) :=
    (safeCause_fieldKept .lceFault s2).trans (.of_fld (logNow_fld ..))
  refine ⟨_, he, ?_, ?_, ?_, ?_, ?_⟩
  · exact (congrArg LceS.lceFault hlce3).trans hlce.1
  · exact (congrArg LceS.mode hlce3).trans hlce.2
  · exact (hfld3.eq FldS.bridgeOn fun _ _ _ => rfl).trans hoff
  · rw [settle_inhibits, logNow_rm, safeCause_inhibits]; exact hmem
  · exact (logNow_dev ..).trans (safeCause_dev_run hrun2)

/-! ## COIL_RESISTANCE_ESTIMATE (R304) and INJECTION_COMPLETE (R316) -/

/-- The coil's excess resistance over its rise per 0.1 °C, from the sums of a period of 1 ms (R304). -/
def coilRatio (s : State) : Int × Int :=
  quot ((1000 * (s.lce.coilVsum * 32768) - s.lce.coilIsum * 3000 * parN s 0x2441 0) * 1000000)
    (393 * (s.lce.coilIsum * 3000) * parN s 0x2441 0)

/-- The sums of the coil estimate begin again. -/
def coilSumsCleared (s : State) : State := modLce (fun l => { l with coilVsum := 0, coilIsum := 0, coilN := 0 }) s

theorem exec_coilResistanceEstimate {s : State} (t : Nat) (hfull : 250 ≤ s.lce.coilN) :
    exec (.coilResistanceEstimate t) s =
      if 100 * 32768 * s.lce.coilN < (s.lce.coilIsum * 3000).natAbs then
        done (modLce (fun l => { l with coilT := clampI (-32768) 32767 (250 + rdiv (coilRatio s).1 (coilRatio s).2) })
          (coilSumsCleared (s.start t)))
      else done (coilSumsCleared (s.start t)) :=
  if_neg (Nat.not_lt.mpr hfull)

theorem exec_coilResistanceEstimate_holds (t : Nat) (s : State) (hfull : 250 ≤ s.lce.coilN)
    (hlow : (s.lce.coilIsum * 3000).natAbs ≤ 100 * 32768 * s.lce.coilN) :
    ∃ u, exec (.coilResistanceEstimate t) s = .next u ∧ u.lce.coilT = s.lce.coilT ∧
      u.lce.coilN = 0 ∧
      u.lce.coilVsum = 0 ∧ u.lce.coilIsum = 0 := by
  have he := exec_coilResistanceEstimate t hfull
  rw [if_neg (Nat.not_lt.mpr hlow)] at he
  exact ⟨_, he, rfl, rfl, rfl, rfl⟩

theorem exec_coilResistanceEstimate_estimates (t : Nat) (s : State) (hfull : 250 ≤ s.lce.coilN)
    (hhigh : 100 * 32768 * s.lce.coilN < (s.lce.coilIsum * 3000).natAbs) :
    ∃ u, exec (.coilResistanceEstimate t) s = .next u ∧
      u.lce.coilT = clampI (-32768) 32767 (250 + rdiv (coilRatio s).1 (coilRatio s).2) := by
  have he := exec_coilResistanceEstimate t hfull
  rw [if_pos hhigh] at he
  exact ⟨_, he, rfl⟩

theorem exec_injectionComplete_ends (t : Nat) (s : State) (hrun : s.lce.injRun = true)
    (hlen : parN s 0x4037 0 ≤ s.lce.injK) :
    ∃ u, exec (.injectionComplete t) s = .next u ∧ u.lce.injRun = false ∧
      u.lce.injStatus = 2 ∧
      (∀ p ∈ u.lce.laws, p.2.inj = 0) ∧
      u.lce.injWait = false := by
  have hgo : ((s.start t).lce.injRun && decide (parN (s.start t) 0x4037 0 ≤ (s.start t).lce.injK)) = true := by
    change (s.lce.injRun && decide (parN s 0x4037 0 ≤ s.lce.injK)) = true
    rw [hrun, decide_eq_true hlen]
    rfl
  have hend : ((s.start t).lce.injRun || (s.start t).lce.injWait) = true := by
    rw [start_lce, hrun]; rfl
  have he : exec (.injectionComplete t) s = done (injEnd 2 (s.start t)) := if_pos hgo
  rw [injEnd, if_pos hend] at he
  refine ⟨_, he, rfl, rfl, fun p hp => ?_, rfl⟩
  obtain ⟨q, -, rfl⟩ := List.mem_map.mp hp
  rfl

/-- Settles O29: the sample tick latches its instant, which no law moves, and sends its frames; a release, an overrun, the
coil estimate and the end of an injection each by the equation of its command. -/
theorem lceTick : Obligations.LceTick :=
  ⟨exec_lceSampleTick_ticks, exec_lceOutputRelease_releases, exec_lceOutputRelease_missed, exec_lceOverrun_first,
    exec_lceOverrun_second, exec_coilResistanceEstimate_holds, exec_coilResistanceEstimate_estimates,
    exec_injectionComplete_ends⟩

end Sys2Proof.Lce
end

section
/-!
Accepted writes: an accepted WRITE of a write-only entry has its effect, leaves a dictionary record and is answered, and what was
put out before stands (R15, R478, R545 to R550).
-/
namespace Sys2Proof.Served

open Sys2Proof Sys2Proof.Machine

/-! ## What is put out stays put out

No operation between a response and its transport takes back what the command has put out. -/

/-- What was put out is still put out. -/
structure OutKept (s u : State) : Prop where
  mem : ∀ o ∈ s.out, o ∈ u.out

theorem OutKept.of_append {s u : State} {l : List Out} (h : u.out = s.out ++ l) : OutKept s u :=
  ⟨fun o ho => by rw [h]; exact List.mem_append_left l ho⟩

theorem OutKept.of_out {s u : State} (h : u.out = s.out) : OutKept s u := .of_append (l := []) (by rw [h, List.append_nil])

theorem OutKept.refl (s : State) : OutKept s s := .of_out rfl

theorem OutKept.trans {s t u : State} (h : OutKept s t) (g : OutKept t u) : OutKept s u :=
  ⟨fun o ho => g.mem o (h.mem o ho)⟩

/-- Before an operation that keeps what was put out, nothing is taken back by an update of another part. -/
theorem OutKept.after {s t u : State} (h : OutKept t u) (ht : t.out = s.out) : OutKept s u := (OutKept.of_out ht).trans h

theorem OutKept.foldl {α : Type} {f : State → α → State} (h : ∀ s x, OutKept s (f s x)) (l : List α) (s : State) :
    OutKept s (l.foldl f s) := by
  induction l generalizing s with
  | nil => exact .refl s
  | cons x r ih => exact (h s x).trans (ih _)

theorem emit_outKept (o : Out) (s : State) : OutKept s (emit o s) := .of_append rfl

theorem slkDrain_outKept (fuel n : Nat) (s : State) : OutKept s (slkDrain fuel n s) := by
  induction fuel generalizing s with
  | zero => exact .refl s
  | succ fuel ih =>
    unfold slkDrain
    extract_lets l
    split
    · exact .refl s
    · split
      · split
        · exact .refl s
        · exact .trans (.of_append rfl) (ih _)
      · split
        · exact .trans (.of_append rfl) (ih _)
        · exact .refl s

theorem slkQueue_outKept (n ty : Nat) (pl : List Byte) (s : State) : OutKept s (slkQueue n ty pl s) := by
  unfold slkQueue
  split
  · exact (slkDrain_outKept ..).after rfl
  · exact .refl s

theorem slkRespond_outKept (n fuel : Nat) (first : Bool) (m : List Byte) (s : State) :
    OutKept s (slkRespond n fuel first m s) := by
  induction fuel generalizing first m s with
  | zero => exact .refl s
  | succ fuel ih =>
    unfold slkRespond
    extract_lets rest u
    have hu : OutKept s u := slkQueue_outKept ..
    split
    · exact hu
    · exact hu.trans (ih ..)

theorem canPump_outKept (fuel k : Nat) (s : State) : OutKept s (canPump fuel k s) := by
  induction fuel generalizing s with
  | zero => exact .refl s
  | succ fuel ih =>
    unfold canPump
    extract_lets c
    split
    · exact .refl s
    · split
      · exact .refl s
      · exact .trans (.of_append rfl) (ih _)

theorem canQueue_outKept (k : Nat) (safety : Bool) (id : Nat) (d : List Byte) (s : State) :
    OutKept s (canQueue k safety id d s) := by
  unfold canQueue
  extract_lets c u
  split
  · exact .refl s
  · have hrun : OutKept s (canRun k s) := canPump_outKept ..
    have hu : OutKept (canRun k s) u := .of_out rfl
    exact (hrun.trans hu).trans (canPump_outKept ..)

theorem canTx_outKept (fuel : Nat) (s : State) : OutKept s (canTx fuel s) := by
  induction fuel generalizing s with
  | zero => exact .refl s
  | succ fuel ih =>
    unfold canTx
    extract_lets e c u rest wait v
    have hu : OutKept s u := canQueue_outKept ..
    have hv : OutKept s v := hu.trans (.of_out rfl)
    split
    · exact .of_out rfl
    · split
      · exact hv
      · exact hv.trans (ih v)

theorem canRespond_outKept (m : List Byte) (s : State) : OutKept s (canRespond m s) := by
  unfold canRespond
  split
  · exact canQueue_outKept ..
  · extract_lets u
    have hu : OutKept s u := canQueue_outKept ..
    exact hu.trans ((canTx_outKept ..).after rfl)

theorem hostMsix_outKept (f v : Nat) (s : State) : OutKept s (hostMsix f v s) := by
  unfold hostMsix
  split
  · exact .of_out rfl
  · split
    · exact .of_out rfl
    · exact emit_outKept ..

theorem slinkFire_outKept (g count : Nat) (s : State) : OutKept s (slinkFire g count s) := by
  unfold slinkFire
  extract_lets evs lanes pl m u
  split
  · exact .refl s
  · have hu : OutKept s u := .of_out rfl
    refine hu.trans (.foldl (fun s n => ?_) lanes u)
    exact (slkQueue_outKept ..).after rfl

theorem groupFire_outKept (g : Nat) (s : State) : OutKept s (groupFire g s) := by
  unfold groupFire
  extract_lets c u v
  have hv : OutKept s v := .of_out rfl
  refine hv.trans ?_
  split
  · split
    · exact hostMsix_outKept ..
    · exact .refl v
  · split
    · exact slinkFire_outKept ..
    · exact .refl v
  · exact emit_outKept ..

theorem countEvent_outKept (n : Nat) (s : State) : OutKept s (countEvent n s) := by
  unfold countEvent
  extract_lets g u v
  have hv : OutKept s v := .of_out rfl
  split
  · exact hv.trans (groupFire_outKept g v)
  · exact hv

theorem wakeRequest_outKept (n : Nat) (s : State) : OutKept s (wakeRequest n s) := by
  unfold wakeRequest
  split
  · exact .of_append rfl
  · refine .foldl (fun s l => ?_) (upto 8) s
    split
    · exact (slkDrain_outKept ..).after rfl
    · exact .refl s
  · exact .refl s

theorem arbitrate_outKept (s : State) (n : Nat) : OutKept s (arbitrate s n) := by
  unfold arbitrate
  split
  · split
    · extract_lets u
      have hu : OutKept s u := .of_out (by subst u; split <;> rfl)
      refine hu.trans ?_
      split
      · exact (wakeRequest_outKept ..).after rfl
      · exact .refl u
    · split
      · exact .refl s
      · exact (groupFire_outKept ..).after rfl
  · exact .refl s

theorem setPending_outKept (n : Nat) (s : State) : OutKept s (setPending n s) := by
  unfold setPending
  extract_lets u
  have hu : OutKept s u := .of_out rfl
  split
  · exact hu
  · exact hu.trans ((countEvent_outKept n u).trans (arbitrate_outKept ..))

theorem eicEdge_outKept (n : Nat) (s : State) : OutKept s (eicEdge n s) := by
  unfold eicEdge
  split
  · exact .of_out rfl
  · split
    · exact .refl s
    · split
      · exact setPending_outKept n s
      · exact .refl s

theorem mbxRespond_outKept (m : List Byte) (s : State) : OutKept s (mbxRespond m s) := by
  unfold mbxRespond mbxPlace
  extract_lets d rest
  exact (eicEdge_outKept ..).after rfl

/-- A response is put out, whatever its transport. -/
theorem respond_emits (ep : Nat) (m : List Byte) (s : State) : .xiest ep m ∈ (respond ep m s).out := by
  unfold respond
  extract_lets u
  have hu : .xiest ep m ∈ u.out := List.mem_concat_self
  split
  · exact (canRespond_outKept m u).mem _ hu
  · split
    · exact (mbxRespond_outKept m u).mem _ hu
    · exact (slkRespond_outKept ..).mem _ hu

/-! ## Accepted writes -/

/-- A write-only entry's accepted WRITE has its effect and leaves a dictionary record. -/
theorem xiWrite_writeOnly {ep : Nat} {r : Req} {s v : State} {row : DRow} (hst : writeStatus ep r.num r.sub r.val s = 0)
    (hrow : dictFind r.num r.sub = some row) (hacc : row.acc = .wo)
    (heffect : woWrite ep r.num r.sub r.val s = rspOk v) :
    xiWrite ep r s = rspOk (dictRecord (dkey r.num r.sub) (decVal row.ty r.val) (transportOf ep) v) := by
  simp only [xiWrite, hst, hrow, hacc, heffect, rspOk]
  rfl

/-- A WRITE whose response waits for nothing has its effect, is remembered and is answered with status 0. -/
theorem serveWrite_accepted {ep num sub : Nat} {tag : Byte} {val : List Byte} {s v : State}
    (hserves : Serves s ep (wreq tag num sub val)) (hwrite : xiWrite ep (wreq tag num sub val) s = rspOk v)
    (hwait : waitsFor (wreq tag num sub val) 0 = none) :
    serveWrite ep tag num sub val s = respond ep (rspMsg (wreq tag num sub val) 0 [])
      (remember ep (wreq tag num sub val) (rspMsg (wreq tag num sub val) 0 []) v) := by
  obtain ⟨hdel, hboot, hopen, hrep⟩ := hserves
  have hexec : xiExec ep (wreq tag num sub val) s = rspOk v := hwrite
  have hgood : (!(wreq tag num sub val).good) = false := rfl
  have hnoSession : (!(sessOf s ep).open_ && (wreq tag num sub val).op != 0x01) = false := by rw [hopen]; rfl
  unfold serveWrite serve
  rw [hdel, if_neg (by decide), hgood, if_neg (by decide), if_neg (by simpa using hboot), hrep, if_neg (by decide),
    hnoSession, if_neg (by decide)]
  extract_lets ver x m u
  have hx : x = rspOk v := hexec
  have hu : u = v := congrArg (·.2.2) hx
  have hm : m = rspMsg (wreq tag num sub val) 0 [] := by simp only [m, hx, rspOk]
  have hw : waitsFor (wreq tag num sub val) x.1 = none := by rw [hx]; exact hwait
  rw [hw, hu, hm]

end Sys2Proof.Served
end

section
/-!
Results on their way: what the point formatter's results and a channel's account of given results keep, what delivering, holding
and releasing a result does, and what is left of them by the rings (R162, R182, R251 to R262, R526).
-/
namespace Sys2Proof.Results

open Sys2Proof Sys2Proof.Machine Sys2Proof.Stamps

/-! ## The point formatter's results -/

theorem mem_insertBy {α : Type} (key : α → Int) (x : α) (l : List α) : x ∈ insertBy key x l := by
  induction l with
  | nil => exact List.mem_singleton_self x
  | cons y r ih =>
    unfold insertBy
    split
    · exact List.mem_cons_self
    · exact List.mem_cons_of_mem y ih

/-- A result added to the point formatter is there with its records, its close and its mark of a replay. -/
theorem addResult_mem (r : ResE) (s : State) :
    ∃ x ∈ (addResult r s).pt.results, x.recs = r.recs ∧ x.closeAt = r.closeAt ∧ x.replayed = r.replayed := by
  unfold addResult
  extract_lets w last l
  by_cases h : w.replayed = true
  · exact ⟨{ w with order := last }, by simp [l, h], rfl, rfl, rfl⟩
  · exact ⟨w, by simp only [modPt_pt, l, if_neg h]; exact mem_insertBy .., rfl, rfl, rfl⟩

/-- The first result is the only one. -/
theorem addResult_recs_of_empty (r : ResE) {s : State} (h : s.pt.results = []) :
    (addResult r s).pt.results.map (·.recs) = [r.recs] := by
  unfold addResult
  extract_lets w last l
  change l.map (·.recs) = _
  by_cases hw : w.replayed = true
  · rw [show l = [{ w with order := last }] by simp only [l, if_pos hw, h, List.nil_append]]; rfl
  · rw [show l = [w] by simp only [l, if_neg hw, h, insertBy]]; rfl

theorem addResult_zoomed (r : ResE) (s : State) : (addResult r s).pt.zoomed = s.pt.zoomed := rfl

theorem deliver_mem (u : ShUnit) (h : RecHead) {recs : List Rec} (closeAt : Nat) (s : State) (hrecs : recs ≠ []) :
    ∃ r ∈ (deliver u h recs closeAt s).pt.results, r.recs = recs ∧ r.closeAt = closeAt ∧ r.replayed = h.replayed := by
  rw [deliver, if_neg (by simpa using hrecs)]
  exact addResult_mem (resultOf s u h recs closeAt) s

theorem holdZoomed_results (u : ShUnit) (h : RecHead) (recs : List Rec) (s : State) :
    (holdZoomed u h recs s).pt.results = s.pt.results := by
  unfold holdZoomed
  split <;> rfl

theorem holdZoomed_mem (u : ShUnit) (h : RecHead) {recs : List Rec} (s : State) (hrecs : recs ≠ []) :
    (engineOf s (h.chan / 16), resultOf s u h recs 0) ∈ (holdZoomed u h recs s).pt.zoomed := by
  rw [holdZoomed, if_neg (by simpa using hrecs)]
  exact List.mem_concat_self

/-! ## The rings leave the results

A ring's items are written, held or lost, which counts in the point formatter but moves none of its results. -/

/-- The results that wait for forming or for a test of their engine are the same. -/
structure ResultsKept (s u : State) : Prop where
  results : u.pt.results = s.pt.results
  zoomed : u.pt.zoomed = s.pt.zoomed

theorem ResultsKept.of_pt {s u : State} (h : u.pt = s.pt) : ResultsKept s u := ⟨by rw [h], by rw [h]⟩

theorem ResultsKept.refl (s : State) : ResultsKept s s := ⟨rfl, rfl⟩

theorem ResultsKept.trans {s t u : State} (h : ResultsKept s t) (g : ResultsKept t u) : ResultsKept s u :=
  ⟨g.results.trans h.results, g.zoomed.trans h.zoomed⟩

theorem modRing_resultsKept (n : Nat) (f : RingS → RingS) (s : State) : ResultsKept s (modRing n f s) := ⟨rfl, rfl⟩

theorem ringKick_resultsKept (n : Nat) (s : State) : ResultsKept s (ringKick n s) := by
  unfold ringKick
  extract_lets r
  split <;> exact ⟨rfl, rfl⟩

theorem ringComplete_resultsKept (n : Nat) (s : State) : ResultsKept s (ringComplete n s) := by
  unfold ringComplete
  extract_lets r
  split <;> exact ⟨rfl, rfl⟩

theorem itemWritten_resultsKept (n : Nat) (it : WItem) (s : State) : ResultsKept s (itemWritten n it s) := by
  unfold itemWritten
  extract_lets u v
  have hu : ResultsKept s u := by subst u; split <;> exact ⟨rfl, rfl⟩
  have hv : ResultsKept u v := by subst v; split <;> exact ⟨rfl, rfl⟩
  split
  · exact hu.trans hv
  · exact (hu.trans hv).trans ⟨rfl, rfl⟩

theorem ringWriteBack_resultsKept (n : Nat) (s : State) : ResultsKept s (ringWriteBack n s) := by
  unfold ringWriteBack
  extract_lets u r
  have hu : ResultsKept s u := ⟨rfl, rfl⟩
  exact hu.trans (.of_pt (eicEdge_only.same .pt (by decide)))

theorem ringPut_resultsKept (n : Nat) (b : Buf) (it : WItem) (k : Nat) (s : State) : ResultsKept s (ringPut n b it k s) :=
  ⟨rfl, rfl⟩

theorem ringFlush_resultsKept (n : Nat) (s : State) : ResultsKept s (ringFlush n s) := by
  unfold ringFlush
  split
  · exact ringWriteBack_resultsKept ..
  · exact .refl s

theorem ringDrain_resultsKept (n : Nat) (l : List WItem) (s : State) : ResultsKept s (ringDrain n l s) := by
  induction l generalizing s with
  | nil => exact ⟨rfl, rfl⟩
  | cons it rest ih =>
    unfold ringDrain
    split
    next =>
      extract_lets full u
      have hu : ResultsKept s u := by
        subst u
        split
        · exact ringFlush_resultsKept ..
        · exact .refl s
      exact hu.trans ((modRing_resultsKept ..).trans (ringKick_resultsKept ..))
    next b _ =>
      extract_lets room u v w
      have hu : ResultsKept s u := (ringPut_resultsKept ..).trans (itemWritten_resultsKept ..)
      have hv : ResultsKept u v := by
        subst v
        split
        · exact ringComplete_resultsKept ..
        · exact .refl u
      split
      · refine (hu.trans hv).trans (.trans ?_ (ih _))
        split
        · exact ⟨rfl, rfl⟩
        · exact ringWriteBack_resultsKept ..
      · have hw : ResultsKept s w := (ringPut_resultsKept ..).trans (ringComplete_resultsKept ..)
        exact hw.trans ((modRing_resultsKept ..).trans (ringKick_resultsKept ..))

theorem ringItemOf_resultsKept (n : Nat) (it : WItem) (s : State) : ResultsKept s (ringItemOf n it s) := by
  unfold ringItemOf
  extract_lets w u
  split
  · split
    · exact .trans (t := u) ⟨rfl, rfl⟩ (.of_pt (linkDown_only.same .pt (by decide)))
    · exact ⟨rfl, rfl⟩
  · exact ringDrain_resultsKept ..

theorem ringSend_resultsKept (n : Nat) (d : List Byte) (s : State) : ResultsKept s (ringSend n d s) := by
  unfold ringSend
  extract_lets r
  split
  · exact ringItemOf_resultsKept ..
  · split <;> exact ⟨rfl, rfl⟩

theorem snapshotGo_resultsKept (u : ShUnit) (c : Nat) (peaks : List (Int × Nat)) (s : State) :
    ResultsKept s (snapshotGo u c peaks s) := by
  unfold snapshotGo
  extract_lets b v n
  exact .trans (t := v) ⟨rfl, rfl⟩ (ringSend_resultsKept ..)

theorem sendSnapshot_resultsKept (u : ShUnit) (c : Nat) (zoom : Bool) (s : State) :
    ResultsKept s (sendSnapshot u c zoom s) := by
  unfold sendSnapshot
  extract_lets v
  have hv : ResultsKept s v := ⟨rfl, rfl⟩
  split
  · split
    · exact hv.trans ⟨rfl, rfl⟩
    · exact hv.trans (snapshotGo_resultsKept ..)
  · exact .refl s

/-! ## The account of given results (R181) -/

/-- Every channel's account of the shot whose result it gave last is the same. -/
structure DoneKept (s u : State) : Prop where
  doneAt : ∀ c, (chanOf u c).doneAt = (chanOf s c).doneAt

theorem DoneKept.of_chan {s u : State} (h : u.chan = s.chan) : DoneKept s u := ⟨fun c => by rw [chanOf_of_chan h]⟩

theorem DoneKept.refl (s : State) : DoneKept s s := ⟨fun _ => rfl⟩

theorem DoneKept.trans {s t u : State} (h : DoneKept s t) (g : DoneKept t u) : DoneKept s u :=
  ⟨fun c => (g.doneAt c).trans (h.doneAt c)⟩

theorem DoneKept.foldl {α : Type} {f : State → α → State} (h : ∀ s x, DoneKept s (f s x)) (l : List α) (s : State) :
    DoneKept s (l.foldl f s) := by
  induction l generalizing s with
  | nil => exact .refl s
  | cons x r ih => exact (h s x).trans (ih _)

theorem modChan_doneKept {c : Nat} {f : ChanS → ChanS} {s : State} (hf : ∀ x, (f x).doneAt = x.doneAt) :
    DoneKept s (modChan c f s) :=
  ⟨fun k => by
    by_cases hk : k = c
    · rw [hk, chanOf_modChan, hf]
    · rw [chanOf_modChan_ne f s hk]⟩

theorem countFrame_doneKept (u : ShUnit) (h : RecHead) (es : List CEcho) (recs : List Rec) (supp : Nat) (s : State) :
    DoneKept s (countFrame u h es recs supp s) := by
  unfold countFrame
  split
  · exact .refl s
  · extract_lets +onlyGivenNames v w x dist near
    have hv : DoneKept s v := .of_chan rfl
    have hw : DoneKept v w := by
      subst w
      split
      · exact modChan_doneKept fun _ => rfl
      · exact .refl v
    have hx : DoneKept w x := by
      subst x
      split
      · extract_lets k
        split
        · exact .refl w
        · exact .of_chan rfl
      · exact .refl w
    have hcount : DoneKept s x := hv.trans (hw.trans hx)
    split
    · exact hcount
    · exact hcount.trans (modChan_doneKept fun _ => rfl)

theorem tailTakeBack_doneKept (u : ShUnit) (c : Nat) (now : Bool) (supp : List (Nat × Nat)) (s : State) :
    DoneKept s (tailTakeBack u c now supp s) := by
  unfold tailTakeBack
  extract_lets us sh a n
  refine .foldl (fun s p => ?_) ..
  split
  · exact .refl s
  · exact modChan_doneKept fun _ => rfl

theorem modCal_doneAt (hist : Bool) (f : CalM → CalM) (x : ChanS) : (modCal hist f x).doneAt = x.doneAt := by
  unfold modCal
  split <;> rfl

theorem countResult_doneKept (u : ShUnit) (h : RecHead) (all es : List CEcho) (recs : List Rec) (supp : Nat) (s : State) :
    DoneKept s (countResult u h all es recs supp s) := by
  unfold countResult
  split
  · exact .refl s
  · extract_lets +onlyGivenNames v now supp' w x y
    have hv : DoneKept s v := (countFrame_doneKept ..).trans
      (.foldl (fun _ _ => .of_chan (zoneTake_only.same .chan (by decide))) ..)
    have hw : DoneKept v w := by
      subst w
      split
      · exact modChan_doneKept fun _ => rfl
      · exact .refl v
    have hx : DoneKept w x := by
      subst x
      split
      · exact tailTakeBack_doneKept ..
      · exact .refl w
    have hy : DoneKept x y := .of_chan (addPulses_only.same .chan (by decide))
    refine (hv.trans (hw.trans (hx.trans hy))).trans (.foldl (fun s e => ?_) ..)
    extract_lets err z
    have hz : DoneKept s z := by
      subst z
      split
      · exact modChan_doneKept fun _ => modCal_doneAt ..
      · exact .refl s
    split
    · exact hz
    · exact hz.trans (.of_chan (maskSample_only.same .chan (by decide)))

theorem snapshotGo_doneKept (u : ShUnit) (c : Nat) (peaks : List (Int × Nat)) (s : State) :
    DoneKept s (snapshotGo u c peaks s) := by
  unfold snapshotGo
  extract_lets b v n
  have hv : DoneKept s v := modChan_doneKept fun _ => rfl
  exact hv.trans (.of_chan (ringSend_only.same .chan (by decide)))

theorem sendSnapshot_doneKept (u : ShUnit) (c : Nat) (zoom : Bool) (s : State) : DoneKept s (sendSnapshot u c zoom s) := by
  unfold sendSnapshot
  extract_lets v
  have hv : DoneKept s v := .of_chan rfl
  split
  · split
    · exact hv.trans (modChan_doneKept fun _ => rfl)
    · exact hv.trans (snapshotGo_doneKept ..)
  · exact .refl s

/-! ## A result is given (R182, R199, R212) -/

/-- Of the echo engines only the shadow buffer changed. -/
structure ShadowOnly (s u : State) : Prop where
  ee : u.ee = { s.ee with shadow := u.ee.shadow }

theorem ShadowOnly.of_ee {s u : State} (h : u.ee = s.ee) : ShadowOnly s u := ⟨by rw [h]⟩

theorem ShadowOnly.refl (s : State) : ShadowOnly s s := ⟨rfl⟩

theorem ShadowOnly.trans {s t u : State} (h : ShadowOnly s t) (g : ShadowOnly t u) : ShadowOnly s u :=
  ⟨by rw [g.ee, h.ee]⟩

theorem ShadowOnly.foldl {α : Type} {f : State → α → State} (h : ∀ s x, ShadowOnly s (f s x)) (l : List α) (s : State) :
    ShadowOnly s (l.foldl f s) := by
  induction l generalizing s with
  | nil => exact .refl s
  | cons x r ih => exact (h s x).trans (ih _)

/-- A channel's result of a unit is given; the last one of a shot merges its pulses. -/
def resultMarked (u : ShUnit) (c : Nat) (s : State) : State := shotDone u (markDone u c s)

theorem resultMarked_only (u : ShUnit) (c : Nat) (s : State) : Only [.chan, .ee, .rj] s (resultMarked u c s) :=
  .step shotDone_only (by decide) (markDone_only.mono (by decide))

theorem resultMarked_doneAt (u : ShUnit) (c : Nat) (s : State) :
    (chanOf (resultMarked u c s) c).doneAt = max (chanOf s c).doneAt (u.tStart + 1) := by
  rw [resultMarked, chanOf_of_chan (shotDone_only.same .chan (by decide)), markDone, chanOf_modChan]
  rfl

theorem resultMarked_shadowOnly (u : ShUnit) (c : Nat) (s : State) : ShadowOnly s (resultMarked u c s) :=
  .trans (t := markDone u c s) ⟨rfl⟩ (.of_ee (shotDone_only.same .ee (by decide)))

/-- With a set of fields in force a result reaches the field evaluator. -/
theorem toFields_mem (u : ShUnit) (c : Nat) (az : Int) (valid : Bool) (shots : List Int) (es : List CEcho) {s : State}
    (hset : s.saf.setNo ≠ 0) :
    ∃ q ∈ (toFields u c az valid shots es s).fe.queue, q.chan = Fin.ofNat 256 c ∧ q.az = az ∧ q.valid = valid := by
  unfold toFields
  extract_lets sh
  rw [if_neg hset]
  exact ⟨_, List.mem_concat_self, rfl, rfl, rfl⟩

end Sys2Proof.Results
end

section
/-!
Echo results: a channel-shot in echo mode, a group in histogram mode and its zoom pass, the snapshot and the gates of foreign
trains, each from what its command's parts keep (R165 to R179, R189, R199 to R202, R254).
-/
namespace Sys2Proof.Echo

open Sys2Proof Sys2Proof.Machine Sys2Proof.Stamps Sys2Proof.Served Sys2Proof.Results

/-! ## The unit that is due (R181, R189) -/

/-- Channel c owes the result of a unit. -/
def owes (s : State) (c : Nat) (x : ShUnit) : Prop := (chanOf s c).doneAt < x.tStart + 1

theorem owes_of_find {s : State} {c : Nat} {x : ShUnit} {l : List ShUnit}
    (h : l.find? (fun y => rxEnabled s c && decide ((chanOf s c).doneAt < y.tStart + 1)) = some x) : owes s c x := by
  have hx := List.find?_some h
  simp only [Bool.and_eq_true, decide_eq_true_eq] at hx
  exact hx.2

theorem owes_of_unitDue {s : State} {c : Nat} {x : ShUnit} (h : unitDue s c = some x) : owes s c x := by
  simp only [unitDue] at h
  split at h
  · have hx := List.find?_some h
    simp only [Bool.and_eq_true, decide_eq_true_eq] at hx
    exact hx.2.2
  · split at h
    · split at h
      next howed =>
        cases h
        simp only [Bool.and_eq_true, decide_eq_true_eq] at howed
        exact howed.2
      · cases h
    · cases h

theorem owes_of_unitReady {s : State} {c : Nat} {x : ShUnit} (h : unitReady s c = some x) : owes s c x := by
  refine owes_of_unitDue (s := s) (c := c) (x := x) ?_
  unfold unitReady at h
  split at h
  next y hy =>
    split at h
    · cases h
    · exact hy.trans h
  · cases h

theorem max_doneAt_of_owes {s : State} {c : Nat} {x : ShUnit} (h : owes s c x) :
    max (chanOf s c).doneAt (x.tStart + 1) = x.tStart + 1 := Nat.max_eq_right (Nat.le_of_lt h)

/-! ## A channel-shot in echo mode (R165 to R171, R210 to R217) -/

/-- The records of a channel-shot in echo mode. -/
def echoRecords (s : State) (u : ShUnit) (c : Nat) (replayed : Bool) : List Rec :=
  (recordsOf (unitState s u) (headOf u c replayed) (cutFlyback u (echoesOf s u c))).1

/-- A channel-shot in echo mode is counted, and a live one leaves its pulses for the support test. -/
def shotCounted (u : ShUnit) (c : Nat) (replayed : Bool) (s : State) : State :=
  let v := countResult u (headOf u c replayed) (echoesOf s u c) (cutFlyback u (echoesOf s u c))
    (echoRecords s u c replayed)
    (recordsOf (unitState s u) (headOf u c replayed) (cutFlyback u (echoesOf s u c))).2 s
  if replayed then v else modChan c (fun x => { x with pulses := (unitRanges v u).getD (c % 8) [] }) v

/-- A channel-shot in echo mode with its records delivered. -/
def shotDelivered (u : ShUnit) (c : Nat) (replayed : Bool) (s : State) : State :=
  deliver u (headOf u c replayed) (echoRecords s u c replayed) (closeOf u + 1) (shotCounted u c replayed s)

theorem echoShot_eq (u : ShUnit) (c : Nat) (replayed : Bool) (s : State) :
    echoShot u c replayed s = toFields u c u.az true (goodShots [u]) (cutFlyback u (echoesOf s u c))
      (resultMarked u c (shotDelivered u c replayed s)) := rfl

theorem shotCounted_doneKept (u : ShUnit) (c : Nat) (replayed : Bool) (s : State) :
    DoneKept s (shotCounted u c replayed s) := by
  unfold shotCounted
  extract_lets v
  have hv : DoneKept s v := countResult_doneKept ..
  split
  · exact hv
  · exact hv.trans (modChan_doneKept fun _ => rfl)

theorem shotCounted_only (u : ShUnit) (c : Nat) (replayed : Bool) (s : State) :
    Only [.rm, .chan, .rj, .pt, .car, .eic, .log, .pci, .slk, .out] s (shotCounted u c replayed s) := by
  unfold shotCounted
  extract_lets v
  split
  · exact countResult_only
  · exact .step modChan_only (by decide) countResult_only

theorem shotDelivered_only (u : ShUnit) (c : Nat) (replayed : Bool) (s : State) :
    Only [.rm, .chan, .rj, .pt, .car, .eic, .log, .pci, .slk, .out] s (shotDelivered u c replayed s) :=
  .step deliver_only (by decide) (shotCounted_only ..)

theorem echoShot_doneAt (u : ShUnit) (c : Nat) (replayed : Bool) (s : State) :
    (chanOf (echoShot u c replayed s) c).doneAt = max (chanOf s c).doneAt (u.tStart + 1) := by
  have hdel : DoneKept s (shotDelivered u c replayed s) :=
    (shotCounted_doneKept ..).trans (.of_chan (deliver_only.same .chan (by decide)))
  rw [echoShot_eq, chanOf_of_chan (toFields_only.same .chan (by decide)), resultMarked_doneAt, hdel.doneAt]

theorem echoShot_shadowOnly (u : ShUnit) (c : Nat) (replayed : Bool) (s : State) :
    ShadowOnly s (echoShot u c replayed s) := by
  rw [echoShot_eq]
  have hdel : ShadowOnly s (shotDelivered u c replayed s) := .of_ee ((shotDelivered_only ..).same .ee (by decide))
  exact (hdel.trans (resultMarked_shadowOnly ..)).trans (.of_ee (toFields_only.same .ee (by decide)))

theorem echoShot_pt (u : ShUnit) (c : Nat) (replayed : Bool) (s : State) :
    (echoShot u c replayed s).pt = (shotDelivered u c replayed s).pt := by
  rw [echoShot_eq]
  exact (toFields_only.same .pt (by decide)).trans ((resultMarked_only ..).same .pt (by decide))

theorem echoShot_result {u : ShUnit} {c : Nat} {replayed : Bool} {s : State} (h : echoRecords s u c replayed ≠ []) :
    ∃ r ∈ (echoShot u c replayed s).pt.results,
      r.recs = echoRecords s u c replayed ∧ r.closeAt = closeOf u + 1 ∧ r.replayed = replayed := by
  rw [echoShot_pt]
  exact deliver_mem u (headOf u c replayed) (closeOf u + 1) (shotCounted u c replayed s) h

theorem echoShot_fields {u : ShUnit} {c : Nat} {replayed : Bool} {s : State} (h : s.saf.setNo ≠ 0) :
    ∃ q ∈ (echoShot u c replayed s).fe.queue, q.chan = Fin.ofNat 256 c ∧ q.az = u.az ∧ q.valid = true := by
  have hsaf : (resultMarked u c (shotDelivered u c replayed s)).saf = s.saf :=
    ((resultMarked_only ..).same .saf (by decide)).trans ((shotDelivered_only ..).same .saf (by decide))
  rw [echoShot_eq]
  exact toFields_mem u c u.az true (goodShots [u]) _ (by rw [hsaf]; exact h)

/-! ## A channel-shot that is not measured (R189, R252 to R254) -/

/-- The one record of a channel-shot that is not measured, delivered. -/
def missDelivered (u : ShUnit) (c : Nat) (s : State) : State :=
  deliver u { chan := c } [noRecord s c 10 (tofsOf (u.shot.getD {}) (u.shot.getD {}).edge) (u.shot.getD {}).theta]
    (if s.ee.hist then 0 else closeOf u + 1) s

theorem noMeasure_eq (u : ShUnit) (c : Nat) (s : State) :
    noMeasure u c s = toFields u c (u.shot.getD {}).theta false [] [] (resultMarked u c (missDelivered u c s)) := rfl

theorem noMeasure_doneAt (u : ShUnit) (c : Nat) (s : State) :
    (chanOf (noMeasure u c s) c).doneAt = max (chanOf s c).doneAt (u.tStart + 1) := by
  have hdel : (missDelivered u c s).chan = s.chan := deliver_only.same .chan (by decide)
  rw [noMeasure_eq, chanOf_of_chan (toFields_only.same .chan (by decide)), resultMarked_doneAt, chanOf_of_chan hdel]

theorem noMeasure_shadowOnly (u : ShUnit) (c : Nat) (s : State) : ShadowOnly s (noMeasure u c s) := by
  rw [noMeasure_eq]
  have hdel : ShadowOnly s (missDelivered u c s) := .of_ee (deliver_only.same .ee (by decide))
  exact (hdel.trans (resultMarked_shadowOnly ..)).trans (.of_ee (toFields_only.same .ee (by decide)))

theorem noMeasure_result (u : ShUnit) (c : Nat) (s : State) :
    ∃ r ∈ (noMeasure u c s).pt.results,
      r.recs = [noRecord s c 10 (tofsOf (u.shot.getD {}) (u.shot.getD {}).edge) (u.shot.getD {}).theta] := by
  have hpt : (noMeasure u c s).pt = (missDelivered u c s).pt := by
    rw [noMeasure_eq]
    exact (toFields_only.same .pt (by decide)).trans ((resultMarked_only ..).same .pt (by decide))
  obtain ⟨r, hr, hrecs, -, -⟩ := deliver_mem u { chan := c } (if s.ee.hist then 0 else closeOf u + 1) s
    (List.cons_ne_nil (noRecord s c 10 (tofsOf (u.shot.getD {}) (u.shot.getD {}).edge) (u.shot.getD {}).theta) [])
  exact ⟨r, hpt ▸ hr, hrecs⟩

/-! ## ECHO_RESULT -/

theorem exec_echoResult_working {t : Nat} {chan : Fin 256} {s : State} {x : ShUnit} (hdue : unitDue s chan = some x)
    (hlost : (chanOf s chan).lost = false) (hfailed : (chanOf s chan).failed = false)
    (hlive : setLive s (chan / 16) = true) (hmode : s.ee.hist = false) (hlate : tooLate (s.start t) x = false) :
    exec (.echoResult t chan) s = done (echoShot x chan false (s.start t)) := by
  have hgo : (!setLive (s.start t) (chan / 16) || (s.start t).ee.hist || tooLate (s.start t) x) = false := by
    rw [show setLive (s.start t) (chan / 16) = true from hlive, hlate, start_ee, hmode]; rfl
  have hworks : ((chanOf (s.start t) chan).lost || (chanOf (s.start t) chan).failed) = false := by
    rw [show (chanOf (s.start t) chan).lost = false from hlost, show (chanOf (s.start t) chan).failed = false from hfailed]
    rfl
  change execEchoResult t chan s = _
  unfold execEchoResult
  extract_lets v c
  rw [if_neg (Bool.eq_false_iff.mp hworks), show unitDue v c = some x from hdue]
  exact if_neg (Bool.eq_false_iff.mp hgo)

theorem exec_echoResult_completes (t : Nat) (chan : Fin 256) (s : State) (x : ShUnit) (hdue : unitDue s chan = some x)
    (hlost : (chanOf s chan).lost = false) (hfailed : (chanOf s chan).failed = false)
    (hlive : setLive s (chan / 16) = true) (hmode : s.ee.hist = false) (hlate : tooLate (s.start t) x = false) :
    ∃ u, exec (.echoResult t chan) s = .next u ∧ (chanOf u chan).doneAt = x.tStart + 1 ∧
      (echoRecords (s.start t) x chan false ≠ [] →
        ∃ r ∈ u.pt.results, r.recs = echoRecords (s.start t) x chan false ∧ r.closeAt = closeOf x + 1) ∧
      (s.saf.setNo ≠ 0 → ∃ q ∈ u.fe.queue, q.chan = chan ∧ q.az = x.az ∧ q.valid = true) ∧
      u.ee = { s.ee with shadow := u.ee.shadow } ∧
      u.fld = s.fld := by
  have he := exec_echoResult_working hdue hlost hfailed hlive hmode hlate
  have hdone := (echoShot_doneAt x chan false (s.start t)).trans (max_doneAt_of_owes (owes_of_unitDue hdue))
  have hrec := echoShot_result (u := x) (c := chan) (replayed := false) (s := s.start t)
  have hfields := echoShot_fields (u := x) (c := chan) (replayed := false) (s := s.start t)
  have hee := (echoShot_shadowOnly x chan false (s.start t)).ee
  have hfld : (echoShot x chan false (s.start t)).fld = s.fld := echoShot_only.same .fld (by decide)
  generalize echoShot x chan false (s.start t) = v at *
  refine ⟨settle v, he, hdone, fun h => ?_, fun h => ?_, hee, hfld⟩
  · obtain ⟨r, hr, hrecs, hclose, -⟩ := hrec h
    exact ⟨r, hr, hrecs, hclose⟩
  · obtain ⟨q, hq, hchan, haz, hvalid⟩ := hfields h
    exact ⟨q, hq, hchan.trans (Fin.ofNat_val_eq_self chan), haz, hvalid⟩

theorem exec_echoResult_unmeasured (t : Nat) (chan : Fin 256) (s : State) (x : ShUnit)
    (hdue : (unitsOf s (chan / 8)).find? (fun y => rxEnabled s chan && decide ((chanOf s chan).doneAt < y.tStart + 1)) =
      some x)
    (hout : (chanOf s chan).lost = true ∨ (chanOf s chan).failed = true) :
    ∃ u, exec (.echoResult t chan) s = .next u ∧ (chanOf u chan).doneAt = x.tStart + 1 ∧
      (∃ r ∈ u.pt.results,
        r.recs = [noRecord s chan 10 (tofsOf (x.shot.getD {}) (x.shot.getD {}).edge) (x.shot.getD {}).theta]) := by
  have hgo : ((chanOf (s.start t) chan).lost || (chanOf (s.start t) chan).failed) = true :=
    (Bool.or_eq_true ..).mpr hout
  have he : exec (.echoResult t chan) s = done (noMeasure x chan (s.start t)) := by
    change execEchoResult t chan s = _
    unfold execEchoResult
    extract_lets v c
    have hfind : (unitsOf v (c / 8)).find? (fun y => rxEnabled v c && decide ((chanOf v c).doneAt < y.tStart + 1)) =
      some x := hdue
    rw [if_pos hgo, hfind]
  have hdone := (noMeasure_doneAt x chan (s.start t)).trans (max_doneAt_of_owes (owes_of_find hdue))
  have hrec := noMeasure_result x chan (s.start t)
  generalize noMeasure x chan (s.start t) = v at *
  exact ⟨settle v, he, hdone, hrec⟩

/-! ## A group in histogram mode (R172 to R178) -/

/-- The echoes of a group that count: of a flyback shot those up to 3.2 m. -/
def groupTaken (s : State) (u : ShUnit) (c : Nat) : List CEcho := cutFlyback u (groupEchoes s u c)

/-- A group's result is counted and given. -/
def groupMarked (u : ShUnit) (c : Nat) (replayed : Bool) (s : State) : State :=
  resultMarked u c (countResult u (groupHead s u c replayed) (groupEchoes s u c) (groupTaken s u c)
    (recordsOf (unitState s u) (groupHead s u c replayed) (groupTaken s u c)).1
    (recordsOf (unitState s u) (groupHead s u c replayed) (groupTaken s u c)).2 s)

/-- A group's result with the records without a measurement that waited for it. -/
def groupReleased (u : ShUnit) (c : Nat) (replayed : Bool) (s : State) : State :=
  releaseMiss (fun m => m.1 == u.em && m.2.2.frame == u.frame && m.2.1 ≤ (groupKey u).2.2) (groupMarked u c replayed s)

theorem groupResult_state (u : ShUnit) (c : Nat) (replayed : Bool) (s : State) :
    (groupResult u c replayed s).1 = toFields u c (groupHead s u c replayed).az true (goodShots (groupUnits s u))
      (groupTaken s u c) (groupReleased u c replayed s) := rfl

theorem groupResult_records (u : ShUnit) (c : Nat) (replayed : Bool) (s : State) :
    (groupResult u c replayed s).2.1 =
      (recordsOf (unitState s u) (groupHead s u c replayed) (groupTaken s u c)).1 := rfl

theorem groupResult_peaks (u : ShUnit) (c : Nat) (replayed : Bool) (s : State) :
    (groupResult u c replayed s).2.2 = chosenPeaks (unitState s u) (groupTaken s u c) := rfl

theorem groupReleased_only (u : ShUnit) (c : Nat) (replayed : Bool) (s : State) :
    Only [.rm, .chan, .ee, .rj, .pt, .car, .eic, .log, .pci, .slk, .out] s (groupReleased u c replayed s) :=
  .step releaseMiss_only (by decide) (.step (resultMarked_only ..) (by decide) (countResult_only.mono (by decide)))

theorem groupResult_doneAt (u : ShUnit) (c : Nat) (replayed : Bool) (s : State) :
    (chanOf (groupResult u c replayed s).1 c).doneAt = max (chanOf s c).doneAt (u.tStart + 1) := by
  rw [groupResult_state, chanOf_of_chan (toFields_only.same .chan (by decide)), groupReleased,
    chanOf_of_chan (releaseMiss_only.same .chan (by decide)), groupMarked, resultMarked_doneAt,
    (countResult_doneKept ..).doneAt]

theorem groupResult_shadowOnly (u : ShUnit) (c : Nat) (replayed : Bool) (s : State) :
    ShadowOnly s (groupResult u c replayed s).1 := by
  have hmark : ShadowOnly s (groupMarked u c replayed s) :=
    (ShadowOnly.of_ee (countResult_only.same .ee (by decide))).trans (resultMarked_shadowOnly ..)
  have hrel : ShadowOnly s (groupReleased u c replayed s) := hmark.trans (.of_ee (releaseMiss_only.same .ee (by decide)))
  rw [groupResult_state]
  exact hrel.trans (.of_ee (toFields_only.same .ee (by decide)))

theorem groupResult_fields {u : ShUnit} {c : Nat} {replayed : Bool} {s : State} (h : s.saf.setNo ≠ 0) :
    ∃ q ∈ (groupResult u c replayed s).1.fe.queue, q.chan = Fin.ofNat 256 c ∧ q.valid = true := by
  have hsaf : (groupReleased u c replayed s).saf = s.saf := (groupReleased_only ..).same .saf (by decide)
  obtain ⟨q, hq, hchan, -, hvalid⟩ := toFields_mem u c (groupHead s u c replayed).az true (goodShots (groupUnits s u))
    (groupTaken s u c) (s := groupReleased u c replayed s) (by rw [hsaf]; exact h)
  exact ⟨q, hq, hchan, hvalid⟩

/-- A unit is evaluated with the parameters of its own window close, whatever is in force now (R213). -/
theorem unitState_dict (s : State) (u : ShUnit) : (unitState s u).dict = { s.dict with inForce := u.pars } := by
  unfold unitState
  extract_lets v
  exact (Only.foldl (l := [.chan]) (fun _ _ h => .step modChan_only (by decide) h) .refl).same .dict (by decide)

theorem unitState_parB (s v : State) (u : ShUnit) (num sub : Nat) :
    parB (unitState s u) num sub = parB (unitState v u) num sub := by
  simp only [parB, parI, par, unitState_dict]

/-! ## COARSE_PEAKS -/

/-- The group of a unit completed: its peaks wait for the zoom pass, or its records are delivered (R176). -/
def groupCompleted (u : ShUnit) (c : Nat) (s : State) : State :=
  let g := groupResult u c false s
  if parB (unitState g.1 u) 0x2C07 0 && !g.2.2.isEmpty then
    sendSnapshot u c true (modChan c (fun x => { x with histPeaks := g.2.2, histDue := some u.tStart }) g.1)
  else sendSnapshot u c false (deliver u (groupHead s u c false) g.2.1 0 g.1)

theorem exec_coarsePeaks {t : Nat} {chan : Fin 256} {s : State} {x : ShUnit} (hready : unitReady s chan = some x)
    (hlost : (chanOf s chan).lost = false) (hfailed : (chanOf s chan).failed = false)
    (hlive : setLive s (chan / 16) = true) (hmode : s.ee.hist = true) (hlate : tooLate (s.start t) x = false) :
    exec (.coarsePeaks t chan) s = done (groupCompleted x chan (s.start t)) := by
  have hgo : (!(s.start t).ee.hist || !setLive (s.start t) (chan / 16) || (chanOf (s.start t) chan).lost ||
      (chanOf (s.start t) chan).failed || tooLate (s.start t) x) = false := by
    rw [show setLive (s.start t) (chan / 16) = true from hlive, hlate, start_ee, hmode,
      show (chanOf (s.start t) chan).lost = false from hlost, show (chanOf (s.start t) chan).failed = false from hfailed]
    rfl
  change execCoarsePeaks t chan s = _
  unfold execCoarsePeaks
  extract_lets v c
  rw [show unitReady v c = some x from hready]
  refine (if_neg (Bool.eq_false_iff.mp hgo)).trans ?_
  exact (apply_ite done _ _ _).symm

theorem groupCompleted_only (u : ShUnit) (c : Nat) (s : State) :
    Only [.rm, .chan, .ee, .rj, .pt, .fe, .car, .eic, .log, .pci, .slk, .out] s (groupCompleted u c s) := by
  unfold groupCompleted
  extract_lets g
  have hg : Only [.rm, .chan, .ee, .rj, .pt, .fe, .car, .eic, .log, .pci, .slk, .out] s g.1 := groupResult_only
  split
  · exact .step sendSnapshot_only (by decide) (.step modChan_only (by decide) hg)
  · exact .step sendSnapshot_only (by decide) (.step deliver_only (by decide) hg)

theorem groupCompleted_doneAt (u : ShUnit) (c : Nat) (s : State) :
    (chanOf (groupCompleted u c s) c).doneAt = max (chanOf s c).doneAt (u.tStart + 1) := by
  unfold groupCompleted
  extract_lets g
  have hg : (chanOf g.1 c).doneAt = max (chanOf s c).doneAt (u.tStart + 1) := groupResult_doneAt u c false s
  clear_value g
  split
  · rw [(sendSnapshot_doneKept ..).doneAt, chanOf_modChan]
    exact hg
  · rw [(sendSnapshot_doneKept ..).doneAt, chanOf_of_chan (deliver_only.same .chan (by decide))]
    exact hg

theorem groupCompleted_fe (u : ShUnit) (c : Nat) (s : State) :
    (groupCompleted u c s).fe = (groupResult u c false s).1.fe := by
  unfold groupCompleted
  extract_lets g
  split
  · exact (sendSnapshot_only.same .fe (by decide)).trans (modChan_only.same .fe (by decide))
  · exact (sendSnapshot_only.same .fe (by decide)).trans (deliver_only.same .fe (by decide))

/-- A snapshot that waits for the zoom pass leaves the peaks that wait with it. -/
theorem sendSnapshot_peaks (u : ShUnit) (c : Nat) (s : State) :
    (chanOf (sendSnapshot u c true s) c).histPeaks = (chanOf s c).histPeaks ∧
      (chanOf (sendSnapshot u c true s) c).histDue = (chanOf s c).histDue := by
  unfold sendSnapshot
  extract_lets v
  split
  · rw [if_pos rfl, chanOf_modChan]
    exact ⟨rfl, rfl⟩
  · exact ⟨rfl, rfl⟩

theorem groupCompleted_zooms {u : ShUnit} {c : Nat} {s : State} (hzoom : parB (unitState s u) 0x2C07 0 = true)
    (hpeaks : chosenPeaks (unitState s u) (groupTaken s u c) ≠ []) :
    (chanOf (groupCompleted u c s) c).histPeaks = chosenPeaks (unitState s u) (groupTaken s u c) ∧
      (chanOf (groupCompleted u c s) c).histDue = some u.tStart := by
  rw [← groupResult_peaks u c false] at hpeaks ⊢
  unfold groupCompleted
  extract_lets g
  have hgo : (parB (unitState g.1 u) 0x2C07 0 && !g.2.2.isEmpty) = true := by
    rw [unitState_parB g.1 s, hzoom]
    simpa using hpeaks
  rw [if_pos hgo]
  obtain ⟨hp, hd⟩ := sendSnapshot_peaks u c
    (modChan c (fun x => { x with histPeaks := g.2.2, histDue := some u.tStart }) g.1)
  rw [hp, hd, chanOf_modChan]
  exact ⟨rfl, rfl⟩

theorem groupCompleted_delivers {u : ShUnit} {c : Nat} {s : State} (hzoom : parB (unitState s u) 0x2C07 0 = false)
    (hrecs : (recordsOf (unitState s u) (groupHead s u c false) (groupTaken s u c)).1 ≠ []) :
    ∃ r ∈ (groupCompleted u c s).pt.results,
      r.recs = (recordsOf (unitState s u) (groupHead s u c false) (groupTaken s u c)).1 := by
  rw [← groupResult_records u c false] at hrecs ⊢
  unfold groupCompleted
  extract_lets g
  have hstay : (parB (unitState g.1 u) 0x2C07 0 && !g.2.2.isEmpty) = false := by
    rw [unitState_parB g.1 s, hzoom]; rfl
  rw [if_neg (Bool.eq_false_iff.mp hstay), (sendSnapshot_resultsKept ..).results]
  obtain ⟨r, hr, h, -, -⟩ := deliver_mem u (groupHead s u c false) 0 g.1 hrecs
  exact ⟨r, hr, h⟩

theorem exec_coarsePeaks_completes (t : Nat) (chan : Fin 256) (s : State) (x : ShUnit)
    (hready : unitReady s chan = some x) (hlost : (chanOf s chan).lost = false)
    (hfailed : (chanOf s chan).failed = false) (hlive : setLive s (chan / 16) = true) (hmode : s.ee.hist = true)
    (hlate : tooLate (s.start t) x = false) :
    ∃ u, exec (.coarsePeaks t chan) s = .next u ∧ (chanOf u chan).doneAt = x.tStart + 1 ∧
      (parB (unitState s x) 0x2C07 0 = true →
        chosenPeaks (unitState (s.start t) x) (groupTaken (s.start t) x chan) ≠ [] →
        (chanOf u chan).histPeaks = chosenPeaks (unitState (s.start t) x) (groupTaken (s.start t) x chan) ∧
          (chanOf u chan).histDue = some x.tStart) ∧
      (parB (unitState s x) 0x2C07 0 = false →
        (recordsOf (unitState (s.start t) x) (groupHead (s.start t) x chan false) (groupTaken (s.start t) x chan)).1 ≠ [] →
        ∃ r ∈ u.pt.results, r.recs =
          (recordsOf (unitState (s.start t) x) (groupHead (s.start t) x chan false) (groupTaken (s.start t) x chan)).1) ∧
      (s.saf.setNo ≠ 0 → ∃ q ∈ u.fe.queue, q.chan = chan ∧ q.valid = true) ∧
      u.fld = s.fld := by
  have he := exec_coarsePeaks hready hlost hfailed hlive hmode hlate
  have hdone := (groupCompleted_doneAt x chan (s.start t)).trans (max_doneAt_of_owes (owes_of_unitReady hready))
  have hzoom := groupCompleted_zooms (u := x) (c := chan) (s := s.start t)
  have hrec := groupCompleted_delivers (u := x) (c := chan) (s := s.start t)
  have hfields := groupResult_fields (u := x) (c := chan) (replayed := false) (s := s.start t)
  have hfld : (groupCompleted x chan (s.start t)).fld = s.fld := (groupCompleted_only ..).same .fld (by decide)
  rw [← groupCompleted_fe] at hfields
  rw [unitState_parB s (s.start t)]
  generalize groupCompleted x chan (s.start t) = v at *
  refine ⟨settle v, he, hdone, hzoom, hrec, fun h => ?_, hfld⟩
  obtain ⟨q, hq, hchan, hvalid⟩ := hfields h
  exact ⟨q, hq, hchan.trans (Fin.ofNat_val_eq_self chan), hvalid⟩

/-! ## ZOOM_PASS (R177, R178, R182) -/

/-- The zoomed records of a channel's group held for the test of its engine, a snapshot that waits sent. -/
def zoomHeld (u : ShUnit) (c : Nat) (s : State) : State :=
  let v := holdZoomed u (groupHead s u c false) (zoomRecords s u c (groupHead s u c false) (chanOf s c).histPeaks) s
  if (chanOf v c).histSnap then snapshotGo u c (chanOf s c).histPeaks v else v

theorem zoomHeld_mem {u : ShUnit} {c : Nat} {s : State}
    (h : zoomRecords s u c (groupHead s u c false) (chanOf s c).histPeaks ≠ []) :
    ∃ p ∈ (zoomHeld u c s).pt.zoomed, p.1 = engineOf s (c / 16) ∧
      p.2.recs = zoomRecords s u c (groupHead s u c false) (chanOf s c).histPeaks := by
  have hmem := holdZoomed_mem u (groupHead s u c false) s h
  unfold zoomHeld
  extract_lets v
  refine ⟨(engineOf s (c / 16), resultOf s u (groupHead s u c false)
    (zoomRecords s u c (groupHead s u c false) (chanOf s c).histPeaks) 0), ?_, rfl, rfl⟩
  split
  · rw [(snapshotGo_resultsKept ..).zoomed]
    exact hmem
  · exact hmem

theorem zoomHeld_results (u : ShUnit) (c : Nat) (s : State) : (zoomHeld u c s).pt.results = s.pt.results := by
  unfold zoomHeld
  extract_lets v
  have hv : v.pt.results = s.pt.results := holdZoomed_results ..
  split
  · rw [(snapshotGo_resultsKept ..).results, hv]
  · exact hv

theorem zoomHeld_fld (u : ShUnit) (c : Nat) (s : State) : (zoomHeld u c s).fld = s.fld := by
  unfold zoomHeld
  extract_lets v
  have hv : v.fld = s.fld := holdZoomed_only.same .fld (by decide)
  split
  · exact (snapshotGo_only.same .fld (by decide)).trans hv
  · exact hv

/-- A channel whose chosen peaks have been zoomed. -/
def zoomCleared (x : ChanS) : ChanS := { x with histPeaks := [], histDue := none }

theorem exec_zoomPass {t : Nat} {chan : Fin 256} {s : State} {x : ShUnit}
    (hdue : (unitsOf s (chan / 8)).find? (fun y => (chanOf s chan).histDue == some y.tStart) = some x)
    (hlive : setLive s (chan / 16) = true) (hidle : engineIdle s (engineOf s (chan / 16)) = true)
    (htest : testDone s (engineOf s (chan / 16)) = false) :
    exec (.zoomPass t chan) s =
      done (modChan chan zoomCleared (zoomHeld x chan (s.start t))) := by
  have hgo : (!setLive (s.start t) (chan / 16) || !engineIdle (s.start t) (engineOf (s.start t) (chan / 16)) ||
      testDone (s.start t) (engineOf (s.start t) (chan / 16))) = false := by
    rw [show setLive (s.start t) (chan / 16) = true from hlive,
      show engineIdle (s.start t) (engineOf (s.start t) (chan / 16)) = true from hidle,
      show testDone (s.start t) (engineOf (s.start t) (chan / 16)) = false from htest]
    rfl
  change execZoomPass t chan s = _
  unfold execZoomPass
  extract_lets v c n
  have hfind : (unitsOf v (c / 8)).find? (fun y => (chanOf v c).histDue == some y.tStart) = some x := hdue
  rw [hfind]
  exact if_neg (Bool.eq_false_iff.mp hgo)

theorem exec_zoomPass_holds (t : Nat) (chan : Fin 256) (s : State) (x : ShUnit)
    (hdue : (unitsOf s (chan / 8)).find? (fun y => (chanOf s chan).histDue == some y.tStart) = some x)
    (hlive : setLive s (chan / 16) = true) (hidle : engineIdle s (engineOf s (chan / 16)) = true)
    (htest : testDone s (engineOf s (chan / 16)) = false) :
    ∃ u, exec (.zoomPass t chan) s = .next u ∧ (chanOf u chan).histPeaks = [] ∧
      (chanOf u chan).histDue = none ∧
      (zoomRecords (s.start t) x chan (groupHead (s.start t) x chan false) (chanOf s chan).histPeaks ≠ [] →
        ∃ p ∈ u.pt.zoomed, p.1 = engineOf s (chan / 16) ∧
          p.2.recs = zoomRecords (s.start t) x chan (groupHead (s.start t) x chan false) (chanOf s chan).histPeaks) ∧
      u.pt.results = s.pt.results ∧
      u.fld = s.fld := by
  have he := exec_zoomPass (t := t) hdue hlive hidle htest
  have hmem := zoomHeld_mem (u := x) (c := chan) (s := s.start t)
  have hres := zoomHeld_results x chan (s.start t)
  have hfld := zoomHeld_fld x chan (s.start t)
  generalize zoomHeld x chan (s.start t) = v at *
  have hclear : chanOf (settle (modChan chan zoomCleared v)) chan = zoomCleared (chanOf v chan) :=
    chanOf_modChan chan zoomCleared v
  exact ⟨settle (modChan chan zoomCleared v), he, congrArg ChanS.histPeaks hclear, congrArg ChanS.histDue hclear, hmem,
    hres, hfld⟩

/-! ## HIST_SNAP (R179) -/

theorem exec_histSnap_arms (t : Nat) (ep : Fin 10) (tag : BitVec 8) (s : State) (h : Accepts s t ep tag 0x2C19 0 [1]) :
    ∃ u, exec (.histSnap t ep tag true) s = .next u ∧ u.ee = { s.ee with snapArmed := some (parN s 0x2C18 0) } ∧
      Emits u (.xiest ep (rspMsg (wreq tag 0x2C19 0 [1]) 0 [])) := by
  obtain ⟨hserves, hstatus⟩ := h
  obtain ⟨row, hrow, hacc⟩ : ∃ row, dictFind 0x2C19 0 = some row ∧ row.acc = .wo :=
    Option.map_eq_some_iff.mp (show (dictFind 0x2C19 0).map (·.acc) = some .wo by decide)
  have hwrite := xiWrite_writeOnly (r := wreq tag 0x2C19 0 [1]) (v := snapArm (s.start t)) hstatus hrow hacc rfl
  have hwait : waitsFor (wreq tag 0x2C19 0 [1]) 0 = none := by simp only [waitsFor, mkReq]; decide
  have hserved := serveWrite_accepted hserves hwrite hwait
  have he : exec (.histSnap t ep tag true) s = done (serveWrite ep tag 0x2C19 0 [1] (s.start t)) := rfl
  rw [hserved] at he
  refine ⟨_, he, ?_, respond_emits ..⟩
  exact (respond_only.same .ee (by decide)).trans ((remember_only.same .ee (by decide)).trans
    (dictRecord_only.same .ee (by decide)))

/-! ## Gates of foreign trains (R201) -/

@[simp] theorem trainOf_modTrain (b k : Nat) (f : Train → Train) (s : State) :
    trainOf (modTrain b k f s) b k = f (trainOf s b k) := bget_bmod_self {} s.rj.trains (8 * b + k) f

theorem trainOf_modTrain_ne {b j k : Nat} (f : Train → Train) (s : State) (h : k ≠ j) :
    trainOf (modTrain b j f s) b k = trainOf s b k := 
  bget_bmod_ne ({} : Train) s.rj.trains f (show 8 * b + k ≠ 8 * b + j by omega)

theorem trainOf_of_trains {s u : State} (h : u.rj.trains = s.rj.trains) (b k : Nat) : trainOf u b k = trainOf s b k :=
  congrArg (bget ({} : Train) · (8 * b + k)) h

theorem trainOf_settle (s : State) (b k : Nat) : trainOf (settle s) b k = trainOf s b k := rfl

/-- A slot that holds a train holds it still, in the same gate. -/
structure GateKept (b k : Nat) (s u : State) : Prop where
  st : (trainOf s b k).st ≠ 0 → (trainOf u b k).st = (trainOf s b k).st
  gateFrom : (trainOf s b k).st ≠ 0 → (trainOf u b k).gateFrom = (trainOf s b k).gateFrom

theorem GateKept.of_eq {b k : Nat} {s u : State} (h : trainOf u b k = trainOf s b k) : GateKept b k s u :=
  ⟨fun _ => by rw [h], fun _ => by rw [h]⟩

theorem GateKept.refl (b k : Nat) (s : State) : GateKept b k s s := .of_eq rfl

theorem GateKept.trans {b k : Nat} {s t u : State} (h : GateKept b k s t) (g : GateKept b k t u) : GateKept b k s u :=
  ⟨fun hs => (g.st (by rw [h.st hs]; exact hs)).trans (h.st hs),
    fun hs => (g.gateFrom (by rw [h.st hs]; exact hs)).trans (h.gateFrom hs)⟩

theorem GateKept.after {b k : Nat} {s t u : State} (h : GateKept b k t u) (ht : t.rj.trains = s.rj.trains) :
    GateKept b k s u := .trans (.of_eq (trainOf_of_trains ht b k)) h

theorem GateKept.foldl {b k : Nat} {α : Type} {f : State → α → State} (h : ∀ s x, GateKept b k s (f s x)) (l : List α)
    (s : State) : GateKept b k s (l.foldl f s) := by
  induction l generalizing s with
  | nil => exact .refl b k s
  | cons x r ih => exact (h s x).trans (ih _)

theorem modTrain_capt_gateKept (b j k : Nat) (l : Train → List (BitVec 64 × List Nat)) (s : State) :
    GateKept b k s (modTrain b j (fun y => { y with capt := l y }) s) := by
  by_cases h : k = j
  · subst h
    exact ⟨fun _ => by rw [trainOf_modTrain], fun _ => by rw [trainOf_modTrain]⟩
  · exact .of_eq (trainOf_modTrain_ne _ s h)

/-- A new train takes a free slot. -/
theorem modTrain_free_gateKept {b j : Nat} (k : Nat) (f : Train → Train) {s : State} (h : (trainOf s b j).st = 0) :
    GateKept b k s (modTrain b j f s) := by
  by_cases hk : k = j
  · subst hk
    exact ⟨fun hs => absurd h hs, fun hs => absurd h hs⟩
  · exact .of_eq (trainOf_modTrain_ne f s hk)

theorem newCandidate_gateKept (b k : Nat) (s : State) (x : Cand) : GateKept b k s (newCandidate b s x) := by
  unfold newCandidate
  extract_lets ks l all keep
  have hkeep (v : State) (m : List Cand) : GateKept b k v (keep v m) := .of_eq (trainOf_of_trains rfl b k)
  split
  · exact .foldl (fun s j => modTrain_capt_gateKept b j k (fun y => y.capt ++ [(x.t, x.chans)]) s) ks s
  · split
    · exact hkeep s all
    · split
      · exact (hkeep _ all).after rfl
      next j hj =>
        extract_lets y mine
        have hfree := List.find?_some hj
        exact (modTrain_free_gateKept k _ (eq_of_beq hfree)).trans (hkeep _ _)

theorem flushPulses_gateKept (b shot k : Nat) (s : State) : GateKept b k s (flushPulses b shot s) := by
  unfold flushPulses
  extract_lets p t0 l
  exact (GateKept.foldl (newCandidate_gateKept b k) l _).after rfl

/-- The end of the gate in progress of train slot k of bank b. -/
def gateEnd (s : State) (b k : Nat) : BitVec 64 := (trainOf s b k).gateFrom + BitVec.ofNat 64 msU

/-- The candidates of the shots of bank b that started before an instant are taken. -/
def gateFlushed (b : Nat) (stop : BitVec 64) (s : State) : State :=
  ((pendOf s b).filter fun p => decide ((t64At s p.1 - stop).toInt < 0)).foldl (fun v p => flushPulses b p.1 v) s

theorem gateFlushed_gateKept (b k : Nat) (stop : BitVec 64) (s : State) : GateKept b k s (gateFlushed b stop s) := by
  unfold gateFlushed
  exact .foldl (fun s (p : Nat × List (BitVec 64 × Nat)) => flushPulses_gateKept b p.1 k s) _ s

/-- The candidates of a train that lie in its gate, in time order. -/
def gateCands (x : Train) : List (BitVec 64 × List Nat) :=
  sortBy (fun (p : BitVec 64 × List Nat) => (p.1 - x.gateFrom).toInt)
    (x.capt.filter fun p => decide (0 ≤ (p.1 - x.gateFrom).toInt) && decide ((p.1 - x.gateFrom).toInt < msU))

/-- The candidates of a train beyond its gate, which belong to the next. -/
def gateRest (x : Train) : List (BitVec 64 × List Nat) :=
  x.capt.filter fun p => decide ((msU : Int) ≤ (p.1 - x.gateFrom).toInt)

/-- The fit of a train over its gate. -/
def gateFit (x : Train) : Fit := fmFit ((gateCands x).map (·.1)) x.tp

/-- The fit of a gate is accepted (R201). -/
def gateFits (f : Fit) : Bool := decide (12 ≤ f.n) && f.within 1500

/-- A gate that ends: a train that fits is tracked from the next gate, one that does not frees a tentative slot and, the second
time running, a tracked one (R201). -/
def gateEnded (b k : Nat) (next : BitVec 64) (s : State) : State :=
  let x := trainOf s b k
  let f := gateFit x
  if gateFits f then modTrain b k (fun y => { y with
      st := 2, tp := f.period, ofs := ((gateCands x).headD (x.ofs, [])).1 + BitVec.ofInt 64 f.ofs, gateFrom := next
      capt := gateRest x, n := f.n.toNat, rms := f.rms, mask := trainMask (gateCands x), rejected := false }) s
  else if x.st = 1 then modTrain b k (fun _ => {}) s
  else if x.rejected then modRj (fun r => { r with trainDrop := satInc r.trainDrop }) (modTrain b k (fun _ => {}) s)
  else modTrain b k (fun y => { y with
    gateFrom := next, capt := gateRest x, n := f.n.toNat, rms := if 0 < f.den then f.rms else 0, rejected := true }) s

theorem exec_trainGateEnd {t : Nat} {b : Fin 4} {k : Fin 8} {s : State} (hst : (trainOf s b k).st ≠ 0)
    (hover : msU ≤ (t64Now (s.start t) - (trainOf s b k).gateFrom).toInt)
    (hdue : gateDue (s.start t) b (gateEnd s b k) = true) :
    exec (.trainGateEnd t b k) s = done (gateEnded b k (gateEnd s b k) (gateFlushed b (gateEnd s b k) (s.start t))) := by
  have hgo : (decide ((trainOf (s.start t) b k).st = 0) ||
      decide ((t64Now (s.start t) - (trainOf (s.start t) b k).gateFrom).toInt < msU) ||
      !gateDue (s.start t) b (gateEnd s b k)) = false := by
    rw [hdue, show decide ((trainOf (s.start t) b k).st = 0) = false from decide_eq_false hst,
      show decide ((t64Now (s.start t) - (trainOf (s.start t) b k).gateFrom).toInt < msU) = false from
        decide_eq_false (Int.not_lt.mpr hover)]
    rfl
  change execTrainGateEnd t b k s = _
  unfold execTrainGateEnd
  refine (if_neg (Bool.eq_false_iff.mp hgo)).trans ?_
  extract_lets v x from_ inGate l rest f ok
  have hv : gateFlushed b (gateEnd s b k) (s.start t) = v := rfl
  rw [hv]
  clear_value v
  simp only [gateEnded, apply_ite done]
  rfl

theorem gateEnded_fits {b k : Nat} {next : BitVec 64} {s : State} (h : gateFits (gateFit (trainOf s b k)) = true) :
    (trainOf (gateEnded b k next s) b k).st = 2 ∧
      (trainOf (gateEnded b k next s) b k).tp = (gateFit (trainOf s b k)).period ∧
      (trainOf (gateEnded b k next s) b k).gateFrom = next ∧ (trainOf (gateEnded b k next s) b k).rejected = false := by
  simp only [gateEnded, if_pos h, trainOf_modTrain, and_self]

theorem gateEnded_tentative {b k : Nat} {next : BitVec 64} {s : State} (h : gateFits (gateFit (trainOf s b k)) = false)
    (hst : (trainOf s b k).st = 1) : (trainOf (gateEnded b k next s) b k).st = 0 := by
  simp only [gateEnded, if_neg (Bool.eq_false_iff.mp h), if_pos hst, trainOf_modTrain]

theorem gateEnded_dropped {b k : Nat} {next : BitVec 64} {s : State} (h : gateFits (gateFit (trainOf s b k)) = false)
    (hst : (trainOf s b k).st ≠ 1) (hrej : (trainOf s b k).rejected = true) :
    (trainOf (gateEnded b k next s) b k).st = 0 ∧ (gateEnded b k next s).rj.trainDrop = satInc s.rj.trainDrop := by
  simp only [gateEnded, if_neg (Bool.eq_false_iff.mp h), if_neg hst, if_pos hrej]
  exact ⟨congrArg Train.st (trainOf_modTrain b k (fun _ => {}) s), rfl⟩

theorem gateEnded_rejected {b k : Nat} {next : BitVec 64} {s : State} (h : gateFits (gateFit (trainOf s b k)) = false)
    (hst : (trainOf s b k).st ≠ 1) (hrej : (trainOf s b k).rejected = false) :
    (trainOf (gateEnded b k next s) b k).st = (trainOf s b k).st ∧
      (trainOf (gateEnded b k next s) b k).rejected = true ∧ (trainOf (gateEnded b k next s) b k).gateFrom = next := by
  simp only [gateEnded, if_neg (Bool.eq_false_iff.mp h), if_neg hst, hrej, if_neg Bool.false_ne_true, trainOf_modTrain,
    and_self]

theorem exec_trainGateEnd_ends (t : Nat) (b : Fin 4) (k : Fin 8) (s : State) (x : Train) (f : Fit)
    (hst : (trainOf s b k).st ≠ 0) (hover : msU ≤ (t64Now (s.start t) - (trainOf s b k).gateFrom).toInt)
    (hdue : gateDue (s.start t) b (gateEnd s b k) = true)
    (hx : x = trainOf (gateFlushed b (gateEnd s b k) (s.start t)) b k) (hf : f = gateFit x) :
    ∃ u, exec (.trainGateEnd t b k) s = .next u ∧
      (gateFits f = true → (trainOf u b k).st = 2 ∧ (trainOf u b k).tp = f.period ∧
        (trainOf u b k).gateFrom = x.gateFrom + BitVec.ofNat 64 msU ∧ (trainOf u b k).rejected = false) ∧
      (gateFits f = false → x.st = 1 → (trainOf u b k).st = 0) ∧
      (gateFits f = false → x.st ≠ 1 → x.rejected = true → (trainOf u b k).st = 0 ∧
        u.rj.trainDrop = satInc (gateFlushed b (gateEnd s b k) (s.start t)).rj.trainDrop) ∧
      (gateFits f = false → x.st ≠ 1 → x.rejected = false → (trainOf u b k).st = x.st ∧
        (trainOf u b k).rejected = true ∧ (trainOf u b k).gateFrom = x.gateFrom + BitVec.ofNat 64 msU) := by
  have hnext : x.gateFrom + BitVec.ofNat 64 msU = gateEnd s b k := by
    rw [hx, (gateFlushed_gateKept b k _ (s.start t)).gateFrom hst]
    rfl
  rw [hnext]
  subst hf hx
  refine ⟨_, exec_trainGateEnd hst hover hdue, ?_⟩
  simp only [settle_rj, trainOf_settle]
  exact ⟨gateEnded_fits, gateEnded_tentative, gateEnded_dropped, gateEnded_rejected⟩

/-- Settles O26: each clause is the lemma above about its command. -/
theorem echoResults : Obligations.EchoResults :=
  ⟨exec_echoResult_completes, exec_echoResult_unmeasured, exec_coarsePeaks_completes, exec_zoomPass_holds,
    exec_histSnap_arms, exec_trainGateEnd_ends⟩

end Sys2Proof.Echo
end

section
/-!
Engine failures: the known-answer test, the declaration of a failed engine with the spare that takes its set or the loss of the
set, and the replay of kept shots by a spare (R162, R181 to R189).
-/
namespace Sys2Proof.Engines

open Sys2Proof Sys2Proof.Machine Sys2Proof.Stamps Sys2Proof.Results Sys2Proof.Echo

theorem engOf_of_ee {s u : State} (h : u.ee.eng = s.ee.eng) (k : Nat) : engOf u k = engOf s k :=
  congrArg (bget ({} : EngS) · k) h

theorem engOf_settle (s : State) (k : Nat) : engOf (settle s) k = engOf s k := rfl

/-! ## The log's staging queue -/

/-- The staging queue of the error log holds at most k entries more, behind those it held. -/
def StagedUpTo (k : Nat) (s u : State) : Prop := ∃ es, es.length ≤ k ∧ u.log.staging = s.log.staging ++ es

theorem StagedUpTo.of_log {s u : State} (k : Nat) (h : u.log = s.log) : StagedUpTo k s u :=
  ⟨[], Nat.zero_le k, by rw [h, List.append_nil]⟩

theorem StagedUpTo.trans {j k : Nat} {s t u : State} (h : StagedUpTo j s t) (g : StagedUpTo k t u) :
    StagedUpTo (j + k) s u := by
  obtain ⟨es, hes, ht⟩ := h
  obtain ⟨fs, hfs, hu⟩ := g
  exact ⟨es ++ fs, by rw [List.length_append]; omega, by rw [hu, ht, List.append_assoc]⟩

theorem StagedUpTo.length_le {k : Nat} {s u : State} (h : StagedUpTo k s u) :
    u.log.staging.length ≤ s.log.staging.length + k := by
  obtain ⟨es, hes, hu⟩ := h
  rw [hu, List.length_append]
  omega

/-- A full staging queue loses an entry and keeps what it holds. -/
theorem logEntry_staging_full {e : LogE} {s : State} (h : ¬ s.log.staging.length < 16) :
    (logEntry e s).log.staging = s.log.staging := by
  unfold logEntry
  extract_lets c l0 u lost l1
  have hu : u.log.staging = s.log.staging := by
    subst u
    split
    · rw [eicEdge_log]
    · rfl
  rw [if_neg (by rw [hu]; exact h), eicEdge_log]
  exact hu

theorem logEntry_stagedUpTo (e : LogE) (s : State) : StagedUpTo 1 s (logEntry e s) := by
  by_cases h : s.log.staging.length < 16
  · exact ⟨[e], Nat.le_refl 1, logEntry_staging h⟩
  · exact ⟨[], Nat.zero_le 1, by rw [logEntry_staging_full h, List.append_nil]⟩

theorem logNow_stagedUpTo (code src data : Nat) (s : State) : StagedUpTo 1 s (logNow code src data s) :=
  logEntry_stagedUpTo ..

theorem foldl_logNow_stagedUpTo {α : Type} (code src data : α → Nat) (l : List α) (s : State) :
    StagedUpTo l.length s (l.foldl (fun s p => logNow (code p) (src p) (data p) s) s) := by
  induction l generalizing s with
  | nil => exact .of_log 0 rfl
  | cons x r ih =>
    rw [List.length_cons, Nat.add_comm]
    exact (logNow_stagedUpTo (code x) (src x) (data x) s).trans (ih _)

/-! ## Declarations logged (R188) -/

theorem logDeclared_ee (m shots : Nat) (s : State) :
    (logDeclared m shots s).ee = { s.ee with declPend := s.ee.declPend.filter fun p => p.2.2 != m } :=
  (Only.foldl (l := [.eic, .log, .pci, .slk, .out]) (fun _ _ h => .step logNow_only (by decide) h) .refl).same .ee
    (by decide)

theorem logDeclared_stagedUpTo (m shots : Nat) (s : State) :
    StagedUpTo s.ee.declPend.length s (logDeclared m shots s) := by
  obtain ⟨es, hes, h⟩ := foldl_logNow_stagedUpTo (fun _ => 0x2401) (fun p : Nat × Nat × Nat => p.1)
    (fun p => p.2.1 + 65536 * min shots 65535) (s.ee.declPend.filter fun p => p.2.2 == m)
    (modEe (fun e => { e with declPend := e.declPend.filter fun p => p.2.2 != m }) s)
  exact ⟨es, hes.trans (List.length_filter_le ..), h⟩

theorem replayEnd_ee (n : Nat) (s : State) :
    (replayEnd n s).ee = { s.ee with declPend := (replayEnd n s).ee.declPend } := by
  unfold replayEnd
  split
  · split
    · rw [logDeclared_ee]
    · rfl
  · rfl

theorem engOf_replayEnd (n k : Nat) (s : State) : engOf (replayEnd n s) k = engOf s k :=
  engOf_of_ee (by rw [replayEnd_ee]) k

/-! ## Zoomed results (R182) -/

theorem foldl_addResult_zoomed (f : State → ResE → ResE) (l : List ResE) (s : State) :
    (l.foldl (fun s r => addResult (f s r) s) s).pt.zoomed = s.pt.zoomed := by
  induction l generalizing s with
  | nil => rfl
  | cons x r ih => exact (ih _).trans (addResult_zoomed ..)

/-- Whether its test passes or fails, an engine holds no zoomed result after it. -/
theorem zoomedOut_zoomed (n : Nat) (pass : Bool) (s : State) :
    (zoomedOut n pass s).pt.zoomed = s.pt.zoomed.filter fun p => p.1 != n := by
  unfold zoomedOut
  extract_lets l v
  split
  · exact foldl_addResult_zoomed (fun s r => { r with order := orderOf s.tb 0 (r.order % 256), phase := s.rm.boundary }) l v
  · rfl

theorem zoomedOut_results_none {n : Nat} {pass : Bool} {s : State}
    (h : (s.pt.zoomed.filter fun p => p.1 == n) = []) : (zoomedOut n pass s).pt.results = s.pt.results := by
  unfold zoomedOut
  rw [h]
  split <;> rfl

theorem zoomedOut_fail_results (n : Nat) (s : State) : (zoomedOut n false s).pt.results = s.pt.results := rfl

/-- The one zoomed result of an engine whose test passed reaches an empty point formatter. -/
theorem zoomedOut_pass_results {n : Nat} {s : State} {r : ResE} (hzoomed : s.pt.zoomed = [(n, r)])
    (hempty : s.pt.results = []) : (zoomedOut n true s).pt.results.map (·.recs) = [r.recs] := by
  have hl : (s.pt.zoomed.filter fun p => p.1 == n) = [(n, r)] := by rw [hzoomed]; simp
  unfold zoomedOut
  rw [hl]
  exact addResult_recs_of_empty _ hempty

/-! ## KNOWN_ANSWER_TEST passed (R162, R182) -/

/-- An engine that has run its test of a phase, on the vector after the last one. -/
def engTested (boundary : Nat) (e : EngS) : EngS := { e with katEcho := !e.katEcho, katPhase := boundary + 1 }

/-- Engine n has run its test of the phase in progress. -/
def tested (n : Nat) (s : State) : State := modEng n (engTested s.rm.boundary) s

/-- An engine's test passed: its zoomed results leave, and results are suspect from now on where it serves live stamps. -/
def testPassed (n : Nat) (s : State) : State :=
  let v := zoomedOut n true (tested n s)
  if Machine.setOf v n == some n || (engOf v n).live then modEng n (fun e => { e with suspectFrom := v.tb }) v else v

theorem exec_knownAnswerTest {t : Nat} {n : Fin 18} {s : State} (pass : Bool) (hok : (engOf s n).retired = false)
    (hidle : engineIdle s n = true) (htest : testDone s n = false) (howed : zoomOwed s n = false) :
    exec (.knownAnswerTest t n pass) s = if pass then done (testPassed n (s.start t))
      else done (engineFails n 2 (modEe (fun e => { e with katFail := satInc e.katFail }) (tested n (s.start t)))) := by
  have hgo : ((engOf (s.start t) n).retired || !engineIdle (s.start t) n || testDone (s.start t) n ||
      zoomOwed (s.start t) n) = false := by
    rw [show (engOf (s.start t) n).retired = false from hok, show engineIdle (s.start t) n = true from hidle,
      show testDone (s.start t) n = false from htest, show zoomOwed (s.start t) n = false from howed]
    rfl
  exact if_neg (Bool.eq_false_iff.mp hgo)

/-- A passed test leaves of its engine all but the vector, the phase and the instant of the test. -/
theorem engOf_testPassed (n : Nat) (s : State) : engOf (testPassed n s) n =
    { engTested s.rm.boundary (engOf s n) with suspectFrom := (engOf (testPassed n s) n).suspectFrom } := by
  unfold testPassed
  extract_lets v
  have hv : engOf v n = engTested s.rm.boundary (engOf s n) :=
    (engOf_of_ee (congrArg EeS.eng (zoomedOut_only.same .ee (by decide))) n).trans (engOf_modEng ..)
  split
  · rw [engOf_modEng, hv]
  · rw [hv]

theorem testPassed_suspectFrom {n : Nat} {s : State} (hn : n < 16) (hok : (engOf s n).retired = false) :
    (engOf (testPassed n s) n).suspectFrom = s.tb := by
  unfold testPassed
  extract_lets v
  have hv : engOf v n = engTested s.rm.boundary (engOf s n) :=
    (engOf_of_ee (congrArg EeS.eng (zoomedOut_only.same .ee (by decide))) n).trans (engOf_modEng ..)
  have hset : Machine.setOf v n = some n := by
    rw [Machine.setOf, hv, if_neg (by rw [engTested, hok]; exact Bool.false_ne_true), if_pos hn]
  have htb : v.tb = s.tb := zoomedOut_only.same .tb (by decide)
  rw [hset, beq_self_eq_true, Bool.true_or, if_pos rfl, engOf_modEng, htb]

theorem testPassed_pt (n : Nat) (s : State) : (testPassed n s).pt = (zoomedOut n true (tested n s)).pt := by
  unfold testPassed
  extract_lets v
  split <;> rfl

theorem testPassed_katFail (n : Nat) (s : State) : (testPassed n s).ee.katFail = s.ee.katFail := by
  unfold testPassed
  extract_lets v
  have hv : v.ee = (tested n s).ee := zoomedOut_only.same .ee (by decide)
  have hkat : v.ee.katFail = s.ee.katFail := by rw [hv]; rfl
  split <;> exact hkat

theorem exec_knownAnswerTest_passes (t : Nat) (n : Fin 18) (s : State) (hok : (engOf s n).retired = false)
    (hidle : engineIdle s n = true) (htest : testDone s n = false) (howed : zoomOwed s n = false) :
    ∃ u, exec (.knownAnswerTest t n true) s = .next u ∧ (engOf u n).retired = false ∧
      (engOf u n).katPhase = s.rm.boundary + 1 ∧
      (n.val < 16 → (engOf u n).suspectFrom = instant s t) ∧
      (engOf u n).katEcho = !(engOf s n).katEcho ∧
      u.ee.katFail = s.ee.katFail ∧
      (u.pt.zoomed = s.pt.zoomed.filter fun p => p.1 != n.val) ∧
      ((s.pt.zoomed.filter fun p => p.1 == n.val) = [] → u.pt.results = s.pt.results) := by
  have he : exec (.knownAnswerTest t n true) s = done (testPassed n (s.start t)) :=
    exec_knownAnswerTest true hok hidle htest howed
  have heng := engOf_testPassed n (s.start t)
  have hfrom (h : n.val < 16) := testPassed_suspectFrom (s := s.start t) h hok
  have hkat := testPassed_katFail n (s.start t)
  have hpt := testPassed_pt n (s.start t)
  generalize testPassed n (s.start t) = v at *
  refine ⟨settle v, he, ?_, ?_, hfrom, ?_, hkat, ?_, fun h => ?_⟩
  · rw [engOf_settle, heng]; exact hok
  · rw [engOf_settle, heng]; rfl
  · rw [engOf_settle, heng]; rfl
  · rw [settle_pt, hpt]; exact zoomedOut_zoomed n true (tested n (s.start t))
  · rw [settle_pt, hpt]; exact zoomedOut_results_none (s := tested n (s.start t)) h

theorem exec_knownAnswerTest_releases (t : Nat) (n : Fin 18) (s : State) (r : ResE) (hok : (engOf s n).retired = false)
    (hidle : engineIdle s n = true) (htest : testDone s n = false) (howed : zoomOwed s n = false)
    (hzoomed : s.pt.zoomed = [(n.val, r)]) (hempty : s.pt.results = []) :
    ∃ u, exec (.knownAnswerTest t n true) s = .next u ∧ u.pt.zoomed = [] ∧
      u.pt.results.map (·.recs) = [r.recs] := by
  have he : exec (.knownAnswerTest t n true) s = done (testPassed n (s.start t)) :=
    exec_knownAnswerTest true hok hidle htest howed
  have hpt := testPassed_pt n (s.start t)
  have hout := zoomedOut_zoomed n true (tested n (s.start t))
  rw [show (tested n (s.start t)).pt.zoomed = [(n.val, r)] from hzoomed, List.filter_cons_of_neg (by simp)] at hout
  have hrecs : (zoomedOut n true (tested n (s.start t))).pt.results.map (·.recs) = [r.recs] :=
    zoomedOut_pass_results hzoomed hempty
  rw [← hpt] at hout hrecs
  exact ⟨_, he, hout, hrecs⟩

/-! ## A declaration (R181 to R183, R188) -/

theorem unResult_shadowOnly (c at_ : Nat) (s : State) : ShadowOnly s (unResult c at_ s) := ⟨rfl⟩

/-- Taking back the results that were to be zoomed changes only the shadow buffer and the channels. -/
theorem unZoomed_shadowOnly (n m : Nat) (s : State) : ShadowOnly s (unZoomed n m s) := by
  unfold unZoomed
  extract_lets v
  have hv : ShadowOnly s v := .foldl (fun s p => by
    split
    · exact unResult_shadowOnly ..
    · exact .refl s) ..
  refine hv.trans (.foldl (fun s i => ?_) ..)
  extract_lets c w
  have hw : ShadowOnly s w := by
    subst w
    split
    · exact unResult_shadowOnly ..
    · exact .refl s
  exact hw.trans ⟨rfl⟩

/-- The results of engine n's set m that wait for a zoom or a test are taken back. -/
def zoomsTaken (n m : Nat) (s : State) : State := zoomedOut n false (unZoomed n m s)

theorem zoomsTaken_log (n m : Nat) (s : State) : (zoomsTaken n m s).log = s.log :=
  (show (zoomsTaken n m s).log = (unZoomed n m s).log from zoomedOut_only.same .log (by decide)).trans
    (unZoomed_only.same .log (by decide))

theorem zoomsTaken_ee (n m : Nat) (s : State) :
    (zoomsTaken n m s).ee = { s.ee with shadow := (unZoomed n m s).ee.shadow } :=
  (show (zoomsTaken n m s).ee = (unZoomed n m s).ee from zoomedOut_only.same .ee (by decide)).trans
    (unZoomed_shadowOnly n m s).ee

theorem zoomsTaken_pt (n m : Nat) (s : State) : (zoomsTaken n m s).pt.results = s.pt.results ∧
    (zoomsTaken n m s).pt.zoomed = s.pt.zoomed.filter fun p => p.1 != n := by
  have hback : (unZoomed n m s).pt = s.pt := unZoomed_only.same .pt (by decide)
  exact ⟨by rw [zoomsTaken, zoomedOut_fail_results, hback], by rw [zoomsTaken, zoomedOut_zoomed, hback]⟩

/-- After the zooms of engine n's set m are taken back the declarations of the set that wait are logged. -/
def resultsTaken (n m : Nat) (s : State) : State :=
  logDeclared m (engOf (zoomsTaken n m s) n).replayLeft.length (zoomsTaken n m s)

theorem resultsTaken_ee (n m : Nat) (s : State) : (resultsTaken n m s).ee = { s.ee with
    shadow := (unZoomed n m s).ee.shadow, declPend := s.ee.declPend.filter fun p => p.2.2 != m } := by
  rw [resultsTaken, logDeclared_ee, zoomsTaken_ee]

theorem resultsTaken_pt (n m : Nat) (s : State) : (resultsTaken n m s).pt.results = s.pt.results ∧
    (resultsTaken n m s).pt.zoomed = s.pt.zoomed.filter fun p => p.1 != n := by
  have h := zoomsTaken_pt n m s
  unfold resultsTaken
  generalize zoomsTaken n m s = v at *
  rw [show (logDeclared m (engOf v n).replayLeft.length v).pt = v.pt from logDeclared_only.same .pt (by decide)]
  exact h

theorem resultsTaken_stagedUpTo (n m : Nat) (s : State) : StagedUpTo s.ee.declPend.length s (resultsTaken n m s) := by
  have hlog := zoomsTaken_log n m s
  have hpend : (zoomsTaken n m s).ee.declPend = s.ee.declPend := by rw [zoomsTaken_ee]
  unfold resultsTaken
  generalize zoomsTaken n m s = v at *
  have h := (StagedUpTo.of_log 0 hlog).trans (logDeclared_stagedUpTo m (engOf v n).replayLeft.length v)
  rwa [hpend, Nat.zero_add] at h

theorem engOf_resultsTaken (n m k : Nat) (s : State) : engOf (resultsTaken n m s) k = engOf s k :=
  engOf_of_ee (by rw [resultsTaken_ee]) k

/-- Engine n, which serves set m, is retired for a cause, its declaration waiting for its log entry. -/
def engRetired (n cause m : Nat) (s : State) : State :=
  let v := modEng n (fun e => { e with retired := true, live := false, ready := false, serves := none }) s
  modEe (fun e => { e with
    faultT := t64Now v, faultPos := v.rm.pos, faultCause := cause, faultEng := n, faultShots := 0, faultSet := m
    declPend := e.declPend ++ [(n, cause, m)] }) v

theorem engRetired_retired (n cause m : Nat) (s : State) : (engOf (engRetired n cause m s) n).retired = true :=
  congrArg EngS.retired
    (engOf_modEng n (fun e => { e with retired := true, live := false, ready := false, serves := none }) s)

theorem engOf_engRetired_ne {n k : Nat} (cause m : Nat) (s : State) (h : k ≠ n) :
    engOf (engRetired n cause m s) k = engOf s k :=
  engOf_modEng_ne (fun e => { e with retired := true, live := false, ready := false, serves := none }) s h

/-- Engine n, which serves set m, is declared failed: what waits is taken back and the engine retired. -/
def faultDeclared (n cause m : Nat) (s : State) : State := engRetired n cause m (resultsTaken n m s)

theorem engOf_faultDeclared_ne {n k : Nat} (cause m : Nat) (s : State) (h : k ≠ n) :
    engOf (faultDeclared n cause m s) k = engOf s k := by
  rw [faultDeclared, engOf_engRetired_ne cause m _ h, engOf_resultsTaken]

theorem spareFree_faultDeclared {n k : Nat} (cause m : Nat) (s : State) (h : k ≠ n) :
    spareFree (faultDeclared n cause m s) k = spareFree s k := by
  rw [spareFree, spareFree, engOf_faultDeclared_ne cause m s h]

/-- What the declaration of engine n, which serves set m, leaves. -/
structure FaultDeclared (n cause m : Nat) (s u : State) : Prop where
  retired : (engOf u n).retired = true
  katFail : u.ee.katFail = s.ee.katFail
  deadline : u.ee.deadline = s.ee.deadline
  faultCause : u.ee.faultCause = cause
  results : u.pt.results = s.pt.results
  zoomed : u.pt.zoomed = s.pt.zoomed.filter fun p => p.1 != n
  staged : StagedUpTo s.ee.declPend.length s u

theorem faultDeclared_facts (n cause m : Nat) (s : State) : FaultDeclared n cause m s (faultDeclared n cause m s) := by
  have hkat : (resultsTaken n m s).ee.katFail = s.ee.katFail := by rw [resultsTaken_ee]
  have hdead : (resultsTaken n m s).ee.deadline = s.ee.deadline := by rw [resultsTaken_ee]
  have hpt := resultsTaken_pt n m s
  have hstaged := resultsTaken_stagedUpTo n m s
  unfold faultDeclared
  generalize resultsTaken n m s = v at *
  exact ⟨engRetired_retired n cause m v, hkat, hdead, rfl, hpt.1, hpt.2, hstaged⟩

/-- The set of a failed engine: the spare EE16 takes it when it is free; with neither spare free it is lost. -/
theorem declareFault_of_set {n cause m : Nat} {s : State} (hset : Machine.setOf s n = some m) :
    (spareFree (faultDeclared n cause m s) 16 = true →
      ∃ since, declareFault n cause s = assignSpare 16 m since (faultDeclared n cause m s)) ∧
    (spareFree (faultDeclared n cause m s) 16 = false → spareFree (faultDeclared n cause m s) 17 = false →
      declareFault n cause s =
        logDeclared m 0 (setLost m (modEe (fun e => { e with spareUsed := true }) (faultDeclared n cause m s)))) := by
  unfold declareFault
  rw [hset]
  dsimp -zeta only
  extract_lets v since a b w
  have hv : v = zoomsTaken n m s := rfl
  have ha : a = resultsTaken n m s := by
    subst a
    rw [hv]
    rfl
  have hw : w = faultDeclared n cause m s := by
    rw [show w = engRetired n cause m a from rfl, ha]
    rfl
  rw [hw]
  refine ⟨fun h16 => ⟨since, ?_⟩, fun h16 h17 => ?_⟩
  · rw [if_pos h16]
  · rw [if_neg (Bool.eq_false_iff.mp h16), if_neg (Bool.eq_false_iff.mp h17)]

theorem setOf_own {n : Nat} {s : State} (hn : n < 16) (hok : (engOf s n).retired = false) : Machine.setOf s n = some n := by
  rw [Machine.setOf, hok, if_neg Bool.false_ne_true, if_pos hn]

/-- One of the first sixteen engines fails as one that serves its own set. -/
theorem engineFails_own {n cause : Nat} {s : State} (hn : n < 16) (hok : (engOf s n).retired = false) :
    engineFails n cause s = declareFault n cause s := by
  have hidle : (decide (16 ≤ n) && (engOf s n).serves.isNone) = false := by
    rw [decide_eq_false (Nat.not_le.mpr hn)]; rfl
  rw [engineFails, hok, if_neg Bool.false_ne_true, if_neg (Bool.eq_false_iff.mp hidle)]

/-- Engine n has been retired for a cause and EE16 serves its set. -/
structure SpareTakes (n cause : Nat) (s u : State) : Prop where
  retired : (engOf u n).retired = true
  serves : (engOf u 16).serves = some n
  katFail : u.ee.katFail = s.ee.katFail
  deadline : u.ee.deadline = s.ee.deadline
  spareUsed : u.ee.spareUsed = true
  faultCause : u.ee.faultCause = cause
  zoomed : u.pt.zoomed = s.pt.zoomed.filter fun p => p.1 != n
  results : u.pt.results = s.pt.results

/-- Spare n assigned to set m at an instant. -/
def spareGiven (m at_ since : Nat) (e : EngS) : EngS := { e with
  serves := some m, replayFrom := some at_, declAt := at_, ready := false, live := false, suspectFrom := since
  replayLeft := [] }

theorem assignSpare_serves (n m since : Nat) (s : State) : (engOf (assignSpare n m since s) n).serves = some m :=
  congrArg EngS.serves (engOf_modEng n (spareGiven m s.tb since) s)

theorem engOf_assignSpare_ne {n k : Nat} (m since : Nat) (s : State) (h : k ≠ n) :
    engOf (assignSpare n m since s) k = engOf s k := engOf_modEng_ne (spareGiven m s.tb since) s h

theorem engineFails_spareTakes {n cause : Nat} {s : State} (hn : n < 16) (hok : (engOf s n).retired = false)
    (hfree : spareFree s 16 = true) : SpareTakes n cause s (engineFails n cause s) := by
  have h16 : (16 : Nat) ≠ n := by omega
  obtain ⟨since, hfail⟩ := (declareFault_of_set (cause := cause) (setOf_own hn hok)).1
    ((spareFree_faultDeclared cause n s h16).trans hfree)
  have hfacts := faultDeclared_facts n cause n s
  rw [engineFails_own hn hok, hfail]
  generalize faultDeclared n cause n s = v at *
  exact {
    retired := by rw [engOf_assignSpare_ne n since v h16.symm]; exact hfacts.retired
    serves := assignSpare_serves 16 n since v
    katFail := hfacts.katFail
    deadline := hfacts.deadline
    spareUsed := rfl
    faultCause := hfacts.faultCause
    zoomed := hfacts.zoomed
    results := hfacts.results }

/-! ## A failed test and a missed deadline with EE16 free -/

theorem exec_knownAnswerTest_fails (t : Nat) (n : Fin 16) (s : State) (hok : (engOf s n).retired = false)
    (hidle : engineIdle s n = true) (htest : testDone s n = false) (howed : zoomOwed s n = false)
    (hfree : spareFree s 16 = true) :
    ∃ u, exec (.knownAnswerTest t (n.castLE (by decide)) false) s = .next u ∧ (engOf u n).retired = true ∧
      (engOf u 16).serves = some n.val ∧
      u.ee.katFail = satInc s.ee.katFail ∧
      u.ee.spareUsed = true ∧
      u.ee.faultCause = 2 ∧
      (u.pt.zoomed = s.pt.zoomed.filter fun p => p.1 != n.val) ∧
      u.pt.results = s.pt.results := by
  have h16 : (16 : Nat) ≠ n := by omega
  set v := modEe (fun e => { e with katFail := satInc e.katFail }) (tested n (s.start t)) with hv
  have he : exec (.knownAnswerTest t (n.castLE (by decide)) false) s = done (engineFails n 2 v) :=
    exec_knownAnswerTest (n := n.castLE (by decide)) false hok hidle htest howed
  have hok' : (engOf v n).retired = false :=
    (congrArg EngS.retired (engOf_modEng n (engTested s.rm.boundary) (s.start t))).trans hok
  have hspare : engOf v 16 = engOf s 16 := engOf_modEng_ne (engTested s.rm.boundary) (s.start t) h16
  have hfree' : spareFree v 16 = true := by rw [spareFree, hspare]; exact hfree
  obtain ⟨hret, hserves, hkat, -, hused, hcause, hzoom, hres⟩ := engineFails_spareTakes (cause := 2) n.isLt hok' hfree'
  generalize engineFails n 2 v = u at *
  exact ⟨settle u, he, hret, hserves, hkat, hused, hcause, hzoom, hres⟩

theorem exec_completionDeadlineMiss_declares (t : Nat) (n : Fin 16) (s : State) (hok : (engOf s n).retired = false)
    (hlate : pastDeadline (s.start t) n = true) (hfree : spareFree s 16 = true) :
    ∃ u, exec (.completionDeadlineMiss t (n.castLE (by decide))) s = .next u ∧ (engOf u n).retired = true ∧
      (engOf u 16).serves = some n.val ∧
      u.ee.deadline = satInc s.ee.deadline ∧
      u.ee.faultCause = 1 := by
  set v := modEe (fun e => { e with deadline := satInc e.deadline }) (s.start t) with hv
  have he : exec (.completionDeadlineMiss t (n.castLE (by decide))) s = done (engineFails n 1 v) := by
    change execCompletionDeadlineMiss t (n.castLE (by decide)) s = _
    unfold execCompletionDeadlineMiss
    extract_lets w
    rw [show Machine.setOf w (n.castLE (by decide : 16 ≤ 18)) = some n.val from setOf_own (s := s.start t) n.isLt hok]
    exact if_pos hlate
  obtain ⟨hret, hserves, -, hdead, -, hcause, -, -⟩ :=
    engineFails_spareTakes (s := v) (cause := 1) n.isLt hok hfree
  generalize engineFails n 1 v = u at *
  exact ⟨settle u, he, hret, hserves, hdead, hcause⟩

/-! ## ENGINE_SRAM_ECC_ERROR (R181, R189) -/

theorem exec_engineSramEccError_corrected (t : Nat) (n : Fin 18) (s : State) :
    ∃ u, exec (.engineSramEccError t n true) s = .next u ∧ u.ee = { s.ee with eccCorr := satInc s.ee.eccCorr } :=
  ⟨_, rfl, rfl⟩

/-- The first sixteen channels from 16 m on marked lost, as far as a list names them. -/
def chansLost (m : Nat) (l : List Nat) (s : State) : State :=
  l.foldl (fun s i => modChan (16 * m + i) (fun c => { c with lost := true }) s) s

theorem chansLost_only (m : Nat) (l : List Nat) (s : State) : Only [.chan] s (chansLost m l s) :=
  .foldl (fun _ _ h => .step modChan_only (by decide) h) .refl

theorem chansLost_lost {m i : Nat} {l : List Nat} {s : State} (h : i ∈ l ∨ (chanOf s (16 * m + i)).lost = true) :
    (chanOf (chansLost m l s) (16 * m + i)).lost = true := by
  induction l generalizing s with
  | nil => exact h.resolve_left List.not_mem_nil
  | cons j r ih =>
    refine ih (s := modChan (16 * m + j) (fun c => { c with lost := true }) s) ?_
    by_cases hj : i = j
    · subst hj
      exact .inr (by rw [chanOf_modChan])
    · rw [chanOf_modChan_ne _ s (show 16 * m + i ≠ 16 * m + j by omega)]
      exact h.imp_left fun hm => (List.mem_cons.mp hm).resolve_left hj

theorem setLost_eq (m : Nat) (s : State) : setLost m s = logNow 0x3403 m 0 (chansLost m (upto 16) s) := rfl

theorem setLost_lost {m i : Nat} (hi : i < 16) (s : State) : (chanOf (setLost m s) (16 * m + i)).lost = true := by
  have hlog : (logNow 0x3403 m 0 (chansLost m (upto 16) s)).chan = (chansLost m (upto 16) s).chan :=
    logNow_only.same .chan (by decide)
  rw [setLost_eq, chanOf_of_chan hlog]
  exact chansLost_lost (.inl (List.mem_range.mpr hi))

/-- The loss of a set is the newest entry of a staging queue with room. -/
theorem setLost_staging {m : Nat} {s : State} (h : s.log.staging.length < 16) :
    ∃ e, (setLost m s).log.staging = s.log.staging ++ [e] ∧ e.code = BitVec.ofNat 16 0x3403 ∧
      e.src = BitVec.ofNat 16 m ∧ e.data = BitVec.ofNat 32 0 := by
  have hlog : (chansLost m (upto 16) s).log = s.log := (chansLost_only ..).same .log (by decide)
  rw [setLost_eq, ← hlog]
  rw [← hlog] at h
  generalize chansLost m (upto 16) s = v at *
  exact ⟨_, logNow_staging h, rfl, rfl, rfl⟩

/-- An entry between what was staged and what is staged now has been logged. -/
theorem logged_of_staged {j k code src data : Nat} {s v w u : State} {e : LogE} (hv : StagedUpTo j s v)
    (hw : w.log.staging = v.log.staging ++ [e]) (hu : StagedUpTo k w u) (hcode : e.code = BitVec.ofNat 16 code)
    (hsrc : e.src = BitVec.ofNat 16 src) (hdata : e.data = BitVec.ofNat 32 data) : Logged s u code src data := by
  obtain ⟨es, -, hes⟩ := hv
  obtain ⟨fs, -, hfs⟩ := hu
  refine ⟨e, ?_, hcode, hsrc, hdata⟩
  rw [hfs, hw, hes, List.append_assoc, List.append_assoc, List.drop_left]
  simp

theorem exec_engineSramEccError_loses (t : Nat) (n i : Fin 16) (s : State) (hok : (engOf s n).retired = false)
    (h16 : spareFree s 16 = false) (h17 : spareFree s 17 = false) (hroom : LogRoom s (2 + s.ee.declPend.length)) :
    ∃ u, exec (.engineSramEccError t (n.castLE (by decide)) false) s = .next u ∧ (engOf u n).retired = true ∧
      (chanOf u (16 * n + i)).lost = true ∧
      u.ee.faultCause = 3 ∧
      Logged s u 0x3403 n 0 := by
  have hne16 : (16 : Nat) ≠ n := by omega
  have hne17 : (17 : Nat) ≠ n := by omega
  have hlost := (declareFault_of_set (s := s.start t) (cause := 3) (setOf_own n.isLt hok)).2
    ((spareFree_faultDeclared 3 n (s.start t) hne16).trans h16) ((spareFree_faultDeclared 3 n (s.start t) hne17).trans h17)
  have he : exec (.engineSramEccError t (n.castLE (by decide)) false) s = done (engineFails n 3 (s.start t)) := rfl
  rw [engineFails_own (s := s.start t) n.isLt hok, hlost] at he
  obtain ⟨hret, -, -, hcause, -, -, hstaged⟩ := faultDeclared_facts n 3 n (s.start t)
  generalize faultDeclared n 3 n (s.start t) = v at *
  have hlen : v.log.staging.length ≤ s.log.staging.length + s.ee.declPend.length := hstaged.length_le
  set w := modEe (fun e => { e with spareUsed := true }) v with hw
  obtain ⟨e, hstage, hcode, hsrc, hdata⟩ := setLost_staging (m := n) (s := w) (show v.log.staging.length < 16 by omega)
  have hend := logDeclared_stagedUpTo n 0 (setLost n w)
  have hee : (setLost n w).ee = w.ee := setLost_only.same .ee (by decide)
  have heng : (logDeclared n 0 (setLost n w)).ee.eng = v.ee.eng := by rw [logDeclared_ee, hee]; rfl
  have hcause' : (logDeclared n 0 (setLost n w)).ee.faultCause = 3 := by rw [logDeclared_ee, hee]; exact hcause
  have hchan : (logDeclared n 0 (setLost n w)).chan = (setLost n w).chan := logDeclared_only.same .chan (by decide)
  have hlostc : (chanOf (setLost n w) (16 * n + i)).lost = true := setLost_lost i.isLt w
  rw [← chanOf_of_chan hchan] at hlostc
  generalize logDeclared n 0 (setLost n w) = u at *
  refine ⟨settle u, he, ?_, hlostc, ?_, logged_of_staged hstaged hstage hend hcode hsrc hdata⟩
  · rw [engOf_settle, engOf_of_ee heng]; exact hret
  · rw [settle_ee]; exact hcause'

/-! ## Replays (R183 to R188) -/

theorem exec_spareReady_loaded (t : Nat) (k : Fin 2) (s : State) (hok : (engOf s (16 + k)).retired = false)
    (hserves : (engOf s (16 + k)).serves.isSome = true) (hfrom : (engOf s (16 + k)).replayFrom.isSome = true)
    (hload : (engOf s (16 + k)).ready = false) :
    ∃ u, exec (.spareReady t k) s = .next u ∧ (engOf u (16 + k)).ready = true := by
  have hgo : ((engOf (s.start t) (16 + k)).retired || (engOf (s.start t) (16 + k)).serves.isNone ||
      (engOf (s.start t) (16 + k)).replayFrom.isNone || (engOf (s.start t) (16 + k)).ready) = false := by
    rw [show engOf (s.start t) (16 + k) = engOf s (16 + k) from rfl, hok, hload, ← Option.not_isSome, hserves,
      ← Option.not_isSome, hfrom]
    rfl
  have he : exec (.spareReady t k) s =
      done (replayEnd (16 + k) (modEng (16 + k) (fun e => { e with ready := true }) (s.start t))) :=
    if_neg (Bool.eq_false_iff.mp hgo)
  refine ⟨_, he, ?_⟩
  rw [engOf_settle, engOf_replayEnd, engOf_modEng]

/-- Of the echo engines only the shadow buffer and the snapshot requested changed. -/
structure EnginesKept (s u : State) : Prop where
  ee : u.ee = { s.ee with shadow := u.ee.shadow, snapArmed := u.ee.snapArmed }

theorem EnginesKept.of_shadowOnly {s u : State} (h : ShadowOnly s u) : EnginesKept s u := ⟨by rw [h.ee]⟩

theorem EnginesKept.of_ee {s u : State} (h : u.ee = s.ee) : EnginesKept s u := ⟨by rw [h]⟩

theorem EnginesKept.trans {s t u : State} (h : EnginesKept s t) (g : EnginesKept t u) : EnginesKept s u :=
  ⟨by rw [g.ee, h.ee]⟩

theorem snapshotGo_enginesKept (u : ShUnit) (c : Nat) (peaks : List (Int × Nat)) (s : State) :
    EnginesKept s (snapshotGo u c peaks s) := .of_ee (snapshotGo_only.same .ee (by decide))

theorem sendSnapshot_enginesKept (u : ShUnit) (c : Nat) (zoom : Bool) (s : State) :
    EnginesKept s (sendSnapshot u c zoom s) := by
  unfold sendSnapshot
  extract_lets v
  have hv : EnginesKept s v := ⟨rfl⟩
  split
  · split
    · exact hv.trans (.of_ee rfl)
    · exact hv.trans (snapshotGo_enginesKept ..)
  · exact .of_ee rfl

/-- A replayed group is given as a live one, with its snapshot. -/
theorem replayGroup_given (u : ShUnit) (c : Nat) (s : State) :
    (chanOf (replayGroup u c s) c).doneAt = max (chanOf s c).doneAt (u.tStart + 1) ∧
      EnginesKept s (replayGroup u c s) := by
  have hdone := groupResult_doneAt u c true s
  have hkept : EnginesKept s (groupResult u c true s).1 := .of_shadowOnly (groupResult_shadowOnly ..)
  unfold replayGroup
  extract_lets h fresh
  generalize groupResult u c true s = g at *
  obtain ⟨v, recs, peaks⟩ := g
  change (chanOf v c).doneAt = _ at hdone
  change EnginesKept s v at hkept
  dsimp -zeta only
  extract_lets zoom w x
  have hw : DoneKept v w ∧ EnginesKept v w :=
    ⟨.of_chan (deliver_only.same .chan (by decide)), .of_ee (deliver_only.same .ee (by decide))⟩
  have hx : DoneKept w x ∧ EnginesKept w x := by
    subst x
    split
    · exact ⟨sendSnapshot_doneKept .., sendSnapshot_enginesKept ..⟩
    · exact ⟨.refl w, .of_ee rfl⟩
  have hdx : (chanOf x c).doneAt = max (chanOf s c).doneAt (u.tStart + 1) := ((hw.1.trans hx.1).doneAt c).trans hdone
  have hkx : EnginesKept s x := hkept.trans (hw.2.trans hx.2)
  split
  · exact ⟨((snapshotGo_doneKept ..).doneAt c).trans hdx, hkx.trans (snapshotGo_enginesKept ..)⟩
  · exact ⟨hdx, hkx⟩

/-- A replayed channel-shot or group of channel c: without measurement where the channel failed. -/
def replayed (u : ShUnit) (c : Nat) (s : State) : State :=
  if (chanOf s c).failed then noMeasure u c s else if s.ee.hist then replayGroup u c s else echoShot u c true s

theorem replayed_given (u : ShUnit) (c : Nat) (s : State) :
    (chanOf (replayed u c s) c).doneAt = max (chanOf s c).doneAt (u.tStart + 1) ∧ EnginesKept s (replayed u c s) := by
  unfold replayed
  split
  · exact ⟨noMeasure_doneAt .., .of_shadowOnly (noMeasure_shadowOnly ..)⟩
  · split
    · exact replayGroup_given u c s
    · exact ⟨echoShot_doneAt .., .of_shadowOnly (echoShot_shadowOnly ..)⟩

theorem replayed_result {u : ShUnit} {c : Nat} {s : State} (hmode : s.ee.hist = false)
    (hok : (chanOf s c).failed = false) (hrecs : echoRecords s u c true ≠ []) :
    ∃ r ∈ (replayed u c s).pt.results, r.replayed = true ∧ r.recs = echoRecords s u c true := by
  obtain ⟨r, hr, h, -, hrep⟩ := echoShot_result hrecs
  rw [replayed, hok, if_neg Bool.false_ne_true, hmode, if_neg Bool.false_ne_true]
  exact ⟨r, hr, hrep, h⟩

/-- A replay by spare n counted. -/
def replayCounted (n : Nat) (u : ShUnit) (c : Nat) (s : State) : State :=
  let v := modEng n (fun e => { e with replayLeft := e.replayLeft ++ [(c, u.tStart)] }) s
  let late := (v.tb - (closeOf u + 120 * nsU)) / nsU
  modEe (fun e => { e with
    replayShots := satInc e.replayShots, replayed := satInc e.replayed
    faultShots := if e.faultSet = c / 16 then min 255 (e.faultShots + 1) else e.faultShots
    maxLat := BitVec.ofNat 32 (max e.maxLat.toNat (min late 0xFFFFFFFF)) }) v

theorem replayCounted_mem (n : Nat) (u : ShUnit) (c : Nat) (s : State) :
    (c, u.tStart) ∈ (engOf (replayCounted n u c s) n).replayLeft := by
  have h : (engOf (replayCounted n u c s) n).replayLeft = (engOf s n).replayLeft ++ [(c, u.tStart)] :=
    congrArg EngS.replayLeft (engOf_modEng n (fun e => { e with replayLeft := e.replayLeft ++ [(c, u.tStart)] }) s)
  rw [h]
  exact List.mem_concat_self

theorem exec_replayedResult {t n : Nat} {chan : Fin 256} {s : State} {x : ShUnit} {r : List ShUnit}
    (hspare : spareFor s (chan / 16) = some n) (hready : (engOf s n).ready = true) (hlive : (engOf s n).live = false)
    (hrx : rxEnabled s chan = true) (hunits : replayUnits s n chan = x :: r)
    (hfirst : replayFirst s n (chan / 16) x = true) :
    exec (.replayedResult t chan) s =
      done (replayEnd n (replayCounted n x chan (replayed x chan (s.start t)))) := by
  have hgo : (!(engOf (s.start t) n).ready || (engOf (s.start t) n).live || !rxEnabled (s.start t) chan) = false := by
    rw [show engOf (s.start t) n = engOf s n from rfl, hready, hlive, show rxEnabled (s.start t) chan = true from hrx]
    rfl
  have hturn : (!replayFirst (s.start t) n (chan / 16) x) = false := by
    rw [show replayFirst (s.start t) n (chan / 16) x = true from hfirst]; rfl
  change execReplayedResult t chan s = _
  unfold execReplayedResult
  extract_lets v c
  rw [show spareFor v (c / 16) = some n from hspare]
  refine (if_neg (Bool.eq_false_iff.mp hgo)).trans ?_
  rw [show replayUnits v n c = x :: r from hunits]
  exact if_neg (Bool.eq_false_iff.mp hturn)

theorem exec_replayedResult_replays (t : Nat) (chan : Fin 256) (s : State) (n : Nat) (x : ShUnit) (r : List ShUnit)
    (hspare : spareFor s (chan / 16) = some n) (hready : (engOf s n).ready = true) (hlive : (engOf s n).live = false)
    (hrx : rxEnabled s chan = true) (hunits : replayUnits s n chan = x :: r)
    (hfirst : replayFirst s n (chan / 16) x = true) :
    ∃ u, exec (.replayedResult t chan) s = .next u ∧
      (chanOf u chan).doneAt = max (chanOf s chan).doneAt (x.tStart + 1) ∧
      (s.ee.hist = false → (chanOf s chan).failed = false → echoRecords (s.start t) x chan true ≠ [] →
        ∃ r ∈ u.pt.results, r.replayed = true ∧ r.recs = echoRecords (s.start t) x chan true) ∧
      (chan.val, x.tStart) ∈ (engOf u n).replayLeft ∧
      u.ee.replayShots = satInc s.ee.replayShots ∧
      u.ee.replayed = satInc s.ee.replayed := by
  have he := exec_replayedResult (t := t) hspare hready hlive hrx hunits hfirst
  obtain ⟨hdone, hkept⟩ := replayed_given x chan (s.start t)
  have hres := replayed_result (u := x) (c := chan) (s := s.start t)
  have hshots : (replayed x chan (s.start t)).ee.replayShots = s.ee.replayShots := by rw [hkept.ee]; rfl
  have hcount : (replayed x chan (s.start t)).ee.replayed = s.ee.replayed := by rw [hkept.ee]; rfl
  generalize replayed x chan (s.start t) = v at *
  have hmem := replayCounted_mem n x chan v
  have hpt : (replayCounted n x chan v).pt = v.pt := rfl
  have hchan : (replayCounted n x chan v).chan = v.chan := rfl
  have hshots' : (replayCounted n x chan v).ee.replayShots = satInc s.ee.replayShots := congrArg satInc hshots
  have hcount' : (replayCounted n x chan v).ee.replayed = satInc s.ee.replayed := congrArg satInc hcount
  generalize replayCounted n x chan v = w at *
  have hwpt : (replayEnd n w).pt = w.pt := replayEnd_only.same .pt (by decide)
  have hwchan : (replayEnd n w).chan = w.chan := replayEnd_only.same .chan (by decide)
  have hwee := replayEnd_ee n w
  rw [← engOf_replayEnd n n w] at hmem
  generalize replayEnd n w = u at *
  refine ⟨settle u, he, ?_, ?_, hmem, ?_, ?_⟩
  · rw [chanOf_of_chan (settle_chan u), chanOf_of_chan hwchan, chanOf_of_chan hchan]; exact hdone
  · rw [settle_pt, hwpt, hpt]; exact hres
  · rw [settle_ee, hwee]; exact hshots'
  · rw [settle_ee, hwee]; exact hcount'

/-- Settles O27: each clause is the lemma above about its command. -/
theorem engineFailures : Obligations.EngineFailures :=
  ⟨exec_knownAnswerTest_passes, exec_knownAnswerTest_releases, exec_knownAnswerTest_fails,
    exec_completionDeadlineMiss_declares, exec_engineSramEccError_corrected, exec_engineSramEccError_loses,
    exec_spareReady_loaded, exec_replayedResult_replays⟩

end Sys2Proof.Engines
end

section
/-!
Tuning Slide: tap-table builds and their agreement test, the stale state of lines and channels, a missing reference and the
image of the committed sets (R226, R227, R229, R230, R239 to R241, R246).
-/
namespace Sys2Proof.Tuning

open Sys2Proof Sys2Proof.Machine Sys2Proof.Stamps Sys2Proof.Served Sys2Proof.Engines

/-! ## Lines, parameters and builds -/

theorem lineOf_of_lines {s u : State} (h : u.ts.lines = s.ts.lines) (l : Nat) : lineOf u l = lineOf s l :=
  congrArg (bget ({} : LineS) · l) h

@[simp] theorem lineOf_start (t l : Nat) (s : State) : lineOf (s.start t) l = lineOf s l := rfl

@[simp] theorem lineOf_settle (l : Nat) (s : State) : lineOf (settle s) l = lineOf s l := rfl

@[simp] theorem parB_start (t num sub : Nat) (s : State) : parB (s.start t) num sub = parB s num sub := rfl

theorem par_of_inForce {s u : State} (h : u.dict.inForce = s.dict.inForce) (num sub : Nat) :
    par u num sub = par s num sub := by
  unfold par; rw [h]

@[simp] theorem calOf_modCal (hist : Bool) (f : CalM → CalM) (x : ChanS) :
    calOf hist (modCal hist f x) = f (calOf hist x) := by
  cases hist <;> rfl

theorem calOf_withStaleCause (hist : Bool) (x : ChanS) (v : BitVec 8) :
    calOf hist { x with staleCause := v } = calOf hist x := by
  cases hist <;> rfl

@[simp] theorem modLine_chan (l : Nat) (f : LineS → LineS) (s : State) : (modLine l f s).chan = s.chan := rfl

/-! ## Numbers from bits -/

theorem ofBits_succ (n : Nat) (f : Nat → Bool) : ofBits (n + 1) f = ofBits n f + if f n then 2 ^ n else 0 := by
  simp [ofBits, nsum, List.range_succ]

theorem ofBits_lt (n : Nat) (f : Nat → Bool) : ofBits n f < 2 ^ n := by
  induction n with
  | zero => exact Nat.one_pos
  | succ n ih =>
    rw [ofBits_succ, Nat.pow_succ]
    split <;> omega

theorem testBit_ofBits (n : Nat) (f : Nat → Bool) (i : Nat) : (ofBits n f).testBit i = (decide (i < n) && f i) := by
  induction n with
  | zero => simp [ofBits, nsum]
  | succ n ih =>
    have hlow := ofBits_lt n f
    rw [ofBits_succ]
    cases hn : f n with
    | false =>
      rw [if_neg Bool.false_ne_true, Nat.add_zero, ih]
      by_cases h : i = n
      · simp [h, hn]
      · rw [decide_eq_decide.mpr (show i < n ↔ i < n + 1 by omega)]
    | true =>
      rw [if_pos rfl, Nat.add_comm]
      obtain h | rfl | h := Nat.lt_trichotomy i n
      · rw [Nat.testBit_two_pow_add_gt h, ih]; simp [h, Nat.lt_succ_of_lt h]
      · rw [Nat.testBit_two_pow_add_eq, Nat.testBit_lt_two_pow hlow]; simp [hn]
      · have hi : 2 ^ n + ofBits n f < 2 ^ i :=
          Nat.lt_of_lt_of_le (by rw [Nat.pow_succ]; omega) (Nat.pow_le_pow_right Nat.two_pos h)
        rw [Nat.testBit_lt_two_pow hi]; simp [show ¬ i < n + 1 by omega]

/-! ## The stale state (R240, R241, R243) -/

/-- A refreshed channel differs in its causes alone, which are those that hold. -/
theorem chanOf_refreshStale (s : State) (c : Nat) :
    chanOf (refreshStale s c) c = { chanOf s c with staleCause := BitVec.ofNat 8 (chanCause s c) } := by
  unfold refreshStale
  extract_lets old new u
  have hu : chanOf u c = { chanOf s c with staleCause := new } := chanOf_modChan ..
  have hlog (code data : Nat) : chanOf (logNow code c data u) c = chanOf u c :=
    chanOf_of_chan (logNow_only.same .chan (by decide)) c
  split
  · next h => exact congrArg (fun v => { chanOf s c with staleCause := v }) h
  · split
    · rw [hlog, hu]
    · split
      · rw [hlog, hu]
      · exact hu

/-- A refresh logs one entry at most (R243). -/
theorem refreshStale_stagedUpTo (s : State) (c : Nat) : StagedUpTo 1 s (refreshStale s c) := by
  unfold refreshStale
  extract_lets old new u
  have hu : StagedUpTo 0 s u := .of_log 0 rfl
  split
  · exact .of_log 1 rfl
  · split
    · exact hu.trans (logNow_stagedUpTo ..)
    · split
      · exact hu.trans (logNow_stagedUpTo ..)
      · exact .of_log 1 rfl

theorem refreshMon_ts (s : State) (b : Nat) :
    (refreshMon s b).ts = { s.ts with staleMon := BitVec.ofNat 8 (ofBits 4 (monStale s)) } :=
  (Only.foldl (l := [.chan, .eic, .log, .pci, .slk, .out])
    (fun _ _ h => .step refreshStale_only (by decide) h) .refl).same .ts (by decide)

/-- Of Tuning Slide, the stale state that follows a line moves CAL_STALE_MON alone (R240, R247). -/
theorem refreshLine_ts (l : Nat) (s : State) :
    (refreshLine l s).ts = { s.ts with staleMon := (refreshLine l s).ts.staleMon } := by
  unfold refreshLine
  split
  · rw [show (refreshStale s (l / 3)).ts = s.ts from refreshStale_only.same .ts (by decide)]
  · rw [refreshMon_ts]

@[simp] theorem refreshLine_disagreeCnt (l : Nat) (s : State) :
    (refreshLine l s).ts.disagreeCnt = s.ts.disagreeCnt := by rw [refreshLine_ts]

@[simp] theorem lineOf_refreshLine (l k : Nat) (s : State) : lineOf (refreshLine l s) k = lineOf s k :=
  lineOf_of_lines (by rw [refreshLine_ts]) k

/-- A missing reference is a cause of an enabled channel (R239, R241). -/
theorem chanCause_of_miss {s : State} {c : Nat} (hrx : rxEnabled s c = true)
    (hmiss : (calOf s.ee.hist (chanOf s c)).miss = true) : (chanCause s c).testBit 3 = true := by
  unfold chanCause
  rw [hrx, Bool.not_true, if_neg Bool.false_ne_true]
  extract_lets x noSet
  rw [testBit_ofBits, decide_eq_true (by decide), Bool.true_and]
  exact hmiss

/-! ## TAP_BUILD_COMPLETE (R226, R227) -/

/-- The counters of a build wait for their test with its mean replica length. -/
def setAside (y : LineS) : LineS :=
  { y with done := some (lineCounts y, if y.lenN = 0 then y.lenFrom else (rdiv (y.lenSum : Int) y.lenN).toNat) }

theorem exec_tapBuildComplete_waits (t : Nat) (l : Fin 780) (s : State) (hhits : 262144 ≤ (lineOf s l).hits)
    (hon : parB s 0x3400 0 = true) :
    ∃ u, exec (.tapBuildComplete t l) s = .next u ∧
      (lineOf u l).done.map (·.1) = some (lineCounts (lineOf s l)) ∧ (lineOf u l).hits = 0 ∧ (lineOf u l).h = [] ∧
      u.chan = s.chan := by
  have hgo : ¬ ((lineOf (s.start t) l).hits < 262144 || !parB (s.start t) 0x3400 0) = true := by
    rw [lineOf_start, parB_start, hon, decide_eq_false (Nat.not_lt.mpr hhits)]
    decide
  have he : exec (.tapBuildComplete t l) s = done (buildRestart l (modLine l setAside (s.start t))) := if_neg hgo
  refine ⟨_, he, ?_⟩
  simp [buildRestart, setAside]

/-! ## AGREEMENT_TEST (R229 to R231) -/

/-- A completed build waits for a second. -/
def firstOfPair (b : List Nat × Nat) (y : LineS) : LineS := { y with done := none, first := some b }

/-- Two builds that agree give the shadow table. -/
def pairAgreed (a b : List Nat × Nat) (y : LineS) : LineS :=
  { y with done := none, first := none, disagree := 0, shadow := some (pairTable a b) }

/-- Of two builds that do not agree the later waits, and the third such pair in a row makes the line stale. -/
def pairDisagreed (b : List Nat × Nat) (y : LineS) : LineS :=
  { firstOfPair b y with disagree := y.disagree + 1, stale := y.stale || decide (3 ≤ y.disagree + 1) }

/-- A disagreement is counted (R248). -/
def disagreementCounted (s : State) : State := modTs (fun c => { c with disagreeCnt := satInc c.disagreeCnt }) s

theorem exec_agreementTest_pair {t : Nat} {l : Fin 780} {s : State} {a b : List Nat × Nat}
    (hon : parB s 0x3400 0 = true) (hdone : (lineOf s l).done = some b) (hfirst : (lineOf s l).first = some a) :
    exec (.agreementTest t l) s = if buildsAgree a b then done (modLine l (pairAgreed a b) (s.start t))
      else done (refreshLine l (disagreementCounted (modLine l (pairDisagreed b) (s.start t)))) := by
  change execAgreementTest t l s = _
  simp only [execAgreementTest, lineOf_start, parB_start, hdone, hon, hfirst, Bool.not_true, Bool.false_eq_true, if_false]
  rfl

theorem exec_agreementTest_first (t : Nat) (l : Fin 780) (s : State) (b : List Nat × Nat)
    (hon : parB s 0x3400 0 = true) (hdone : (lineOf s l).done = some b) (hfirst : (lineOf s l).first = none) :
    ∃ u, exec (.agreementTest t l) s = .next u ∧ (lineOf u l).first = some b ∧ (lineOf u l).done = none := by
  have he : exec (.agreementTest t l) s = done (modLine l (firstOfPair b) (s.start t)) := by
    change execAgreementTest t l s = _
    simp only [execAgreementTest, lineOf_start, parB_start, hdone, hon, hfirst, Bool.not_true, Bool.false_eq_true,
      if_false]
    rfl
  refine ⟨_, he, ?_⟩
  simp [firstOfPair]

theorem exec_agreementTest_agrees (t : Nat) (l : Fin 780) (s : State) (a b : List Nat × Nat)
    (hon : parB s 0x3400 0 = true) (hdone : (lineOf s l).done = some b) (hfirst : (lineOf s l).first = some a)
    (hagree : buildsAgree a b = true) :
    ∃ u, exec (.agreementTest t l) s = .next u ∧ (lineOf u l).shadow = some (pairTable a b) ∧
      (lineOf u l).first = none ∧ (lineOf u l).disagree = 0 := by
  have he := exec_agreementTest_pair (t := t) hon hdone hfirst
  rw [if_pos hagree] at he
  refine ⟨_, he, ?_⟩
  simp [pairAgreed]

theorem exec_agreementTest_disagrees (t : Nat) (l : Fin 780) (s : State) (a b : List Nat × Nat)
    (hon : parB s 0x3400 0 = true) (hdone : (lineOf s l).done = some b) (hfirst : (lineOf s l).first = some a)
    (hagree : buildsAgree a b = false) :
    ∃ u, exec (.agreementTest t l) s = .next u ∧ (lineOf u l).first = some b ∧
      (lineOf u l).disagree = (lineOf s l).disagree + 1 ∧
      (lineOf u l).stale = ((lineOf s l).stale || decide (3 ≤ (lineOf s l).disagree + 1)) ∧
      u.ts.disagreeCnt = satInc s.ts.disagreeCnt := by
  have he := exec_agreementTest_pair (t := t) hon hdone hfirst
  rw [if_neg (Bool.eq_false_iff.mp hagree)] at he
  set v := modLine l (pairDisagreed b) (s.start t) with hv
  have hline : lineOf (settle (refreshLine l (disagreementCounted v))) l = pairDisagreed b (lineOf s l) := by
    rw [lineOf_settle, lineOf_refreshLine, show lineOf (disagreementCounted v) l = lineOf v l from rfl, hv,
      lineOf_modLine, lineOf_start]
  have hcount : (refreshLine l (disagreementCounted v)).ts.disagreeCnt = satInc s.ts.disagreeCnt := by
    rw [refreshLine_disagreeCnt]; rfl
  exact ⟨_, he, congrArg LineS.first hline, congrArg LineS.disagree hline, congrArg LineS.stale hline, hcount⟩

/-! ## REFERENCE_MISSING (R239) -/

/-- A build without its reference is marked and starts again at a frame count. -/
def restartMissing (frames : Nat) (m : CalM) : CalM := { m with miss := true, filed := [], from_ := frames }

/-- The build of the mode in force of channel c is marked and starts again. -/
def buildMissed (c : Nat) (s : State) : State := modChan c (modCal s.ee.hist (restartMissing (framesDone s))) s

/-- The channel's stale state follows. -/
def referenceMissed (c : Nat) (s : State) : State := refreshStale (buildMissed c s) c

theorem calOf_buildMissed (c : Nat) (s : State) : calOf s.ee.hist (chanOf (buildMissed c s) c) =
    restartMissing (framesDone s) (calOf s.ee.hist (chanOf s c)) := by
  rw [buildMissed, chanOf_modChan, calOf_modCal]

theorem calOf_referenceMissed (c : Nat) (s : State) : calOf s.ee.hist (chanOf (referenceMissed c s) c) =
    restartMissing (framesDone s) (calOf s.ee.hist (chanOf s c)) := by
  rw [referenceMissed, chanOf_refreshStale, calOf_withStaleCause, calOf_buildMissed]

theorem referenceMissed_staleCause {c : Nat} {s : State} (hrx : rxEnabled s c = true) :
    (chanOf (referenceMissed c s) c).staleCause.getLsbD 3 = true := by
  have hmiss : (calOf s.ee.hist (chanOf (buildMissed c s) c)).miss = true := congrArg CalM.miss (calOf_buildMissed c s)
  have hcause : (chanCause (buildMissed c s) c).testBit 3 = true := chanCause_of_miss hrx hmiss
  rw [referenceMissed, chanOf_refreshStale, BitVec.getLsbD_ofNat, hcause]
  rfl

/-- The entry of a log with room stays among those put there, whatever is staged after it. -/
theorem logged_of_stagedUpTo {k code src data : Nat} {s u : State} (hroom : LogRoom s 1)
    (h : StagedUpTo k (logNow code src data s) u) : Logged s u code src data := by
  obtain ⟨es, -, hu⟩ := h
  rw [logNow_staging hroom, List.append_assoc] at hu
  refine ⟨{ t := t64Now s, code := BitVec.ofNat 16 code, src := BitVec.ofNat 16 src, data := BitVec.ofNat 32 data },
    ?_, rfl, rfl, rfl⟩
  rw [hu, List.drop_left]
  exact List.mem_cons_self

theorem exec_referenceMissing {t : Nat} {chan : Fin 256} {s : State} (hrx : rxEnabled s chan = true)
    (hframes : (calOf s.ee.hist (chanOf s chan)).from_ + parN s 0x3413 0 ≤ framesDone s) :
    exec (.referenceMissing t chan) s = done (referenceMissed chan (logNow 0x1603 chan 0 (s.start t))) := by
  have hgo : (rxEnabled s chan &&
      decide ((calOf s.ee.hist (chanOf s chan)).from_ + parN s 0x3413 0 ≤ framesDone s)) = true := by
    rw [hrx, decide_eq_true hframes]; rfl
  have hee : (logNow 0x1603 chan 0 (s.start t)).ee = s.ee := logNow_only.same .ee (by decide)
  rw [referenceMissed, buildMissed, hee]
  exact if_pos hgo

theorem exec_referenceMissing_marks (t : Nat) (chan : Fin 256) (s : State) (hrx : rxEnabled s chan = true)
    (hframes : (calOf s.ee.hist (chanOf s chan)).from_ + parN s 0x3413 0 ≤ framesDone s) (hroom : LogRoom s 1) :
    ∃ u, exec (.referenceMissing t chan) s = .next u ∧ (calOf s.ee.hist (chanOf u chan)).miss = true ∧
      (calOf s.ee.hist (chanOf u chan)).filed = [] ∧
      (calOf s.ee.hist (chanOf u chan)).from_ = framesDone s ∧
      (chanOf u chan).staleCause.getLsbD 3 = true ∧
      Logged s u 0x1603 chan 0 := by
  have he := exec_referenceMissing (t := t) hrx hframes
  have hlog : Logged s (referenceMissed chan (logNow 0x1603 chan 0 (s.start t))) 0x1603 chan 0 :=
    logged_of_stagedUpTo (s := s.start t) hroom (refreshStale_stagedUpTo ..)
  have hee : (logNow 0x1603 chan 0 (s.start t)).ee = s.ee := logNow_only.same .ee (by decide)
  have hrm : (logNow 0x1603 chan 0 (s.start t)).rm = s.rm := logNow_rm ..
  have hdict : (logNow 0x1603 chan 0 (s.start t)).dict = s.dict := logNow_only.same .dict (by decide)
  generalize logNow 0x1603 chan 0 (s.start t) = w at *
  have hfr : framesDone w = framesDone s := by unfold framesDone; rw [hrm]
  have hrxw : rxEnabled w chan = true := by
    rw [← hrx]; unfold rxEnabled parN parI; rw [par_of_inForce (congrArg DictS.inForce hdict)]
  have hbuild := calOf_referenceMissed chan w
  rw [hee, hfr] at hbuild
  have hcause := referenceMissed_staleCause hrxw
  exact ⟨settle (referenceMissed chan w), he, congrArg CalM.miss hbuild, congrArg CalM.filed hbuild,
    congrArg CalM.from_ hbuild, hcause, hlog⟩

/-! ## CAL_SNAPSHOT (R246) -/

theorem dlook_bset_self (b : Bank DVal) (k : Nat) (v : DVal) : dlook (bset b k v) k = some v := by
  induction b with
  | nil => simp [bset, dlook]
  | cons x r ih =>
    obtain ⟨j, w⟩ := x
    unfold bset
    split
    · simp [dlook]
    · split
      · simp [dlook]
      · next h1 h2 => simp [dlook, h1, h2, ih]

@[simp] theorem par_setPar (num sub : Nat) (v : DVal) (s : State) : par (setPar num sub v s) num sub = v := by
  unfold par setPar
  rw [dlook_bset_self]

/-- The image speaks of the channels alone. -/
theorem calImage_of_chan {s u : State} (h : u.chan = s.chan) : calImage u = calImage s := by
  have hstep (k : Nat) : calImageStep u k = calImageStep s k := by
    unfold calImageStep; simp only [chanOf_of_chan h]
  unfold calImage
  simp only [hstep]

theorem calSnap_stored (s : State) : parBytes (calSnap s) 0x3421 0 = calImage s :=
  congrArg dvBytes ((par_of_inForce (s := setPar 0x3421 0 (.bytes (calImage s)) s) rfl ..).trans (par_setPar ..))

/-- An accepted WRITE of a write-only entry, answered at once, leaves what its effect gives but for the dictionary record,
the session and the transport, and puts out its response. -/
theorem serveWrite_writeOnly {t ep num sub : Nat} {tag : Byte} {val : List Byte} {s v : State}
    (h : Accepts s t ep tag num sub val) (hacc : (dictFind num sub).map (·.acc) = some .wo)
    (heffect : woWrite ep num sub val (s.start t) = rspOk v) (hwait : waitsFor (wreq tag num sub val) 0 = none) :
    Only [.car, .eic, .pci, .xi, .slk, .out] v (serveWrite ep tag num sub val (s.start t)) ∧
      .xiest ep (rspMsg (wreq tag num sub val) 0 []) ∈ (serveWrite ep tag num sub val (s.start t)).out := by
  obtain ⟨hserves, hstatus⟩ := h
  obtain ⟨row, hrow, hwo⟩ := Option.map_eq_some_iff.mp hacc
  have hwrite := xiWrite_writeOnly (r := wreq tag num sub val) hstatus hrow hwo heffect
  rw [serveWrite_accepted hserves hwrite hwait]
  exact ⟨.step respond_only (by decide) (.step remember_only (by decide) (dictRecord_only.mono (by decide))),
    respond_emits ..⟩

theorem exec_calSnapshot_stores (t : Nat) (ep : Fin 10) (tag : BitVec 8) (s : State)
    (h : Accepts s t ep tag 0x3420 0 [1]) :
    ∃ u, exec (.calSnapshot t ep tag true) s = .next u ∧ parBytes u 0x3421 0 = calImage s ∧
      Emits u (.xiest ep (rspMsg (wreq tag 0x3420 0 [1]) 0 [])) := by
  have hwait : waitsFor (wreq tag 0x3420 0 [1]) 0 = none := by simp only [waitsFor, mkReq]; decide
  obtain ⟨honly, hemits⟩ := serveWrite_writeOnly (v := calSnap (s.start t)) h (by decide) rfl hwait
  have he : exec (.calSnapshot t ep tag true) s = done (serveWrite ep tag 0x3420 0 [1] (s.start t)) := rfl
  have hdict : (serveWrite ep tag 0x3420 0 [1] (s.start t)).dict = (calSnap (s.start t)).dict :=
    honly.same .dict (by decide)
  refine ⟨_, he, ?_, hemits⟩
  calc parBytes (settle (serveWrite ep tag 0x3420 0 [1] (s.start t))) 0x3421 0
      = parBytes (calSnap (s.start t)) 0x3421 0 := congrArg dvBytes (par_of_inForce (congrArg DictS.inForce hdict) ..)
    _ = calImage (s.start t) := calSnap_stored _
    _ = calImage s := calImage_of_chan rfl

/-- Settles O28: each clause is the lemma above about its command. -/
theorem selfTuning : Obligations.SelfTuning :=
  ⟨exec_tapBuildComplete_waits, exec_agreementTest_first, exec_agreementTest_agrees, exec_agreementTest_disagrees,
    exec_referenceMissing_marks, exec_calSnapshot_stores⟩

end Sys2Proof.Tuning
end

section
/-!
What sending leaves of the Scan Link lanes, and how little the interrupts and the host rings read of them: a lane's state and
whether its transmitter sleeps (R493 to R502, R526 to R534, R572 to R574, R592).
-/
namespace Sys2Proof.Lanes

open Sys2Proof Sys2Proof.Machine

/-! ## What sending leaves of a lane -/

/-- A lane without its sequence numbers and what its transmitter sends from: queue, replay buffer, awaited ACKs, sleep. -/
def laneRest (l : SlkS) : SlkS :=
  { l with rxSeq := 0, txSeq := 0, replay := [], queue := [], waitFrom := none, txSleep := false, irqOpen := [] }

/-- The lanes differ in what they send from alone, and a transmitter that is awake stays awake. -/
structure SendingOnly (s u : State) : Prop where
  rest : ∀ n, laneRest (laneOf u n) = laneRest (laneOf s n)
  awake : ∀ n, (laneOf s n).txSleep = false → (laneOf u n).txSleep = false

theorem SendingOnly.trans {s t u : State} (h : SendingOnly s t) (g : SendingOnly t u) : SendingOnly s u :=
  ⟨fun n => (g.rest n).trans (h.rest n), fun n a => g.awake n (h.awake n a)⟩

theorem SendingOnly.sleepAck {s u : State} (h : SendingOnly s u) (n : Nat) :
    (laneOf u n).sleepAck = (laneOf s n).sleepAck := by
  have hrest := congrArg SlkS.sleepAck (h.rest n)
  exact hrest

theorem laneOf_of_slk {s u : State} (h : u.slk = s.slk) (n : Nat) : laneOf u n = laneOf s n := by
  unfold laneOf; rw [h]

theorem SendingOnly.of_slk {s u : State} (h : u.slk = s.slk) : SendingOnly s u :=
  ⟨fun n => by rw [laneOf_of_slk h], fun n a => by rw [laneOf_of_slk h]; exact a⟩

theorem SendingOnly.refl (s : State) : SendingOnly s s := .of_slk rfl

theorem SendingOnly.foldl {α : Type} {f : State → α → State} (h : ∀ s x, SendingOnly s (f s x)) (l : List α)
    (s : State) : SendingOnly s (l.foldl f s) := by
  induction l generalizing s with
  | nil => exact .refl s
  | cons x r ih => exact (h s x).trans (ih _)

/-- Before an operation that changes what lanes send from alone, another part of the state is updated. -/
theorem SendingOnly.after {s t u : State} (h : SendingOnly t u) (ht : t.slk = s.slk) : SendingOnly s u :=
  (SendingOnly.of_slk ht).trans h

theorem modLane_sendingOnly {f : SlkS → SlkS} (n : Nat) (s : State)
    (hrest : ∀ l, laneRest (f l) = laneRest l := by exact fun _ => rfl)
    (hawake : ∀ l, l.txSleep = false → (f l).txSleep = false := by exact fun _ a => a) :
    SendingOnly s (modLane n f s) := by
  refine ⟨fun k => ?_, fun k a => ?_⟩ <;> by_cases hk : k = n
  · rw [hk, laneOf_modLane, hrest]
  · rw [laneOf_modLane_ne f s hk]
  · rw [hk, laneOf_modLane]; exact hawake _ (hk ▸ a)
  · rw [laneOf_modLane_ne f s hk]; exact a

/-! ## Packets sent and queued (R573, R574) -/

/-- Only lanes and outputs differ, the lanes in what they send from, and no transmitter has fallen asleep or woken. -/
structure DrainOnly (s u : State) : Prop where
  only : Only [.slk, .out] s u
  rest : ∀ n, laneRest (laneOf u n) = laneRest (laneOf s n)
  txSleep : ∀ n, (laneOf u n).txSleep = (laneOf s n).txSleep

theorem DrainOnly.refl (s : State) : DrainOnly s s := ⟨.refl, fun _ => rfl, fun _ => rfl⟩

theorem DrainOnly.trans {s t u : State} (h : DrainOnly s t) (g : DrainOnly t u) : DrainOnly s u :=
  ⟨h.only.trans g.only, fun n => (g.rest n).trans (h.rest n), fun n => (g.txSleep n).trans (h.txSleep n)⟩

theorem DrainOnly.sendingOnly {s u : State} (h : DrainOnly s u) : SendingOnly s u :=
  ⟨h.rest, fun n a => (h.txSleep n).trans a⟩

theorem emit_drainOnly (o : Out) (s : State) : DrainOnly s (emit o s) :=
  ⟨emit_only.mono (by decide), fun _ => rfl, fun _ => rfl⟩

theorem modLane_drainOnly {f : SlkS → SlkS} (n : Nat) (s : State)
    (hrest : ∀ l, laneRest (f l) = laneRest l := by exact fun _ => rfl)
    (hsleep : ∀ l, (f l).txSleep = l.txSleep := by exact fun _ => rfl) : DrainOnly s (modLane n f s) :=
  ⟨modLane_only.mono (by decide),
    (modLane_sendingOnly n s hrest (fun l a => (hsleep l).trans a)).rest, fun k => by
      by_cases hk : k = n
      · rw [hk, laneOf_modLane, hsleep]
      · rw [laneOf_modLane_ne f s hk]⟩

theorem slkDrain_drainOnly (fuel n : Nat) (s : State) : DrainOnly s (slkDrain fuel n s) := by
  induction fuel generalizing s with
  | zero => exact .refl s
  | succ fuel ih =>
    unfold slkDrain
    extract_lets l
    split
    · exact .refl s
    · split
      · split
        · exact .refl s
        · exact (modLane_drainOnly n s).trans ((emit_drainOnly ..).trans (ih _))
      · split
        · exact (modLane_drainOnly n s).trans ((emit_drainOnly ..).trans (ih _))
        · exact .refl s

theorem slkQueue_drainOnly (n ty : Nat) (pl : List Byte) (s : State) : DrainOnly s (slkQueue n ty pl s) := by
  unfold slkQueue
  split
  · exact (modLane_drainOnly n s).trans (slkDrain_drainOnly ..)
  · exact .refl s

theorem slkControl_drainOnly (n ty : Nat) (pl : List Byte) (s : State) : DrainOnly s (slkControl n ty pl s) := by
  unfold slkControl
  split
  · exact modLane_drainOnly n s
  · exact emit_drainOnly ..

/-- A packet that is taken moves its lane's sequence number on and is acknowledged (R573). -/
theorem slkTake_takes {n : Nat} {rx : SlkRx} {s : State} (h : TakesSlk s n rx) :
    ∃ v, slkTake n rx s = (true, v) ∧ DrainOnly s v := by
  obtain ⟨hst, hrx, hgood, hseq⟩ := h
  refine ⟨_, by simp [slkTake, hst, hrx, hgood, hseq]; rfl, ?_⟩
  exact (modLane_drainOnly n s).trans (slkControl_drainOnly ..)

/-! ## Interrupts (R493 to R502) -/

theorem hostMsix_sendingOnly (f v : Nat) (s : State) : SendingOnly s (hostMsix f v s) :=
  .of_slk (hostMsix_only.same .slk (by decide))

theorem slinkFire_sendingOnly (g count : Nat) (s : State) : SendingOnly s (slinkFire g count s) := by
  unfold slinkFire
  extract_lets evs lanes pl m u
  split
  · exact .refl s
  · refine SendingOnly.after (t := u) (.foldl (fun v n => ?_) lanes u) rfl
    exact (modLane_sendingOnly n v).trans (slkQueue_drainOnly ..).sendingOnly

theorem groupFire_sendingOnly (g : Nat) (s : State) : SendingOnly s (groupFire g s) := by
  unfold groupFire
  extract_lets c u v
  refine SendingOnly.after (t := v) ?_ rfl
  split
  · split
    · exact hostMsix_sendingOnly ..
    · exact .refl v
  · split
    · exact slinkFire_sendingOnly ..
    · exact .refl v
  · exact .of_slk rfl

theorem countEvent_sendingOnly (n : Nat) (s : State) : SendingOnly s (countEvent n s) := by
  unfold countEvent
  extract_lets g u v
  refine SendingOnly.after (t := v) ?_ rfl
  split
  · exact groupFire_sendingOnly ..
  · exact .refl v

theorem wakeRequest_sendingOnly (n : Nat) (s : State) : SendingOnly s (wakeRequest n s) := by
  unfold wakeRequest
  split
  · exact .of_slk rfl
  · refine .foldl (fun v l => ?_) (upto 8) s
    split
    · exact (modLane_sendingOnly l v (hawake := fun _ _ => rfl)).trans (slkDrain_drainOnly ..).sendingOnly
    · exact .refl v
  · exact .refl s

theorem arbitrate_sendingOnly (s : State) (n : Nat) : SendingOnly s (arbitrate s n) := by
  unfold arbitrate
  split
  · split
    · extract_lets u
      refine SendingOnly.after (t := u) ?_ (by subst u; split <;> rfl)
      split
      · exact (wakeRequest_sendingOnly ..).after rfl
      · exact .refl u
    · split
      · exact .refl s
      · exact (groupFire_sendingOnly ..).after rfl
  · exact .refl s

theorem eicEdge_sendingOnly (n : Nat) (s : State) : SendingOnly s (eicEdge n s) := by
  unfold eicEdge
  split
  · exact .of_slk rfl
  · split
    · exact .refl s
    · split
      · unfold setPending
        extract_lets u
        refine SendingOnly.after (t := u) ?_ rfl
        split
        · exact .refl u
        · exact (countEvent_sendingOnly n u).trans (arbitrate_sendingOnly ..)
      · exact .refl s

theorem logNow_sendingOnly (code src data : Nat) (s : State) : SendingOnly s (logNow code src data s) := by
  unfold logNow logAt logEntry
  extract_lets e c u lost
  have hu : SendingOnly s u := by
    subst u
    split
    · exact (eicEdge_sendingOnly ..).after rfl
    · exact .refl s
  split
  · exact hu.trans (.of_slk rfl)
  · exact hu.trans ((eicEdge_sendingOnly ..).after rfl)

/-! ## Host rings (R524 to R534) -/

theorem ringWriteBack_sendingOnly (n : Nat) (s : State) : SendingOnly s (ringWriteBack n s) := by
  unfold ringWriteBack
  extract_lets u r
  exact (eicEdge_sendingOnly ..).after rfl

theorem ringFlush_sendingOnly (n : Nat) (s : State) : SendingOnly s (ringFlush n s) := by
  unfold ringFlush
  split
  · exact ringWriteBack_sendingOnly ..
  · exact .refl s

theorem ringKick_sendingOnly (n : Nat) (s : State) : SendingOnly s (ringKick n s) :=
  .of_slk (ringKick_only.same .slk (by decide))

theorem ringComplete_sendingOnly (n : Nat) (s : State) : SendingOnly s (ringComplete n s) :=
  .of_slk (ringComplete_only.same .slk (by decide))

theorem itemWritten_sendingOnly (n : Nat) (it : WItem) (s : State) : SendingOnly s (itemWritten n it s) :=
  .of_slk (itemWritten_only.same .slk (by decide))

theorem ringDrain_sendingOnly (n : Nat) (l : List WItem) (s : State) : SendingOnly s (ringDrain n l s) := by
  induction l generalizing s with
  | nil => exact .of_slk rfl
  | cons it rest ih =>
    unfold ringDrain
    split
    next =>
      extract_lets full u
      have hu : SendingOnly s u := by
        subst u
        split
        · exact ringFlush_sendingOnly ..
        · exact .refl s
      exact hu.trans ((ringKick_sendingOnly ..).after rfl)
    next b _ =>
      extract_lets room u v w
      have hu : SendingOnly s u := (itemWritten_sendingOnly ..).after rfl
      have hv : SendingOnly u v := by
        subst v
        split
        · exact ringComplete_sendingOnly ..
        · exact .refl u
      split
      · refine (hu.trans hv).trans (.trans ?_ (ih _))
        split
        · exact .of_slk rfl
        · exact ringWriteBack_sendingOnly ..
      · have hw : SendingOnly s w := (ringComplete_sendingOnly ..).after rfl
        exact hw.trans ((ringKick_sendingOnly ..).after rfl)

theorem linkDown_sendingOnly (s : State) : SendingOnly s (linkDown s) := by
  unfold linkDown
  extract_lets k u
  exact (logNow_sendingOnly ..).after rfl

theorem ringItemOf_sendingOnly (n : Nat) (it : WItem) (s : State) : SendingOnly s (ringItemOf n it s) := by
  unfold ringItemOf
  extract_lets w u
  split
  · split
    · exact (linkDown_sendingOnly u).after rfl
    · exact .of_slk rfl
  · exact ringDrain_sendingOnly ..

/-! ## Responses (R550, R556, R558, R592) -/

theorem slkRespond_sendingOnly (n fuel : Nat) (first : Bool) (m : List Byte) (s : State) :
    SendingOnly s (slkRespond n fuel first m s) := by
  induction fuel generalizing first m s with
  | zero => exact .refl s
  | succ fuel ih =>
    unfold slkRespond
    extract_lets rest u
    have hu : SendingOnly s u := (slkQueue_drainOnly ..).sendingOnly
    split
    · exact hu
    · exact hu.trans (ih ..)

theorem mbxRespond_sendingOnly (m : List Byte) (s : State) : SendingOnly s (mbxRespond m s) := by
  unfold mbxRespond mbxPlace
  extract_lets d rest
  exact (eicEdge_sendingOnly ..).after rfl

theorem respond_sendingOnly (ep : Nat) (m : List Byte) (s : State) : SendingOnly s (respond ep m s) := by
  unfold respond
  extract_lets u
  refine SendingOnly.after (t := u) ?_ rfl
  split
  · exact .of_slk (canRespond_only.same .slk (by decide))
  · split
    · exact mbxRespond_sendingOnly ..
    · exact slkRespond_sendingOnly ..

/-! ## States that differ in lanes and outputs alone

Interrupts and rings read of the lanes whether they are trained and awake, and nothing of what was put out. Two states
that agree in all else stay so: that is how a ring's contents are compared before and after a packet was received. -/

/-- A state with other lanes and other outputs. -/
def relink (k : SlkAll) (o : List Out) (s : State) : State := { s with slk := k, out := o }

theorem relink_only (k : SlkAll) (o : List Out) (s : State) : Only [.slk, .out] s (relink k o s) :=
  ⟨fun p hp => by
    cases p
    case slk => exact absurd (by decide) hp
    case out => exact absurd (by decide) hp
    all_goals rfl⟩

theorem eq_relink {s t : State} (h : Only [.slk, .out] s t) : t = relink t.slk t.out s := by
  have hsame (p : Part) (hp : p ∉ [Part.slk, .out]) : p.same s t := h.same p hp
  cases s
  cases t
  simp only [relink, State.mk.injEq, true_and]
  exact ⟨hsame .tb (by decide), hsame .t64Ofs (by decide), hsame .dev (by decide), hsame .dict (by decide),
    hsame .rm (by decide), hsame .fld (by decide), hsame .chan (by decide), hsame .tbs (by decide),
    hsame .ee (by decide), hsame .rj (by decide), hsame .ts (by decide), hsame .pt (by decide),
    hsame .lce (by decide), hsame .adc (by decide), hsame .cam (by decide), hsame .saf (by decide),
    hsame .fe (by decide), hsame .car (by decide), hsame .eic (by decide), hsame .log (by decide),
    hsame .pci (by decide), hsame .xi (by decide), hsame .thm (by decide), hsame .upd (by decide),
    hsame .rst (by decide), hsame .arb (by decide), hsame .busRead (by decide), hsame .free (by decide),
    hsame .pending (by decide)⟩

/-- Two states that differ in lanes and outputs alone, with every lane in the same state and asleep in both or in none. -/
structure LinkTwin (s t : State) : Prop where
  only : Only [.slk, .out] s t
  st : ∀ n, (laneOf t n).st = (laneOf s n).st
  txSleep : ∀ n, (laneOf t n).txSleep = (laneOf s n).txSleep

theorem LinkTwin.relinked {s t : State} (h : LinkTwin s t) : ∃ k o, t = relink k o s := ⟨_, _, eq_relink h.only⟩

/-- What reads neither lanes nor outputs reads the same. -/
theorem LinkTwin.read {α : Type} {s t : State} (h : LinkTwin s t) (f : State → α)
    (hf : ∀ k o x, f (relink k o x) = f x) : f t = f s := by
  obtain ⟨k, o, rfl⟩ := h.relinked
  exact hf k o s

/-- An update that neither reads nor changes lanes and outputs keeps twins. -/
theorem LinkTwin.update {s t : State} (h : LinkTwin s t) (g : State → State)
    (hg : ∀ k o x, g (relink k o x) = relink k o (g x)) : LinkTwin (g s) (g t) := by
  have hself : g s = relink s.slk s.out (g s) := hg s.slk s.out s
  have hslk : (g s).slk = s.slk := by rw [hself]; rfl
  obtain ⟨k, o, rfl⟩ := h.relinked
  rw [hg]
  exact ⟨relink_only .., fun n => (h.st n).trans (by rw [laneOf_of_slk hslk]),
    fun n => (h.txSleep n).trans (by rw [laneOf_of_slk hslk])⟩

theorem LinkTwin.ite {s t s' t' : State} {c d : Prop} [Decidable c] [Decidable d] (hcd : d ↔ c) (h : LinkTwin s t)
    (h' : LinkTwin s' t') : LinkTwin (if c then s else s') (if d then t else t') := by
  by_cases hc : c
  · rw [if_pos hc, if_pos (hcd.mpr hc)]; exact h
  · rw [if_neg hc, if_neg fun hd => hc (hcd.mp hd)]; exact h'

/-- Twins stay twins whatever either sends. -/
theorem LinkTwin.drained {s t s' t' : State} (h : LinkTwin s t) (hs : DrainOnly s s') (ht : DrainOnly t t') :
    LinkTwin s' t' where
  only := ⟨fun p hp => by
    have hsp := hs.only.same p hp
    have htp := ht.only.same p hp
    have hp := h.only.same p hp
    cases p <;> exact htp.trans (hp.trans hsp.symm)⟩
  st n := (congrArg SlkS.st (ht.rest n)).trans ((h.st n).trans (congrArg SlkS.st (hs.rest n)).symm)
  txSleep n := (ht.txSleep n).trans ((h.txSleep n).trans (hs.txSleep n).symm)

theorem LinkTwin.refl (s : State) : LinkTwin s s := ⟨.refl, fun _ => rfl, fun _ => rfl⟩

theorem LinkTwin.emit {s t : State} (h : LinkTwin s t) (a b : Out) : LinkTwin (emit a s) (emit b t) :=
  h.drained (emit_drainOnly ..) (emit_drainOnly ..)

theorem DrainOnly.foldl {α : Type} {f : State → α → State} (h : ∀ s x, DrainOnly s (f s x)) (l : List α) (s : State) :
    DrainOnly s (l.foldl f s) := by
  induction l generalizing s with
  | nil => exact .refl s
  | cons x r ih => exact (h s x).trans (ih _)

theorem LinkTwin.foldl {α : Type} {f g : State → α → State} (hfg : ∀ s t x, LinkTwin s t → LinkTwin (f s x) (g t x))
    (l : List α) {s t : State} (h : LinkTwin s t) : LinkTwin (l.foldl f s) (l.foldl g t) := by
  induction l generalizing s t with
  | nil => exact h
  | cons x r ih => exact ih (hfg s t x h)

theorem LinkTwin.modEic {s t : State} (h : LinkTwin s t) (f : EicS → EicS) : LinkTwin (modEic f s) (modEic f t) :=
  h.update (Machine.modEic f) fun _ _ _ => rfl

theorem LinkTwin.modRing {s t : State} (h : LinkTwin s t) (n : Nat) (f : RingS → RingS) :
    LinkTwin (modRing n f s) (modRing n f t) := h.update (Machine.modRing n f) fun _ _ _ => rfl

theorem LinkTwin.modPt {s t : State} (h : LinkTwin s t) (f : PtS → PtS) : LinkTwin (modPt f s) (modPt f t) :=
  h.update (Machine.modPt f) fun _ _ _ => rfl

theorem LinkTwin.pci {s t : State} (h : LinkTwin s t) : t.pci = s.pci := h.only.same .pci (by decide)

theorem LinkTwin.parN {s t : State} (h : LinkTwin s t) (num sub : Nat) : parN t num sub = parN s num sub :=
  h.read (Machine.parN · num sub) fun _ _ _ => rfl

theorem LinkTwin.ringOf {s t : State} (h : LinkTwin s t) (n : Nat) : ringOf t n = ringOf s n :=
  h.read (Machine.ringOf · n) fun _ _ _ => rfl

theorem LinkTwin.slinkAwake {s t : State} (h : LinkTwin s t) : slinkAwake t = slinkAwake s := by
  simp only [Machine.slinkAwake, h.parN, h.st, h.txSleep]

theorem LinkTwin.targetAsleep {s t : State} (h : LinkTwin s t) (n : Nat) : targetAsleep t n = targetAsleep s n := by
  have hawake := h.slinkAwake
  obtain ⟨k, o, rfl⟩ := h.relinked
  have htarget : targetOf (relink k o s) (groupOf (relink k o s) n) = targetOf s (groupOf s n) := rfl
  unfold Machine.targetAsleep
  rw [htarget, hawake]
  rfl

theorem hostMsix_twin (f v : Nat) {s t : State} (h : LinkTwin s t) : LinkTwin (hostMsix f v s) (hostMsix f v t) := by
  obtain ⟨k, o, rfl⟩ := h.relinked
  unfold hostMsix
  exact .ite .rfl ⟨relink_only k o _, h.st, h.txSleep⟩
    (.ite .rfl ⟨relink_only k o _, h.st, h.txSleep⟩ (h.emit _ _))

theorem slinkFire_twin (g count : Nat) {s t : State} (h : LinkTwin s t) :
    LinkTwin (slinkFire g count s) (slinkFire g count t) := by
  unfold slinkFire
  have hlanes : ((upto 8).filter fun n => bit (parN t 0x7403 0) n && (laneOf t n).st == 4) =
      (upto 8).filter fun n => bit (parN s 0x7403 0) n && (laneOf s n).st == 4 := by
    simp only [h.parN, h.st]
  rw [hlanes]
  obtain ⟨k, o, rfl⟩ := h.relinked
  extract_lets evs lanes pl m u evs' pl' m' u'
  have hu : LinkTwin u u' := ⟨relink_only k o u, h.st, h.txSleep⟩
  refine .ite .rfl h (hu.drained (.foldl (fun v n => ?_) lanes u) (.foldl (fun v n => ?_) lanes u'))
  all_goals exact (modLane_drainOnly n v).trans (slkQueue_drainOnly ..)

theorem groupFire_twin (g : Nat) {s t : State} (h : LinkTwin s t) : LinkTwin (groupFire g s) (groupFire g t) := by
  unfold groupFire
  obtain ⟨k, o, rfl⟩ := h.relinked
  extract_lets c u v c' u' v'
  have hv : LinkTwin v v' := ⟨relink_only k o v, h.st, h.txSleep⟩
  have htarget : targetOf v' g = targetOf v g := rfl
  rw [htarget]
  split
  · exact .ite .rfl (hostMsix_twin _ _ hv) hv
  · exact .ite (by rw [hv.slinkAwake]) (slinkFire_twin _ _ hv) hv
  · exact hv.emit _ _

theorem countEvent_twin (n : Nat) {s t : State} (h : LinkTwin s t) : LinkTwin (countEvent n s) (countEvent n t) := by
  unfold countEvent
  obtain ⟨k, o, rfl⟩ := h.relinked
  extract_lets g u v g' u' v'
  have hv : LinkTwin v v' := ⟨relink_only k o v, h.st, h.txSleep⟩
  exact .ite .rfl (groupFire_twin g hv) hv

theorem LinkTwin.modLane {s t : State} (h : LinkTwin s t) (n : Nat) {f g : SlkS → SlkS}
    (hst : ∀ l m, m.st = l.st → (g m).st = (f l).st)
    (hsleep : ∀ l m, m.txSleep = l.txSleep → (g m).txSleep = (f l).txSleep) :
    LinkTwin (modLane n f s) (modLane n g t) where
  only := ⟨fun p hp => by
    have hsame := h.only.same p hp
    cases p
    case slk => exact absurd (by decide) hp
    all_goals exact hsame⟩
  st k := by
    by_cases hk : k = n
    · rw [hk, laneOf_modLane, laneOf_modLane]; exact hst _ _ (h.st n)
    · rw [laneOf_modLane_ne _ _ hk, laneOf_modLane_ne _ _ hk]; exact h.st k
  txSleep k := by
    by_cases hk : k = n
    · rw [hk, laneOf_modLane, laneOf_modLane]; exact hsleep _ _ (h.txSleep n)
    · rw [laneOf_modLane_ne _ _ hk, laneOf_modLane_ne _ _ hk]; exact h.txSleep k

/-- A changed lane whose state and sleep stay is no matter to the rings. -/
theorem modLane_twin {f : SlkS → SlkS} {s t : State} (h : LinkTwin s t) (n : Nat)
    (hst : ∀ l, (f l).st = l.st := by exact fun _ => rfl)
    (hsleep : ∀ l, (f l).txSleep = l.txSleep := by exact fun _ => rfl) : LinkTwin s (modLane n f t) where
  only := .step modLane_only (by decide) h.only
  st k := by
    by_cases hk : k = n
    · rw [hk, laneOf_modLane, hst]; exact h.st n
    · rw [laneOf_modLane_ne f t hk]; exact h.st k
  txSleep k := by
    by_cases hk : k = n
    · rw [hk, laneOf_modLane, hsleep]; exact h.txSleep n
    · rw [laneOf_modLane_ne f t hk]; exact h.txSleep k

theorem wakeRequest_twin (n : Nat) {s t : State} (h : LinkTwin s t) : LinkTwin (wakeRequest n s) (wakeRequest n t) := by
  have htarget : targetOf t (groupOf t n) = targetOf s (groupOf s n) :=
    h.read (fun x => targetOf x (groupOf x n)) fun _ _ _ => rfl
  unfold wakeRequest
  rw [htarget]
  split
  · obtain ⟨k, o, rfl⟩ := h.relinked
    extract_lets f f'
    refine LinkTwin.emit ?_ _ _
    exact ⟨relink_only k o _, h.st, h.txSleep⟩
  · refine .foldl (fun s t l hst => ?_) (upto 8) h
    refine .ite (by rw [hst.parN]) ?_ hst
    refine (LinkTwin.modLane hst l ?_ ?_).drained (slkDrain_drainOnly ..) (slkDrain_drainOnly ..)
    · exact fun _ _ e => e
    · exact fun _ _ _ => rfl
  · exact h

theorem arbitrate_twin (n : Nat) {s t : State} (h : LinkTwin s t) : LinkTwin (arbitrate s n) (arbitrate t n) := by
  have hasleep := h.targetAsleep n
  obtain ⟨k, o, rfl⟩ := h.relinked
  unfold arbitrate
  rw [hasleep]
  refine .ite .rfl (.ite .rfl ?_ (.ite .rfl h (groupFire_twin _ ?_))) h
  · extract_lets u u'
    have hu : LinkTwin u u' := .ite .rfl ⟨relink_only k o _, h.st, h.txSleep⟩ h
    clear_value u u'
    obtain ⟨k', o', rfl⟩ := hu.relinked
    exact .ite .rfl (wakeRequest_twin n ⟨relink_only k' o' _, hu.st, hu.txSleep⟩) hu
  · exact ⟨relink_only k o _, h.st, h.txSleep⟩

theorem eicEdge_twin (n : Nat) {s t : State} (h : LinkTwin s t) : LinkTwin (eicEdge n s) (eicEdge n t) := by
  obtain ⟨k, o, rfl⟩ := h.relinked
  unfold eicEdge
  refine .ite .rfl (h.modEic _) (.ite .rfl h (.ite .rfl ?_ h))
  have hu := h.modEic fun e => { e with pend := e.pend ||| srcBit n }
  exact .ite .rfl hu (arbitrate_twin n (countEvent_twin n hu))

theorem logNow_twin (code src data : Nat) {s t : State} (h : LinkTwin s t) :
    LinkTwin (logNow code src data s) (logNow code src data t) := by
  obtain ⟨k, o, rfl⟩ := h.relinked
  unfold logNow logAt logEntry
  extract_lets c l u l₂ lost c' l' u'
  have hu : LinkTwin u u' := .ite .rfl (eicEdge_twin 261 ⟨relink_only k o _, h.st, h.txSleep⟩) h
  clear_value u u'
  obtain ⟨k', o', rfl⟩ := hu.relinked
  exact .ite .rfl ⟨relink_only k' o' _, hu.st, hu.txSleep⟩
    (eicEdge_twin 262 ⟨relink_only k' o' _, hu.st, hu.txSleep⟩)

/-! ## Rings of twins -/

theorem ringKick_twin (n : Nat) {s t : State} (h : LinkTwin s t) : LinkTwin (ringKick n s) (ringKick n t) := by
  obtain ⟨k, o, rfl⟩ := h.relinked
  unfold ringKick
  refine .ite .rfl (LinkTwin.emit ?_ _ _) h
  exact ⟨relink_only k o _, h.st, h.txSleep⟩

theorem ringComplete_twin (n : Nat) {s t : State} (h : LinkTwin s t) :
    LinkTwin (ringComplete n s) (ringComplete n t) := by
  unfold ringComplete
  rw [h.ringOf]
  extract_lets r
  split
  · exact h
  · exact (h.emit _ _).modRing n _

theorem ringWriteBack_twin (n : Nat) {s t : State} (h : LinkTwin s t) :
    LinkTwin (ringWriteBack n s) (ringWriteBack n t) := by
  obtain ⟨k, o, rfl⟩ := h.relinked
  unfold ringWriteBack
  refine eicEdge_twin _ (LinkTwin.emit ?_ _ _)
  exact ⟨relink_only k o _, h.st, h.txSleep⟩

theorem ringFlush_twin (n : Nat) {s t : State} (h : LinkTwin s t) : LinkTwin (ringFlush n s) (ringFlush n t) :=
  .ite (by rw [h.ringOf]) (ringWriteBack_twin n h) h

theorem ringPut_twin (n : Nat) (b : Buf) (it : WItem) (k : Nat) {s t : State} (h : LinkTwin s t) :
    LinkTwin (ringPut n b it k s) (ringPut n b it k t) := (h.emit _ _).modRing n _

theorem heldSince_twin (at_ : Nat) {s t : State} (h : LinkTwin s t) :
    LinkTwin (heldSince at_ s) (heldSince at_ t) := by
  obtain ⟨k, o, rfl⟩ := h.relinked
  exact ⟨relink_only k o _, h.st, h.txSleep⟩

theorem itemWritten_twin (n : Nat) (it : WItem) {s t : State} (h : LinkTwin s t) :
    LinkTwin (itemWritten n it s) (itemWritten n it t) := by
  unfold itemWritten
  extract_lets u v u' v'
  have hu : LinkTwin u u' := .ite .rfl h (h.modPt _)
  have hv : LinkTwin v v' := .ite (by rw [hu.parN]) (heldSince_twin it.at_ hu) hu
  exact .ite .rfl hv (hv.modRing n _)

theorem ringDrain_twin (n : Nat) (l : List WItem) {s t : State} (h : LinkTwin s t) :
    LinkTwin (ringDrain n l s) (ringDrain n l t) := by
  induction l generalizing s t with
  | nil => exact h.modRing n _
  | cons it rest ih =>
    unfold ringDrain
    rw [h.ringOf]
    split
    next => exact ringKick_twin n (LinkTwin.modRing (.ite .rfl (ringFlush_twin n h) h) n _)
    next b _ =>
      have hput := itemWritten_twin n it (ringPut_twin n b it it.data.length h)
      refine .ite .rfl (ih ?_) (ringKick_twin n (LinkTwin.modRing (ringComplete_twin n (ringPut_twin n b it _ h)) n _))
      have hfull : LinkTwin _ _ := .ite (c := it.data.length = b.len - b.used) .rfl (ringComplete_twin n hput) hput
      exact .ite .rfl (hfull.modRing n _) (ringWriteBack_twin n hfull)

theorem linkDown_twin {s t : State} (h : LinkTwin s t) : LinkTwin (linkDown s) (linkDown t) := by
  obtain ⟨k, o, rfl⟩ := h.relinked
  unfold linkDown
  exact logNow_twin _ _ _ ⟨relink_only k o _, h.st, h.txSleep⟩

theorem ringItemOf_twin (n : Nat) (it : WItem) {s t : State} (h : LinkTwin s t) :
    LinkTwin (ringItemOf n it s) (ringItemOf n it t) := by
  obtain ⟨k, o, rfl⟩ := h.relinked
  unfold ringItemOf
  extract_lets w u w' u'
  have hu : LinkTwin u u' := ⟨relink_only k o u, h.st, h.txSleep⟩
  exact .ite .rfl (.ite .rfl (linkDown_twin hu) hu) (ringDrain_twin n _ h)

theorem ringItem_sendingOnly (n : Nat) (d : List Byte) (s : State) : SendingOnly s (ringItem n d s) :=
  ringItemOf_sendingOnly ..

theorem ringItem_pci_of_twin {s t : State} (h : LinkTwin s t) (n : Nat) (d : List Byte) :
    (ringItem n d t).pci = (ringItem n d s).pci := (ringItemOf_twin n _ h).pci

end Sys2Proof.Lanes
end

section
/-!
Forwarded points and sleeping lanes: a record or a header that a lane brings goes to its ring, a transmitter sleeps and wakes
by SLK_TX_SLEEP, a receiver by activity (R272, R273, R588, R594, R595).
-/
namespace Sys2Proof.Forwarding

open Sys2Proof Sys2Proof.Machine Sys2Proof.Served Sys2Proof.Tuning Sys2Proof.Lanes

/-! ## Items of one lane (R261, R272, R273, R588) -/

/-- A record joins its ring's frame: the next index, one more record. -/
def recordCounted (l : SlkS) : SlkS := { l with fwdIndex := l.fwdIndex + 1, fwdCount := l.fwdCount + 1 }

/-- A header closes its frame and the next one starts. -/
def frameStarted (l : SlkS) : SlkS :=
  { l with fwdFirst := l.fwdIndex, fwdCount := 0, fwdDrop := 0, fwdTrunc := false }

/-- The only item of a lane is a record that its ring takes: it is counted and written. -/
theorem fwdDrain_record {n a : Nat} {d : List Byte} {s : State} (hhdrs : (laneOf s n).fwdHdrs = [])
    (hq : (laneOf s n).fwdQ = [(false, d, a)]) (htrunc : (laneOf s n).fwdTrunc = false)
    (htakes : ringTakes s (fwdPtRing s n) = true) :
    fwdDrain n s = modLane n (fun l => { l with fwdQ := [] })
      (ringItem (fwdPtRing s n) d (modLane n recordCounted s)) := by
  simp only [fwdDrain, fwdItems, hhdrs, hq, htrunc, htakes, List.isEmpty_nil, List.isEmpty_cons, if_true,
    Bool.false_and, Bool.false_eq_true, if_false]
  rfl

/-- The only item of a lane is a header that its ring takes, with no record waiting: it is rewritten and written. -/
theorem fwdDrain_header {n a : Nat} {d : List Byte} {s : State} (hhdrs : (laneOf s n).fwdHdrs = [])
    (hq : (laneOf s n).fwdQ = [(true, d, a)]) (hwaiting : (ringOf s (fwdPtRing s n)).waiting = [])
    (htakes : ringTakes s (fwdHdrRing s n) = true) :
    fwdDrain n s = modLane n (fun l => { l with fwdQ := [] }) (modLane n (fun l => { l with fwdHdrs := [] })
      (ringItem (fwdHdrRing s n) (fwdRewrite (laneOf s n) d) (modLane n frameStarted s))) := by
  have hwrite : fwdHeaders n [fwdRewrite (laneOf s n) d] (modLane n frameStarted s) =
      modLane n (fun l => { l with fwdHdrs := [] })
        (ringItem (fwdHdrRing s n) (fwdRewrite (laneOf s n) d) (modLane n frameStarted s)) := if_pos htakes
  simp only [fwdDrain, fwdItems, hhdrs, hq, hwaiting, List.isEmpty_nil, if_true, List.isEmpty_cons, Bool.not_true,
    Bool.and_false, Bool.false_eq_true, if_false, List.nil_append]
  exact congrArg (modLane n fun l => { l with fwdQ := [] }) hwrite

theorem ringTakes_enabled {s : State} {n : Nat} (h : ringTakes s n = true) : (ringOf s n).enable = true := by
  simp only [ringTakes, ringRunning, Bool.and_eq_true] at h
  exact h.1.1

/-- An item of a packet just taken joins its lane's items. -/
theorem fwdTake_joins {n : Nat} {hdr : Bool} (d : List Byte) {s v : State} (hv : DrainOnly s v)
    (h : ringTakes s (if hdr then fwdHdrRing s n else fwdPtRing s n) = true) (hq : (laneOf s n).fwdQ = []) :
    ∃ w, fwdTake n hdr d v = fwdDrain n w ∧ LinkTwin s w ∧
      laneRest (laneOf w n) = laneRest { laneOf s n with fwdQ := [(hdr, d, v.tb)] } := by
  have htwin : LinkTwin s v := .drained (.refl s) (.refl s) hv
  have hopen : (ringOf v (if hdr then fwdHdrRing v n else fwdPtRing v n)).enable = true :=
    (htwin.read (fun x => (ringOf x (if hdr then fwdHdrRing x n else fwdPtRing x n)).enable) fun _ _ _ => rfl).trans
      (ringTakes_enabled h)
  have hq' : (laneOf v n).fwdQ = [] := (congrArg SlkS.fwdQ (hv.rest n)).trans hq
  refine ⟨_, if_pos hopen, modLane_twin htwin n, ?_⟩
  rw [laneOf_modLane, hq']
  exact congrArg (fun l : SlkS => { l with fwdQ := [(hdr, d, v.tb)] }) (hv.rest n)

/-- A record taken with nothing before it is counted, and its ring has what it would have of an item of the device. -/
theorem fwdTake_record {n : Nat} {d : List Byte} {s v : State} (hv : DrainOnly s v)
    (htakes : ringTakes s (fwdPtRing s n) = true) (hq : (laneOf s n).fwdQ = []) (hhdrs : (laneOf s n).fwdHdrs = [])
    (htrunc : (laneOf s n).fwdTrunc = false) :
    (laneOf (fwdTake n false d v) n).fwdIndex = (laneOf s n).fwdIndex + 1 ∧
      (laneOf (fwdTake n false d v) n).fwdCount = (laneOf s n).fwdCount + 1 ∧
      (fwdTake n false d v).pci = (ringItem (fwdPtRing s n) d s).pci ∧
      (laneOf (fwdTake n false d v) n).fwdQ = [] := by
  obtain ⟨w, htake, htwin, hlane⟩ := fwdTake_joins (hdr := false) d hv htakes hq
  have hring : fwdPtRing w n = fwdPtRing s n := htwin.parN ..
  have htakes' : ringTakes w (fwdPtRing w n) = true :=
    (htwin.read (fun x => ringTakes x (fwdPtRing x n)) fun _ _ _ => rfl).trans htakes
  rw [htake, fwdDrain_record ((congrArg SlkS.fwdHdrs hlane).trans hhdrs) (congrArg SlkS.fwdQ hlane)
    ((congrArg SlkS.fwdTrunc hlane).trans htrunc) htakes', hring, laneOf_modLane]
  have hwritten := (ringItem_sendingOnly (fwdPtRing s n) d (modLane n recordCounted w)).rest n
  rw [laneOf_modLane] at hwritten
  have hindex := congrArg (SlkS.fwdIndex · + 1) hlane
  have hcount := congrArg (SlkS.fwdCount · + 1) hlane
  exact ⟨(congrArg SlkS.fwdIndex hwritten).trans hindex, (congrArg SlkS.fwdCount hwritten).trans hcount,
    ringItem_pci_of_twin (modLane_twin htwin n) .., rfl⟩

/-- The forwarded header depends on the account of its ring's stream alone. -/
theorem fwdRewrite_laneRest (l : SlkS) (d : List Byte) : fwdRewrite (laneRest l) d = fwdRewrite l d := rfl

/-- A header taken with nothing before it closes its frame, and its ring has what it would have of an item of the device. -/
theorem fwdTake_header {n : Nat} {d : List Byte} {s v : State} (hv : DrainOnly s v)
    (htakes : ringTakes s (fwdHdrRing s n) = true) (hwaiting : (ringOf s (fwdPtRing s n)).waiting = [])
    (hq : (laneOf s n).fwdQ = []) (hhdrs : (laneOf s n).fwdHdrs = []) :
    (laneOf (fwdTake n true d v) n).fwdFirst = (laneOf s n).fwdIndex ∧
      (fwdTake n true d v).pci = (ringItem (fwdHdrRing s n) (fwdRewrite (laneOf s n) d) s).pci ∧
      (laneOf (fwdTake n true d v) n).fwdCount = 0 ∧
      (laneOf (fwdTake n true d v) n).fwdDrop = 0 ∧
      (laneOf (fwdTake n true d v) n).fwdHdrs = [] := by
  obtain ⟨w, htake, htwin, hlane⟩ := fwdTake_joins (hdr := true) d hv htakes hq
  have hring : fwdHdrRing w n = fwdHdrRing s n := htwin.parN ..
  have htakes' : ringTakes w (fwdHdrRing w n) = true :=
    (htwin.read (fun x => ringTakes x (fwdHdrRing x n)) fun _ _ _ => rfl).trans htakes
  have hwaiting' : (ringOf w (fwdPtRing w n)).waiting = [] :=
    (htwin.read (fun x => (ringOf x (fwdPtRing x n)).waiting) fun _ _ _ => rfl).trans hwaiting
  have hrewrite : fwdRewrite (laneOf w n) d = fwdRewrite (laneOf s n) d := by
    rw [← fwdRewrite_laneRest, hlane]; rfl
  rw [htake, fwdDrain_header ((congrArg SlkS.fwdHdrs hlane).trans hhdrs) (congrArg SlkS.fwdQ hlane) hwaiting' htakes',
    hring, hrewrite, laneOf_modLane, laneOf_modLane]
  have hwritten :=
    (ringItem_sendingOnly (fwdHdrRing s n) (fwdRewrite (laneOf s n) d) (modLane n frameStarted w)).rest n
  rw [laneOf_modLane] at hwritten
  have hindex := congrArg SlkS.fwdIndex hlane
  exact ⟨(congrArg SlkS.fwdFirst hwritten).trans hindex, ringItem_pci_of_twin (modLane_twin htwin n) ..,
    congrArg SlkS.fwdCount hwritten, congrArg SlkS.fwdDrop hwritten, rfl⟩

/-! ## PT_REC and PT_HDR -/

theorem laneOf_settle (s : State) (n : Nat) : laneOf (settle s) n = laneOf s n := rfl

theorem pieces16_of_length {data : List Byte} (h : data.length = 16) : pieces16 (data.length / 16) data = [data] := by
  rw [h]
  exact congrArg (· :: []) (List.take_of_length_le (by omega))

theorem exec_ptRec_written (t : Nat) (lane : Fin 8) (rx : SlkRx) (data : List Byte) (s : State)
    (hrx : TakesSlk s lane rx) (htakes : ringTakes s (fwdPtRing s lane) = true) (hq : (laneOf s lane).fwdQ = [])
    (hhdrs : (laneOf s lane).fwdHdrs = []) (htrunc : (laneOf s lane).fwdTrunc = false) (hlen : data.length = 16) :
    ∃ u, exec (.ptRec t lane rx data) s = .next u ∧ (laneOf u lane).fwdIndex = (laneOf s lane).fwdIndex + 1 ∧
      (laneOf u lane).fwdCount = (laneOf s lane).fwdCount + 1 ∧
      u.pci = (ringItem (fwdPtRing s lane) data (s.start t)).pci ∧
      (laneOf u lane).fwdQ = [] := by
  obtain ⟨v, hv, hdrain⟩ := slkTake_takes (s := s.start t) hrx
  have he : exec (.ptRec t lane rx data) s = done (fwdTake lane false data v) := by
    change execPtRec t lane rx data s = _
    rw [execPtRec, hv, pieces16_of_length hlen]
    rfl
  refine ⟨_, he, ?_⟩
  rw [laneOf_settle, settle_pci]
  exact fwdTake_record (s := s.start t) (n := lane) hdrain htakes hq hhdrs htrunc

theorem exec_ptHdr_written (t : Nat) (lane : Fin 8) (rx : SlkRx) (data : List Byte) (s : State)
    (hrx : TakesSlk s lane rx) (htakes : ringTakes s (fwdHdrRing s lane) = true)
    (hwaiting : (ringOf s (fwdPtRing s lane)).waiting = []) (hq : (laneOf s lane).fwdQ = [])
    (hhdrs : (laneOf s lane).fwdHdrs = []) :
    ∃ u, exec (.ptHdr t lane rx data) s = .next u ∧ (laneOf u lane).fwdFirst = (laneOf s lane).fwdIndex ∧
      u.pci = (ringItem (fwdHdrRing s lane) (fwdRewrite (laneOf s lane) data) (s.start t)).pci ∧
      (laneOf u lane).fwdCount = 0 ∧
      (laneOf u lane).fwdDrop = 0 ∧
      (laneOf u lane).fwdHdrs = [] := by
  obtain ⟨v, hv, hdrain⟩ := slkTake_takes (s := s.start t) hrx
  have he : exec (.ptHdr t lane rx data) s = done (fwdTake lane true data v) := by
    change execPtHdr t lane rx data s = _
    rw [execPtHdr, hv]
    rfl
  refine ⟨_, he, ?_⟩
  rw [laneOf_settle, settle_pci]
  exact fwdTake_header (s := s.start t) (n := lane) hdrain htakes hwaiting hq hhdrs

/-! ## SLK_TX_SLEEP (R594, R595) -/

/-- What is put out before a response is still put out with it. -/
theorem respond_outKept (ep : Nat) (m : List Byte) (s : State) : OutKept s (respond ep m s) := by
  unfold respond
  extract_lets u
  refine (emit_outKept (.xiest ep m) s).trans (?_ : OutKept u _)
  split
  · exact canRespond_outKept ..
  · split
    · exact mbxRespond_outKept ..
    · exact slkRespond_outKept ..

/-- The value that a WRITE of SLK_TX_SLEEP carries. -/
abbrev sleepVal (v : Bool) : List Byte := leBytes 1 (b2n v)

/-- SLK_TX_SLEEP is a truth value that software writes at once. -/
theorem dictFind_txSleep (lane : Fin 8) : ∃ row, dictFind 0x7C18 lane = some row ∧ row.num = 0x7C18 ∧ row.ty = .bool ∧
    row.acc = .rw ∧ row.app = .imm := by
  have h : ∀ lane : Fin 8, (dictFind 0x7C18 lane).map (fun r => (r.num, r.ty, r.acc, r.app)) =
      some (0x7C18, .bool, .rw, .imm) := by decide
  obtain ⟨row, hrow, hfields⟩ := Option.map_eq_some_iff.mp (h lane)
  simp only [Prod.mk.injEq] at hfields
  obtain ⟨hnum, hty, hacc, happ⟩ := hfields
  exact ⟨row, hrow, hnum, hty, hacc, happ⟩

theorem ackWait_txSleep (lane : Fin 8) : ackWait (dkey 0x7C18 lane) = none := by
  revert lane; decide

/-- The write puts the value in force, with its dictionary record, before the lane acts on it. -/
def sleepWritten (ep : Nat) (lane : Fin 8) (v : Bool) (s : State) : State :=
  dictRecord (dkey 0x7C18 lane) (.int (b2n v)) (transportOf ep) (setPar 0x7C18 lane (.int (b2n v)) s)

theorem sleepWritten_only (ep : Nat) (lane : Fin 8) (v : Bool) (s : State) :
    Only [.dict, .car] s (sleepWritten ep lane v s) :=
  .step dictRecord_only (by decide) (setPar_only.mono (by decide))

theorem par_sleepWritten (ep : Nat) (lane : Fin 8) (v : Bool) (s : State) :
    par (sleepWritten ep lane v s) 0x7C18 lane = .int (b2n v) := by
  have hdict : (sleepWritten ep lane v s).dict = (setPar 0x7C18 lane (.int (b2n v)) s).dict :=
    dictRecord_only.same .dict (by decide)
  exact (par_of_inForce (congrArg DictS.inForce hdict) ..).trans (par_setPar ..)

theorem writeValue_txSleep (ep : Nat) (lane : Fin 8) (v : Bool) (s : State) :
    writeValue ep 0x7C18 lane (sleepVal v) s = slkTxSleepWrite lane v (sleepWritten ep lane v s) := by
  obtain ⟨row, hrow, hnum, hty, hacc, happ⟩ := dictFind_txSleep lane
  have hval : decVal row.ty (sleepVal v) = .int (b2n v) := by rw [hty]; cases v <;> rfl
  have hgo : acceptValue ep row lane (.int (b2n v)) s = immApplied 0x7C18 lane (sleepWritten ep lane v s) := by
    unfold acceptValue
    rw [hnum, happ]
    exact if_pos (by rw [ackWait_txSleep]; rfl)
  have happly : immApplied 0x7C18 lane (sleepWritten ep lane v s) =
      slkTxSleepWrite lane ((dvInt (par (sleepWritten ep lane v s) 0x7C18 lane)).toNat != 0) (sleepWritten ep lane v s) := by
    unfold immApplied
    rfl
  have hone : ((dvInt (.int (b2n v))).toNat != 0) = v := by cases v <;> rfl
  have hplain : ¬ (row.acc == .rws) = true := by rw [hacc]; decide
  unfold writeValue
  rw [hrow]
  simp only [if_neg hplain, hval, hgo, happly, par_sleepWritten, hone]

/-- An accepted WRITE of SLK_TX_SLEEP has its effect on the lane and is answered. -/
theorem serveWrite_txSleep {t ep : Nat} {tag : Byte} {lane : Fin 8} {v : Bool} {s : State}
    (h : Accepts s t ep tag 0x7C18 lane (sleepVal v)) :
    ∃ r m, serveWrite ep tag 0x7C18 lane (sleepVal v) (s.start t) =
      respond ep (rspMsg (wreq tag 0x7C18 lane (sleepVal v)) 0 [])
        (remember ep r m (slkTxSleepWrite lane v (sleepWritten ep lane v (s.start t)))) := by
  obtain ⟨hserves, hstatus⟩ := h
  obtain ⟨row, hrow, -, -, hacc, -⟩ := dictFind_txSleep lane
  have hwrite : xiWrite ep (wreq tag 0x7C18 lane (sleepVal v)) (s.start t) =
      rspOk (slkTxSleepWrite lane v (sleepWritten ep lane v (s.start t))) := by
    have hst : writeStatus ep 0x7C18 lane (sleepVal v) (s.start t) = 0 := hstatus
    rw [← writeValue_txSleep]
    simp only [xiWrite, mkReq, hst, hrow, hacc]
    rfl
  have hwait : waitsFor (wreq tag 0x7C18 lane (sleepVal v)) 0 = none := ackWait_txSleep lane
  exact ⟨_, _, serveWrite_accepted hserves hwrite hwait⟩

/-- What a served WRITE of SLK_TX_SLEEP leaves: the lane as its effect has it, but for what it sends from, all that its
effect put out, and the response. -/
theorem serveWrite_txSleep_leaves {t ep : Nat} {tag : Byte} {lane : Fin 8} {v : Bool} {s : State}
    (h : Accepts s t ep tag 0x7C18 lane (sleepVal v)) :
    let w := slkTxSleepWrite lane v (sleepWritten ep lane v (s.start t))
    let u := serveWrite ep tag 0x7C18 lane (sleepVal v) (s.start t)
    SendingOnly w u ∧ OutKept w u ∧ Emits u (.xiest ep (rspMsg (wreq tag 0x7C18 lane (sleepVal v)) 0 [])) := by
  obtain ⟨r, m, hserved⟩ := serveWrite_txSleep h
  intro w u
  have hremembered : Only [.xi] w (remember ep r m w) := remember_only
  simp only [u, hserved]
  exact ⟨(respond_sendingOnly ..).after (hremembered.same .slk (by decide)),
    (respond_outKept ..).after (hremembered.same .out (by decide)), respond_emits ..⟩

/-- With nothing before it a packet is sent at once. -/
theorem slkQueue_emits {n ty : Nat} {pl : List Byte} {s : State} (hty : tyCap < ty) (hst : (laneOf s n).st = 4)
    (hawake : (laneOf s n).txSleep = false) (hack : (laneOf s n).sleepAck = none) (hq : (laneOf s n).queue = [])
    (hroom : (laneOf s n).replay.length < 32) :
    .slk n (slkPacket ty (laneOf s n).txSeq pl) ∈ (slkQueue n ty pl s).out := by
  unfold slkQueue
  rw [if_pos hst]
  set w := modLane n (fun l => { l with queue := insertBy (fun p => (slkRank p.1 : Int)) (ty, pl) l.queue }) s
  have hlane : laneOf w n = { laneOf s n with queue := [(ty, pl)] } := by
    rw [show laneOf w n = _ from laneOf_modLane .., hq]; rfl
  unfold slkDrain
  rw [hlane]
  simp only [hst, hawake, hack, hroom, if_neg (show ¬ ty ≤ tyCap by omega)]
  rw [if_pos (by simp)]
  exact (slkDrain_outKept ..).mem _ List.mem_concat_self

/-- A write of 1 to a lane that is UP and awake sends SLEEP and waits for its ACK. -/
theorem slkTxSleepWrite_true {n : Nat} {s : State} (hst : (laneOf s n).st = 4)
    (hawake : (laneOf s n).txSleep = false) (hack : (laneOf s n).sleepAck = none) :
    slkTxSleepWrite n true s = modLane n (fun l => { l with sleepAck := some s.tb }) (slkQueue n tySleep [] s) := by
  simp [slkTxSleepWrite, hst, hawake, hack]

theorem exec_slkTxSleep_sends (t : Nat) (ep : Fin 10) (tag : BitVec 8) (lane : Fin 8) (s : State)
    (h : Accepts s t ep tag 0x7C18 lane [1]) (hst : (laneOf s lane).st = 4) (hawake : (laneOf s lane).txSleep = false)
    (hack : (laneOf s lane).sleepAck = none) :
    ∃ u, exec (.slkTxSleep t ep tag lane true) s = .next u ∧ (laneOf u lane).sleepAck = some (instant s t) ∧
      ((laneOf s lane).queue = [] → (laneOf s lane).replay.length < 32 →
        Emits u (.slk lane (slkPacket tySleep (laneOf s lane).txSeq []))) ∧
      Emits u (.xiest ep (rspMsg (wreq tag 0x7C18 lane [1]) 0 [])) := by
  have he : exec (.slkTxSleep t ep tag lane true) s = done (serveWrite ep tag 0x7C18 lane (sleepVal true) (s.start t)) :=
    rfl
  obtain ⟨hrest, hout, hrsp⟩ := serveWrite_txSleep_leaves (v := true) h
  set w := sleepWritten ep lane true (s.start t)
  have honly : Only [.dict, .car] (s.start t) w := sleepWritten_only ..
  have hlane : laneOf w lane = laneOf s lane := laneOf_of_slk (honly.same .slk (by decide)) lane
  have htb : w.tb = instant s t := honly.same .tb (by decide)
  rw [← hlane] at hst hawake hack
  have heffect := slkTxSleepWrite_true hst hawake hack
  refine ⟨_, he, ?_, fun hq hroom => ?_, hrsp⟩
  · rw [laneOf_settle]
    have hasked : (laneOf (slkTxSleepWrite lane true w) lane).sleepAck = some w.tb := by rw [heffect, laneOf_modLane]
    rw [hrest.sleepAck, hasked, htb]
  · rw [← hlane] at hq hroom ⊢
    rw [Emits, settle_out]
    refine hout.mem _ ?_
    rw [heffect, show (modLane _ _ _).out = _ from modLane_only.same .out (by decide)]
    exact slkQueue_emits (by decide) hst hawake hack hq hroom

/-- A write of 0 wakes the transmitter and forgets the SLEEP that awaits its ACK. -/
theorem slkTxSleepWrite_false (n : Nat) (s : State) :
    (laneOf (slkTxSleepWrite n false s) n).txSleep = false ∧ (laneOf (slkTxSleepWrite n false s) n).sleepAck = none := by
  have hwrite : slkTxSleepWrite n false s = slkDrain 64 n (modLane n (fun l => { l with
      txSleep := false, sleepAck := none, queue := l.queue.filter fun p => p.1 != tySleep }) s) := rfl
  rw [hwrite, (slkDrain_drainOnly ..).txSleep, (slkDrain_drainOnly ..).sendingOnly.sleepAck, laneOf_modLane]
  exact ⟨rfl, rfl⟩

theorem exec_slkTxSleep_wakes (t : Nat) (ep : Fin 10) (tag : BitVec 8) (lane : Fin 8) (s : State)
    (h : Accepts s t ep tag 0x7C18 lane [0]) :
    ∃ u, exec (.slkTxSleep t ep tag lane false) s = .next u ∧ (laneOf u lane).txSleep = false ∧
      (laneOf u lane).sleepAck = none := by
  have he : exec (.slkTxSleep t ep tag lane false) s = done (serveWrite ep tag 0x7C18 lane (sleepVal false) (s.start t)) :=
    rfl
  obtain ⟨hrest, -, -⟩ := serveWrite_txSleep_leaves (v := false) h
  obtain ⟨hwoken, hforgot⟩ := slkTxSleepWrite_false lane (sleepWritten ep lane false (s.start t))
  refine ⟨_, he, ?_, ?_⟩
  · rw [laneOf_settle]; exact hrest.awake lane hwoken
  · rw [laneOf_settle, hrest.sleepAck, hforgot]

/-! ## TRANSMITTER_WAKE and RECEIVER_WAKE (R594, R595) -/

theorem exec_transmitterWake_wakes (t : Nat) (lane : Fin 8) (s : State) (hasleep : (laneOf s lane).txSleep = true)
    (hauto : parB s 0x7C1A lane = true) (hq : (laneOf s lane).queue ≠ []) :
    ∃ u, exec (.transmitterWake t lane) s = .next u ∧ (laneOf u lane).txSleep = false := by
  set w := modLane lane (fun l => { l with txSleep := false }) (s.start t)
  have hgoes : ((laneOf (s.start t) lane).txSleep && parB (s.start t) 0x7C1A lane &&
      !(laneOf (s.start t) lane).queue.isEmpty) = true := by
    simp [laneOf_of_slk (start_slk s t), hasleep, hauto, hq]
  have he : exec (.transmitterWake t lane) s = done (slkDrain 64 lane w) := if_pos hgoes
  refine ⟨_, he, ?_⟩
  rw [laneOf_settle, (slkDrain_drainOnly 64 lane w).txSleep, laneOf_modLane]

theorem exec_receiverWake_wakes (t : Nat) (lane : Fin 8) (s : State) :
    ∃ u, exec (.receiverWake t lane) s = .next u ∧ (laneOf u lane).rxSleep = false ∧ u.out = [] := by
  refine ⟨_, rfl, ?_, rfl⟩
  rw [laneOf_settle, laneOf_modLane]

/-- Settles O21: each clause is the lemma above about its command. -/
theorem scanLinkForwardAndSleep : Obligations.ScanLinkForwardAndSleep :=
  ⟨exec_ptRec_written, exec_ptHdr_written, exec_slkTxSleep_sends, exec_slkTxSleep_wakes, exec_transmitterWake_wakes,
    exec_receiverWake_wakes⟩

end Sys2Proof.Forwarding
end

section
/-!
Points held too long: what PT_HOLD discards depends on whether the point ring has room once the streams that share its rings have
lost what they held too long (R250, R272, R273, R527).
-/
namespace Sys2Proof.Points

open Sys2Proof Sys2Proof.Machine

/-! ## PT_HOLD_EXPIRY -/

/-- What waited too long on the rings of the other streams and of forwarded points has left them (R527, R588). -/
def othersExpired (s : State) : State :=
  (upto 8).foldl (fun s n => fwdExpiry n s)
    (((parN s 0x2C1A 0 :: (upto 8).map fun c => parN s 0x5019 c).dedup.filter (· < 32)).foldl waitExpiry s)

/-- With room for records and none held, results of later frames stay as they are. -/
theorem lateExpiry_of_room {s : State} (hroom : pointRoom s = true) (hheld : s.pt.held = []) : lateExpiry s = s := by
  unfold lateExpiry
  split
  · rfl
  · simp [hroom, hheld]

/-- With room for records once the other streams have lost theirs, and none held or waiting, no record is discarded. -/
theorem exec_ptHoldExpiry_of_room {t : Nat} {s : State} (hroom : pointRoom (othersExpired (s.start t)) = true)
    (hheld : (othersExpired (s.start t)).pt.held = []) (hfrom : heldFrom (othersExpired (s.start t)) = none) :
    exec (.ptHoldExpiry t) s = done (othersExpired (s.start t)) := by
  change execPtHoldExpiry t s = _
  unfold execPtHoldExpiry
  extract_lets u rings v
  have hv : v = lateExpiry (othersExpired (s.start t)) := by unfold othersExpired; rfl
  rw [hv, lateExpiry_of_room hroom hheld, hfrom]

/-- A result of frame 9, which waits for the header of frame 3. -/
def laterResult : ResE := { recs := [{ chan := 5 }], frame := 9 }

/-- The histogram statistics have the frame ring: with 64 headers waiting there, the point ring takes no record. -/
def headersOnHistRing : State :=
  modPt (fun p => { p with hdrDue := [([1, 2, 3], true)], results := [laterResult] })
    (modRing 5 (fun r => { r with waiting := List.replicate 64 { hdr := [1, 2, 3] } })
      (modRing 3 (fun r => { r with enable := true, buf := some { len := 4096 } })
        (setPar 0x2C1A 0 (.int 5) (setPar 0x3802 0 (.int 5) (setPar 0x3801 0 (.int 3) { State.reset with dev := .run })))))

theorem othersExpired_headersOnHistRing :
    pointRoom (othersExpired (headersOnHistRing.start (200 * msU))) = true ∧
      (othersExpired (headersOnHistRing.start (200 * msU))).pt = headersOnHistRing.pt ∧
      heldFrom (othersExpired (headersOnHistRing.start (200 * msU))) = none := by
  decide

/-- Refutes O34: its clause on results that wait for an earlier frame's header has them discarded beyond PT_HOLD when the point
ring has no room at the start of PT_HOLD_EXPIRY. Where that is for want of places for headers, and the frame ring is also
the ring of another stream (which R250 rules out and the clause does not), what waits there too long leaves it first: the point
ring then has room, and nothing is discarded. -/
theorem not_pointStream : ¬ Obligations.PointStream := by
  unfold Obligations.PointStream
  rintro ⟨-, -, -, -, -, -, -, -, hgone, -, -, -⟩
  obtain ⟨hroom, hpt, hfrom⟩ := othersExpired_headersOnHistRing
  have he := exec_ptHoldExpiry_of_room hroom (by rw [hpt]; rfl) hfrom
  obtain ⟨u, hu, hresults⟩ := hgone (200 * msU) headersOnHistRing laterResult 3 true (by decide) (by decide) (by decide)
    rfl rfl (by decide) rfl (by decide) (by decide)
  rw [he] at hu
  obtain rfl := Host.Outcome.next.inj hu
  rw [settle_pt, hpt] at hresults
  exact absurd hresults (by decide)

end Sys2Proof.Points
end

section
/-!
Host software's commands to the mirror control and the injection generator, and the bridge's own re-enable: what an accepted WRITE
that is refused or that applies at once leaves, and the loop as it closes on the primary (R309 to R312, R316, R318, R690).
-/
namespace Sys2Proof.Mirror

open Sys2Proof Sys2Proof.Machine Sys2Proof.Calliope Sys2Proof.Lce Sys2Proof.Served Sys2Proof.Tuning

/-! ## Refused and immediate writes (R15, R545) -/

/-- A write-only entry whose effect refuses the WRITE answers with that status (R545). -/
theorem xiWrite_refused {ep st : Nat} {r : Req} {s : State} {row : DRow} (hstatus : writeStatus ep r.num r.sub r.val s = 0)
    (hrow : dictFind r.num r.sub = some row) (hacc : row.acc = .wo)
    (heffect : woWrite ep r.num r.sub r.val s = (st, [], s)) (hst : st ≠ 0) : xiWrite ep r s = (st, [], s) := by
  simp only [xiWrite, hstatus, hrow, hacc, heffect, if_neg hst]
  rfl

/-- A refused request waits for nothing. -/
theorem waitsFor_refused {r : Req} {st : Nat} (hst : st ≠ 0) : waitsFor r st = none := by
  simp [waitsFor, hst]

/-- A WRITE of an entry whose value waits for no tick or sequence start is answered at once. -/
theorem waitsFor_wreq {num sub : Nat} (tag : Byte) (val : List Byte) (hnum : num ≠ 0x4404)
    (hwait : ackWait (dkey num sub) = none) : waitsFor (wreq tag num sub val) 0 = none := by
  simp [waitsFor, mkReq, hnum, hwait]

/-- A request that is refused, and closes no session, is remembered and answered with its status. -/
theorem serve_refused {ep st : Nat} {r : Req} {s : State} (hserves : Serves s ep r) (hgood : r.good = true)
    (hop : r.op ≠ 0x02#8) (hexec : xiExec ep r s = (st, [], s)) (hst : st ≠ 0) :
    serve ep r s = respond ep (rspMsg r st []) (remember ep r (rspMsg r st []) s) := by
  obtain ⟨hdelivers, hboot, hopen, hrepeat⟩ := hserves
  simp [serve, hdelivers, hgood, hboot, hopen, hrepeat, hexec, hop, waitsFor_refused hst]

/-- An accepted WRITE of a write-only entry that its effect refuses changes nothing but the session and the transport, and
puts out its response. -/
theorem serveWrite_refused {t ep num sub st : Nat} {tag : Byte} {val : List Byte} {s : State}
    (h : Accepts s t ep tag num sub val) (hacc : (dictFind num sub).map (·.acc) = some .wo)
    (heffect : woWrite ep num sub val (s.start t) = (st, [], s.start t)) (hst : st ≠ 0) :
    Only [.eic, .pci, .xi, .slk, .out] (s.start t) (serveWrite ep tag num sub val (s.start t)) ∧
      .xiest ep (rspMsg (wreq tag num sub val) st []) ∈ (serveWrite ep tag num sub val (s.start t)).out := by
  obtain ⟨hserves, hstatus⟩ := h
  obtain ⟨row, hrow, hwo⟩ := Option.map_eq_some_iff.mp hacc
  have hwrite := xiWrite_refused (r := wreq tag num sub val) hstatus hrow hwo heffect hst
  rw [serveWrite, serve_refused hserves rfl (show 0x11#8 ≠ 0x02#8 by decide) hwrite hst]
  exact ⟨.step respond_only (by decide) (remember_only.mono (by decide)), respond_emits ..⟩

/-- A written value in force with its dictionary record, before what it makes the device do (R15, R478). -/
def valueWritten (ep num sub : Nat) (v : DVal) (s : State) : State :=
  dictRecord (dkey num sub) v (transportOf ep) (setPar num sub v s)

theorem valueWritten_only (ep num sub : Nat) (v : DVal) (s : State) :
    Only [.dict, .car] s (valueWritten ep num sub v s) :=
  .step dictRecord_only (by decide) (setPar_only.mono (by decide))

theorem par_valueWritten (ep num sub : Nat) (v : DVal) (s : State) : par (valueWritten ep num sub v s) num sub = v := by
  have hdict : (valueWritten ep num sub v s).dict = (setPar num sub v s).dict := dictRecord_only.same .dict (by decide)
  exact (par_of_inForce (congrArg DictS.inForce hdict) ..).trans (par_setPar ..)

theorem dictFind_num {num sub : Nat} {row : DRow} (h : dictFind num sub = some row) : row.num = num := by
  have hmatch := List.find?_some h
  simp only [Bool.and_eq_true, beq_iff_eq] at hmatch
  exact hmatch.1.1

/-- The row of an entry that software writes and that applies at once, with nothing to wait for. -/
structure Immediate (num sub : Nat) (row : DRow) : Prop where
  found : dictFind num sub = some row
  acc : row.acc = .rw
  app : row.app = .imm
  wait : ackWait (dkey num sub) = none

/-- An accepted WRITE of an entry that applies at once acts on the value it put in force. -/
theorem writeValue_immediate {ep num sub : Nat} {val : List Byte} {row : DRow} {s : State} (h : Immediate num sub row) :
    writeValue ep num sub val s = immApplied num sub (valueWritten ep num sub (decVal row.ty val) s) := by
  have hnow : (row.app == .imm && ackWait (dkey num sub) == none) = true := by rw [h.app, h.wait]; rfl
  have hplain : ¬ (row.acc == .rws) = true := by rw [h.acc]; decide
  unfold writeValue
  rw [h.found]
  simp only [if_neg hplain, acceptValue, dictFind_num h.found]
  exact if_pos hnow

/-- An accepted WRITE of an entry that applies at once leaves what its value makes the device do, but for the session and the
transport, and puts out its response. -/
theorem serveWrite_immediate {t ep num sub : Nat} {tag : Byte} {val : List Byte} {row : DRow} {s : State}
    (h : Accepts s t ep tag num sub val) (himm : Immediate num sub row) (hnum : num ≠ 0x4404) :
    Only [.eic, .pci, .xi, .slk, .out] (immApplied num sub (valueWritten ep num sub (decVal row.ty val) (s.start t)))
        (serveWrite ep tag num sub val (s.start t)) ∧
      .xiest ep (rspMsg (wreq tag num sub val) 0 []) ∈ (serveWrite ep tag num sub val (s.start t)).out := by
  obtain ⟨hserves, hstatus⟩ := h
  have hwrite : xiWrite ep (wreq tag num sub val) (s.start t) =
      rspOk (immApplied num sub (valueWritten ep num sub (decVal row.ty val) (s.start t))) := by
    rw [← writeValue_immediate himm]
    have hst : writeStatus ep (wreq tag num sub val).num (wreq tag num sub val).sub (wreq tag num sub val).val
      (s.start t) = 0 := hstatus
    have hfound : dictFind (wreq tag num sub val).num (wreq tag num sub val).sub = some row := himm.found
    simp only [xiWrite, hst, hfound, himm.acc]
    rfl
  rw [serveWrite_accepted hserves hwrite (waitsFor_wreq tag val hnum himm.wait)]
  exact ⟨.step respond_only (by decide) (remember_only.mono (by decide)), respond_emits ..⟩

/-! ## MIR_PRI_RETRY (R309) -/

/-- The primary's test is asked for. -/
theorem priRetry_of_secondary {s : State} (huse : s.lce.inUse = 1) (hoos : s.lce.priOos = true)
    (hretry : s.lce.retry = false) (h2 : s.lce.mode ≠ 2) (h4 : s.lce.mode ≠ 4) :
    priRetry s = rspOk (modLce (fun l => { l with retry := true, retryFrame := false, retryBad := false }) s) := by
  simp [priRetry, huse, hoos, hretry, h2, h4]

theorem priRetry_rejected {s : State}
    (h : s.lce.inUse ≠ 1 ∨ s.lce.priOos = false ∨ s.lce.mode = 2 ∨ s.lce.mode = 4) : priRetry s = (4, [], s) := by
  rcases h with h | h | h | h <;> simp [priRetry, h]

theorem exec_mirPriRetry_retries (t : Nat) (ep : Fin 10) (tag : BitVec 8) (s : State)
    (h : Accepts s t ep tag 0x4022 0 [1]) (huse : s.lce.inUse = 1) (hoos : s.lce.priOos = true)
    (hretry : s.lce.retry = false) (h2 : s.lce.mode ≠ 2) (h4 : s.lce.mode ≠ 4) :
    ∃ u, exec (.mirPriRetry t ep tag true) s = .next u ∧
      u.lce = { s.lce with retry := true, retryFrame := false, retryBad := false } ∧
      Emits u (.xiest ep (rspMsg (wreq tag 0x4022 0 [1]) 0 [])) := by
  have he : exec (.mirPriRetry t ep tag true) s = done (serveWrite ep tag 0x4022 0 [1] (s.start t)) := rfl
  obtain ⟨honly, hemits⟩ := serveWrite_writeOnly h (by decide)
    (priRetry_of_secondary (s := s.start t) huse hoos hretry h2 h4)
    (waitsFor_wreq tag [1] (by decide) (by decide))
  exact ⟨_, he, honly.same .lce (by decide), hemits⟩

theorem exec_mirPriRetry_rejected (t : Nat) (ep : Fin 10) (tag : BitVec 8) (s : State)
    (h : Accepts s t ep tag 0x4022 0 [1])
    (hnot : s.lce.inUse ≠ 1 ∨ s.lce.priOos = false ∨ s.lce.mode = 2 ∨ s.lce.mode = 4) :
    ∃ u, exec (.mirPriRetry t ep tag true) s = .next u ∧ u.lce = s.lce ∧
      Emits u (.xiest ep (rspMsg (wreq tag 0x4022 0 [1]) 4 [])) := by
  have he : exec (.mirPriRetry t ep tag true) s = done (serveWrite ep tag 0x4022 0 [1] (s.start t)) := rfl
  obtain ⟨honly, hemits⟩ := serveWrite_refused h (by decide) (priRetry_rejected (s := s.start t) hnot) (by decide)
  exact ⟨_, he, honly.same .lce (by decide), hemits⟩

/-! ## The loop closes on the primary (R311, R312, R690) -/

/-- The loop is closed on the primary, and firing is inhibited until a frame is complete. -/
structure ClosedOnPrimary (s : State) : Prop where
  latched : s.lce.latched = false
  mode : s.lce.mode = 0
  inUse : s.lce.inUse = 0
  restartWait : s.lce.restartWait = true
  inhibited : .restart ∈ s.rm.inhibits

theorem closeLoop_closed {s : State} (h : s.lce.priFail = false) : ClosedOnPrimary (closeLoop s) := by
  unfold closeLoop
  rw [if_neg (by simp [h])]
  extract_lets use u
  have huse : use = 0 := by simp [use, h]
  exact ⟨rfl, congrArg closedMode huse, huse, rfl, inhibit_mem .restart u⟩

theorem mem_uninhibit {v w : Inhibit} {s : State} : v ∈ (uninhibit w s).rm.inhibits ↔ v ∈ s.rm.inhibits ∧ v ≠ w := by
  simp [uninhibit]

/-- The inhibits of an LCE fault, of a bridge trip and of a bridge switched off end (R290, R312, R690). -/
def bridgeInhibitsEnd (s : State) : State := uninhibit .bridgeOff (uninhibit .bridge (uninhibit .lceFault s))

theorem bridgeInhibitsEnd_fld (s : State) : (bridgeInhibitsEnd s).fld = s.fld := rfl

theorem bridgeInhibitsEnd_closed {s : State} (h : ClosedOnPrimary s) :
    ClosedOnPrimary (bridgeInhibitsEnd s) ∧ .bridge ∉ (bridgeInhibitsEnd s).rm.inhibits ∧
      .bridgeOff ∉ (bridgeInhibitsEnd s).rm.inhibits := by
  obtain ⟨hlatched, hmode, huse, hrestart, hin⟩ := h
  refine ⟨⟨hlatched, hmode, huse, hrestart, ?_⟩, ?_, uninhibit_mem .bridgeOff _⟩
  · simp [bridgeInhibitsEnd, mem_uninhibit, hin]
  · simp [bridgeInhibitsEnd, mem_uninhibit]

/-- A bridge that may be enabled is, by LCE_REARM; the loop closes on a good primary, and what the bridge inhibited ends. -/
theorem bridgeStart_closed {s : State} (hallowed : bridgeAllowed s = true) (hpri : s.lce.priFail = false) :
    ClosedOnPrimary (bridgeStart s) ∧ .bridge ∉ (bridgeStart s).rm.inhibits ∧
      .bridgeOff ∉ (bridgeStart s).rm.inhibits ∧ (bridgeStart s).fld = (sendRearm s).fld := by
  have hlce : (sendRearm s).lce = s.lce := sendRearm_only.same .lce (by decide)
  have hclosed : ClosedOnPrimary (closeLoop (sendRearm s)) := closeLoop_closed (by rw [hlce]; exact hpri)
  have hfld : (closeLoop (sendRearm s)).fld = (sendRearm s).fld := closeLoop_only.same .fld (by decide)
  have hstart : bridgeStart s = bridgeInhibitsEnd (closeLoop (sendRearm s)) := by
    rw [bridgeStart, if_pos hallowed, if_pos hclosed.restartWait, bridgeInhibitsEnd]
  obtain ⟨hend, hnotTripped, hnotOff⟩ := bridgeInhibitsEnd_closed hclosed
  rw [hstart]
  exact ⟨hend, hnotTripped, hnotOff, (bridgeInhibitsEnd_fld _).trans hfld⟩

/-- LCE_REARM is the newest frame of BL2's replay buffer. -/
theorem sendRearm_newest (s : State) :
    (linkOf (sendRearm s) 2).replay.getLast? = some ((linkOf s 2).txSeq, 0x11, []) := by
  have hseq : (linkOf (sendRearm s) 2).txSeq - 1 = (linkOf s 2).txSeq := by
    rw [sendRearm, Barrier.barSend_txSeq, BitVec.add_sub_cancel]
  rw [← hseq]
  exact barSend_newest 2 0x11 [] s

/-! ## MIR_RESTART (R311) -/

theorem mirRestart_closed {s : State} (hlatched : s.lce.latched = true) (h4 : s.lce.mode ≠ 4)
    (hpri : s.lce.priFail = false) : ClosedOnPrimary (mirRestart s) := by
  have hgo : mirRestart s = closeLoop s := by simp [mirRestart, hlatched, h4]
  rw [hgo]
  exact closeLoop_closed hpri

theorem exec_mirRestart_restarts (t : Nat) (ep : Fin 10) (tag : BitVec 8) (s : State)
    (h : Accepts s t ep tag 0x4023 0 [1]) (hlatched : s.lce.latched = true) (h4 : s.lce.mode ≠ 4)
    (hpri : s.lce.priFail = false) :
    ∃ u, exec (.mirRestart t ep tag true) s = .next u ∧ u.lce.latched = false ∧
      u.lce.mode = 0 ∧
      u.lce.inUse = 0 ∧
      u.lce.restartWait = true ∧
      .restart ∈ u.rm.inhibits := by
  have he : exec (.mirRestart t ep tag true) s = done (serveWrite ep tag 0x4023 0 [1] (s.start t)) := rfl
  obtain ⟨honly, -⟩ := serveWrite_writeOnly (v := mirRestart (s.start t)) h (by decide) rfl
    (waitsFor_wreq tag [1] (by decide) (by decide))
  have hlce : (serveWrite ep tag 0x4023 0 [1] (s.start t)).lce = (mirRestart (s.start t)).lce :=
    honly.same .lce (by decide)
  have hrm : (serveWrite ep tag 0x4023 0 [1] (s.start t)).rm = (mirRestart (s.start t)).rm :=
    honly.same .rm (by decide)
  obtain ⟨hunlatched, hmode, huse, hrestart, hin⟩ := mirRestart_closed (s := s.start t) hlatched h4 hpri
  refine ⟨_, he, ?_⟩
  rw [settle_lce, settle_inhibits, hlce, hrm]
  exact ⟨hunlatched, hmode, huse, hrestart, hin⟩

/-! ## MIR_BRIDGE_EN (R690) -/

/-- The state in which a written MIR_BRIDGE_EN acts on the bridge. -/
abbrev bridgeWritten (ep : Nat) (v : Bool) (s : State) : State := valueWritten ep 0x4024 0 (.int (b2n v)) s

theorem parB_bridgeWritten (ep : Nat) (v : Bool) (s : State) : parB (bridgeWritten ep v s) 0x4024 0 = v := by
  have hval := congrArg dvInt (par_valueWritten ep 0x4024 0 (.int (b2n v)) s)
  have hpar : parI (bridgeWritten ep v s) 0x4024 0 = b2n v := hval
  rw [parB, hpar]
  cases v <;> rfl

theorem immApplied_bridgeWritten (ep : Nat) (v : Bool) (s : State) :
    immApplied 0x4024 0 (bridgeWritten ep v s) = bridgeEnable v (bridgeWritten ep v s) := by
  have happly : immApplied 0x4024 0 (bridgeWritten ep v s) =
      bridgeEnable ((dvInt (par (bridgeWritten ep v s) 0x4024 0)).toNat != 0) (bridgeWritten ep v s) := by
    unfold immApplied
    rfl
  rw [happly, par_valueWritten]
  cases v <;> rfl

/-- A served WRITE of MIR_BRIDGE_EN leaves the bridge as the value written has it, and puts out its response. -/
theorem serveWrite_bridgeEn {t ep : Nat} {tag : Byte} (v : Bool) {s : State}
    (h : Accepts s t ep tag 0x4024 0 (leBytes 1 (b2n v))) :
    Only [.eic, .pci, .xi, .slk, .out] (bridgeEnable v (bridgeWritten ep v (s.start t)))
        (serveWrite ep tag 0x4024 0 (leBytes 1 (b2n v)) (s.start t)) ∧
      .xiest ep (rspMsg (wreq tag 0x4024 0 (leBytes 1 (b2n v))) 0 []) ∈
        (serveWrite ep tag 0x4024 0 (leBytes 1 (b2n v)) (s.start t)).out := by
  obtain ⟨row, hrow, hfields⟩ := Option.map_eq_some_iff.mp
    (show (dictFind 0x4024 0).map (fun r => (r.ty, r.acc, r.app)) = some (.bool, .rw, .imm) by decide)
  simp only [Prod.mk.injEq] at hfields
  obtain ⟨hty, hacc, happ⟩ := hfields
  have hval : decVal row.ty (leBytes 1 (b2n v)) = .int (b2n v) := by rw [hty]; cases v <;> rfl
  have hleaves := serveWrite_immediate h ⟨hrow, hacc, happ, by decide⟩ (by decide)
  rwa [hval, immApplied_bridgeWritten] at hleaves

/-- Where the bridge acts alone on the mirror, MIR_BRIDGE_EN reads as written. -/
theorem parB_bridgeEnable {u : State} (ep : Nat) (v : Bool) (s : State)
    (h : Only [.eic, .pci, .xi, .slk, .out] (bridgeEnable v (bridgeWritten ep v s)) u) : parB u 0x4024 0 = v := by
  have hdict : u.dict = (bridgeWritten ep v s).dict :=
    (h.same .dict (by decide)).trans (bridgeEnable_only.same .dict (by decide))
  rw [← parB_bridgeWritten ep v s, parB, parB, parI, parI, par_of_inForce (congrArg DictS.inForce hdict)]

theorem bridgeStop_stops (s : State) : (bridgeStop s).fld.bridgeOn = false ∧ (bridgeStop s).lce.mode = 4 ∧
    .bridgeOff ∈ (bridgeStop s).rm.inhibits :=
  ⟨rfl, rfl, inhibit_mem .bridgeOff (bridgeOff s)⟩

theorem exec_mirBridgeEn_off (t : Nat) (ep : Fin 10) (tag : BitVec 8) (s : State) (h : Accepts s t ep tag 0x4024 0 [0]) :
    ∃ u, exec (.mirBridgeEn t ep tag false) s = .next u ∧ parB u 0x4024 0 = false ∧
      u.fld.bridgeOn = false ∧
      u.lce.mode = 4 ∧
      .bridgeOff ∈ u.rm.inhibits ∧
      Emits u (.xiest ep (rspMsg (wreq tag 0x4024 0 [0]) 0 [])) := by
  have he : exec (.mirBridgeEn t ep tag false) s = done (serveWrite ep tag 0x4024 0 [0] (s.start t)) := rfl
  obtain ⟨honly, hemits⟩ := serveWrite_bridgeEn false h
  have hreads := parB_bridgeEnable ep false (s.start t) honly
  set w := bridgeWritten ep false (s.start t)
  have hfld : (serveWrite ep tag 0x4024 0 [0] (s.start t)).fld = (bridgeStop w).fld := honly.same .fld (by decide)
  have hlce : (serveWrite ep tag 0x4024 0 [0] (s.start t)).lce = (bridgeStop w).lce := honly.same .lce (by decide)
  have hrm : (serveWrite ep tag 0x4024 0 [0] (s.start t)).rm = (bridgeStop w).rm := honly.same .rm (by decide)
  obtain ⟨hoff, hmode, hin⟩ := bridgeStop_stops w
  refine ⟨_, he, hreads, ?_, ?_, ?_, hemits⟩
  · rw [settle_fld, hfld, hoff]
  · rw [settle_lce, hlce, hmode]
  · rw [settle_inhibits, hrm]; exact hin

/-- With MIR_BRIDGE_EN written 1, the bridge may be enabled in an operating device without latch or fault of the LCE. -/
theorem bridgeAllowed_bridgeWritten {t ep : Nat} {s : State} (hdev : Operating s) (hlatched : s.lce.latched = false)
    (hfault : s.lce.lceFault = false) : bridgeAllowed (bridgeWritten ep true (s.start t)) = true := by
  have honly : Only [.dict, .car] (s.start t) (bridgeWritten ep true (s.start t)) := valueWritten_only ..
  have hlce : (bridgeWritten ep true (s.start t)).lce = s.lce := honly.same .lce (by decide)
  have hdevW : (bridgeWritten ep true (s.start t)).dev = s.dev := honly.same .dev (by decide)
  rw [bridgeAllowed, parB_bridgeWritten, hlce, hdevW, hlatched, hfault]
  rcases hdev with hdev | hdev | hdev <;> rw [hdev] <;> rfl

theorem exec_mirBridgeEn_on (t : Nat) (ep : Fin 10) (tag : BitVec 8) (s : State) (h : Accepts s t ep tag 0x4024 0 [1])
    (hdev : Operating s) (hoff : s.fld.bridgeOn = false) (hlatched : s.lce.latched = false)
    (hfault : s.lce.lceFault = false) (hpri : s.lce.priFail = false) :
    ∃ u, exec (.mirBridgeEn t ep tag true) s = .next u ∧ parB u 0x4024 0 = true ∧
      u.lce.mode = 0 ∧
      u.lce.inUse = 0 ∧
      .bridgeOff ∉ u.rm.inhibits ∧
      .restart ∈ u.rm.inhibits ∧
      (linkOf u 2).replay.getLast? = some ((linkOf s 2).txSeq, 0x11, []) := by
  have he : exec (.mirBridgeEn t ep tag true) s = done (serveWrite ep tag 0x4024 0 [1] (s.start t)) := rfl
  obtain ⟨honly, -⟩ := serveWrite_bridgeEn true h
  have hreads := parB_bridgeEnable ep true (s.start t) honly
  have hallowed : bridgeAllowed (bridgeWritten ep true (s.start t)) = true :=
    bridgeAllowed_bridgeWritten hdev hlatched hfault
  set w := bridgeWritten ep true (s.start t)
  have hwritten : Only [.dict, .car] (s.start t) w := valueWritten_only ..
  have hlceW : w.lce = s.lce := hwritten.same .lce (by decide)
  have hfldW : w.fld = s.fld := hwritten.same .fld (by decide)
  have hstart : bridgeEnable true w = bridgeStart w := by simp [bridgeEnable, hfldW, hoff]
  rw [hstart] at honly
  obtain ⟨hclosed, -, hnotOff, hsent⟩ := bridgeStart_closed hallowed (by rw [hlceW]; exact hpri)
  have hlce : (serveWrite ep tag 0x4024 0 [1] (s.start t)).lce = (bridgeStart w).lce := honly.same .lce (by decide)
  have hrm : (serveWrite ep tag 0x4024 0 [1] (s.start t)).rm = (bridgeStart w).rm := honly.same .rm (by decide)
  have hfld : (serveWrite ep tag 0x4024 0 [1] (s.start t)).fld = (sendRearm w).fld :=
    (honly.same .fld (by decide)).trans hsent
  refine ⟨_, he, hreads, ?_, ?_, ?_, ?_, ?_⟩
  · rw [settle_lce, hlce]; exact hclosed.mode
  · rw [settle_lce, hlce]; exact hclosed.inUse
  · rw [settle_inhibits, hrm]; exact hnotOff
  · rw [settle_inhibits, hrm]; exact hclosed.inhibited
  · rw [Barrier.linkOf_of_fld ((settle_fld _).trans hfld), sendRearm_newest, Barrier.linkOf_of_fld hfldW]

/-! ## BRIDGE_REENABLE (R312) -/

/-- The one re-enable after a trip is taken, at the instant of the command. -/
def reenableTaken (s : State) : State := modFld (fun c => { c with brgRePend := false, brgReAt := some s.tb }) s

theorem exec_bridgeReenable_reenables (t : Nat) (s : State) (hpend : s.fld.brgRePend = true)
    (hdue : s.fld.brgTripAt + 10 * msU ≤ instant s t) (hallowed : bridgeAllowed s = true)
    (hpri : s.lce.priFail = false) :
    ∃ u, exec (.bridgeReenable t) s = .next u ∧ u.fld.brgRePend = false ∧
      u.fld.brgReAt = some (instant s t) ∧
      .bridge ∉ u.rm.inhibits ∧
      .restart ∈ u.rm.inhibits ∧
      u.lce.restartWait = true ∧
      u.lce.mode = 0 ∧
      (linkOf u 2).replay.getLast? = some ((linkOf s 2).txSeq, 0x11, []) := by
  have hgo : ((s.start t).fld.brgRePend && decide ((s.start t).fld.brgTripAt + 10 * msU ≤ (s.start t).tb)) = true := by
    rw [start_fld, start_tb, hpend, decide_eq_true hdue]; rfl
  set w := reenableTaken (s.start t)
  have he : exec (.bridgeReenable t) s = done (bridgeStart w) := if_pos hgo
  obtain ⟨hclosed, hnotTripped, -, hsent⟩ := bridgeStart_closed (s := w) hallowed hpri
  have hkept : FieldKept w (sendRearm w) := barSend_fieldKept ..
  refine ⟨_, he, ?_, ?_, hnotTripped, hclosed.inhibited, hclosed.restartWait, hclosed.mode, ?_⟩
  · rw [settle_fld, hsent]; exact hkept.eq FldS.brgRePend fun _ _ _ => rfl
  · rw [settle_fld, hsent]; exact hkept.eq FldS.brgReAt fun _ _ _ => rfl
  · rw [Barrier.linkOf_of_fld ((settle_fld _).trans hsent)]
    exact sendRearm_newest w

/-! ## INJ_START and INJ_STOP (R316, R318) -/

/-- An injection whose samples need no recording awaits its start, with the law that INJ_LAW selects. -/
theorem injStart_waits {s : State} (hrun : s.lce.injRun = false) (hwait : s.lce.injWait = false)
    (hdest : parN s 0x4038 0 ≠ 1) :
    injStart s = rspOk (modLce (fun l => { l with
      injWait := true, injRun := false, injLaw := parN s 0x4030 0, injK := 0, injStatus := 1, injBuf := [], prbs := 1
      injPhase := 0 }) s) := by
  simp [injStart, hrun, hwait, hdest]

theorem injStart_refused {s : State} (h : s.lce.injRun = true ∨ s.lce.injWait = true) : injStart s = (4, [], s) := by
  rcases h with h | h <;> simp [injStart, h]

theorem exec_injStart_waits (t : Nat) (ep : Fin 10) (tag : BitVec 8) (s : State) (h : Accepts s t ep tag 0x403A 0 [1])
    (hrun : s.lce.injRun = false) (hwait : s.lce.injWait = false) (hdest : parN s 0x4038 0 ≠ 1) :
    ∃ u, exec (.injStart t ep tag true) s = .next u ∧ u.lce.injWait = true ∧
      u.lce.injStatus = 1 ∧
      u.lce.injLaw = parN s 0x4030 0 ∧
      Emits u (.xiest ep (rspMsg (wreq tag 0x403A 0 [1]) 0 [])) := by
  have he : exec (.injStart t ep tag true) s = done (serveWrite ep tag 0x403A 0 [1] (s.start t)) := rfl
  obtain ⟨honly, hemits⟩ := serveWrite_writeOnly h (by decide)
    (injStart_waits (s := s.start t) hrun hwait hdest) (waitsFor_wreq tag [1] (by decide) (by decide))
  have hlce := honly.same .lce (by decide)
  exact ⟨_, he, congrArg LceS.injWait hlce, congrArg LceS.injStatus hlce, congrArg LceS.injLaw hlce, hemits⟩

theorem exec_injStart_refused (t : Nat) (ep : Fin 10) (tag : BitVec 8) (s : State)
    (h : Accepts s t ep tag 0x403A 0 [1]) (hbusy : s.lce.injRun = true ∨ s.lce.injWait = true) :
    ∃ u, exec (.injStart t ep tag true) s = .next u ∧ u.lce = s.lce ∧
      Emits u (.xiest ep (rspMsg (wreq tag 0x403A 0 [1]) 4 [])) := by
  have he : exec (.injStart t ep tag true) s = done (serveWrite ep tag 0x403A 0 [1] (s.start t)) := rfl
  obtain ⟨honly, hemits⟩ := serveWrite_refused h (by decide) (injStart_refused (s := s.start t) hbusy) (by decide)
  exact ⟨_, he, honly.same .lce (by decide), hemits⟩

/-- An injection that runs ends: no law adds more of it. -/
theorem injEnd_ends (status : Nat) {s : State} (hrun : s.lce.injRun = true) :
    (injEnd status s).lce.injRun = false ∧ (injEnd status s).lce.injWait = false ∧
      (injEnd status s).lce.injStatus = status ∧ ∀ p ∈ (injEnd status s).lce.laws, p.2.inj = 0 := by
  rw [injEnd, if_pos (by rw [hrun]; rfl)]
  refine ⟨rfl, rfl, rfl, fun p hp => ?_⟩
  obtain ⟨q, -, rfl⟩ := List.mem_map.mp hp
  rfl

theorem exec_injStop_ends (t : Nat) (ep : Fin 10) (tag : BitVec 8) (s : State) (h : Accepts s t ep tag 0x403B 0 [1])
    (hrun : s.lce.injRun = true) :
    ∃ u, exec (.injStop t ep tag true) s = .next u ∧ u.lce.injRun = false ∧
      u.lce.injWait = false ∧
      u.lce.injStatus = 5 ∧
      (∀ p ∈ u.lce.laws, p.2.inj = 0) := by
  have he : exec (.injStop t ep tag true) s = done (serveWrite ep tag 0x403B 0 [1] (s.start t)) := rfl
  obtain ⟨honly, -⟩ := serveWrite_writeOnly (v := injEnd 5 (s.start t)) h (by decide) rfl
    (waitsFor_wreq tag [1] (by decide) (by decide))
  have hlce : (serveWrite ep tag 0x403B 0 [1] (s.start t)).lce = (injEnd 5 (s.start t)).lce := honly.same .lce (by decide)
  refine ⟨_, he, ?_⟩
  rw [settle_lce, hlce]
  exact injEnd_ends 5 (s := s.start t) hrun

/-- Settles O30: each clause is the lemma above about its command; MIR_BRIDGE_EN 0 acts so however the entry read before. -/
theorem mirrorHost : Obligations.MirrorHost :=
  ⟨exec_mirPriRetry_retries, exec_mirPriRetry_rejected, exec_mirRestart_restarts,
    fun t ep tag s h _ => exec_mirBridgeEn_off t ep tag s h, exec_mirBridgeEn_on, exec_bridgeReenable_reenables,
    exec_injStart_waits, exec_injStart_refused, exec_injStop_ends⟩

end Sys2Proof.Mirror
end

section
/-!
What judging measurement channels and following excitations leave of the converters, and what a response leaves of the
answers that wait (R294, R327, R336, R341, R342, R346, R550).
-/
namespace Sys2Proof.FrontEnd

open Sys2Proof Sys2Proof.Machine Sys2Proof.Served Sys2Proof.Engines Sys2Proof.Forwarding

/-! ## Folds and banks -/

/-- A fold of steps that keep g keeps g. -/
theorem foldl_keeps {α β : Type} {g : State → β} {f : State → α → State} (h : ∀ s x, g (f s x) = g s)
    (l : List α) (s : State) : g (l.foldl f s) = g s := by
  induction l generalizing s with
  | nil => rfl
  | cons x r ih => exact (ih (f s x)).trans (h s x)

/-- The step of n brings about P where Q holds, the others keep both: after the fold P holds. -/
theorem foldl_establishes {P Q : State → Prop} {f : State → Nat → State} {n : Nat} (hstep : ∀ s, Q s → P (f s n))
    (hQ : ∀ s k, k ≠ n → Q s → Q (f s k)) (hP : ∀ s k, k ≠ n → P s → P (f s k)) {l : List Nat}
    (hnodup : l.Nodup) (hn : n ∈ l) {s : State} (h : Q s) : P (l.foldl f s) := by
  have hrest (r : List Nat) (hr : n ∉ r) (u : State) (hu : P u) : P (r.foldl f u) := by
    induction r generalizing u with
    | nil => exact hu
    | cons k r ih =>
      obtain ⟨hk, hr⟩ := not_or.mp (mt List.mem_cons.mpr hr)
      exact ih hr _ (hP u k (Ne.symm hk) hu)
  induction l generalizing s with
  | nil => exact absurd hn List.not_mem_nil
  | cons k r ih =>
    obtain ⟨hk, hr⟩ := List.nodup_cons.mp hnodup
    by_cases hkn : k = n
    · subst hkn
      exact hrest r hk _ (hstep s h)
    · exact ih hr ((List.mem_cons.mp hn).resolve_left (Ne.symm hkn)) (hQ s k hkn h)

theorem bset_bset {α : Type} (b : Bank α) (k : Nat) (v w : α) : bset (bset b k v) k w = bset b k w := by
  induction b with
  | nil => simp [bset]
  | cons x r ih =>
    obtain ⟨j, z⟩ := x
    by_cases h1 : j = k
    · simp [bset, h1]
    · by_cases h2 : k < j
      · simp [bset, h1, h2]
      · simp [bset, h1, h2, ih]

theorem modMeas_modMeas (m : Nat) (f g : MeasS → MeasS) (s : State) :
    modMeas m g (modMeas m f s) = modMeas m (fun x => g (f x)) s := by
  have h : bmod {} (bmod {} s.adc.meas m f) m g = bmod {} s.adc.meas m fun x => g (f x) := by
    simp only [bmod, bget_bset_self, bset_bset]
  exact congrArg (fun b => { s with adc := { s.adc with meas := b } }) h

theorem lchOf_of_lch {s u : State} (h : u.adc.lch = s.adc.lch) (g : Nat) : lchOf u g = lchOf s g :=
  congrArg (bget ({} : LchS) · g) h

theorem measOf_of_meas {s u : State} (h : u.adc.meas = s.adc.meas) (m : Nat) : measOf u m = measOf s m :=
  congrArg (bget ({} : MeasS) · m) h

/-! ## One measurement channel judged (R342, R346, R658) -/

/-- A change into or out of the broken state is logged (R346). -/
def brokenLogged (m : Nat) (was now : Bool) (s : State) : State :=
  if now && !was then logNow 0x1902 m 0 s else if was && !now then logNow 0x0903 m 0 s else s

/-- Channel m with what it was judged to be, its entry in the log, its records and the charging windows. -/
def judged (output : Bool) (m : Nat) (x : MeasS) (s : State) : State :=
  windowChecks (slowRecord m output (brokenLogged m (measOf s m).broken x.broken (modMeas m (fun _ => x) s)))

/-- A channel is judged by its own state alone; without an output of its own, one pending for too long is broken. -/
theorem measUpdate_eq (output : Bool) (s : State) (m : Nat) : ∃ x, measUpdate output s m = judged output m x s ∧
    (output = false → (measOf s m).late = true → x.broken = true) := by
  unfold measUpdate
  extract_lets old used refNot cause chOk s1 x broken s2 s3
  have h1 : ∃ f, s1 = modMeas m f s ∧ (output = false → ∀ y, (f y).late = y.late) := by
    subst s1
    split
    · exact ⟨_, rfl, fun _ _ => rfl⟩
    · next hgo =>
      have hout : output = true := by
        by_contra hno
        exact hgo (by simp [hno])
      split
      · exact ⟨_, rfl, fun _ _ => rfl⟩
      · exact ⟨_, rfl, fun hno => absurd hout (by simp [hno])⟩
  obtain ⟨f, h1, hlate⟩ := h1
  have hx : x = f (measOf s m) := by rw [show x = measOf s1 m from rfl, h1, measOf_modMeas]
  have h2 : s2 = modMeas m (fun _ => { x with broken := broken, refNot := refNot, valid := x.valid && !broken }) s := by
    rw [show s2 = modMeas m _ s1 from rfl, h1, modMeas_modMeas, hx]
    rfl
  refine ⟨{ x with broken := broken, refNot := refNot, valid := x.valid && !broken }, ?_, fun hno hwas => ?_⟩
  · rw [judged, ← h2]; rfl
  · have hxlate : x.late = true := by rw [hx, hlate hno, hwas]
    simp only [broken, hxlate, Bool.or_true, ite_self]

theorem brokenLogged_only (m : Nat) (was now : Bool) (s : State) :
    Only [.eic, .log, .pci, .slk, .out] s (brokenLogged m was now s) := by
  unfold brokenLogged
  split
  · exact logNow_only
  · split
    · exact logNow_only
    · exact .refl

theorem judged_adc (output : Bool) (m : Nat) (x : MeasS) (s : State) :
    (judged output m x s).adc = { s.adc with meas := bset s.adc.meas m x } :=
  (windowChecks_only.same .adc (by decide)).trans <|
    (slowRecord_only.same .adc (by decide)).trans ((brokenLogged_only ..).same .adc (by decide))

theorem measUpdate_keeps {α : Type} {g : AdcS → α} (hg : ∀ a b, g { a with meas := b } = g a) (output : Bool)
    (s : State) (m : Nat) : g (measUpdate output s m).adc = g s.adc := by
  obtain ⟨x, he, -⟩ := measUpdate_eq output s m
  rw [he, judged_adc, hg]

theorem measOf_measUpdate_ne (output : Bool) (s : State) {m i : Nat} (h : i ≠ m) :
    measOf (measUpdate output s m) i = measOf s i := by
  obtain ⟨x, he, -⟩ := measUpdate_eq output s m
  rw [he, measOf, judged_adc]
  exact bget_bset_ne {} x s.adc.meas h

/-- A measurement channel still pending after its time is judged broken (R658). -/
theorem measUpdate_late {s : State} {m : Nat} (h : (measOf s m).late = true) :
    (measOf (measUpdate false s m) m).broken = true := by
  obtain ⟨x, he, hbroken⟩ := measUpdate_eq false s m
  rw [he, measOf, judged_adc]
  simp only [bget_bset_self, hbroken rfl h]

theorem logNow_outKept (code src data : Nat) (s : State) : OutKept s (logNow code src data s) := by
  unfold logNow logAt logEntry
  extract_lets e c u lost
  have hu : OutKept s u := by
    subst u
    split
    · exact (eicEdge_outKept ..).after rfl
    · exact .refl s
  split
  · exact hu.trans (.of_out rfl)
  · exact hu.trans ((eicEdge_outKept ..).after rfl)

theorem measUpdate_outKept (output : Bool) (s : State) (m : Nat) : OutKept s (measUpdate output s m) := by
  obtain ⟨x, he, -⟩ := measUpdate_eq output s m
  have hlog (was now : Bool) (u : State) : OutKept u (brokenLogged m was now u) := by
    unfold brokenLogged
    split
    · exact logNow_outKept ..
    · split
      · exact logNow_outKept ..
      · exact .refl u
  set v := modMeas m (fun _ => x) s
  have hafter : (judged output m x s).out = (brokenLogged m (measOf s m).broken x.broken v).out :=
    (windowChecks_only.same .out (by decide)).trans (slowRecord_only.same .out (by decide))
  rw [he]
  exact OutKept.after ((hlog (measOf s m).broken x.broken v).trans (.of_out hafter)) rfl

theorem measUpdate_stagedUpTo (output : Bool) (s : State) (m : Nat) : StagedUpTo 1 s (measUpdate output s m) := by
  obtain ⟨x, he, -⟩ := measUpdate_eq output s m
  set v := modMeas m (fun _ => x) s
  have hlog : StagedUpTo 1 v (brokenLogged m (measOf s m).broken x.broken v) := by
    unfold brokenLogged
    split
    · exact logNow_stagedUpTo ..
    · split
      · exact logNow_stagedUpTo ..
      · exact ⟨[], Nat.zero_le 1, (List.append_nil _).symm⟩
  have hafter : (judged output m x s).log = (brokenLogged m (measOf s m).broken x.broken v).log :=
    (windowChecks_only.same .log (by decide)).trans (slowRecord_only.same .log (by decide))
  rw [he]
  exact hlog.trans (.of_log 0 hafter)

theorem foldl_stagedUpTo {α : Type} {f : State → α → State} (h : ∀ s x, StagedUpTo 1 s (f s x)) (l : List α)
    (s : State) : StagedUpTo l.length s (l.foldl f s) := by
  induction l generalizing s with
  | nil => exact .of_log 0 rfl
  | cons x r ih =>
    rw [List.length_cons, Nat.add_comm]
    exact (h s x).trans (ih _)

/-! ## All measurement channels, and the excitations (R336, R339, R341, R346) -/

theorem measAll_keeps {α : Type} {g : AdcS → α} (hg : ∀ a b, g { a with meas := b } = g a) (s : State) :
    g (measAll s).adc = g s.adc :=
  foldl_keeps (g := fun s => g s.adc) (measUpdate_keeps hg false) _ s

theorem measAll_outKept (s : State) : OutKept s (measAll s) := .foldl (measUpdate_outKept false) _ s

theorem measAll_stagedUpTo (s : State) : StagedUpTo 32 s (measAll s) := by
  have h := foldl_stagedUpTo (measUpdate_stagedUpTo false) (upto 32) s
  rwa [List.length_range] at h

theorem modLch_keeps {α : Type} {g : AdcS → α} (hg : ∀ a b, g { a with lch := b } = g a) (n : Nat) (f : LchS → LchS)
    (s : State) : g (modLch n f s).adc = g s.adc := hg ..

/-- Excitation n as an excitation change at this instant leaves it. -/
def excChanged (s : State) (x : ExcS) : ExcS :=
  { x with
    settleFrom := if decide (0 < x.settleEnd) && decide (s.tb ≤ x.settleEnd) then x.settleFrom else s.tb
    settleEnd := s.tb + parN s 0x4413 0 * usU, settling := true }

theorem excChange_keeps {α : Type} {g : AdcS → α} (hg : ∀ a b, g { a with lch := b } = g a) (n : Nat) (s : State) :
    g (excChange n s).adc = g { s.adc with exc := bmod {} s.adc.exc n (excChanged s) } := by
  unfold excChange
  refine (foldl_keeps (g := fun s => g s.adc) (fun u k => ?_) ..).trans rfl
  split
  · exact modLch_keeps hg ..
  · rfl

theorem excFollow_keeps {α : Type} {g : AdcS → α} (hlch : ∀ a b, g { a with lch := b } = g a)
    (hexc : ∀ a b, g { a with exc := b } = g a) (s : State) : g (excFollow s).adc = g s.adc := by
  unfold excFollow
  refine foldl_keeps (g := fun s => g s.adc) (fun u n => ?_) ..
  extract_lets on
  split
  · rfl
  · exact ((excChange_keeps hlch ..).trans (hexc ..)).trans (hexc ..)

theorem excFollow_log (s : State) : (excFollow s).log = s.log := excFollow_only.same .log (by decide)

theorem excApply_keeps {α : Type} {g : AdcS → α} (hmeas : ∀ a b, g { a with meas := b } = g a)
    (hlch : ∀ a b, g { a with lch := b } = g a) (hexc : ∀ a b, g { a with exc := b } = g a) (s : State) :
    g (excApply s).adc = g s.adc :=
  (measAll_keeps hmeas _).trans (excFollow_keeps hlch hexc s)

theorem refReadySet_refReady (b : Bool) (s : State) : (refReadySet b s).adc.refReady = b := by
  unfold refReadySet
  split
  · next h => exact eq_of_beq h
  · exact excApply_keeps (g := AdcS.refReady) (fun _ _ => rfl) (fun _ _ => rfl) (fun _ _ => rfl) _

theorem refReadySet_refBadLog (b : Bool) (s : State) : (refReadySet b s).adc.refBadLog = s.adc.refBadLog := by
  unfold refReadySet
  split
  · rfl
  · exact excApply_keeps (g := AdcS.refBadLog) (fun _ _ => rfl) (fun _ _ => rfl) (fun _ _ => rfl) _

theorem refReadySet_stagedUpTo (b : Bool) (s : State) : StagedUpTo 32 s (refReadySet b s) := by
  unfold refReadySet
  split
  · exact ⟨[], by decide, (List.append_nil _).symm⟩
  · have hfollow : StagedUpTo 0 s (excFollow (modAdc (fun a => { a with refReady := b }) s)) := .of_log 0 (excFollow_log _)
    exact hfollow.trans (measAll_stagedUpTo _)

/-! ## Answers that wait (R294, R327) -/

theorem canPump_owed (fuel k : Nat) (s : State) : (canPump fuel k s).xi.owed = s.xi.owed := by
  induction fuel generalizing s with
  | zero => rfl
  | succ fuel ih =>
    unfold canPump
    extract_lets c
    split
    · rfl
    · split
      · rfl
      · exact ih _

theorem canQueue_owed (k : Nat) (safety : Bool) (id : Nat) (d : List Byte) (s : State) :
    (canQueue k safety id d s).xi.owed = s.xi.owed := by
  unfold canQueue
  extract_lets c u
  split
  · rfl
  · exact (canPump_owed ..).trans (canPump_owed ..)

theorem canTx_owed (fuel : Nat) (s : State) : (canTx fuel s).xi.owed = s.xi.owed := by
  induction fuel generalizing s with
  | zero => rfl
  | succ fuel ih =>
    unfold canTx
    extract_lets e c u rest wait v
    have hv : v.xi.owed = s.xi.owed := canQueue_owed ..
    split
    · rfl
    · split
      · exact hv
      · exact (ih v).trans hv

theorem canRespond_owed (m : List Byte) (s : State) : (canRespond m s).xi.owed = s.xi.owed := by
  unfold canRespond
  split
  · exact canQueue_owed ..
  · exact (canTx_owed ..).trans (canQueue_owed ..)

theorem mbxRespond_owed (m : List Byte) (s : State) : (mbxRespond m s).xi.owed = s.xi.owed := by
  unfold mbxRespond mbxPlace
  extract_lets d rest
  have hedge (u : State) : (eicEdge 480 u).xi = u.xi := eicEdge_only.same .xi (by decide)
  exact (congrArg XiS.owed (hedge _)).trans rfl

/-- A response leaves the answers that wait. -/
theorem respond_owed (ep : Nat) (m : List Byte) (s : State) : (respond ep m s).xi.owed = s.xi.owed := by
  unfold respond
  extract_lets u
  split
  · exact canRespond_owed ..
  · split
    · exact mbxRespond_owed ..
    · exact congrArg XiS.owed (slkRespond_only.same .xi (by decide))

theorem ackOwed_owed (k : Nat) (s : State) : (ackOwed k s).xi.owed = s.xi.owed.filter fun x => x.1 != k :=
  foldl_keeps (g := fun s => s.xi.owed) (fun _ _ => respond_owed ..) _ _

/-- Every answer that waited for the instant is put out. -/
theorem ackOwed_emits {k ep : Nat} {m : List Byte} {s : State} (h : (k, ep, m) ∈ s.xi.owed) :
    .xiest ep m ∈ (ackOwed k s).out := by
  have hmem : (k, ep, m) ∈ s.xi.owed.filter fun x => x.1 == k := List.mem_filter.mpr ⟨h, beq_self_eq_true k⟩
  obtain ⟨l, r, hsplit⟩ := List.append_of_mem hmem
  unfold ackOwed
  extract_lets due
  rw [show due = l ++ (k, ep, m) :: r from hsplit, List.foldl_append, List.foldl_cons]
  exact (OutKept.foldl (fun _ _ => respond_outKept ..) r _).mem _ (respond_emits ..)

end Sys2Proof.FrontEnd
end

section
/-!
Sequence starts: what each converter's sequencer does at one, and ADC_SEQUENCE_START (R324, R327, R366, R367).
-/
namespace Sys2Proof.Sequences

open Sys2Proof Sys2Proof.Machine Sys2Proof.Served Sys2Proof.Tuning Sys2Proof.FrontEnd

/-! ## Values in force -/

theorem dlook_bset_ne (b : Bank DVal) {k i : Nat} (v : DVal) (h : i ≠ k) : dlook (bset b k v) i = dlook b i := by
  induction b with
  | nil => simp [bset, dlook, Ne.symm h]
  | cons x r ih =>
    obtain ⟨j, w⟩ := x
    unfold bset
    split
    · next h1 => subst h1; simp [dlook, Ne.symm h]
    · split
      · next h1 h2 =>
        simp only [dlook, if_neg (Ne.symm h)]
        split
        · split
          · omega
          · split
            · rfl
            · omega
        · rfl
      · simp only [dlook, ih]

theorem par_of_dict {s u : State} (h : u.dict = s.dict) (num sub : Nat) : par u num sub = par s num sub :=
  par_of_inForce (congrArg DictS.inForce h) num sub

/-- Values of other entries put in force leave the value of an entry. -/
theorem par_putInForce {l : Bank DVal} {num sub : Nat} (ofs : Nat) (h : ∀ p ∈ l, p.1 ≠ dkey num sub) (s : State) :
    par (putInForce l ofs s) num sub = par s num sub := by
  unfold putInForce
  induction l generalizing s with
  | nil => rfl
  | cons p r ih =>
    rw [List.foldl_cons, ih fun q hq => h q (List.mem_cons_of_mem p hq)]
    have hp : dkey num sub ≠ p.1 := (h p List.mem_cons_self).symm
    refine (par_of_dict (dictRecord_only.same .dict (by decide)) ..).trans ?_
    simp only [par, dlook_bset_ne _ _ hp]

/-- Written values of other entries that take effect leave the value of an entry. -/
theorem par_takeHeld {sel : Nat → Bool} {num sub : Nat} (h : sel (dkey num sub) = false) (s : State) :
    par (takeHeld sel s) num sub = par s num sub := by
  unfold takeHeld
  extract_lets now
  refine par_putInForce 0 (fun p hp hkey => ?_) _
  have hsel : sel p.1 = true := (List.mem_filter.mp hp).2
  rw [hkey, h] at hsel
  cases hsel

/-! ## One converter at a sequence start (R324, R327) -/

theorem settleStart_keeps {α : Type} {g : AdcS → α} (hg : ∀ a b, g { a with lch := b } = g a) (k reason : Nat)
    (s : State) : g (settleStart k reason s).adc = g s.adc := modLch_keeps hg ..

/-- The waiting commit of converter n: its slots and sources. -/
def commitOf (a : AdcS) (n : Nat) : Option (List Nat × List Nat) := (a.commit.find? fun p => p.1 == n).map (·.2)

/-- The sequencing of converter n: whether it runs, the slots of its sequence, the slot it converts next. -/
def sequencing (a : AdcS) (n : Nat) : Bool × List Nat × Nat := (bget false a.running n, bget [] a.seq n, bget 0 a.slot n)

/-- The waiting commit of converter n takes effect. -/
def commitTaken (n : Nat) (a : AdcS) : AdcS :=
  match commitOf a n with
  | none => a
  | some (slots, _) => { a with seq := bset a.seq n slots, commit := bdel a.commit n }

/-- The sequencer of converter n at a sequence start: it runs its sequence from slot 0 where it is enabled and has one. -/
def sequencerBegun (en : Bool) (n : Nat) (a : AdcS) : AdcS :=
  { a with
    enabled := bset a.enabled n en, running := bset a.running n (en && !(bget [] a.seq n).isEmpty)
    slot := bset a.slot n 0 }

/-- Converter n begins its sequence anew, enabled or not, the logical channels left aside. -/
def begun (en : Bool) (n : Nat) (a : AdcS) : AdcS := sequencerBegun en n (commitTaken n a)

/-- Beside the logical channels and the mark of a first sequence, a sequence start does to a converter what begun says. -/
theorem seqBegin_keeps {α : Type} {g : AdcS → α} (hlch : ∀ a b, g { a with lch := b } = g a)
    (hfirst : ∀ a b, g { a with firstSeq := b } = g a) (s : State) (n : Nat) :
    g (seqBegin s n).adc = g (begun (parB s 0x4402 n) n s.adc) := by
  unfold seqBegin
  extract_lets en was pend s1 run s2
  have h1 : g (sequencerBegun en n s1.adc) = g (begun en n s.adc) := by
    unfold begun commitTaken
    cases hc : commitOf s.adc n with
    | none =>
      have hp : pend = none := hc
      simp only [s1, hp]
      split
      · exact hfirst (sequencerBegun en n s.adc) _
      · rfl
    | some p =>
      have hp : pend = some p := hc
      simp only [s1, hp]
      refine (foldl_keeps (g := fun s => g (sequencerBegun en n s.adc)) (fun u j => ?_) ..).trans
        (hfirst (sequencerBegun en n { s.adc with seq := bset s.adc.seq n p.1, commit := bdel s.adc.commit n }) _)
      have hmod (k : Nat) (f : LchS → LchS) (v : State) :
          g (sequencerBegun en n (modLch k f v).adc) = g (sequencerBegun en n v.adc) :=
        hlch (sequencerBegun en n v.adc) _
      split
      · exact hmod ..
      · exact (hmod ..).trans (hmod ..)
  have h2 : g s2.adc = g (begun en n s.adc) := h1
  split
  · exact (foldl_keeps (g := fun s => g s.adc) (fun _ _ => settleStart_keeps hlch ..) ..).trans h2
  · exact h2

theorem commitOf_commitTaken_ne {n i : Nat} (h : i ≠ n) (a : AdcS) : commitOf (commitTaken n a) i = commitOf a i := by
  have hfind : (bdel a.commit n).find? (fun p => p.1 == i) = a.commit.find? fun p => p.1 == i := by
    rw [bdel, List.find?_filter]
    congr 1
    funext p
    by_cases hp : p.1 = i <;> simp [hp, h]
  unfold commitTaken
  split
  · rfl
  · exact congrArg (Option.map (·.2)) hfind

theorem seq_commitTaken_ne {n i : Nat} (h : i ≠ n) (a : AdcS) :
    bget [] (commitTaken n a).seq i = bget [] a.seq i := by
  unfold commitTaken
  split
  · rfl
  · exact bget_bset_ne _ _ _ h

theorem seq_commitTaken_self {n : Nat} {a : AdcS} {slots src : List Nat} (h : commitOf a n = some (slots, src)) :
    bget [] (commitTaken n a).seq n = slots := by
  simp only [commitTaken, h, bget_bset_self]

theorem commitTaken_rest (n : Nat) (a : AdcS) :
    (commitTaken n a).running = a.running ∧ (commitTaken n a).slot = a.slot := by
  unfold commitTaken
  split <;> exact ⟨rfl, rfl⟩

theorem sequencing_begun_self (en : Bool) (n : Nat) (a : AdcS) : sequencing (begun en n a) n =
    (en && !(bget [] (commitTaken n a).seq n).isEmpty, bget [] (commitTaken n a).seq n, 0) := by
  simp [sequencing, begun, sequencerBegun]

theorem sequencing_begun_ne {n i : Nat} (h : i ≠ n) (en : Bool) (a : AdcS) :
    sequencing (begun en n a) i = sequencing a i := by
  obtain ⟨hrunning, hslot⟩ := commitTaken_rest n a
  simp only [sequencing, begun, sequencerBegun, bget_bset_ne _ _ _ h, seq_commitTaken_ne h, hrunning, hslot]

/-! ## ADC_SEQUENCE_START (R324, R327, R366, R367) -/

/-- A channel with a structure written asks for it (R367). -/
def structAsk (s : State) (p : Nat × DVal) : State := modLch (p.1 % 256) (fun c => { c with structReq := true }) s

/-- The channels with a structure written ask for it. -/
def structAsked (s : State) : State := (s.dict.held.filter fun p => ackWait p.1 == some 1).foldl structAsk s

/-- The sequence start is counted, what waited for it is in force and answered. -/
def startAcked (s : State) : State :=
  ackOwed 1 (modAdc (fun a => { a with seqStart := s.tb, seqNo := a.seqNo + 1 }) (takeHeld (fun k => ackWait k == some 1) s))

/-- A channel that asked for a structure has it, and settles. -/
def structTake (s : State) (g : Nat) : State :=
  if (lchOf s g).structReq then
    settleStart g 4 (modLch g (fun c => { c with
      structReq := false, structHb := parN s 0x4800 g, structFir := parB s 0x4801 g }) s)
  else s

/-- Every channel that asked for a structure has it. -/
def structsTaken (s : State) : State := (upto 64).foldl structTake s

/-- The converters with their sequences begun. -/
def convertersBegun (s : State) : State := (upto 4).foldl seqBegin (structsTaken s)

/-- The converters with their sequences begun, the engines and the measurement channels after them. -/
def sequencesBegun (s : State) : State := firFit (measAll (convertersBegun s))

/-- A synchronising reset: every channel settles. -/
def syncReset (s : State) : State :=
  (upto 64).foldl (fun s g => settleStart g 1 s) (modAdc (fun a => { a with syncReq := none }) s)

/-- A synchronising reset whose time has come is taken. -/
def syncTaken (s : State) : State :=
  match s.adc.syncReq with
  | none => s
  | some r => if r + 2 * usU ≤ s.tb then syncReset s else s

theorem syncTaken_of_none {s : State} (h : s.adc.syncReq = none) : syncTaken s = s := by simp only [syncTaken, h]

theorem syncTaken_of_due {s : State} {r : Nat} (h : s.adc.syncReq = some r) (hr : r + 2 * usU ≤ s.tb) :
    syncTaken s = syncReset s := by simp only [syncTaken, h, if_pos hr]

theorem syncTaken_of_early {s : State} {r : Nat} (h : s.adc.syncReq = some r) (hr : ¬ r + 2 * usU ≤ s.tb) :
    syncTaken s = s := by simp only [syncTaken, h, if_neg hr]

/-- The instant is one of a sequence start that has not been taken yet. -/
abbrev StartDue (s : State) (t : Nat) : Prop :=
  instant s t % (32 * usU) = 0 ∧ (s.adc.seqNo = 0 ∨ s.adc.seqStart ≠ instant s t)

/-- What a sequence start takes, before a synchronising reset. -/
def startTaken (s : State) : State := sequencesBegun (startAcked (structAsked s))

/-- The guard of ADC_SEQUENCE_START lets a start that is due pass. -/
theorem startDue_go {s : State} {t : Nat} (h : StartDue s t) : ¬ ((s.start t).tb % (32 * usU) != 0 ||
    ((s.start t).adc.seqNo != 0 && (s.start t).adc.seqStart == (s.start t).tb)) = true := by
  obtain ⟨hgrid, hnew⟩ := h
  rw [start_tb, start_adc]
  simp only [hgrid, bne_self_eq_false, Bool.false_or, Bool.and_eq_true, bne_iff_ne, beq_iff_eq]
  tauto

theorem exec_adcSequenceStart {s : State} {t : Nat} (h : StartDue s t) :
    exec (.adcSequenceStart t) s = done (syncTaken (startTaken (s.start t))) := by
  change execAdcSequenceStart t s = _
  unfold execAdcSequenceStart
  extract_lets s0 s1 s2 s3 s4
  rw [if_neg (startDue_go h)]
  have htaken : startTaken (s.start t) = s4 := by
    have h1 : s1 = structAsked s0 := rfl
    have h2 : s2 = startAcked s1 := rfl
    have h4 : s4 = sequencesBegun s2 := rfl
    rw [startTaken, h4, h2, h1]
  rw [htaken]
  split
  next h => rw [syncTaken_of_none h]
  next r h =>
    split
    · next hr => rw [syncTaken_of_due h hr, syncReset]
    · next hr => rw [syncTaken_of_early h hr]

/-! ### What a sequence start leaves, beside the logical channels -/

theorem structAsked_only (s : State) : Only [.adc] s (structAsked s) :=
  Only.foldl (fun _ _ h => .step modLch_only (by decide) h) .refl

theorem structAsked_keeps {α : Type} {g : AdcS → α} (hlch : ∀ a b, g { a with lch := b } = g a) (s : State) :
    g (structAsked s).adc = g s.adc :=
  foldl_keeps (g := fun s => g s.adc) (fun _ _ => modLch_keeps hlch ..) _ s

theorem startAcked_adc (s : State) :
    (startAcked s).adc = { s.adc with seqStart := s.tb, seqNo := s.adc.seqNo + 1 } := by
  have hheld : (takeHeld (fun k => ackWait k == some 1) s).adc = s.adc := takeHeld_only.same .adc (by decide)
  refine (ackOwed_only.same .adc (by decide)).trans ?_
  rw [modAdc_adc, hheld]

theorem startAcked_tb (s : State) : (startAcked s).tb = s.tb :=
  (ackOwed_only.same .tb (by decide)).trans (takeHeld_only.same .tb (by decide))

theorem par_startAcked {num sub : Nat} (h : ackWait (dkey num sub) ≠ some 1) (s : State) :
    par (startAcked s) num sub = par s num sub :=
  (par_of_dict (ackOwed_only.same .dict (by decide)) ..).trans (par_takeHeld (by simpa using h) s)

theorem structTake_only (s : State) (k : Nat) : Only [.adc] s (structTake s k) := by
  unfold structTake
  split
  · exact .step settleStart_only (by decide) modLch_only
  · exact .refl

theorem structTake_keeps {α : Type} {g : AdcS → α} (hlch : ∀ a b, g { a with lch := b } = g a) (s : State) (k : Nat) :
    g (structTake s k).adc = g s.adc := by
  unfold structTake
  split
  · exact (settleStart_keeps hlch ..).trans (modLch_keeps hlch ..)
  · rfl

theorem structsTaken_only (s : State) : Only [.adc] s (structsTaken s) :=
  Only.foldl (fun k u h => .step (structTake_only u k) (by decide) h) .refl

theorem structsTaken_keeps {α : Type} {g : AdcS → α} (hlch : ∀ a b, g { a with lch := b } = g a) (s : State) :
    g (structsTaken s).adc = g s.adc :=
  foldl_keeps (g := fun s => g s.adc) (structTake_keeps hlch) _ s

theorem firFit_keeps {α : Type} {g : AdcS → α} (hlch : ∀ a b, g { a with lch := b } = g a) (s : State) :
    g (firFit s).adc = g s.adc :=
  foldl_keeps (g := fun s => g s.adc)
    (fun _ _ => foldl_keeps (g := fun s => g s.adc) (fun _ _ => modLch_keeps hlch ..) ..) _ s

theorem syncReset_keeps {α : Type} {g : AdcS → α} (hlch : ∀ a b, g { a with lch := b } = g a) (s : State) :
    g (syncReset s).adc = g { s.adc with syncReq := none } :=
  foldl_keeps (g := fun s => g s.adc) (fun _ _ => settleStart_keeps hlch ..) _ _

theorem syncTaken_keeps {α : Type} {g : AdcS → α} (hlch : ∀ a b, g { a with lch := b } = g a)
    (hsync : ∀ a b, g { a with syncReq := b } = g a) (s : State) : g (syncTaken s).adc = g s.adc := by
  unfold syncTaken
  split
  · rfl
  · split
    · exact (syncReset_keeps hlch s).trans (hsync ..)
    · rfl

theorem syncTaken_only (s : State) : Only [.adc] s (syncTaken s) := by
  unfold syncTaken
  split
  · exact .refl
  · split
    · exact Only.foldl (fun _ _ h => .step settleStart_only (by decide) h) modAdc_only
    · exact .refl

/-- Behind the converters, a sequence start changes logical and measurement channels alone. -/
theorem startTaken_keeps {α : Type} {g : AdcS → α} (hlch : ∀ a b, g { a with lch := b } = g a)
    (hmeas : ∀ a b, g { a with meas := b } = g a) (s : State) :
    g (startTaken s).adc = g (convertersBegun (startAcked (structAsked s))).adc := by
  unfold startTaken sequencesBegun
  rw [firFit_keeps hlch, measAll_keeps hmeas]

/-- Instant and number of the last sequence start, and the synchronising reset requested. -/
def starts (a : AdcS) : Nat × Nat × Option Nat := (a.seqStart, a.seqNo, a.syncReq)

theorem starts_begun (en : Bool) (n : Nat) (a : AdcS) : starts (begun en n a) = starts a := by
  unfold begun commitTaken
  split <;> rfl

theorem starts_startTaken (s : State) : starts (startTaken s).adc = (s.tb, s.adc.seqNo + 1, s.adc.syncReq) := by
  have htb : (structAsked s).tb = s.tb := (structAsked_only s).same .tb (by decide)
  have hasked := structAsked_keeps (g := fun a => (a.seqNo, a.syncReq)) (fun _ _ => rfl) s
  have hbegin (u : State) (n : Nat) : starts (seqBegin u n).adc = starts u.adc :=
    (seqBegin_keeps (g := starts) (fun _ _ => rfl) (fun _ _ => rfl) u n).trans (starts_begun ..)
  calc starts (startTaken s).adc
      = starts (convertersBegun (startAcked (structAsked s))).adc :=
        startTaken_keeps (g := starts) (fun _ _ => rfl) (fun _ _ => rfl) s
    _ = starts (structsTaken (startAcked (structAsked s))).adc := foldl_keeps (g := fun s => starts s.adc) hbegin ..
    _ = starts (startAcked (structAsked s)).adc := structsTaken_keeps (g := starts) (fun _ _ => rfl) _
    _ = _ := by
        rw [startAcked_adc, htb]
        exact congrArg (fun p => (s.tb, p.1 + 1, p.2)) hasked

theorem seqBegin_par (s : State) (k num sub : Nat) : par (seqBegin s k) num sub = par s num sub :=
  par_of_dict (seqBegin_only.same .dict (by decide)) ..

theorem sequencing_seqBegin (s : State) (k n : Nat) :
    sequencing (seqBegin s k).adc n = sequencing (begun (parB s 0x4402 k) k s.adc) n :=
  seqBegin_keeps (g := fun a => sequencing a n) (fun _ _ => rfl) (fun _ _ => rfl) s k

/-- A converter enabled and with a sequence runs it from slot 0, another does not run (R324). -/
theorem sequencing_startTaken (n : Fin 4) (s : State) :
    ∃ q, sequencing (startTaken s).adc n = (parB s 0x4402 n && !q.isEmpty, q, 0) := by
  rw [startTaken_keeps (g := fun a => sequencing a n) (fun _ _ => rfl) (fun _ _ => rfl)]
  refine foldl_establishes (Q := fun u => parB u 0x4402 n = parB s 0x4402 n)
    (P := fun u => ∃ q, sequencing u.adc n = (parB s 0x4402 n && !q.isEmpty, q, 0)) (fun u h => ?_) (fun u k _ h => ?_)
    (fun u k hk h => ?_) List.nodup_range (List.mem_range.mpr n.isLt) ?_
  · exact ⟨_, by rw [sequencing_seqBegin, sequencing_begun_self, h]⟩
  · rw [← h]
    simp only [parB, parI, seqBegin_par]
  · obtain ⟨q, hq⟩ := h
    exact ⟨q, by rw [sequencing_seqBegin, sequencing_begun_ne (Ne.symm hk), hq]⟩
  · have hwait : ackWait (dkey 0x4402 n) ≠ some 1 := by revert n; decide
    have htake (v : State) : par (structsTaken v) 0x4402 n = par v 0x4402 n :=
      par_of_dict ((structsTaken_only v).same .dict (by decide)) ..
    have hasked : par (structAsked s) 0x4402 n = par s 0x4402 n :=
      par_of_dict ((structAsked_only s).same .dict (by decide)) ..
    simp only [parB, parI, htake, par_startAcked hwait, hasked]

/-- A commit that waited is the sequence that runs (R327). -/
theorem sequencing_startTaken_of_commit {n : Fin 4} {s : State} {slots src : List Nat}
    (h : commitOf s.adc n = some (slots, src)) : ∃ r, sequencing (startTaken s).adc n = (r, slots, 0) := by
  rw [startTaken_keeps (g := fun a => sequencing a n) (fun _ _ => rfl) (fun _ _ => rfl)]
  refine foldl_establishes (Q := fun u => commitOf u.adc n = some (slots, src))
    (P := fun u => ∃ r, sequencing u.adc n = (r, slots, 0)) (fun u h => ?_) (fun u k hk h => ?_) (fun u k hk h => ?_)
    List.nodup_range (List.mem_range.mpr n.isLt) ?_
  · exact ⟨_, by rw [sequencing_seqBegin, sequencing_begun_self, seq_commitTaken_self h]⟩
  · rw [seqBegin_keeps (g := fun a => commitOf a n) (fun _ _ => rfl) (fun _ _ => rfl)]
    exact (commitOf_commitTaken_ne (Ne.symm hk) u.adc).trans h
  · obtain ⟨r, hr⟩ := h
    exact ⟨r, by rw [sequencing_seqBegin, sequencing_begun_ne (Ne.symm hk), hr]⟩
  · have htake (v : State) : commitOf (structsTaken v).adc n = commitOf v.adc n :=
      structsTaken_keeps (g := fun a => commitOf a n) (fun _ _ => rfl) v
    have hasked : commitOf (structAsked s).adc n = commitOf s.adc n :=
      structAsked_keeps (g := fun a => commitOf a n) (fun _ _ => rfl) s
    have hacked : commitOf (startAcked (structAsked s)).adc n = commitOf (structAsked s).adc n := by
      rw [startAcked_adc]; rfl
    rw [htake, hacked, hasked, h]

theorem convertersBegun_only (s : State) : Only [.adc] s (convertersBegun s) :=
  Only.foldl (fun _ _ h => .step seqBegin_only (by decide) h) (structsTaken_only s)

theorem sequencesBegun_only (s : State) :
    Only [.rm, .fld, .pt, .adc, .car, .eic, .log, .pci, .slk, .out] s (sequencesBegun s) :=
  .step firFit_only (by decide) (.step measAll_only (by decide) ((convertersBegun_only s).mono (by decide)))

/-- What a sequence start puts out stays put out. -/
theorem sequencesBegun_outKept (s : State) : OutKept s (sequencesBegun s) := by
  have hfit : (sequencesBegun s).out = (measAll (convertersBegun s)).out := firFit_only.same .out (by decide)
  exact ((measAll_outKept (convertersBegun s)).trans (.of_out hfit)).after
    ((convertersBegun_only s).same .out (by decide))

theorem startTaken_tb (s : State) : (startTaken s).tb = s.tb := by
  have hbegun (u : State) : (sequencesBegun u).tb = u.tb := (sequencesBegun_only u).same .tb (by decide)
  have hasked : (structAsked s).tb = s.tb := (structAsked_only s).same .tb (by decide)
  rw [startTaken, hbegun, startAcked_tb, hasked]

/-- A synchronising reset whose time has come is no longer requested (R366). -/
theorem syncReq_syncTaken {s : State} {r : Nat} (h : s.adc.syncReq = some r) (hr : r + 2 * usU ≤ s.tb) :
    (syncTaken s).adc.syncReq = none := by
  rw [syncTaken_of_due h hr]
  exact syncReset_keeps (g := AdcS.syncReq) (fun _ _ => rfl) s

/-- What a sequence start takes before it answers leaves the transports and the answers that wait. -/
theorem takeHeld_structAsked_xi (s : State) : (takeHeld (fun k => ackWait k == some 1) (structAsked s)).xi = s.xi := by
  have hheld (u : State) : (takeHeld (fun k => ackWait k == some 1) u).xi = u.xi := takeHeld_only.same .xi (by decide)
  exact (hheld _).trans ((structAsked_only s).same .xi (by decide))

theorem startTaken_owed (s : State) : (startTaken s).xi.owed = s.xi.owed.filter fun x => x.1 != 1 := by
  have hbegun (u : State) : (sequencesBegun u).xi = u.xi := (sequencesBegun_only u).same .xi (by decide)
  rw [startTaken, hbegun, startAcked, ackOwed_owed, modAdc_xi, takeHeld_structAsked_xi]

theorem startTaken_emits {s : State} {ep : Nat} {m : List Byte} (h : (1, ep, m) ∈ s.xi.owed) :
    .xiest ep m ∈ (startTaken s).out := by
  refine (sequencesBegun_outKept _).mem _ (ackOwed_emits ?_)
  rw [modAdc_xi, takeHeld_structAsked_xi]
  exact h

theorem exec_adcSequenceStart_restarts (t : Nat) (n : Fin 4) (s : State) (hgrid : instant s t % (32 * usU) = 0)
    (hnew : s.adc.seqNo = 0 ∨ s.adc.seqStart ≠ instant s t) :
    ∃ u, exec (.adcSequenceStart t) s = .next u ∧ u.adc.seqStart = instant s t ∧
      u.adc.seqNo = s.adc.seqNo + 1 ∧
      bget 0 u.adc.slot n = 0 ∧
      bget false u.adc.running n = (parB s 0x4402 n && !(bget [] u.adc.seq n).isEmpty) ∧
      (∀ r ∈ s.adc.syncReq, r + 2 * usU ≤ instant s t → u.adc.syncReq = none) := by
  obtain ⟨q, hq⟩ := sequencing_startTaken n (s.start t)
  have hstarts := starts_startTaken (s.start t)
  have htb := startTaken_tb (s.start t)
  have he := exec_adcSequenceStart ⟨hgrid, hnew⟩
  generalize startTaken (s.start t) = v at *
  have hrunning := syncTaken_keeps (g := fun a => sequencing a n) (fun _ _ => rfl) (fun _ _ => rfl) v
  have hcount := syncTaken_keeps (g := fun a => (a.seqStart, a.seqNo)) (fun _ _ => rfl) (fun _ _ => rfl) v
  simp only [starts, sequencing, Prod.mk.injEq] at hstarts hq hrunning hcount
  obtain ⟨hat, hno, hsync⟩ := hstarts
  obtain ⟨hrun, hseq, hslot⟩ := hq
  obtain ⟨hrun', hseq', hslot'⟩ := hrunning
  refine ⟨_, he, ?_⟩
  rw [settle_adc]
  refine ⟨hcount.1.trans hat, hcount.2.trans hno, hslot'.trans hslot, ?_, fun r hr hdue => ?_⟩
  · rw [hrun', hrun, hseq', hseq]; rfl
  · exact syncReq_syncTaken (hsync.trans hr) (by rw [htb]; exact hdue)

theorem exec_adcSequenceStart_answers (t : Nat) (ep : Fin 10) (m : List Byte) (s : State)
    (hgrid : instant s t % (32 * usU) = 0) (hnew : s.adc.seqNo = 0 ∨ s.adc.seqStart ≠ instant s t)
    (howed : (1, ep.val, m) ∈ s.xi.owed) :
    ∃ u, exec (.adcSequenceStart t) s = .next u ∧ Emits u (.xiest ep m) ∧ (∀ x ∈ u.xi.owed, x.1 ≠ 1) := by
  have hemits := startTaken_emits (s := s.start t) howed
  have hleft := startTaken_owed (s.start t)
  have he := exec_adcSequenceStart ⟨hgrid, hnew⟩
  generalize startTaken (s.start t) = v at *
  have hout : (syncTaken v).out = v.out := (syncTaken_only v).same .out (by decide)
  have hxi : (syncTaken v).xi = v.xi := (syncTaken_only v).same .xi (by decide)
  refine ⟨_, he, ?_, fun x hx => ?_⟩
  · rw [Emits, settle_out, hout]
    exact hemits
  · rw [settle_xi, hxi, hleft] at hx
    simpa using (List.mem_filter.mp hx).2

theorem exec_adcSequenceStart_commits (t : Nat) (n : Fin 4) (s : State) (slots src : List Nat)
    (hgrid : instant s t % (32 * usU) = 0) (hnew : s.adc.seqNo = 0 ∨ s.adc.seqStart ≠ instant s t)
    (hcommit : (s.adc.commit.find? fun p => p.1 == n.val).map (·.2) = some (slots, src)) :
    ∃ u, exec (.adcSequenceStart t) s = .next u ∧ bget [] u.adc.seq n = slots := by
  obtain ⟨r, hr⟩ := sequencing_startTaken_of_commit (s := s.start t) hcommit
  have he := exec_adcSequenceStart ⟨hgrid, hnew⟩
  generalize startTaken (s.start t) = v at *
  have hkept := syncTaken_keeps (g := fun a => bget [] a.seq n) (fun _ _ => rfl) (fun _ _ => rfl) v
  have hseq : bget [] v.adc.seq n = slots := congrArg (·.2.1) hr
  refine ⟨_, he, ?_⟩
  rw [settle_adc]
  exact hkept.trans hseq

end Sys2Proof.Sequences
end

section
/-!
Samples: conversions of the converters' slots, and sample words on their way through the filters (R324 to R334, R346, R358
to R360, R371).
-/
namespace Sys2Proof.Samples

open Sys2Proof Sys2Proof.Machine Sys2Proof.FrontEnd

/-! ## ADC_CONVERSION (R324, R326, R330 to R334) -/

/-- Converter n past its slot k. -/
def slotStepped (n k : Nat) (s : State) : State :=
  modAdc (fun a => { a with
    slot := bset a.slot n (k + 1), firstSeq := if k = 31 then bset a.firstSeq n false else a.firstSeq }) s

/-- Channel g as its next conversion takes it: with the gain that its source, AUTORANGE and LCH_GAIN give it (R331, R333). -/
def gainTaken (s : State) (g : Nat) (c : LchS) : LchS :=
  let gain := if !decide (c.src < 16) then c.gain
    else if parB s 0x440A g then min c.gain (parN s 0x4409 g) else parN s 0x4409 g
  if gain = c.gain then c else { c with gain := gain, gainMark := 2, upRun := 0 }

/-- The Q15 value of a conversion of an analogue input or another source; the samples marked after a change of gain
repeat the last valid one (R330, R332). -/
def sampleQ (ain : Bool) (c : LchS) (code : Int) : Int :=
  if 0 < c.gainMark then c.lastOk else clampQ15 (code * (if ain then (16 / 2 ^ c.gain : Nat) else 16))

/-- A channel after a sample of value q and reason r (R330, R332, R333). -/
def sampled (s : State) (ain : Bool) (g : Nat) (code : Int) (r : Nat) (c : LchS) : LchS :=
  let q := sampleQ ain c code
  let d := { c with
    gainMark := c.gainMark - 1, srcMark := false, seqNo := (c.seqNo + 1) % 16, lastOk := if r = 0 then q else c.lastOk }
  if parB s 0x440A g && ain then autorange (parN s 0x4409 g) code (r == 0) d else { d with upRun := 0 }

/-- The barrier link that carries the words of converter n (R330). -/
def wordLink (n : Nat) : Nat := if n < 2 then 6 else 7

/-- Slot k of converter n, a used one of contents b, converted to a code. -/
def slotConverted (n k b : Nat) (code : Int) (s : State) : State :=
  let g := 16 * n + slotCh b
  let w := slotStepped n k s
  let ain := decide ((lchOf w g).src < 16)
  let c := gainTaken w g (lchOf w g)
  let r := rawReason s g c k code
  let v := modLch g (fun _ => sampled w ain g code r c) w
  if barUp v (wordLink n) then
    emit (.note (if wordLink n = 6 then "BL6: sample word" else "BL7: sample word")
      (sampleWord (sampleQ ain c code) g r c.seqNo)) v
  else v

/-- The slot that converter n converts next, and its contents. -/
abbrev slotNo (a : AdcS) (n : Nat) : Nat := bget 0 a.slot n
abbrev slotByte (a : AdcS) (n : Nat) : Nat := (bget [] a.seq n).getD (slotNo a n) 0

/-- Converter n converts its next slot at this instant. -/
abbrev ConversionDue (s : State) (t n : Nat) : Prop :=
  bget false s.adc.running n = true ∧ slotNo s.adc n < 32 ∧
    s.adc.seqStart + slotNo s.adc n * usU + 200 * nsU ≤ instant s t

theorem conversionDue_go {s : State} {t n : Nat} (h : ConversionDue s t n) :
    ¬ (!bget false (s.start t).adc.running n || decide (32 ≤ slotNo (s.start t).adc n) ||
      decide ((s.start t).tb < (s.start t).adc.seqStart + slotNo (s.start t).adc n * usU + 200 * nsU)) = true := by
  obtain ⟨hrun, hslot, hat⟩ := h
  rw [start_tb, start_adc, hrun, decide_eq_false (Nat.not_le.mpr hslot), decide_eq_false (Nat.not_lt.mpr hat)]
  decide

theorem exec_adcConversion_used {s : State} {t : Nat} {n : Fin 4} (code : Int) (h : ConversionDue s t n)
    (hused : slotUsed (slotByte s.adc n) = true) :
    exec (.adcConversion t n code) s = done (slotConverted n (slotNo s.adc n) (slotByte s.adc n) code (s.start t)) := by
  have hslot : ¬ (!slotUsed (slotByte (s.start t).adc n)) = true := by rw [start_adc, hused]; decide
  change execAdcConversion t n code s = _
  unfold execAdcConversion
  extract_lets s0 k b u s1 g c ain want auto gain c1 r q w c2 c3 s2 bl
  rw [if_neg (conversionDue_go h), if_neg hslot]
  rfl

theorem exec_adcConversion_unused {s : State} {t : Nat} {n : Fin 4} (code : Int) (h : ConversionDue s t n)
    (hused : slotUsed (slotByte s.adc n) = false) :
    exec (.adcConversion t n code) s = done (slotStepped n (slotNo s.adc n) (s.start t)) := by
  have hslot : (!slotUsed (slotByte (s.start t).adc n)) = true := by rw [start_adc, hused]; decide
  change execAdcConversion t n code s = _
  unfold execAdcConversion
  extract_lets s0 k b u s1 g c ain want auto gain c1 r q w c2 c3 s2 bl
  rw [if_neg (conversionDue_go h), if_pos hslot]
  rfl

theorem gainTaken_seqNo (s : State) (g : Nat) (c : LchS) : (gainTaken s g c).seqNo = c.seqNo := by
  unfold gainTaken
  extract_lets gain
  split <;> rfl

/-- With the gain as it is set, without AUTORANGE, a conversion leaves the channel's settings. -/
theorem gainTaken_same {s : State} {g : Nat} {c : LchS} (hauto : parB s 0x440A g = false)
    (h : 16 ≤ c.src ∨ c.gain = parN s 0x4409 g) : gainTaken s g c = c := by
  unfold gainTaken
  refine if_pos ?_
  by_cases hain : c.src < 16
  · have hgain := h.resolve_left (Nat.not_le.mpr hain)
    simp [hain, hauto, hgain]
  · simp [hain]

theorem autorange_seqNo (want : Nat) (code : Int) (ok : Bool) (c : LchS) : (autorange want code ok c).seqNo = c.seqNo := by
  unfold autorange
  split
  · split <;> rfl
  · split
    · split
      · rfl
      · split <;> rfl
    · rfl

theorem sampled_seqNo (s : State) (ain : Bool) (g : Nat) (code : Int) (r : Nat) (c : LchS) :
    (sampled s ain g code r c).seqNo = (c.seqNo + 1) % 16 := by
  unfold sampled
  extract_lets q d
  split
  · exact autorange_seqNo ..
  · rfl

theorem slotConverted_adc (n k b : Nat) (code : Int) (s : State) : ∃ c : LchS,
    (slotConverted n k b code s).adc = (modLch (16 * n + slotCh b) (fun _ => c) (slotStepped n k s)).adc ∧
      c.seqNo = ((lchOf s (16 * n + slotCh b)).seqNo + 1) % 16 := by
  unfold slotConverted
  extract_lets g w ain c r v
  refine ⟨sampled w ain g code r c, ?_, ?_⟩
  · split <;> rfl
  · rw [sampled_seqNo, gainTaken_seqNo]; rfl

theorem exec_adcConversion_steps (t : Nat) (n : Fin 4) (code : Int) (s : State)
    (hrun : bget false s.adc.running n = true) (hslot : bget 0 s.adc.slot n < 32)
    (hat : s.adc.seqStart + bget 0 s.adc.slot n * usU + 200 * nsU ≤ instant s t) :
    ∃ u, exec (.adcConversion t n code) s = .next u ∧ bget 0 u.adc.slot n = bget 0 s.adc.slot n + 1 ∧
      (slotUsed ((bget [] s.adc.seq n).getD (bget 0 s.adc.slot n) 0) = true →
      (lchOf u (16 * n + slotCh ((bget [] s.adc.seq n).getD (bget 0 s.adc.slot n) 0))).seqNo =
      ((lchOf s (16 * n + slotCh ((bget [] s.adc.seq n).getD (bget 0 s.adc.slot n) 0))).seqNo + 1) % 16) := by
  have hstep (k : Nat) (v : State) : bget 0 (slotStepped n k v).adc.slot n = k + 1 := bget_bset_self ..
  cases hused : slotUsed (slotByte s.adc n) with
  | false =>
    refine ⟨_, exec_adcConversion_unused code ⟨hrun, hslot, hat⟩ hused, hstep .., fun h => absurd h (by decide)⟩
  | true =>
    obtain ⟨c, hadc, hno⟩ := slotConverted_adc n (slotNo s.adc n) (slotByte s.adc n) code (s.start t)
    refine ⟨_, exec_adcConversion_used code ⟨hrun, hslot, hat⟩ hused, ?_, fun _ => ?_⟩
    · rw [settle_adc, hadc]
      exact hstep ..
    · rw [lchOf, settle_adc, hadc]
      exact (congrArg LchS.seqNo (lchOf_modLch ..)).trans hno

/-- The name of the word on the link that carries it. -/
theorem wordLink_name (n : Nat) : (if wordLink n = 6 then "BL6: sample word" else "BL7: sample word") =
    if n < 2 then "BL6: sample word" else "BL7: sample word" := by
  unfold wordLink
  by_cases h : n < 2 <;> simp [h]

/-- Where no mark, no AUTORANGE and no change of gain is in the way, the code is sent at the channel's gain (R330). -/
theorem slotConverted_emits {n k b g : Nat} (code : Int) {s : State} (hg : g = 16 * n + slotCh b)
    (hmark : (lchOf s g).gainMark = 0) (hauto : parB s 0x440A g = false)
    (hgain : 16 ≤ (lchOf s g).src ∨ (lchOf s g).gain = parN s 0x4409 g) (hup : barUp s (wordLink n) = true) :
    .note (if n < 2 then "BL6: sample word" else "BL7: sample word")
      (sampleWord (clampQ15 (code * (if (lchOf s g).src < 16 then (16 / 2 ^ (lchOf s g).gain : Nat) else 16))) g
        (rawReason s g (lchOf s g) k code) (lchOf s g).seqNo) ∈ (slotConverted n k b code s).out := by
  have hsame : gainTaken (slotStepped n k s) g (lchOf s g) = lchOf s g :=
    gainTaken_same (s := slotStepped n k s) hauto hgain
  have hain : lchOf (slotStepped n k s) g = lchOf s g := rfl
  have hup' (f : LchS → LchS) : barUp (modLch g f (slotStepped n k s)) (wordLink n) = true := hup
  unfold slotConverted
  simp only [← hg, hsame, hain, hup', if_true, wordLink_name, sampleQ, hmark, Nat.lt_irrefl, if_false, decide_eq_true_eq]
  exact List.mem_concat_self

theorem exec_adcConversion_sends (t : Nat) (n : Fin 4) (code : Int) (s : State) (k g : Nat)
    (hrun : bget false s.adc.running n = true) (hk : k = bget 0 s.adc.slot n) (hslot : k < 32)
    (hat : s.adc.seqStart + k * usU + 200 * nsU ≤ instant s t)
    (hused : slotUsed ((bget [] s.adc.seq n).getD k 0) = true)
    (hg : g = 16 * n.val + slotCh ((bget [] s.adc.seq n).getD k 0)) (hmark : (lchOf s g).gainMark = 0)
    (hauto : parB s 0x440A g = false) (hgain : 16 ≤ (lchOf s g).src ∨ (lchOf s g).gain = parN s 0x4409 g)
    (hup : barUp s (if n.val < 2 then 6 else 7) = true) :
    ∃ u, exec (.adcConversion t n code) s = .next u ∧
      Emits u (.note (if n.val < 2 then "BL6: sample word" else "BL7: sample word")
        (sampleWord (clampQ15 (code * (if (lchOf s g).src < 16 then (16 / 2 ^ (lchOf s g).gain : Nat) else 16))) g
          (rawReason (s.start t) g (lchOf s g) k code) (lchOf s g).seqNo)) := by
  subst hk hg
  exact ⟨_, exec_adcConversion_used code ⟨hrun, hslot, hat⟩ hused,
    slotConverted_emits code (s := s.start t) rfl hmark hauto hgain hup⟩

/-! ## ADC_SAMPLE_WORD (R330, R346, R358 to R360, R371) -/

/-- What a channel keeps of the newest raw word: its value, and the Sequence that the next one should have. -/
def received (c : LchS) : Int × Option Nat := (c.rawQ, c.rxSeq)

/-- At an output boundary the bank, the cross-fade and the marks of a hard swap alone change (R372 to R374). -/
theorem outBoundary_keeps {α : Type} {p : LchS → α} (hp : ∀ c left fadeK fadeN req held bank from_, p { c with
      hardLeft := left, fadeK := fadeK, fadeN := fadeN, swapReq := req, swapHeld := held, bank := bank
      fadeFrom := from_ } = p c) (s : State) (g : Nat) (c : LchS) : p (outBoundary s g c) = p c := by
  unfold outBoundary
  extract_lets c1 c2 c3
  split
  · exact hp c _ _ _ _ _ _ _
  · split
    · exact hp c _ _ _ _ _ _ _
    · split
      · exact hp c _ _ _ _ _ _ _
      · split
        · exact hp c _ _ _ _ _ _ _
        · exact hp c _ _ _ _ _ _ _

/-- A raw sample entering a channel's chain is counted there, and leaves what the words and the outputs number. -/
structure RawTaken (c d : LchS) : Prop where
  rawN : d.rawN = c.rawN + 1
  structHb : d.structHb = c.structHb
  outSeq : d.outSeq = c.outSeq
  received : received d = received c

theorem rawIn_taken (g : Nat) (missing valid : Bool) (reason : Nat) (v : Int) (at_ : Nat) (s : State) :
    RawTaken (lchOf s g) (lchOf (rawIn g missing valid reason v at_ s) g) := by
  unfold rawIn
  extract_lets frz corner
  rw [lchOf_modLch]
  extract_lets n moved c ok x first load e y
  have hc : RawTaken (lchOf s g) { c with rawN := n } := by
    subst c
    split <;> exact ⟨rfl, rfl, rfl, rfl⟩
  exact ⟨rfl, hc.structHb, hc.outSeq, hc.received⟩

/-- The channel of a completed output: the next number, and what its words left. -/
structure OutputTaken (c d : LchS) : Prop where
  outSeq : d.outSeq = (c.outSeq + 1) % 16
  received : received d = received c

theorem filterOut_partial {g at_ : Nat} {missing : Bool} {s : State}
    (h : (lchOf s g).rawN % 2 ^ (lchOf s g).structHb ≠ 0) : filterOut g missing at_ s = s := by
  unfold filterOut
  exact if_pos (by simpa using h)

/-- Judging measurement channels leaves the logical channels. -/
theorem lchOf_foldl_measUpdate (output : Bool) (l : List Nat) (s : State) (g : Nat) :
    lchOf (l.foldl (measUpdate output) s) g = lchOf s g :=
  lchOf_of_lch (foldl_keeps (g := fun s => s.adc.lch) (measUpdate_keeps (g := AdcS.lch) (fun _ _ => rfl) output) l s) g

theorem filterOut_output {g : Nat} (at_ : Nat) {s : State} (h : (lchOf s g).rawN % 2 ^ (lchOf s g).structHb = 0) :
    OutputTaken (lchOf s g) (lchOf (filterOut g false at_ s) g) ∧ (lchOf (filterOut g false at_ s) g).outAt = at_ := by
  unfold filterOut
  extract_lets c0 c span wait marks worst reason y q ok s1 c1 w s2 t64 s3
  have hc : c.outSeq = c0.outSeq ∧ received c = received c0 :=
    ⟨outBoundary_keeps (p := LchS.outSeq) (fun _ _ _ _ _ _ _ _ => rfl) s g c0,
      outBoundary_keeps (p := received) (fun _ _ _ _ _ _ _ _ => rfl) s g c0⟩
  have hc1 : c1.outSeq = c0.outSeq ∧ received c1 = received c0 := by
    subst c1
    split <;> exact hc
  obtain ⟨hno, hreceived⟩ := hc1
  have hrec : s3.adc.lch = s2.adc.lch := congrArg AdcS.lch (recItem_only.same .adc (by decide))
  rw [if_neg (by simpa using h), if_neg Bool.false_ne_true, lchOf_foldl_measUpdate, lchOf_of_lch hrec,
    show lchOf s2 g = _ from lchOf_modLch ..]
  exact ⟨⟨congrArg (fun n => (n + 1) % 16) hno, hreceived⟩, rfl⟩

/-- A raw sample of the output grid enters the chain, and the filter after it. -/
theorem sampleIn_of_grid {g : Nat} (valid : Bool) (reason : Nat) (v : Int) {at_ : Nat} {s : State}
    (h : (lchOf s g).startAt ≤ at_) :
    sampleIn g false valid reason v at_ s = filterOut g false at_ (rawIn g false valid reason v at_ s) :=
  if_neg (Nat.not_lt.mpr h)

/-- The raw sample that completes an output has it delivered at its instant (R358, R359). -/
theorem sampleIn_output {g : Nat} (valid : Bool) (reason : Nat) (v : Int) {at_ : Nat} {s : State}
    (hgrid : (lchOf s g).startAt ≤ at_) (h : ((lchOf s g).rawN + 1) % 2 ^ (lchOf s g).structHb = 0) :
    (lchOf (sampleIn g false valid reason v at_ s) g).outSeq = ((lchOf s g).outSeq + 1) % 16 ∧
      (lchOf (sampleIn g false valid reason v at_ s) g).outAt = at_ := by
  obtain ⟨hrawN, hhb, hno, -⟩ := rawIn_taken g false valid reason v at_ s
  rw [sampleIn_of_grid valid reason v hgrid]
  obtain ⟨hout, hat⟩ := filterOut_output at_ (s := rawIn g false valid reason v at_ s) (by rw [hrawN, hhb, h])
  exact ⟨by rw [hout.outSeq, hno], hat⟩

theorem sampleIn_received (g : Nat) (valid : Bool) (reason : Nat) (v : Int) (at_ : Nat) (s : State) :
    received (lchOf (sampleIn g false valid reason v at_ s) g) = received (lchOf s g) := by
  unfold sampleIn
  split
  · rfl
  · have hraw := (rawIn_taken g false valid reason v at_ s).received
    set u := rawIn g false valid reason v at_ s
    by_cases h : (lchOf u g).rawN % 2 ^ (lchOf u g).structHb = 0
    · exact (filterOut_output at_ h).1.received.trans hraw
    · rw [filterOut_partial h]
      exact hraw

theorem exec_adcSampleWord_receives (t : Nat) (w : BitVec 32) (g : Nat) (s : State) (hg : g = bits w.toNat 23 16)
    (hlt : g < 64) (hm : (lchOf s g).m ≠ 0) (hrun : bget false s.adc.running (g / 16) = true) :
    ∃ u, exec (.adcSampleWord t w) s = .next u ∧ (lchOf u g).rawQ = signed 16 (bits w.toNat 15 0) ∧
      (lchOf u g).rxSeq = some ((bits w.toNat 31 28 + 1) % 16) ∧
      ((lchOf s g).rxSeq = some (bits w.toNat 31 28) → (lchOf s g).startAt ≤ sampleAt (s.start t) g →
        ((lchOf s g).rawN + 1) % 2 ^ (lchOf s g).structHb = 0 →
        (lchOf u g).outSeq = ((lchOf s g).outSeq + 1) % 16 ∧ (lchOf u g).outAt = sampleAt (s.start t) g) := by
  subst hg
  change ∃ u, execAdcSampleWord t w s = .next u ∧ _
  unfold execAdcSampleWord
  extract_lets s0 g c at_ v r valid seq gap t64 s1 s2 ovr change s3 s4
  have hgo : ¬ (decide (64 ≤ g) || decide (c.m = 0) || !bget false s0.adc.running (g / 16)) = true := by
    rw [decide_eq_false (Nat.not_le.mpr hlt), decide_eq_false (show ¬ c.m = 0 from hm),
      show bget false s0.adc.running (g / 16) = true from hrun]
    decide
  have hlast : lchOf (settle (if change then (measOn s4 g).foldl (measUpdate false) s4 else s4)) g = lchOf s4 g := by
    rw [lchOf_of_lch (congrArg AdcS.lch (settle_adc _))]
    split
    · exact lchOf_foldl_measUpdate ..
    · rfl
  have h3 : lchOf s3 g = { lchOf s2 g with
      rxSeq := some ((seq + 1) % 16), rawQ := v, ovrRun := if ovr then (lchOf s2 g).ovrRun + 1 else 0 } :=
    lchOf_modLch ..
  have hreceived : received (lchOf s4 g) = (v, some ((seq + 1) % 16)) :=
    (sampleIn_received g valid r v at_ s3).trans (congrArg received h3)
  rw [if_neg hgo]
  refine ⟨_, rfl, ?_⟩
  rw [hlast]
  refine ⟨congrArg Prod.fst hreceived, congrArg Prod.snd hreceived, fun hseq hgrid hfull => ?_⟩
  have hgap : gap = 0 := by
    have hrx : c.rxSeq = some seq := hseq
    simp only [gap, hrx, Nat.add_sub_cancel_left, Nat.mod_self]
  have h2 : lchOf s2 g = lchOf s g := by
    have hrec : s1.adc.lch = s0.adc.lch := congrArg AdcS.lch (recItem_only.same .adc (by decide))
    rw [show s2 = missingIn g at_ gap s1 from rfl, hgap, missingIn, lchOf_of_lch hrec]
    rfl
  rw [h2] at h3
  obtain ⟨hout, hat⟩ := sampleIn_output valid r v (s := s3) (at_ := at_) (by rw [h3]; exact hgrid)
    (by rw [h3]; exact hfull)
  exact ⟨by rw [show lchOf s4 g = lchOf (sampleIn g false valid r v at_ s3) g from rfl, hout, h3], hat⟩

end Sys2Proof.Samples
end

section
/-!
The front end's other commands: commits, synchronising resets requested, the reference, excitations, loop readback and
measurements still pending; with them the obligation on converters and excitation (R327, R335 to R341, R353, R366, R658).
-/
namespace Sys2Proof.Converters

open Sys2Proof Sys2Proof.Machine Sys2Proof.Served Sys2Proof.Engines Sys2Proof.Tuning Sys2Proof.Mirror Sys2Proof.FrontEnd
  Sys2Proof.Sequences Sys2Proof.Samples

/-! ## ADC_SEQ_COMMIT (R327) -/

/-- The answer to a request whose effect waits for an instant waits with it (R294, R327). -/
theorem serve_owes {ep st k : Nat} {r : Req} {s v : State} (hserves : Serves s ep r) (hgood : r.good = true)
    (hop : r.op ≠ 0x02#8) (hexec : xiExec ep r s = (st, [], v)) (hwait : waitsFor r st = some k) :
    serve ep r s = owe k ep (rspMsg r st []) (remember ep r (rspMsg r st []) v) := by
  obtain ⟨hdelivers, hboot, hopen, hrepeat⟩ := hserves
  simp [serve, hdelivers, hgood, hboot, hopen, hrepeat, hexec, hop, hwait]

/-- A request that waits for nothing is answered with its status, whatever its effect left. -/
theorem serve_responds {ep st : Nat} {r : Req} {s v : State} (hserves : Serves s ep r) (hgood : r.good = true)
    (hop : r.op ≠ 0x02#8) (hexec : xiExec ep r s = (st, [], v)) (hwait : waitsFor r st = none) :
    serve ep r s = respond ep (rspMsg r st []) (remember ep r (rspMsg r st []) v) := by
  obtain ⟨hdelivers, hboot, hopen, hrepeat⟩ := hserves
  simp [serve, hdelivers, hgood, hboot, hopen, hrepeat, hexec, hop, hwait]

theorem commit_writeOnly (n : Fin 4) : ∃ row, dictFind 0x4404 n = some row ∧ row.acc = .wo := by
  have h : ∀ n : Fin 4, (dictFind 0x4404 n).map (·.acc) = some .wo := by decide
  exact Option.map_eq_some_iff.mp (h n)

theorem waitsFor_commit (n : Fin 4) (tag : Byte) : waitsFor (wreq tag 0x4404 n [1]) 0 = some 1 := by
  simp [waitsFor, mkReq, ofLe]

/-- A valid staging copy waits for the sequence start. -/
theorem adcCommit_valid {n : Nat} {s : State} (h : seqValid (stagedSlots s n) = true) : adcCommit n s = rspOk
    (modAdc (fun a => { a with
      commit := bset a.commit n (stagedSlots s n, stagedSrc s n), refused := bset a.refused n false }) s) := by
  simp [adcCommit, seqCommit, h, rspOk]

theorem adcCommit_invalid {n : Nat} {s : State} (h : seqValid (stagedSlots s n) = false) :
    adcCommit n s = (4, [], modAdc (fun a => { a with refused := bset a.refused n true }) s) := by
  simp [adcCommit, seqCommit, h]

theorem exec_adcSeqCommit_keeps (t : Nat) (ep : Fin 10) (tag : BitVec 8) (n : Fin 4) (s : State)
    (h : Accepts s t ep tag 0x4404 n [1]) (hvalid : seqValid (stagedSlots s n) = true) :
    ∃ u, exec (.adcSeqCommit t ep tag n true) s = .next u ∧
      bget ([], []) u.adc.commit n = (stagedSlots s n, stagedSrc s n) ∧
      (1, ep.val, rspMsg (wreq tag 0x4404 n [1]) 0 []) ∈ u.xi.owed := by
  obtain ⟨hserves, hstatus⟩ := h
  obtain ⟨row, hrow, hwo⟩ := commit_writeOnly n
  set r := wreq tag 0x4404 n [1]
  have heffect : woWrite ep r.num r.sub r.val (s.start t) = rspOk _ := adcCommit_valid (s := s.start t) hvalid
  have hwrite := xiWrite_writeOnly (r := r) hstatus hrow hwo heffect
  have hserve := serve_owes hserves rfl (show 0x11#8 ≠ 0x02#8 by decide) hwrite (waitsFor_commit n tag)
  generalize hv : dictRecord _ _ _ _ = v at hserve
  have hadc : v.adc = { s.adc with
      commit := bset s.adc.commit n (stagedSlots s n, stagedSrc s n), refused := bset s.adc.refused n false } := by
    rw [← hv]
    exact dictRecord_only.same .adc (by decide)
  have hadc' : (remember ep r (rspMsg r 0 []) v).adc = v.adc := remember_only.same .adc (by decide)
  have he : exec (.adcSeqCommit t ep tag n true) s = done (serve ep r (s.start t)) := rfl
  rw [hserve] at he
  refine ⟨_, he, ?_, List.mem_concat_self⟩
  rw [settle_adc, show (owe 1 ep (rspMsg r 0 []) (remember ep r (rspMsg r 0 []) v)).adc = v.adc from hadc', hadc]
  exact bget_bset_self ..

theorem exec_adcSeqCommit_rejects (t : Nat) (ep : Fin 10) (tag : BitVec 8) (n : Fin 4) (s : State)
    (h : Accepts s t ep tag 0x4404 n [1]) (hinvalid : seqValid (stagedSlots s n) = false) :
    ∃ u, exec (.adcSeqCommit t ep tag n true) s = .next u ∧ u.adc.commit = s.adc.commit ∧
      bget false u.adc.refused n = true ∧
      Emits u (.xiest ep (rspMsg (wreq tag 0x4404 n [1]) 4 [])) := by
  obtain ⟨hserves, hstatus⟩ := h
  obtain ⟨row, hrow, hwo⟩ := commit_writeOnly n
  set r := wreq tag 0x4404 n [1]
  set v := modAdc (fun a => { a with refused := bset a.refused n true }) (s.start t)
  have heffect : woWrite ep r.num r.sub r.val (s.start t) = (4, [], v) := adcCommit_invalid (s := s.start t) hinvalid
  have hwrite : xiExec ep r (s.start t) = (4, [], v) := by
    have hst : writeStatus ep r.num r.sub r.val (s.start t) = 0 := hstatus
    have hfound : dictFind r.num r.sub = some row := hrow
    change xiWrite ep r (s.start t) = _
    simp only [xiWrite, hst, hfound, hwo, heffect]
    rfl
  have hserve := serve_responds hserves rfl (show 0x11#8 ≠ 0x02#8 by decide) hwrite (waitsFor_refused (by decide))
  have he : exec (.adcSeqCommit t ep tag n true) s = done (serve ep r (s.start t)) := rfl
  rw [hserve] at he
  have honly : Only [.eic, .pci, .xi, .slk, .out] v (respond ep (rspMsg r 4 []) (remember ep r (rspMsg r 4 []) v)) :=
    .step respond_only (by decide) (remember_only.mono (by decide))
  have hadc : (respond ep (rspMsg r 4 []) (remember ep r (rspMsg r 4 []) v)).adc = v.adc := honly.same .adc (by decide)
  refine ⟨_, he, ?_, ?_, respond_emits ..⟩
  · rw [settle_adc, hadc]; rfl
  · rw [settle_adc, hadc]; exact bget_bset_self ..

/-! ## Synchronising resets requested (R366) -/

theorem exec_fltSync_requests (t : Nat) (ep : Fin 10) (tag : BitVec 8) (s : State) (h : Accepts s t ep tag 0x480A 0 [1]) :
    ∃ u, exec (.fltSync t ep tag true) s = .next u ∧
      u.adc = { s.adc with syncReq := some (s.adc.syncReq.getD (instant s t)) } := by
  have he : exec (.fltSync t ep tag true) s = done (serveWrite ep tag 0x480A 0 [1] (s.start t)) := rfl
  obtain ⟨honly, -⟩ := serveWrite_writeOnly (v := syncRequest (s.start t)) h (by decide) rfl
    (waitsFor_wreq tag [1] (by decide) (by decide))
  exact ⟨_, he, honly.same .adc (by decide)⟩

theorem exec_syncEdge_requests (t : Nat) (rise : Bool) (s : State) (h : parN s 0x480B 0 = if rise then 1 else 2) :
    ∃ u, exec (.syncEdge t rise) s = .next u ∧
      u.adc = { s.adc with syncReq := some (s.adc.syncReq.getD (instant s t)) } := by
  have hmode : parN (s.start t) 0x480B 0 = if rise then 1 else 2 := h
  have he : exec (.syncEdge t rise) s = done (syncRequest (s.start t)) := by
    change execSyncEdge t rise s = _
    unfold execSyncEdge
    extract_lets s0 mode
    rw [show mode = _ from hmode]
    cases rise <;> rfl
  exact ⟨_, he, rfl⟩

/-! ## REFERENCE_BUFFER_CHECK (R335, R336) -/

/-- The reference buffer is checked at this instant. -/
abbrev CheckDue (s : State) (t : Nat) : Prop :=
  s.adc.refOn = true ∧ periodDue s.adc.refCheckAt (100 * usU) (instant s t) = true

/-- The reference as a check at this instant finds it. -/
def refChecked (s : State) : State := modAdc (fun a => { a with refCheckAt := some s.tb }) s

/-- The reference as a check out of bounds leaves it, its log entry aside. -/
def refBad (s : State) : State := modAdc (fun a => { a with
  refBadLog := true, refWaitGood := a.refWaitGood || a.refReady, refFrom := if a.refReady then none else a.refFrom }) s

/-- The reference as a check within 0.5 percent leaves it, before it may become ready. -/
def refGood (s : State) : State := modAdc (fun a => { a with
  refWaitGood := false, refBadLog := false, refFrom := if a.refWaitGood then some s.tb else a.refFrom }) s

theorem checkDue_go {s : State} {t : Nat} (h : CheckDue s t) :
    ¬ (!(s.start t).adc.refOn || !periodDue (s.start t).adc.refCheckAt (100 * usU) (s.start t).tb) = true := by
  obtain ⟨hon, hdue⟩ := h
  rw [start_adc, start_tb, hon, hdue]
  decide

theorem exec_referenceBufferCheck_bad (t uV : Nat) (s : State) (hon : s.adc.refOn = true)
    (hdue : periodDue s.adc.refCheckAt (100 * usU) (instant s t) = true)
    (hbad : 25000 < ((uV : Int) - 2500000).natAbs) :
    ∃ u, exec (.referenceBufferCheck t uV) s = .next u ∧ u.adc.refReady = false ∧
      u.adc.refBadLog = true ∧
      (s.adc.refBadLog = false → LogRoom s 1 → Logged s u 0x3901 noSrc 0) := by
  set v := refChecked (s.start t)
  set w := if v.adc.refBadLog then v else logNow 0x3901 noSrc 0 v
  have he : exec (.referenceBufferCheck t uV) s = done (refReadySet false (refBad w)) := by
    change execReferenceBufferCheck t uV s = _
    unfold execReferenceBufferCheck
    rw [if_neg (checkDue_go ⟨hon, hdue⟩)]
    exact if_pos hbad
  refine ⟨_, he, refReadySet_refReady .., refReadySet_refBadLog .., fun hfirst hroom => ?_⟩
  have hw : w = logNow 0x3901 noSrc 0 v := if_neg (by rw [show v.adc.refBadLog = false from hfirst]; decide)
  have hstaged : StagedUpTo 32 (refBad w) (refReadySet false (refBad w)) := refReadySet_stagedUpTo ..
  rw [hw] at hstaged ⊢
  exact logged_of_stagedUpTo (s := v) hroom hstaged

theorem exec_referenceBufferCheck_ready (t uV : Nat) (s : State) (a : Nat) (hon : s.adc.refOn = true)
    (hdue : periodDue s.adc.refCheckAt (100 * usU) (instant s t) = true)
    (hgood : ((uV : Int) - 2500000).natAbs ≤ 12500) (hwait : s.adc.refWaitGood = false)
    (hfrom : s.adc.refFrom = some a) (hage : a + 5 * msU ≤ instant s t) :
    ∃ u, exec (.referenceBufferCheck t uV) s = .next u ∧ u.adc.refReady = true := by
  set v := refGood (refChecked (s.start t))
  have hv : v.adc.refFrom = some a := by
    have hkeep : v.adc.refFrom = if s.adc.refWaitGood then some (instant s t) else s.adc.refFrom := rfl
    rw [hkeep, hwait, hfrom]; rfl
  have he : exec (.referenceBufferCheck t uV) s = done (refReadySet true v) := by
    change execReferenceBufferCheck t uV s = _
    unfold execReferenceBufferCheck
    rw [if_neg (checkDue_go ⟨hon, hdue⟩)]
    extract_lets s1 d w s2
    rw [if_neg (show ¬ 25000 < d by omega), if_pos hgood]
    split
    next f hf =>
      obtain rfl : a = f := Option.some.inj (hv.symm.trans hf)
      exact congrArg done (if_pos hage)
    next hnone => cases hnone.symm.trans hv
  exact ⟨_, he, refReadySet_refReady ..⟩

/-! ## Excitations (R339, R340, R346) -/

theorem excOf_excChange_keeps {α : Type} (g : ExcS → α) (hg : ∀ s x, g (excChanged s x) = g x) (n : Nat) (s : State)
    (k : Nat) : g (excOf (excChange n s) k) = g (excOf s k) := by
  have hexc := excChange_keeps (g := AdcS.exc) (fun _ _ => rfl) n s
  unfold excOf
  rw [hexc]
  by_cases hk : k = n
  · subst hk
    exact (congrArg g (bget_bmod_self ..)).trans (hg ..)
  · exact congrArg g (bget_bmod_ne _ _ _ hk)

/-- The fault bits of excitation n, by its mode (R340). -/
def excBits (s : State) (n : Nat) (limited lead compliance : Bool) : Nat :=
  if !(excOf s n).on then 0 else if parN s 0x4410 n = 1 then 2 * b2n limited + 4 * b2n lead else 8 * b2n compliance

/-- Excitation n with fault bits. -/
def excFaulted (n bits_ : Nat) (s : State) : State :=
  modAdc (fun a => { a with exc := bmod {} a.exc n fun x => { x with fault := bits_ } }) s

/-- The excitation with its fault bits, an excitation change where a fault state begins or ends. -/
def excSensed (n bits_ : Nat) (s : State) : State :=
  if (bits_ == 0) != ((excOf s n).fault == 0) then excChange n (excFaulted n bits_ s) else excFaulted n bits_ s

theorem exec_excitationFault (t : Nat) (n : Fin 8) (limited lead compliance : Bool) (s : State) :
    exec (.excitationFault t n limited lead compliance) s =
      done (if excBits s n limited lead compliance = (excOf s n).fault
        then excSensed n (excBits s n limited lead compliance) (s.start t)
        else measAll (excSensed n (excBits s n limited lead compliance) (s.start t))) := rfl

theorem excOf_excFaulted (n bits_ : Nat) (s : State) :
    excOf (excFaulted n bits_ s) n = { excOf s n with fault := bits_ } := by
  rw [excOf, excFaulted, modAdc_adc, bget_bmod_self]
  rfl

theorem excSensed_spec (n bits_ : Nat) (s : State) :
    (excOf (excSensed n bits_ s) n).fault = bits_ ∧ (excOf (excSensed n bits_ s) n).on = (excOf s n).on ∧
      (excSensed n bits_ s).dev = s.dev := by
  have hfaulted := excOf_excFaulted n bits_ s
  unfold excSensed
  split
  · have hfault := excOf_excChange_keeps ExcS.fault (fun _ _ => rfl) n (excFaulted n bits_ s) n
    have hon := excOf_excChange_keeps ExcS.on (fun _ _ => rfl) n (excFaulted n bits_ s) n
    rw [hfaulted] at hfault hon
    exact ⟨hfault, hon, excChange_only.same .dev (by decide)⟩
  · rw [hfaulted]
    exact ⟨rfl, rfl, rfl⟩

theorem exec_excitationFault_follows (t : Nat) (n : Fin 8) (limited lead compliance : Bool) (s : State) :
    ∃ u, exec (.excitationFault t n limited lead compliance) s = .next u ∧
      (excOf u n).fault = (if (excOf s n).on = false then 0
        else if parN s 0x4410 n = 1 then 2 * b2n limited + 4 * b2n lead else 8 * b2n compliance) ∧
      (excOf u n).on = (excOf s n).on ∧
      u.dev = s.dev := by
  obtain ⟨hfault, hon, hdev⟩ := excSensed_spec n (excBits s n limited lead compliance) (s.start t)
  have hbits : excBits s n limited lead compliance = if (excOf s n).on = false then 0
      else if parN s 0x4410 n = 1 then 2 * b2n limited + 4 * b2n lead else 8 * b2n compliance := by
    simp only [excBits, Bool.not_eq_true']
  have he := exec_excitationFault t n limited lead compliance s
  rw [← hbits]
  generalize excBits s n limited lead compliance = x at *
  generalize excSensed n x (s.start t) = v at *
  have hexc : (measAll v).adc.exc = v.adc.exc := measAll_keeps (g := AdcS.exc) (fun _ _ => rfl) v
  have hmeasDev : (measAll v).dev = v.dev := measAll_only.same .dev (by decide)
  refine ⟨_, he, ?_⟩
  rw [settle_dev, excOf, settle_adc]
  split
  · exact ⟨hfault, hon, hdev⟩
  · rw [hexc, hmeasDev]
    exact ⟨hfault, hon, hdev⟩

theorem exec_excSettleEnd_ends (t : Nat) (n : Fin 8) (s : State) (h : (excOf s n).settleEnd ≤ instant s t) :
    ∃ u, exec (.excSettleEnd t n) s = .next u ∧ (excOf u n).settling = false ∧
      (excOf u n).fault = (excOf s n).fault := by
  change ∃ u, execExcSettleEnd t n s = .next u ∧ _
  unfold execExcSettleEnd
  extract_lets s0
  cases hsettling : (excOf s n).settling with
  | false =>
    rw [if_neg (by rw [show (excOf s0 n).settling = false from hsettling, Bool.false_and]; decide)]
    exact ⟨_, rfl, hsettling, rfl⟩
  | true =>
    have hend : (excOf s0 n).settleEnd ≤ s0.tb := h
    rw [if_pos (by rw [show (excOf s0 n).settling = true from hsettling, decide_eq_true hend]; rfl)]
    refine ⟨_, rfl, ?_⟩
    rw [excOf, settle_adc]
    simp only [modAdc_adc, bget_bmod_self, true_and]
    rfl

/-! ## LOOP_READBACK_FAULT (R349, R353) -/

/-- Output n's readback tests are disabled: it is off in RUN (R353). -/
def loopOff (s : State) (n : Nat) : Bool := s.dev == .run && parN s 0x4430 n == 0

/-- Since when the readback uA of output n deviates. -/
def devSince (s : State) (n uA : Nat) : Option Nat :=
  let l : LoopS := bget {} s.adc.loops n
  sinceWhen l.devFrom s.tb (!loopOff s n && decide (200 < ((uA : Int) - l.uA).natAbs))

/-- Since when output n is open. -/
def openSince (s : State) (n uA : Nat) : Option Nat :=
  let l : LoopS := bget {} s.adc.loops n
  sinceWhen l.openFrom s.tb (!loopOff s n && decide (uA < 500) && decide (3600 ≤ l.uA))

/-- Output n as the readback uA leaves it. -/
def loopRead (s : State) (n uA : Nat) : LoopS :=
  { bget ({} : LoopS) s.adc.loops n with
    meas := uA, devFrom := devSince s n uA, openFrom := openSince s n uA
    dev := held10 (devSince s n uA) s.tb, openL := held10 (openSince s n uA) s.tb }

/-- The loops with output n read back. -/
def loopsRead (s : State) (n uA : Nat) : State := modAdc (fun a => { a with loops := bset a.loops n (loopRead s n uA) }) s

/-- An entry of output n's status where it changed. -/
def loopLogged (n : Nat) (changed : Bool) (st : Nat) (s : State) : State := if changed then logNow 0x1904 n st s else s

theorem exec_loopReadbackFault (t : Nat) (n : Fin 2) (uA : Nat) (s : State) :
    exec (.loopReadbackFault t n uA) s =
      done (loopLogged n ((loopRead (s.start t) n uA).openL != (bget ({} : LoopS) s.adc.loops n).openL)
        (loopStatus (loopsRead (s.start t) n uA) n)
        (loopLogged n ((loopRead (s.start t) n uA).dev != (bget ({} : LoopS) s.adc.loops n).dev)
          (loopStatus (loopsRead (s.start t) n uA) n) (loopsRead (s.start t) n uA))) := rfl

theorem loopStatus_of_adc {s u : State} (h : u.adc = s.adc) (n : Nat) : loopStatus u n = loopStatus s n := by
  unfold loopStatus; rw [h]

theorem loopLogged_adc (n : Nat) (changed : Bool) (st : Nat) (s : State) : (loopLogged n changed st s).adc = s.adc := by
  unfold loopLogged
  split
  · exact logNow_only.same .adc (by decide)
  · rfl

theorem loopLogged_stagedUpTo (n : Nat) (changed : Bool) (st : Nat) (s : State) :
    StagedUpTo 1 s (loopLogged n changed st s) := by
  unfold loopLogged
  split
  · exact logNow_stagedUpTo ..
  · exact .of_log 1 rfl

/-- A deviation that has lasted 10 ms is one (R353). -/
theorem loopRead_dev {s : State} {n uA a : Nat} (hoff : loopOff s n = false)
    (hdev : 200 < ((uA : Int) - (bget ({} : LoopS) s.adc.loops n).uA).natAbs)
    (hfrom : (bget ({} : LoopS) s.adc.loops n).devFrom = some a) (hage : a + 10 * msU ≤ s.tb) :
    (loopRead s n uA).dev = true := by
  have hsince : devSince s n uA = some a := by
    simp [devSince, sinceWhen, hoff, hdev, hfrom]
  rw [loopRead, hsince]
  exact decide_eq_true hage

theorem exec_loopReadbackFault_deviates (t : Nat) (n : Fin 2) (uA : Nat) (s : State) (a : Nat)
    (hon : s.dev ≠ .run ∨ parN s 0x4430 n ≠ 0)
    (hdev : 200 < ((uA : Int) - (bget ({} : LoopS) s.adc.loops n).uA).natAbs)
    (hfrom : (bget ({} : LoopS) s.adc.loops n).devFrom = some a) (hage : a + 10 * msU ≤ instant s t) :
    ∃ u, exec (.loopReadbackFault t n uA) s = .next u ∧ (bget ({} : LoopS) u.adc.loops n).dev = true ∧
      (bget ({} : LoopS) u.adc.loops n).meas = uA ∧
      ((bget ({} : LoopS) s.adc.loops n).dev = false → LogRoom s 1 → Logged s u 0x1904 n (loopStatus u n)) := by
  have hoff : loopOff (s.start t) n = false := by
    rcases hon with h | h
    · simp [loopOff, h]
    · have hpar : parN (s.start t) 0x4430 n ≠ 0 := h
      simp [loopOff, hpar]
  have hread : (loopRead (s.start t) n uA).dev = true := loopRead_dev (s := s.start t) hoff hdev hfrom hage
  have hloop : bget ({} : LoopS) (loopsRead (s.start t) n uA).adc.loops n = loopRead (s.start t) n uA := bget_bset_self ..
  have he := exec_loopReadbackFault t n uA s
  generalize ((loopRead (s.start t) n uA).openL != (bget ({} : LoopS) s.adc.loops n).openL) = opened at he
  rw [hread] at he
  set v := loopsRead (s.start t) n uA
  set st := loopStatus v n
  set w := loopLogged n (true != (bget ({} : LoopS) s.adc.loops n).dev) st v
  have hadc : (loopLogged n opened st w).adc = v.adc := (loopLogged_adc ..).trans (loopLogged_adc ..)
  refine ⟨_, he, ?_, ?_, fun hfirst hroom => ?_⟩
  · rw [settle_adc, hadc, hloop, hread]
  · rw [settle_adc, hadc, hloop]; rfl
  · have hw : w = logNow 0x1904 n st v := by
      rw [show w = loopLogged n _ st v from rfl, hfirst]; rfl
    have hstatus : loopStatus (settle (loopLogged n opened st w)) n = st := loopStatus_of_adc hadc n
    rw [hstatus]
    have hstaged : StagedUpTo 1 w (loopLogged n opened st w) := loopLogged_stagedUpTo ..
    rw [hw] at hstaged ⊢
    exact logged_of_stagedUpTo (s := v) hroom hstaged

/-! ## PENDING_TIMEOUT (R658) -/

/-- A measurement channel that is still pending is judged broken (R658). -/
def pendingEnd (s : State) (m : Nat) : State :=
  if (measOf s m).pending then measUpdate false (modMeas m (fun x => { x with late := true }) s) m else s

theorem measOf_pendingEnd_ne (s : State) {m i : Nat} (h : i ≠ m) : measOf (pendingEnd s m) i = measOf s i := by
  unfold pendingEnd
  split
  · exact (measOf_measUpdate_ne false _ h).trans (measOf_modMeas_ne _ s h)
  · rfl

theorem pendingEnd_broken {s : State} {m : Nat} (h : (measOf s m).pending = true) :
    (measOf (pendingEnd s m) m).broken = true := by
  unfold pendingEnd
  rw [if_pos h]
  exact measUpdate_late (by rw [measOf_modMeas])

theorem pendingEnd_runAt (s : State) (m : Nat) : (pendingEnd s m).adc.runAt = s.adc.runAt := by
  unfold pendingEnd
  split
  · exact measUpdate_keeps (g := AdcS.runAt) (fun _ _ => rfl) ..
  · rfl

theorem exec_pendingTimeout_breaks (t : Nat) (s : State) (r : Nat) (m : Fin 32) (hrun : s.adc.runAt = some r)
    (hage : r + 2 * secU ≤ instant s t) (hpending : (measOf s m).pending = true) :
    ∃ u, exec (.pendingTimeout t) s = .next u ∧ u.adc.runAt = none ∧ (measOf u m).broken = true := by
  set v := modAdc (fun a => { a with runAt := none }) (s.start t)
  have he : exec (.pendingTimeout t) s = done ((upto 32).foldl pendingEnd v) := by
    change execPendingTimeout t s = _
    unfold execPendingTimeout
    extract_lets s0
    split
    next hnone => cases hnone.symm.trans hrun
    next q hq =>
      obtain rfl : r = q := Option.some.inj (hrun.symm.trans hq)
      exact if_pos hage
  refine ⟨_, he, ?_, ?_⟩
  · rw [settle_adc]
    exact foldl_keeps (g := fun s => s.adc.runAt) pendingEnd_runAt _ v
  · have hbroken : (measOf ((upto 32).foldl pendingEnd v) m).broken = true :=
      foldl_establishes (Q := fun u => (measOf u m).pending = true) (P := fun u => (measOf u m).broken = true)
        (fun _ h => pendingEnd_broken h) (fun u k hk h => by rw [measOf_pendingEnd_ne u (Ne.symm hk)]; exact h)
        (fun u k hk h => by rw [measOf_pendingEnd_ne u (Ne.symm hk)]; exact h) List.nodup_range
        (List.mem_range.mpr m.isLt) hpending
    rw [measOf_of_meas (congrArg AdcS.meas (settle_adc _))]
    exact hbroken

/-- Settles O31: each clause is the lemma above about its command. -/
theorem convertersAndExcitation : Obligations.ConvertersAndExcitation :=
  ⟨exec_adcSequenceStart_restarts, exec_adcSequenceStart_answers, exec_adcSequenceStart_commits,
    exec_adcConversion_steps, exec_adcConversion_sends, exec_adcSeqCommit_keeps, exec_adcSeqCommit_rejects,
    exec_adcSampleWord_receives, exec_referenceBufferCheck_bad, exec_referenceBufferCheck_ready,
    exec_excitationFault_follows, exec_excSettleEnd_ends, exec_fltSync_requests, exec_syncEdge_requests,
    exec_loopReadbackFault_deviates, exec_pendingTimeout_breaks⟩

end Sys2Proof.Converters
end
